-- ==== Sys2Proof/Word.lean ====
section
/-! DEFINITION. The word types of the PF9612 (02_register_space.md R7, R8) and their plainest arithmetic. -/

namespace Sys2Proof

/-- One byte. -/
abbrev Byte := BitVec 8

/-- A 72-bit data word: a sample, a coefficient, an instruction or a bank word (00_scope.md R7, R8). -/
abbrev Word := BitVec 72

/-- A 160-bit accumulator (00_scope.md R8). -/
abbrev Acc := BitVec 160

/-- A register value (02_register_space.md R30). -/
abbrev Reg32 := BitVec 32

/-- The 48-bit sample index (00_scope.md R9). -/
abbrev Idx := BitVec 48

/-- Bits `[hi:lo]` of a natural number. -/
def bitsNat (v hi lo : Nat) : Nat := (v >>> lo) % 2 ^ (hi + 1 - lo)

/-- The value of a list of bytes, least significant byte first. -/
def leNat : List Byte → Nat
  | [] => 0
  | b :: bs => b.toNat + 256 * leNat bs

/-- The value of a list of bytes, most significant byte first. -/
def beNat (bs : List Byte) : Nat := leNat bs.reverse

/-- `n` bytes of `v`, least significant first. -/
def leBytes : Nat → Nat → List Byte
  | 0, _ => []
  | n + 1, v => BitVec.ofNat 8 v :: leBytes n (v / 256)

/-- `n` bytes of `v`, most significant first. -/
def beBytes (n v : Nat) : List Byte := (leBytes n v).reverse

end Sys2Proof
end

