-- ==== Sys2Proof/CmdTypes.lean ====
section
/-! DEFINITION. The types of the commands' operands. -/

namespace Sys2Proof

/-- A gain of the fabric that steps at zero crossings (06_strips_and_gain.md R124). -/
inductive GainKind where
  | trim | fader | edge
  deriving DecidableEq, Repr

/-- How far a management SPI READ frame got (02_register_space.md R44). -/
inductive ReadPhase where
  | beforeToken | partialStatus | full
  deriving DecidableEq, Repr

/-- The two move slots of a Chisel instruction (09_chisel_instructions.md R203). -/
inductive MoveSlot where
  | x | y
  deriving DecidableEq, Repr

/-- The data of a PTP Announce message (IEEE 1588-2019), by which masters are compared (13_network_and_tether.md R293). -/
structure PtpAnnounce where
  gm : BitVec 64
  prio1 : Byte
  cls : Byte
  acc : Byte
  var : BitVec 16
  prio2 : Byte
  steps : Nat
  deriving DecidableEq, Repr

/-- What a PTP message carries; times in ns. -/
inductive PtpBody where
  | announce (a : PtpAnnounce)
  | sync (twoStep : Bool) (origin : Int)
  | followUp (origin : Int)
  | delayReq
  | delayResp (received : Int)
  | pdelayReq
  | pdelayResp (twoStep : Bool) (received : Int)
  | pdelayFollowUp (sent : Int)
  | management
  deriving DecidableEq, Repr

/-- A PTP message as received: domain, sender, sequence number, correction in ns, reception timestamp in ns, and, for the
answer to a request, whether the request was this instance's. -/
structure PtpMsg where
  domain : Byte
  src : BitVec 64
  seq : BitVec 16
  corr : Int
  rx : Int
  mine : Bool
  body : PtpBody
  deriving DecidableEq, Repr

/-- The messages a PTP instance sends when an interval expires (R293). -/
inductive PtpKind where
  | announce | sync | followUp | delayReq | pdelayReq
  deriving DecidableEq, Repr

/-- An RTP packet over UDP and IPv4, its CSRC list and header extension skipped (R296). -/
structure RtpPacket where
  srcIp : BitVec 32
  dstIp : BitVec 32
  srcPort : BitVec 16
  dstPort : BitVec 16
  version : Nat
  padding : Bool
  pt : Nat
  seq : BitVec 16
  ts : BitVec 32
  payload : List Byte
  deriving DecidableEq, Repr

/-- What a diagnostic interval of a Mallet channel measured (14_mallet_amplifiers.md R332, R333): the mean of v / i in mΩ,
whether i never exceeded 1 % of IFS, and the other channels of the batch whose |v| exceeded XW_PCT % of TEST_V. -/
structure DiagMeas where
  r : Nat
  noCurrent : Bool
  watchers : List Nat
  deriving DecidableEq, Repr

/-- A 2048-byte record of the flash (15_timberyard_recorder.md R358): its header fields and the bytes from 32 on. `typ` 0 is
a pad codeword; a deleted library or archive chunk is `dead`. -/
structure Chunk where
  typ : Nat
  flags : Nat
  channel : Nat
  stream : Nat
  first : Nat
  time : Nat
  samples : Nat
  absent : Nat
  seq : Nat
  body : List Byte
  dead : Bool
  deriving DecidableEq, Repr

/-- A segment (R352): number, TYPE, class, its block on each channel, the 7 data pages of each closed stripe in ascending
channel, and the members programmed of the open one. -/
structure Segment where
  seq : Nat
  typ : Nat
  cls : Nat
  blocks : List Nat
  stripes : List (List (List Chunk))
  cur : List (Nat × List Chunk)
  closed : Bool
  /-- due for relocation (R353, R365) -/
  reloc : Bool
  /-- pages lost beyond rebuilding (R353): stripe and channel -/
  lost : List (Nat × Nat)
  deriving DecidableEq, Repr

/-- What the flash holds: VOL_ID, the next SEG_SEQ, the segments, erase and read counts of blocks (numbered channel × 2²⁴ +
block), free blocks, the spare pool, blocks that wait to be erased, pages per block, and whether a block was retired with its
channel's pool empty since FORMAT (18 R431). -/
structure Volume where
  id : BitVec 32
  next : Nat
  segs : List Segment
  erases : List (Nat × Nat)
  reads : List (Nat × Nat)
  free : List Nat
  spare : List Nat
  dirty : List Nat
  pages : Nat
  short : Bool
  deriving DecidableEq, Repr

/-- What the discovery of a flash channel finds (R347, R348): whether it is usable, slow, its timing mode, LUNs used and
refused, and good blocks. -/
structure DiscChan where
  up : Bool
  slow : Bool
  tmode : Nat
  luns : Nat
  refused : Nat
  good : Nat
  deriving DecidableEq, Repr

/-- What a mount finds (R356): the channels, pages per block, the time taken in ms, and the volume a flash new to this
machine holds. -/
structure DiscoveredVolume where
  chans : List DiscChan
  pages : Nat
  ms : Nat
  found : Option Volume
  deriving DecidableEq, Repr

/-- A flash operation that completes (R354): the next page of the open segment of a TYPE and class, or an erase. -/
inductive PageProgram where
  | page (typ cls : Nat) (parityFailed : Bool)
  | erase (block : Nat)
  deriving DecidableEq, Repr

/-- A page read that completes (R351): segment, stripe and channel, the raw bit errors of each codeword, and whether one
with more than 40 was corrected all the same. -/
structure PageRead where
  seq : Nat
  stripe : Nat
  ch : Nat
  errs : List Nat
  fixed : List Bool
  bad : List Nat
  deriving DecidableEq, Repr

/-- A TICK frame as received (16_belay_twin.md R403): the fields of its payload, its INDEX and ACK, and the local station
time of its receipt. `journal` is the number, J_FLIPPED and J_DONE of the oldest record not DONE. -/
structure TickRec where
  idx : Nat
  ack : Nat
  rx : Nat
  tickTime : Nat
  tx : Nat
  echo : Nat
  echoRx : Nat
  digest : BitVec 64
  mode : Nat
  lockstep : Bool
  actOut : Bool
  senior : Bool
  resigning : Bool
  everSynced : Bool
  lanes : Nat
  pairLanes : Nat
  actRise : Nat
  journal : Option (Nat × Nat × Nat)
  ref : Nat
  q : Nat
  deriving DecidableEq, Repr

/-- A JOIN_REQ (16_belay_twin.md R403). -/
structure JoinRec where
  stepping : Nat
  rate : Nat
  islands : BitVec 32
  banks : List Byte
  guard : Nat
  deriving DecidableEq, Repr

/-- What SELFTEST finds (19_power_reset_and_modes.md R442, R447, R450): the straps, whether BIST passes, and the bytes of the
copies that the QSPI source can read, in order. -/
structure ResetExit where
  senior : Bool
  bootSrc : BitVec 2
  bist : Bool
  copies : List (List Byte)
  deriving DecidableEq, Repr

end Sys2Proof
end

