-- ==== Sys2Proof/Machine/Maps.lean ====
section
/-! DEFINITION. Sparse maps in one canonical form: keys strictly rising, no entry equal to the value an unlisted key
reads as. Memory, register files and tables of the machine are held so, which makes equal contents equal data. -/

namespace Sys2Proof.Machine

/-- A sparse map: entries with rising keys. -/
abbrev SMap (α : Type) := List (Nat × α)

/-- The value at key `k`; `d` is what an unlisted key reads as. -/
def mget {α : Type} (d : α) : SMap α → Nat → α
  | [], _ => d
  | (j, v) :: m, k => if k = j then v else if k < j then d else mget d m k

/-- Remove key `k`. -/
def mdel {α : Type} : SMap α → Nat → SMap α
  | [], _ => []
  | (j, v) :: m, k => if k = j then m else if k < j then (j, v) :: m else (j, v) :: mdel m k

/-- Insert or replace the entry of key `k`. -/
def mins {α : Type} : SMap α → Nat → α → SMap α
  | [], k, v => [(k, v)]
  | (j, u) :: m, k, v =>
    if k = j then (k, v) :: m else if k < j then (k, v) :: (j, u) :: m else (j, u) :: mins m k v

/-- Write `v` at key `k`, keeping the canonical form for default `d`. The map is looked at before the value, so that a write to
a map that is a variable stays folded. -/
def mset {α : Type} [DecidableEq α] (d : α) (m : SMap α) (k : Nat) (v : α) : SMap α :=
  match m with
  | [] => if v = d then [] else [(k, v)]
  | c :: r => if v = d then mdel (c :: r) k else mins (c :: r) k v

/-- The optional value at key `k`. -/
def mfind {α : Type} : SMap α → Nat → Option α
  | [], _ => none
  | (j, v) :: m, k => if k = j then some v else if k < j then none else mfind m k

/-- Change the value at key `k` by `f`, keeping the canonical form for default `d`. -/
def mmod {α : Type} [DecidableEq α] (d : α) (m : SMap α) (k : Nat) (f : α → α) : SMap α :=
  mset d m k (f (mget d m k))

/-- Every entry whose key satisfies `p`. -/
def mkeep {α : Type} (p : Nat → Bool) (m : SMap α) : SMap α := m.filter fun e => p e.1

/-- Every key is above `lo` and keys rise. -/
def risingFrom {α : Type} : Option Nat → SMap α → Bool
  | _, [] => true
  | none, (j, _) :: m => risingFrom (some j) m
  | some l, (j, _) :: m => decide (l < j) && risingFrom (some j) m

/-- The canonical form for default `d`. -/
def mwf {α : Type} [DecidableEq α] (d : α) (m : SMap α) : Bool :=
  risingFrom none m && m.all fun e => decide (e.2 ≠ d)

/-- Insert into a list sorted by `key`, after equal keys. -/
def insertBy {α : Type} (key : α → Nat) (x : α) : List α → List α
  | [] => [x]
  | y :: ys => if key x < key y then x :: y :: ys else y :: insertBy key x ys

/-- Sort by `key`, stable. -/
def sortBy {α : Type} (key : α → Nat) (l : List α) : List α := l.foldl (fun acc x => insertBy key x acc) []

end Sys2Proof.Machine
end

