-- ==== Sys2Proof/Machine/Parts.lean ====
section
/-! DEFINITION. The parts of the state, block by block, as plain data: what a block holds beside registers and memory. -/

namespace Sys2Proof.Machine

open Sys2Proof

/-! ### Truss -/

/-- A sample of an index as the scheduler sees it: its value, none where tagged absent, and its arrival time in ns. -/
structure Arrival where
  v : Option Word
  t : Nat
  deriving DecidableEq, Repr

/-- A completed result: the value, the arrival time of its last contributing sample, later by the time spent in inserts, when
it was completed, and whether a narrowing of the strip saturated. -/
structure Done where
  v : Word
  ct : Option Nat
  time : Nat
  clip : Bool
  deriving DecidableEq, Repr

/-- The kinds of work item (05_truss_schedule.md R88): a batch is named by its FROM strip, class and the key of its first
edge. -/
inductive ItemKind where
  | strip (g : Nat)
  | head (g : Nat)
  | tail (g : Nat)
  | batch (src cls first : Nat)
  deriving DecidableEq, Repr

/-- A ready or issued item: its index, class, and when it became ready, in ns (R94). What it computes it computes when it
completes: an item that is abandoned or discarded has changed nothing (R95, R107). -/
structure Item where
  kind : ItemKind
  idx : Nat
  cls : Nat
  ready : Nat
  /-- the lane fault that TRS_FAULT_INFO holds discarded the item, and it is to be issued again (R107) -/
  reissued : Bool
  deriving DecidableEq, Repr

/-- A completed head item: its stage-3 result, when it was sent, and whether a narrowing saturated. -/
structure HeadDone where
  v : Word
  ct : Option Nat
  sent : Nat
  clip : Bool
  deriving DecidableEq, Repr

/-- A pending gain step (06 R124): the value still applied, the first sample tested and the forced sample. -/
structure GainStep where
  applied : Word
  start : Nat
  deadline : Nat
  deriving DecidableEq, Repr

/-- A strip changing over its delay or insert (R127): the old descriptor words 0 and 3, used in step 1; the sample at which
the fader stepped to 0; the end of the zero-fill, from step 2 on; whether a live write of the fader or mute has taken the
place of its steps; and whether the fill has ended, in step 4. -/
structure Changeover where
  old0 : Word
  old3 : Word
  down : Option Nat
  fillEnd : Option Nat
  wrote : Bool
  filled : Bool
  deriving DecidableEq, Repr

/-- One level of a bus arbiter (R130, R131). -/
structure ArbLevel where
  hold : Nat
  att : Nat
  gov : Nat
  active : Bool
  deriving DecidableEq, Repr

/-- A valid edge (04 R79). -/
structure Edge where
  e : Nat
  cls : Nat
  prio : Nat
  src : Nat
  dst : Nat
  deriving DecidableEq, Repr

/-- A running crossfade plan (05 R105): flip sample, window, law, the batches of strips and the batch that runs. -/
structure Xfade where
  flip : Nat
  win : Nat
  equalPower : Bool
  batches : List (List Nat)
  /-- strips of the batches whose chain crossfades (06 R121); the others only fade edges -/
  chains : List Nat
  /-- the edges that the commit added, and those it removed with the gain they had at the flip (06 R125, R128) -/
  added : List Edge
  removed : List (Edge × Word)
  cur : Nat
  deriving DecidableEq, Repr

/-- A source map changeover (07 R158): flip sample and the old source stream of the strip. -/
structure SrcRamp where
  flip : Nat
  old : Option Nat
  deriving DecidableEq, Repr

/-- A sink changeover (07 R159): flip sample and the old output strip of the sink. -/
structure SinkRamp where
  flip : Nat
  old : Option Nat
  deriving DecidableEq, Repr

/-- What the fabric runs with at an index beside table words: the live copy, pending gain steps, changeovers, strips that
stop, the crossfade plan, the ramps of the maps, and the shed states. -/
structure Settings where
  live : Nat
  steps : SMap GainStep
  chg : SMap Changeover
  stopping : List Nat
  xf : Option Xfade
  srcRamp : SMap SrcRamp
  sinkRamp : SMap SinkRamp
  shed : SMap Nat
  deriving DecidableEq, Repr

/-- The work of one open index (R92). -/
structure Tick where
  idx : Nat
  /-- arrivals of source streams 0 to 1535 and, at 1536 + g, insert returns -/
  arr : SMap Arrival
  /-- when the presence deadline passed: every other sample is absent (R93) -/
  dl : Option Nat
  /-- stage-3 results of completed head items, with the time they were sent -/
  heads : SMap HeadDone
  /-- outputs of strips whose strip or tail item has completed -/
  outs : SMap Done
  /-- keys of the edges that have deposited -/
  deposits : List Nat
  /-- items that have become ready -/
  begun : List ItemKind
  /-- live-written words: the value still in force for this index (04 R73) -/
  held : SMap Word
  /-- the gains of the outgoing edges of completed strips, by edge key -/
  gains : SMap Word
  /-- delayed samples, read at the tick (R91) -/
  dly : SMap Word
  /-- once the next index has opened (R95): the settings in force for this one -/
  late : Option Settings
  deriving DecidableEq, Repr

/-- A staged sink value (04 R83, 05 R95). -/
structure Staged where
  v : Word
  idx : Nat
  deriving DecidableEq, Repr

/-- Truss state that is neither a register nor a table word. -/
structure Truss where
  ticks : List Tick
  ready : List Item
  /-- items in flight, by 4 × lane + slot -/
  slots : SMap Item
  /-- addresses of live writes that come into force at the next index (04 R73) -/
  wrote : List Nat
  /-- the latest time a command has named, in ns -/
  now : Nat
  /-- the last two staged values of each sink stream: 2 × stream + the parity of the index -/
  staging : SMap Staged
  steps : SMap GainStep
  chg : SMap Changeover
  /-- strips that run on from the non-live copy until they stop (R128) -/
  stopping : List Nat
  prevIn : SMap Word
  prevDly : SMap Word
  prevOut : SMap Word
  arb : SMap ArbLevel
  xf : Option Xfade
  srcRamp : SMap SrcRamp
  sinkRamp : SMap SinkRamp
  shed : SMap Nat
  /-- the pair lane counts waiting to take effect, oldest first, each with its index -/
  laneChange : List (Nat × Nat)
  /-- the lane the joining spare is to stand for -/
  joinFor : Option Nat
  peerLanes : Nat
  /-- the copy a running check reads -/
  check : Option Nat
  checkWait : Bool
  /-- presence deadlines passed: the ABSENT count of a source is this plus its word in memory (R62) -/
  absBase : BitVec 32
  latWin : Nat
  /-- for every commit not yet done (06 R138 STEPS_DONE): its gain steps, changeovers and stopping strips still open -/
  stepsOpen : List (List Nat)
  /-- every item that the captured lane fault discarded and that has completed since did so in its tick (R107) -/
  inTick : Bool
  /-- the load of the index in progress, where its last crossfade batch ended before it did (R113) -/
  endLoad : Option Nat
  deriving DecidableEq, Repr

/-- Truss with nothing open. -/
def Truss.init : Truss :=
  ⟨[], [], [], [], 0, [], [], [], [], [], [], [], [], none, [], [], [], [], none, 16, none, false, 0, 0, [], true, none⟩

/-! ### Chisel -/

/-- A program selected for a logical core: the bank and the fields of its header (08_chisel_core.md R182), as the core
latches them when the selection takes effect (R183). -/
structure Selection where
  bank : Nat
  entry : Nat
  irqEntry : Nat
  ieInit : Bool
  length : Nat
  timer : Nat
  cls : Nat
  codeLen : Nat
  inputs : Nat
  outputs : Nat
  inserts : Nat
  /-- the visible bank of windows 0 and 1, where enabled -/
  win0 : Option Nat
  win1 : Option Nat
  deriving DecidableEq, Repr

/-- What a result in flight writes (R179): a D register, bits of an accumulator, the sum of an accumulation, a named
register (R206), the flags N, Z and V, SAT, BERR, all of ST but LA, or a word of memory. `hold` writes nothing: the named
register may not form addresses yet. -/
inductive Target where
  | d (n : Nat)
  | acc (n lo len : Nat)
  | sum (n : Nat)
  | ar (rn : Nat)
  | hold (rn : Nat)
  | nzv
  | sat
  | berr
  | st
  | mem (a : Nat)
  deriving DecidableEq, Repr

/-- A result in flight: the first instruction that may use it, the instruction that made it, its slot (0 arithmetic, 1 X,
2 Y: R202), and the value. -/
structure InFlight where
  due : Nat
  issue : Nat
  rank : Nat
  tgt : Target
  val : Acc
  deriving DecidableEq, Repr

/-- A bank-port access in flight (R178): when its result may be used, the D register of a read, its value, and whether it
met an error response. -/
structure PortAccess where
  due : Nat
  reg : Option Nat
  val : Word
  err : Bool
  deriving DecidableEq, Repr

/-- What a core runs. -/
inductive RunState where
  | idle | pass | boot
  deriving DecidableEq, Repr

/-- The registers that a migration copies (R195). Named registers are numbered as R206 numbers them. -/
structure CoreRegs where
  d : SMap Word
  acc : SMap Acc
  ar : SMap (BitVec 16)
  deriving DecidableEq, Repr

def CoreRegs.zero : CoreRegs := ⟨[], [], []⟩

/-- A physical core (08_chisel_core.md). -/
structure ChiselCore where
  r : CoreRegs
  /-- the registers as they stood at the last HALT (R195) -/
  atHalt : CoreRegs
  pc : Nat
  run : RunState
  /-- instructions issued -/
  t : Nat
  flight : List InFlight
  port : List PortAccess
  lastPort : Option Nat
  /-- the X and the Y slot of the instruction at PC have been performed -/
  xDone : Bool
  yDone : Bool
  /-- a taken branch: delay slots left, target, and whether it is an RTI (R180, R192) -/
  delay : Option (Nat × Nat × Bool)
  /-- the instruction at LEA has issued with LA = 1: LOOP_END comes next (R181) -/
  wrap : Bool
  /-- LC and LSA as that instruction's loop-end test sees them (R179) -/
  loop : Nat × Nat
  /-- counted cycles and handler cycles of the pass (R186, R192) -/
  cyc : Nat
  hcyc : Nat
  /-- instructions issued in each running interrupt handler, the innermost first (R190, R191) -/
  handler : List Nat
  first : Bool
  patched : Bool
  migrated : Bool
  /-- the next pass is the first on this physical core (R195) -/
  moved : Bool
  /-- the header the running pass uses -/
  hdr : Option Selection
  /-- logical core and index of the pass -/
  core : Nat
  idx : Nat
  /-- inputs and insert sends of the pass's index -/
  ins : SMap Word
  sends : SMap Word
  /-- writes to OUT_j and RET_ch held until HALT, by I/O word (R185) -/
  outs : SMap Word
  bell : Bool
  cmsg : Bool
  timer : Bool
  /-- TIMER has been requested in this pass -/
  timed : Bool
  /-- values written to CHS_DOORBELL whose pass has not started, oldest first, and the index at which each applies (R189) -/
  bellNext : List (Reg32 × Nat)
  msg : Reg32
  /-- a stopped pass left LC nonzero and no program has written it since (09, Undefined cases) -/
  lcStale : Bool
  /-- the reset program is being copied (R193) -/
  copying : Bool
  /-- the scrubber found an uncorrectable word: the cause of the fault taken at the end of the pass (R421) -/
  endFault : Option Nat
  /-- the pass is stopped after its first instruction (R198) -/
  stopInj : Bool
  deriving DecidableEq, Repr

/-- A core right after reset. -/
def ChiselCore.init : ChiselCore where
  r := .zero
  atHalt := .zero
  pc := 0
  run := .idle
  t := 0
  flight := []
  port := []
  lastPort := none
  xDone := false
  yDone := false
  delay := none
  wrap := false
  loop := (0, 0)
  cyc := 0
  hcyc := 0
  handler := []
  first := false
  patched := false
  migrated := false
  moved := false
  hdr := none
  core := 0
  idx := 0
  ins := []
  sends := []
  outs := []
  bell := false
  cmsg := false
  timer := false
  timed := false
  bellNext := []
  msg := 0
  lcStale := false
  copying := false
  endFault := none
  stopInj := false

/-- A PATCH word that waits for the first pass of its flip (07_cairn_scenes.md R160). -/
structure PatchWord where
  core : Nat
  addr : Nat
  word : Word
  flip : Nat
  deriving DecidableEq, Repr

/-- A migration in progress (R195): from and to physical cores, whether the peer is the source, and whether by injection. -/
structure Migration where
  src : Nat
  dst : Nat
  peer : Bool
  inj : Bool
  deriving DecidableEq, Repr

/-- A host write to Chisel memory that waits for the boundary between two passes (R188): its master, and the index its tag
names. -/
structure DeferredWrite where
  m : Nat
  phys : Nat
  addr : Nat
  data : List Byte
  idx : Nat
  deriving DecidableEq, Repr

/-- Chisel state that is neither a register nor a memory word. -/
structure Chisel where
  /-- selections in force, by logical core -/
  sel : SMap Selection
  /-- selections staged for the next flip: none deselects -/
  selNext : SMap (Option Selection)
  /-- the selection before the last flip, for passes of earlier indices: flip sample and selection -/
  selOld : SMap (Nat × Option Selection)
  /-- logical cores whose next pass is the first after a change of selection (R187) -/
  fresh : List Nat
  /-- the index of the next pass of each logical core -/
  next : SMap Nat
  cores : SMap ChiselCore
  patches : List PatchWord
  mig : SMap Migration
  deferred : List DeferredWrite
  /-- logical cores dark by R196 -/
  dark : List Nat
  /-- the declared inputs and sends of a pass that has not started, kept when its index ended: index, inputs, sends -/
  kept : SMap (Nat × SMap Word × SMap Word)
  deriving DecidableEq, Repr

/-- Chisel with nothing selected. -/
def Chisel.init : Chisel := ⟨[], [], [], [], [], [], [], [], [], [], []⟩

/-! ### Memory banks -/

/-- A corrected word that waits to be written back: its address, its value, and the bits in error as it stands stored. -/
structure WriteBack where
  addr : Nat
  word : Word
  flips : BitVec 80
  deriving DecidableEq, Repr

/-- Bank state that is no register. -/
structure Banks where
  /-- words whose corrected value waits to be written back (10_memory_banks.md R223) -/
  wb : List WriteBack
  /-- a region test in progress: physical bank and region (R226) -/
  test : Option (Nat × Nat)
  /-- the physical bank and the region whose test comes next (R226) -/
  pos : Nat × Nat
  /-- physical banks in use with a fault and no repair (R227) -/
  failing : List Nat
  /-- spares that have themselves been replaced (R228) -/
  failed : List Nat
  deriving DecidableEq, Repr

/-! ### Cairn -/

/-- A command taken from the ring or forwarded (07_cairn_scenes.md R147): its four words, whether it was placed in this
engine's own ring, and the index its Belay tag names. -/
structure Cmd where
  words : List Word
  own : Bool
  tag : Option Nat
  deriving DecidableEq, Repr

/-- A posted completion (R148): SEQ and the four words. -/
structure Cpl where
  seq : Nat
  words : List Word
  deriving DecidableEq, Repr

/-- A command that has started and not completed: its words, and how many duplicates wait for its completion (R149). -/
structure Started where
  cmd : Cmd
  dups : Nat
  deriving DecidableEq, Repr

/-- What a STAGE has built (R152). -/
structure StagePlan where
  /-- scene number and whether it was staged directly -/
  scene : Nat
  direct : Bool
  /-- involved units, bits of R141 -/
  units : Nat
  /-- staged copies of registers -/
  regs : SMap Reg32
  /-- words of the non-live copy that a record set (R153) -/
  set : List Nat
  patches : List PatchWord
  batches : List (List Nat)
  /-- the digest of R154 -/
  digest : BitVec 64
  seq : Nat
  code : Nat
  deriving DecidableEq, Repr

/-- An armed or flipped commit (R155, R156): its SEQ, journal number, flip sample, window and law. -/
structure Commit where
  seq : Nat
  jnl : Nat
  flip : Nat
  win : Nat
  equalPower : Bool
  deriving DecidableEq, Repr

/-- Cairn state that is neither a register nor a mailbox word. -/
structure Cairn where
  /-- CMD_PROD as last read -/
  prod : Nat
  queue : List Cmd
  /-- the command that executes -/
  cur : Option Cmd
  /-- the command at the front waits for room in the completion ring (R146) -/
  waiting : Bool
  window : List Cpl
  /-- commands that run while later ones start: COMMIT, SWAP, SWEEP, EXPORT, JOIN -/
  started : List Started
  plan : Option StagePlan
  commit : Option Commit
  /-- a STAGE whose own result is OK waits for the peer's digest (R154) -/
  waitDigest : Bool
  /-- a stage digest that the peer sent: SEQ, code, digest -/
  peerDigest : Option (Nat × Nat × BitVec 64)
  /-- live writes of staged registers performed in this index: they take effect with the next (R73, R140) -/
  live : SMap Reg32
  deriving DecidableEq, Repr

def Cairn.init : Cairn := ⟨0, [], none, false, [], [], none, none, false, none, []⟩

/-- An access that waits: a write that the active engine of a pair has accepted and forwarded, and performs at the start of
the tick its tag names (16_belay_twin.md R381); a fence behind such a write, and what waits behind the fence (02 R37); and a
read behind a write to its target (02 R36): of a register, or a management SPI READ of `n` bytes and whether its status byte
was sent. -/
inductive Forwarded where
  | reg (m off : Nat) (v : Reg32)
  | bytes (m addr : Nat) (data : List Byte)
  | readReg (m off : Nat)
  | readSpi (addr n : Nat) (full : Bool)
  deriving DecidableEq, Repr
/-! ### Ports -/

/-- The registers that the frames of a TDM side follow (11_audio_ports.md R238 to R245): PRT_FMT, PRT_RX_CLK or PRT_TX_CLK,
PRT_SLOT_EN and the group's PRT_GRP_CTRL. -/
structure SideRegs where
  fmt : Reg32
  clk : Reg32
  slotEn : Reg32
  grp : Reg32
  deriving DecidableEq, Repr

/-- The clocks that a MASTER side drives on the pins of a port (11_audio_ports.md R237 to R242): the bit clock in Hz, bit periods
in a frame, the active level of FS and for how many bit periods it is active, whether FS and DOUT change on the rising edge of
BCLK, and where in the tick, in 1/1024 of a frame, the frame begins. -/
structure TdmClock where
  bclk : Nat
  frame : Nat
  fsHigh : Bool
  fsLen : Nat
  rising : Bool
  phase : Nat
  deriving DecidableEq, Repr

/-- A TDM or AES3 side, numbered 2 × port + (0 receive, 1 transmit), and from 64 on 64 + 2 × i + the same for AES3
(11_audio_ports.md R244, R246): codes by slot. -/
structure PortSide where
  /-- the frame in progress: slots received, or taken for transmission -/
  part : SMap Reg32
  /-- complete frames held, oldest first -/
  buf : List (SMap Reg32)
  /-- releases or sends wait until the fill reaches its target -/
  waiting : Bool
  /-- a frame has reached the sub-rate filter since the side entered RUNNING -/
  fed : Bool
  /-- the side starts again once it has stopped (R250) -/
  restart : Bool
  /-- the next release or send is treated as an underrun (R257, R259) -/
  slipInj : Bool
  /-- the last release gave no frame (R244) -/
  starved : Bool
  /-- enabled as a master, it enters LEAD at the next tick; disabled while RUNNING, it enters TRAIL at its next frame start
  (R247) -/
  starting : Bool
  leaving : Bool
  /-- the slot of the frame in progress that came last -/
  last : Option Nat
  /-- a transmit side met an FS edge out of place (R249): whether the frame that the edge begins is in progress -/
  broken : Option Bool
  /-- settings from before a commit that its frames still follow (R250) -/
  old : Option SideRegs
  deriving DecidableEq, Repr

def PortSide.init : PortSide := ⟨[], [], false, false, false, false, false, false, false, none, none, none⟩

/-- The block an AES3 receiver collects (R254): frames since the Z preamble and the C and U bits of A and B. -/
structure AesBlock where
  n : Nat
  cA : Nat
  cB : Nat
  uA : Nat
  uB : Nat
  deriving DecidableEq, Repr

/-- An AES3 receiver: consecutive good and bad frames (R253), the block in progress, and AES_CTRL from before a commit, for the
frame that it is receiving (R250). -/
structure AesRx where
  good : Nat
  bad : Nat
  blk : Option AesBlock
  old : Option Reg32
  deriving DecidableEq, Repr

/-- An AES3 transmitter (R255): the frame's place in its block, the loaded channel status and user bits of A and B, and the
samples taken for the next frame, each with whether the take was of 0 under R95. -/
structure AesTx where
  pos : Nat
  csA : Nat
  csB : Nat
  usA : Nat
  usB : Nat
  a : Word × Bool
  b : Word × Bool
  deriving DecidableEq, Repr

/-- Port state that is no register. -/
structure Ports where
  side : SMap PortSide
  /-- samples completed at or after D_n, by source stream, held for the next index (R242) -/
  held : SMap Word
  rx : SMap AesRx
  tx : SMap AesTx
  /-- sides and AES3 block loads that unit 1 of the running commit still waits for (R250) -/
  jSides : List Nat
  jLoads : List Nat
  /-- the code last sent in each slot, by sink stream (16_belay_twin.md R393) -/
  sent : SMap Nat
  /-- the integral of the fill error of each steered group, in 1/256 frame (R245) -/
  steer : SMap Int
  deriving DecidableEq, Repr

def Ports.init : Ports := ⟨[], [], [], [], [], [], [], []⟩

/-! ### Plumb -/

/-- Plumb state that is no register (12_plumb_clock_and_time.md). -/
structure Plumb where
  /-- the engine runs at 96 kHz -/
  fast : Bool
  /-- station time latched at the tick in progress (R273) -/
  tickTime : Nat
  /-- station time of the tick before -/
  prevTime : Nat
  /-- the latched tick and PLB_TIME_HI are held by a read (R273) -/
  tickHeld : Bool
  timeHeld : Bool
  /-- the control value held, opened or last seen, units of 2⁻³⁶ (R267, R269) -/
  cv : Int
  /-- `cv` is the control value of this moment while the loop follows a reference (log entry 2) -/
  cvNow : Bool
  /-- the last 1-second averages, newest first (R267) -/
  history : List Int
  /-- time-clock cycles since the present holdover began, or in the last one (R268) -/
  holdCycles : Nat
  /-- OUT_OF_SPEC was injected (R279) -/
  specInj : Bool
  /-- targets of the compare units (R274) -/
  target : SMap Nat
  /-- units that fired unquantised and whose consumers act at the next tick (R274) -/
  firedNext : List Nat
  /-- pulses running on each TIME_OUT pin (R276) -/
  pulses : SMap Nat
  deriving DecidableEq, Repr

def Plumb.init : Plumb := ⟨false, 0, 0, false, false, 0, false, [], 0, false, [], [], []⟩

/-! ### Network (13_network_and_tether.md) -/

/-- An open receive stream (R298, R299). -/
structure RxStream where
  /-- the four descriptor words (R301) -/
  desc : List Word
  /-- last sequence number and station time of a valid packet, of paths A and B -/
  seqA : Option Nat
  seqB : Option Nat
  timeA : Option Nat
  timeB : Option Nat
  /-- samples that wait for their tick: media clock value and one word per channel -/
  due : List (Nat × List Word)
  /-- media clock values already filled by a copy -/
  filled : List Nat
  /-- at 96 kHz, the last tick with an integer media clock had its sample -/
  last : Bool
  deriving DecidableEq, Repr

/-- An open transmit stream, or one that still sends what was taken before its close (R300, R304). -/
structure TxStream where
  desc : List Word
  /-- the next packet starts at or after this media clock value -/
  next : Nat
  seq : Nat
  /-- media clock value after the index of the close -/
  close : Option Nat
  deriving DecidableEq, Repr

/-- A foreign master of a PTP instance: its last Announce, and whether a second one has qualified it. -/
structure ForeignMaster where
  ann : PtpAnnounce
  src : BitVec 64
  qualified : Bool
  deriving DecidableEq, Repr

/-- A PTP instance (R293): the foreign masters, the master followed, and the timestamps of the message exchanges, in ns. -/
structure PtpInst where
  foreign : List ForeignMaster
  parent : Option ForeignMaster
  /-- a two-step Sync that waits for its Follow_Up: sequence number, reception, correction -/
  sync : Option (Nat × Int × Int)
  /-- the last complete Sync: master's time, reception less corrections -/
  t12 : Option (Int × Int)
  /-- the outstanding delay request: sequence number and departure -/
  req : Option (Nat × Int)
  /-- the answer to a peer delay request that waits for its follow-up: sequence number, t2, t4, corrections -/
  resp : Option (Nat × Int × Int × Int)
  /-- t3 and t4 of the peer delay exchange before (neighbour rate ratio) -/
  ratio : Option (Int × Int)
  delay : Option Int
  /-- sequence numbers sent: Announce, Sync, delay request -/
  seqAnn : Nat
  seqSync : Nat
  seqReq : Nat
  /-- departure of the last two-step Sync -/
  sentSync : Int
  deriving DecidableEq, Repr

def PtpInst.init : PtpInst := ⟨[], none, none, none, none, none, none, none, 0, 0, 0, 0⟩

/-- A Tether station (R309, R310). -/
structure Station where
  /-- a valid IN has come in this cycle -/
  gotIn : Bool
  /-- valid INs in consecutive cycles -/
  run : Nat
  /-- cycles begun since the station became LOST -/
  lost : Nat
  /-- W_k of this cycle has passed -/
  wrote : Bool
  /-- the OUT of this cycle, while no ACK has come -/
  out : Option (List Byte)
  /-- it has been sent again -/
  resent : Bool
  deriving DecidableEq, Repr

def Station.init : Station := ⟨false, 0, 0, false, none, false⟩

/-- A station of a running sweep (R316): the step sent or next to send, whether it has been sent, write points since, and
the lines not yet finished. -/
structure SweepStation where
  st : Nat
  step : Nat
  sent : Bool
  wait : Nat
  lines : Nat
  deriving DecidableEq, Repr

/-- A running sweep (R314 to R316). -/
structure SweepRun where
  cmd : Cmd
  steps : Nat
  lines : Nat
  level : Nat
  stepWait : Nat
  freqs : List Nat
  addr : Nat
  left : List SweepStation
  /-- stations with a NOT_MEASURED line, and with a FAULT line -/
  missed : List Nat
  faulty : List Nat
  deriving DecidableEq, Repr

/-- Network state that is no register. -/
structure Net where
  /-- ARP cache (R290), oldest first: address, MAC, port -/
  arp : List (Nat × Nat × Nat)
  rx : SMap RxStream
  tx : SMap TxStream
  closing : SMap TxStream
  /-- words taken from sinks 544 on: sink × 2³² + media clock value -/
  taken : SMap Word
  ptp : SMap PtpInst
  /-- SSM code of the last PDU of each port (R295) -/
  ssm : SMap Nat
  /-- Tether: cycles run, the station time of the last firing, and the settings in effect since the last C_k (R305, R313) -/
  running : Bool
  lastFire : Option Nat
  ctrl : Reg32
  times : Reg32
  base : Reg32
  station : SMap Station
  sweep : Option SweepRun
  /-- the running commit waits for the next C_k (R313) -/
  jTether : Bool
  deriving DecidableEq, Repr

def Net.init : Net := ⟨[], [], [], [], [], [], [], false, none, 0x0003BA5E, 0x00C80064, 0, [], none, false⟩

/-! ### Mallet -/

/-- A channel's run of the diagnostics (14_mallet_amplifiers.md R332, R333, R336): its batch, the state it returns to where
DIAG_CMD.START selected it, whether it is a retry, the test and the pulse or interval within it, and how it stands. -/
structure DiagRun where
  batch : Nat
  back : Option Nat
  retry : Bool
  test : Nat
  sub : Nat
  failed : Bool
  done : Bool
  deriving DecidableEq, Repr

/-- An amplifier channel (14_mallet_amplifiers.md R326 to R342). -/
structure MltChan where
  /-- the enable as last acted on, and whether the channel has left OFF and not yet entered RUN -/
  en : Bool
  cold : Bool
  /-- the index at which it entered ARMED; it enters RUN at the next tick (R336) -/
  armed : Nat
  goRun : Bool
  /-- the ramp in 1/256, the loop's integrator, the duties of the last two updates and the duty applied -/
  ramp : Nat
  istate : Word
  duty : Word
  prev : Word
  applied : Word
  /-- carrier turns since the last loop update, and whether the next one is a valley -/
  turns : Nat
  valley : Bool
  /-- MLT_PWM in force (R329, R343) -/
  pwm : Reg32
  /-- the leg is limited until the next turn; this carrier period and this tick had a limited cycle (R334) -/
  limNow : Bool
  limPeriod : Bool
  limTick : Bool
  ocRun : Nat
  /-- the last 94 bits of SV and SI, newest first, and whether each bitstream is lost (R326) -/
  sv : List Bool
  si : List Bool
  lostV : Bool
  lostI : Bool
  /-- sense clocks for which an injection still treats both as lost (R346) -/
  lossInj : Nat
  /-- calibrated offsets (18 R422) -/
  offV : Int
  offI : Int
  /-- it shut down since the last loop update (R337) -/
  shutNow : Bool
  /-- the retry wait runs (R336) -/
  waiting : Bool
  diag : Option DiagRun
  /-- the thermal model: temperature rises in 2⁻⁶³ K and the attenuation in 1/960000 dB (R339, R340) -/
  dtc : Int
  dtm : Int
  att : Nat
  /-- the point of a running sweep (R341) -/
  sweep : Option Nat
  /-- the drive sample taken last, and the current sense sample of the tick -/
  drive : Word
  iNow : Option Word
  deriving DecidableEq, Repr

def MltChan.init : MltChan where
  en := false
  cold := false
  armed := 0
  goRun := false
  ramp := 0
  istate := 0
  duty := 0
  prev := 0
  applied := 0
  turns := 0
  valley := true
  pwm := 0
  limNow := false
  limPeriod := false
  limTick := false
  ocRun := 0
  sv := []
  si := []
  lostV := true
  lostI := true
  lossInj := 0
  offV := 0
  offI := 0
  shutNow := false
  waiting := false
  diag := none
  dtc := 0
  dtm := 0
  att := 0
  sweep := none
  drive := 0
  iNow := none

/-- Mallet state that is no register. -/
structure Mallet where
  chan : SMap MltChan
  /-- channels whose enable the running commit changed and that unit 3 waits for (R343) -/
  jEn : List Nat
  deriving DecidableEq, Repr

def Mallet.init : Mallet := ⟨[], []⟩

/-! ### Timberyard -/

/-- The open chunk of a recorder channel (15_timberyard_recorder.md R358): the channel's setting, first index and time, and
its samples, newest first. -/
structure OpenChunk where
  set : Reg32
  first : Nat
  time : Nat
  samples : List Nat
  deriving DecidableEq, Repr

/-- A recorder channel: its open chunk, and the chunks closed since it was enabled. -/
structure RecChan where
  cur : Option OpenChunk
  seq : Nat
  deriving DecidableEq, Repr

/-- An item a playback stream plays (R361): item, start index and repeats. -/
structure Playing where
  item : Nat
  start : Nat
  rep : Nat
  deriving DecidableEq, Repr

/-- A playback stream: what it is armed with (no start index while it waits for a compare unit) and what it plays. -/
structure Playback where
  armed : Option (Nat × Option Nat)
  play : Option Playing
  deriving DecidableEq, Repr

/-- A running export (R363): its command and the fields of its descriptor. -/
structure ExportRun where
  cmd : Cmd
  start : Nat
  stop : Nat
  addr : Nat
  cls : Nat
  kind : Nat
  size : Nat
  mask : Nat
  /-- blocks of relocated segments, kept until the export ends (R366) -/
  held : List Nat
  deriving DecidableEq, Repr

/-- Timberyard state that is no register. -/
structure Tyd where
  vol : Option Volume
  chans : SMap RecChan
  /-- closed chunks that wait to be programmed, oldest first (R360) -/
  buf : List Chunk
  pb : SMap Playback
  exp : Option ExportRun
  /-- station time of the last checkpoint -/
  ckpt : Nat
  /-- the recorder takes no samples until reset: the freeze of Descent step 1 (R355) -/
  frozen : Bool
  deriving DecidableEq, Repr

def Tyd.init : Tyd := ⟨none, [], [], [], none, 0, false⟩

/-! ### Belay -/

/-- A frame kept for replay (16_belay_twin.md R404): FSEQ, type, index and payload, and the lane it last went on. -/
structure SentFrame where
  fseq : Nat
  kind : Nat
  idx : Nat
  body : List Byte
  lane : Nat
  deriving DecidableEq, Repr

/-- Belay state that is no register (16_belay_twin.md). -/
structure Belay where
  /-- the output hold is in force (R393) -/
  hold : Bool
  /-- a join has started and has neither completed nor been refused -/
  joining : Bool
  /-- this engine resynchronises its peer: it is the active side of a join (R398) -/
  serving : Bool
  /-- FSEQ of the next frame, frames dealt to lanes, frames received, and the replay buffer (R401, R402, R404) -/
  fseq : Nat
  dealt : Nat
  got : Nat
  replay : List SentFrame
  /-- own digests by index (R386) -/
  digests : SMap (BitVec 64)
  /-- TX_TIME of the last TICK received and the local time of its receipt (R403) -/
  rxTick : Nat × Nat
  /-- the active's decisions of presence, by index × 8192 + point (R382) -/
  decided : SMap Bool
  /-- samples this standby holds that await the active's decision, by the same key: value and arrival time -/
  own : SMap (Word × Nat)
  /-- the tag last given to an accepted write or command (R381) -/
  lastTag : Nat
  /-- indices whose FINAL presence frame has come, and those this engine has fallen back on (R382, R384) -/
  finals : List Nat
  fell : List Nat
  /-- sample values of the last 4 indices, by the same key (R383) -/
  store : SMap Word
  /-- HB_OUT level, whether an index has opened since its last toggle, and whether a resignation holds it (R388, R392) -/
  hb : Bool
  hbOpened : Bool
  hbStatic : Bool
  /-- µs for which an injection still treats the pin path as silent (R408) -/
  pinInj : Nat
  /-- the swap index of a swap under way, and whether a command asked for it (R394, R396) -/
  swap : Option (Nat × Bool)
  /-- the index at which lockstep last began, for TICK frames sent before it -/
  since : Nat
  /-- during a catch-up: the index in progress at this engine's Plumb, and the index at which the join completes (R399) -/
  real : Nat
  n1 : Option Nat
  /-- the start index agreed with JOIN_ACK, until it is reached (R398) -/
  n0 : Option Nat
  /-- index of the last rise of ACT_OUT (R403) -/
  actRise : Nat
  /-- decisions that wait for their index (R385): index, unit, item, data -/
  decisions : List (Nat × Nat × Nat × Nat)
  /-- ticks in a row, up to 2, that abandoned a class-0 item (R392, cause 1) -/
  abandoned : Nat
  /-- as the senior it kept the field in a simultaneous claim and has not yet raised ACT_OUT again (R379) -/
  contest : Bool
  deriving DecidableEq, Repr

def Belay.init : Belay where
  hold := false
  joining := false
  serving := false
  fseq := 0
  dealt := 0
  got := 0
  replay := []
  digests := []
  rxTick := (0, 0)
  decided := []
  own := []
  lastTag := 0
  finals := []
  fell := []
  store := []
  hb := false
  hbOpened := false
  hbStatic := false
  pinInj := 0
  swap := none
  since := 0
  real := 0
  n1 := none
  n0 := none
  actRise := 0
  decisions := []
  abandoned := 0
  contest := false

/-! ### Background services -/

/-- Services state that is no register (18_background_and_spares.md). -/
structure Services where
  /-- the totals since the last cold reset that R427 reports apart from the RC registers: 0 overruns, 1 error responses,
  2 corrected and 3 uncorrectable reads, 4 passes stopped, 5 passes skipped, 6 class-0 absences, 7 fallbacks, 8 chunks
  dropped -/
  tot : SMap Nat
  /-- telemetry records since TEL_CTRL.EN became 1 (R427) -/
  rseq : Nat
  /-- islands, bit by bit, whose TEMP_WARN and TEMP_CRIT are not yet armed again, and whose AGE_WARN has been raised (R424) -/
  warm : Nat
  hot : Nat
  aged : Nat
  /-- station time at which the scrub round of the banks and Chisel memories, and of Truss, began -/
  bankFrom : Nat
  trussFrom : Nat
  deriving DecidableEq, Repr

def Services.init : Services := ⟨[], 0, 0, 0, 0, 0, 0⟩

/-! ### What a resynchronisation copies (16_belay_twin.md R398, R399) -/

/-- State of units that SNAP frames of region 4 carry, in the engine's own encoding; a unit that a frame does not hold is
`none`. The Chisel cores stand by logical core. -/
structure UnitSnap where
  trs : Option Truss
  chs : Option Chisel
  crn : Option Cairn
  prt : Option Ports
  net : Option Net
  pb : Option (SMap Playback)
  mlt : Option Mallet
  deriving DecidableEq, Repr

end Sys2Proof.Machine
end

