-- ==== Sys2Proof/Syntax.lean ====
section
/-! DEFINITION. The commands of the PF9612: one constructor for each row of the table of operations and events
(95_what_each_step_holds.md). Operands: `m` is the bus master that writes (02_register_space.md R40), `v` the value
written; what the row's own register gives (key, field) is inside `v`. The rows without operands stand last. -/

namespace Sys2Proof

/-- The commands. -/
inductive Instr where
  /-- SAMPLE_TICK (R92): Plumb issues the sample tick, the sample index advances by 1 and the scheduler opens index n. -/
  | sampleTick (cycles : Nat)
  /-- SAMPLE_PRESENT (R92): A producer delivers a present sample of a source stream or insert return for the current index. -/
  | samplePresent (point : Fin 5120) (v : Word) (idx : Idx) (t : Nat)
  /-- PRESENCE_DEADLINE (R93): At D_n every source sample and insert return of index n not yet present is tagged absent and concealed. -/
  | presenceDeadline (t : Nat)
  /-- ITEM_ISSUE (R94): A ready strip, head, tail or edge-batch item is issued to a free lane slot and processed. -/
  | itemIssue (lane : Fin 17) (slot : Fin 4)
  /-- ITEM_COMPLETE (R92): A work item completes, deposits its results and makes dependent items ready. -/
  | itemComplete (lane : Fin 17) (slot : Fin 4) (t : Nat)
  /-- CONSUMER_TAKE (R95): A consumer takes its sink staging register at its take point, taking 0 if unstaged. -/
  | consumerTake (sink : Fin 1536) (n : Idx)
  /-- DUCK_HOLD_EXPIRE (R130): A level's hold count reaches 0 and the level becomes inactive. -/
  | duckHoldExpire (bus : Fin 512) (level : Fin 8)
  /-- ZC_FORCED (R124): A pending gain step reaches its timeout without a crossing and is forced. -/
  | zcForced (kind : GainKind) (index : Nat)
  /-- CHANGEOVER_SWITCH (R127): At sample M the new delay and insert values of a changing strip take effect. -/
  | changeoverSwitch (strip : Fin 3584)
  /-- DELAY_FILL_END (R127): The zero-fill of a changed delay ends and the fader steps to its new value. -/
  | delayFillEnd (strip : Fin 3584)
  /-- STRIP_STOP (R128): A disabled strip stops once its outgoing edges have faded and its fader has stepped to 0. -/
  | stripStop (strip : Fin 3584)
  /-- SOURCE_RAMP_END (R158): The 32-sample source map changeover ends and the new entry applies alone. -/
  | sourceRampEnd (strip : Fin 1536)
  /-- SINK_RAMP_END (R159): The 32-sample sink changeover ends and the new value is staged exactly. -/
  | sinkRampEnd (sink : Fin 1536)
  /-- LANE_FAULT (R107): A lane's residue check fails, the lane is retired and its items are reissued. -/
  | laneFault (lane : Fin 17)
  /-- REG_WRITE (R6): A write to a register or field without behaviour of its own sets its value. -/
  | regWrite (m : Nat) (off : BitVec 24) (v : Reg32)
  /-- RC_READ (R6): A read of an RC register returns its value and clears it. -/
  | rcRead (m : Nat) (off : BitVec 24)
  /-- WORD_WRITE (R7): A host or master write to a word slot updates the word, atomically when it covers bytes 0 to 8. -/
  | wordWrite (m : Nat) (addr : Nat) (data : List Byte) (collide : Option Nat) (wait : Nat)
  /-- TRUSS_LIVE_WRITE (R73): A write to a Truss table word is applied to the copy it names, live or not. -/
  | trussLiveWrite (m : Nat) (addr : Nat) (data : List Byte)
  /-- ALIAS_SET_WRITE (R39): A write to the set alias ORs the pattern into the bank word atomically. -/
  | aliasSetWrite (m : Nat) (addr : Nat) (data : List Byte)
  /-- ALIAS_CLEAR_WRITE (R39): A write to the clear alias clears the pattern's bits in the bank word atomically. -/
  | aliasClearWrite (m : Nat) (addr : Nat) (data : List Byte)
  /-- ECC_WRITEBACK (R223): A bank writes back a corrected word in its next free cycle. -/
  | eccWriteback (addr : Nat)
  /-- PG_FENCE (R37): A write to PG_FENCE orders all earlier writes of the master before later ones and counts up. -/
  | pgFence (m : Nat) (page : Fin 4096) (v : Reg32)
  /-- PG_INJ (R33): A write of PG_INJ fires the matching detectors once or is refused and counted. -/
  | pgInj (m : Nat) (page : Fin 4096) (v : Reg32)
  /-- SOFT_RESET (R32): Writing PG_CTRL.SOFT_RESET performs the page's soft reset. -/
  | softReset (m : Nat) (page : Fin 4096) (v : Reg32)
  /-- SOFT_RESET_DONE (R32): A page's soft reset completes and SOFT_RESET reads 0. -/
  | softResetDone (page : Fin 4096)
  /-- WARM_RESET (R443): SYS_CTRL.WARM_RESET with WARM_KEY 0xA7 starts a warm reset. -/
  | warmReset (m : Nat) (v : Reg32)
  /-- REMAP (R26): Setting SYS_CTRL.REMAP switches the address-zero window to bank 0. -/
  | remap (m : Nat) (v : Reg32)
  /-- BLOW (R50): FUS_CTRL.BLOW with key 0x4655 starts blowing the fuse at FUS_ADDR. -/
  | blow (m : Nat) (v : Reg32)
  /-- BLOW_DONE (R50): A fuse blow completes, the word is re-sensed and BLOW_FAIL set if the bit is not 1. -/
  | blowDone (ok : Bool)
  /-- SENSE (R49): FUS_CTRL.SENSE starts re-reading the fuse array into FUS_RDATA. -/
  | sense (m : Nat) (v : Reg32)
  /-- MSPI_WRITE (R44): A management SPI WRITE frame is performed as one access when CS rises. -/
  | mspiWrite (data : List Byte) (extraBits : Nat) (collide : Option Nat)
  /-- MSPI_READ (R44): A management SPI READ frame reads the address and returns token, data and status. -/
  | mspiRead (data : List Byte) (phase : ReadPhase)
  /-- MSPI_STATUS (R44): A management SPI STATUS frame returns the status byte and clears its error bits. -/
  | mspiStatus (full : Bool)
  /-- CHECK_START (R85): TRS_CHECK_CTRL.START starts checks 1 to 3 on the chosen copy, or waits for a stage to end. -/
  | checkStart (m : Nat) (v : Reg32)
  /-- CRN_DOORBELL (R146): The doorbell makes Cairn read CMD_PROD and take pending commands in order. -/
  | crnDoorbell (m : Nat) (v : Reg32)
  /-- STAGE (R152): The STAGE command writes a scene into the non-live copies, checks it and plans its crossfade. -/
  | stage (us : Nat)
  /-- CRN_STORE_CTRL (R143): A write changing the store banks deletes every stored scene. -/
  | crnStoreCtrl (m : Nat) (v : Reg32)
  /-- PASS_START (R184): A Chisel pass starts at ENTRY once its inputs and sends are present. -/
  | passStart (core : Fin 16)
  /-- PASS_SKIP (R184): A pass not started by t_{n+2} is skipped and its outputs are absent. -/
  | passSkip (core : Fin 16)
  /-- PASS_STOP (R186): A pass whose counted cycles reach LENGTH without HALT is stopped. -/
  | passStop (p : Fin 17)
  /-- TIMER_REQUEST (R189): A pass's counted cycles reach TIMER and the timer interrupt request becomes pending. -/
  | timerRequest (p : Fin 17)
  /-- INTERRUPT_ENTRY (R190): A pending request is taken at an instruction boundary and execution goes to IRQ_ENTRY. -/
  | interruptEntry (p : Fin 17)
  /-- CHS_DOORBELL (R189): A write of CHS_DOORBELL stores MSG and makes DOORBELL pending at the pass where it applies. -/
  | chsDoorbell (m : Nat) (p : Fin 17) (v : Reg32)
  /-- BANK_PORT_RETURN (R178): A bank-port read writes its data, or 0 with BERR, at the end of t+23. -/
  | bankPortReturn (p : Fin 17) (late : Bool) (wait : Nat)
  /-- CHS_RESET (R193): A write of CHS_RESET stops cores or releases them to copy and run their reset program. -/
  | chsReset (m : Nat) (v : Reg32)
  /-- RESET_COPY_DONE (R193): A core's reset copy completes and it runs the reset program. -/
  | resetCopyDone (p : Fin 17)
  /-- RESET_PROGRAM_OVERRUN (R193): A reset program has not halted after 1,048,576 cycles, a core fault with CAUSE 4. -/
  | resetProgramOverrun (p : Fin 17)
  /-- CORE_FAULT (R194): A residue or uncorrectable memory error retires a physical core and abandons its pass. -/
  | coreFault (p : Fin 17) (cause : Fin 16)
  /-- MIGRATE_DONE (R195): The spare or a displaced core runs its first pass for the migrated logical core. -/
  | migrateDone (core : Fin 16)
  /-- DEFERRED_MEM_WRITE (R188): A host write to X, Y or the idle bank in ACTIVE or STANDBY is performed between passes. -/
  | deferredMemWrite (p : Fin 17)
  /-- NOP (R205): Chisel arithmetic NOP does nothing. -/
  | nop (p : Fin 17)
  /-- HALT (R185): HALT ends the pass and releases its outputs and returns together. -/
  | halt (p : Fin 17)
  /-- RTI (R192): RTI returns from an interrupt to IRA.RET with two delay slots. -/
  | rti (p : Fin 17)
  /-- BR (R214): BR branches to TARGET if COND holds. -/
  | br (p : Fin 17)
  /-- BRL (R214): BRL branches and writes the link pointer if COND holds. -/
  | brl (p : Fin 17)
  /-- BRP (R205): BRP branches to the address in a pointer if COND holds. -/
  | brp (p : Fin 17)
  /-- LOOP (R215): LOOP starts a hardware loop with an immediate count. -/
  | loop (p : Fin 17)
  /-- LOOPD (R215): LOOPD starts a hardware loop with the count from a D register. -/
  | loopd (p : Fin 17)
  /-- LOOP_END (R181): The instruction at LEA wraps to LSA or falls through as LC reaches 0. -/
  | loopEnd (p : Fin 17)
  /-- MOVRI (R212): MOVRI writes an immediate to a named register. -/
  | movri (p : Fin 17)
  /-- MOVRD (R212): MOVRD writes a D register to a named register. -/
  | movrd (p : Fin 17)
  /-- MOVDR (R205): MOVDR copies a named register into a D register. -/
  | movdr (p : Fin 17)
  /-- STSET (R205): STSET ORs an immediate into ST. -/
  | stset (p : Fin 17)
  /-- STCLR (R205): STCLR clears the immediate's bits in ST. -/
  | stclr (p : Fin 17)
  /-- LDI (R211): LDI loads a shifted sign-extended immediate into a D register. -/
  | ldi (p : Fin 17)
  /-- DMOV (R205): DMOV copies one D register to another. -/
  | dmov (p : Fin 17)
  /-- DCMP (R218): DCMP sets the flags from the difference of two D registers. -/
  | dcmp (p : Fin 17)
  /-- DTST (R218): DTST sets the flags from a D register. -/
  | dtst (p : Fin 17)
  /-- DMAX (R211): DMAX writes the signed maximum of two D registers. -/
  | dmax (p : Fin 17)
  /-- DMIN (R211): DMIN writes the signed minimum of two D registers. -/
  | dmin (p : Fin 17)
  /-- DAND (R205): DAND writes the bitwise AND of two D registers. -/
  | dand (p : Fin 17)
  /-- DOR (R205): DOR writes the bitwise OR of two D registers. -/
  | dor (p : Fin 17)
  /-- DXOR (R205): DXOR writes the bitwise exclusive OR of two D registers. -/
  | dxor (p : Fin 17)
  /-- MACQ (R207): MACQ multiplies one D register by four others into the enabled accumulators. -/
  | macq (p : Fin 17)
  /-- MACD (R207): MACD performs two independent multiply-accumulates. -/
  | macd (p : Fin 17)
  /-- ACCD (R207): ACCD accumulates a D register aligned to the accumulator's binary point. -/
  | accd (p : Fin 17)
  /-- CLRA (R208): CLRA clears the enabled accumulators. -/
  | clra (p : Fin 17)
  /-- ACCMOV (R208): ACCMOV copies one accumulator to another. -/
  | accmov (p : Fin 17)
  /-- ACCSH (R208): ACCSH shifts an accumulator by a signed amount without rounding. -/
  | accsh (p : Fin 17)
  /-- EXT (R209): EXT narrows an accumulator with rounding and saturation into a D register. -/
  | ext (p : Fin 17)
  /-- ACCRD (R210): ACCRD reads one part of an accumulator into a D register. -/
  | accrd (p : Fin 17)
  /-- ACCWR (R210): ACCWR writes a D register into one part of an accumulator. -/
  | accwr (p : Fin 17)
  /-- BLD (R217): BLD issues a bank-port read through a window. -/
  | bld (p : Fin 17)
  /-- BST (R217): BST issues a posted bank-port write through a window. -/
  | bst (p : Fin 17)
  /-- LD (R203): Move-slot LD loads a D register from X, Y or I/O memory. -/
  | ld (p : Fin 17) (slot : MoveSlot)
  /-- ST (R203): Move-slot ST stores a D register to X, Y or I/O memory. -/
  | st (p : Fin 17) (slot : MoveSlot)
  /-- LDA (R203): Move-slot LDA loads an address register from memory. -/
  | lda (p : Fin 17) (slot : MoveSlot)
  /-- STA (R203): Move-slot STA stores an address register to memory. -/
  | sta (p : Fin 17) (slot : MoveSlot)
  /-- UPD (R203): Move-slot UPD updates a pointer without access. -/
  | upd (p : Fin 17) (slot : MoveSlot)
  /-- IOLD (R203): Y-slot IOLD loads an I/O word into a D register. -/
  | iold (p : Fin 17) (slot : MoveSlot)
  /-- IOST (R203): Y-slot IOST writes a D register to an I/O word. -/
  | iost (p : Fin 17) (slot : MoveSlot)
  /-- MEM_BANK_STATE (R225): A write of MEM_BANK_STATE requests bank power state changes. -/
  | memBankState (m : Nat) (i : Fin 8) (v : Reg32)
  /-- STATE_DONE (R225): A requested bank state change completes. -/
  | stateDone (bank : Fin 128)
  /-- REGION_TEST (R226): The transparent test takes a region into its buffer and marches it. -/
  | regionTest (phys : Fin 136) (region : Fin 1024)
  /-- REGION_TEST_DONE (R226): A region test writes the buffer back and returns the region. -/
  | regionTestDone (fails : List Nat)
  /-- SCRUB_ACCESS (R421): The scrubber reads, corrects and writes back a stored word. -/
  | scrubAccess (addr : Nat) (upset : BitVec 80)
  /-- PORT_SIDE_ENABLE (R247): A TDM or AES3 side enable becomes 1 and the side enters ARMED or LEAD. -/
  | portSideEnable (side : Fin 96)
  /-- PORT_SIDE_DISABLE (R247): A side enable becomes 0 and the side enters TRAIL or OFF. -/
  | portSideDisable (side : Fin 96)
  /-- STARTED (R247): A side counts 1024 lead frames and enters RUNNING. -/
  | started (side : Fin 96)
  /-- STOPPED (R247): A side counts 1024 trail frames, stops its clocks and enters OFF. -/
  | stopped (side : Fin 96)
  /-- SLOT_COMPLETE (R242): A TDM receive slot completes and its sample is tagged or buffered. -/
  | slotComplete (port : Fin 32) (slot : Fin 16) (rise : Reg32) (fall : Reg32) (fs : Option (Bool × Nat))
  /-- TDM_SLOT_TAKE (R243): A TDM transmit slot takes its sink sample at its take point. -/
  | tdmSlotTake (port : Fin 32) (slot : Fin 16) (fs : Option (Bool × Nat))
  /-- TRIM_LIMIT (R245): The steering trim has stood at its limit for 1 s and AT_LIMIT sets. -/
  | trimLimit (group : Fin 8)
  /-- CLK_LOSS (R249): A follower or foreign side sees no BCLK or FS and enters NO_CLOCK. -/
  | clkLoss (side : Fin 64)
  /-- CLOCK_RETURN (R249): Valid frames return to a NO_CLOCK side and it enters LEAD. -/
  | clockReturn (side : Fin 64)
  /-- AES_FRAME_RECEIVE (R253): An AES3 receiver takes a frame, checks coding and parity, and locks or unlocks. -/
  | aesFrameReceive (i : Fin 16) (subA : BitVec 32) (subB : BitVec 32) (rate : Int) (cycles : Nat)
  /-- AES_TX_FRAME (R255): An AES3 transmitter sends the frame carrying index n at its phase point. -/
  | aesTxFrame (i : Fin 16)
  /-- CS_LOAD (R255): Writing CS_LOAD loads AES_TX_CS at the next block start. -/
  | csLoad (m : Nat) (i : Fin 16)
  /-- US_LOAD (R255): Writing US_LOAD loads AES_TX_US at the next block start. -/
  | usLoad (m : Nat) (i : Fin 16)
  /-- FREQ_GATE (R261): A 100 ms frequency gate of a reference ends and FREQ_ERR and its state update. -/
  | freqGate (r : Fin 10) (err : Int)
  /-- REF_LOSS (R261): A reference loses its signal and enters NO_SIGNAL. -/
  | refLoss (r : Fin 10)
  /-- REF_QUAL (R261): A reference has been QUALIFYING for QUAL_TIME and becomes QUALIFIED. -/
  | refQual (r : Fin 10)
  /-- SWITCH (R263): Reference selection is made again and the selected reference changes or holdover begins. -/
  | switchRef (dist : Int)
  /-- WTR_EXPIRE (R263): A candidate has been candidate for WTR seconds and replaces the selected reference. -/
  | wtrExpire (dist : Int)
  /-- CONTROL_AVERAGE (R267): A 1-second average of the control value is added to the holdover history. -/
  | controlAverage (avg : Int)
  /-- OUT_OF_SPEC (R268): The holdover prediction reaches HOLD_SPEC and OUT_OF_SPEC sets. -/
  | outOfSpec (cycles : Nat)
  /-- LOOP_OPEN (R269): Setting or clearing LOOP_OPEN freezes or closes the synthesizer loop. -/
  | loopOpen (m : Nat) (v : Reg32)
  /-- PLB_SYN_FREQ (R269): A write of PLB_SYN_FREQ with the loop open moves the frequency without a phase step. -/
  | plbSynFreq (m : Nat) (v : Reg32)
  /-- RATE (R270): A change of PLB_CTRL.RATE changes the engine rate from the next tick. -/
  | rate (m : Nat) (v : Reg32)
  /-- HOST_SET (R272): HOST_SET steps station time to PLB_TIME_SET. -/
  | hostSet (m : Nat) (v : Reg32)
  /-- REARM (R272): REARM clears STEP_ALARM and arms one step at the next offset. -/
  | rearm (m : Nat) (v : Reg32)
  /-- TICK_LATCH_READ (R273): Reading PLB_TICK_IDX_LO freezes the latched tick index and time. -/
  | tickLatchRead (m : Nat)
  /-- TIME_READ (R273): Reading PLB_TIME_LO freezes PLB_TIME_HI. -/
  | timeRead (m : Nat) (cycles : Nat)
  /-- ARM (R274): Writing ARM copies the pending target and arms a compare unit. -/
  | arm (m : Nat) (k : Fin 16) (v : Reg32)
  /-- STOP (R275): Writing STOP disarms a compare unit at once. -/
  | stop (m : Nat) (k : Fin 16) (v : Reg32)
  /-- FIRED (R274): A compare unit reaches its target, fires and its consumers act. -/
  | fired (k : Fin 16) (cycles : Nat)
  /-- PULSE_END (R276): A TIME_OUT pulse of PULSE µs ends. -/
  | pulseEnd (pin : Fin 8)
  /-- CAPTURED (R277): A capture unit latches station time and index at an event of its source. -/
  | captured (k : Fin 16) (rising : Bool) (cycles : Nat)
  /-- ETH_FRAME_RECEIVE (R289): An Ethernet port receives a frame, timestamps it and consumes or drops it. -/
  | ethFrameReceive (port : Fin 4) (frame : List Byte) (fcsOk : Bool) (cycles : Nat)
  /-- ARP_AGE (R290): An ARP cache entry ages out after 300 s. -/
  | arpAge (ip : BitVec 32)
  /-- PTP_MESSAGE (R293): A PTP message of an instance is received and processed. -/
  | ptpMessage (inst : Fin 2) (msg : PtpMsg)
  /-- PTP_SEND (R293): A PTP instance's message interval expires and it sends its message. -/
  | ptpSend (inst : Fin 2) (kind : PtpKind)
  /-- ESMC_PDU (R295): A port receives an ESMC PDU and keeps its SSM code. -/
  | esmcPdu (port : Fin 4) (ssm : BitVec 4)
  /-- ESMC_SEND (R295): A port sends its once-per-second ESMC information PDU. -/
  | esmcSend (port : Fin 4)
  /-- AES67_PACKET_RECEIVE (R298): An AES67 packet of an open receive stream is received and its samples scheduled. -/
  | aes67PacketReceive (port : Fin 4) (pkt : RtpPacket)
  /-- AES67_PACKET_SEND (R300): A transmit stream sends its packet once its last sample is taken. -/
  | aes67PacketSend (st : Fin 128)
  /-- TETHER_IN (R309): An IN frame from a station is received and its inputs written or discarded. -/
  | tetherIn (src : BitVec 32) (data : List Byte)
  /-- TETHER_ACK (R309): An ACK from a station ends the exchange of the cycle. -/
  | tetherAck (src : BitVec 32) (data : List Byte)
  /-- SWP_RPT (R316): A station's sweep report is received and line results written. -/
  | swpRpt (src : BitVec 32) (data : List Byte)
  /-- CHANNEL_ENABLE (R330): A Mallet channel's EN becomes 1 and it enters DIAG or ARMED. -/
  | channelEnable (c : Fin 64)
  /-- CHANNEL_DISABLE (R330): A Mallet channel's EN becomes 0 and it enters STOPPING or OFF. -/
  | channelDisable (c : Fin 64)
  /-- CHANNEL_START (R331): At the start tick an ARMED channel enters RUN with its start ramp. -/
  | channelStart (c : Fin 64)
  /-- STOP_RAMP_END (R331): A channel's stop ramp ends and its gates go low. -/
  | stopRampEnd (c : Fin 64)
  /-- LOOP_UPDATE (R328): A channel's loop update computes a new duty from drive and sense. -/
  | loopUpdate (c : Fin 64) (sv : List Bool) (si : List Bool)
  /-- LIMIT (R334): The fast detector finds the current above ILIM and limits the leg until the next carrier turn. -/
  | limit (c : Fin 64)
  /-- FLT (R335): FLT_N asserts and the channel shuts down or the test fails. -/
  | flt (c : Fin 64)
  /-- SENSE_LOSS (R326): A bitstream has no transition for 256 sense clocks and is lost. -/
  | senseLoss (c : Fin 64) (which : Bool)
  /-- RETRY_WAIT_END (R336): RETRY_MS passes and a shut-down channel runs its retry tests. -/
  | retryWaitEnd (c : Fin 64)
  /-- RETRY_CLEAR (R336): CLEAR_S seconds in RUN pass and RETRY_USED returns to 0. -/
  | retryClear (c : Fin 64)
  /-- CLEAR (R336): Writing CLEAR restarts a LATCHED channel through DIAG or ARMED. -/
  | clear (m : Nat) (c : Fin 64) (v : Reg32)
  /-- DIAG_CMD_START (R333): Writing DIAG_CMD.START runs a diagnostic batch on masked channels. -/
  | diagCmdStart (m : Nat) (v : Reg32)
  /-- DIAG_TEST_STEP (R332): A diagnostic test pulse or measurement interval ends and the next test runs. -/
  | diagTestStep (c : Fin 64) (meas : DiagMeas)
  /-- RE_ESTIMATE (R338): Each second a channel estimates its coil resistance. -/
  | reEstimate (c : Fin 64) (vi : Int) (ii : Int) (n : Nat)
  /-- IMPEDANCE_SWEEP_START (R341): Writing MLT_SWP_CTRL.START in RUN starts an impedance sweep. -/
  | impedanceSweepStart (m : Nat) (c : Fin 64) (v : Reg32)
  /-- SWEEP_POINT_DONE (R341): A sweep point's measurement ends and its result is written. -/
  | sweepPointDone (c : Fin 64) (mag : BitVec 16) (ph : BitVec 16)
  /-- SWEEP_DONE (R341): An impedance sweep ends or is aborted. -/
  | sweepDone (c : Fin 64)
  /-- SENSE_OFFSET_CAL (R422): A Mallet sense offset or decimator gain calibration runs. -/
  | senseOffsetCal (c : Fin 64) (offV : Int) (offI : Int)
  /-- MOUNT (R356): Setting TYD_CTRL.MOUNT starts a mount of the flash. -/
  | mount (m : Nat) (v : Reg32)
  /-- MOUNTED (R356): A mount completes partial stripes and Timberyard becomes READY. -/
  | mounted (disc : DiscoveredVolume)
  /-- PAGE_PROGRAM_DONE (R354): A flash page program or erase completes, retiring the block on FAIL. -/
  | pageProgramDone (prog : PageProgram) (failed : Bool)
  /-- PAGE_READ_DONE (R351): A flash page read completes, decoding or rebuilding its codewords. -/
  | pageReadDone (rd : PageRead)
  /-- SEGMENT_REFRESH (R365): A closed segment due for its 30-day read is read in full. -/
  | segmentRefresh (segment : Nat)
  /-- GO (R361): Writing PB_CTRL.GO arms a playback stream. -/
  | go (m : Nat) (st : Fin 64) (v : Reg32)
  /-- PLAYBACK_STOP (R361): Writing PB_CTRL.STOP returns a playback stream to IDLE. -/
  | playbackStop (m : Nat) (st : Fin 64) (v : Reg32)
  /-- PLAYBACK_START (R361): At its start tick a stream begins playing its item. -/
  | playbackStart (st : Fin 64)
  /-- EXPORT_DONE (R363): An export writes its trailer and completes. -/
  | exportDone (dmaErr : Bool)
  /-- FORMAT (R362): The FORMAT command erases every good block, draws a VOL_ID and mounts. -/
  | format (volume : BitVec 32) (disc : DiscoveredVolume)
  /-- TICK_FRAME (R386): A Belay TICK frame is received, with digest compare, link delay and peer state. -/
  | tickFrame (rec : TickRec)
  /-- WRITE_FRAME (R381): A forwarded host write is received and performed at its tagged tick. -/
  | writeFrame (m : Nat) (addr : Nat) (data : List Byte) (tag : Idx)
  /-- COMMAND_FRAME (R381): A forwarded Cairn command is received and started at its tagged tick. -/
  | commandFrame (words : List Word) (tag : Idx)
  /-- PRESENCE (R382): A PRESENCE frame of the active's decisions is received and applied. -/
  | presence (idx : Idx) (final : Bool) (entries : List (Nat × Bool))
  /-- PATCH_REQ (R383): A patch request is received and answered from the sample store. -/
  | patchReq (idx : Idx) (entries : List Nat)
  /-- PATCH (R383): A PATCH frame supplies sample values the standby lacks. -/
  | patch (idx : Idx) (entries : List (Nat × Word))
  /-- DECISION (R385): A forwarded unit decision is received and applied at its index. -/
  | decision (unit : Nat) (item : Nat) (idx : Idx) (data : Nat)
  /-- STAGE_DIGEST (R154): The peer's stage digest is received and compared. -/
  | stageDigest (seq : Reg32) (code : Byte) (digest : BitVec 64)
  /-- RESIGN (R389): A RESIGN frame is received and the peer is declared failed. -/
  | resign (cause : Byte)
  /-- SWAP_FRAME (R394): A SWAP frame announcing n_s is received. -/
  | swapFrame (ns : Idx) (port : Fin 32)
  /-- NAK (R404): A NAK is received and frames are resent from its FSEQ. -/
  | nak (fseq : Reg32)
  /-- SNAP (R398): A snapshot frame is received and its words written. -/
  | snap (region : Nat) (addr : Nat) (words : List Word) (units : Option Machine.UnitSnap)
  /-- JOIN_REQ (R397): A JOIN_REQ is received and compared before the join proceeds. -/
  | joinReq (rec : JoinRec)
  /-- JOIN_ACK (R397): A JOIN_ACK carrying the code, n0 or n1 is received. -/
  | joinAck (code : Byte) (n0 : Idx) (n1 : Idx)
  /-- HB_IN_EDGE (R388): A valid HB_IN edge gives evidence on the pin path. -/
  | hbInEdge (us : Nat) (cycles : Nat)
  /-- PATH_FAULT (R389): A watched path is silent for 100 µs, or both, declaring the peer failed. -/
  | pathFault (path : Bool)
  /-- TAKEOVER (R390): A standby that declared its peer failed enters ACTIVE and asserts ACT_OUT. -/
  | takeover (us : Nat)
  /-- ACT_IN_RISE (R378): ACT_IN rises and a non-senior engine claiming the field yields. -/
  | actInRise (us : Nat)
  /-- RESIGNATION (R392): An engine with a listed fault resigns, sends RESIGN and begins the hold. -/
  | resignation (cause : Byte)
  /-- RESIGN_WRITE (R392): BLY_CTRL.RESIGN with KEY 0xB1 resigns with cause 5. -/
  | resignWrite (m : Nat) (v : Reg32)
  /-- HOLD_END (R393): The output hold ends on ACT_IN or after 500 µs and the engine enters SERVICE. -/
  | holdEnd (fails : List Nat)
  /-- JOIN_DONE (R399): At n1 the joiner takes the live state and enters STANDBY in lockstep. -/
  | joinDone (ms : Nat)
  /-- LANE_CHANGE (R410): A lane's training completes and it enters UP or FAILED. -/
  | laneChange (l : Fin 12) (up : Bool) (inv : Bool) (rev : Bool) (rate : Fin 32) (eq : Reg32) (taps : Reg32)
  /-- TRAIN_FAIL (R410): A failed lane waits 10 ms and trains again. -/
  | trainFail (l : Fin 12)
  /-- FAST_EXIT (R412): A lane leaves electrical idle by fast exit or falls back to full training. -/
  | fastExit (l : Fin 12) (ok : Bool)
  /-- LANE_DOWN (R401): A Belay or Ethernet lane goes down and traffic moves to the others. -/
  | laneDown (l : Fin 12)
  /-- PAIR_PERS (R409): A change of PAIR_PERS takes lanes 10 and 11 down and retrains them. -/
  | pairPers (m : Nat) (v : Reg32)
  /-- LANE_TEST (R416): Setting GEN or CHK takes a lane out of its link for pattern testing. -/
  | laneTest (m : Nat) (l : Fin 12) (v : Reg32)
  /-- SENSOR_UPDATE (R424): Island temperature, voltage and aging values are updated every 100 ms. -/
  | sensorUpdate (i : Fin 25) (t : Int) (volt : Nat) (age : Nat)
  /-- SVC_LATE (R423): A service misses its completion interval and its LATE bit sets. -/
  | svcLate (k : Fin 7)
  /-- SUPPLY_FAULT (R441): A rail stays beyond a trip for 10 µs and the engine acts by mode. -/
  | supplyFault (rail : Fin 8)
  /-- RESET_EXIT (R444): Once reset conditions hold the engine leaves RESET for SELFTEST. -/
  | resetExit (rst : ResetExit)
  /-- BOOT_GO (R451): PWR_BOOT_CTRL.GO starts the checks of a host-downloaded image. -/
  | bootGo (m : Nat) (v : Reg32)
  /-- BOOT_DONE (R447): Cairn is released once REMAP and DONE are set and the engine enters CONFIG. -/
  | bootDone (ms : Nat)
  /-- WDT_KICK (R446): Writing 0x0000_C3A5 to PWR_WDT_KICK restarts the watchdog. -/
  | wdtKick (m : Nat) (v : Reg32)
  /-- WDT_CTRL (R446): A write of PWR_WDT_CTRL restarts or stops the watchdog. -/
  | wdtCtrl (m : Nat) (v : Reg32)
  /-- MODE_REQ_CONFIG (R452): PWR_MODE_REQ requests CONFIG. -/
  | modeReqConfig (m : Nat) (v : Reg32)
  /-- MODE_REQ_ACTIVE (R452): PWR_MODE_REQ requests ACTIVE. -/
  | modeReqActive (m : Nat) (v : Reg32)
  /-- MODE_REQ_STANDBY (R452): PWR_MODE_REQ requests STANDBY by a join. -/
  | modeReqStandby (m : Nat) (v : Reg32)
  /-- MODE_REQ_SERVICE (R452): PWR_MODE_REQ requests SERVICE, blowing pending repairs on entry. -/
  | modeReqService (m : Nat) (v : Reg32)
  /-- REQ_DONE (R452): A mode request completes and its result is posted. -/
  | reqDone (fails : List Nat)
  /-- PWR_ISL_REQ (R453): A write of PWR_ISL_REQ powers islands up or down or is refused. -/
  | pwrIslReq (m : Nat) (v : Reg32)
  /-- DESCENT_FLUSH_DONE (R454): The journal flush completes, bridges go off and the engine resigns or resets. -/
  | descentFlushDone (us : Nat)
  /-- ANNOUNCE_RECEIPT_TIMEOUT (R262): A PTP instance receives no Announce message within its announceReceiptTimeout, its Q becomes 15 and the reference is lost. -/
  | announceReceiptTimeout (inst : Fin 2)
  /-- ESMC_PDU_TIMEOUT (R262): A port receives no valid ESMC PDU for 5 s and its line-clock quality becomes 15. -/
  | esmcPduTimeout (port : Fin 4)
  /-- SUPPLY_IN_RANGE (R441): An out-of-range rail returns within its trips, setting its IN_RANGE bit again and counting toward the return of supply in a Descent. -/
  | supplyInRange (rail : Fin 8)
  /-- CARRIER_PEAK_OR_VALLEY (R329): A Mallet carrier reaches a peak or valley; a new duty or MLT_PWM setting applies, a current limit is released and a limited cycle is counted or its run broken. -/
  | carrierPeakOrValley (c : Fin 64)
  /-- EXTERNAL_FRAME_START (R244): An active FS edge from outside starts a frame on a follower or foreign transmit side, which sends its oldest buffered frame or underruns. -/
  | externalFrameStart (side : Fin 64) (bits : Nat)
  /-- BELAY_CRC_ERROR (R404): A Belay frame arrives with a CRC error, is counted in BLY_LN_CRC and makes the receiver send NAK. -/
  | belayCrcError (lane : Fin 4)
  /-- BATCH_END (R105): A crossfade batch window ends, the old chains retire and shedding is recomputed. -/
  | batchEnd
  /-- SPARE_JOINED (R108): The spare Truss lane completes its join in place of the retired lane. -/
  | spareJoined
  /-- PAIR_LANE_CHANGE (R103): A change of the pair lane count takes effect at its chosen index and shedding is recomputed. -/
  | pairLaneChange
  /-- SENSE_DONE (R49): A fuse sense completes and SENSE_BUSY clears. -/
  | senseDone
  /-- CHECK_BEGIN (R85): A check requested during a stage begins when the stage ends. -/
  | checkBegin
  /-- CHECK_DONE (R85): A graph check ends and writes TRS_CHECK_STAT and TRS_CHECK_PATH. -/
  | checkDone
  /-- CPL_WAIT_END (R146): Cairn rereads CPL_CONS, finds room in the completion ring and starts the waiting command. -/
  | cplWaitEnd
  /-- CAIRN_NOP (R147): The NOP command completes OK. -/
  | cairnNop
  /-- STORE (R142): The STORE command copies a scene block into the scene store or deletes a scene. -/
  | store
  /-- COMMIT (R155): The COMMIT command arms the staged scene for flip sample F and creates a journal record. -/
  | commit
  /-- ABORT (R151): The ABORT command returns a staged or armed Cairn to IDLE. -/
  | abort
  /-- COMMIT_FLIP (R156): At F every involved unit changes to the staged state and the commit completes. -/
  | commitFlip
  /-- CHANGING_END (R151): Every changeover of a commit has ended and Cairn returns to IDLE. -/
  | changingEnd
  /-- STAGE_DIGEST_TIMEOUT (R154): No peer stage digest arrives within 1 ms and the STAGE completes with PEER_DISAGREE. -/
  | stageDigestTimeout
  /-- REPLACEMENT_DONE (R228): A spare bank's copy completes and the map switches to the spare. -/
  | replacementDone
  /-- LOCK (R266): The synthesizer has been within its error for 1 s and enters LOCKED. -/
  | lock
  /-- STREAM_OPEN (R303): The STREAM_OPEN command checks and opens an AES67 stream. -/
  | streamOpen
  /-- STREAM_CLOSE (R302): The STREAM_CLOSE command closes an AES67 stream. -/
  | streamClose
  /-- SWEEP (R316): The SWEEP command starts supervision sweeps of stations' lines. -/
  | sweep
  /-- SWEEP_ABORT (R316): The SWEEP_ABORT command ends every unfinished line as NOT_MEASURED. -/
  | sweepAbort
  /-- TETHER_WRITE_POINT (R309): At W_k the engine sends OUT or marks a silent station LOST. -/
  | tetherWritePoint
  /-- TETHER_RESEND_POINT (R309): At the resend point an unacknowledged OUT is sent again with RESEND. -/
  | tetherResendPoint
  /-- DIAG_DONE (R333): A diagnostic batch ends and channels move on by their results. -/
  | diagDone
  /-- CHECKPOINT (R356): Timberyard writes a checkpoint of its segment table. -/
  | checkpoint
  /-- RELOCATION_DONE (R366): A segment relocation completes and the table switches. -/
  | relocationDone
  /-- EXPORT (R363): The EXPORT command writes selected records to host memory. -/
  | exportStart
  /-- EXPORT_ABORT (R362): The EXPORT_ABORT command ends a running export. -/
  | exportAbort
  /-- LIB_IMPORT (R362): The LIB_IMPORT command stores samples as a library item. -/
  | libImport
  /-- LIB_DELETE (R362): The LIB_DELETE command deletes a library item. -/
  | libDelete
  /-- ARCHIVE_PUT (R362): The ARCHIVE_PUT command stores bank words in an archive slot. -/
  | archivePut
  /-- ARCHIVE_GET (R362): The ARCHIVE_GET command copies an archive slot to the banks. -/
  | archiveGet
  /-- RETRANSMIT (R404): A frame unacknowledged for 20 µs is resent. -/
  | retransmit
  /-- HB_OUT_TOGGLE (R388): HB_OUT toggles every 31.25 µs if an index has opened. -/
  | hbOutToggle
  /-- PEER_RETURN (R389): Both paths show evidence for 10 ms and the peer is present out of lockstep. -/
  | peerReturn
  /-- FALLBACK (R384): No FINAL frame by t_{n+1} − 1 µs and the standby decides presence itself. -/
  | fallback
  /-- ACT_IN_FALL (R394): ACT_IN falls at a swap and the standby raises ACT_OUT. -/
  | actInFall
  /-- SENIOR_REASSERT (R379): The senior drops ACT_OUT for 100 ns and raises it again after a simultaneous claim. -/
  | seniorReassert
  /-- SWAP_START (R394): A planned swap becomes due at a quiet index and n_s is chosen. -/
  | swapStart
  /-- SWAP_SKIPPED (R394): No quiet index within 1 h of the due time and the swap is skipped. -/
  | swapSkipped
  /-- SWAP_EXECUTE (R394): At the sync point the active lowers ACT_OUT and the roles change. -/
  | swapExecute
  /-- SWAP (R396): The SWAP command requests a planned swap at a target. -/
  | swap
  /-- JOIN (R397): The JOIN command starts a resynchronisation from the active peer. -/
  | join
  /-- RESYNC_START (R398): At t_{n0} the joiner takes the index and the snapshot begins. -/
  | resyncStart
  /-- SNAPSHOT_DONE (R399): The snapshot completes and the joiner begins catch-up. -/
  | snapshotDone
  /-- DESCENT_AUTO_JOIN (R456): After a Descent reset the engine sees the peer ACTIVE within 200 ms and joins. -/
  | descentAutoJoin
  /-- LINK_DOWN (R415): A hot reset or link-down resets the PCI Express link controller. -/
  | linkDown
  /-- TEL_REC (R426): Every 100 ms a telemetry record is written to the host ring or dropped. -/
  | telRec
  /-- SYNTH_CAL (R422): The synthesizer's band and loop gain calibration runs. -/
  | synthCal
  /-- POWER_ON_RESET (R443): VDD_AO crosses its low trip and a cold reset occurs. -/
  | powerOnReset
  /-- PERST_RESET (R443): PERST# low for 1 µs starts a warm reset. -/
  | perstReset
  /-- SYS_RESET (R443): SYS_RESET_N low for 1 µs starts a cold reset. -/
  | sysReset
  /-- WDT_WARN (R446): The watchdog reaches 75 % of TIMEOUT. -/
  | wdtWarn
  /-- WATCHDOG_EXPIRY (R446): The watchdog reaches TIMEOUT and the engine enters RESET. -/
  | watchdogExpiry
  /-- ISL_DONE (R453): Island power changes complete and PWR_ISL_STAT equals the request. -/
  | islDone
  /-- DESCENT (R454): POWER_FAIL low for 2 µs starts the Descent and freezes the recorder. -/
  | descent
  /-- POWER_FAIL_DEASSERT (R455): POWER_FAIL returns high, recorded as a supply return during a Descent and starting the 1 ms wait of R444. -/
  | powerFailDeassert
  /-- JOIN_LOCK_TIMEOUT (R397): The joiner's Plumb has not reached LOCKED on PEER within 30 s and the JOIN completes with NOT_READY. -/
  | joinLockTimeout
  deriving DecidableEq, Repr

end Sys2Proof
end

