-- ==== Sys2Proof/Decode.lean ====
section
/-! DEFINITION. Words of the table of operations: no row of spec/opcode_table.json gives its command any bits (every row's
list of fields is empty), so no word spells a command. -/

namespace Sys2Proof

/-- The command that the table's bits spell: none, for no row has bits. -/
def decodeTableWord (_nbits _w : Nat) : Option Instr := none

end Sys2Proof
end

