-- ==== Sys2Proof/Machine/Codes.lean ====
section
/-! DEFINITION. The codes of the manual: the memory code of 10_memory_banks.md R222, and cyclic redundancy checks. -/

namespace Sys2Proof.Machine

open Sys2Proof

/-- The number of 1 bits of `v` among its low `n` bits. -/
def popCount (n v : Nat) : Nat := ((List.range n).filter fun i => v.testBit i).length

/-- The column vectors h(0) to h(55): the bytes of weight 3, ascending (R222). -/
def eccLow : List Nat := (List.range 256).filter fun v => popCount 8 v == 3

/-- The column vectors h(56) to h(71) (R222). -/
def eccHigh : List Nat :=
  [0x1F, 0x2F, 0x37, 0x3B, 0x3D, 0x3E, 0x4F, 0x57, 0x5B, 0x5D, 0x5E, 0x67, 0x6B, 0x6D, 0x6E, 0x73]

/-- Column vectors by stored bit, 0 to 79 (R222). -/
def eccCols : List Nat := eccLow ++ eccHigh ++ [1, 2, 4, 8, 16, 32, 64, 128]

/-- The exclusive-OR of the column vectors of the bits of `v` that are 1. -/
def xorCols : List Nat → Nat → Nat → Nat
  | [], _, acc => acc
  | h :: hs, v, acc => xorCols hs (v / 2) (if v % 2 = 1 then acc ^^^ h else acc)

/-- The check byte of a data word (R222). -/
def checkByte (w : Word) : Nat := xorCols (eccLow ++ eccHigh) w.toNat 0

/-- The syndrome of the stored bit errors `e` (data bits below check bits): the code is linear, so it is the syndrome of
the word that is stored. -/
def syndrome (e : BitVec 80) : Nat := xorCols eccCols e.toNat 0

/-- What a read of a stored word finds (R222): the errors left in the data after correction, none where the word is
uncorrectable; the syndrome; and the bit corrected. -/
structure EccRead where
  left : Option Word
  corrected : Bool
  syn : Nat
  bit : Nat
  deriving DecidableEq, Repr

/-- The table of R222. -/
def eccRead (e : BitVec 80) : EccRead :=
  let s := if e = 0 then 0 else syndrome e
  if s = 0 then ⟨some (e.setWidth 72), false, 0, 0⟩
  else match eccCols.findIdx? fun h => h == s with
    | none => ⟨none, false, s, 0x7F⟩
    | some i => ⟨some ((e ^^^ BitVec.ofNat 80 (2 ^ i)).setWidth 72), true, s, i⟩

/-! ### Cyclic redundancy checks -/

/-- `n` bit steps of a reflected CRC register `c` with the reflected polynomial `p`. -/
def crcBits (p : Nat) : Nat → Nat → Nat
  | 0, c => c
  | n + 1, c => crcBits p n (if c % 2 = 1 then (c / 2) ^^^ p else c / 2)

/-- A reflected CRC over bytes. -/
def crcRefl (p : Nat) : Nat → List Byte → Nat
  | c, [] => c
  | c, b :: bs => crcRefl p (crcBits p 8 (c ^^^ b.toNat)) bs

/-- CRC-32 of IEEE 802.3 (08_chisel_core.md R183). -/
def crc32 (bs : List Byte) : Nat := crcRefl 0xEDB88320 0xFFFFFFFF bs ^^^ 0xFFFFFFFF

/-- `n` bit steps of an unreflected CRC of width `w` with polynomial `p`. -/
def crcBitsMsb (w p : Nat) : Nat → Nat → Nat
  | 0, c => c
  | n + 1, c => crcBitsMsb w p n (if c.testBit (w - 1) then (c * 2 % 2 ^ w) ^^^ p else c * 2 % 2 ^ w)

/-- An unreflected CRC of width `w`, polynomial `p`, over bytes most significant bit first. -/
def crcMsb (w p : Nat) : Nat → List Byte → Nat
  | c, [] => c
  | c, b :: bs => crcMsb w p (crcBitsMsb w p 8 (c ^^^ (b.toNat * 2 ^ (w - 8)))) bs

end Sys2Proof.Machine
end

