-- ==== Sys2Proof/Machine/Arith.lean ====
section
/-! DEFINITION. Sample arithmetic (03_arithmetic.md): the one rounding rule, the narrowings of the fabric, the edge
conversions and the ROM functions that a rule defines by rounding a real number. -/

namespace Sys2Proof.Machine

/-- R52 without saturation: drop `n` bits of `x`, convergent. -/
def roundEven (n : Nat) (x : Int) : Int :=
  let q := x >>> n
  let r := x - q * 2 ^ n
  let h : Int := if n = 0 then 1 else 2 ^ (n - 1)
  if h < r then q + 1 else if n ≠ 0 ∧ r = h ∧ q % 2 = 1 then q + 1 else q

/-- `a / b` rounded to the nearest whole number, halves to even (R52); 0 for a zero divisor. -/
def roundDiv (a : Int) (b : Nat) : Int :=
  let q := a / b
  let r := a - q * b
  if b < 2 * r then q + 1 else if 2 * r = b ∧ q % 2 = 1 then q + 1 else q

/-- R52: the narrowed value and whether it saturated. -/
def narrowTo (n : Nat) (qmin qmax x : Int) : Int × Bool :=
  let q := roundEven n x
  if qmax < q then (qmax, true) else if q < qmin then (qmin, true) else (q, false)

/-- The limits of S8.63 (R53). -/
def wordMax : Int := 2 ^ 71 - 1
def wordMin : Int := -(2 ^ 71)

/-- A narrowing to S8.63 that drops `n` bits, with its clip indication. -/
def narrowWord (n : Nat) (x : Int) : Word × Bool :=
  let r := narrowTo n wordMin wordMax x
  (BitVec.ofInt 72 r.1, r.2)

/-- The product of two words narrowed as R53 has it (n = 63). -/
def mulWord (a b : Word) : Word × Bool := narrowWord 63 (a.toInt * b.toInt)

/-- 1.0 in S8.63. -/
def oneWord : Word := 0x008000000000000000#72

/-- R58 outbound: the code of `bits` bits (16, 24 or 32) and whether it saturated; R59 makes saturation symmetric. -/
def outCode (bits : Nat) (x : Word) : Int × Bool :=
  let m : Int := 2 ^ (bits - 1) - 1
  narrowTo (64 - bits) (-m) m x.toInt

/-- R58 inbound: a code of `bits` bits becomes a word, exactly. -/
def inCode (bits : Nat) (code : Nat) : Word :=
  BitVec.ofInt 72 ((BitVec.ofNat bits code).toInt * 2 ^ (64 - bits))

/-- Fixed-point scale of the ROM definitions: 2^160. -/
def romScale : Nat := 2 ^ 160

/-- Taylor sum of `x` (scaled by 2^160): terms `t`, `t·x/k`, ... added with the sign pattern of `alt`. -/
def taylor (x : Int) : Nat → Nat → Int → Int → Int
  | 0, _, _, acc => acc
  | n + 1, k, t, acc => taylor x n (k + 1) (t * x / (k * romScale)) (acc + t)

/-- exp of a number scaled by 2^160. -/
def expFix (x : Int) : Int := taylor x 90 1 romScale 0

/-- π and ln 10, scaled by 2^160 (round down). -/
def piFix : Int := 4591442807048218921384805199743311128454155024418
def ln10Fix : Int := 3365231883504527125129111981421568120141379515367

/-- 10^(−num/den), scaled by 2^160. -/
def pow10Neg (num den : Nat) : Int :=
  expFix (-(ln10Fix * (num % den : Nat)) / den) / 10 ^ (num / den)

/-- sin of a number scaled by 2^160, by its Taylor series. -/
def sinFix (x : Int) : Int :=
  let x2 := x * x / romScale
  let rec go : Nat → Nat → Int → Int → Int
    | 0, _, _, acc => acc
    | n + 1, k, t, acc => go n (k + 2) (-(t * x2) / (romScale * (k + 1) * (k + 2))) (acc + t)
  go 60 1 x 0

/-- R122: the equal-power ROM, S(j) = 2³¹·sin(πj/8192) rounded, j from 0 to 4096. -/
def romS (j : Nat) : Nat := (roundEven 129 (sinFix (piFix * j / 8192))).toNat

/-- R132: the duck ROM, G(i) = 2³¹·10^(−i/5120) rounded, 0 from 32,768 on. -/
def romG (i : Nat) : Nat := if 32768 ≤ i then 0 else (roundEven 129 (pow10Neg i 5120)).toNat

/-- R130: the threshold ROM, 10^(−THRESH/20) rounded to S8.63. -/
def romT (i : Nat) : Int := roundEven 97 (pow10Neg i 20)

/-- R122: the weights (f_new, f_old) at step `k` of a window of `x`; `eq` is the equal-power law. -/
def fadeWeights (eq : Bool) (x k : Nat) : Nat × Nat :=
  if eq then
    let j := 4096 * k / x
    (romS j, romS (4096 - j))
  else
    let f := 2 ^ 31 * k / x
    (f, 2 ^ 31 - f)

/-- Ceiling of a quotient. -/
def ceilDiv (a b : Nat) : Nat := (a + b - 1) / b

end Sys2Proof.Machine
end

