-- ==== Sys2Proof/Config.lean ====
section
/-! DEFINITION. What the specification leaves open and an implementation fixes: free values with no body. -/

namespace Sys2Proof.Config

/-- A value the specification leaves undefined or does not state; the machine applies it to a counter of its state, so
that each use gets a value of its own (log entry 2). -/
opaque freeValue (w : Nat) : Nat → BitVec w

/-- The contents of the boot ROM, 16,384 words (02_register_space.md R24), which the manual does not print (entry 9). -/
opaque bootRom : Nat → BitVec 72

/-- The stage digest of 07_cairn_scenes.md R154 over the words written, the completion code and the crossfade plan; the
manual gives its width and what it covers, not how it is formed (entry 31). -/
opaque stageDigest : List (Nat × Word) → Nat → List (List Nat) → BitVec 64

/-- An entry of the LDPC matrix ROM TYD_H (15_timberyard_recorder.md R374), whose contents the manual does not print. -/
opaque ldpcRom : Nat → BitVec 32

/-- The 240 parity bytes that make a codeword of 2064 bytes satisfy H × c = 0 (15 R350): unique, but H is not printed. -/
opaque ldpcParity : List (BitVec 8) → List (BitVec 8)

/-- The proportional and integral gain of the steering loop of a TDM group for LOOP_BW 0 to 2, in 0.1 ppm per 1/256 frame times
2³² (11_audio_ports.md R245); the manual gives the loop's bandwidth only. -/
opaque steerP : Nat → Int
opaque steerI : Nat → Int

end Sys2Proof.Config
end

