-- ==== Sys2Proof/Machine/RegMap.lean ====
section
/-! DEFINITION. The register map: every register of the register pages with its offset, its access masks and its reset
value, from the register tables of the chapters (the rule of each page stands beside its group). Offsets are bytes from
0x0100_0000. A bit in no mask is RO or reserved. -/

namespace Sys2Proof.Machine

/-- One row of a register table: `np` pages from `page` hold it, at `off`, `n` times `stride` bytes apart. -/
structure RegRow where
  page : Nat
  np : Nat
  off : Nat
  n : Nat
  stride : Nat
  /-- bits with access RW or RWS -/
  rw : Nat
  /-- bits with access W1C -/
  w1c : Nat
  /-- bits with access RC -/
  rc : Nat
  /-- bits with access W1S or WO, which start an action -/
  act : Nat
  /-- bits that keep their value through a warm reset (RWS) -/
  rws : Nat
  /-- a write goes to the staged copy while a scene is staged (07_cairn_scenes.md R140) -/
  staged : Bool
  reset : Nat
  deriving DecidableEq, Repr

/-- A field: a register's offset and the field's bits. -/
structure Fld where
  off : Nat
  hi : Nat
  lo : Nat
  deriving DecidableEq, Repr

/-- The same field `d` bytes further on (another instance or page). -/
def Fld.sh (f : Fld) (d : Nat) : Fld := { f with off := f.off + d }

/-- A whole register as a field. -/
def whole (off : Nat) : Fld := ⟨off, 31, 0⟩

/-- SYS registers (R34, R45). -/
def rowsSys : List RegRow :=
  [⟨0x0, 1, 0x40, 1, 4, 0x0, 0x0, 0x0, 0xff03, 0x0, false, 0x0⟩,
   ⟨0x0, 1, 0x44, 1, 4, 0x0, 0x0, 0x0, 0x0, 0x0, false, 0x20000000⟩,
   ⟨0x0, 1, 0x48, 1, 4, 0x0, 0x0, 0x0, 0x0, 0x0, false, 0x0⟩,
   ⟨0x0, 1, 0x4c, 1, 4, 0x0, 0x0, 0x0, 0x0, 0x0, false, 0x0⟩,
   ⟨0x0, 1, 0x50, 1, 4, 0x0, 0x0, 0x0, 0x0, 0x0, false, 0x0⟩,
   ⟨0x0, 1, 0x54, 1, 4, 0x0, 0x0, 0x0, 0x0, 0x0, false, 0x0⟩,
   ⟨0x0, 1, 0x58, 1, 4, 0x0, 0x0, 0x0, 0x0, 0x0, false, 0x0⟩,
   ⟨0x0, 1, 0x5c, 1, 4, 0x0, 0x0, 0x0, 0x0, 0x0, false, 0x0⟩,
   ⟨0x0, 1, 0x60, 1, 4, 0x0, 0x0, 0x0, 0x0, 0x0, false, 0x0⟩,
   ⟨0x0, 1, 0x64, 1, 4, 0x0, 0x0, 0x0, 0x0, 0x0, false, 0x96121f3c⟩,
   ⟨0x0, 1, 0x70, 1, 4, 0xffffffff, 0x0, 0x0, 0x0, 0x0, false, 0x0⟩,
   ⟨0x0, 1, 0x74, 1, 4, 0xffffffff, 0x0, 0x0, 0x0, 0x0, false, 0x0⟩,
   ⟨0x0, 1, 0x78, 1, 4, 0xffffffff, 0x0, 0x0, 0x0, 0xffffffff, false, 0x0⟩,
   ⟨0x0, 1, 0x7c, 1, 4, 0xffffffff, 0x0, 0x0, 0x0, 0xffffffff, false, 0x0⟩,
   ⟨0x0, 1, 0x800, 256, 4, 0xffffffff, 0x0, 0x0, 0x0, 0x0, false, 0x0⟩,
   ⟨0x0, 1, 0xc00, 2, 4, 0x0, 0x0, 0x0, 0x0, 0x0, false, 0x0⟩]

/-- MTX registers (R47). -/
def rowsMtx : List RegRow :=
  [⟨0x1, 1, 0x40, 1, 4, 0x0, 0x0, 0x0, 0x0, 0x0, false, 0x0⟩,
   ⟨0x1, 1, 0x44, 1, 4, 0x0, 0xc0000000, 0x0, 0x0, 0x0, false, 0x0⟩,
   ⟨0x1, 1, 0x48, 1, 4, 0x0, 0x0, 0xffffffff, 0x0, 0x0, false, 0x0⟩,
   ⟨0x1, 1, 0x4c, 1, 4, 0x0, 0x0, 0xffffffff, 0x0, 0x0, false, 0x0⟩,
   ⟨0x1, 1, 0x50, 1, 4, 0x0, 0x0, 0xffffffff, 0x0, 0x0, false, 0x0⟩,
   ⟨0x1, 1, 0x60, 33, 4, 0x0, 0x0, 0x0, 0x0, 0x0, false, 0x0⟩]

/-- PWR registers (R458). -/
def rowsPwr : List RegRow :=
  [⟨0x2, 1, 0x40, 1, 4, 0x0, 0x0, 0x0, 0xff000107, 0x0, false, 0x0⟩,
   ⟨0x2, 1, 0x44, 1, 4, 0x0, 0x0, 0xfff0000, 0x0, 0x0, false, 0x0⟩,
   ⟨0x2, 1, 0x48, 1, 4, 0x1ffffff, 0x0, 0x0, 0x0, 0x0, false, 0x1ffffff⟩,
   ⟨0x2, 1, 0x4c, 1, 4, 0x0, 0x0, 0x0, 0x0, 0x0, false, 0x1ffffff⟩,
   ⟨0x2, 1, 0x50, 1, 4, 0x0, 0x0, 0x1ffffff, 0x0, 0x0, false, 0x0⟩,
   ⟨0x2, 1, 0x54, 1, 4, 0x0, 0x0, 0x0, 0x0, 0x0, false, 0xff⟩,
   ⟨0x2, 1, 0x58, 1, 4, 0x8000ffff, 0x0, 0x0, 0x0, 0x0, false, 0x0⟩,
   ⟨0x2, 1, 0x5c, 1, 4, 0x0, 0x0, 0x0, 0xffffffff, 0x0, false, 0x0⟩,
   ⟨0x2, 1, 0x60, 1, 4, 0x0, 0x0, 0x0, 0x0, 0x0, false, 0x0⟩,
   ⟨0x2, 1, 0x64, 1, 4, 0xffffff, 0x0, 0x0, 0x80000000, 0x0, false, 0x0⟩,
   ⟨0x2, 1, 0x68, 1, 4, 0x0, 0x0, 0x0, 0x0, 0x0, false, 0x0⟩,
   ⟨0x2, 1, 0x6c, 1, 4, 0x0, 0x0, 0x0, 0x0, 0x0, false, 0x0⟩]

/-- SVC registers (R436). -/
def rowsSvc : List RegRow :=
  [⟨0x3, 1, 0x40, 1, 4, 0x1, 0x0, 0x0, 0x0, 0x0, false, 0x0⟩,
   ⟨0x3, 1, 0x44, 1, 4, 0x0, 0x0, 0x0, 0x0, 0x0, false, 0x0⟩,
   ⟨0x3, 1, 0x48, 1, 4, 0x0, 0x0, 0x0, 0x0, 0x0, false, 0x0⟩,
   ⟨0x3, 1, 0x4c, 1, 4, 0x0, 0x0, 0xffffffff, 0x0, 0x0, false, 0x0⟩,
   ⟨0x3, 1, 0x50, 1, 4, 0x0, 0x80000000, 0x0, 0x0, 0x0, false, 0x0⟩,
   ⟨0x3, 1, 0x54, 1, 4, 0x0, 0x0, 0xffffffff, 0x0, 0x0, false, 0x0⟩,
   ⟨0x3, 1, 0x58, 1, 4, 0x0, 0x80000000, 0x0, 0x0, 0x0, false, 0x0⟩,
   ⟨0x3, 1, 0x5c, 1, 4, 0x0, 0x0, 0x0, 0x0, 0x0, false, 0x0⟩]

/-- TEL registers (R437). -/
def rowsTel : List RegRow :=
  [⟨0x4, 1, 0x40, 1, 4, 0x80001fff, 0x0, 0x0, 0x0, 0x0, false, 0x0⟩,
   ⟨0x4, 1, 0x44, 1, 4, 0xfffffe00, 0x0, 0x0, 0x0, 0x0, false, 0x0⟩,
   ⟨0x4, 1, 0x48, 1, 4, 0xffffffff, 0x0, 0x0, 0x0, 0x0, false, 0x0⟩,
   ⟨0x4, 1, 0x4c, 1, 4, 0x0, 0x0, 0x0, 0x0, 0x0, false, 0x0⟩,
   ⟨0x4, 1, 0x50, 1, 4, 0xffffffff, 0x0, 0x0, 0x0, 0x0, false, 0x0⟩,
   ⟨0x4, 1, 0x54, 1, 4, 0x0, 0x0, 0xffffffff, 0x0, 0x0, false, 0x0⟩,
   ⟨0x4, 1, 0x58, 1, 4, 0xffffffff, 0x0, 0x0, 0x0, 0x0, false, 0x1f407369⟩,
   ⟨0x4, 1, 0x100, 25, 16, 0x0, 0x0, 0x0, 0x0, 0x0, false, 0x0⟩,
   ⟨0x4, 1, 0x104, 25, 16, 0x0, 0x0, 0x0, 0x0, 0x0, false, 0x0⟩,
   ⟨0x4, 1, 0x108, 25, 16, 0x0, 0x0, 0x0, 0x0, 0x0, false, 0x0⟩]

/-- SPR registers (R438). -/
def rowsSpr : List RegRow :=
  [⟨0x5, 1, 0x40, 1, 4, 0x0, 0x0, 0x0, 0x0, 0x0, false, 0x0⟩,
   ⟨0x5, 1, 0x44, 1, 4, 0x0, 0x0, 0x0, 0x0, 0x0, false, 0x0⟩,
   ⟨0x5, 1, 0x48, 1, 4, 0x0, 0x0, 0x0, 0x0, 0x0, false, 0x0⟩,
   ⟨0x5, 1, 0x4c, 1, 4, 0x0, 0x0, 0x0, 0x0, 0x0, false, 0x0⟩,
   ⟨0x5, 1, 0x100, 64, 16, 0x0, 0x0, 0x0, 0x0, 0x0, false, 0x0⟩,
   ⟨0x5, 1, 0x104, 64, 16, 0x0, 0x0, 0x0, 0x0, 0x0, false, 0x0⟩,
   ⟨0x5, 1, 0x108, 64, 16, 0x0, 0x0, 0x0, 0x0, 0x0, false, 0x0⟩,
   ⟨0x5, 1, 0x10c, 64, 16, 0x0, 0x0, 0x0, 0x0, 0x0, false, 0x0⟩]

/-- FUS registers (R49). -/
def rowsFus : List RegRow :=
  [⟨0x6, 1, 0x40, 1, 4, 0x0, 0x0, 0x0, 0xffff0003, 0x0, false, 0x0⟩,
   ⟨0x6, 1, 0x44, 1, 4, 0xfff, 0x0, 0x0, 0x0, 0x0, false, 0x0⟩,
   ⟨0x6, 1, 0x48, 1, 4, 0x0, 0x0, 0x0, 0x0, 0x0, false, 0x0⟩,
   ⟨0x6, 1, 0x4c, 1, 4, 0x0, 0xc, 0x0, 0x0, 0x0, false, 0x0⟩]

/-- TRS registers (R84, R113, R115, R137). -/
def rowsTrs : List RegRow :=
  [⟨0x10, 1, 0x40, 1, 4, 0x1, 0x0, 0x0, 0x0, 0x0, false, 0x0⟩,
   ⟨0x10, 1, 0x44, 1, 4, 0x0, 0x0, 0x0, 0x0, 0x0, false, 0x0⟩,
   ⟨0x10, 1, 0x48, 1, 4, 0x0, 0x0, 0x0, 0x0, 0x0, false, 0x0⟩,
   ⟨0x10, 1, 0x4c, 1, 4, 0x0, 0x0, 0x0, 0x0, 0x0, false, 0x0⟩,
   ⟨0x10, 1, 0x50, 1, 4, 0x0, 0x0, 0x0, 0x0, 0x0, false, 0x0⟩,
   ⟨0x10, 1, 0x54, 1, 4, 0x0, 0x0, 0x0, 0x0, 0x0, false, 0x0⟩,
   ⟨0x10, 1, 0x58, 1, 4, 0x0, 0x0, 0x0, 0x0, 0x0, false, 0x0⟩,
   ⟨0x10, 1, 0x60, 1, 4, 0x2, 0x0, 0x0, 0x1, 0x0, false, 0x0⟩,
   ⟨0x10, 1, 0x64, 1, 4, 0x0, 0x0, 0x0, 0x0, 0x0, false, 0x0⟩,
   ⟨0x10, 1, 0x68, 1, 4, 0x0, 0x0, 0x0, 0x0, 0x0, false, 0x0⟩,
   ⟨0x11, 1, 0x40, 1, 4, 0x7f, 0x0, 0x0, 0x0, 0x0, false, 0x14⟩,
   ⟨0x11, 1, 0x44, 1, 4, 0x0, 0x0, 0x0, 0x0, 0x0, false, 0x4201ffff⟩,
   ⟨0x11, 1, 0x48, 1, 4, 0x0, 0x0, 0x0, 0x0, 0x0, false, 0x0⟩,
   ⟨0x11, 1, 0x4c, 1, 4, 0x0, 0x0, 0x0, 0x0, 0x0, false, 0x16409c⟩,
   ⟨0x11, 1, 0x50, 1, 4, 0x0, 0x0, 0x0, 0x0, 0x0, false, 0x0⟩,
   ⟨0x11, 1, 0x54, 1, 4, 0x0, 0x0, 0x0, 0x0, 0x0, false, 0x0⟩,
   ⟨0x11, 1, 0x58, 1, 4, 0x0, 0x0, 0x3fffff, 0x0, 0x0, false, 0x0⟩,
   ⟨0x11, 1, 0x5c, 1, 4, 0x0, 0x0, 0x0, 0x0, 0x0, false, 0x0⟩,
   ⟨0x11, 1, 0x60, 1, 4, 0x0, 0x0, 0x0, 0x0, 0x0, false, 0x0⟩,
   ⟨0x11, 1, 0x64, 1, 4, 0x0, 0x0, 0x0, 0x0, 0x0, false, 0x0⟩,
   ⟨0x11, 1, 0x68, 1, 4, 0x0, 0x0, 0xffff, 0x0, 0x0, false, 0x0⟩,
   ⟨0x11, 1, 0x6c, 1, 4, 0x0, 0x0, 0xffffffff, 0x0, 0x0, false, 0x0⟩,
   ⟨0x11, 1, 0x70, 1, 4, 0x0, 0x0, 0xffffffff, 0x0, 0x0, false, 0x0⟩,
   ⟨0x11, 1, 0x74, 1, 4, 0x0, 0x0, 0xffffffff, 0x0, 0x0, false, 0x0⟩] ++
  [⟨0x11, 1, 0x78, 1, 4, 0x0, 0x80000000, 0x0, 0x0, 0x0, false, 0x0⟩,
   ⟨0x11, 1, 0x7c, 1, 4, 0x0, 0x0, 0x0, 0x0, 0x0, false, 0x0⟩,
   ⟨0x11, 1, 0x80, 1, 4, 0x0, 0x0, 0x0, 0x0, 0x0, false, 0x0⟩,
   ⟨0x12, 1, 0x40, 1, 4, 0x0, 0x0, 0x0, 0x0, 0x0, false, 0x0⟩,
   ⟨0x12, 1, 0x44, 1, 4, 0x0, 0x0, 0x0, 0x0, 0x0, false, 0x0⟩,
   ⟨0x12, 1, 0x48, 1, 4, 0x0, 0x0, 0x0, 0x0, 0x0, false, 0x0⟩,
   ⟨0x12, 1, 0x4c, 1, 4, 0x0, 0x0, 0x0, 0x0, 0x0, false, 0x0⟩,
   ⟨0x12, 1, 0x50, 1, 4, 0x0, 0x0, 0x0, 0x0, 0x0, false, 0x0⟩,
   ⟨0x12, 1, 0x100, 224, 4, 0x0, 0x0, 0x0, 0x0, 0x0, false, 0x0⟩,
   ⟨0x13, 1, 0x40, 1, 4, 0x1f, 0x0, 0x0, 0x0, 0x0, false, 0xd⟩,
   ⟨0x13, 1, 0x44, 1, 4, 0x0, 0x0, 0xffffffff, 0x0, 0x0, false, 0x0⟩,
   ⟨0x13, 1, 0x48, 1, 4, 0x0, 0x0, 0xffffffff, 0x0, 0x0, false, 0x0⟩,
   ⟨0x13, 1, 0x4c, 1, 4, 0x0, 0x80000000, 0x0, 0x0, 0x0, false, 0x0⟩,
   ⟨0x13, 1, 0x50, 1, 4, 0x0, 0x0, 0xffffffff, 0x0, 0x0, false, 0x0⟩,
   ⟨0x13, 1, 0x54, 1, 4, 0x0, 0x0, 0x0, 0x0, 0x0, false, 0x0⟩,
   ⟨0x13, 1, 0x58, 1, 4, 0x0, 0x0, 0x0, 0x0, 0x0, false, 0x0⟩,
   ⟨0x13, 1, 0x5c, 1, 4, 0x0, 0x0, 0x0, 0x0, 0x0, false, 0x0⟩]

/-- CRN registers (R162, R165, R168). -/
def rowsCrn : List RegRow :=
  [⟨0x21, 1, 0x800, 32, 64, 0x0, 0x0, 0x0, 0x0, 0x0, false, 0x0⟩,
   ⟨0x21, 1, 0x804, 32, 64, 0x0, 0x0, 0x0, 0x0, 0x0, false, 0x0⟩,
   ⟨0x21, 1, 0x808, 32, 64, 0x0, 0x0, 0x0, 0x0, 0x0, false, 0x0⟩,
   ⟨0x21, 1, 0x80c, 32, 64, 0x0, 0x0, 0x0, 0x0, 0x0, false, 0x0⟩,
   ⟨0x21, 1, 0x810, 32, 64, 0x0, 0x0, 0x0, 0x0, 0x0, false, 0x0⟩,
   ⟨0x21, 1, 0x814, 32, 64, 0x0, 0x0, 0x0, 0x0, 0x0, false, 0x0⟩,
   ⟨0x21, 1, 0x818, 32, 64, 0x0, 0x0, 0x0, 0x0, 0x0, false, 0x0⟩,
   ⟨0x21, 1, 0x81c, 32, 64, 0x0, 0x0, 0x0, 0x0, 0x0, false, 0x0⟩,
   ⟨0x21, 1, 0x820, 32, 64, 0x0, 0x0, 0x0, 0x0, 0x0, false, 0x0⟩,
   ⟨0x21, 1, 0x824, 32, 64, 0x0, 0x0, 0x0, 0x0, 0x0, false, 0x0⟩,
   ⟨0x21, 1, 0x828, 32, 64, 0x0, 0x0, 0x0, 0x0, 0x0, false, 0x0⟩,
   ⟨0x21, 1, 0x82c, 32, 64, 0x0, 0x0, 0x0, 0x0, 0x0, false, 0x0⟩,
   ⟨0x21, 1, 0x830, 32, 64, 0x0, 0x0, 0x0, 0x0, 0x0, false, 0x0⟩,
   ⟨0x20, 1, 0x40, 1, 4, 0x0, 0x0, 0x0, 0xffffffff, 0x0, false, 0x0⟩,
   ⟨0x20, 1, 0x44, 1, 4, 0x1fff, 0x0, 0x0, 0x0, 0x0, false, 0x100⟩,
   ⟨0x20, 1, 0x48, 1, 4, 0x0, 0x0, 0x0, 0x0, 0x0, false, 0x0⟩,
   ⟨0x20, 1, 0x4c, 1, 4, 0x7f003f, 0x0, 0x0, 0x0, 0x7f003f, false, 0x780008⟩,
   ⟨0x20, 1, 0x50, 1, 4, 0x0, 0x0, 0x0, 0x0, 0x0, false, 0x80000⟩,
   ⟨0x20, 1, 0x54, 1, 4, 0x0, 0x0, 0x0, 0x0, 0x0, false, 0x80000⟩,
   ⟨0x20, 1, 0x58, 1, 4, 0x0, 0x0, 0x0, 0x0, 0x0, false, 0x0⟩,
   ⟨0x20, 1, 0x5c, 1, 4, 0x0, 0x0, 0x0, 0x0, 0x0, false, 0x0⟩,
   ⟨0x20, 1, 0x60, 1, 4, 0x0, 0x0, 0x0, 0x0, 0x0, false, 0x0⟩,
   ⟨0x20, 1, 0x64, 1, 4, 0x0, 0x0, 0xffffffff, 0x0, 0x0, false, 0x0⟩,
   ⟨0x20, 1, 0x68, 1, 4, 0x0, 0x0, 0xffffffff, 0x0, 0x0, false, 0x0⟩] ++
  [⟨0x20, 1, 0x6c, 1, 4, 0x0, 0x0, 0xffffffff, 0x0, 0x0, false, 0x0⟩,
   ⟨0x20, 1, 0x70, 1, 4, 0x0, 0x0, 0x0, 0x0, 0x0, false, 0x0⟩,
   ⟨0x20, 1, 0x74, 1, 4, 0x0, 0x0, 0x0, 0x0, 0x0, false, 0x0⟩,
   ⟨0x22, 2, 0x800, 128, 16, 0x0, 0x0, 0x0, 0x0, 0x0, false, 0x0⟩,
   ⟨0x22, 2, 0x804, 128, 16, 0x0, 0x0, 0x0, 0x0, 0x0, false, 0x0⟩,
   ⟨0x22, 2, 0x808, 128, 16, 0x0, 0x0, 0x0, 0x0, 0x0, false, 0x0⟩,
   ⟨0x22, 2, 0x80c, 128, 16, 0x0, 0x0, 0x0, 0x0, 0x0, false, 0x0⟩]

/-- PLB registers (R278, R280, R282, R284, R286). -/
def rowsPlb : List RegRow :=
  [⟨0x30, 1, 0x40, 1, 4, 0x8f31, 0x0, 0x0, 0x0, 0x0, false, 0x0⟩,
   ⟨0x30, 1, 0x44, 1, 4, 0xffff00ff, 0x0, 0x0, 0x0, 0x0, false, 0x3c000a⟩,
   ⟨0x30, 1, 0x48, 1, 4, 0x8000037f, 0x0, 0x0, 0x0, 0x0, false, 0x10a⟩,
   ⟨0x30, 1, 0x4c, 1, 4, 0xffffffff, 0x0, 0x0, 0x0, 0x0, false, 0x0⟩,
   ⟨0x30, 1, 0x50, 1, 4, 0x0, 0x0, 0x0, 0x0, 0x0, false, 0xf00000⟩,
   ⟨0x30, 1, 0x54, 1, 4, 0xffffffff, 0x0, 0x0, 0x0, 0x0, false, 0x3c0a03e8⟩,
   ⟨0x30, 1, 0x58, 1, 4, 0xfffffc00, 0x0, 0x0, 0x0, 0x0, false, 0x400⟩,
   ⟨0x30, 1, 0x5c, 1, 4, 0x0, 0x0, 0x0, 0x0, 0x0, false, 0x0⟩,
   ⟨0x30, 1, 0x60, 1, 4, 0x0, 0x0, 0x0, 0x0, 0x0, false, 0xffffffff⟩,
   ⟨0x30, 1, 0x64, 1, 4, 0x0, 0x0, 0xffffffff, 0x0, 0x0, false, 0x0⟩,
   ⟨0x30, 1, 0x68, 1, 4, 0x0, 0x0, 0x0, 0x0, 0x0, false, 0x0⟩,
   ⟨0x31, 1, 0x40, 10, 16, 0xff8fffff, 0x0, 0x0, 0x0, 0x0, false, 0x3003264⟩,
   ⟨0x31, 1, 0x44, 10, 16, 0x0, 0x0, 0x0, 0x0, 0x0, false, 0x1ffc0000⟩,
   ⟨0x31, 1, 0x48, 10, 16, 0xffff, 0x0, 0x0, 0x0, 0x0, false, 0x0⟩,
   ⟨0x31, 1, 0x4c, 10, 16, 0x0, 0x0, 0xffffffff, 0x0, 0x0, false, 0x0⟩,
   ⟨0x32, 1, 0x40, 1, 4, 0xcffffff, 0x0, 0x0, 0xc0000000, 0x0, false, 0x6403e8⟩,
   ⟨0x32, 1, 0x44, 1, 4, 0x0, 0x0, 0x0, 0x0, 0x0, false, 0x0⟩,
   ⟨0x32, 1, 0x48, 1, 4, 0x0, 0x0, 0x0, 0x0, 0x0, false, 0x0⟩,
   ⟨0x32, 1, 0x4c, 1, 4, 0x0, 0x0, 0x0, 0x0, 0x0, false, 0x0⟩,
   ⟨0x32, 1, 0x50, 1, 4, 0x0, 0x0, 0x0, 0x0, 0x0, false, 0x0⟩,
   ⟨0x32, 1, 0x54, 1, 4, 0xffffffff, 0x0, 0x0, 0x0, 0x0, false, 0x0⟩,
   ⟨0x32, 1, 0x58, 1, 4, 0xffffffff, 0x0, 0x0, 0x0, 0x0, false, 0x0⟩,
   ⟨0x32, 1, 0x5c, 1, 4, 0x0, 0x0, 0x0, 0x0, 0x0, false, 0x0⟩,
   ⟨0x32, 1, 0x60, 1, 4, 0x0, 0x0, 0x0, 0x0, 0x0, false, 0x0⟩] ++
  [⟨0x32, 1, 0x64, 1, 4, 0x0, 0x0, 0x0, 0x0, 0x0, false, 0x0⟩,
   ⟨0x32, 1, 0x68, 1, 4, 0x0, 0x0, 0x0, 0x0, 0x0, false, 0x0⟩,
   ⟨0x32, 1, 0x6c, 1, 4, 0x0, 0x0, 0xffffffff, 0x0, 0x0, false, 0x0⟩,
   ⟨0x33, 1, 0x40, 16, 16, 0x30f0ffff, 0x0, 0x0, 0xc0000000, 0x0, false, 0x64⟩,
   ⟨0x33, 1, 0x44, 16, 16, 0xffffffff, 0x0, 0x0, 0x0, 0x0, false, 0x0⟩,
   ⟨0x33, 1, 0x48, 16, 16, 0xffff, 0x0, 0x0, 0x0, 0x0, false, 0x0⟩,
   ⟨0x33, 1, 0x4c, 16, 16, 0xffffffff, 0x0, 0x0, 0x0, 0x0, false, 0x0⟩,
   ⟨0x33, 1, 0x140, 16, 4, 0x0, 0x0, 0x0, 0x0, 0x0, false, 0x0⟩,
   ⟨0x33, 1, 0x180, 1, 4, 0x0, 0xffff, 0x0, 0x0, 0x0, false, 0x0⟩,
   ⟨0x34, 1, 0x40, 16, 16, 0xc0001ff3, 0x30000000, 0x0, 0x0, 0x0, false, 0x0⟩,
   ⟨0x34, 1, 0x44, 16, 16, 0x0, 0x0, 0x0, 0x0, 0x0, false, 0x0⟩,
   ⟨0x34, 1, 0x48, 16, 16, 0x0, 0x0, 0x0, 0x0, 0x0, false, 0x0⟩,
   ⟨0x34, 1, 0x4c, 16, 16, 0x0, 0x0, 0x0, 0x0, 0x0, false, 0x0⟩]

/-- CHS registers (R197, R199). -/
def rowsChs : List RegRow :=
  [⟨0x40, 17, 0x40, 1, 4, 0x0, 0x0, 0x0, 0x0, 0x0, false, 0x40000000⟩,
   ⟨0x40, 17, 0x44, 1, 4, 0x0, 0x0, 0x0, 0xffffffff, 0x0, false, 0x0⟩,
   ⟨0x40, 17, 0x48, 1, 4, 0x0, 0x0, 0x0, 0x0, 0x0, false, 0x0⟩,
   ⟨0x40, 17, 0x4c, 1, 4, 0x0, 0x0, 0x0, 0x0, 0x0, false, 0x0⟩,
   ⟨0x40, 17, 0x50, 1, 4, 0x0, 0x0, 0xffff, 0x0, 0x0, false, 0x0⟩,
   ⟨0x40, 17, 0x54, 1, 4, 0x0, 0x0, 0xffffffff, 0x0, 0x0, false, 0x0⟩,
   ⟨0x40, 17, 0x58, 1, 4, 0x0, 0x0, 0xffffffff, 0x0, 0x0, false, 0x0⟩,
   ⟨0x40, 17, 0x5c, 1, 4, 0x0, 0x0, 0xffffffff, 0x0, 0x0, false, 0x0⟩,
   ⟨0x40, 17, 0x60, 1, 4, 0x0, 0x80000000, 0x0, 0x0, 0x0, false, 0x0⟩,
   ⟨0x40, 17, 0x64, 1, 4, 0x0, 0x0, 0x0, 0x0, 0x0, false, 0x0⟩,
   ⟨0x40, 17, 0x68, 1, 4, 0x0, 0x0, 0x0, 0x0, 0x0, false, 0x0⟩,
   ⟨0x58, 1, 0x40, 1, 4, 0xffff, 0x0, 0x0, 0x0, 0x0, false, 0xffff⟩,
   ⟨0x58, 1, 0x44, 1, 4, 0x0, 0x0, 0x0, 0x0, 0x0, false, 0x0⟩,
   ⟨0x58, 1, 0x48, 1, 4, 0x0, 0x0, 0x0, 0x0, 0x0, false, 0x1ffff⟩,
   ⟨0x58, 1, 0x4c, 1, 4, 0x0, 0x0, 0x0, 0x0, 0x0, false, 0xffff⟩,
   ⟨0x58, 1, 0x50, 4, 4, 0x0, 0x0, 0x0, 0x0, 0x0, false, 0x0⟩,
   ⟨0x58, 1, 0x60, 1, 4, 0x0, 0x80000000, 0x0, 0x0, 0x0, false, 0x0⟩,
   ⟨0x58, 1, 0x64, 1, 4, 0x0, 0x0, 0x0, 0x0, 0x0, false, 0x0⟩,
   ⟨0x58, 1, 0x68, 1, 4, 0x0, 0x0, 0x0, 0x0, 0x0, false, 0x0⟩]

/-- MEM registers (R233, R235, R236). -/
def rowsMem : List RegRow :=
  [⟨0x60, 1, 0x40, 1, 4, 0x3, 0x0, 0x0, 0x0, 0x1, false, 0x2⟩,
   ⟨0x60, 1, 0x44, 1, 4, 0x0, 0x0, 0x0, 0x0, 0x0, false, 0x80000000⟩,
   ⟨0x60, 1, 0x48, 1, 4, 0x0, 0x0, 0x0, 0x0, 0x0, false, 0x0⟩,
   ⟨0x60, 1, 0x4c, 1, 4, 0x0, 0xc0000000, 0x0, 0x0, 0x0, false, 0x0⟩,
   ⟨0x60, 1, 0x50, 1, 4, 0x0, 0x0, 0xffffffff, 0x0, 0x0, false, 0x0⟩,
   ⟨0x60, 1, 0x54, 1, 4, 0x0, 0x0, 0xffffffff, 0x0, 0x0, false, 0x0⟩,
   ⟨0x60, 1, 0x58, 1, 4, 0x0, 0x80000000, 0x0, 0x0, 0x0, false, 0x0⟩,
   ⟨0x60, 1, 0x5c, 1, 4, 0x0, 0x0, 0x0, 0x0, 0x0, false, 0x0⟩,
   ⟨0x60, 1, 0x60, 1, 4, 0x0, 0x0, 0x0, 0x0, 0x0, false, 0x0⟩,
   ⟨0x60, 1, 0x64, 1, 4, 0x0, 0x80000000, 0x0, 0x0, 0x0, false, 0x0⟩,
   ⟨0x60, 1, 0x68, 1, 4, 0x0, 0x0, 0xffffffff, 0x0, 0x0, false, 0x0⟩,
   ⟨0x61, 1, 0x40, 8, 4, 0xffffffff, 0x0, 0x0, 0x0, 0xffffffff, false, 0xaaaaaaaa⟩,
   ⟨0x61, 1, 0x60, 4, 4, 0x0, 0x0, 0x0, 0x0, 0x0, false, 0x0⟩,
   ⟨0x61, 1, 0x80, 8, 4, 0x0, 0x0, 0x0, 0x0, 0x0, false, 0x0⟩,
   ⟨0x61, 1, 0x100, 136, 4, 0x0, 0x0, 0x0, 0x0, 0x0, false, 0x0⟩,
   ⟨0x62, 1, 0x100, 137, 4, 0x0, 0x0, 0xffffffff, 0x0, 0x0, false, 0x0⟩,
   ⟨0x63, 1, 0x100, 33, 4, 0x0, 0x0, 0xffffffff, 0x0, 0x0, false, 0x0⟩]

/-- BLY registers (R405, R406, R407). -/
def rowsBly : List RegRow :=
  [⟨0x70, 1, 0x40, 1, 4, 0x2, 0x0, 0x0, 0xff000001, 0x0, false, 0x2⟩,
   ⟨0x70, 1, 0x44, 1, 4, 0x0, 0x0, 0x0, 0x0, 0x0, false, 0x0⟩,
   ⟨0x70, 1, 0x48, 1, 4, 0x9f00ffff, 0x0, 0x0, 0x0, 0x0, false, 0x800005a0⟩,
   ⟨0x70, 1, 0x4c, 1, 4, 0x0, 0x0, 0x0, 0x0, 0x0, false, 0x0⟩,
   ⟨0x70, 1, 0x50, 1, 4, 0x0, 0x0, 0x0, 0x0, 0x0, false, 0x0⟩,
   ⟨0x70, 1, 0x54, 1, 4, 0x0, 0x0, 0x0, 0x0, 0x0, false, 0x0⟩,
   ⟨0x70, 1, 0x58, 1, 4, 0x0, 0x0, 0x0, 0x0, 0x0, false, 0x0⟩,
   ⟨0x70, 1, 0x5c, 1, 4, 0x0, 0x0, 0xffffffff, 0x0, 0x0, false, 0x0⟩,
   ⟨0x70, 1, 0x60, 1, 4, 0x0, 0x0, 0xffffffff, 0x0, 0x0, false, 0x0⟩,
   ⟨0x70, 1, 0x64, 1, 4, 0x0, 0x0, 0xffffffff, 0x0, 0x0, false, 0x0⟩,
   ⟨0x70, 1, 0x68, 1, 4, 0x0, 0x0, 0x0, 0x0, 0x0, false, 0x0⟩,
   ⟨0x70, 1, 0x6c, 1, 4, 0x0, 0x0, 0x0, 0x0, 0x0, false, 0x0⟩,
   ⟨0x70, 1, 0x70, 1, 4, 0x0, 0x0, 0x0, 0x0, 0x0, false, 0x0⟩,
   ⟨0x70, 1, 0x74, 1, 4, 0x0, 0x0, 0x0, 0x0, 0x0, false, 0x0⟩,
   ⟨0x70, 1, 0x78, 1, 4, 0x0, 0x0, 0x0, 0x0, 0x0, false, 0x0⟩,
   ⟨0x70, 1, 0x7c, 1, 4, 0x0, 0x0, 0x0, 0x0, 0x0, false, 0x0⟩,
   ⟨0x71, 1, 0x40, 1, 4, 0x0, 0x0, 0x0, 0x0, 0x0, false, 0x0⟩,
   ⟨0x71, 1, 0x44, 1, 4, 0x0, 0x0, 0x0, 0x0, 0x0, false, 0x0⟩,
   ⟨0x71, 1, 0x48, 1, 4, 0x0, 0x0, 0x0, 0x0, 0x0, false, 0x0⟩,
   ⟨0x71, 1, 0x4c, 1, 4, 0x0, 0x0, 0x0, 0x0, 0x0, false, 0x0⟩,
   ⟨0x71, 1, 0x50, 1, 4, 0x0, 0x0, 0x0, 0x0, 0x0, false, 0x0⟩,
   ⟨0x71, 1, 0x54, 1, 4, 0x0, 0x0, 0x0, 0x0, 0x0, false, 0x0⟩,
   ⟨0x71, 1, 0x58, 1, 4, 0x0, 0x0, 0x0, 0x0, 0x0, false, 0x0⟩,
   ⟨0x72, 1, 0x40, 4, 16, 0x0, 0x0, 0x0, 0x0, 0x0, false, 0x0⟩] ++
  [⟨0x72, 1, 0x44, 4, 16, 0x0, 0x0, 0xffffffff, 0x0, 0x0, false, 0x0⟩,
   ⟨0x72, 1, 0x48, 4, 16, 0x0, 0x0, 0xffffffff, 0x0, 0x0, false, 0x0⟩,
   ⟨0x72, 1, 0x4c, 4, 16, 0x0, 0x0, 0xffffffff, 0x0, 0x0, false, 0x0⟩]

/-- TYD registers (R370, R371, R372, R373, R374). -/
def rowsTyd : List RegRow :=
  [⟨0x78, 1, 0x40, 1, 4, 0xc0ffffff, 0x0, 0x0, 0x0, 0x80000000, false, 0x71814⟩,
   ⟨0x78, 1, 0x44, 1, 4, 0x0, 0x0, 0x0, 0x0, 0x0, false, 0x0⟩,
   ⟨0x78, 1, 0x48, 1, 4, 0x7fffff, 0x0, 0x0, 0x0, 0x0, false, 0x0⟩,
   ⟨0x78, 1, 0x4c, 1, 4, 0x0, 0x0, 0x0, 0x0, 0x0, false, 0x0⟩,
   ⟨0x78, 1, 0x50, 1, 4, 0x7fffff, 0x0, 0x0, 0x0, 0x0, false, 0x0⟩,
   ⟨0x78, 1, 0x54, 1, 4, 0x0, 0x0, 0x0, 0x0, 0x0, false, 0x0⟩,
   ⟨0x78, 1, 0x58, 1, 4, 0x0, 0x0, 0x0, 0x0, 0x0, false, 0x0⟩,
   ⟨0x78, 1, 0x5c, 1, 4, 0x0, 0x0, 0xffffff, 0x0, 0x0, false, 0x0⟩,
   ⟨0x78, 1, 0x60, 1, 4, 0x0, 0x0, 0xffffffff, 0x0, 0x0, false, 0x0⟩,
   ⟨0x78, 1, 0x64, 1, 4, 0x0, 0x0, 0xffffffff, 0x0, 0x0, false, 0x0⟩,
   ⟨0x78, 1, 0x68, 1, 4, 0x0, 0x0, 0x0, 0x0, 0x0, false, 0x0⟩,
   ⟨0x78, 1, 0x6c, 1, 4, 0x0, 0x0, 0x0, 0x0, 0x0, false, 0x0⟩,
   ⟨0x7a, 1, 0x40, 1, 4, 0xffff, 0x0, 0x0, 0x0, 0x0, false, 0x1e0⟩,
   ⟨0x7a, 1, 0x44, 1, 4, 0x0, 0x0, 0xffffffff, 0x0, 0x0, false, 0x0⟩,
   ⟨0x7a, 1, 0x800, 64, 16, 0x1fffff, 0x0, 0x0, 0xc0000000, 0x0, false, 0x0⟩,
   ⟨0x7a, 1, 0x804, 64, 16, 0xffff, 0x0, 0x0, 0x0, 0x0, false, 0x0⟩,
   ⟨0x7a, 1, 0x808, 64, 16, 0x0, 0x0, 0x0, 0x0, 0x0, false, 0x0⟩,
   ⟨0x7a, 1, 0x80c, 64, 16, 0x0, 0x0, 0x0, 0x0, 0x0, false, 0x0⟩,
   ⟨0x7b, 1, 0x40, 8, 16, 0x80000fff, 0x0, 0x0, 0x0, 0x0, false, 0xa01⟩,
   ⟨0x7b, 1, 0x44, 8, 16, 0x0, 0x0, 0x0, 0x0, 0x0, false, 0x0⟩,
   ⟨0x7b, 1, 0x48, 8, 16, 0x0, 0x0, 0x0, 0x0, 0x0, false, 0x0⟩,
   ⟨0x7b, 1, 0x4c, 8, 16, 0x0, 0x0, 0x0, 0x0, 0x0, false, 0x0⟩,
   ⟨0x79, 1, 0x800, 512, 4, 0xf00007ff, 0x0, 0x0, 0x0, 0x0, true, 0x0⟩,
   ⟨0x79, 1, 0x40, 1, 4, 0x0, 0x0, 0x0, 0x0, 0x0, false, 0x0⟩] ++
  [⟨0x7c, 1, 0x40, 3, 4, 0xffffffff, 0x0, 0x0, 0x0, 0x0, false, 0x0⟩,
   ⟨0x7c, 1, 0x4c, 1, 4, 0xffff, 0x0, 0x0, 0x0, 0x0, false, 0x10⟩,
   ⟨0x7c, 1, 0x50, 1, 4, 0x0, 0x0, 0x0, 0x0, 0x0, false, 0x0⟩,
   ⟨0x7c, 1, 0x54, 1, 4, 0x0, 0x0, 0x0, 0x0, 0x0, false, 0x0⟩,
   ⟨0x7c, 1, 0x58, 1, 4, 0x0, 0x0, 0x0, 0x0, 0x0, false, 0x0⟩,
   ⟨0x7c, 1, 0x5c, 3, 4, 0x0, 0x0, 0x0, 0x0, 0x0, false, 0x0⟩,
   ⟨0x7d, 1, 0x100, 540, 4, 0x0, 0x0, 0x0, 0x0, 0x0, false, 0x0⟩]

/-- PRT registers (R256). -/
def rowsPrt : List RegRow :=
  [⟨0x80, 32, 0x40, 1, 4, 0xc01f0000, 0x0, 0x0, 0x0, 0x0, true, 0x0⟩,
   ⟨0x80, 32, 0x44, 1, 4, 0xfffe03ff, 0x0, 0x0, 0x0, 0x0, true, 0x18f00000⟩,
   ⟨0x80, 32, 0x48, 1, 4, 0xc3000000, 0x0, 0x0, 0x0, 0x0, true, 0x0⟩,
   ⟨0x80, 32, 0x4c, 1, 4, 0xc3010000, 0x0, 0x0, 0x0, 0x0, true, 0x10000⟩,
   ⟨0x80, 32, 0x50, 1, 4, 0xffffffff, 0x0, 0x0, 0x0, 0x0, true, 0xffffffff⟩,
   ⟨0x80, 32, 0x54, 1, 4, 0x0, 0x0, 0x0, 0x0, 0x0, false, 0x0⟩,
   ⟨0x80, 32, 0x58, 1, 4, 0x0, 0x0, 0x0, 0x0, 0x0, false, 0x0⟩,
   ⟨0x80, 32, 0x5c, 1, 4, 0x0, 0x0, 0xffffffff, 0x0, 0x0, false, 0x0⟩,
   ⟨0x80, 32, 0x60, 1, 4, 0x0, 0x0, 0xffffffff, 0x0, 0x0, false, 0x0⟩,
   ⟨0x80, 32, 0x80, 16, 4, 0x0, 0x0, 0xffffffff, 0x0, 0x0, false, 0x0⟩,
   ⟨0x80, 32, 0xc0, 1, 4, 0xff0f01ff, 0x0, 0x0, 0x0, 0x0, true, 0x4020064⟩,
   ⟨0x80, 32, 0xc4, 1, 4, 0x0, 0x0, 0x0, 0x0, 0x0, false, 0x0⟩]

/-- AES registers (R258). -/
def rowsAes : List RegRow :=
  [⟨0xa0, 16, 0x40, 1, 4, 0xfc1f03ff, 0x0, 0x0, 0x0, 0x0, true, 0x8000000⟩,
   ⟨0xa0, 16, 0x44, 1, 4, 0x0, 0x0, 0x0, 0x0, 0x0, false, 0x0⟩,
   ⟨0xa0, 16, 0x48, 1, 4, 0x0, 0x0, 0x0, 0x3, 0x0, false, 0x0⟩,
   ⟨0xa0, 16, 0x4c, 1, 4, 0x0, 0x0, 0x0, 0x0, 0x0, false, 0x0⟩,
   ⟨0xa0, 16, 0x50, 1, 4, 0x0, 0x0, 0xffffffff, 0x0, 0x0, false, 0x0⟩,
   ⟨0xa0, 16, 0x54, 1, 4, 0x0, 0x0, 0xffff, 0x0, 0x0, false, 0x0⟩,
   ⟨0xa0, 16, 0x58, 1, 4, 0x0, 0x0, 0xffff, 0x0, 0x0, false, 0x0⟩,
   ⟨0xa0, 16, 0x5c, 1, 4, 0x0, 0x0, 0xffffffff, 0x0, 0x0, false, 0x0⟩,
   ⟨0xa0, 16, 0x60, 1, 4, 0x0, 0x0, 0x0, 0x0, 0x0, false, 0x0⟩,
   ⟨0xa0, 16, 0x100, 6, 4, 0x0, 0x0, 0x0, 0x0, 0x0, false, 0x0⟩,
   ⟨0xa0, 16, 0x120, 6, 4, 0x0, 0x0, 0x0, 0x0, 0x0, false, 0x0⟩,
   ⟨0xa0, 16, 0x140, 6, 4, 0x0, 0x0, 0x0, 0x0, 0x0, false, 0x0⟩,
   ⟨0xa0, 16, 0x160, 6, 4, 0x0, 0x0, 0x0, 0x0, 0x0, false, 0x0⟩,
   ⟨0xa0, 16, 0x180, 6, 4, 0xffffffff, 0x0, 0x0, 0x0, 0x0, true, 0x0⟩,
   ⟨0xa0, 16, 0x1a0, 6, 4, 0xffffffff, 0x0, 0x0, 0x0, 0x0, true, 0x0⟩,
   ⟨0xa0, 16, 0x1c0, 6, 4, 0xffffffff, 0x0, 0x0, 0x0, 0x0, true, 0x0⟩,
   ⟨0xa0, 16, 0x1e0, 6, 4, 0xffffffff, 0x0, 0x0, 0x0, 0x0, true, 0x0⟩]

/-- LNE registers (R417, R418). -/
def rowsLne : List RegRow :=
  [⟨0xb0, 12, 0x40, 1, 4, 0xe0000000, 0x0, 0x0, 0x0, 0x0, false, 0xe0000000⟩,
   ⟨0xb0, 12, 0x44, 1, 4, 0x0, 0x0, 0x0, 0x0, 0x0, false, 0x0⟩,
   ⟨0xb0, 12, 0x48, 1, 4, 0x3f3f3f, 0x0, 0x0, 0x0, 0x0, false, 0x43408⟩,
   ⟨0xb0, 12, 0x4c, 1, 4, 0x0, 0x0, 0x0, 0x0, 0x0, false, 0x0⟩,
   ⟨0xb0, 12, 0x50, 1, 4, 0xf0000000, 0x0, 0x0, 0x0, 0x0, false, 0x0⟩,
   ⟨0xb0, 12, 0x54, 1, 4, 0x0, 0x0, 0xffffffff, 0x0, 0x0, false, 0x0⟩,
   ⟨0xb0, 12, 0x58, 1, 4, 0x0, 0x0, 0xffffffff, 0x0, 0x0, false, 0x0⟩,
   ⟨0xb0, 12, 0x5c, 1, 4, 0x0, 0x0, 0xffffffff, 0x0, 0x0, false, 0x0⟩,
   ⟨0xbf, 1, 0x40, 1, 4, 0x3, 0x0, 0x0, 0x0, 0x0, false, 0x0⟩,
   ⟨0xbf, 1, 0x44, 1, 4, 0x0, 0x0, 0x0, 0x0, 0x0, false, 0x0⟩,
   ⟨0xbf, 1, 0x48, 1, 4, 0x0, 0x0, 0xffffffff, 0x0, 0x0, false, 0x0⟩]

/-- NET registers (R317, R318, R319, R320). -/
def rowsNet : List RegRow :=
  [⟨0xc0, 1, 0x40, 4, 32, 0xfffff1ff, 0x0, 0x0, 0x0, 0x0, false, 0x4b⟩,
   ⟨0xc0, 1, 0x44, 4, 32, 0x0, 0x0, 0x0, 0x0, 0x0, false, 0x0⟩,
   ⟨0xc0, 1, 0x48, 4, 32, 0xffffffff, 0x0, 0x0, 0x0, 0x0, false, 0x0⟩,
   ⟨0xc0, 1, 0x4c, 4, 32, 0xffffffff, 0x0, 0x0, 0x0, 0x0, false, 0x0⟩,
   ⟨0xc0, 1, 0x50, 4, 32, 0xffff, 0x0, 0x0, 0x0, 0x0, false, 0x0⟩,
   ⟨0xc0, 1, 0x54, 4, 32, 0x0, 0x0, 0xffffffff, 0x0, 0x0, false, 0x0⟩,
   ⟨0xc0, 1, 0x58, 4, 32, 0x0, 0x0, 0xffffffff, 0x0, 0x0, false, 0x0⟩,
   ⟨0xc0, 1, 0x5c, 4, 32, 0x0, 0x0, 0xffffffff, 0x0, 0x0, false, 0x0⟩,
   ⟨0xc0, 1, 0xc0, 1, 4, 0x3f3f3f3f, 0x0, 0x0, 0x0, 0x0, true, 0x2222002e⟩,
   ⟨0xc0, 1, 0x100, 16, 4, 0xf000ffff, 0x0, 0x0, 0x0, 0x0, false, 0x0⟩,
   ⟨0xc1, 1, 0x40, 2, 32, 0xffffffff, 0x0, 0x0, 0x0, 0x0, false, 0x8080⟩,
   ⟨0xc1, 1, 0x44, 2, 32, 0xffffffff, 0x0, 0x0, 0x0, 0x0, false, 0x1000003⟩,
   ⟨0xc1, 1, 0x48, 2, 32, 0x0, 0x0, 0x0, 0x0, 0x0, false, 0x0⟩,
   ⟨0xc1, 1, 0x4c, 2, 32, 0xffffffff, 0x0, 0x0, 0x0, 0x0, false, 0x0⟩,
   ⟨0xc1, 1, 0x50, 2, 32, 0x0, 0x0, 0x0, 0x0, 0x0, false, 0x0⟩,
   ⟨0xc1, 1, 0x54, 2, 32, 0x0, 0x0, 0x0, 0x0, 0x0, false, 0x0⟩,
   ⟨0xc1, 1, 0x58, 2, 32, 0x0, 0x0, 0x0, 0x0, 0x0, false, 0x0⟩,
   ⟨0xc2, 2, 0x40, 1, 4, 0x0, 0x0, 0x0, 0x0, 0x0, false, 0x0⟩,
   ⟨0xc2, 1, 0x800, 128, 16, 0x0, 0x0, 0x0, 0x0, 0x0, false, 0x0⟩,
   ⟨0xc2, 1, 0x804, 128, 16, 0x0, 0x0, 0x0, 0x0, 0x0, false, 0x0⟩,
   ⟨0xc2, 1, 0x808, 128, 16, 0x0, 0x0, 0xffffffff, 0x0, 0x0, false, 0x0⟩,
   ⟨0xc2, 1, 0x80c, 128, 16, 0x0, 0x0, 0xffffffff, 0x0, 0x0, false, 0x0⟩,
   ⟨0xc3, 1, 0x800, 128, 16, 0x0, 0x0, 0x0, 0x0, 0x0, false, 0x0⟩,
   ⟨0xc3, 1, 0x804, 128, 16, 0x0, 0x0, 0x0, 0x0, 0x0, false, 0x0⟩] ++
  [⟨0xc3, 1, 0x808, 128, 16, 0x0, 0x0, 0xffffffff, 0x0, 0x0, false, 0x0⟩,
   ⟨0xc3, 1, 0x80c, 128, 16, 0x0, 0x0, 0xffffffff, 0x0, 0x0, false, 0x0⟩,
   ⟨0xc4, 1, 0x40, 1, 4, 0xf8ffffff, 0x0, 0x0, 0x0, 0x0, true, 0x3ba5e⟩,
   ⟨0xc4, 1, 0x44, 1, 4, 0xffffffff, 0x0, 0x0, 0x0, 0x0, true, 0xc80064⟩,
   ⟨0xc4, 1, 0x48, 1, 4, 0x7fffff, 0x0, 0x0, 0x0, 0x0, true, 0x0⟩,
   ⟨0xc4, 1, 0x4c, 1, 4, 0x0, 0x0, 0x0, 0x0, 0x0, false, 0x0⟩,
   ⟨0xc4, 1, 0x50, 1, 4, 0x0, 0x0, 0x0, 0x0, 0x0, false, 0x0⟩,
   ⟨0xc4, 1, 0x54, 1, 4, 0x0, 0x0, 0xffffffff, 0x0, 0x0, false, 0x0⟩,
   ⟨0xc4, 1, 0x800, 64, 16, 0x0, 0x0, 0x0, 0x0, 0x0, false, 0x0⟩,
   ⟨0xc4, 1, 0x804, 64, 16, 0x0, 0x0, 0xffffffff, 0x0, 0x0, false, 0x0⟩,
   ⟨0xc4, 1, 0x808, 64, 16, 0x0, 0x0, 0xffffffff, 0x0, 0x0, false, 0x0⟩]

/-- MLT registers (R344). -/
def rowsMlt : List RegRow :=
  [⟨0xd0, 1, 0x40, 1, 4, 0x80000000, 0x0, 0x0, 0x0, 0x0, false, 0x0⟩,
   ⟨0xd0, 1, 0x44, 1, 4, 0xffffffff, 0x0, 0x0, 0x0, 0x0, true, 0xa14020a⟩,
   ⟨0xd0, 1, 0x48, 1, 4, 0xffffffff, 0x0, 0x0, 0x0, 0x0, true, 0x190190a⟩,
   ⟨0xd0, 1, 0x4c, 1, 4, 0xffffffff, 0x0, 0x0, 0x0, 0x0, false, 0x0⟩,
   ⟨0xd0, 1, 0x50, 1, 4, 0xffffffff, 0x0, 0x0, 0x0, 0x0, false, 0x0⟩,
   ⟨0xd0, 1, 0x54, 1, 4, 0x0, 0x0, 0x0, 0x1, 0x0, false, 0x0⟩,
   ⟨0xd0, 1, 0x58, 1, 4, 0x0, 0x0, 0x0, 0x0, 0x0, false, 0x0⟩,
   ⟨0xd0, 1, 0x5c, 1, 4, 0x0, 0x0, 0x0, 0x0, 0x0, false, 0x0⟩,
   ⟨0xd0, 1, 0x60, 1, 4, 0x0, 0x0, 0x0, 0x0, 0x0, false, 0x0⟩,
   ⟨0xd0, 1, 0x64, 1, 4, 0x0, 0x0, 0x0, 0x0, 0x0, false, 0x0⟩,
   ⟨0xd0, 1, 0x68, 1, 4, 0x0, 0x0, 0x0, 0x0, 0x0, false, 0x0⟩,
   ⟨0xd0, 1, 0x6c, 1, 4, 0x0, 0x0, 0x0, 0x0, 0x0, false, 0x0⟩]

/-- MLC registers (R345). -/
def rowsMlc : List RegRow :=
  [⟨0x100, 64, 0x40, 1, 4, 0xf01f0000, 0x0, 0x0, 0x0, 0x0, true, 0x50000000⟩,
   ⟨0x100, 64, 0x44, 1, 4, 0xff0303ff, 0x0, 0x0, 0x0, 0x0, true, 0x28010000⟩,
   ⟨0x100, 64, 0x48, 1, 4, 0xffffffff, 0x0, 0x0, 0x0, 0x0, true, 0x1902010⟩,
   ⟨0x100, 64, 0x4c, 1, 4, 0xffff80ff, 0x0, 0x0, 0x0, 0x0, true, 0x1e080f3⟩,
   ⟨0x100, 64, 0x50, 1, 4, 0xffffffff, 0x0, 0x0, 0x0, 0x0, true, 0x1f407d0⟩,
   ⟨0x100, 64, 0x54, 1, 4, 0xffffffff, 0x0, 0x0, 0x0, 0x0, true, 0x5dc0803⟩,
   ⟨0x100, 64, 0x58, 1, 4, 0xffffffff, 0x0, 0x0, 0x0, 0x0, true, 0x3e8000a⟩,
   ⟨0x100, 64, 0x5c, 1, 4, 0xffffffff, 0x0, 0x0, 0x0, 0x0, true, 0x960a1f40⟩,
   ⟨0x100, 64, 0x60, 1, 4, 0xffffffff, 0x0, 0x0, 0x0, 0x0, true, 0xc80096⟩,
   ⟨0x100, 64, 0x64, 1, 4, 0xffffffff, 0x0, 0x0, 0x0, 0x0, true, 0x1f4012c⟩,
   ⟨0x100, 64, 0x68, 1, 4, 0xffffffff, 0x0, 0x0, 0x0, 0x0, true, 0x280a060a⟩,
   ⟨0x100, 64, 0x6c, 1, 4, 0x0, 0x0, 0x0, 0x2, 0x0, false, 0x0⟩,
   ⟨0x100, 64, 0x70, 1, 4, 0x0, 0x0, 0x0, 0x0, 0x0, false, 0x0⟩,
   ⟨0x100, 64, 0x74, 1, 4, 0x0, 0x0, 0x0, 0x0, 0x0, false, 0x0⟩,
   ⟨0x100, 64, 0x78, 1, 4, 0x0, 0x0, 0x0, 0x0, 0x0, false, 0x0⟩,
   ⟨0x100, 64, 0x7c, 1, 4, 0x0, 0x0, 0x0, 0x0, 0x0, false, 0x0⟩,
   ⟨0x100, 64, 0x80, 1, 4, 0x0, 0x0, 0x0, 0x0, 0x0, false, 0x0⟩,
   ⟨0x100, 64, 0x84, 1, 4, 0x0, 0x0, 0xffffffff, 0x0, 0x0, false, 0x0⟩,
   ⟨0x100, 64, 0x88, 1, 4, 0x1fff0000, 0x0, 0x0, 0x80000000, 0x0, false, 0xf000000⟩,
   ⟨0x100, 64, 0x8c, 1, 4, 0xffffffff, 0x0, 0x0, 0x0, 0x0, false, 0x144e20⟩,
   ⟨0x100, 64, 0x100, 32, 4, 0x0, 0x0, 0x0, 0x0, 0x0, false, 0x0⟩]

/-- The rows of a page. -/
def rowsOfPage (p : Nat) : List RegRow :=
  if p = 0x0 then rowsSys
  else if p = 0x1 then rowsMtx
  else if p = 0x2 then rowsPwr
  else if p = 0x3 then rowsSvc
  else if p = 0x4 then rowsTel
  else if p = 0x5 then rowsSpr
  else if p = 0x6 then rowsFus
  else if 0x10 ≤ p ∧ p < 0x20 then rowsTrs
  else if 0x20 ≤ p ∧ p < 0x30 then rowsCrn
  else if 0x30 ≤ p ∧ p < 0x40 then rowsPlb
  else if 0x40 ≤ p ∧ p < 0x59 then rowsChs
  else if 0x60 ≤ p ∧ p < 0x68 then rowsMem
  else if 0x70 ≤ p ∧ p < 0x74 then rowsBly
  else if 0x78 ≤ p ∧ p < 0x80 then rowsTyd
  else if 0x80 ≤ p ∧ p < 0xa0 then rowsPrt
  else if 0xa0 ≤ p ∧ p < 0xb0 then rowsAes
  else if 0xb0 ≤ p ∧ p < 0xc0 then rowsLne
  else if 0xc0 ≤ p ∧ p < 0xd0 then rowsNet
  else if p = 0xd0 then rowsMlt
  else if 0x100 ≤ p ∧ p < 0x140 then rowsMlc
  else []

/-- The row covers offset `o` of page `p`. -/
def RegRow.covers (r : RegRow) (p o : Nat) : Bool :=
  decide (r.page ≤ p) && decide (p < r.page + r.np) && decide (r.off ≤ o) &&
    decide ((o - r.off) % r.stride = 0) && decide ((o - r.off) / r.stride < r.n)

/-- The row of the register at offset `a` from 0x0100_0000. -/
def regRow (a : Nat) : Option RegRow :=
  (rowsOfPage (a / 0x1000)).find? fun r => r.covers (a / 0x1000) (a % 0x1000)

/-- The RC fields of a row, as their highest and lowest bits: most are one field. -/
def RegRow.rcFields (r : RegRow) : List (Nat × Nat) :=
  if (r.page, r.off) ∈ [(0x80, 0x5c), (0x80, 0x60), (0xa0, 0x50), (0xa0, 0x5c), (0xc2, 0x808), (0xc4, 0x808), (0xb0, 0x58), (0xb0, 0x5c), (0xbf, 0x48)] then [(31, 16), (15, 0)]
  else if (r.page, r.off) ∈ [(0xc2, 0x80c), (0xc4, 0x804), (0x100, 0x84)] then [(31, 16), (15, 8), (7, 0)]
  else if r.page = 0x78 ∧ r.off = 0x5c then [(23, 16), (15, 8), (7, 0)]
  else if r.page = 0x62 ∧ r.off = 0x100 then [(31, 24), (23, 0)]
  else if r.rc = 0 then [] else [(Nat.log2 r.rc, if r.page = 2 ∧ r.off = 0x44 then 16 else 0)]

def SYS_CTRL : Nat := 0x40
def SYS_CTRL_WARM_KEY : Fld := ⟨0x40, 15, 8⟩
def SYS_CTRL_WARM_RESET : Fld := ⟨0x40, 1, 1⟩
def SYS_CTRL_REMAP : Fld := ⟨0x40, 0, 0⟩
def SYS_STAT : Nat := 0x44
def SYS_STAT_MODE : Fld := ⟨0x44, 31, 29⟩
def SYS_STAT_DEGRADED : Fld := ⟨0x44, 28, 28⟩
def SYS_STAT_LAST_RESET : Fld := ⟨0x44, 7, 4⟩
def SYS_STAT_SELFTEST_CAUSE : Fld := ⟨0x44, 3, 0⟩
def SYS_STEPPING : Nat := 0x48
def SYS_LOT_LO : Nat := 0x4c
def SYS_LOT_HI : Nat := 0x50
def SYS_DIE_POS : Nat := 0x54
def SYS_FUSEMAP_REV : Nat := 0x58
def SYS_DIE_ID_LO : Nat := 0x5c
def SYS_DIE_ID_HI : Nat := 0x60
def SYS_VENDOR : Nat := 0x64
def SYS_IRQ_MASK_LO : Nat := 0x70
def SYS_IRQ_MASK_HI : Nat := 0x74
def SYS_SCRATCH0 : Nat := 0x78
def SYS_SCRATCH1 : Nat := 0x7c
def MTX_ERR_ADDR : Nat := 0x1040
def MTX_ERR_INFO : Nat := 0x1044
def MTX_ERR_INFO_VALID : Fld := ⟨0x1044, 31, 31⟩
def MTX_ERR_INFO_OVERFLOW : Fld := ⟨0x1044, 30, 30⟩
def MTX_ERR_INFO_MASTER : Fld := ⟨0x1044, 23, 16⟩
def MTX_ERR_INFO_CAUSE : Fld := ⟨0x1044, 15, 12⟩
def MTX_ERR_INFO_WRITE : Fld := ⟨0x1044, 8, 8⟩
def MTX_ERR_INFO_SIZE : Fld := ⟨0x1044, 7, 0⟩
def MTX_ERR_CNT : Nat := 0x1048
def MTX_INJ_REFUSED : Nat := 0x104c
def MTX_RT_OVER : Nat := 0x1050
def MTX_WAIT : Nat := 0x1060
def FUS_CTRL : Nat := 0x6040
def FUS_CTRL_KEY : Fld := ⟨0x6040, 31, 16⟩
def FUS_CTRL_BLOW : Fld := ⟨0x6040, 1, 1⟩
def FUS_CTRL_SENSE : Fld := ⟨0x6040, 0, 0⟩
def FUS_ADDR : Nat := 0x6044
def FUS_RDATA : Nat := 0x6048
def FUS_STAT : Nat := 0x604c
def FUS_STAT_LOCK_ERR : Fld := ⟨0x604c, 3, 3⟩
def FUS_STAT_BLOW_FAIL : Fld := ⟨0x604c, 2, 2⟩
def FUS_STAT_SENSE_BUSY : Fld := ⟨0x604c, 1, 1⟩
def FUS_STAT_BLOW_BUSY : Fld := ⟨0x604c, 0, 0⟩
def TRS_TABLE_SEL : Nat := 0x10040
def TRS_TABLE_SEL_LIVE : Fld := ⟨0x10040, 0, 0⟩
def TRS_GRAPH_STAT : Nat := 0x10044
def TRS_GRAPH_STAT_XFADE : Fld := ⟨0x10044, 8, 8⟩
def TRS_GRAPH_STAT_MAX_DEPTH : Fld := ⟨0x10044, 3, 0⟩
def TRS_EDGE_COUNT : Nat := 0x10048
def TRS_SOS_COUNT : Nat := 0x1004c
def TRS_STRIP_COUNT : Nat := 0x10050
def TRS_STRIP_COUNT_INPUT : Fld := ⟨0x10050, 31, 21⟩
def TRS_STRIP_COUNT_BUS : Fld := ⟨0x10050, 20, 11⟩
def TRS_STRIP_COUNT_OUTPUT : Fld := ⟨0x10050, 10, 0⟩
def TRS_LIVE_IDX_LO : Nat := 0x10054
def TRS_LIVE_IDX_HI : Nat := 0x10058
def TRS_CHECK_CTRL : Nat := 0x10060
def TRS_CHECK_CTRL_COPY : Fld := ⟨0x10060, 1, 1⟩
def TRS_CHECK_CTRL_START : Fld := ⟨0x10060, 0, 0⟩
def TRS_CHECK_STAT : Nat := 0x10064
def TRS_CHECK_STAT_CODE : Fld := ⟨0x10064, 31, 24⟩
def TRS_CHECK_STAT_KIND : Fld := ⟨0x10064, 23, 20⟩
def TRS_CHECK_STAT_INDEX : Fld := ⟨0x10064, 18, 0⟩
def TRS_CHECK_PATH : Nat := 0x10068
def TRS_CHECK_PATH_LEN : Fld := ⟨0x10068, 31, 28⟩
def TRS_CHECK_PATH_FIRST : Fld := ⟨0x10068, 27, 16⟩
def TRS_CHECK_PATH_LAST : Fld := ⟨0x10068, 11, 0⟩
def TRS_SCHED_CTRL : Nat := 0x11040
def TRS_SCHED_CTRL_GUARD : Fld := ⟨0x11040, 6, 0⟩
def TRS_LANE_STAT : Nat := 0x11044
def TRS_LANE_STAT_JOINING : Fld := ⟨0x11044, 31, 31⟩
def TRS_LANE_STAT_PAIR_LANES : Fld := ⟨0x11044, 30, 26⟩
def TRS_LANE_STAT_WORKING : Fld := ⟨0x11044, 25, 21⟩
def TRS_LANE_STAT_LANE_OK : Fld := ⟨0x11044, 16, 0⟩
def TRS_SPARE : Nat := 0x11048
def TRS_SPARE_IN_USE : Fld := ⟨0x11048, 31, 31⟩
def TRS_SPARE_STANDS_FOR : Fld := ⟨0x11048, 4, 0⟩
def TRS_CAPACITY : Nat := 0x1104c
def TRS_LOAD_STATIC : Nat := 0x11050
def TRS_LOAD_NOW : Nat := 0x11054
def TRS_LOAD_PEAK : Nat := 0x11058
def TRS_BUDGET_STAT : Nat := 0x1105c
def TRS_BUDGET_STAT_CODE : Fld := ⟨0x1105c, 31, 24⟩
def TRS_BUDGET_STAT_BATCHES : Fld := ⟨0x1105c, 23, 16⟩
def TRS_BUDGET_STAT_CONE_CLASS : Fld := ⟨0x1105c, 15, 14⟩
def TRS_BUDGET_STAT_CONE_FAIL : Fld := ⟨0x1105c, 13, 13⟩
def TRS_BUDGET_STAT_STEP : Fld := ⟨0x1105c, 12, 11⟩
def TRS_BUDGET_STAT_SET_STREAM : Fld := ⟨0x1105c, 10, 0⟩
def TRS_BUDGET_NEED : Nat := 0x11060
def TRS_BATCH_STAT : Nat := 0x11064
def TRS_BATCH_STAT_BATCH : Fld := ⟨0x11064, 31, 24⟩
def TRS_BATCH_STAT_BATCHES : Fld := ⟨0x11064, 23, 16⟩
def TRS_LAT_MAX : Nat := 0x11068
def TRS_LAT_OVER : Nat := 0x1106c
def TRS_OVERRUN : Nat := 0x11070
def TRS_LATE_OUT : Nat := 0x11074
def TRS_FAULT_INFO : Nat := 0x11078
def TRS_FAULT_INFO_VALID : Fld := ⟨0x11078, 31, 31⟩
def TRS_FAULT_INFO_REISSUED : Fld := ⟨0x11078, 8, 8⟩
def TRS_FAULT_INFO_LANE : Fld := ⟨0x11078, 4, 0⟩
def TRS_FAULT_IDX_LO : Nat := 0x1107c
def TRS_FAULT_IDX_HI : Nat := 0x11080
def TRS_SHED_STAT : Nat := 0x12040
def TRS_SHED_STAT_STEP : Fld := ⟨0x12040, 31, 30⟩
def TRS_SHED_STAT_OVERLOAD : Fld := ⟨0x12040, 29, 29⟩
def TRS_SHED_CNT_A : Nat := 0x12044
def TRS_SHED_CNT_A_MUTE2 : Fld := ⟨0x12044, 27, 16⟩
def TRS_SHED_CNT_A_BYP2 : Fld := ⟨0x12044, 11, 0⟩
def TRS_SHED_CNT_B : Nat := 0x12048
def TRS_SHED_CNT_B_BYP1 : Fld := ⟨0x12048, 11, 0⟩
def TRS_SHED_IDX_LO : Nat := 0x1204c
def TRS_SHED_IDX_HI : Nat := 0x12050
def TRS_SHED_MAP : Nat := 0x12100
def TRS_STRIP_CTRL : Nat := 0x13040
def TRS_STRIP_CTRL_RMS_SHIFT : Fld := ⟨0x13040, 4, 0⟩
def TRS_ZC_FORCED : Nat := 0x13044
def TRS_CLIP_CNT : Nat := 0x13048
def TRS_CLIP_FIRST : Nat := 0x1304c
def TRS_CLIP_FIRST_VALID : Fld := ⟨0x1304c, 31, 31⟩
def TRS_CLIP_FIRST_CLASS : Fld := ⟨0x1304c, 13, 12⟩
def TRS_CLIP_FIRST_STRIP : Fld := ⟨0x1304c, 11, 0⟩
def TRS_DLY_ERR : Nat := 0x13050
def TRS_DUCK_BUSES : Nat := 0x13054
def TRS_METER_IDX_LO : Nat := 0x13058
def TRS_METER_IDX_HI : Nat := 0x1305c
def J_SEQ : Nat := 0x21800
def J_INFO : Nat := 0x21804
def J_INFO_SCENE : Fld := ⟨0x21804, 23, 16⟩
def J_INFO_DIRECT : Fld := ⟨0x21804, 15, 15⟩
def J_INFO_STATE : Fld := ⟨0x21804, 14, 12⟩
def J_INFO_TARGET : Fld := ⟨0x21804, 11, 10⟩
def J_INFO_LAW : Fld := ⟨0x21804, 9, 9⟩
def J_INFO_ACTIVE : Fld := ⟨0x21804, 8, 8⟩
def J_FLIP_LO : Nat := 0x21808
def J_FLIP_HI : Nat := 0x2180c
def J_UNITS : Nat := 0x21810
def J_FLIPPED : Nat := 0x21814
def J_DONE : Nat := 0x21818
def J_PEER_FLIPPED : Nat := 0x2181c
def J_PEER_DONE : Nat := 0x21820
def J_FAULT : Nat := 0x21824
def J_FAULT_PEER_VALID : Fld := ⟨0x21824, 31, 31⟩
def J_FAULT_TAKEOVER : Fld := ⟨0x21824, 30, 30⟩
def J_FAULT_LATE : Fld := ⟨0x21824, 29, 29⟩
def J_FAULT_UNIT_FAULT : Fld := ⟨0x21824, 28, 28⟩
def J_FAULT_FAULT_UNIT : Fld := ⟨0x21824, 4, 0⟩
def J_END_LO : Nat := 0x21828
def J_END_HI : Nat := 0x2182c
def J_XWIN : Nat := 0x21830
def CRN_DOORBELL : Nat := 0x20040
def CRN_CTRL : Nat := 0x20044
def CRN_CTRL_XWIN_DEF : Fld := ⟨0x20044, 12, 0⟩
def CRN_STAT : Nat := 0x20048
def CRN_STAT_STATE : Fld := ⟨0x20048, 31, 29⟩
def CRN_STAT_STORING : Fld := ⟨0x20048, 28, 28⟩
def CRN_STAT_SCENE : Fld := ⟨0x20048, 23, 16⟩
def CRN_STAT_DIRECT : Fld := ⟨0x20048, 15, 15⟩
def CRN_STAT_OUTSTANDING : Fld := ⟨0x20048, 8, 0⟩
def CRN_STORE_CTRL : Nat := 0x2004c
def CRN_STORE_CTRL_FIRST_BANK : Fld := ⟨0x2004c, 22, 16⟩
def CRN_STORE_CTRL_BANKS : Fld := ⟨0x2004c, 5, 0⟩
def CRN_STORE_FREE : Nat := 0x20050
def CRN_STORE_RUN : Nat := 0x20054
def CRN_ARM_IDX_LO : Nat := 0x20058
def CRN_ARM_IDX_HI : Nat := 0x2005c
def CRN_LAST_SEQ : Nat := 0x20060
def CRN_CMD_CNT : Nat := 0x20064
def CRN_DUP_CNT : Nat := 0x20068
def CRN_REFUSED_CNT : Nat := 0x2006c
def CRN_JNL_NEXT : Nat := 0x20070
def CRN_STAGE_TIME : Nat := 0x20074
def DIR_LOC : Nat := 0x22800
def DIR_LOC_VALID : Fld := ⟨0x22800, 31, 31⟩
def DIR_LEN : Nat := 0x22804
def DIR_LEN_LENGTH : Fld := ⟨0x22804, 20, 0⟩
def DIR_REC : Nat := 0x22808
def DIR_REC_RECORDS : Fld := ⟨0x22808, 16, 0⟩
def DIR_SEQ : Nat := 0x2280c
def CHS_CORE_STAT : Nat := 0x40040
def CHS_CORE_STAT_RETIRED : Fld := ⟨0x40040, 31, 31⟩
def CHS_CORE_STAT_RESET : Fld := ⟨0x40040, 30, 30⟩
def CHS_CORE_STAT_GATED : Fld := ⟨0x40040, 29, 29⟩
def CHS_CORE_STAT_RUNNING : Fld := ⟨0x40040, 28, 28⟩
def CHS_CORE_STAT_SELECTED : Fld := ⟨0x40040, 27, 27⟩
def CHS_CORE_STAT_BANK : Fld := ⟨0x40040, 26, 26⟩
def CHS_CORE_STAT_LOGICAL : Fld := ⟨0x40040, 20, 16⟩
def CHS_CORE_STAT_PC : Fld := ⟨0x40040, 11, 0⟩
def CHS_DOORBELL : Nat := 0x40044
def CHS_PASS_CNT : Nat := 0x40048
def CHS_CYC_LAST : Nat := 0x4004c
def CHS_CYC_MAX : Nat := 0x40050
def CHS_OVERRUN : Nat := 0x40054
def CHS_SKIP : Nat := 0x40058
def CHS_BERR : Nat := 0x4005c
def CHS_FAULT_INFO : Nat := 0x40060
def CHS_FAULT_INFO_VALID : Fld := ⟨0x40060, 31, 31⟩
def CHS_FAULT_INFO_CAUSE : Fld := ⟨0x40060, 15, 12⟩
def CHS_FAULT_INFO_PC : Fld := ⟨0x40060, 11, 0⟩
def CHS_FAULT_IDX_LO : Nat := 0x40064
def CHS_FAULT_IDX_HI : Nat := 0x40068
def CHS_RESET : Nat := 0x58040
def CHS_SPARE : Nat := 0x58044
def CHS_SPARE_IN_USE : Fld := ⟨0x58044, 31, 31⟩
def CHS_SPARE_STANDS_FOR : Fld := ⟨0x58044, 4, 0⟩
def CHS_CORE_OK : Nat := 0x58048
def CHS_DARK : Nat := 0x5804c
def CHS_LMAP : Nat := 0x58050
def CHS_LMAP_VALID : Fld := ⟨0x58050, 7, 7⟩
def CHS_MIGRATE : Nat := 0x58060
def CHS_MIGRATE_VALID : Fld := ⟨0x58060, 31, 31⟩
def CHS_MIGRATE_FROM_PEER : Fld := ⟨0x58060, 30, 30⟩
def CHS_MIGRATE_FROM_PHYS : Fld := ⟨0x58060, 20, 16⟩
def CHS_MIGRATE_TO_PHYS : Fld := ⟨0x58060, 12, 8⟩
def CHS_MIGRATE_LOGICAL : Fld := ⟨0x58060, 3, 0⟩
def CHS_MIGRATE_IDX_LO : Nat := 0x58064
def CHS_MIGRATE_IDX_HI : Nat := 0x58068
def MEM_CTRL : Nat := 0x60040
def MEM_CTRL_TEST_EN : Fld := ⟨0x60040, 1, 1⟩
def MEM_CTRL_REPAIR_AUTO : Fld := ⟨0x60040, 0, 0⟩
def MEM_STAT : Nat := 0x60044
def MEM_STAT_SPARES_LEFT : Fld := ⟨0x60044, 31, 28⟩
def MEM_STAT_COL_PEND : Fld := ⟨0x60044, 27, 20⟩
def MEM_STAT_FAILING : Fld := ⟨0x60044, 19, 12⟩
def MEM_ERR_ADDR : Nat := 0x60048
def MEM_ERR_INFO : Nat := 0x6004c
def MEM_ERR_INFO_VALID : Fld := ⟨0x6004c, 31, 31⟩
def MEM_ERR_INFO_OVERFLOW : Fld := ⟨0x6004c, 30, 30⟩
def MEM_ERR_INFO_UE : Fld := ⟨0x6004c, 29, 29⟩
def MEM_ERR_INFO_MASTER : Fld := ⟨0x6004c, 23, 16⟩
def MEM_ERR_INFO_SYNDROME : Fld := ⟨0x6004c, 15, 8⟩
def MEM_ERR_INFO_BIT : Fld := ⟨0x6004c, 6, 0⟩
def MEM_CE_TOTAL : Nat := 0x60050
def MEM_UE_TOTAL : Nat := 0x60054
def MBX_STAT : Nat := 0x60058
def MBX_STAT_COLLIDE : Fld := ⟨0x60058, 31, 31⟩
def MBX_STAT_MASTER : Fld := ⟨0x60058, 23, 16⟩
def MBX_STAT_WORD : Fld := ⟨0x60058, 11, 0⟩
def MEM_TEST_POS : Nat := 0x6005c
def MEM_TEST_SWEEPS : Nat := 0x60060
def MEM_TEST_FAIL : Nat := 0x60064
def MEM_TEST_FAIL_VALID : Fld := ⟨0x60064, 31, 31⟩
def MEM_TEST_FAIL_PHYS_BANK : Fld := ⟨0x60064, 30, 23⟩
def MEM_TEST_FAIL_BIT : Fld := ⟨0x60064, 22, 16⟩
def MEM_TEST_FAIL_REGION : Fld := ⟨0x60064, 9, 0⟩
def MEM_TEST_SKIP : Nat := 0x60068
def MEM_BANK_STATE : Nat := 0x61040
def MEM_BANK_BUSY : Nat := 0x61060
def MEM_SPARE_MAP : Nat := 0x61080
def MEM_SPARE_MAP_IN_USE : Fld := ⟨0x61080, 31, 31⟩
def MEM_SPARE_MAP_FUSED : Fld := ⟨0x61080, 30, 30⟩
def MEM_SPARE_MAP_COPYING : Fld := ⟨0x61080, 29, 29⟩
def MEM_COL : Nat := 0x61100
def PRT_CTRL : Nat := 0x80040
def PRT_CTRL_TX_EN : Fld := ⟨0x80040, 31, 31⟩
def PRT_CTRL_RX_EN : Fld := ⟨0x80040, 30, 30⟩
def PRT_CTRL_START_SRC : Fld := ⟨0x80040, 20, 16⟩
def PRT_FMT : Nat := 0x80044
def PRT_FMT_SLOTS_M1 : Fld := ⟨0x80044, 31, 28⟩
def PRT_FMT_SLOT_BITS : Fld := ⟨0x80044, 27, 26⟩
def PRT_FMT_RATE : Fld := ⟨0x80044, 25, 23⟩
def PRT_FMT_FS_LEN : Fld := ⟨0x80044, 22, 22⟩
def PRT_FMT_FS_POL : Fld := ⟨0x80044, 21, 21⟩
def PRT_FMT_DELAY : Fld := ⟨0x80044, 20, 20⟩
def PRT_FMT_RX_EDGE : Fld := ⟨0x80044, 19, 19⟩
def PRT_FMT_TX_EDGE : Fld := ⟨0x80044, 18, 18⟩
def PRT_FMT_TX_HIZ : Fld := ⟨0x80044, 17, 17⟩
def PRT_FMT_FS_PHASE : Fld := ⟨0x80044, 9, 0⟩
def PRT_RX_CLK : Nat := 0x80048
def PRT_RX_CLK_MODE : Fld := ⟨0x80048, 31, 30⟩
def PRT_RX_CLK_PIN : Fld := ⟨0x80048, 25, 24⟩
def PRT_TX_CLK : Nat := 0x8004c
def PRT_TX_CLK_MODE : Fld := ⟨0x8004c, 31, 30⟩
def PRT_TX_CLK_PIN : Fld := ⟨0x8004c, 25, 24⟩
def PRT_TX_CLK_LAG : Fld := ⟨0x8004c, 16, 16⟩
def PRT_SLOT_EN : Nat := 0x80050
def PRT_STAT : Nat := 0x80054
def PRT_STAT_RX_STATE : Fld := ⟨0x80054, 31, 29⟩
def PRT_STAT_TX_STATE : Fld := ⟨0x80054, 28, 26⟩
def PRT_STAT_RX_ELASTIC : Fld := ⟨0x80054, 25, 25⟩
def PRT_STAT_TX_ELASTIC : Fld := ⟨0x80054, 24, 24⟩
def PRT_FILL : Nat := 0x80058
def PRT_SLIP : Nat := 0x8005c
def PRT_ERR : Nat := 0x80060
def PRT_ERR_FRAME_ERR : Fld := ⟨0x80060, 31, 16⟩
def PRT_ERR_CLK_LOSS : Fld := ⟨0x80060, 15, 0⟩
def PRT_CLIP : Nat := 0x80080
def PRT_GRP_CTRL : Nat := 0x800c0
def PRT_GRP_CTRL_STEER_EN : Fld := ⟨0x800c0, 31, 31⟩
def PRT_GRP_CTRL_STEER_SIDE : Fld := ⟨0x800c0, 30, 30⟩
def PRT_GRP_CTRL_STEER_PIN : Fld := ⟨0x800c0, 29, 28⟩
def PRT_GRP_CTRL_LOOP_BW : Fld := ⟨0x800c0, 27, 26⟩
def PRT_GRP_CTRL_MCLK_SEL : Fld := ⟨0x800c0, 25, 24⟩
def PRT_GRP_CTRL_FILL_TGT : Fld := ⟨0x800c0, 19, 16⟩
def PRT_GRP_CTRL_TRIM_MAX : Fld := ⟨0x800c0, 8, 0⟩
def PRT_GRP_STAT : Nat := 0x800c4
def PRT_GRP_STAT_STEERING : Fld := ⟨0x800c4, 31, 31⟩
def PRT_GRP_STAT_AT_LIMIT : Fld := ⟨0x800c4, 30, 30⟩
def PRT_GRP_STAT_TRIM : Fld := ⟨0x800c4, 15, 0⟩
def AES_CTRL : Nat := 0xa0040
def AES_CTRL_TX_EN : Fld := ⟨0xa0040, 31, 31⟩
def AES_CTRL_RX_EN : Fld := ⟨0xa0040, 30, 30⟩
def AES_CTRL_AUX20 : Fld := ⟨0xa0040, 29, 29⟩
def AES_CTRL_V_ABSENT : Fld := ⟨0xa0040, 28, 28⟩
def AES_CTRL_TX_CRCC : Fld := ⟨0xa0040, 27, 27⟩
def AES_CTRL_TX_V_FORCE : Fld := ⟨0xa0040, 26, 26⟩
def AES_CTRL_START_SRC : Fld := ⟨0xa0040, 20, 16⟩
def AES_CTRL_TX_PHASE : Fld := ⟨0xa0040, 9, 0⟩
def AES_STAT : Nat := 0xa0044
def AES_STAT_LOCK : Fld := ⟨0xa0044, 31, 31⟩
def AES_STAT_CRCC_OK_A : Fld := ⟨0xa0044, 30, 30⟩
def AES_STAT_CRCC_OK_B : Fld := ⟨0xa0044, 29, 29⟩
def AES_STAT_V_A : Fld := ⟨0xa0044, 28, 28⟩
def AES_STAT_V_B : Fld := ⟨0xa0044, 27, 27⟩
def AES_STAT_TX_STATE : Fld := ⟨0xa0044, 26, 24⟩
def AES_STAT_RATE_ERR : Fld := ⟨0xa0044, 15, 0⟩
def AES_TX_UPD : Nat := 0xa0048
def AES_TX_UPD_US_LOAD : Fld := ⟨0xa0048, 1, 1⟩
def AES_TX_UPD_CS_LOAD : Fld := ⟨0xa0048, 0, 0⟩
def AES_RX_BLOCKS : Nat := 0xa004c
def AES_RX_ERR : Nat := 0xa0050
def AES_RX_SLIP : Nat := 0xa0054
def AES_BLOCK_ERR : Nat := 0xa0058
def AES_CLIP : Nat := 0xa005c
def AES_RX_FILL : Nat := 0xa0060
def AES_RX_CS_A : Nat := 0xa0100
def AES_RX_CS_B : Nat := 0xa0120
def AES_RX_US_A : Nat := 0xa0140
def AES_RX_US_B : Nat := 0xa0160
def AES_TX_CS_A : Nat := 0xa0180
def AES_TX_CS_B : Nat := 0xa01a0
def AES_TX_US_A : Nat := 0xa01c0
def AES_TX_US_B : Nat := 0xa01e0
def PLB_CTRL : Nat := 0x30040
def PLB_CTRL_FORCE_EN : Fld := ⟨0x30040, 15, 15⟩
def PLB_CTRL_FORCE_REF : Fld := ⟨0x30040, 11, 8⟩
def PLB_CTRL_SEL_MODE : Fld := ⟨0x30040, 5, 4⟩
def PLB_CTRL_RATE : Fld := ⟨0x30040, 0, 0⟩
def PLB_SEL_TIME : Nat := 0x30044
def PLB_SEL_TIME_WTR : Fld := ⟨0x30044, 31, 16⟩
def PLB_SEL_TIME_QUAL_TIME : Fld := ⟨0x30044, 7, 0⟩
def PLB_LOOP_CTRL : Nat := 0x30048
def PLB_LOOP_CTRL_LOOP_OPEN : Fld := ⟨0x30048, 31, 31⟩
def PLB_LOOP_CTRL_BW : Fld := ⟨0x30048, 9, 8⟩
def PLB_LOOP_CTRL_SLEW : Fld := ⟨0x30048, 6, 0⟩
def PLB_SYN_FREQ : Nat := 0x3004c
def PLB_SYN_STAT : Nat := 0x30050
def PLB_SYN_STAT_STATE : Fld := ⟨0x30050, 31, 29⟩
def PLB_SYN_STAT_AVG_HOLD : Fld := ⟨0x30050, 28, 28⟩
def PLB_SYN_STAT_OUT_OF_SPEC : Fld := ⟨0x30050, 27, 27⟩
def PLB_SYN_STAT_SEL_REF : Fld := ⟨0x30050, 23, 20⟩
def PLB_SYN_STAT_PHASE_ERR : Fld := ⟨0x30050, 15, 0⟩
def PLB_HOLD_CFG : Nat := 0x30054
def PLB_HOLD_CFG_WINDOW : Fld := ⟨0x30054, 31, 24⟩
def PLB_HOLD_CFG_GUARD : Fld := ⟨0x30054, 23, 16⟩
def PLB_HOLD_CFG_HOLD_SPEC : Fld := ⟨0x30054, 15, 0⟩
def PLB_OSC_CFG : Nat := 0x30058
def PLB_OSC_CFG_GRADE : Fld := ⟨0x30058, 31, 30⟩
def PLB_OSC_CFG_E0 : Fld := ⟨0x30058, 29, 20⟩
def PLB_OSC_CFG_DRIFT : Fld := ⟨0x30058, 19, 10⟩
def PLB_HOLD_TIME : Nat := 0x3005c
def PLB_HOLD_LEFT : Nat := 0x30060
def PLB_SWITCH_CNT : Nat := 0x30064
def PLB_LAST_SWITCH : Nat := 0x30068
def PLB_LAST_SWITCH_FROM : Fld := ⟨0x30068, 31, 28⟩
def PLB_LAST_SWITCH_TO : Fld := ⟨0x30068, 27, 24⟩
def PLB_LAST_SWITCH_PHASE_STEP : Fld := ⟨0x30068, 23, 0⟩
def PLB_REF_CFG : Nat := 0x31040
def PLB_REF_CFG_EN : Fld := ⟨0x31040, 31, 31⟩
def PLB_REF_CFG_PRIO : Fld := ⟨0x31040, 30, 27⟩
def PLB_REF_CFG_QUAL : Fld := ⟨0x31040, 26, 23⟩
def PLB_REF_CFG_SRC : Fld := ⟨0x31040, 19, 16⟩
def PLB_REF_CFG_ACCEPT : Fld := ⟨0x31040, 15, 8⟩
def PLB_REF_CFG_REJECT : Fld := ⟨0x31040, 7, 0⟩
def PLB_REF_STAT : Nat := 0x31044
def PLB_REF_STAT_STATE : Fld := ⟨0x31044, 31, 29⟩
def PLB_REF_STAT_Q : Fld := ⟨0x31044, 28, 25⟩
def PLB_REF_STAT_ACC : Fld := ⟨0x31044, 24, 17⟩
def PLB_REF_STAT_FREQ_ERR : Fld := ⟨0x31044, 15, 0⟩
def PLB_REF_OFS : Nat := 0x31048
def PLB_REF_OFS_PHASE_OFS : Fld := ⟨0x31048, 15, 0⟩
def PLB_REF_LOSS : Nat := 0x3104c
def PLB_TIME_CTRL : Nat := 0x32040
def PLB_TIME_CTRL_REARM : Fld := ⟨0x32040, 31, 31⟩
def PLB_TIME_CTRL_HOST_SET : Fld := ⟨0x32040, 30, 30⟩
def PLB_TIME_CTRL_SRC_SEL : Fld := ⟨0x32040, 27, 26⟩
def PLB_TIME_CTRL_RATE_MAX : Fld := ⟨0x32040, 23, 16⟩
def PLB_TIME_CTRL_STEP_THR : Fld := ⟨0x32040, 15, 0⟩
def PLB_TIME_STAT : Nat := 0x32044
def PLB_TIME_STAT_SRC : Fld := ⟨0x32044, 31, 29⟩
def PLB_TIME_STAT_SET : Fld := ⟨0x32044, 28, 28⟩
def PLB_TIME_STAT_STEP_ALARM : Fld := ⟨0x32044, 27, 27⟩
def PLB_TIME_STAT_ARMED_STEP : Fld := ⟨0x32044, 26, 26⟩
def PLB_TIME_STAT_RATE_CORR : Fld := ⟨0x32044, 15, 0⟩
def PLB_TIME_LO : Nat := 0x32048
def PLB_TIME_HI : Nat := 0x3204c
def PLB_TIME_OFS : Nat := 0x32050
def PLB_TIME_SET_LO : Nat := 0x32054
def PLB_TIME_SET_HI : Nat := 0x32058
def PLB_TICK_TIME_LO : Nat := 0x3205c
def PLB_TICK_TIME_HI : Nat := 0x32060
def PLB_TICK_IDX_LO : Nat := 0x32064
def PLB_TICK_IDX_HI : Nat := 0x32068
def PLB_STEP_CNT : Nat := 0x3206c
def PLB_CMP_CTRL : Nat := 0x33040
def PLB_CMP_CTRL_ARM : Fld := ⟨0x33040, 31, 31⟩
def PLB_CMP_CTRL_STOP : Fld := ⟨0x33040, 30, 30⟩
def PLB_CMP_CTRL_QUANT : Fld := ⟨0x33040, 29, 29⟩
def PLB_CMP_CTRL_PERIODIC : Fld := ⟨0x33040, 28, 28⟩
def PLB_CMP_CTRL_LATE : Fld := ⟨0x33040, 27, 27⟩
def PLB_CMP_CTRL_PIN : Fld := ⟨0x33040, 23, 20⟩
def PLB_CMP_CTRL_PULSE : Fld := ⟨0x33040, 15, 0⟩
def PLB_CMP_TGT_LO : Nat := 0x33044
def PLB_CMP_TGT_HI : Nat := 0x33048
def PLB_CMP_PERIOD : Nat := 0x3304c
def PLB_CMP_FIRE : Nat := 0x33140
def PLB_CMP_FIRED : Nat := 0x33180
def NET_PORT_CTRL : Nat := 0xc0040
def NET_PORT_CTRL_EN : Fld := ⟨0xc0040, 31, 31⟩
def NET_PORT_CTRL_MODE : Fld := ⟨0xc0040, 30, 29⟩
def NET_PORT_CTRL_FEC : Fld := ⟨0xc0040, 28, 27⟩
def NET_PORT_CTRL_AN : Fld := ⟨0xc0040, 26, 26⟩
def NET_PORT_CTRL_ALT_LANE : Fld := ⟨0xc0040, 25, 25⟩
def NET_PORT_CTRL_VLAN_EN : Fld := ⟨0xc0040, 24, 24⟩
def NET_PORT_CTRL_VID : Fld := ⟨0xc0040, 23, 12⟩
def NET_PORT_CTRL_ESMC_TX : Fld := ⟨0xc0040, 8, 8⟩
def NET_PORT_CTRL_MEDIA_PCT : Fld := ⟨0xc0040, 7, 0⟩
def NET_PORT_STAT : Nat := 0xc0044
def NET_PORT_STAT_LINK : Fld := ⟨0xc0044, 31, 31⟩
def NET_PORT_STAT_AN_DONE : Fld := ⟨0xc0044, 30, 30⟩
def NET_PORT_STAT_FEC : Fld := ⟨0xc0044, 29, 28⟩
def NET_PORT_IP : Nat := 0xc0048
def NET_PORT_MAC_LO : Nat := 0xc004c
def NET_PORT_MAC_HI : Nat := 0xc0050
def NET_PORT_RXDROP : Nat := 0xc0054
def NET_PORT_RXCRC : Nat := 0xc0058
def NET_PORT_TXDROP : Nat := 0xc005c
def NET_QOS : Nat := 0xc00c0
def NET_QOS_DSCP_C0 : Fld := ⟨0xc00c0, 29, 24⟩
def NET_QOS_DSCP_C1 : Fld := ⟨0xc00c0, 21, 16⟩
def NET_QOS_DSCP_C2 : Fld := ⟨0xc00c0, 13, 8⟩
def NET_QOS_DSCP_TT : Fld := ⟨0xc00c0, 5, 0⟩
def NET_CAPF : Nat := 0xc0100
def NET_CAPF_EN : Fld := ⟨0xc0100, 31, 31⟩
def NET_CAPF_MATCH : Fld := ⟨0xc0100, 30, 30⟩
def NET_CAPF_PORT : Fld := ⟨0xc0100, 29, 28⟩
def NET_CAPF_VALUE : Fld := ⟨0xc0100, 15, 0⟩
def PTP_CTRL : Nat := 0xc1040
def PTP_CTRL_EN : Fld := ⟨0xc1040, 31, 31⟩
def PTP_CTRL_PROFILE : Fld := ⟨0xc1040, 30, 28⟩
def PTP_CTRL_PORT : Fld := ⟨0xc1040, 27, 26⟩
def PTP_CTRL_MASTER_OK : Fld := ⟨0xc1040, 25, 25⟩
def PTP_CTRL_ONE_STEP : Fld := ⟨0xc1040, 24, 24⟩
def PTP_CTRL_DOMAIN : Fld := ⟨0xc1040, 23, 16⟩
def PTP_CTRL_PRIO1 : Fld := ⟨0xc1040, 15, 8⟩
def PTP_CTRL_PRIO2 : Fld := ⟨0xc1040, 7, 0⟩
def PTP_INTV : Nat := 0xc1044
def PTP_STAT : Nat := 0xc1048
def PTP_ASYM : Nat := 0xc104c
def PTP_MPD : Nat := 0xc1050
def PTP_GM_LO : Nat := 0xc1054
def PTP_GM_HI : Nat := 0xc1058
def NET_STRM_SUM : Nat := 0xc2040
def RXS_STAT : Nat := 0xc2800
def RXS_STAT_OPEN : Fld := ⟨0xc2800, 31, 31⟩
def RXS_STAT_RED : Fld := ⟨0xc2800, 30, 30⟩
def RXS_STAT_A_RCV : Fld := ⟨0xc2800, 29, 29⟩
def RXS_STAT_B_RCV : Fld := ⟨0xc2800, 28, 28⟩
def RXS_STAT_CLASS : Fld := ⟨0xc2800, 27, 26⟩
def RXS_STAT_CHANNELS : Fld := ⟨0xc2800, 6, 0⟩
def RXS_PKTS : Nat := 0xc2804
def RXS_LOST : Nat := 0xc2808
def RXS_BAD : Nat := 0xc280c
def RXS_BAD_LATE : Fld := ⟨0xc280c, 31, 16⟩
def RXS_BAD_EARLY : Fld := ⟨0xc280c, 15, 8⟩
def RXS_BAD_MALFORMED : Fld := ⟨0xc280c, 7, 0⟩
def TXS_STAT : Nat := 0xc3800
def TXS_STAT_OPEN : Fld := ⟨0xc3800, 31, 31⟩
def TXS_STAT_RED : Fld := ⟨0xc3800, 30, 30⟩
def TXS_STAT_CLASS : Fld := ⟨0xc3800, 27, 26⟩
def TXS_STAT_CHANNELS : Fld := ⟨0xc3800, 6, 0⟩
def TXS_PKTS : Nat := 0xc3804
def TXS_DROP : Nat := 0xc3808
def TXS_CLIP : Nat := 0xc380c
def NET_TT_CTRL : Nat := 0xc4040
def NET_TT_CTRL_EN : Fld := ⟨0xc4040, 31, 31⟩
def NET_TT_CTRL_CMP : Fld := ⟨0xc4040, 30, 27⟩
def NET_TT_CTRL_HOLD : Fld := ⟨0xc4040, 23, 16⟩
def NET_TT_CTRL_UDP : Fld := ⟨0xc4040, 15, 0⟩
def NET_TT_TIME : Nat := 0xc4044
def NET_TT_TIME_WR_LEAD : Fld := ⟨0xc4044, 31, 16⟩
def NET_TT_TIME_RESEND_WAIT : Fld := ⟨0xc4044, 15, 0⟩
def NET_TT_BASE : Nat := 0xc4048
def NET_TT_BASE_BASE : Fld := ⟨0xc4048, 22, 0⟩
def NET_TT_CYCLE : Nat := 0xc404c
def NET_TT_SWEEP : Nat := 0xc4050
def NET_TT_SWEEP_BUSY : Fld := ⟨0xc4050, 31, 31⟩
def NET_TT_SHORT : Nat := 0xc4054
def TTS_STAT : Nat := 0xc4800
def TTS_STAT_STATE : Fld := ⟨0xc4800, 31, 29⟩
def TTS_STAT_SAFE : Fld := ⟨0xc4800, 28, 28⟩
def TTS_CNT : Nat := 0xc4804
def TTS_CNT_ACKMISS : Fld := ⟨0xc4804, 7, 0⟩
def TTS_ERR : Nat := 0xc4808
def TTS_ERR_BAD : Fld := ⟨0xc4808, 31, 16⟩
def TTS_ERR_LATE : Fld := ⟨0xc4808, 15, 0⟩
def MLT_GCTRL : Nat := 0xd0040
def MLT_GCTRL_SCLK_EN : Fld := ⟨0xd0040, 31, 31⟩
def MLT_DIAG_CFG0 : Nat := 0xd0044
def MLT_DIAG_CFG0_SC_PULSE : Fld := ⟨0xd0044, 31, 24⟩
def MLT_DIAG_CFG0_LOAD_MS : Fld := ⟨0xd0044, 23, 16⟩
def MLT_DIAG_CFG0_XW_MS : Fld := ⟨0xd0044, 15, 8⟩
def MLT_DIAG_CFG0_TEST_V : Fld := ⟨0xd0044, 7, 0⟩
def MLT_DIAG_CFG1 : Nat := 0xd0048
def MLT_DIAG_CFG1_OPEN_PCT : Fld := ⟨0xd0048, 31, 16⟩
def MLT_DIAG_CFG1_SHORT_PCT : Fld := ⟨0xd0048, 15, 8⟩
def MLT_DIAG_CFG1_XW_PCT : Fld := ⟨0xd0048, 7, 0⟩
def MLT_DIAG_MASK_LO : Nat := 0xd004c
def MLT_DIAG_MASK_HI : Nat := 0xd0050
def MLT_DIAG_CMD : Nat := 0xd0054
def MLT_DIAG_CMD_START : Fld := ⟨0xd0054, 0, 0⟩
def MLT_RUN_LO : Nat := 0xd0058
def MLT_RUN_HI : Nat := 0xd005c
def MLT_LATCH_LO : Nat := 0xd0060
def MLT_LATCH_HI : Nat := 0xd0064
def MLT_THLIM_LO : Nat := 0xd0068
def MLT_THLIM_HI : Nat := 0xd006c
def MLT_CTRL : Nat := 0x100040
def MLT_CTRL_EN : Fld := ⟨0x100040, 31, 31⟩
def MLT_CTRL_DIAG_EN : Fld := ⟨0x100040, 30, 30⟩
def MLT_CTRL_BRIDGE : Fld := ⟨0x100040, 29, 29⟩
def MLT_CTRL_MOD : Fld := ⟨0x100040, 28, 28⟩
def MLT_CTRL_START_SRC : Fld := ⟨0x100040, 20, 16⟩
def MLT_PWM : Nat := 0x100044
def MLT_PWM_DEAD : Fld := ⟨0x100044, 31, 24⟩
def MLT_PWM_CAR_SEL : Fld := ⟨0x100044, 17, 16⟩
def MLT_PWM_PHASE : Fld := ⟨0x100044, 9, 0⟩
def MLT_LOOP : Nat := 0x100048
def MLT_LOOP_VOUT_FS : Fld := ⟨0x100048, 31, 16⟩
def MLT_LOOP_KP : Fld := ⟨0x100048, 15, 8⟩
def MLT_LOOP_KI : Fld := ⟨0x100048, 7, 0⟩
def MLT_SUPPLY : Nat := 0x10004c
def MLT_SUPPLY_V_BUS : Fld := ⟨0x10004c, 31, 16⟩
def MLT_SUPPLY_FF : Fld := ⟨0x10004c, 15, 15⟩
def MLT_SUPPLY_DMAX : Fld := ⟨0x10004c, 7, 0⟩
def MLT_SENSE : Nat := 0x100050
def MLT_SENSE_VFS : Fld := ⟨0x100050, 31, 16⟩
def MLT_SENSE_IFS : Fld := ⟨0x100050, 15, 0⟩
def MLT_OC : Nat := 0x100054
def MLT_OC_ILIM : Fld := ⟨0x100054, 31, 16⟩
def MLT_OC_OC_COUNT : Fld := ⟨0x100054, 15, 8⟩
def MLT_OC_RETRIES : Fld := ⟨0x100054, 7, 0⟩
def MLT_RETRY : Nat := 0x100058
def MLT_RETRY_RETRY_MS : Fld := ⟨0x100058, 31, 16⟩
def MLT_RETRY_CLEAR_S : Fld := ⟨0x100058, 15, 0⟩
def MLT_TH_A : Nat := 0x10005c
def MLT_TH_A_T_MAX : Fld := ⟨0x10005c, 31, 24⟩
def MLT_TH_A_LIM_BAND : Fld := ⟨0x10005c, 23, 16⟩
def MLT_TH_A_R_NOM : Fld := ⟨0x10005c, 15, 0⟩
def MLT_TH_B : Nat := 0x100060
def MLT_TH_B_RTH_C : Fld := ⟨0x100060, 31, 16⟩
def MLT_TH_B_RTH_M : Fld := ⟨0x100060, 15, 0⟩
def MLT_TH_C : Nat := 0x100064
def MLT_TH_C_TAU_C : Fld := ⟨0x100064, 31, 16⟩
def MLT_TH_C_TAU_M : Fld := ⟨0x100064, 15, 0⟩
def MLT_TH_D : Nat := 0x100068
def MLT_TH_D_T_AMB : Fld := ⟨0x100068, 31, 24⟩
def MLT_TH_D_F_RE : Fld := ⟨0x100068, 23, 16⟩
def MLT_TH_D_ATT : Fld := ⟨0x100068, 15, 8⟩
def MLT_TH_D_REL : Fld := ⟨0x100068, 7, 0⟩
def MLT_CMD : Nat := 0x10006c
def MLT_CMD_CLEAR : Fld := ⟨0x10006c, 1, 1⟩
def MLT_CH_STAT : Nat := 0x100070
def MLT_CH_STAT_STATE : Fld := ⟨0x100070, 31, 29⟩
def MLT_CH_STAT_CAUSE : Fld := ⟨0x100070, 28, 26⟩
def MLT_CH_STAT_RETRY_USED : Fld := ⟨0x100070, 25, 18⟩
def MLT_CH_STAT_LIMITING : Fld := ⟨0x100070, 17, 17⟩
def MLT_CH_STAT_SENSE_OK : Fld := ⟨0x100070, 16, 16⟩
def MLT_DIAG_RES : Nat := 0x100074
def MLT_DIAG_RES_SENSE : Fld := ⟨0x100074, 31, 28⟩
def MLT_DIAG_RES_SCG : Fld := ⟨0x100074, 27, 24⟩
def MLT_DIAG_RES_SCS : Fld := ⟨0x100074, 23, 20⟩
def MLT_DIAG_RES_LOAD : Fld := ⟨0x100074, 19, 16⟩
def MLT_DIAG_RES_CROSS : Fld := ⟨0x100074, 15, 12⟩
def MLT_DIAG_RES_PARTNER : Fld := ⟨0x100074, 5, 0⟩
def MLT_DIAG_R : Nat := 0x100078
def MLT_DIAG_R_LOAD : Fld := ⟨0x100078, 15, 0⟩
def MLT_TH_STAT : Nat := 0x10007c
def MLT_RE : Nat := 0x100080
def MLT_RE_VALID : Fld := ⟨0x100080, 31, 31⟩
def MLT_CNT : Nat := 0x100084
def MLT_CNT_FLT_N : Fld := ⟨0x100084, 7, 0⟩
def MLT_SWP_CTRL : Nat := 0x100088
def MLT_SWP_CTRL_START : Fld := ⟨0x100088, 31, 31⟩
def MLT_SWP_CTRL_ABORTED : Fld := ⟨0x100088, 30, 30⟩
def MLT_SWP_CTRL_POINTS_M1 : Fld := ⟨0x100088, 28, 24⟩
def MLT_SWP_CTRL_LEVEL : Fld := ⟨0x100088, 23, 16⟩
def MLT_SWP_FREQ : Nat := 0x10008c
def MLT_SWP_FREQ_F_START : Fld := ⟨0x10008c, 31, 16⟩
def MLT_SWP_FREQ_F_STOP : Fld := ⟨0x10008c, 15, 0⟩
def MLT_SWP_RES : Nat := 0x100100
def TYD_CTRL : Nat := 0x78040
def TYD_CTRL_MOUNT : Fld := ⟨0x78040, 31, 31⟩
def TYD_CTRL_REC_EN : Fld := ⟨0x78040, 30, 30⟩
def TYD_CTRL_SPARE_PCT : Fld := ⟨0x78040, 23, 16⟩
def TYD_CTRL_REFRESH_BITS : Fld := ⟨0x78040, 15, 8⟩
def TYD_CTRL_WL_DELTA : Fld := ⟨0x78040, 7, 0⟩
def TYD_STAT : Nat := 0x78044
def TYD_STAT_STATE : Fld := ⟨0x78044, 31, 29⟩
def TYD_STAT_FORMATTED : Fld := ⟨0x78044, 28, 28⟩
def TYD_TABLE_BASE : Nat := 0x78048
def TYD_TABLE_NEED : Nat := 0x7804c
def TYD_BUF_BASE : Nat := 0x78050
def TYD_INFLIGHT_SEG : Nat := 0x78054
def TYD_INFLIGHT : Nat := 0x78058
def TYD_INFLIGHT_VALID : Fld := ⟨0x78058, 31, 31⟩
def TYD_INFLIGHT_COMPLETED : Fld := ⟨0x78058, 30, 30⟩
def TYD_INFLIGHT_STRIPE : Fld := ⟨0x78058, 23, 8⟩
def TYD_DROP : Nat := 0x7805c
def TYD_REBUILT : Nat := 0x78060
def TYD_UNREC : Nat := 0x78064
def TYD_CKPT_AGE : Nat := 0x78068
def TYD_MOUNT_TIME : Nat := 0x7806c
def TYD_PB_LEAD : Nat := 0x7a040
def TYD_PB_LEAD_TICKS : Fld := ⟨0x7a040, 15, 0⟩
def TYD_PB_UNDER : Nat := 0x7a044
def PB_CTRL : Nat := 0x7a800
def PB_CTRL_GO : Fld := ⟨0x7a800, 31, 31⟩
def PB_CTRL_STOP : Fld := ⟨0x7a800, 30, 30⟩
def PB_CTRL_START_SRC : Fld := ⟨0x7a800, 20, 16⟩
def PB_CTRL_ITEM : Fld := ⟨0x7a800, 15, 0⟩
def PB_LOOP : Nat := 0x7a804
def PB_LOOP_REPEAT : Fld := ⟨0x7a804, 15, 0⟩
def PB_STAT : Nat := 0x7a808
def PB_STAT_STATE : Fld := ⟨0x7a808, 31, 30⟩
def PB_STAT_NO_ITEM : Fld := ⟨0x7a808, 29, 29⟩
def PB_POS : Nat := 0x7a80c
def TYD_CH_CFG : Nat := 0x7b040
def TYD_CH_CFG_EN : Fld := ⟨0x7b040, 31, 31⟩
def TYD_CH_CFG_TMODE : Fld := ⟨0x7b040, 11, 8⟩
def TYD_CH_CFG_CE_MASK : Fld := ⟨0x7b040, 7, 0⟩
def TYD_CH_STAT : Nat := 0x7b044
def TYD_CH_STAT_UP : Fld := ⟨0x7b044, 31, 31⟩
def TYD_CH_STAT_SLOW : Fld := ⟨0x7b044, 30, 30⟩
def TYD_CH_STAT_REFUSED : Fld := ⟨0x7b044, 8, 0⟩
def TYD_CH_GOOD : Nat := 0x7b048
def TYD_CH_SPARE : Nat := 0x7b04c
def BLY_CTRL : Nat := 0x70040
def BLY_CTRL_KEY : Fld := ⟨0x70040, 31, 24⟩
def BLY_CTRL_AUTO_RESYNC : Fld := ⟨0x70040, 1, 1⟩
def BLY_CTRL_RESIGN : Fld := ⟨0x70040, 0, 0⟩
def BLY_STAT : Nat := 0x70044
def BLY_STAT_LANES_UP : Fld := ⟨0x70044, 31, 28⟩
def BLY_STAT_HB_OK : Fld := ⟨0x70044, 27, 27⟩
def BLY_STAT_LINK_OK : Fld := ⟨0x70044, 26, 26⟩
def BLY_STAT_PEER_FAILED : Fld := ⟨0x70044, 25, 25⟩
def BLY_STAT_LOCKSTEP : Fld := ⟨0x70044, 24, 24⟩
def BLY_STAT_ACT_OUT : Fld := ⟨0x70044, 23, 23⟩
def BLY_STAT_ACT_IN : Fld := ⟨0x70044, 22, 22⟩
def BLY_STAT_SENIOR : Fld := ⟨0x70044, 21, 21⟩
def BLY_STAT_HOLDING : Fld := ⟨0x70044, 20, 20⟩
def BLY_STAT_EVER_SYNCED : Fld := ⟨0x70044, 19, 19⟩
def BLY_STAT_PEER_MODE : Fld := ⟨0x70044, 18, 16⟩
def BLY_SWAP_CTRL : Nat := 0x70048
def BLY_SWAP_CTRL_SWAP_EN : Fld := ⟨0x70048, 31, 31⟩
def BLY_SWAP_CTRL_SYNC_PORT : Fld := ⟨0x70048, 28, 24⟩
def BLY_SWAP_CTRL_PERIOD : Fld := ⟨0x70048, 15, 0⟩
def BLY_SWAP_IDX_LO : Nat := 0x7004c
def BLY_SWAP_IDX_HI : Nat := 0x70050
def BLY_SWAP_CNT : Nat := 0x70054
def BLY_DELAY : Nat := 0x70058
def BLY_FALLBACK : Nat := 0x7005c
def BLY_PATCH_CNT : Nat := 0x70060
def BLY_PATCH_LATE : Nat := 0x70064
def BLY_DIVERGE_LO : Nat := 0x70068
def BLY_DIVERGE_HI : Nat := 0x7006c
def BLY_TAKE_LO : Nat := 0x70070
def BLY_TAKE_HI : Nat := 0x70074
def BLY_TAKE_TIME : Nat := 0x70078
def BLY_CAUSE : Nat := 0x7007c
def BLY_JOIN_STAT : Nat := 0x71040
def BLY_JOIN_STAT_PHASE : Fld := ⟨0x71040, 31, 29⟩
def BLY_JOIN_STAT_CODE : Fld := ⟨0x71040, 23, 16⟩
def BLY_SNAP_TOTAL : Nat := 0x71044
def BLY_SNAP_SENT : Nat := 0x71048
def BLY_N0_LO : Nat := 0x7104c
def BLY_N0_HI : Nat := 0x71050
def BLY_BEHIND : Nat := 0x71054
def BLY_JOIN_TIME : Nat := 0x71058
def LNE_CTRL : Nat := 0xb0040
def LNE_CTRL_EN : Fld := ⟨0xb0040, 31, 31⟩
def LNE_CTRL_TRAIN : Fld := ⟨0xb0040, 30, 30⟩
def LNE_CTRL_FAST_EXIT : Fld := ⟨0xb0040, 29, 29⟩
def LNE_STAT : Nat := 0xb0044
def LNE_STAT_STATE : Fld := ⟨0xb0044, 31, 29⟩
def LNE_STAT_PERS : Fld := ⟨0xb0044, 28, 26⟩
def LNE_STAT_RX_INV : Fld := ⟨0xb0044, 25, 25⟩
def LNE_STAT_REVERSED : Fld := ⟨0xb0044, 24, 24⟩
def LNE_STAT_RATE : Fld := ⟨0xb0044, 20, 16⟩
def LNE_TX_TAPS : Nat := 0xb0048
def LNE_TX_TAPS_PRE : Fld := ⟨0xb0048, 21, 16⟩
def LNE_TX_TAPS_MAIN : Fld := ⟨0xb0048, 13, 8⟩
def LNE_TX_TAPS_POST : Fld := ⟨0xb0048, 5, 0⟩
def LNE_EQ_STAT : Nat := 0xb004c
def LNE_TEST : Nat := 0xb0050
def LNE_TEST_GEN : Fld := ⟨0xb0050, 31, 31⟩
def LNE_TEST_CHK : Fld := ⟨0xb0050, 30, 30⟩
def LNE_TEST_PATTERN : Fld := ⟨0xb0050, 29, 28⟩
def LNE_TEST_LOCK : Fld := ⟨0xb0050, 27, 27⟩
def LNE_TEST_ERR : Nat := 0xb0054
def LNE_DOWN : Nat := 0xb0058
def LNE_DOWN_TRAIN_FAIL : Fld := ⟨0xb0058, 31, 16⟩
def LNE_FAST : Nat := 0xb005c
def LNE_FAST_FAILED : Fld := ⟨0xb005c, 15, 0⟩
def LNE_COM_CTRL : Nat := 0xbf040
def LNE_COM_CTRL_PAIR_PERS : Fld := ⟨0xbf040, 1, 0⟩
def LNE_PCIE_STAT : Nat := 0xbf044
def LNE_PCIE_STAT_LINK_UP : Fld := ⟨0xbf044, 31, 31⟩
def LNE_PCIE_STAT_REVERSED : Fld := ⟨0xbf044, 30, 30⟩
def LNE_PCIE_STAT_IN_L1 : Fld := ⟨0xbf044, 29, 29⟩
def LNE_PCIE_STAT_FAILED : Fld := ⟨0xbf044, 27, 24⟩
def LNE_PCIE_STAT_WIDTH : Fld := ⟨0xbf044, 19, 16⟩
def LNE_PCIE_STAT_SPEED : Fld := ⟨0xbf044, 11, 8⟩
def LNE_PCIE_CNT : Nat := 0xbf048
def LNE_PCIE_CNT_RECOVERY : Fld := ⟨0xbf048, 15, 0⟩
def SVC_CTRL : Nat := 0x3040
def SVC_CTRL_HOLD_CAL : Fld := ⟨0x3040, 0, 0⟩
def SVC_STAT : Nat := 0x3044
def SVC_STAT_LATE : Fld := ⟨0x3044, 6, 0⟩
def SVC_SCRUB_TIME : Nat := 0x3048
def SVC_SCRUB_CE : Nat := 0x304c
def SVC_SCRUB_UE : Nat := 0x3050
def SVC_SCRUB_UE_VALID : Fld := ⟨0x3050, 31, 31⟩
def SVC_LATE_CNT : Nat := 0x3054
def SVC_DMA_ERR : Nat := 0x3058
def SVC_DMA_ERR_VALID : Fld := ⟨0x3058, 31, 31⟩
def SVC_DMA_ERR_MTX : Fld := ⟨0x3058, 3, 0⟩
def SVC_DMA_ADDR : Nat := 0x305c
def TEL_CTRL : Nat := 0x4040
def TEL_CTRL_EN : Fld := ⟨0x4040, 31, 31⟩
def TEL_CTRL_SIZE : Fld := ⟨0x4040, 12, 0⟩
def TEL_RING_LO : Nat := 0x4044
def TEL_RING_HI : Nat := 0x4048
def TEL_PROD : Nat := 0x404c
def TEL_CONS : Nat := 0x4050
def TEL_DROP : Nat := 0x4054
def TEL_THR : Nat := 0x4058
def TEL_THR_AGE : Fld := ⟨0x4058, 31, 16⟩
def TEL_THR_CRIT : Fld := ⟨0x4058, 15, 8⟩
def TEL_THR_WARN : Fld := ⟨0x4058, 7, 0⟩
def TEL_ISL_T : Nat := 0x4100
def TEL_ISL_V : Nat := 0x4104
def TEL_ISL_A : Nat := 0x4108
def SPR_SUMMARY : Nat := 0x5040
def SPR_SUMMARY_LANE_LEFT : Fld := ⟨0x5040, 31, 31⟩
def SPR_SUMMARY_CORE_LEFT : Fld := ⟨0x5040, 30, 30⟩
def SPR_DEGR : Nat := 0x5044
def SPR_LOG_CNT : Nat := 0x5048
def SPR_FUSE_PEND : Nat := 0x504c
def SPR_LOG_INFO : Nat := 0x5100
def SPR_LOG_INFO_KIND : Fld := ⟨0x5100, 31, 28⟩
def SPR_LOG_INFO_NO_SPARE : Fld := ⟨0x5100, 27, 27⟩
def SPR_LOG_INFO_INJ : Fld := ⟨0x5100, 26, 26⟩
def SPR_LOG_IDX_LO : Nat := 0x5104
def SPR_LOG_IDX_HI : Nat := 0x5108
def SPR_LOG_TIME : Nat := 0x510c
def PWR_MODE_REQ : Nat := 0x2040
def PWR_MODE_REQ_KEY : Fld := ⟨0x2040, 31, 24⟩
def PWR_MODE_REQ_FORCE : Fld := ⟨0x2040, 8, 8⟩
def PWR_MODE_REQ_MODE : Fld := ⟨0x2040, 2, 0⟩
def PWR_MODE_STAT : Nat := 0x2044
def PWR_MODE_STAT_BUSY : Fld := ⟨0x2044, 31, 31⟩
def PWR_MODE_STAT_TARGET : Fld := ⟨0x2044, 30, 28⟩
def PWR_MODE_STAT_IGNORED : Fld := ⟨0x2044, 27, 16⟩
def PWR_MODE_STAT_CODE : Fld := ⟨0x2044, 15, 8⟩
def PWR_MODE_STAT_RESULT : Fld := ⟨0x2044, 7, 0⟩
def PWR_ISL_REQ : Nat := 0x2048
def PWR_ISL_STAT : Nat := 0x204c
def PWR_ISL_REFUSED : Nat := 0x2050
def PWR_SUPPLY_STAT : Nat := 0x2054
def PWR_SUPPLY_STAT_FIRST : Fld := ⟨0x2054, 15, 8⟩
def PWR_SUPPLY_STAT_IN_RANGE : Fld := ⟨0x2054, 7, 0⟩
def PWR_WDT_CTRL : Nat := 0x2058
def PWR_WDT_CTRL_EN : Fld := ⟨0x2058, 31, 31⟩
def PWR_WDT_CTRL_TIMEOUT : Fld := ⟨0x2058, 15, 0⟩
def PWR_WDT_KICK : Nat := 0x205c
def PWR_STRAP : Nat := 0x2060
def PWR_STRAP_SENIOR : Fld := ⟨0x2060, 2, 2⟩
def PWR_STRAP_BOOT_SRC : Fld := ⟨0x2060, 1, 0⟩
def PWR_BOOT_CTRL : Nat := 0x2064
def PWR_BOOT_CTRL_GO : Fld := ⟨0x2064, 31, 31⟩
def PWR_BOOT_CTRL_LENGTH : Fld := ⟨0x2064, 23, 0⟩
def PWR_BOOT_STAT : Nat := 0x2068
def PWR_BOOT_STAT_DONE : Fld := ⟨0x2068, 31, 31⟩
def PWR_BOOT_STAT_COPY : Fld := ⟨0x2068, 30, 30⟩
def PWR_BOOT_STAT_SELFTEST : Fld := ⟨0x2068, 15, 4⟩
def PWR_DESCENT : Nat := 0x206c
def PWR_DESCENT_VALID : Fld := ⟨0x206c, 31, 31⟩
def PWR_DESCENT_SUPPLY_RETURNED : Fld := ⟨0x206c, 30, 30⟩
def PWR_DESCENT_RESIGNED : Fld := ⟨0x206c, 29, 29⟩
def PWR_DESCENT_PEER_TOOK : Fld := ⟨0x206c, 28, 28⟩
def MSIX_TABLE : Nat := 0x800
def MSIX_PBA : Nat := 0xc00
def MEM_ERR_CNT : Nat := 0x62100
def MEM_ERR_CNT_UE : Fld := ⟨0x62100, 31, 24⟩
def MEM_ERR_CNT_CE : Fld := ⟨0x62100, 23, 0⟩
def MEM_CONFLICT : Nat := 0x63100
def PLB_CAP_CTRL : Nat := 0x34040
def PLB_CAP_CTRL_EN : Fld := ⟨0x34040, 31, 31⟩
def PLB_CAP_CTRL_ONESHOT : Fld := ⟨0x34040, 30, 30⟩
def PLB_CAP_CTRL_VALID : Fld := ⟨0x34040, 29, 29⟩
def PLB_CAP_CTRL_OVERRUN : Fld := ⟨0x34040, 28, 28⟩
def PLB_CAP_CTRL_SRC : Fld := ⟨0x34040, 12, 8⟩
def PLB_CAP_CTRL_SEL : Fld := ⟨0x34040, 7, 4⟩
def PLB_CAP_CTRL_EDGE : Fld := ⟨0x34040, 1, 0⟩
def PLB_CAP_TIME_LO : Nat := 0x34044
def PLB_CAP_TIME_HI : Nat := 0x34048
def PLB_CAP_IDX : Nat := 0x3404c
def TYD_REC : Nat := 0x79800
def TYD_REC_EN : Fld := ⟨0x79800, 31, 31⟩
def TYD_REC_TAP : Fld := ⟨0x79800, 30, 30⟩
def TYD_REC_CLASS : Fld := ⟨0x79800, 29, 28⟩
def TYD_REC_STREAM : Fld := ⟨0x79800, 10, 0⟩
def TYD_REC_SUM : Nat := 0x79040
def TYD_REC_SUM_ENABLED : Fld := ⟨0x79040, 25, 16⟩
def TYD_RET : Nat := 0x7c040
def TYD_RET_TGT : Fld := ⟨0x7c040, 31, 16⟩
def TYD_RET_FLOOR : Fld := ⟨0x7c040, 15, 0⟩
def TYD_RESERVE : Nat := 0x7c04c
def TYD_RESERVE_SEGMENTS : Fld := ⟨0x7c04c, 15, 0⟩
def TYD_SEG_TOTAL : Nat := 0x7c050
def TYD_SEG_FREE : Nat := 0x7c054
def TYD_CAP_STAT : Nat := 0x7c058
def TYD_CAP_STAT_STEP : Fld := ⟨0x7c058, 31, 29⟩
def TYD_RET_EFF : Nat := 0x7c05c
def TYD_H : Nat := 0x7d100
def BLY_LN_STAT : Nat := 0x72040
def BLY_LN_STAT_UP : Fld := ⟨0x72040, 31, 31⟩
def BLY_LN_STAT_BELAY : Fld := ⟨0x72040, 30, 30⟩
def BLY_LN_CRC : Nat := 0x72044
def BLY_LN_RETX : Nat := 0x72048
def BLY_LN_DOWN : Nat := 0x7204c

/-- Reset values that differ between instances of one register (11_audio_ports.md R256, 12 R280, 08 R197 and R199,
14 R345, 15 R374); the vector-control words of the MSI-X table reset masked, as PCI Express has it (log entry 4). -/
def regResetInst (a : Nat) (base : Nat) : Nat :=
  let p := a / 0x1000
  let o := a % 0x1000
  if p = 0 ∧ 0x800 ≤ o ∧ o < 0xc00 ∧ o % 16 = 12 then 1
  else if 0x40 ≤ p ∧ p ≤ 0x50 ∧ o = 0x40 then base + (if p = 0x50 then 0x1F else p - 0x40) * 0x10000
  else if p = 0x58 ∧ 0x50 ≤ o ∧ o < 0x60 then 0x83828180 + 0x04040404 * ((o - 0x50) / 4)
  else if 0x80 ≤ p ∧ p < 0xa0 ∧ (o = 0x48 ∨ o = 0x4c) then base + p % 4 * 0x1000000
  else if p = 0x31 ∧ 0x40 ≤ o ∧ o < 0xe0 ∧ o % 16 = 0 then base + (o - 0x40) / 16 * 0x8000000
  else if 0x100 ≤ p ∧ o = 0x44 then base + 0x10 * (p - 0x100)
  else if p = 0x7c ∧ o = 0x40 then 0x00300018
  else if p = 0x7c ∧ o = 0x44 then 0x00180008
  else if p = 0x7c ∧ o = 0x48 then 0x00040001
  else base

/-- The common header of a page (02_register_space.md R30): PG_CTRL.ENABLE resets to 1 on every page (each chapter's page
rule; for SYS, MTX and FUS see log entry 8). -/
def PG_CTRL : Nat := 0x8
def PG_STAT : Nat := 0xc
def PG_EVT : Nat := 0x10
def PG_EVT_EN : Nat := 0x14
def PG_EVT_ROUTE : Nat := 0x18
def PG_FENCE_CNT : Nat := 0x20

/-- The reset value of the register at offset `a`. -/
def regReset (a : Nat) : Reg32 :=
  if a % 0x1000 = PG_CTRL then 1
  else if a % 0x1000 < 0x40 then 0
  else match regRow a with
    | none => 0
    | some r => BitVec.ofNat 32 (regResetInst a r.reset)

end Sys2Proof.Machine
end

