-- ==== Sys2Proof/Machine/Pages.lean ====
section
/-! DEFINITION. The register pages: which are decoded, their PG_ID and PG_CAP (02_register_space.md R28 and each chapter's
page rule), and the island each lies in (R479). -/

namespace Sys2Proof.Machine

/-- PG_ID and PG_CAP of a page. -/
structure PageId where
  type : Nat
  inst : Nat
  role : Nat
  cap : Nat
  deriving DecidableEq, Repr

/-- The identity of page `p`, none where the page is not decoded (R28). -/
def pageId (p : Nat) : Option PageId :=
  if p = 0 then some ⟨0x01, 0, 0, 0⟩
  else if p = 1 then some ⟨0x02, 0, 0, 0⟩
  else if p = 2 then some ⟨0x03, 0, 0, 0x19080000⟩
  else if p = 3 then some ⟨0x04, 0, 0, 0⟩
  else if p = 4 then some ⟨0x05, 0, 0, 0x19000000⟩
  else if p = 5 then some ⟨0x06, 0, 0, 0x40⟩
  else if p = 6 then some ⟨0x07, 0, 0, 0⟩
  else if 0x10 ≤ p ∧ p < 0x20 then
    let (r, c) := if p = 0x10 then (1, 0x8E000000) else if p = 0x11 then (2, 0x11000000)
      else if p = 0x12 then (3, 0xE00) else if p = 0x13 then (4, 0x08000E00) else (0, 0)
    some ⟨0x10, p - 0x10, r, c⟩
  else if 0x20 ≤ p ∧ p < 0x30 then
    let (r, c) := if p = 0x20 then (1, 0xFFFF0100) else if p = 0x21 then (2, 0x20)
      else if p ≤ 0x23 then (3, 0x80) else (0, 0)
    some ⟨0x11, p - 0x20, r, c⟩
  else if 0x30 ≤ p ∧ p < 0x40 then
    let (r, c) := if p = 0x30 then (1, 0x0A101000) else if p = 0x31 then (2, 0xA) else if p = 0x32 then (3, 0)
      else if p = 0x33 then (4, 0x10) else if p = 0x34 then (5, 0x10) else (0, 0)
    some ⟨0x12, p - 0x30, r, c⟩
  else if 0x40 ≤ p ∧ p ≤ 0x50 then some ⟨0x13, p - 0x40, 1, 0x1000⟩
  else if p = 0x58 then some ⟨0x13, 0, 2, 0x11000000⟩
  else if 0x60 ≤ p ∧ p < 0x68 then
    let (r, c) := if p = 0x60 then (1, 0x80081000) else if p = 0x61 then (2, 0) else if p = 0x62 then (3, 0)
      else if p = 0x63 then (4, 0) else (0, 0)
    some ⟨0x14, p - 0x60, r, c⟩
  else if 0x70 ≤ p ∧ p < 0x74 then
    let (r, c) := if p = 0x70 then (1, 0x02040000) else if p = 0x71 then (2, 0) else if p = 0x72 then (3, 4) else (0, 0)
    some ⟨0x15, p - 0x70, r, c⟩
  else if 0x78 ≤ p ∧ p < 0x80 then
    let (r, c) := if p = 0x78 then (1, 0x08000000) else if p = 0x79 then (2, 0x200) else if p = 0x7a then (3, 0x40)
      else if p = 0x7b then (4, 0x100) else if p = 0x7c then (5, 0) else if p = 0x7d then (6, 0x000F0090) else (0, 0)
    some ⟨0x16, p - 0x78, r, c⟩
  else if 0x80 ≤ p ∧ p < 0xa0 then some ⟨0x20, p - 0x80, if p % 4 = 0 then 2 else 1, 0x10000020⟩
  else if 0xa0 ≤ p ∧ p < 0xb0 then some ⟨0x21, p - 0xa0, 1, 0xC0⟩
  else if 0xb0 ≤ p ∧ p ≤ 0xbb then some ⟨0x22, p - 0xb0, 1, 0x07000000⟩
  else if p = 0xbf then some ⟨0x22, 0, 2, 0x0C000000⟩
  else if 0xc0 ≤ p ∧ p < 0xd0 then
    let (r, c) := if p = 0xc0 then (1, 0x04020000) else if p = 0xc1 then (2, 0) else if p = 0xc2 then (3, 0x00800200)
      else if p = 0xc3 then (4, 0x00800200) else if p = 0xc4 then (5, 0x40) else (0, 0)
    some ⟨0x23, p - 0xc0, r, c⟩
  else if p = 0xd0 then some ⟨0x24, 0, 1, 0x40000000⟩
  else if 0x100 ≤ p ∧ p < 0x140 then some ⟨0x24, p - 0x100, 2, 0x20⟩
  else none

/-- The value of PG_ID (R28, R30): LAYOUT is 0x01. -/
def PageId.word (i : PageId) : Reg32 :=
  BitVec.ofNat 32 (i.type * 0x1000000 + i.inst * 0x10000 + 0x100 + i.role)

/-- The island a page lies in when that island can be power-gated (R479); none where the page always answers. -/
def pageIsland (p : Nat) : Option Nat :=
  if 0x70 ≤ p ∧ p < 0x74 then some 24
  else if 0x78 ≤ p ∧ p < 0x80 then some 22
  else if 0x80 ≤ p ∧ p < 0x90 then some 18
  else if 0x90 ≤ p ∧ p < 0xa0 then some 19
  else if 0xa0 ≤ p ∧ p < 0xb0 then some 20
  else if 0xb0 ≤ p ∧ p < 0xb4 then some 12
  else if 0xb4 ≤ p ∧ p < 0xb8 then some 13
  else if 0xb8 ≤ p ∧ p < 0xbc then some 14
  else if 0xc0 ≤ p ∧ p < 0xd0 then some 15
  else if p = 0xd0 ∨ (0x100 ≤ p ∧ p < 0x140) then some 21
  else none

/-- The pages whose registers lie in a power-gated island `isl` (their offsets from 0x0100_0000). -/
def pageInIsland (isl : Nat) (p : Nat) : Bool := decide (pageIsland p = some isl)

end Sys2Proof.Machine
end

