-- ==== Sys2Proof/Machine/State.lean ====
section
/-! DEFINITION. The state of the machine as plain data, the reasons a command can stop, and the state after reset. -/

namespace Sys2Proof.Machine

open Sys2Proof

/-- Why a command stops the machine: a use for which the specification gives no effect at all, so that stopping is safe. -/
inductive Fault where
  /-- Raised by a Chisel instruction that 08 (R180, R192) or 09 (Undefined cases) leaves undefined as an instruction: a
  reserved field, a combination of slots, a place in the program. Safe. -/
  | undefinedInstruction
  deriving DecidableEq, Repr

/-- Why a command is refused by the model itself. -/
inductive Refusal where
  /-- Raised for a command that has no meaning in this model yet. Safe. -/
  | notModelled (mnemonic : String)
  deriving DecidableEq, Repr

/-- The operating modes (01_engine_architecture.md R20). -/
inductive Mode where
  | reset | selftest | config | active | standby | service
  deriving DecidableEq, Repr

/-- What left the part: the model's own log of outputs, newest first (log entry 3). -/
inductive Out where
  /-- an MSI-X message (R34): vector, address, data -/
  | msi (v addr : Nat) (data : Reg32)
  /-- register data returned to master `m` -/
  | regData (m off : Nat) (v : Reg32)
  /-- an error response given to master `m` (R42) -/
  | errResp (m addr : Nat) (write : Bool)
  /-- bytes returned on MSPI_MISO after the filler (R44) -/
  | miso (bytes : List Byte)
  /-- bytes written to host memory (R24, R426) -/
  | hostWrite (addr : Nat) (data : List Byte)
  /-- a frame sent by Ethernet port `port`: kind and body (13_network_and_tether.md) -/
  | eth (port kind : Nat) (body : List Byte)
  /-- a whole Belay frame, sent on Belay lane `lane` of 0 to 3 (16_belay_twin.md R401, R402) -/
  | belay (lane : Nat) (frame : List Byte)
  /-- slot `slot` of a frame on TDMp_DOUT: its first bit, in bit periods from the frame's begin, whether DOUT changes on the
  rising edge of BCLK, and the code, most significant bit first; no code: high impedance (11_audio_ports.md R238, R239) -/
  | tdmSlot (port slot first : Nat) (rising : Bool) (code : Option Nat)
  /-- TDMp_DOUT is low from here on (R247, R249) -/
  | tdmLow (port : Nat)
  /-- TDMq_BCLK and TDMq_FS: whether they are outputs (R241), and what runs on them; without, BCLK stands low and FS at its
  inactive level -/
  | tdmClock (port : Nat) (drive : Bool) (clock : Option TdmClock)
  /-- TDMGg_MCLK runs at `hz`, or stands low at 0 (R245) -/
  | mclk (group hz : Nat)
  /-- the output of AES3 transmitter `i` is static low from here on (R255) -/
  | aesLow (i : Nat)
  /-- an AES3 subframe sent: transmitter, subframe A or B, 32 bits -/
  | aes (i sub : Nat) (bits : Nat)
  /-- gates of Mallet channel `c` in the next half period of its carrier: the edges of legs A and B in steps of 0.8 ns from
  the turn, none where the leg keeps its state, and the dead time; no edges at all: every gate low -/
  | gates (c : Nat) (edges : List (Option Int)) (dead : Nat)
  /-- a level change of an output pin: pin number of the model and level -/
  | pin (pin : Nat) (level : Bool)
  /-- a page programmed on flash channel `ch`: block, page of the block and its 8 codewords (15_timberyard_recorder.md R349),
  or, with no bytes, the block erased -/
  | flash (ch block page : Nat) (data : List Byte)
  deriving DecidableEq, Repr

/-- The view of a page whose PG_CTRL.FREEZE is 1 (R31): what its status and counters read. Its RC registers count on from 0
meanwhile. -/
structure FrozenPage where
  page : Nat
  snap : SMap Reg32
  /-- the meter records of 06_strips_and_gain.md R135, for page 0x013 -/
  meters : List Host.Cell
  deriving DecidableEq, Repr

/-- System state that is not a register: the fuse array (R49, R50) and the management SPI (R44). -/
structure Sys where
  fuseBlown : SMap Bool
  fuseSensed : SMap Bool
  fuseRdata : SMap Bool
  blowAddr : Nat
  mspiFrameErr : Bool
  mspiWriteErr : Bool
  /-- a boot image has been accepted and loaded (19_power_reset_and_modes.md R447) -/
  booted : Bool
  /-- a Descent runs (R454): its duration up to step 4, where that has come -/
  descent : Option (Option Nat)
  /-- the supply has returned during the Descent; it resigned in it (R455) -/
  returned : Bool
  resigned : Bool
  /-- a mode request waits for the planned swap it started (R452) -/
  swapReq : Bool
  /-- the accepted power request, bit i for island i + 1, while it is carried out (19 R453) -/
  islands : Option Nat
  deriving DecidableEq, Repr

/-- An entry waiting for Timberyard's event log (15_timberyard_recorder.md R363): page, PG_EVT bit, source (0 an event, 1 a
journal record), detail, sample index and station time. -/
structure LogRec where
  page : Nat
  bit : Nat
  source : Nat
  detail : List Nat
  idx : Nat
  time : Nat
  deriving DecidableEq, Repr

/-! ### The whole machine -/

/-- The state of the PF9612. -/
structure State where
  /-- the commands that wait, first in, first out -/
  pending : List Instr
  mode : Mode
  /-- the 48-bit sample index of the tick in progress (00_scope.md R9) -/
  idx : Nat
  /-- registers by offset from 0x0100_0000; an unlisted one reads `regReset` -/
  regs : SMap Reg32
  /-- the bytes of every word slot by BAR0 address: Truss tables, Chisel memories, banks, mailbox; unlisted reads 0 -/
  mem : List Host.Cell
  /-- stored bit errors of a word: 72 data bits below 8 check bits, by address (10_memory_banks.md R222) -/
  flips : SMap (BitVec 80)
  frozen : List FrozenPage
  out : List Out
  /-- events waiting for the Timberyard event log, newest first -/
  evlog : List LogRec
  /-- station time, units of 2⁻³² s (12_plumb_clock_and_time.md R271) -/
  time : Nat
  /-- the part of station time below its least unit, in units of 2⁻³² s / (10¹⁷ · 2³⁶) -/
  timeFrac : Nat
  /-- how many free values have been taken (log entry 2) -/
  freeCtr : Nat
  /-- injections that wait for a later occurrence (18_background_and_spares.md R433), by page × 32 + bit -/
  inj : List Nat
  /-- spare joins and replacements under way that an injection caused (SPR_LOG.INJ), by page × 32 + unit -/
  injUnits : List Nat
  /-- accesses that wait, oldest first, with the tick at whose start each may be performed -/
  fwd : List (Nat × Forwarded)
  sys : Sys
  trs : Truss
  chs : Chisel
  bnk : Banks
  crn : Cairn
  prt : Ports
  plb : Plumb
  net : Net
  mlt : Mallet
  tyd : Tyd
  bly : Belay
  svc : Services
  deriving DecidableEq, Repr

/-- The identity fuses of the manual's worked example (02 R46): lot K7MQ04A2, wafer 18, die X −11, Y +7, stepping B1, fuse
map revision 1, and the die ID that R46 computes from them (log entry 5). -/
def dieFuses : List (Nat × Nat × Nat) :=
  [(0x000, 48, 0x08A1006961D4), (0x030, 5, 18), (0x038, 8, 0xF5), (0x040, 8, 7), (0x048, 8, 0x42), (0x050, 8, 0x31),
   (0x058, 8, 1), (0x060, 64, 0xD16B2D19AA59A016)]

/-- The blown bits of a list of fields, in rising order. -/
def fuseBits : List (Nat × Nat × Nat) → SMap Bool
  | [] => []
  | (lo, n, v) :: r => ((List.range n).filter fun i => v.testBit i).map (fun i => (lo + i, true)) ++ fuseBits r

/-- The machine right after a power-on reset, held in RESET (R20, R443): nothing has happened yet. -/
def State.reset : State where
  pending := []
  mode := .reset
  idx := 0
  regs := []
  mem := []
  flips := []
  frozen := []
  out := []
  evlog := []
  time := 0
  timeFrac := 0
  freeCtr := 0
  inj := []
  injUnits := []
  fwd := []
  sys := ⟨fuseBits dieFuses, fuseBits dieFuses, fuseBits dieFuses, 0, false, false, false, none, false, false, false, none⟩
  trs := Truss.init
  chs := Chisel.init
  bnk := ⟨[], none, (0, 0), [], []⟩
  crn := Cairn.init
  prt := Ports.init
  plb := Plumb.init
  net := Net.init
  mlt := Mallet.init
  tyd := Tyd.init
  bly := Belay.init
  svc := Services.init

end Sys2Proof.Machine
end

