-- ==== Sys2Proof/Machine/Ops.lean ====
section
/-! DEFINITION. The named operations that every block shares: registers and fields, words of memory, events and MSI-X
(02 R30, R34), error responses (R42), the spare log and the degradation causes (18 R430, R431), free values. -/

namespace Sys2Proof.Machine

open Sys2Proof

/-! ### Registers -/

/-- The live value of the register at offset `a` from 0x0100_0000. -/
def State.rd (s : State) (a : Nat) : Reg32 := mget (regReset a) s.regs a

/-- Set the register at offset `a`. -/
def State.wr (s : State) (a : Nat) (v : Reg32) : State := { s with regs := mset (regReset a) s.regs a v }

/-- The value of a field. -/
def State.fld (s : State) (f : Fld) : Nat := bitsNat (s.rd f.off).toNat f.hi f.lo

/-- A register value with bits `[hi:lo]` replaced by `v`. -/
def putBits (w : Reg32) (hi lo v : Nat) : Reg32 :=
  let m : Reg32 := BitVec.ofNat 32 ((2 ^ (hi + 1 - lo) - 1) <<< lo)
  (w &&& ~~~m) ||| (BitVec.ofNat 32 (v <<< lo) &&& m)

/-- Set a field. -/
def State.setFld (s : State) (f : Fld) (v : Nat) : State := s.wr f.off (putBits (s.rd f.off) f.hi f.lo v)

/-- The greatest value a field holds. -/
def Fld.max (f : Fld) : Nat := 2 ^ (f.hi + 1 - f.lo) - 1

/-- Change the services part of the state. -/
def State.onSvc (s : State) (f : Services → Services) : State := { s with svc := f s.svc }

/-- Add `n` to total `k` of the telemetry record (18 R427). -/
def State.addTotal (s : State) (k n : Nat) : State := s.onSvc fun v => { v with tot := mmod 0 v.tot k (· + n) }

/-- The total of R427 that a counter register feeds. -/
def totalOf (off : Nat) : Option Nat :=
  if off = TRS_OVERRUN then some 0
  else if off = MTX_ERR_CNT then some 1
  else if off = MEM_CE_TOTAL then some 2
  else if off = MEM_UE_TOTAL then some 3
  else if off = BLY_FALLBACK then some 7
  else if off = TYD_DROP then some 8
  else if 0x40000 ≤ off ∧ off < 0x51000 then
    (if (off - CHS_OVERRUN) % 0x1000 = 0 then some 4 else if (off - CHS_SKIP) % 0x1000 = 0 then some 5 else none)
  else none

/-- Add `n` to a counter field, saturating (log entry 12), and to the total it feeds. -/
def State.bump (s : State) (f : Fld) (n : Nat := 1) : State :=
  let s := s.setFld f (min (s.fld f + n) f.max)
  match totalOf f.off with
  | some k => s.addTotal k n
  | none => s

/-- Service `k` of R420 has completed a round within its interval: its LATE bit clears (18 R423). -/
def State.onTime (s : State) (k : Nat) : State := s.setFld ⟨SVC_STAT, k, k⟩ 0

/-- Set a whole register from a number. -/
def State.wrN (s : State) (a v : Nat) : State := s.wr a (BitVec.ofNat 32 v)

/-- Write a 48-bit sample index to a LO and HI register pair. -/
def State.wrIdx (s : State) (lo hi i : Nat) : State := (s.wrN lo (i % 2 ^ 32)).wrN hi (i / 2 ^ 32 % 2 ^ 16)

/-- Read a LO and HI register pair. -/
def State.rdPair (s : State) (lo hi : Nat) : Nat := (s.rd lo).toNat + 2 ^ 32 * (s.rd hi).toNat

/-- The next sample index (48 bits, 00 R9). -/
def nextIdx (i : Nat) : Nat := (i + 1) % 2 ^ 48

/-- Index `a` is at or before index `b`, by 48-bit signed difference (07 R155). -/
def idxLe (a b : Nat) : Bool := decide ((2 ^ 48 + b - a % 2 ^ 48) % 2 ^ 48 < 2 ^ 47)

/-- CONFIG or SERVICE, where injection and most settings are accepted (01 R23). -/
def State.cfgMode (s : State) : Bool := decide (s.mode = .config) || decide (s.mode = .service)

/-- ACTIVE or STANDBY. -/
def State.runMode (s : State) : Bool := decide (s.mode = .active) || decide (s.mode = .standby)

/-- SYS_STAT.MODE (02 R45). -/
def State.modeCode (s : State) : Nat :=
  match s.mode with
  | .reset => 1
  | .selftest => 1
  | .config => 2
  | .active => 3
  | .standby => 4
  | .service => 5

/-- ACTIVE and not in the output hold: the engine sends what only an active engine sends (16 R390, R393). -/
def State.sends (s : State) : Bool := decide (s.mode = .active) && !s.bly.hold

/-- Past SELFTEST. -/
def State.upMode (s : State) : Bool := s.cfgMode || s.runMode

/-- Island `i` (1 to 25) is powered (19 R453). -/
def State.powered (s : State) (i : Nat) : Bool := (s.rd PWR_ISL_STAT).toNat.testBit (i - 1)

/-- The engine sample rate in Hz (12 R270; a change of PLB_CTRL.RATE takes effect at the next tick). -/
def State.rate (s : State) : Nat := if s.plb.fast then 96000 else 48000

/-- Send something out of the part. -/
def State.emit (s : State) (o : Out) : State := { s with out := o :: s.out }

/-- Take a free value of `w` bits: a value the specification does not give. -/
def State.free (s : State) (w : Nat) : BitVec w × State :=
  (Config.freeValue w s.freeCtr, { s with freeCtr := s.freeCtr + 1 })

/-! ### Events (02 R30, R33, R34) -/

/-- Request MSI-X vector `v`: the message, or the pending bit where the vector is masked (R34). -/
def State.requestVector (s : State) (v : Nat) : State :=
  let e := MSIX_TABLE + 16 * v
  if (s.rd (e + 12)).toNat.testBit 0 then
    s.wr (MSIX_PBA + 4 * (v / 32)) (s.rd (MSIX_PBA + 4 * (v / 32)) ||| BitVec.ofNat 32 (2 ^ (v % 32)))
  else s.emit (.msi v ((s.rd e).toNat + 2 ^ 32 * (s.rd (e + 4)).toNat) (s.rd (e + 8)))

/-- The vector of a page. -/
def State.pageVector (s : State) (p : Nat) : Nat := bitsNat (s.rd (0x1000 * p + PG_EVT_ROUTE)).toNat 5 0

/-- Record an entry for the Timberyard event log. -/
def State.logEvent (s : State) (page bit source : Nat) (detail : List Nat) : State :=
  { s with evlog := ⟨page, bit, source, detail, s.idx, s.time⟩ :: s.evlog }

/-- Set event bits `ev` of page `p`; a newly set enabled bit requests the page's vector. Each bit that sets is written to
the event log (15 R363); the SPARE events of page 0x005 carry an entry of their own (18 R430). -/
def State.setEvts (s : State) (p : Nat) (ev : Reg32) : State :=
  let a := 0x1000 * p + PG_EVT
  let old := s.rd a
  let new := (List.range 32).filter fun b => (ev &&& ~~~old).getLsbD b && !(p == 5 && decide (b < 2))
  let s' := new.foldl (fun s b => s.logEvent p b 0 []) (s.wr a (old ||| ev))
  if ev &&& ~~~old &&& s.rd (0x1000 * p + PG_EVT_EN) = 0 then s' else s'.requestVector (s.pageVector p)

/-- A detector sets event bit `b` of page `p`. -/
def State.evt (s : State) (p b : Nat) : State := s.setEvts p (BitVec.ofNat 32 (2 ^ b))

/-- A vector selected for SYS_IRQ_N has its pending bit set or a contributing bit (R34). -/
def State.irqAsserted (s : State) : Bool :=
  let mask := s.rdPair SYS_IRQ_MASK_LO SYS_IRQ_MASK_HI
  let pba := s.rdPair MSIX_PBA (MSIX_PBA + 4)
  decide (mask &&& pba ≠ 0) ||
    s.regs.any fun e => decide (e.1 % 0x1000 = PG_EVT) &&
      decide (e.2 &&& s.rd (e.1 + 4) ≠ 0) && mask.testBit (s.pageVector (e.1 / 0x1000))

/-! ### Error responses (02 R42) -/

/-- Capture an access that meets an error and count it (R42, R47). OVERFLOW, a W1C bit of its own, stays until software
clears it, through a release by VALID and a new capture too (DEDUCED, log entry 42). -/
def State.captureErr (s : State) (m addr cause : Nat) (write : Bool) (size : Nat) : State :=
  let s := s.bump (whole MTX_ERR_CNT)
  let s :=
    if s.fld MTX_ERR_INFO_VALID = 1 then
      if s.fld MTX_ERR_INFO_OVERFLOW = 1 then s else (s.setFld MTX_ERR_INFO_OVERFLOW 1).evt 1 1
    else
      (s.wrN MTX_ERR_ADDR addr).wrN MTX_ERR_INFO
        (2 ^ 31 + s.fld MTX_ERR_INFO_OVERFLOW * 2 ^ 30 + m * 2 ^ 16 + cause * 2 ^ 12 + (if write then 2 ^ 8 else 0) +
          size % 256)
  s.evt 1 0

/-- The error response of R42 for an access by master `m`. -/
def State.errResp (s : State) (m addr cause : Nat) (write : Bool) (size : Nat) : State :=
  (s.captureErr m addr cause write size).emit (.errResp m addr write)

/-- A field of the write at register offset `off` is refused in the current mode (R478): logged with cause 0x5. -/
def State.refusedField (s : State) (m off : Nat) : State := s.errResp m (0x1000000 + off) 5 true 4

/-! ### Canonical forms -/

/-- The canonical form of memory: addresses strictly rising, no byte listed that is what an unlisted one reads as, 0
(log entry 10). -/
def Memory.wf (m : List Host.Cell) : Bool := mwf 0 m

/-- The canonical form of the register file: offsets strictly rising, no register listed at its reset value. -/
def regsWf (r : SMap Reg32) : Bool := risingFrom none r && r.all fun e => decide (e.2 ≠ regReset e.1)

/-! ### Words of memory (02 R7) -/

/-- The value of the nine bytes from `a` on. -/
def slotNat : List Host.Cell → Nat → Nat
  | [], _ => 0
  | (j, v) :: m, a => if j < a then slotNat m a else if j < a + 9 then v.toNat * 256 ^ (j - a) + slotNat m a else 0

/-- The word in the slot at BAR0 address `a`. -/
def State.word (s : State) (a : Nat) : Word := BitVec.ofNat 72 (slotNat s.mem a)

/-- Write bytes from address `a` on. -/
def memPut : List Host.Cell → Nat → List Byte → List Host.Cell
  | m, _, [] => m
  | m, a, b :: bs => memPut (mset 0 m a b) (a + 1) bs

/-- Write the word in the slot at BAR0 address `a`; a whole word takes fresh check bits (10 R224). -/
def State.setWord (s : State) (a : Nat) (w : Word) : State :=
  { s with mem := memPut s.mem a (leBytes 9 w.toNat), flips := mdel s.flips a }

/-- Write bytes of memory. -/
def State.putBytes (s : State) (a : Nat) (bs : List Byte) : State := { s with mem := memPut s.mem a bs }

/-- Read `n` bytes of memory. -/
def State.getBytes (s : State) (a n : Nat) : List Byte := (List.range n).map fun i => mget 0 s.mem (a + i)

/-- Set every byte from `lo` up to, not including, `hi` to 0. -/
def State.clearMem (s : State) (lo hi : Nat) : State :=
  { s with mem := mkeep (fun a => decide (a < lo) || decide (hi ≤ a)) s.mem }

/-- Bits of a word. -/
def wbits (w : Word) (hi lo : Nat) : Nat := bitsNat w.toNat hi lo

/-- BAR0 address of word `w` of visible bank `b` (02 R24). -/
def bankAddr (b w : Nat) : Nat := 0x10000000 + 0x100000 * b + 16 * w

/-- The visible bank of the bank word at `a` (0x10000000 to 0x17FFFFFF). -/
def bankOf (a : Nat) : Nat := a / 0x100000 % 256

/-- BAR0 address of a 23-bit global bank word address. -/
def globalAddr (g : Nat) : Nat := bankAddr (g / 65536) (g % 65536)

/-- The state that MEM_BANK_STATE requests for visible bank `b`: 0 OFF, 1 RETENTION, 2 ON (10_memory_banks.md R225). -/
def bankField (b : Nat) : Fld := ⟨MEM_BANK_STATE + 4 * (b / 16), 2 * (b % 16) + 1, 2 * (b % 16)⟩

/-- Bank `b` is changing state (R225, MEM_BANK_BUSY). -/
def bankBusy (b : Nat) : Fld := ⟨MEM_BANK_BUSY + 4 * (b / 32), b % 32, b % 32⟩

/-- The state of visible bank `b` as an access finds it: 3 while it changes (R225). -/
def State.bankState (s : State) (b : Nat) : Nat := if s.fld (bankBusy b) = 1 then 3 else s.fld (bankField b)

/-! ### Spares and degradation (18 R430, R431) -/

/-- Set or clear cause `bit` of SPR_DEGR; SYS_STAT.DEGRADED follows (R22, R431). -/
def State.degrade (s : State) (bit : Nat) (on : Bool) : State :=
  let old := (s.rd SPR_DEGR).toNat
  let new := if on then old ||| 2 ^ bit else old - (if old.testBit bit then 2 ^ bit else 0)
  if new = old then s
  else
    let s := (s.wrN SPR_DEGR new).evt 5 2
    let d := if new = 0 then 0 else 1
    if s.fld SYS_STAT_DEGRADED = d then s else (s.setFld SYS_STAT_DEGRADED d).evt 0 1

/-- Write an entry of the SPR log (R430): kind, whether no spare was left, whether injected, the failed unit and its
replacement. -/
def State.sprLog (s : State) (kind : Nat) (noSpare inj : Bool) (unit repl : Nat) : State :=
  let e := (s.rd SPR_LOG_CNT).toNat % 64 * 16
  let info := kind * 2 ^ 28 + (if noSpare then 2 ^ 27 else 0) + (if inj then 2 ^ 26 else 0) + unit % 256 * 2 ^ 16 +
    (if noSpare then 0xFFFF else repl % 65536)
  let s := ((s.wrN (SPR_LOG_INFO + e) info).wrIdx (SPR_LOG_IDX_LO + e) (SPR_LOG_IDX_HI + e) s.idx).wrN
    (SPR_LOG_TIME + e) (s.time / 2 ^ 32)
  let b := if noSpare then 1 else 0
  ((s.wr SPR_LOG_CNT (s.rd SPR_LOG_CNT + 1)).logEvent 5 b 0 [info]).evt 5 b

/-- Change the operating mode; MODE_CHANGE is raised on a change of SYS_STAT.MODE (02 R45), which reads alike in RESET and
SELFTEST. -/
def State.setMode (s : State) (m : Mode) : State :=
  let t := { s with mode := m }
  if t.modeCode = s.modeCode then t else t.evt 0 0

/-- Take a waiting injection (18 R433): whether it was waiting, and the state without it. -/
def State.takeInj (s : State) (p b : Nat) : Bool × State :=
  (decide (p * 32 + b ∈ s.inj), { s with inj := s.inj.filter fun i => decide (i ≠ p * 32 + b) })

/-- An injection that waits for a later occurrence; a second one before it takes effect counts once (R433). -/
def State.addInj (s : State) (p b : Nat) : State :=
  if p * 32 + b ∈ s.inj then s else { s with inj := (p * 32 + b) :: s.inj }

/-- Mark a unit whose repair under way was injected, so that the SPR log says so (R430, R433). -/
def State.markInj (s : State) (k : Nat) : State := { s with injUnits := k :: s.injUnits }

/-- Take the mark of a unit. -/
def State.takeMark (s : State) (k : Nat) : Bool × State :=
  (s.injUnits.contains k, { s with injUnits := s.injUnits.filter fun i => i != k })

/-! ### Forwarding in a pair (16_belay_twin.md R380, R381) -/

/-- The engine is in lockstep with its peer. -/
def State.lockstep (s : State) : Bool := s.fld BLY_STAT_LOCKSTEP == 1

/-- Belay lanes (0 to 3, for lanes 8 to 11) that are up (R405). -/
def State.lanesUp (s : State) : List Nat := (List.range 4).filter fun l => (s.fld BLY_STAT_LANES_UP).testBit l

/-- A whole Belay frame (R402); ACK names the last frame received in order. -/
def State.frame (s : State) (retx : Bool) (f : SentFrame) : List Byte :=
  let b := beBytes 1 f.kind ++ beBytes 1 ((if retx then 128 else 0) + if s.mode = .active then 64 else 0) ++
    beBytes 2 f.body.length ++ beBytes 4 f.fseq ++ beBytes 4 ((s.bly.got + (2 ^ 32 - 1)) % 2 ^ 32) ++ beBytes 6 f.idx ++
    beBytes 2 0 ++ f.body
  b ++ leBytes 4 (crc32 b)

/-- Send a frame on the next lane in turn (R401); none where no lane is up. -/
def State.deal (s : State) (retx : Bool) (f : SentFrame) : State :=
  match s.lanesUp[s.bly.dealt % s.lanesUp.length]? with
  | none => s
  | some l =>
    let s := if retx then s.bump (whole (BLY_LN_RETX + 0x10 * l)) else s
    let replay := s.bly.replay.map fun g => if g.fseq = f.fseq then { g with lane := l } else g
    { s with bly := { s.bly with dealt := s.bly.dealt + 1, replay := replay }, out := .belay l (s.frame retx f) :: s.out }

/-- Queue and send a new frame of type `kind` for index `idx` (R402 to R404); the replay buffer keeps 4096. -/
def State.sendBelay (s : State) (kind idx : Nat) (body : List Byte) : State :=
  if s.lanesUp = [] then s else
  let f : SentFrame := ⟨s.bly.fseq, kind, idx, body, 0⟩
  let r := s.bly.replay ++ [f]
  ({ s with bly := { s.bly with fseq := (s.bly.fseq + 1) % 2 ^ 32, replay := r.drop (r.length - 4096) } }).deal false f

/-- The engine forwards what its host writes: to a peer in lockstep, or one that takes its snapshot (R380, R398). -/
def State.forwards (s : State) : Bool := decide (s.mode = .active) && (s.lockstep || s.bly.serving)

/-- The active engine forwards a decision of `unit` on `item` that applies at index `idx` (R385, R403). -/
def State.tell (s : State) (unit item idx : Nat) (data : List Byte) : State :=
  if s.forwards then s.sendBelay 7 idx (beBytes 1 unit ++ beBytes 2 item ++ data) else s

/-- A register that R380 forwards, by its offset from 0x0100_0000. -/
def regForwarded (off : Nat) : Bool :=
  let p := off / 0x1000
  !(decide (p ≤ 6) || (decide (0x70 ≤ p) && decide (p ≤ 0x73)) || (decide (0xB0 ≤ p) && decide (p ≤ 0xBF)) ||
    (p == 0xC0 && decide (0x040 ≤ off % 0x1000) && decide (off % 0x1000 < 0x0C0) &&
      decide (8 ≤ off % 0x20) && decide (off % 0x20 ≤ 0x10)))

/-- The tag of a write or command accepted now: the first tick that begins at least 4 µs later (R381). Whether that is
the next tick or the one after is open within a tick (log entry 2); what is accepted later never has an earlier tag. -/
def State.newTag (s : State) : Nat × State :=
  let (b, s) := s.free 1
  let after := nextIdx (nextIdx s.idx)
  let t := if b = 0 ∧ s.bly.lastTag ≠ after then nextIdx s.idx else after
  (t, { s with bly := { s.bly with lastTag := t } })

/-- The outcome of a command that always goes on. -/
abbrev Res := Host.Outcome State Fault Refusal

end Sys2Proof.Machine
end

