-- ==== Sys2Proof/Machine/BelayLink.lean ====
section
/-! DEFINITION. The Belay link (16_belay_twin.md R401 to R404): lanes, the pair's degradation cause, and the request that
opens a join (R397). -/

namespace Sys2Proof.Machine

open Sys2Proof

/-- Change the Belay part of the state. -/
def State.onBly (s : State) (f : Belay → Belay) : State := { s with bly := f s.bly }

/-- Lane 8 + `l` has the Belay personality (17 R409). -/
def State.belayPers (s : State) (l : Nat) : Bool :=
  decide (l < 2) || (decide (l < 4) && s.fld LNE_COM_CTRL_PAIR_PERS == 2)

/-- This engine belongs to a pair: its link is up, or it has been in lockstep since its reset (log entry 30). -/
def State.paired (s : State) : Bool := s.fld BLY_STAT_EVER_SYNCED == 1 || s.fld BLY_STAT_LANES_UP != 0

/-- The BELAY cause of SPR_DEGR (18 R431): out of lockstep, or not every Belay lane up. -/
def State.refreshBelay (s : State) : State :=
  let whole := (List.range 4).all fun l => !s.belayPers l || (s.fld BLY_STAT_LANES_UP).testBit l
  s.degrade 6 (s.paired && !(s.lockstep && whole))

/-- Bits of the fuses as sensed at the last reset. -/
def State.fuseVal (s : State) (lo n : Nat) : Nat :=
  ((List.range n).map fun i => if mget false s.sys.fuseSensed (lo + i) then 2 ^ i else 0).sum

/-- SYS_STEPPING (02 R46): letter and digit. -/
def State.stepping (s : State) : Nat := s.fuseVal 0x048 8 * 256 + s.fuseVal 0x050 8

/-- The states of the visible banks as R403 lays them out. -/
def State.bankMap (s : State) : List Byte :=
  (List.range 32).map fun i => BitVec.ofNat 8 ((List.range 4).map fun j => s.fld (bankField (4 * i + j)) * 4 ^ j).sum

/-- Send JOIN_REQ (R397, R403). -/
def State.joinRequest (s : State) : State :=
  s.sendBelay 0x11 s.idx (beBytes 2 s.stepping ++ beBytes 1 (s.fld PLB_CTRL_RATE) ++ beBytes 4 (s.rd PWR_ISL_STAT).toNat ++
    s.bankMap ++ beBytes 1 (s.fld TRS_SCHED_CTRL_GUARD))

/-- Plumb is locked on PEER (R397): the joiner may ask. -/
def State.lockedOnPeer (s : State) : Bool := s.fld PLB_SYN_STAT_STATE == 2 && s.fld PLB_SYN_STAT_SEL_REF == 9

/-- A join or a resynchronisation begins (R397): the joiner asks once Plumb is locked on PEER. -/
def State.startJoin (s : State) : State :=
  let s := (s.setFld BLY_JOIN_STAT_PHASE 1).onBly fun b => { b with joining := true, n1 := none, n0 := none }
  if s.lockedOnPeer then s.joinRequest else s

/-- A join can begin (R397): a lane is up and the peer is ACTIVE. -/
def State.peerReady (s : State) : Bool :=
  s.fld BLY_STAT_LANES_UP != 0 && s.fld BLY_STAT_PEER_MODE == 3 && s.fld BLY_STAT_PEER_FAILED == 0

/-- A frame with a good CRC has come, in order (R389, R402). -/
def State.gotFrame (s : State) : State :=
  (s.onBly fun b => { b with got := (b.got + 1) % 2 ^ 32 }).setFld BLY_STAT_LINK_OK 1

end Sys2Proof.Machine
end

