-- ==== Sys2Proof/Machine/Journal.lean ====
section
/-! DEFINITION. The commit journal (07_cairn_scenes.md R162 to R164, R167). -/

namespace Sys2Proof.Machine

open Sys2Proof

/-- Offset of record J from record 0 (R162). -/
def jOff (j : Nat) : Nat := 0x40 * (j % 32)

/-- State of the record in place `e`: 1 ARMED, 2 FLIPPED, 3 DONE, 4 CANCELLED. -/
def State.jState (s : State) (e : Nat) : Nat := s.fld (J_INFO_STATE.sh (jOff e))

/-- Change the state of a record; the change goes to the event log (R162, 15 R363). -/
def State.setJState (s : State) (e st : Nat) : State :=
  let s := s.setFld (J_INFO_STATE.sh (jOff e)) st
  s.logEvent 0x21 0 1 [bitsNat (s.rd (J_INFO + jOff e)).toNat 31 24, st, (s.rd (J_FLIPPED + jOff e)).toNat,
    (s.rd (J_DONE + jOff e)).toNat]

/-- Set the done bits `units` of the record in place `e`; DONE once every involved unit is done (R163). -/
def State.jDone (s : State) (e units : Nat) : State :=
  let j := (s.rd (J_UNITS + jOff e)).toNat
  let s := s.wrN (J_DONE + jOff e) ((s.rd (J_DONE + jOff e)).toNat ||| (units &&& j))
  if s.jState e = 2 ∧ (s.rd (J_DONE + jOff e)).toNat = j then
    ((s.wrIdx (J_END_LO + jOff e) (J_END_HI + jOff e) s.idx).setJState e 3).evt 0x20 3
  else s

/-- The records, flipped and not DONE, in which unit bit `u` is involved. -/
def State.flippedRecords (s : State) (u : Nat) : List Nat :=
  (List.range 32).filter fun e => s.jState e == 2 && (s.rd (J_UNITS + jOff e)).toNat.testBit u

/-- Those of them in which the unit is not done and that satisfy `p` on the flip sample. -/
def State.openRecords (s : State) (u : Nat) (p : Nat → Bool) : List Nat :=
  (s.flippedRecords u).filter fun e => !(s.rd (J_DONE + jOff e)).toNat.testBit u && p (s.rdPair (J_FLIP_LO + jOff e) (J_FLIP_HI + jOff e))

/-- Unit `u` is done in every open record whose flip sample satisfies `p` (R163). -/
def State.unitDone (s : State) (u : Nat) (p : Nat → Bool) : State :=
  (s.openRecords u p).foldl (fun s e => s.jDone e (2 ^ u)) s

/-- Unit `u` suffers a fault after it has flipped (R163, R167). -/
def State.unitFault (s : State) (u : Nat) : State :=
  (s.flippedRecords u).foldl (fun s e =>
    ((s.setFld (J_FAULT_UNIT_FAULT.sh (jOff e)) 1).setFld (J_FAULT_FAULT_UNIT.sh (jOff e)) u).evt 0x21 0) s

/-- A takeover between arming and DONE (R164). -/
def State.jTakeover (s : State) : State :=
  ((List.range 32).filter fun e => s.jState e == 1 || s.jState e == 2).foldl (fun s e =>
    (s.setFld (J_FAULT_TAKEOVER.sh (jOff e)) 1).evt 0x21 0) s

end Sys2Proof.Machine
end

