-- ==== Sys2Proof/Machine/Presence.lean ====
section
/-! DEFINITION. Presence in a pair (16_belay_twin.md R382, R383, R398): who decides, what is announced, and what a follower
holds until the decision. Points are source streams 0 to 1535 and, at 1536 + g, the insert return of strip g. -/

namespace Sys2Proof.Machine

open Sys2Proof

/-- Key of point `p` at index `n`. -/
def pKey (n p : Nat) : Nat := n * 8192 + p

/-- The two-byte entry of a PRESENCE frame (R403). -/
def presEntry (p : Nat) (present : Bool) : List Byte :=
  beBytes 2 ((if present then 32768 else 0) + if p < 1536 then p else 8192 + (p - 1536))

/-- The point of an entry's KIND and number. -/
def entryPoint (e : Nat) : Nat := if bitsNat e 14 13 = 0 then bitsNat e 12 0 else 1536 + bitsNat e 12 0

/-- A swap at or before index `n` is under way: duties for `n` have passed to the other engine (R395). -/
def State.swapped (s : State) (n : Nat) : Bool :=
  match s.bly.swap with
  | some (ns, _) => idxLe ns n
  | none => false

/-- This engine catches up with the active engine (R399). -/
def State.catching (s : State) : Bool := s.bly.joining && s.fld BLY_JOIN_STAT_PHASE == 3

/-- This engine obeys its peer's decisions for index `n`. -/
def State.follows (s : State) (n : Nat) : Bool :=
  s.catching || (s.lockstep && (if s.mode = .active then s.swapped n else decide (s.mode = .standby) && !s.swapped n))

/-- This engine decides index `n` for its peer too. -/
def State.leads (s : State) (n : Nat) : Bool :=
  (decide (s.mode = .active) && s.bly.serving) || (s.lockstep && (decide (s.mode = .active) || decide (s.mode = .standby)) && !s.follows n)

/-- Announce the decision on point `p` at index `n`; while a peer resynchronises, and for playback streams, the value goes
with it (R383, R398). -/
def State.announce (s : State) (p n : Nat) (v : Option Word) : State :=
  let s := s.sendBelay 4 n (beBytes 1 0 ++ beBytes 1 1 ++ presEntry p v.isSome)
  match v with
  | none => s
  | some w =>
    let s := s.onBly fun b => { b with store := mins b.store (pKey n p) w }
    if s.bly.serving ∨ (1056 ≤ p ∧ p < 1120) then s.sendBelay 6 n (presEntry p true ++ beBytes 9 w.toNat) else s

/-- A follower holds its own sample of point `p` until the decision comes; once the index is settled without it, it is not
taken. -/
def State.holdOwn (s : State) (p n : Nat) (w : Word) (t : Nat) : State :=
  let k := pKey n p
  if mfind s.bly.decided k = some false ∨ (s.bly.finals.contains n ∧ (mfind s.bly.decided k).isNone) ∨
      s.bly.fell.contains n ∨ (mfind s.bly.own k).isSome then s
  else s.onBly fun b => { b with own := mins b.own k (w, t) }

/-- The store and the decisions keep the last 4 indices (R383); a catch-up keeps all that waits. -/
def State.trimPresence (s : State) : State :=
  let old (n : Nat) : Bool := idxLe n (2 ^ 48 + s.idx - 4) && n != s.idx
  s.onBly fun b => { b with
    store := mkeep (fun k => !old (k / 8192)) b.store
    decided := mkeep (fun k => !old (k / 8192)) b.decided
    own := mkeep (fun k => !old (k / 8192)) b.own
    digests := mkeep (fun n => !old n) b.digests
    finals := b.finals.filter fun n => !old n
    fell := b.fell.filter fun n => !old n }

end Sys2Proof.Machine
end

