-- ==== Sys2Proof/Machine/Memory.lean ====
section
/-! DEFINITION. Reads and writes of stored words (10_memory_banks.md R220 to R232): the banks and their spares, the check
code, the aliases, and what a word slot of the address map is (02_register_space.md R24 to R27). -/

namespace Sys2Proof.Machine

open Sys2Proof

/-! ### What a word slot is -/

/-- What lies at a slot address (R24, R26, R27, 04 R70). -/
inductive Slot where
  | rom (w : Nat)
  | bank (a : Nat)
  | setAlias (a : Nat)
  | clearAlias (a : Nat)
  | truss (a : Nat)
  | unused
  | chisel (p : Nat) (a : Nat)
  | mailbox (a : Nat)
  | nothing
  deriving DecidableEq, Repr

/-- An offset of a Chisel window that holds a word (R27). -/
def chiselWord (o : Nat) : Bool :=
  decide (o < 0x20000) || (decide (0x100000 ≤ o) && decide (o < 0x140000)) ||
    (decide (0x180000 ≤ o) && decide (o < 0x1C0000))

/-- BAR0 address of instruction `w` of program bank `b`, and of word `w` of X and Y memory, of physical core `p` (R27). -/
def progAddr (p b w : Nat) : Nat := 0x08000000 + 0x10000 * b + 0x200000 * p + 16 * w
def xAddr (p w : Nat) : Nat := 0x08100000 + 0x200000 * p + 16 * w
def yAddr (p w : Nat) : Nat := 0x08180000 + 0x200000 * p + 16 * w

/-- What slot address `a` (a multiple of 16) is; `remap` is SYS_CTRL.REMAP and `truss` tells the Truss range apart. -/
def slotAt (remap : Bool) (truss : Nat → Option Bool) (a : Nat) : Slot :=
  if a < 0x100000 then
    if remap then .bank (0x10000000 + a) else if a < 0x40000 then .rom (a / 16) else .nothing
  else if a < 0x200000 then
    if remap ∧ a < 0x140000 then .rom (a % 0x40000 / 16) else .nothing
  else if 0x04000000 ≤ a ∧ a < 0x08000000 then
    match truss a with
    | none => .nothing
    | some false => .unused
    | some true => .truss a
  else if 0x08000000 ≤ a ∧ a < 0x0A200000 then
    if chiselWord (a % 0x200000) then .chisel (a / 0x200000 - 64) a else .nothing
  else if 0x10000000 ≤ a ∧ a < 0x18000000 then .bank a
  else if 0x20000000 ≤ a ∧ a < 0x28000000 then .setAlias (0x10000000 + a % 0x10000000)
  else if 0x30000000 ≤ a ∧ a < 0x38000000 then .clearAlias (0x10000000 + a % 0x10000000)
  else if 0x3C000000 ≤ a ∧ a < 0x3C010000 then .mailbox a
  else .nothing

/-- The masters that reach the slot at `a`, which is `k` (R40). A sparse master reaches nothing through the address-zero
window; the reset copy of R193, which may, has an operation of its own. -/
def masterReaches (m a : Nat) (k : Slot) : Bool :=
  decide (m ≤ 2) || (decide (0x200000 ≤ a) && match k with
    | .bank _ => true
    | .setAlias _ | .clearAlias _ => m != 6 && m != 7
    | .truss _ | .unused | .chisel .. => m == 6 || m == 7
    | .rom _ | .mailbox _ => false
    | .nothing => true)

/-- The island of the words of physical core `p` (01 R17). -/
def coreIsland (p : Nat) : Nat := if p = 16 then 7 else 3 + p / 4

/-! ### Banks and spares (R220, R228) -/

/-- MEM_SPARE_MAP of spare `i`. -/
def spareFld (f : Fld) (i : Nat) : Fld := f.sh (4 * i)

/-- The visible bank that spare `i` replaces or copies. -/
def State.spareBank (s : State) (i : Nat) : Nat := bitsNat (s.rd (MEM_SPARE_MAP + 4 * i)).toNat 6 0

/-- The physical bank that answers for visible bank `b`. -/
def State.physOf (s : State) (b : Nat) : Nat :=
  match (List.range 8).find? fun i => s.fld (spareFld MEM_SPARE_MAP_IN_USE i) == 1 && s.spareBank i == b with
  | some i => 128 + i
  | none => b

/-- The visible bank that physical bank `p` answers for: none for an unused spare or a replaced bank. -/
def State.visibleOf (s : State) (p : Nat) : Option Nat :=
  if p < 128 then (if s.physOf p = p then some p else none)
  else if s.fld (spareFld MEM_SPARE_MAP_IN_USE (p - 128)) = 1 then some (s.spareBank (p - 128)) else none

/-! ### Checked reads (R222, R223) -/

/-- A word that a read found corrected waits to be written back (R223). -/
def State.queueBack (s : State) (a : Nat) (r : EccRead) : State :=
  match r.corrected, r.left with
  | true, some l => { s with bnk := { s.bnk with
      wb := ⟨a, s.word a ^^^ l, mget 0 s.flips a⟩ :: s.bnk.wb.filter fun x => x.addr != a } }
  | _, _ => s

/-- The bits `upset` of the stored word at `a` flip. -/
def State.upset (s : State) (a : Nat) (upset : BitVec 80) : State :=
  let was := mget 0 s.flips a
  { s with
    flips := mset 0 s.flips a (was ^^^ upset)
    bnk := { s.bnk with wb := (s.bnk.wb.filter fun x => x.addr != a || x.flips == was).map fun x =>
      if x.addr = a then { x with flips := was ^^^ upset } else x } }

/-- Count and capture what a read of the bank or mailbox word at `a` found; `inj` where the error was injected. -/
def State.noteEcc (s : State) (m a : Nat) (r : EccRead) (inj : Bool) : State :=
  let mbx := decide (0x3C000000 ≤ a)
  let phys := if mbx then 136 else s.physOf (bankOf a)
  let word := if mbx then a % 0x10000 / 16 else a / 16 % 65536
  let s := if r.corrected then (s.bump (MEM_ERR_CNT_CE.sh (4 * phys))).bump (whole MEM_CE_TOTAL)
    else (s.bump (MEM_ERR_CNT_UE.sh (4 * phys))).bump (whole MEM_UE_TOTAL)
  let s := if s.fld MEM_ERR_INFO_VALID = 1 then s.setFld MEM_ERR_INFO_OVERFLOW 1
    else (s.wrN MEM_ERR_ADDR ((if mbx then 0xFF else phys) * 2 ^ 24 + word)).wrN MEM_ERR_INFO
      (2 ^ 31 + s.fld MEM_ERR_INFO_OVERFLOW * 2 ^ 30 + (if r.corrected then 0 else 2 ^ 29) + (if inj then 0x3F else m) * 2 ^ 16 + r.syn * 2 ^ 8 + r.bit)
  (if inj then s else s.queueBack a r).evt 0x60 (if r.corrected then 0 else 1)

/-- The check of the word at `a` fails beyond repair. -/
def State.uncorrectable (s : State) (a : Nat) : Bool := (eccRead (mget 0 s.flips a)).left.isNone

/-- Take the errors with which the next read of an ON bank word is checked (R234): a UE injection before a CE one. -/
def State.injectedFlips (s : State) : BitVec 80 × State :=
  let (ue, s) := s.takeInj 0x60 1
  if ue then (3, s)
  else
    let (ce, s) := s.takeInj 0x60 0
    (if ce then 1 else 0, s)

/-- A read of a bank or mailbox word with its check; none where it is uncorrectable (no error response yet). -/
def State.checkedRead (s : State) (m a : Nat) : Option Word × State :=
  let (x, s) := if a < 0x3C000000 then s.injectedFlips else (0, s)
  let r := eccRead (mget 0 s.flips a ^^^ x)
  let s' := if r.left.isNone || r.corrected then s.noteEcc m a r (decide (x ≠ 0)) else s
  (r.left.map fun l => s.word a ^^^ l, s')

/-- A read of a bank word at its bank address by master `m`: none with the error response of R42 where the bank is not ON
or the word is uncorrectable. `size` is the size captured. -/
def State.bankRead (s : State) (m a size : Nat) : Option Word × State :=
  if s.bankState (bankOf a) ≠ 2 then (none, s.errResp m a 2 false size)
  else match s.checkedRead m a with
    | (none, s) => (none, s.errResp m a 4 false size)
    | r => r

/-- A whole-word write of a bank word by master `m`: whether it was performed, and the state. -/
def State.bankWrite (s : State) (m a : Nat) (w : Word) (size : Nat) : Bool × State :=
  if s.bankState (bankOf a) ≠ 2 then (false, s.errResp m a 2 true size)
  else (true, s.setWord a w)

/-- The management SPI has received error responses between two states. -/
def mspiMet (s t : State) : Bool :=
  (t.out.take (t.out.length - s.out.length)).any fun o => match o with
    | .errResp 1 _ _ => true
    | _ => false

/-- WRITE_ERR tells of the last WRITE performed for the management SPI (R44): `t` is the state after it. -/
def State.noteWrite (s t : State) (m : Nat) : State :=
  if m = 1 then { t with sys := { t.sys with mspiWriteErr := mspiMet s t } } else t

/-! ### Waits (R41) -/

/-- An access of master `m` at `addr` waits `n` matrix cycles (02 R41): one that waits at a bank conflicts (R230), and a
real-time one that waits more than 16 is counted apart. -/
def State.waited (s : State) (m addr n : Nat) : State :=
  if n = 0 ∨ 0x20 < m then s
  else
    let a := MTX_WAIT + 4 * m
    let s := s.wr a (s.rd a + BitVec.ofNat 32 n)
    let s := if 0x10000000 ≤ addr ∧ addr < 0x38000000 then s.bump (whole (MEM_CONFLICT + 4 * m)) else s
    if 16 < n ∧ (m = 3 ∨ 0x10 ≤ m) then (s.bump (whole MTX_RT_OVER)).evt 1 2 else s

/-! ### Bursts of the DMA masters (R41, 18 R435) -/

/-- A burst fails after `done` words: SVC_DMA_ERR and SVC_DMA_ADDR keep the first failure. -/
def State.dmaErr (s : State) (m done cause addr : Nat) : State :=
  if s.fld SVC_DMA_ERR_VALID = 1 then s
  else ((s.wrN SVC_DMA_ERR (2 ^ 31 + m * 2 ^ 16 + done * 2 ^ 8 + cause)).wrN SVC_DMA_ADDR (addr % 2 ^ 32)).evt 3 2

/-- The injection of R439 falls on word `k` of a burst of master 4: the word, not performed, gets an error response. -/
def State.dmaInj (s : State) (m k g : Nat) (write : Bool) : Option State :=
  if m = 4 ∧ k = 1 then
    let (i, s) := s.takeInj 3 2
    if i then some ((s.errResp m (globalAddr g) 15 write 16).dmaErr m k 15 (globalAddr g)) else none
  else none

/-- Read `n` words from global word address `g` on, word `k` of a transfer on; none where one gets an error response. -/
def State.burstRead (m : Nat) : Nat → Nat → Nat → State → Option (List Word) × State
  | 0, _, _, s => (some [], s)
  | n + 1, k, g, s =>
    match s.dmaInj m (k % 16) g false with
    | some s => (none, s)
    | none =>
      if 8388608 ≤ g then (none, (s.errResp m (globalAddr g) 0 false 16).dmaErr m (k % 16) 0 (globalAddr g))
      else
        let off := decide (s.bankState (g / 65536) ≠ 2)
        match s.bankRead m (globalAddr g) 16 with
        | (none, s) => (none, s.dmaErr m (k % 16) (if off then 2 else 4) (globalAddr g))
        | (some w, s) => match State.burstRead m n (k + 1) (g + 1) s with
          | (none, s) => (none, s)
          | (some ws, s) => (some (w :: ws), s)

/-- Write words from global word address `g` on, word `k` of a transfer on; whether all were performed. -/
def State.burstWrite (m : Nat) : List Word → Nat → Nat → State → Bool × State
  | [], _, _, s => (true, s)
  | w :: ws, k, g, s =>
    match s.dmaInj m (k % 16) g true with
    | some s => (false, s)
    | none =>
      if 8388608 ≤ g then (false, (s.errResp m (globalAddr g) 0 true 16).dmaErr m (k % 16) 0 (globalAddr g))
      else match s.bankWrite m (globalAddr g) w 16 with
        | (false, s) => (false, s.dmaErr m (k % 16) 2 (globalAddr g))
        | (true, s) => State.burstWrite m ws (k + 1) (g + 1) s

/-! ### Partial writes (R7, R224) -/

/-- A word with its bytes from `o` on replaced by `bs`; bytes 9 to 15 of the slot are ignored. -/
def putWordBytes (w : Word) : Nat → List Byte → Word
  | _, [] => w
  | o, b :: bs =>
    let w := if o < 9 then BitVec.ofNat 72 (w.toNat - bitsNat w.toNat (8 * o + 7) (8 * o) * 256 ^ o + b.toNat * 256 ^ o) else w
    putWordBytes w (o + 1) bs

/-- The write of bytes `bs` from byte `o` on covers bytes 0 to 8. -/
def fullSlot (o : Nat) (bs : List Byte) : Bool := decide (o = 0) && decide (9 ≤ bs.length)

/-- The bytes 0 to 8 that a write of `bs` from byte `o` on gives, unwritten ones 0. -/
def slotPattern (o : Nat) (bs : List Byte) : Word := putWordBytes 0 o bs

/-- A write of bytes to a word that is coded as R222: a whole-slot write replaces it, any other write is a
read-modify-write (R224). `rd` is the checked read; `f` combines the word that was read with the write. -/
def State.rmw (s : State) (rd : State → Option Word × State) (m a o : Nat) (f : Word → Word) (size : Nat) : Bool × State :=
  match rd s with
  | (none, s) => (false, s.errResp m (a + o) 4 true size)
  | (some w, s) => (true, s.setWord a (f w))

/-- A write of bytes to a bank slot. -/
def State.bankWriteBytes (s : State) (m a o : Nat) (bs : List Byte) (size : Nat) : Bool × State :=
  if s.bankState (bankOf a) ≠ 2 then (false, s.errResp m (a + o) 2 true size)
  else if fullSlot o bs then (true, s.setWord a (slotPattern o bs))
  else s.rmw (fun s => s.checkedRead m a) m a o (fun w => putWordBytes w o bs) size

/-- A write through the set alias (`set`) or the clear alias of a bank slot (R39): always a read-modify-write. -/
def State.aliasWriteBytes (s : State) (m a o : Nat) (bs : List Byte) (set : Bool) (size : Nat) : Bool × State :=
  let at' := (if set then 0x10000000 else 0x20000000) + a + o
  if s.bankState (bankOf a) ≠ 2 then (false, s.errResp m at' 2 true size)
  else
    let p := slotPattern o bs
    match s.checkedRead m a with
    | (none, s) => (false, s.errResp m at' 4 true size)
    | (some w, s) => (true, s.setWord a (if set then w ||| p else w &&& ~~~p))

/-- A read of a coded word outside the banks (tables and Chisel memories, R421), none where uncorrectable. -/
def State.codedWord (s : State) (a : Nat) : Option Word :=
  (eccRead (mget 0 s.flips a)).left.map fun l => s.word a ^^^ l

/-- A write of bytes to such a word. -/
def State.codedWriteBytes (s : State) (m a o : Nat) (bs : List Byte) (size : Nat) : Bool × State :=
  if fullSlot o bs then (true, s.setWord a (slotPattern o bs))
  else s.rmw (fun s => (s.codedWord a, s)) m a o (fun w => putWordBytes w o bs) size

/-- A write of bytes to a mailbox slot (R231). -/
def State.mailboxWriteBytes (s : State) (m a o : Nat) (bs : List Byte) (size : Nat) : Bool × State :=
  if fullSlot o bs then (true, s.setWord a (slotPattern o bs))
  else s.rmw (fun s => s.checkedRead m a) m a o (fun w => putWordBytes w o bs) size

end Sys2Proof.Machine
end

