-- ==== Sys2Proof/Machine/TrussTables.lean ====
section
/-! DEFINITION. The Truss tables (04_truss_graph.md R70 to R83): where each word lies and what its fields say, and the
load of a graph (05_truss_schedule.md R101, R102). -/

namespace Sys2Proof.Machine

open Sys2Proof

/-- Base of table copy `c` (R70). -/
def copyBase (c : Nat) : Nat := 0x04000000 + 0x01800000 * c

def srcAddr (c i : Nat) : Nat := copyBase c + 0x10 * i
def sinkAddr (c i : Nat) : Nat := 0x8000 + copyBase c + 0x10 * i
def descAddr (c g k : Nat) : Nat := 0x10000 + copyBase c + 0x40 * g + 0x10 * k
def arbAddr (c b l : Nat) : Nat := 0x50000 + copyBase c + 0x100 * b + 0x10 * l
def edgeAddr (c e k : Nat) : Nat := 0x100000 + copyBase c + 0x20 * e + 0x10 * k
def coefAddr (c q k : Nat) : Nat := 0x900000 + copyBase c + 0x80 * q + 0x10 * k
def sosAddr (q set k : Nat) : Nat := 0x07000000 + 0x40 * q + 0x20 * set + 0x10 * k
def meterAddr (g k : Nat) : Nat := 0x07800000 + 0x40 * g + 0x10 * k
def countAddr (region i : Nat) : Nat := 0x07900000 + 0x10000 * region + 0x10 * i
def concAddr (p k : Nat) : Nat := 0x07A00000 + 0x20 * p + 0x10 * k

/-- The live copy (R70). -/
def State.live (s : State) : Nat := s.fld TRS_TABLE_SEL_LIVE

/-- The copy that is not live. -/
def State.other (s : State) : Nat := 1 - s.live

/-- A row of R70: first address, end, stride, and how many bytes of each stride hold words. -/
def trussRanges : List (Nat × Nat × Nat × Nat) :=
  [(0x000000, 0x006000, 0x10, 0x10), (0x008000, 0x00E000, 0x10, 0x10), (0x010000, 0x048000, 0x40, 0x40),
   (0x050000, 0x070000, 0x100, 0x90), (0x100000, 0x900000, 0x20, 0x20), (0x900000, 0x1180000, 0x80, 0x50)]

/-- What an address of the Truss range is (R70): none outside every row, some false for an unused word, some true for a
word. -/
def trussWord (a : Nat) : Option Bool :=
  if a < 0x07000000 then
    let o := (0x00800000 + a) % 0x01800000
    (trussRanges.find? fun r => decide (r.1 ≤ o) && decide (o < r.2.1)).map
      fun r => decide ((o - r.1) % r.2.2.1 < r.2.2.2)
  else if a < 0x07440000 then some true
  else if 0x07800000 ≤ a ∧ a < 0x07838000 then some true
  else if 0x07900000 ≤ a ∧ a < 0x07A00000 then
    let o := a % 0x100000
    some (decide (o < 0x6000) || (decide (0x10000 ≤ o) && decide (o < 0x1E000)) ||
      (decide (0x20000 ≤ o) && decide (o < 0x26000)))
  else if 0x07A00000 ≤ a ∧ a < 0x07A28000 then some true
  else none

/-- The indices of a table's entries whose bit 63 (VALID or ENABLE) is set, rising: `base`, `len` and `stride` of the
table. -/
def flagged : List Host.Cell → Nat → Nat → Nat → List Nat
  | [], _, _, _ => []
  | (a, v) :: m, base, len, stride =>
    if a < base then flagged m base len stride
    else if base + len ≤ a then []
    else if (a - base) % stride = 7 ∧ 128 ≤ v.toNat then (a - base) / stride :: flagged m base len stride
    else flagged m base len stride

def State.validSources (s : State) (c : Nat) : List Nat := flagged s.mem (copyBase c) 0x6000 0x10
def State.validSinks (s : State) (c : Nat) : List Nat := flagged s.mem (0x8000 + copyBase c) 0x6000 0x10
def State.enabledStrips (s : State) (c : Nat) : List Nat := flagged s.mem (0x10000 + copyBase c) 0x38000 0x40
def State.validEdges (s : State) (c : Nat) : List Nat := flagged s.mem (0x100000 + copyBase c) 0x800000 0x20

/-- Service class of a word whose bits [62:61] hold it: 3 is treated as 2 (R3). -/
def wordClass (w : Word) : Nat := min (wbits w 62 61) 2

/-- The strip a source or sink map entry names (R74). -/
def mapStrip (w : Word) : Nat := wbits w 10 0

/-- The kinds of strip (R64). -/
def isInput (g : Nat) : Bool := decide (g < 1536)
def isBus (g : Nat) : Bool := decide (1536 ≤ g) && decide (g < 2048)
def isOutput (g : Nat) : Bool := decide (2048 ≤ g) && decide (g < 3584)

/-- Most sections a strip may use (R66). -/
def maxSos (g : Nat) : Nat := if isOutput g then 24 else 16

/-- The global index of section `k` of strip `g` (R71). -/
def sosIndex (g k : Nat) : Nat :=
  if g < 1536 then 16 * g + k else if g < 2048 then 24576 + 16 * (g - 1536) + k else 32768 + 24 * (g - 2048) + k

/-- Word 0 of a strip descriptor (R75). -/
def State.desc0 (s : State) (c g : Nat) : Word := s.word (descAddr c g 0)

def dEnable (w : Word) : Bool := w.toNat.testBit 63
def dMute (w : Word) : Bool := w.toNat.testBit 60
def dBypass (w : Word) : Bool := w.toNat.testBit 59
def dNsos (w : Word) : Nat := wbits w 58 54
def dInsEn (w : Word) : Bool := w.toNat.testBit 53
def dInsCore (w : Word) : Nat := wbits w 52 49
def dInsCh (w : Word) : Nat := wbits w 48 46
def dZc (w : Word) : Nat := if wbits w 43 32 = 0 then 4096 else wbits w 43 32
def dDelay (w : Word) : Nat := wbits w 28 16

/-- DLY_BASE of word 3 (R76). -/
def dDlyBase (w : Word) : Nat := wbits w 22 0

/-- Edge `e` of copy `c`. -/
def State.edge (s : State) (c e : Nat) : Edge :=
  let w := s.word (edgeAddr c e 0)
  ⟨e, wordClass w, wbits w 60 58, wbits w 27 16, wbits w 11 0⟩

/-- The valid edges of copy `c`, in ascending index. -/
def State.edges (s : State) (c : Nat) : List Edge := (s.validEdges c).map (s.edge c)

/-- Two entries are one edge of both copies (06 R128): FROM, TO and PRIO agree. DESIGN CHOICE (log entry 52): into an output
strip too, where 04 R79 ignores PRIO, an edge whose PRIO alone differs is removed and added. -/
def Edge.same (a b : Edge) : Bool := a.e == b.e && a.src == b.src && a.dst == b.dst && a.prio == b.prio

/-- The kinds of edge that R65 permits (the loop rule apart). -/
def edgeKindOk (d : Edge) : Bool :=
  (isInput d.src && (isBus d.dst || isOutput d.dst)) || (isBus d.src && (isBus d.dst || isOutput d.dst))

/-- A strip is enabled in copy `c`. -/
def State.enabled (s : State) (c g : Nat) : Bool := dEnable (s.desc0 c g)

/-- The valid edges between enabled strips of copy `c`. -/
def State.graphEdges (s : State) (c : Nat) : List Edge :=
  (s.edges c).filter fun d => s.enabled c d.src && s.enabled c d.dst

/-- The source stream whose valid entry names input strip `g` in copy `c`. -/
def State.sourceOf (s : State) (c g : Nat) : Option Nat :=
  (s.validSources c).find? fun i => decide (mapStrip (s.word (srcAddr c i)) = g)

/-- The output strip `g` that sink stream `k` receives in copy `c`, where its entry is valid and the strip enabled. -/
def State.sinkStrip (s : State) (c k : Nat) : Option Nat :=
  let w := s.word (sinkAddr c k)
  if w.toNat.testBit 63 ∧ s.enabled c (2048 + mapStrip w) then some (2048 + mapStrip w) else none

/-- R102: the usable capacity for `l` lanes at rate `f`. -/
def usable (l f : Nat) : Nat := 7 * (l * 5000000000 / f) / 8

/-- The pair lane count L (R103). -/
def State.lanesL (s : State) : Nat := s.fld TRS_LANE_STAT_PAIR_LANES

/-- The shed state of a strip (R115). -/
def State.shedState (s : State) (g : Nat) : Nat := mget 0 s.trs.shed g

/-- The running sections of a descriptor word, with the strip in shed state `sh` (R88, R120). -/
def runningSos (w : Word) (sh : Nat) : Nat := if dBypass w || sh == 1 || sh == 3 then 0 else dNsos w

/-- R101 over a list of (strip, sections) and the edges that count. -/
def graphLoad (strips : List (Nat × Nat)) (es : List Edge) : Nat :=
  16 + (strips.map fun p => 5 * p.2 + 1).sum +
    (es.filter fun d => strips.any (fun p => p.1 == d.src) && strips.any fun p => p.1 == d.dst).length

/-- The steady load of copy `c` with the shed states `sh` (R101). -/
def State.steadyLoad (s : State) (c : Nat) (sh : SMap Nat) : Nat :=
  let gs := (s.enabledStrips c).filter fun g => decide (mget 0 sh g ≠ 2)
  graphLoad (gs.map fun g => (g, runningSos (s.desc0 c g) (mget 0 sh g))) (s.edges c)

end Sys2Proof.Machine
end

