-- ==== Sys2Proof/Machine/TrussGraph.lean ====
section
/-! DEFINITION. The graph checks (04_truss_graph.md R65 to R69, R480) and the check commands of page 0x010 (R84 to R86). -/

namespace Sys2Proof.Machine

open Sys2Proof

/-- The result of a check: code, the entry named and the path reported (TRS_CHECK_STAT, TRS_CHECK_PATH). -/
structure CheckResult where
  code : Nat
  kind : Nat
  index : Nat
  len : Nat
  first : Nat
  last : Nat
  deriving DecidableEq, Repr

def CheckResult.ok : CheckResult := ⟨0, 0, 0, 0, 0, 0⟩

def mapConflict (kind index : Nat) : CheckResult := ⟨0x13, kind, index, 0, 0, 0⟩

/-- The first element `x` of a list for which `p x earlier` holds, `earlier` being the elements before it. -/
def firstWith {α : Type} (p : α → List α → Bool) : List α → List α → Option α
  | _, [] => none
  | seen, x :: xs => if p x seen then some x else firstWith p (seen ++ [x]) xs

/-- The delay region of an enabled strip: first word and length, none where DELAY is 0. -/
def State.delayRegion (s : State) (c g : Nat) : Option (Nat × Nat) :=
  let d := dDelay (s.desc0 c g)
  if d = 0 then none else some (dDlyBase (s.word (descAddr c g 3)), d)

/-- Two regions share a word. -/
def regionsMeet (a b : Nat × Nat) : Bool := decide (a.1 < b.1 + b.2) && decide (b.1 < a.1 + a.2)

/-- Check 1 of R69, its conditions in the order listed, naming entries as R480 has it. DESIGN CHOICE (log entry 50): two valid
source entries with one STRIP above 1535 are taken to name one strip, so that the later is named under the first condition. -/
def State.check1 (s : State) (c : Nat) : Option CheckResult :=
  let srcs := s.validSources c
  let sinks := s.validSinks c
  let es := s.edges c
  let gs := s.enabledStrips c
  let strip i := mapStrip (s.word (srcAddr c i))
  let dupSrc := firstWith (fun i seen => seen.any fun j => strip j == strip i) [] srcs
  let badSrc := srcs.find? fun i => decide (1535 < strip i)
  let badSink := sinks.find? fun i => decide (1535 < mapStrip (s.word (sinkAddr c i)))
  let badEdge := es.find? fun d => !edgeKindOk d
  let badSos := gs.find? fun g => decide (maxSos g < dNsos (s.desc0 c g))
  let fan := firstWith (fun d seen => decide (2048 ≤ (seen.filter fun x => x.dst == d.dst).length)) [] es
  let point g := (dInsCore (s.desc0 c g), dInsCh (s.desc0 c g))
  let dupIns := firstWith (fun g seen => seen.any fun h => point h == point g) []
    (gs.filter fun g => dInsEn (s.desc0 c g))
  let delay := firstWith (fun g seen => match s.delayRegion c g with
    | none => false
    | some r => decide (65536 < r.1 % 65536 + r.2) || decide (s.bankState (r.1 / 65536) ≠ 2) ||
        seen.any fun h => match s.delayRegion c h with
          | none => false
          | some q => regionsMeet q r) [] gs
  (dupSrc.map (mapConflict 1)).orElse fun _ => (badSrc.map (mapConflict 1)).orElse fun _ =>
  (badSink.map (mapConflict 2)).orElse fun _ => (badEdge.map fun d => mapConflict 4 d.e).orElse fun _ =>
  (badSos.map (mapConflict 3)).orElse fun _ => (fan.map fun d => mapConflict 4 d.e).orElse fun _ =>
  (dupIns.map (mapConflict 3)).orElse fun _ => delay.map (mapConflict 3)

/-- Nodes of the loop check (R67). -/
def headNode (g : Nat) : Nat := 2 * g
def tailNode (g : Nat) : Nat := 2 * g + 1
def coreNode (c : Nat) : Nat := 7168 + c

/-- The arcs of R67 that are not edges: through strips, inserts and cores. DESIGN CHOICE (log entry 49): an edge from a bus
strip to itself, which R65 calls a loop, makes none where the strip's insert is on a core without a program, since R67 has no
arc from its head to its tail. -/
def State.innerArcs (s : State) (c : Nat) (sel : SMap Selection) : List (Nat × Nat) :=
  let gs := s.enabledStrips c
  let strips := gs.flatMap fun g =>
    let w := s.desc0 c g
    if dInsEn w then
      match mfind sel (dInsCore w) with
      | none => []
      | some _ => [(headNode g, coreNode (dInsCore w)), (coreNode (dInsCore w), tailNode g)]
    else [(headNode g, tailNode g)]
  let sinks := (s.validSinks c).filterMap fun k =>
    let o := 2048 + mapStrip (s.word (sinkAddr c k))
    if k < 1120 then none
    else match mfind sel ((k - 1120) / 26) with
      | none => none
      | some p => if p.inputs.testBit ((k - 1120) % 26) && s.enabled c o then
          some (tailNode o, coreNode ((k - 1120) / 26)) else none
  let srcs := (s.validSources c).filterMap fun i =>
    let g := mapStrip (s.word (srcAddr c i))
    if i < 1248 then none
    else match mfind sel ((i - 1248) / 18) with
      | none => none
      | some p => if p.outputs.testBit ((i - 1248) % 18) && s.enabled c g then
          some (coreNode ((i - 1248) / 18), headNode g) else none
  strips ++ sinks ++ srcs

/-- The nodes reached along `arcs` from `todo`, beside `seen`. -/
def reached (arcs : List (Nat × Nat)) : Nat → List Nat → List Nat → List Nat
  | 0, seen, _ => seen
  | n + 1, seen, todo =>
    let new := ((arcs.filter fun a => todo.contains a.1).map fun a => a.2).eraseDups.filter fun v => !seen.contains v
    if new.isEmpty then seen else reached arcs n (seen ++ new) new

/-- Node `b` is reached from node `a` by at least one arc. -/
def reaches (arcs : List (Nat × Nat)) (a b : Nat) : Bool := (reached arcs (arcs.length + 1) [] [a]).contains b

/-- The arcs left when those from nodes that no arc enters are taken away again and again: every arc of a loop is among them. -/
def looped : Nat → List (Nat × Nat) → List (Nat × Nat)
  | 0, arcs => arcs
  | n + 1, arcs =>
    let left := arcs.filter fun a => arcs.any fun b => b.2 == a.1
    if left.length = arcs.length then arcs else looped n left

/-- Check 2 (R67), with the entry R480 names. -/
def State.check2 (s : State) (c : Nat) (sel : SMap Selection) : Option CheckResult :=
  let es := s.graphEdges c
  let arcs := s.innerArcs c sel ++ es.map fun d => (tailNode d.src, headNode d.dst)
  let arcs := looped arcs.length arcs
  if arcs = [] then none else
  match es.reverse.find? fun d => reaches arcs (headNode d.dst) (tailNode d.src) with
  | some d => some ⟨0x12, 4, d.e, 0, d.dst, d.src⟩
  | none =>
    ((s.enabledStrips c).find? fun g => reaches arcs (headNode g) (headNode g) ||
      reaches arcs (tailNode g) (tailNode g)).map fun g => ⟨0x12, 3, g, 0, g, g⟩

/-- One round of longest-path depths over the edges, from the depths so far. -/
def depthRound (es : List Edge) (m : SMap Nat) : SMap Nat :=
  es.foldl (fun m d => if mget 0 m d.dst < mget 0 m d.src + 1 then mset 0 m d.dst (mget 0 m d.src + 1) else m) m

/-- Rounds until one changes nothing, at most `n`. -/
def depthRounds (es : List Edge) : Nat → SMap Nat → SMap Nat
  | 0, m => m
  | n + 1, m =>
    let next := depthRound es m
    if next = m then m else depthRounds es n next

/-- Depth of every enabled strip (R68) of an acyclic graph. -/
def State.depths (s : State) (c : Nat) : SMap Nat :=
  let gs := s.enabledStrips c
  depthRounds (s.graphEdges c) gs.length (gs.map fun g => (g, 1))

/-- The chains of edges that leave strip `u` and enter no strip twice, `seen` being those already entered; at most `n` edges. -/
def chains (es : List Edge) : Nat → List Nat → Nat → List (List Edge)
  | 0, _, _ => [[]]
  | n + 1, seen, u =>
    [] :: (es.filter fun d => d.src == u && !seen.contains d.dst).flatMap fun d =>
      (chains es n (d.dst :: seen) d.dst).map fun l => d :: l

/-- The edges of copy `c` close a ring, which check 2 leaves where an insert on a core without a program cuts it (R67). -/
def State.ringed (s : State) (c : Nat) : Bool :=
  let arcs := (s.graphEdges c).map fun d => (d.src, d.dst)
  looped arcs.length arcs != []

/-- Every path of copy `c`: its first strip and its edges. DESIGN CHOICE (log entry 57): a path enters no strip twice, so that
its depth counts strips also where edges close a ring. -/
def State.paths (s : State) (c : Nat) : List (Nat × List Edge) :=
  let gs := s.enabledStrips c
  gs.flatMap fun g => (chains (s.graphEdges c) gs.length [g] g).map fun l => (g, l)

/-- The greatest path depth of copy `c`; 0 with no enabled strip. -/
def State.maxDepth (s : State) (c : Nat) : Nat :=
  if s.ringed c then (s.paths c).foldl (fun d p => max d (p.2.length + 1)) 0
  else (s.depths c).foldl (fun d p => max d p.2) 0

/-- The strips from which a deepest path of `n` more edges reaches `last`. -/
def backLayers (es : List Edge) (dep : SMap Nat) : Nat → List Nat → List (List Nat)
  | 0, layer => [layer]
  | n + 1, layer =>
    let prev := ((es.filter fun d => layer.contains d.dst && mget 0 dep d.src + 1 == mget 0 dep d.dst).map
      fun d => d.src).eraseDups
    layer :: backLayers es dep n prev

/-- The lowest-indexed edges along the layers from strip `u`. -/
def forwardEdges (es : List Edge) : Nat → List (List Nat) → Nat → List Nat
  | _, [], e => [e]
  | u, layer :: rest, e =>
    match es.find? fun d => d.src == u && layer.contains d.dst with
    | none => [e]
    | some d => forwardEdges es d.dst rest d.e

/-- The last strip of a path, and its last edge. -/
def pathEnd (p : Nat × List Edge) : Nat × Nat :=
  match p.2.getLast? with
  | some d => (d.dst, d.e)
  | none => (p.1, 0)

/-- One list of numbers comes before another. -/
def lexLt : List Nat → List Nat → Bool
  | a :: r, b :: t => if a = b then lexLt r t else decide (a < b)
  | _, _ => false

/-- The order of R480 among the deepest paths: last strip, first strip, edges. -/
def pathKey (p : Nat × List Edge) : List Nat := (pathEnd p).1 :: p.1 :: p.2.map fun d => d.e

/-- Check 3 (R68) where edges close a ring: the path R480 reports, among those that enter no strip twice. -/
def State.check3Ring (s : State) (c : Nat) : Option CheckResult :=
  let m := s.maxDepth c
  if m ≤ 8 then none
  else match (s.paths c).filter fun p => p.2.length + 1 == m with
    | [] => none
    | p :: r =>
      let q := r.foldl (fun q p => if lexLt (pathKey p) (pathKey q) then p else q) p
      some ⟨0x11, 4, (pathEnd q).2, min m 15, q.1, (pathEnd q).1⟩

/-- Check 3 (R68), with the path R480 reports. -/
def State.check3 (s : State) (c : Nat) : Option CheckResult :=
  if s.ringed c then s.check3Ring c else
  let dep := s.depths c
  let es := s.graphEdges c
  let m := dep.foldl (fun d p => max d p.2) 0
  if m ≤ 8 then none
  else match dep.find? fun p => p.2 == m with
    | none => none
    | some (last, _) =>
      let layers := (backLayers es dep (m - 1) [last]).reverse
      match layers with
      | [] => none
      | firsts :: rest =>
        let first := firsts.foldl min (firsts.headD 0)
        let e := (forwardEdges es first rest 0).headD 0
        some ⟨0x11, 4, e, min m 15, first, last⟩

/-- Checks 1 to 3 of R69 in order, the first that fails giving the result. -/
def State.checkGraph (s : State) (c : Nat) (sel : SMap Selection) : CheckResult :=
  ((s.check1 c).orElse fun _ => (s.check2 c sel).orElse fun _ => s.check3 c).getD .ok

/-- The selections in force for copy `c` (R85): the staged ones for the copy that is not live. -/
def State.selFor (s : State) (c : Nat) : SMap Selection :=
  if c = s.live then s.chs.sel
  else s.chs.selNext.foldl (fun m p => match p.2 with
    | none => mdel m p.1
    | some x => mins m p.1 x) s.chs.sel

/-- Cairn is staging (07_cairn_scenes.md R165, CRN_STAT.STATE). -/
def State.staging (s : State) : Bool := s.fld CRN_STAT_STATE == 1

/-- The write of TRS_CHECK_CTRL (R84, R85). -/
def State.writeCheckCtrl (s : State) (v : Reg32) : State :=
  let s := s.setFld TRS_CHECK_CTRL_COPY (bitsNat v.toNat 1 1)
  if v.toNat.testBit 0 ∧ s.fld TRS_CHECK_CTRL_START = 0 then
    let s := s.setFld TRS_CHECK_CTRL_START 1
    if s.staging then { s with trs := { s.trs with checkWait := true } }
    else { s with trs := { s.trs with check := some (s.fld TRS_CHECK_CTRL_COPY) } }
  else s

/-- CHECK_BEGIN (R85): a check that waited for a stage begins. -/
def execCheckBegin (s : State) : Res :=
  .next (if s.trs.checkWait ∧ ¬ s.staging then
    { s with trs := { s.trs with checkWait := false, check := some (s.fld TRS_CHECK_CTRL_COPY) } } else s)

/-- Write the result of a check to TRS_CHECK_STAT and TRS_CHECK_PATH. -/
def State.putCheck (s : State) (r : CheckResult) : State :=
  (s.wrN TRS_CHECK_STAT (r.code * 2 ^ 24 + r.kind * 2 ^ 20 + r.index)).wrN TRS_CHECK_PATH
    (r.len * 2 ^ 28 + r.first * 2 ^ 16 + r.last)

/-- CHECK_DONE (R84 to R86): the running check ends with the tables as they stand (log entry 13). -/
def execCheckDone (s : State) : Res :=
  match s.trs.check with
  | none => .next s
  | some c =>
    let r := s.checkGraph c (s.selFor c)
    let s := ((s.putCheck r).setFld TRS_CHECK_CTRL_START 0).evt 0x10 0
    let s := if r.code = 0 then s else s.evt 0x10 1
    .next { s with trs := { s.trs with check := none } }

end Sys2Proof.Machine
end

