-- ==== Sys2Proof/Machine/Strips.lean ====
section
/-! DEFINITION. Strip processing (06_strips_and_gain.md): what an item computes when it is issued. -/

namespace Sys2Proof.Machine

open Sys2Proof

/-- Change the Truss part of the state. -/
def State.onTrs (s : State) (f : Truss → Truss) : State := { s with trs := f s.trs }

/-- The open tick of index `n`. -/
def State.tick (s : State) (n : Nat) : Option Tick := s.trs.ticks.find? fun t => t.idx == n

/-- Change the open tick of index `n`. -/
def State.onTick (s : State) (n : Nat) (f : Tick → Tick) : State :=
  s.onTrs fun u => { u with ticks := u.ticks.map fun t => if t.idx = n then f t else t }

/-- The settings in force. -/
def State.settings (s : State) : Settings :=
  ⟨s.live, s.trs.steps, s.trs.chg, s.trs.stopping, s.trs.xf, s.trs.srcRamp, s.trs.sinkRamp, s.trs.shed⟩

/-- The machine under other settings. -/
def State.under (s : State) (v : Settings) : State :=
  (s.setFld TRS_TABLE_SEL_LIVE v.live).onTrs fun t => { t with
    steps := v.steps, chg := v.chg, stopping := v.stopping, xf := v.xf, srcRamp := v.srcRamp, sinkRamp := v.sinkRamp
    shed := v.shed }

/-- The machine as the work of an open index sees it (03 R63, 04 R73): its settings, and the table words it still uses in
place of live-written ones. Only table words and settings are read through it. -/
def State.fabOf (s : State) (t : Tick) : State :=
  let s := match t.late with
    | some v => s.under v
    | none => s
  t.held.foldl (fun s p => s.setWord p.1 p.2) s

/-- The machine as the work of index `n` sees it. -/
def State.fabAt (s : State) (n : Nat) : State :=
  match s.tick n with
  | some t => s.fabOf t
  | none => s

/-- The machine as the work of the index in progress sees it. -/
def State.fab (s : State) : State := s.fabAt s.idx

/-! ### The graph in force at an index -/

/-- Where a strip stands in the running crossfade plan (05 R105): before its window, at step k of it, or past it. -/
inductive Phase where
  | old
  | both (k : Nat)
  | new
  deriving DecidableEq, Repr

/-- The window position of batch `i` (from 1) at index `n`. -/
def Xfade.phaseOf (x : Xfade) (i n : Nat) : Phase :=
  let b := x.flip + (i - 1) * x.win
  if n < b then .old else if n < b + x.win then .both (n - b + 1) else .new

/-- The phase of strip `g` at index `n`. -/
def State.phase (s : State) (g n : Nat) : Phase :=
  match s.trs.xf with
  | none => .new
  | some x =>
    match x.batches.findIdx? fun b => b.contains g with
    | none => .new
    | some i => x.phaseOf (i + 1) n

/-- A strip is part of the running graph: enabled, or stopping under R128. -/
def State.inGraph (s : State) (g : Nat) : Bool := s.enabled s.live g || s.trs.stopping.contains g

/-- The copy a strip runs from: a stopping strip runs from the non-live copy (R128). -/
def State.stripCopy (s : State) (g : Nat) : Nat := if s.trs.stopping.contains g then s.other else s.live

/-- Every strip of the running graph. -/
def State.graphStrips (s : State) : List Nat :=
  (s.enabledStrips s.live ++ s.trs.stopping.filter fun g => !s.enabled s.live g)

/-- A strip is in work: in the running graph and not shed-muted (05 R101). -/
def State.inWork (s : State) (g : Nat) : Bool := s.inGraph g && s.shedState g != 2

/-- An edge as it contributes at an index: the edge, the gain it keeps where it is removed, and its fade step (none when it
does not fade, some (true, k) when added, some (false, k) when removed). -/
structure LiveEdge where
  edge : Edge
  kept : Option Word
  fade : Option (Bool × Nat)
  deriving DecidableEq, Repr

/-- The key of a contribution: an edge that is removed and added is two. -/
def LiveEdge.key (d : LiveEdge) : Nat := 2 * d.edge.e + if d.kept.isSome then 1 else 0

/-- The edges that contribute to strip `g` at index `n` (05 R105, 06 R122, R128, R136), in ascending index: those of the live
copy, where the ones that the commit added wait for the strip's window and fade in over it, and until the window is over those
that it removed. Edges whose FROM is not in work contribute nothing (04 R83). -/
def State.inEdges (s : State) (g n : Nat) : List LiveEdge :=
  let added : List Edge := match s.trs.xf with | some x => x.added | none => []
  let removed : List (Edge × Word) := match s.trs.xf with | some x => x.removed | none => []
  let gone := removed.filter fun d => d.1.dst == g
  let cur := (s.edges s.live).filter fun d => d.dst == g && s.enabled s.live d.src && s.enabled s.live g
  let leaving (fade : Option (Bool × Nat)) : List LiveEdge := gone.map fun d => ⟨d.1, some d.2, fade⟩
  let isNew (d : Edge) : Bool := added.any d.same
  let l : List LiveEdge := match s.phase g n with
    | .new => cur.map fun d => ⟨d, none, none⟩
    | .old => ((cur.filter fun d => !isNew d).map fun d => ⟨d, none, none⟩) ++ leaving none
    | .both k => (cur.map fun d => ⟨d, none, if isNew d then some (true, k) else none⟩) ++ leaving (some (false, k))
  (sortBy (fun d => d.edge.e) l).filter fun d => s.inWork d.edge.src

/-- The delay and insert fields in force for a strip: words 0 and 3, the old ones in step 1 of a changeover (R127). -/
def State.delayWords (s : State) (g : Nat) : Word × Word :=
  let now := (s.desc0 (s.stripCopy g) g, s.word (descAddr (s.stripCopy g) g 3))
  match mfind s.trs.chg g with
  | some c => if c.fillEnd.isNone then (c.old0, c.old3) else now
  | none => now

/-- A strip has its insert enabled at present. -/
def State.hasInsert (s : State) (g : Nat) : Bool := dInsEn (s.delayWords g).1

/-! ### Gains (R124, R125) -/

def trimKey (g : Nat) : Nat := g
def faderKey (g : Nat) : Nat := 4096 + g
def edgeKey (e : Nat) : Nat := 8192 + e

/-- Strip `g` is in step 1 of a changeover, its fader bound for 0 (R127). -/
def State.faderFalls (s : State) (g : Nat) : Bool :=
  match mfind s.trs.chg g with
  | some c => c.fillEnd.isNone && !c.wrote
  | none => false

/-- The fader gain the tables ask for: 0 while muted, in step 1 of a changeover, and for an output strip that stops (R118,
R127, R128). -/
def State.faderTarget (s : State) (g : Nat) : Word :=
  let c := s.stripCopy g
  if dMute (s.desc0 c g) || s.faderFalls g || (s.trs.stopping.contains g && isOutput g) then 0 else s.word (descAddr c g 2)

/-- The gain applied at present for key `k` whose tables ask for `target`. -/
def State.applied (s : State) (k : Nat) (target : Word) : Word :=
  match mfind s.trs.steps k with
  | none => target
  | some p => p.applied

/-- A crossing of R124. -/
def crosses (prev x : Word) : Bool := x == 0 || (prev != 0 && prev.msb != x.msb)

/-- Remove the pending step of key `k`. -/
def State.dropStep (s : State) (k : Nat) : State := s.onTrs fun t => { t with steps := mdel t.steps k }

/-- The pending step of key `k` takes effect at sample `n`; the fader step of step 1 of a changeover ends that step (R127). -/
def State.stepDone (s : State) (k n : Nat) : State :=
  let s := s.dropStep k
  if k < 4096 ∨ 8192 ≤ k then s
  else match mfind s.trs.chg (k - 4096) with
    | some c => if c.fillEnd.isNone then
        s.onTrs fun t => { t with chg := mins t.chg (k - 4096) { c with down := some n } } else s
    | none => s

/-- A step forced at its timeout is counted (R124, R138). -/
def State.countForced (s : State) : State := (s.bump (whole TRS_ZC_FORCED)).evt 0x13 2

/-- TRS_GRAPH_STAT.XFADE (04 R84, R127): a crossfade, a fade, or steps 1 to 3 of a changeover. DESIGN CHOICE (log entry 54): a
strip that stops (R128) runs from the non-live copy, and keeps XFADE at 1 until it stops. -/
def State.refreshXfade (s : State) : State :=
  s.setFld TRS_GRAPH_STAT_XFADE
    (if s.trs.xf.isSome || s.trs.chg.any (fun e => !e.2.filled) || s.trs.stopping ≠ [] then 1 else 0)

/-- Truss is done with every commit once no batch, changeover or ramp is left (07_cairn_scenes.md R163). -/
def State.trussDone (s : State) : State :=
  let t := s.trs
  if t.xf = none ∧ t.chg = [] ∧ t.stopping = [] ∧ t.srcRamp = [] ∧ t.sinkRamp = [] then s.unitDone 0 fun _ => true else s

/-- A changeover is over once its fill has ended and its fader has stepped up (R127 step 4). -/
def State.settleChg (s : State) : State :=
  let settled (e : Nat × Changeover) : Bool := e.2.filled && (mfind s.trs.steps (faderKey e.1)).isNone
  if s.trs.chg.any settled then (s.onTrs fun t => { t with chg := t.chg.filter fun e => !settled e }).trussDone else s

/-- What STEPS_DONE of a commit waits for (R138): gain steps by their key, changeovers and stopping strips. -/
def chgKey (g : Nat) : Nat := 2 ^ 20 + g
def stopKey (g : Nat) : Nat := 2 ^ 21 + g

/-- A gain step, changeover or stopping strip is still open. -/
def State.stepOpen (s : State) (k : Nat) : Bool :=
  if k < 2 ^ 20 then (mfind s.trs.steps k).isSome
  else if k < 2 ^ 21 then (mfind s.trs.chg (k - 2 ^ 20)).isSome
  else s.trs.stopping.contains (k - 2 ^ 21)

/-- STEPS_DONE for every commit whose last gain step and changeover have completed (R138). -/
def State.checkStepsDone (s : State) : State :=
  let s := s.settleChg
  let left := s.trs.stepsOpen.map fun l => l.filter s.stepOpen
  (left.filter fun l => l == []).foldl (fun s _ => s.evt 0x13 4)
    (s.onTrs fun t => { t with stepsOpen := left.filter fun l => l != [] })

/-- A pending step takes effect at sample `n` (R124): at a crossing of the signal, or forced at its deadline. -/
def GainStep.falls (p : GainStep) (n : Nat) (prev x : Word) : Bool :=
  decide (p.start ≤ n) && (crosses prev x || decide (p.deadline ≤ n))

/-- The gain that sample `n` of the tested signal uses (R124, R125). -/
def State.gainAt (f : State) (k n : Nat) (prev x target : Word) : Word :=
  match mfind f.trs.steps k with
  | none => target
  | some p => if p.falls n prev x then target else p.applied

/-- Test the step of key `k` pending at sample `n` against the signal (R124). A step begun anew since, at a flip that the
sample precedes, starts from the gain now reached. -/
def State.testStep (s f : State) (k n : Nat) (prev x target : Word) : State :=
  match mfind f.trs.steps k, mfind s.trs.steps k with
  | some p, some q =>
    if ¬ p.falls n prev x then s
    else
      let s := if p = q then s.stepDone k n else s.onTrs fun t => { t with steps := mins t.steps k { q with applied := target } }
      let s := if crosses prev x then s else s.countForced
      s.checkStepsDone
  | _, _ => s

/-! ### Concealment (03 R60) -/

/-- Concealment point `p` takes `a`; the gain is g/32 times `w16`/16 (07 R158). -/
def State.conceal (s : State) (p : Nat) (a : Option Word) (w16 : Nat) : Word × Bool × State :=
  let g := wbits (s.word (concAddr p 1)) 5 0
  let h := s.word (concAddr p 0)
  let (h', g') := match a with
    | some x => (x, min (g + 1) 32)
    | none => (h, g - 1)
  let r := narrowWord 9 (h'.toInt * g' * w16)
  (r.1, r.2, (s.setWord (concAddr p 0) h').setWord (concAddr p 1) (BitVec.ofNat 72 g'))

/-- The arrival of point `p` in a tick: not yet, absent after the deadline, or present. -/
def Tick.arrival (t : Tick) (p : Nat) : Option Arrival :=
  match mfind t.arr p with
  | some a => some a
  | none => t.dl.map fun d => ⟨none, d⟩

/-- The source an input strip takes at index `n` and its ramp weight of 16 (07 R158): none where the side in use has no
entry. -/
def State.inputSource (s : State) (g n : Nat) : Option Nat × Nat :=
  let new := s.sourceOf s.live g
  let cur := if s.trs.stopping.contains g then s.sourceOf s.other g else new
  match mfind s.trs.srcRamp g with
  | none => (cur, 16)
  | some r =>
    let k := n - r.flip
    if k < 16 then (r.old, 15 - k) else if k < 32 then (cur, k - 15) else (cur, 16)

/-! ### Sections (R119 to R121) -/

/-- One section: its output, the new state words and the clip indication (R119). -/
def sosStep (b0 b1 b2 a1 a2 s1 s2 x : Word) : Word × Word × Word × Bool :=
  let y := narrowWord 63 (b0.toInt * x.toInt + s1.toInt * 2 ^ 63)
  let t1 := narrowWord 63 (b1.toInt * x.toInt - a1.toInt * y.1.toInt + s2.toInt * 2 ^ 63)
  let t2 := narrowWord 63 (b2.toInt * x.toInt - a2.toInt * y.1.toInt)
  (y.1, t1.1, t2.1, y.2 || t1.2 || t2.2)

/-- Run sections `k` to `k + n − 1` of strip `g` with the coefficients of copy `c` and state set `c`; `f` is the machine
through which tables are read. -/
def runSections (f : State) (c g : Nat) : Nat → Nat → State → Word → Bool → Word × Bool × State
  | 0, _, s, x, clip => (x, clip, s)
  | n + 1, k, s, x, clip =>
    let q := sosIndex g k
    let co j := f.word (coefAddr c q j)
    let (y, s1, s2, cl) := sosStep (co 0) (co 1) (co 2) (co 3) (co 4) (s.word (sosAddr q c 0)) (s.word (sosAddr q c 1)) x
    runSections f c g n (k + 1) ((s.setWord (sosAddr q c 0) s1).setWord (sosAddr q c 1) s2) y (clip || cl)

/-- Copy the state of section `q` from set `a` to set `b`, or clear set `b` (R121). -/
def State.seedSection (s : State) (q a b : Nat) (has : Bool) : State :=
  (s.setWord (sosAddr q b 0) (if has then s.word (sosAddr q a 0) else 0)).setWord (sosAddr q b 1)
    (if has then s.word (sosAddr q a 1) else 0)

/-- Stage 3 (R121): the running chain, or both chains and their mix. A strip of the plan whose edges alone change runs one
chain, which goes over to the new state set at the first sample of its window; a strip that starts has no old chain. -/
def State.stage3 (s f : State) (g n : Nat) (x : Word) (clip : Bool) : Word × Bool × State :=
  let sh := f.shedState g
  let nNew := runningSos (f.desc0 f.live g) sh
  let nOld := runningSos (f.desc0 f.other g) sh
  let one (s : State) := runSections f f.live g nNew 0 s x clip
  if f.trs.stopping.contains g then runSections f f.other g nOld 0 s x clip
  else if ¬ f.enabled f.other g then one s
  else match f.phase g n, f.trs.xf with
    | .both k, some xf =>
      let s := if k = 1 then
          (List.range (maxSos g)).foldl (fun s j =>
            if j < nNew ∨ ¬ xf.chains.contains g then
              s.seedSection (sosIndex g j) f.other f.live (decide (j < nOld) || !xf.chains.contains g)
            else s) s
        else s
      if xf.chains.contains g then
        let (y1, c1, s) := runSections f f.other g nOld 0 s x clip
        let (y2, c2, s) := runSections f f.live g nNew 0 s x c1
        let (wn, wo) := fadeWeights xf.equalPower xf.win k
        let r := narrowWord 31 (y1.toInt * wo + y2.toInt * wn)
        (r.1, c2 || r.2, s)
      else one s
    | .old, _ => runSections f f.other g nOld 0 s x clip
    | _, _ => one s

/-! ### Ducking (R130 to R133) -/

/-- Key of level `l` of bus `b`. -/
def arbKey (b l : Nat) : Nat := 8 * b + l

def ArbLevel.zero : ArbLevel := ⟨0, 0, 0, false⟩

/-- Level `l` of bus `b`. -/
def State.level (s : State) (b l : Nat) : ArbLevel := mget .zero s.trs.arb (arbKey b l)

/-- Set level `l` of bus `b`. -/
def State.setLevel (s : State) (b l : Nat) (v : ArbLevel) : State :=
  s.onTrs fun t => { t with arb := mset .zero t.arb (arbKey b l) v }

/-- Activity of a level (R130): `v` is the greatest magnitude of its contributions (fraction of 126 bits). -/
def levelActivity (w : Word) (v : Nat) (a : ArbLevel) : ArbLevel :=
  if w.toNat.testBit 63 ∧ romT (wbits w 54 48) * 2 ^ 63 ≤ (v : Int) then { a with active := true, hold := 16 * wbits w 15 0 }
  else if w.toNat.testBit 63 ∧ 0 < a.hold then { a with active := true, hold := a.hold - 1 }
  else { a with active := false, hold := 0 }

/-- D_M of a level word (R131). -/
def levelDepth (w : Word) : Nat := if wbits w 62 55 = 255 then 2 ^ 31 else wbits w 62 55 * 2 ^ 23

/-- The attenuation of a level toward target `t` under governor word `w` (R131). -/
def moveAtt (w : Word) (t : Nat) (a : Nat) : Nat :=
  let d := levelDepth w
  if a < t then if wbits w 47 32 = 0 then t else min (a + ceilDiv d (wbits w 47 32)) t
  else if t < a then if wbits w 31 16 = 0 then t else max (a - ceilDiv d (16 * wbits w 31 16)) t
  else a

/-- The target of level `l` and its governor among the active levels above it (R131). -/
def governor (words : List Word) (act : List Bool) (l old : Nat) : Nat × Nat :=
  (List.range 8).foldl (fun (p : Nat × Nat) m =>
    let d := levelDepth (words.getD m 0)
    if l < m ∧ act.getD m false ∧ p.1 ≤ d ∧ 0 < d then (d, m) else p) (0, old)

/-- One update of the arbiter of bus strip `g` (R130, R131, R133) with the level signals `v`. -/
def State.arbitrate (s f : State) (g : Nat) (v : List Nat) : State :=
  let b := g - 1536
  let words := (List.range 8).map fun l => f.word (arbAddr f.live b l)
  let s :=
    if (f.word (arbAddr f.live b 8)).toNat.testBit 63 then
      let acts := (List.range 8).map fun l => levelActivity (words.getD l 0) (v.getD l 0) (s.level b l)
      let act := acts.map fun a => a.active
      (List.range 8).foldl (fun s l =>
        let a := acts.getD l .zero
        let (t, gov) := governor words act l a.gov
        s.setLevel b l { a with gov := gov, att := moveAtt (words.getD gov 0) t a.att }) s
    else (List.range 8).foldl (fun s l => s.setLevel b l { (s.level b l) with active := false, hold := 0, att := 0 }) s
  let bitsOf (p : ArbLevel → Bool) := ((List.range 8).map fun l => if p (s.level b l) then 2 ^ l else 0).sum
  let s := s.setWord (meterAddr g 3) (BitVec.ofNat 72 (bitsOf (fun a => a.active) * 2 ^ 56 +
    bitsOf (fun a => decide (0 < a.att)) * 2 ^ 48))
  s.wrN TRS_DUCK_BUSES ((s.trs.arb.filter fun p => decide (0 < p.2.att)).map fun p => p.1 / 8).eraseDups.length

/-! ### Stage 1 -/

/-- The gain in force of an edge. -/
def State.edgeGain (s : State) (d : LiveEdge) : Word :=
  d.kept.getD (s.applied (edgeKey d.edge.e) (s.word (edgeAddr s.live d.edge.e 1)))

/-- The contributor sum of a bus or output strip (R117, R130, R132), with the arrival time of its last contributor. -/
def State.contributors (s f : State) (t : Tick) (g : Nat) : Word × Bool × Option Nat × State :=
  let n := t.idx
  let es := f.inEdges g n
  let outOf (d : LiveEdge) : Word := match mfind t.outs d.edge.src with | some o => o.v | none => 0
  let gain (d : LiveEdge) : Word := (mfind t.gains d.key).getD (f.edgeGain d)
  let prod d := (outOf d).toInt * (gain d).toInt
  let v := (List.range 8).map fun l => (es.filter fun d => d.edge.prio == l).foldl (fun m d => max m (prod d).natAbs) 0
  let s := if isBus g then s.arbitrate f g v else s
  let eq := match f.trs.xf with | some x => x.equalPower | none => false
  let win := match f.trs.xf with | some x => x.win | none => 1
  let r := es.foldl (fun (acc : Int × Bool) d =>
    let fade := match d.fade with
      | none => 2 ^ 31
      | some (add, k) => let w := fadeWeights eq win k; if add then w.1 else w.2
    let duck := if isBus g then romG ((s.level (g - 1536) d.edge.prio).att / 2 ^ 16) else 2 ^ 31
    let x := narrowWord 62 ((outOf d).toInt * ((fade * duck : Nat) : Int))
    (acc.1 + x.1.toInt * (gain d).toInt, acc.2 || x.2)) (0, false)
  let sum := narrowWord 63 r.1
  let ct := es.foldl (fun m d => match (mfind t.outs d.edge.src).bind fun o => o.ct with
    | some c => some (match m with | some x => max x c | none => c)
    | none => m) none
  (sum.1, r.2 || sum.2, ct, s)

/-- Stage 1 of a strip (R117). -/
def State.stage1 (s f : State) (t : Tick) (g : Nat) : Word × Bool × Option Nat × State :=
  if isInput g then
    match f.inputSource g t.idx with
    | (none, _) => (0, false, none, s)
    | (some src, w) =>
      match t.arrival src with
      | none => (0, false, none, s)
      | some a => let (x, c, s) := s.conceal g a.v w; (x, c, some a.t, s)
  else s.contributors f t g

/-! ### Stages 5 to 7 -/

/-- The bank word that the delay of strip `g` uses at index `n` (R126): none without a delay. -/
def State.delayCell (s : State) (g n : Nat) : Option Nat :=
  let (w0, w3) := s.delayWords g
  if dDelay w0 = 0 then none else some (globalAddr (dDlyBase w3 + n % dDelay w0))

/-- Read a delayed sample through master 3 (R91, R126): one that is read with an uncorrectable error, or whose bank is not ON,
is 0 (10 R223, R225). -/
def State.readDelay (s : State) (a : Nat) : Word × State :=
  let on := s.bankState (bankOf a) == 2
  let (r, s) := s.bankRead 3 a 16
  (r.getD 0, if r.isNone ∧ on then (s.bump (whole TRS_DLY_ERR)).evt 0x13 3 else s)

/-- The delayed samples of the strips in work, read at the tick of index `n` (R91). -/
def State.readDelays (s : State) (n : Nat) : SMap Word × State :=
  (s.graphStrips.filter fun g => s.shedState g != 2).foldl (fun (m : SMap Word × State) g =>
    match s.delayCell g n with
    | none => m
    | some a => let (w, s) := m.2.readDelay a; (mins m.1 g w, s)) ([], s)

/-- Stage 5 (R126, R127): the delayed sample of index `n`, the new stage-4 result `x` stored in its place. -/
def State.delayLine (s f : State) (t : Tick) (g : Nat) (x : Word) : Word × State :=
  let filling := match mfind f.trs.chg g with
    | some c => c.fillEnd.any fun e => decide (t.idx < e)
    | none => false
  match f.delayCell g t.idx with
  | none => (if filling then 0 else x, s)
  | some a =>
    let (r, s) := match mfind t.dly g with
      | some w => (w, s)
      | none => s.readDelay a
    (if filling then 0 else r, (s.bankWrite 3 a x 16).2)

/-- The meter shift in force (R137). -/
def State.rmsShift (s : State) : Nat := max 4 (min 20 (s.fld TRS_STRIP_CTRL_RMS_SHIFT))

/-- A sample of strip `g` in which a narrowing saturated (R134, R138). -/
def State.clipped (s : State) (g cls : Nat) : State :=
  let w := (s.word (meterAddr g 2)).toNat
  let s := s.setWord (meterAddr g 2) (BitVec.ofNat 72 (2 ^ 63 + min (w % 2 ^ 32 + 1) (2 ^ 32 - 1)))
  let s := if ¬ w.testBit 63 ∧ cls = 0 then s.evt 0x13 0 else s
  let s := (s.bump (whole TRS_CLIP_CNT)).evt 0x13 1
  if s.fld TRS_CLIP_FIRST_VALID = 1 then s else s.wrN TRS_CLIP_FIRST (2 ^ 31 + cls * 2 ^ 12 + g)

/-- Stage 7 and the clip indications (R134, R135, R138). -/
def State.meter (s : State) (g cls : Nat) (y : Word) (clip : Bool) : State :=
  let mag := min y.toInt.natAbs (2 ^ 71 - 1)
  let s := s.setWord (meterAddr g 0) (BitVec.ofNat 72 (max (s.word (meterAddr g 0)).toNat mag))
  let sh := s.rmsShift
  let ms : Int := ((s.word (meterAddr g 1)).toNat * 2 ^ 71 : Nat)
  let x : Int := (2 ^ sh - 1) * ms + y.toInt * y.toInt
  let s := s.setWord (meterAddr g 1) (BitVec.ofInt 72 (narrowTo (71 + sh) 0 (2 ^ 72 - 1) x).1)
  if clip then s.clipped g cls else s

/-- The class of strip `g`. -/
def State.stripClass (s : State) (g : Nat) : Nat := wordClass (s.desc0 (s.stripCopy g) g)

/-- The outgoing edges of `g` with a pending gain step are tested against its output (R124). -/
def State.testEdgeSteps (s f : State) (g n : Nat) (prev x : Word) : State :=
  ((f.edges f.live).filter fun d => d.src == g).foldl
    (fun s d => s.testStep f (edgeKey d.e) n prev x (f.word (edgeAddr f.live d.e 1))) s

/-- Stages 5 to 7 of strip `g` on its stage-4 result. -/
def State.finish (s f : State) (t : Tick) (g : Nat) (x : Word) (clip : Bool) : Word × Bool × State :=
  let n := t.idx
  let (d, s) := s.delayLine f t g x
  let prev := mget 0 s.trs.prevDly g
  let y := mulWord d (f.gainAt (faderKey g) n prev d (f.faderTarget g))
  let s := s.testStep f (faderKey g) n prev d (f.faderTarget g)
  let s := s.meter g (f.stripClass g) y.1 (clip || y.2)
  let s := s.testEdgeSteps f g n (mget 0 s.trs.prevOut g) y.1
  (y.1, clip || y.2, s.onTrs fun t => { t with prevDly := mset 0 t.prevDly g d, prevOut := mset 0 t.prevOut g y.1 })

/-- Where this engine has flipped since index `n`, a section that does not change carries the state it has after it (04 R78):
from the set of the copy that was live. -/
def State.carryLate (s f : State) (g : Nat) : State :=
  let changed : Bool := match s.trs.xf with | some x => x.batches.any fun b => b.contains g | none => false
  if f.live = s.live ∨ changed = true then s
  else (List.range (maxSos g)).foldl (fun s k => s.seedSection (sosIndex g k) f.live s.live true) s

/-- Stages 1 to 3 of strip `g`. -/
def State.front (s f : State) (t : Tick) (g : Nat) : Word × Bool × Option Nat × State :=
  let (x, clip, ct, s) := s.stage1 f t g
  let prev := mget 0 s.trs.prevIn g
  let trim := f.word (descAddr (f.stripCopy g) g 1)
  let y := mulWord x (f.gainAt (trimKey g) t.idx prev x trim)
  let s := s.testStep f (trimKey g) t.idx prev x trim
  let s := s.onTrs fun u => { u with prevIn := mset 0 u.prevIn g x }
  let (z, clip, s) := s.stage3 f g t.idx y.1 (clip || y.2)
  (z, clip, ct, s.carryLate f g)

/-- The selection that a pass of index `n` of logical core `c` runs (07 R160). -/
def State.selAt (s : State) (c n : Nat) : Option Selection :=
  match mfind s.chs.selOld c with
  | some (f, old) => if idxLe f n then mfind s.chs.sel c else old
  | none => mfind s.chs.sel c

/-- The declared inputs of the program of logical core `c` at an index (R99): of each, the arrival of its last contributing
sample and when it was complete. -/
def State.programInputs (f : State) (t : Tick) (c : Nat) : List (Option Nat × Nat) :=
  match f.selAt c t.idx with
  | none => []
  | some h =>
    let outs := ((List.range 26).filter h.inputs.testBit).filterMap fun i =>
      (f.sinkStrip f.live (1120 + 26 * c + i)).bind fun g => (mfind t.outs g).map fun o => (o.ct, o.time)
    let sends := (f.graphStrips.filter fun g => f.hasInsert g && dInsCore (f.delayWords g).1 == c &&
        h.inserts.testBit (dInsCh (f.delayWords g).1)).filterMap fun g => (mfind t.heads g).map fun o => (o.ct, o.sent)
    outs ++ sends

/-- The arrival of the last contributing sample of a tail item whose return came at `a`, later by the time since the last
declared input of its program was complete (R98, R99). -/
def State.tailTime (f : State) (t : Tick) (g a : Nat) : Option Nat :=
  let ins := f.programInputs t (dInsCore (f.delayWords g).1)
  let last := ins.foldl (fun m p => max m p.2) 0
  ins.foldl (fun m p => match p.1 with
    | some c => some (match m with | some x => max x (c + (a - last)) | none => c + (a - last))
    | none => m) none

/-- What a strip or tail item computes (R117): the strip's output. -/
def State.runStrip (s f : State) (t : Tick) (k : ItemKind) (time : Nat) : Option Done × State :=
  match k with
  | .strip g =>
    let (x, clip, ct, s) := s.front f t g
    let (y, clip, s) := s.finish f t g x clip
    (some ⟨y, ct, time, clip⟩, s)
  | .tail g =>
    match t.arrival (1536 + g) with
    | none => (none, s)
    | some a =>
      let (x, c, s) := s.conceal (1536 + g) a.v 16
      let hc := (mfind t.heads g).any fun h => h.clip
      let ct := if a.v.isSome then f.tailTime t g a.t else some a.t
      let (y, clip, s) := s.finish f t g x (c || hc)
      (some ⟨y, ct, time, clip⟩, s)
  | _ => (none, s)

/-- What a head item computes: the insert send. -/
def State.runHead (s f : State) (t : Tick) (g time : Nat) : HeadDone × State :=
  let (x, clip, ct, s) := s.front f t g
  (⟨x, ct, time, clip⟩, s)

end Sys2Proof.Machine
end

