-- ==== Sys2Proof/Machine/TrussSched.lean ====
section
/-! DEFINITION. The arrival-ordered scheduler (05_truss_schedule.md): readiness, lanes, presence, shedding, and the
commands of the scheduler, the gain steps and the changeovers of strips. -/

namespace Sys2Proof.Machine

open Sys2Proof

/-! ### Readiness (R88, R90, R92) -/

/-- Every edge that contributes at index `n`. -/
def State.allEdges (s : State) (n : Nat) : List LiveEdge :=
  (s.graphStrips.filter fun g => s.shedState g != 2).flatMap fun g => s.inEdges g n

/-- Cut a list into groups of four (R88). -/
def fours : List Nat → List (List Nat)
  | a :: b :: c :: d :: r => [a, b, c, d] :: fours r
  | [] => []
  | r => [r]

/-- The edge batches of strip `g` among the contributions `es`: class and keys (R90). -/
def batches (es : List LiveEdge) (g : Nat) : List (Nat × List Nat) :=
  let es := sortBy LiveEdge.key (es.filter fun d => d.edge.src == g)
  [0, 1, 2].flatMap fun c => (fours ((es.filter fun d => d.edge.cls == c).map LiveEdge.key)).map fun l => (c, l)

/-- The item that starts strip `g`. -/
def State.firstItem (s : State) (g : Nat) : ItemKind := if s.hasInsert g then .head g else .strip g

/-- The inputs of strip `g` for tick `t` are complete (R92). -/
def State.inputsIn (s : State) (t : Tick) (g : Nat) : Bool :=
  if isInput g then
    match s.inputSource g t.idx with
    | (none, _) => true
    | (some i, _) => (t.arrival i).isSome
  else (s.inEdges g t.idx).all fun d => t.deposits.contains d.key

/-- Tick `t` under its own settings, with what contributes in it. -/
structure Work where
  t : Tick
  f : State
  es : List LiveEdge

/-- The work of tick `t`. -/
def State.work (s : State) (t : Tick) : Work := let f := s.fabOf t; ⟨t, f, f.allEdges t.idx⟩

/-- The work of the tick before `t`, where that is still open. -/
def State.olderWork (s : State) (t : Tick) : Option Work :=
  (s.trs.ticks.find? fun u => nextIdx u.idx == t.idx).map s.work

/-- The first item of strip `g` has completed in this tick, or it has none (R92). -/
def Work.firstDone (u : Work) (g : Nat) : Bool :=
  !u.f.inWork g || (mfind u.t.heads g).isSome || (mfind u.t.outs g).isSome

/-- The last item of strip `g` has completed in this tick, or it has none. -/
def Work.lastDone (u : Work) (g : Nat) : Bool := !u.f.inWork g || (mfind u.t.outs g).isSome

/-- Every edge batch of strip `g` has completed in this tick. -/
def Work.batchesDone (u : Work) (g : Nat) : Bool :=
  u.es.all fun d => d.edge.src != g || u.t.deposits.contains d.key

/-- The items of a tick that become ready now, with their class (R92); `before` is the tick before, where that is open: an item
waits for its own of that tick. -/
def Work.newReady (w : Work) (before : Option Work) : List (ItemKind × Nat) :=
  let t := w.t
  (w.f.graphStrips.filter fun g => w.f.shedState g != 2).flatMap fun g =>
    let cls := w.f.stripClass g
    let k := w.f.firstItem g
    let a := if !t.begun.contains k && before.all (·.firstDone g) && w.f.inputsIn t g then [(k, cls)] else []
    let b := if w.f.hasInsert g && !t.begun.contains (.tail g) && before.all (·.lastDone g) &&
      (t.arrival (1536 + g)).isSome then [(.tail g, cls)] else []
    let c := if (mfind t.outs g).isSome && before.all (·.batchesDone g) then
      ((batches w.es g).map fun b => (ItemKind.batch g b.1 (b.2.headD 0), b.1)).filter fun q => !t.begun.contains q.1 else []
    a ++ b ++ c

/-- Make every item ready whose inputs are complete (R92), at the latest time named. -/
def State.promote (s : State) : State :=
  let r := s.trs.ticks.map fun t => (t, (s.work t).newReady (s.olderWork t))
  s.onTrs fun u => { u with
    ticks := r.map fun p => { p.1 with begun := p.1.begun ++ p.2.map fun q => q.1 }
    ready := u.ready ++ r.flatMap fun p => p.2.map fun q => ⟨q.1, p.1.idx, q.2, u.now, false⟩ }

/-- Readiness of index `n` taken again, for a change of the graph at its first instant: items not yet issued go back. -/
def State.reopen (s : State) (n : Nat) : State :=
  (s.onTrs fun u =>
    let drop := (u.ready.filter fun i => i.idx == n).map fun i => i.kind
    { u with
      ready := u.ready.filter fun i => !(i.idx == n)
      ticks := u.ticks.map fun t =>
        if t.idx == n then { t with begun := t.begun.filter fun k => !drop.contains k } else t }).promote

/-- A tick still has work of a class that `cls` picks. -/
def Work.left (w : Work) (cls : Nat → Bool) : Bool :=
  (w.f.graphStrips.filter fun g => w.f.shedState g != 2 && cls (w.f.stripClass g)).any (fun g => (mfind w.t.outs g).isNone ||
      (w.f.hasInsert g && (mfind w.t.heads g).isNone)) ||
    w.es.any fun d => cls d.edge.cls && !w.t.deposits.contains d.key

/-- A tick still has work. -/
def Work.unfinished (w : Work) : Bool := w.left fun _ => true

/-- Tick `t` still has work. -/
def State.unfinished (s : State) (t : Tick) : Bool := (s.work t).unfinished

/-! ### Issue and completion (R94) -/

/-- Order of R94 between ready items, as a list compared from the left. -/
def Item.rank (i : Item) : List Nat :=
  match i.kind with
  | .strip g | .head g | .tail g => [i.idx, i.cls, i.ready, 0, g]
  | .batch _ _ e => [i.idx, i.cls, i.ready, 1, e]

/-- The class a slot takes at most (R89). -/
def slotClass (slot : Nat) : Nat := if slot = 3 then 0 else if slot = 2 then 1 else 2

/-- The first item in R94's order that a slot may take. -/
def pickItem (slot : Nat) : List Item → Option Item
  | [] => none
  | i :: r =>
    match pickItem slot r with
    | none => if i.cls ≤ slotClass slot then some i else none
    | some j => if i.cls ≤ slotClass slot && !lexLt j.rank i.rank then some i else some j

/-- Lane `l` serves the fabric (R103): not retired and, for the spare, joining or standing in. -/
def State.laneWorks (s : State) (l : Nat) : Bool :=
  (s.fld TRS_LANE_STAT_LANE_OK).testBit l &&
    (l != 16 || s.fld TRS_SPARE_IN_USE == 1 || s.fld TRS_LANE_STAT_JOINING == 1)

/-- Issue one ready item to a free slot (R94). -/
def State.issue (s : State) (lane slot : Nat) : State :=
  match mfind s.trs.slots (4 * lane + slot), pickItem slot s.trs.ready with
  | none, some i =>
    if s.laneWorks lane then
      s.onTrs fun u => { u with
        ready := u.ready.filter fun j => !(j.kind = i.kind ∧ j.idx = i.idx)
        slots := mins u.slots (4 * lane + slot) i }
    else s
  | _, _ => s

/-- ITEM_ISSUE (R94). -/
def execItemIssue (lane : Fin 17) (slot : Fin 4) (s : State) : Res := .next (s.issue lane slot)

/-- The value staged for sink `k` when strip `g` yields `y` at index `n` (07_cairn_scenes.md R159): during a changeover
the side in use, weighted. -/
def State.sinkValue (s : State) (k g n : Nat) (y : Word) : Option Word :=
  let c := s.live
  match mfind s.trs.sinkRamp k with
  | none => if s.sinkStrip c k = some g then some y else none
  | some r =>
    let j := n - r.flip
    if j < 16 then
      if r.old = some g then some (narrowWord 4 (y.toInt * (15 - j : Nat))).1 else none
    else if j < 32 then
      if s.sinkStrip c k = some g then some (narrowWord 4 (y.toInt * (j - 15 : Nat))).1 else none
    else if s.sinkStrip c k = some g then some y else none

/-- The sinks that output strip `g` may stage for. -/
def State.sinksOf (s : State) (g : Nat) : List Nat :=
  ((s.validSinks s.live).filter fun k => s.sinkStrip s.live k == some g) ++
    ((s.trs.sinkRamp.filter fun p => p.2.old == some g && s.sinkStrip s.live p.1 != some g).map fun p => p.1)

/-- Where the staged value of sink `k` for index `n` lies. -/
def stageKey (k n : Nat) : Nat := 2 * k + n % 2

/-- The value staged for sink `k` and index `n`. -/
def State.staged (s : State) (k n : Nat) : Option Word :=
  (mfind s.trs.staging (stageKey k n)).bind fun v => if v.idx = n then some v.v else none

/-- Stage a value. -/
def State.stage (s : State) (k n : Nat) (v : Word) : State :=
  s.onTrs fun u => { u with staging := mins u.staging (stageKey k n) ⟨v, n⟩ }

/-- What output strip `g` stages when it yields `y` at index `n` (R96, R118): sinks and values. -/
def State.stagings (f : State) (g n : Nat) (y : Word) : List (Nat × Word) :=
  (f.sinksOf g).filterMap fun k => (f.sinkValue k g n y).map fun v => (k, v)

/-- Measure the latency of a staged output (R98). -/
def State.measure (s : State) (ct : Option Nat) (t : Nat) : State :=
  match ct with
  | none => s
  | some c =>
    let l := t - c
    let s := s.setFld ⟨TRS_LAT_MAX, 15, 0⟩ (max (s.fld ⟨TRS_LAT_MAX, 15, 0⟩) (min l 0xFFFF))
    let s := s.onTrs fun u => { u with latWin := max u.latWin l }
    if 1000 < l then (s.bump (whole TRS_LAT_OVER)).evt 0x11 4 else s

/-- Stage what output strip `g` yields, and measure it where it is staged (R98, R118). -/
def State.stageOutput (s f : State) (g n : Nat) (d : Done) : State :=
  match f.stagings g n d.v with
  | [] => s
  | l => (l.foldl (fun s p => s.stage p.1 n p.2) s).measure d.ct d.time

/-- A reissued item has completed, within its tick or not, or was abandoned. Once none is left, REISSUED shows whether every
one completed within its tick (R107). -/
def State.checkReissued (s : State) (ok : Bool) : State :=
  let s := if ok then s else s.onTrs fun u => { u with inTick := false }
  if (s.trs.ready ++ s.trs.slots.map fun p => p.2).any (fun i => i.reissued) then s
  else if s.fld TRS_FAULT_INFO_VALID = 1 ∧ s.trs.inTick then s.setFld TRS_FAULT_INFO_REISSUED 1
  else s

/-- The gains that the outgoing edges of `g` have at index `n`, its output going from `prev` to `y` (R124). -/
def State.outGains (f : State) (es : List LiveEdge) (g n : Nat) (prev y : Word) : List (Nat × Word) :=
  (es.filter fun d => d.edge.src == g).map fun d =>
    (d.key, d.kept.getD (f.gainAt (edgeKey d.edge.e) n prev y (f.word (edgeAddr f.live d.edge.e 1))))

/-- Item `i` of tick `t` does its work as it completes (R117): its result is sent, deposited or staged. -/
def State.perform (s : State) (t : Tick) (i : Item) (time : Nat) : State :=
  let w := s.work t
  match i.kind with
  | .head g =>
    let (h, s) := s.runHead w.f t g time
    let s := s.onTick i.idx fun k => { k with heads := mins k.heads g h }
    if h.clip && (mfind t.outs g).any fun o => !o.clip then s.clipped g (w.f.stripClass g) else s
  | .strip g | .tail g =>
    let prev := mget 0 s.trs.prevOut g
    match s.runStrip w.f t i.kind time with
    | (none, s) => s
    | (some r, s) =>
      let gains := w.f.outGains w.es g i.idx prev r.v
      let s := s.onTick i.idx fun k => { k with
        outs := mins k.outs g r, gains := gains.foldl (fun m p => mins m p.1 p.2) k.gains }
      if isOutput g then s.stageOutput w.f g i.idx r else s
  | .batch g c e =>
    let l := match (batches w.es g).find? (fun (b : Nat × List Nat) => b.1 == c && b.2.headD 0 == e) with
      | none => []
      | some b => b.2
    s.onTick i.idx fun k => { k with deposits := k.deposits ++ l }

/-- An item completes (R92): its result is made available to dependent items. -/
def State.complete (s : State) (lane slot time : Nat) : State :=
  match mfind s.trs.slots (4 * lane + slot) with
  | none => s
  | some i =>
    let s := s.onTrs fun u => { u with slots := mdel u.slots (4 * lane + slot), now := max u.now time }
    let s := match s.tick i.idx with
      | none => s
      | some t => s.perform t i time
    let s := if i.reissued then s.checkReissued (i.idx == s.idx) else s
    s.promote

/-- ITEM_COMPLETE (R92). -/
def execItemComplete (lane : Fin 17) (slot : Fin 4) (t : Nat) (s : State) : Res := .next (s.complete lane slot t)

/-! ### Presence (R62, R93, R111, R112) -/

/-- Add to the halves of a counter word (R111); the counters wrap. -/
def State.count (s : State) (region i late absent : Nat) : State :=
  let w := (s.word (countAddr region i)).toNat
  s.setWord (countAddr region i)
    (BitVec.ofNat 72 ((w / 2 ^ 32 + late) % 2 ^ 32 * 2 ^ 32 + (w + absent) % 2 ^ 32))

/-- An absence of class `c` is raised (R112). -/
def State.absentEvent (s : State) (c : Nat) : State :=
  let s := if c = 0 then s.addTotal 6 1 else s
  if c < 2 then s.evt 0x11 (6 + c) else s

/-- A sample of point `p` (a source stream, or 1536 + g for the insert return of strip g) arrives for index `n`: present
where the index is open and its deadline has not passed, discarded and counted as late otherwise (R93); a second sample of
the same point and index is not taken. -/
def State.arrive (s : State) (p : Nat) (v : Option Word) (n t : Nat) : State :=
  match s.tick n with
  | some k =>
    if k.dl.isSome then
      if v.isSome then s.count (if p < 1536 then 0 else 1) (if p < 1536 then p else p - 1536) 1 0 else s
    else if (mfind k.arr p).isSome then s
    else ((s.onTick n fun k => { k with arr := mins k.arr p ⟨v, t⟩ }).onTrs fun u => { u with now := max u.now t }).promote
  | none =>
    if v.isSome then s.count (if p < 1536 then 0 else 1) (if p < 1536 then p else p - 1536) 1 0 else s

/-- The index is open, its deadline has not passed, and point `p` has no sample yet. -/
def State.awaits (s : State) (p n : Nat) : Bool :=
  match s.tick n with
  | some k => k.dl.isNone && (mfind k.arr p).isNone
  | none => false

/-- The decisions of the peer and this engine's own samples that go together enter index `n` (16 R382). -/
def State.settle (s : State) (n : Nat) : State :=
  if s.tick n = none then s
  else (s.bly.decided.filter fun e => e.1 / 8192 == n && s.awaits (e.1 % 8192) n).foldl (fun s e =>
    if e.2 then
      match mfind s.bly.own e.1 with
      | some (w, t) =>
        (s.arrive (e.1 % 8192) (some w) n (max t s.trs.now)).onBly fun b => { b with own := mdel b.own e.1 }
      | none => s
    else s.arrive (e.1 % 8192) none n s.trs.now) s

/-- A producer delivers point `p` of index `n`: the deciding engine takes it, and announces it to a peer in lockstep or
resynchronising; a follower holds it for the decision (16 R382). -/
def State.deliver (s : State) (p : Nat) (v : Option Word) (n t : Nat) : State :=
  if s.follows n then
    match v with
    | none => s
    | some w => (s.holdOwn p n w t).settle n
  else
    let take := s.awaits p n
    let s := s.arrive p v n t
    if take ∧ s.leads n then s.announce p n v else s

/-- The island of the producer of source stream `i` (01_engine_architecture.md R11, R17); a Chisel stream has its core's. -/
def sourceIsland (i : Nat) : Option Nat :=
  if i < 256 then some 18 else if i < 512 then some 19 else if i < 544 then some 20 else if i < 1056 then some 15
  else if i < 1120 then some 22 else if i < 1248 then some 21 else none

/-- The island of the consumer of sink stream `k` (01 R12, R17). -/
def sinkIsland (k : Nat) : Option Nat :=
  if k < 1056 then sourceIsland k else if k < 1120 then some 21 else none

/-- D_n passes (R93): what is not present is absent, and every absence is counted (R62, R112). DESIGN CHOICE (log entry 53): so
is that of the return of an insert whose core has no program (04 R83), as R62 counts every insert return in work. -/
def State.deadline (s : State) (n t : Nat) : State :=
  match s.tick n with
  | none => s
  | some k =>
    if k.dl.isSome then s else
    let s := s.onTick n fun k => { k with dl := some t }
    let present p := match mfind k.arr p with | some a => a.v.isSome | none => false
    let s := s.onTrs fun u => { u with absBase := u.absBase + 1, now := max u.now t }
    let s := (k.arr.filter fun a => decide (a.1 < 1536) && a.2.v.isSome).foldl
      (fun s a => s.count 0 a.1 0 (2 ^ 32 - 1)) s
    let f := s.fab
    let s := ((f.validSources f.live).filter fun i => !present i).foldl
      (fun s i => s.absentEvent (wordClass (f.word (srcAddr f.live i)))) s
    let s := (f.graphStrips.filter fun g => f.hasInsert g && f.shedState g != 2 && !present (1536 + g)).foldl
      (fun s g => (s.count 1 g 0 1).absentEvent (wordClass (f.desc0 (f.stripCopy g) g))) s
    s.promote

/-! ### Load and shedding (R101, R108 to R110) -/

/-- The sections strip `g` runs at index `n` with shed state `sh` (R88): both chains within its batch window. -/
def State.sectionsAt (s : State) (g n sh : Nat) : Nat :=
  let new := runningSos (s.desc0 s.live g) sh
  let old := runningSos (s.desc0 s.other g) sh
  if s.trs.stopping.contains g && !s.enabled s.live g then old
  else match s.phase g n with
    | .new => new
    | .old => if s.enabled s.other g then old else new
    | .both _ => if s.trs.xf.any (fun x => x.chains.contains g) then new + old else new

/-- The load at index `n` with shed states `sh` (R101). -/
def State.loadAt (s : State) (n : Nat) (sh : SMap Nat) : Nat :=
  let s := { s with trs := { s.trs with shed := sh } }
  let gs := s.graphStrips.filter fun g => s.shedState g != 2
  16 + (gs.map fun g => 5 * s.sectionsAt g n (s.shedState g) + 1 + (s.inEdges g n).length).sum

/-- The order of R108: a strip and the state it is shed to. -/
def State.shedOrder (s : State) (n : Nat) : List (Nat × Nat) :=
  let gs := (sortBy (fun g => g) s.graphStrips).reverse
  let cls := s.stripClass
  let runs g := decide (0 < s.sectionsAt g n 0)
  ((gs.filter fun g => cls g == 2 && runs g).map fun g => (g, 1)) ++
    ((gs.filter fun g => cls g == 2).map fun g => (g, 2)) ++
    ((gs.filter fun g => cls g == 1 && runs g).map fun g => (g, 3))

/-- Shed along the order until the load is at most `u`: the shed states and whether it still exceeds `u`. -/
def State.shedUntil (s : State) (n u : Nat) : List (Nat × Nat) → SMap Nat → SMap Nat × Bool
  | [], sh => (sh, decide (u < s.loadAt n sh))
  | p :: r, sh => if s.loadAt n sh ≤ u then (sh, false) else s.shedUntil n u r (mset 0 sh p.1 p.2)

/-- Write the shed registers (R115). -/
def State.putShed (s : State) (sh : SMap Nat) (full : Bool) : State :=
  let num k := (sh.filter fun p => p.2 == k).length
  let step := if 0 < num 3 then 3 else if 0 < num 2 then 2 else if 0 < num 1 then 1 else 0
  let s := s.wrN TRS_SHED_STAT (step * 2 ^ 30 + (if full then 2 ^ 29 else 0))
  let s := (s.wrN TRS_SHED_CNT_A (num 2 * 2 ^ 16 + num 1)).wrN TRS_SHED_CNT_B (num 3)
  let touched := ((s.trs.shed ++ sh).map fun p => p.1 / 16).eraseDups
  touched.foldl (fun s i => s.wrN (TRS_SHED_MAP + 4 * i)
    ((List.range 16).map fun j => mget 0 sh (16 * i + j) * 4 ^ j).sum) s

/-- Shedding is recomputed at index `n` (R108 to R110). -/
def State.reshed (s : State) (n : Nat) : State :=
  let f := s.fab
  let u := usable s.lanesL s.rate
  let (sh, full) := f.shedUntil n u (f.shedOrder n) []
  let was := s.fld TRS_SHED_STAT_OVERLOAD
  let s := if sh = s.trs.shed then s else
    (s.wrIdx TRS_SHED_IDX_LO TRS_SHED_IDX_HI n).evt 0x12 0
  let s := (s.putShed sh full).onTrs fun t => { t with shed := sh }
  let s := if full ∧ was = 0 then s.evt 0x12 1 else s
  let s := s.wrN TRS_LOAD_STATIC (f.steadyLoad f.live sh)
  s.degrade 1 (full || decide (sh ≠ []))

/-! ### Lanes (R103, R107, R108) -/

/-- The lanes that work in this engine (R103). -/
def State.workingLanes (s : State) : Nat := min 16 ((List.range 17).filter s.laneWorks).length

/-- Lane count `l` is to take effect at index n + 2, or at an index that the active engine of a pair chooses and forwards, at
least that far ahead (R103, 16 R385), and no earlier than a change that still waits. -/
def State.chooseLanes (s : State) (l : Nat) : State :=
  let (d, s) := if s.lockstep then s.free 4 else (0, s)
  let n := (s.idx + 2 + d.toNat) % 2 ^ 48
  let n := match s.trs.laneChange.getLast? with
    | some p => if idxLe p.2 n then n else p.2
    | none => n
  (s.onTrs fun u => { u with laneChange := u.laneChange ++ [(l, n)] }).tell 1 0 n (beBytes 1 l)

/-- The lane count in force once every change that waits has taken effect. -/
def State.lanesDue (s : State) : Nat := match s.trs.laneChange.getLast? with | some p => p.1 | none => s.lanesL

/-- A count changed: WORKING shows this engine's, and L is to follow (R103). -/
def State.lanesChanged (s : State) : State :=
  let w := s.workingLanes
  let s := s.setFld TRS_LANE_STAT_WORKING w
  let l := min w s.trs.peerLanes
  if (s.lockstep ∧ s.mode = .standby) ∨ l = s.lanesDue then s else s.chooseLanes l

/-- Lane and core repairs that wait to be fused (18 R429, R438). -/
def State.fusePend (s : State) : State :=
  let b i := mget false s.sys.fuseBlown i
  let lanes := (List.range 17).any fun l => !(s.fld TRS_LANE_STAT_LANE_OK).testBit l && !b (0xCD0 + l)
  let cores := (List.range 17).any fun p => !(s.rd CHS_CORE_OK).toNat.testBit p && !b (0xCE8 + p)
  let spareL := s.fld TRS_SPARE_IN_USE == 1 && !b 0xCC5
  let spareC := s.fld CHS_SPARE_IN_USE == 1 && !b 0xCCD
  s.wrN SPR_FUSE_PEND ((if lanes || spareL then 1 else 0) + if cores || spareC then 2 else 0)

/-- The items that a captured lane fault discarded are told apart (R107). -/
def State.capturedItems (s : State) (lost : List Item) : State :=
  s.onTrs fun u => { u with
    inTick := true
    ready := u.ready.map fun i => { i with reissued := lost.contains i }
    slots := u.slots.map fun p => (p.1, { p.2 with reissued := false }) }

/-- Lane `l` fails its residue check (R107, R108); `inj` where injected. -/
def State.laneFault (s : State) (l : Nat) (inj : Bool) : State :=
  if !s.laneWorks l then s else
  let s := s.setFld TRS_LANE_STAT_LANE_OK (s.fld TRS_LANE_STAT_LANE_OK - 2 ^ l)
  let lost := s.trs.slots.filter fun p => p.1 / 4 == l
  let s := s.onTrs fun u => { u with
    slots := u.slots.filter fun p => p.1 / 4 != l
    ready := (lost.map fun p => p.2) ++ u.ready }
  let s := if s.fld TRS_FAULT_INFO_VALID = 1 then s else
    ((s.capturedItems (lost.map fun p => p.2)).wrN TRS_FAULT_INFO (2 ^ 31 + (if lost = [] then 2 ^ 8 else 0) + l)).wrIdx TRS_FAULT_IDX_LO TRS_FAULT_IDX_HI s.idx
  let s := s.evt 0x11 2
  let spareFree := s.fld TRS_SPARE_IN_USE == 0 && s.fld TRS_LANE_STAT_JOINING == 0 &&
    (s.fld TRS_LANE_STAT_LANE_OK).testBit 16
  if spareFree && l != 16 then
    let s := (s.setFld TRS_LANE_STAT_JOINING 1).onTrs fun u => { u with joinFor := some l }
    (if inj then s.markInj 0x11 else s).lanesChanged.fusePend
  else
    let s := if l = 16 then (s.setFld TRS_LANE_STAT_JOINING 0).onTrs fun u => { u with joinFor := none } else s
    ((s.sprLog 1 true inj l 0).degrade 0 true).lanesChanged.fusePend

/-- LANE_FAULT (R107). -/
def execLaneFault (lane : Fin 17) (s : State) : Res := .next (s.laneFault lane false)

/-- SPARE_JOINED (R108): the joining spare stands in for the retired lane. -/
def execSpareJoined (s : State) : Res :=
  match s.trs.joinFor with
  | none => .next s
  | some l =>
    let (inj, s) := s.takeMark 0x11
    let s := (s.setFld TRS_LANE_STAT_JOINING 0).onTrs fun u => { u with joinFor := none }
    let s := (s.setFld TRS_SPARE_IN_USE 1).setFld TRS_SPARE_STANDS_FOR l
    .next (((s.sprLog 1 false inj l 16).evt 0x11 3).lanesChanged.fusePend)

/-- PAIR_LANE_CHANGE (R103, R109): the waiting lane count takes effect at its index. -/
def execPairLaneChange (s : State) : Res :=
  match (s.trs.laneChange.filter fun p => idxLe p.2 s.idx).getLast? with
  | none => .next s
  | some (l, _) =>
    let s := (s.setFld TRS_LANE_STAT_PAIR_LANES l).wrN TRS_CAPACITY (usable l s.rate)
    let s := s.onTrs fun u => { u with laneChange := u.laneChange.filter fun p => !idxLe p.2 s.idx }
    .next ((s.reshed s.idx).reopen s.idx)

/-! ### Gain steps, changeovers and ramps as commands -/

/-- The key of a gain. -/
def gainKey : GainKind → Nat → Nat
  | .trim, g => trimKey g
  | .fader, g => faderKey g
  | .edge, e => edgeKey e

/-- ZC_FORCED (R124): a pending step whose timeout the index has reached takes effect, and is counted. -/
def execZcForced (kind : GainKind) (index : Nat) (s : State) : Res :=
  match mfind s.trs.steps (gainKey kind index) with
  | none => .next s
  | some p =>
    .next (if p.deadline ≤ s.idx then (s.stepDone (gainKey kind index) p.deadline).countForced.checkStepsDone else s)

/-- DUCK_HOLD_EXPIRE (R130): a level whose hold count is 0 becomes inactive, ahead of the arbiter's work for the index in
progress, which decides it again from that index's level signal. -/
def execDuckHoldExpire (bus : Fin 512) (level : Fin 8) (s : State) : Res :=
  let a := s.level bus level
  let done := (s.tick s.idx).any fun t => (mfind t.heads (1536 + bus)).isSome || (mfind t.outs (1536 + bus)).isSome
  .next (if a.active ∧ a.hold = 0 ∧ ¬ done then s.setLevel bus level { a with active := false } else s)

/-- A strip whose applied fader gain is 0 and has no fader step pending. -/
def State.faderDown (s : State) (g : Nat) : Bool := (mfind s.trs.steps (faderKey g)).isNone

/-- Step 2 of R127 at index `m`: the new values take effect, the return point of a newly enabled insert starts at g = 0 and
h = 0, and where the delay changed the delayed sample is 0 for the new DELAY samples; the fader waits at 0 to step up after
that. -/
def State.switchOver (s : State) (g m : Nat) (c : Changeover) : State :=
  let w0 := s.desc0 s.live g
  let w3 := s.word (descAddr s.live g 3)
  let delayNew := dDelay w0 != dDelay c.old0 || (dDelay w0 != 0 && dDlyBase w3 != dDlyBase c.old3)
  let z := if delayNew then dDelay w0 else 0
  let s := if dInsEn w0 && !dInsEn c.old0 then
    (s.setWord (concAddr (1536 + g) 0) 0).setWord (concAddr (1536 + g) 1) 0 else s
  let s := s.onTrs fun u => { u with chg := mins u.chg g { c with fillEnd := some (m + z) } }
  if dMute w0 ∨ c.wrote then s
  else s.onTrs fun u => { u with steps := mins u.steps (faderKey g) ⟨0, m + z, m + z + dZc w0 - 1⟩ }

/-- CHANGEOVER_SWITCH (R127 step 2): at the sample that follows the fader's step to 0. -/
def execChangeoverSwitch (strip : Fin 3584) (s : State) : Res :=
  match mfind s.trs.chg strip with
  | some c => .next (if c.fillEnd.isNone ∧ (c.down.any fun j => decide (j < s.idx)) ∧ s.faderDown strip then
      (s.switchOver strip s.idx c).reopen s.idx else s)
  | none => .next s

/-- DELAY_FILL_END (R127 step 4): the zero-fill ends, at the end of its last index at the earliest; the fader's step to its
new value is pending from here. -/
def execDelayFillEnd (strip : Fin 3584) (s : State) : Res :=
  match mfind s.trs.chg strip with
  | some c =>
    let ended (e : Nat) : Bool := decide (e ≤ s.idx) || (decide (e = s.idx + 1) && !s.trs.ticks.any s.unfinished)
    .next (if c.fillEnd.any ended ∧ ¬ c.filled then
      ((s.onTrs fun u => { u with chg := mins u.chg strip { c with filled := true } }).refreshXfade).checkStepsDone else s)
  | none => .next s

/-- STRIP_STOP (R128): a disabled strip stops once its edges have faded and, for an output strip, its fader is at 0. -/
def execStripStop (strip : Fin 3584) (s : State) : Res :=
  let g := strip.val
  let fading := (s.allEdges s.idx).any fun d => d.edge.src == g
  .next (if s.trs.stopping.contains g ∧ ¬ fading ∧ (¬ isOutput g ∨ s.faderDown g) then
    ((((s.onTrs fun u => { u with stopping := u.stopping.filter fun h => h != g }).refreshXfade).checkStepsDone).trussDone).reopen s.idx
  else s)

/-- BATCH_END (R105, R109): the window of the running batch has ended, at the end of its last index at the earliest; the old
chains retire and shedding is recomputed. The load of an index that this comes at the end of is kept for it (R113). -/
def execBatchEnd (s : State) : Res :=
  match s.trs.xf with
  | none => .next s
  | some x =>
    let e := x.flip + x.cur * x.win
    if s.idx + 1 < e ∨ (s.idx + 1 = e ∧ s.trs.ticks.any s.unfinished) then .next s
    else
      let last := x.batches.length ≤ x.cur
      let load := if s.idx < e then some (s.fab.loadAt s.idx s.trs.shed) else none
      let s := s.onTrs fun u => { u with xf := if last then none else some { x with cur := x.cur + 1 }, endLoad := load }
      let s := s.wrN TRS_BATCH_STAT (if last ∨ x.batches.length ≤ 1 then 0
        else (x.cur + 1) * 2 ^ 24 + x.batches.length * 2 ^ 16)
      .next (((s.refreshXfade.trussDone).reshed (max s.idx e)).reopen s.idx)

/-- SOURCE_RAMP_END (07 R158): from F + 32 the new entry applies alone. -/
def execSourceRampEnd (strip : Fin 1536) (s : State) : Res :=
  match mfind s.trs.srcRamp strip with
  | none => .next s
  | some r => .next (if r.flip + 32 ≤ s.idx then
    (s.onTrs fun u => { u with srcRamp := mdel u.srcRamp strip }).trussDone else s)

/-- SINK_RAMP_END (07 R159): from F + 31 the new value is staged exactly. -/
def execSinkRampEnd (sink : Fin 1536) (s : State) : Res :=
  match mfind s.trs.sinkRamp sink with
  | none => .next s
  | some r => .next (if r.flip + 31 ≤ s.idx then
    (s.onTrs fun u => { u with sinkRamp := mdel u.sinkRamp sink }).trussDone else s)

/-! ### The tick and the takes -/

/-- Sink `k` is joined to a strip in work (R83, R108; 07 R159 while it changes over): where it is not, its staging register
receives 0 at the tick of index `n`. -/
def State.sinkDriven (s : State) (k n : Nat) : Bool :=
  match mfind s.trs.sinkRamp k with
  | some r => if n - r.flip < 16 then r.old.any s.inWork else (s.sinkStrip s.live k).any s.inWork
  | none => (s.sinkStrip s.live k).any s.inWork

/-- Work of an index left at the next tick goes on under the settings of its index; what is left at the one after is abandoned
(R95); ticks in a row that abandon a class-0 item are counted (16 R392). -/
def State.closeTicks (s : State) : State :=
  let n := s.idx
  let late := s.trs.ticks.any fun t => t.idx == n && s.unfinished t
  let lost := (s.trs.ready ++ s.trs.slots.map fun p => p.2).any fun i => i.idx != n && i.reissued
  let first := s.trs.ticks.any fun t => t.idx != n && (s.work t).left (· == 0)
  let s := { s with bly := { s.bly with abandoned := if first then min 2 (s.bly.abandoned + 1) else 0 } }
  let s := s.onTrs fun u => { u with
    ticks := if late then (u.ticks.filter fun t => t.idx == n).map fun t => { t with late := some s.settings } else []
    ready := u.ready.filter fun i => late && i.idx == n
    slots := u.slots.filter fun p => late && p.2.idx == n }
  let s := if lost then s.checkReissued false else s
  if late then (s.bump (whole TRS_OVERRUN)).evt 0x11 5 else s

/-- The staging registers of sinks that no strip in work drives received 0 for the index in progress (R83). -/
def State.stageZeros (s : State) : State :=
  let f := s.fab
  ((s.validSinks 0 ++ s.validSinks 1).eraseDups.filter fun k =>
    !f.sinkDriven k s.idx && (s.staged k s.idx).isNone).foldl (fun s k => s.stage k s.idx 0) s

/-- The index in progress ends for Truss (R95, R101): its load is shown, its work goes on or is abandoned. -/
def State.closeIndex (s : State) : State :=
  let load := s.trs.endLoad.getD (s.fab.loadAt s.idx s.trs.shed)
  let s := (s.onTrs fun u => { u with endLoad := none }).stageZeros.closeTicks
  let s := s.wrN TRS_LOAD_NOW load
  s.wrN TRS_LOAD_PEAK (max (s.rd TRS_LOAD_PEAK).toNat load)

/-- Truss opens the index that `idx` holds (R91, R92): delayed samples are read, and inputs of exact 0 are complete. -/
def State.openIndex (s : State) : State :=
  let (dly, s) := s.readDelays s.idx
  (s.onTrs fun u => { u with ticks := u.ticks ++ [⟨s.idx, [], none, [], [], [], [], [], [], dly, none⟩] }).promote

/-- A live write that comes into force at the index that opens (R125, R127): a write of a gain, or one that changes MUTE, ends
the gain's pending step; the fader step of step 1 of a changeover counts as made. -/
def State.liveGain (s : State) (a : Nat) : State :=
  let o := a - copyBase s.live
  if 0x10000 ≤ o ∧ o < 0x48000 then
    let g := o / 0x40 - 0x400
    if o % 0x40 = 0x10 then s.dropStep (trimKey g)
    else if o % 0x40 = 0x20 ∧ (mfind s.trs.steps (faderKey g)).isSome then
      let s := s.dropStep (faderKey g)
      match mfind s.trs.chg g with
      | some c => if c.fillEnd.isNone then s.switchOver g s.idx { c with wrote := true } else s
      | none => s
    else s
  else if 0x100000 ≤ o ∧ o < 0x900000 ∧ o % 0x20 = 0x10 then s.dropStep (edgeKey (o / 0x20 - 0x8000))
  else s

/-- Truss opens the index that `idx` holds, with the live writes that come into force (R73, R92). -/
def State.openLive (s : State) : State :=
  let live := s.trs.wrote
  if live = [] then s.openIndex
  else
    let s := (live.foldl State.liveGain (s.onTrs fun u => { u with wrote := [] })).checkStepsDone
    (s.wrN TRS_LOAD_STATIC (s.steadyLoad s.live s.trs.shed)).openIndex

/-- The take of sink `k` for index `n` finds no staged value where one is due (R95). -/
def State.takeLate (s : State) (k n : Nat) : Bool := (s.staged k n).isNone && (s.fabAt n).sinkDriven k n

/-- The value a consumer takes from staging register `k` for index `n` (R95): 0, counted, where nothing was staged. -/
def State.takeSink (s : State) (k n : Nat) : Word × State :=
  match s.staged k n with
  | some v => (v, s)
  | none => (0, if (s.fabAt n).sinkDriven k n then ((s.count 2 k 0 1).bump (whole TRS_LATE_OUT)).evt 0x11 8 else s)

/-- A recorder tap reads what is staged, without a take (15 R357). -/
def State.peekSink (s : State) (k n : Nat) : Word := (s.staged k n).getD 0

end Sys2Proof.Machine
end

