-- ==== Sys2Proof/Machine/Ports.lean ====
section
/-! DEFINITION. The TDM sides (11_audio_ports.md R237 to R251, R257): states, slots, elastic buffers, sub-rate filters and
steering. Sides are numbered 2 × port + (0 receive, 1 transmit); AES3 sides follow from 64 on. -/

namespace Sys2Proof.Machine

open Sys2Proof

/-- Change the port part of the state. -/
def State.onPrt (s : State) (f : Ports → Ports) : State := { s with prt := f s.prt }

/-- Side `d`. -/
def State.side (s : State) (d : Nat) : PortSide := mget .init s.prt.side d

/-- Change side `d`. -/
def State.onSide (s : State) (d : Nat) (f : PortSide → PortSide) : State :=
  s.onPrt fun p => { p with side := mmod .init p.side d f }

/-- The register page of a side. -/
def sidePage (d : Nat) : Nat := if d < 64 then 0x80 + d / 2 else 0xA0 + (d - 64) / 2

/-- A TDM field of the port of side `d`; an AES3 field of its transceiver. -/
def prtFld (f : Fld) (d : Nat) : Fld := f.sh (0x1000 * (d / 2))
def aesFld (f : Fld) (i : Nat) : Fld := f.sh (0x1000 * i)

/-- A side is an output. -/
def sideTx (d : Nat) : Bool := d % 2 == 1

/-- The field that shows the state of a side. -/
def sideStat (d : Nat) : Fld :=
  if d < 64 then prtFld (if sideTx d then PRT_STAT_TX_STATE else PRT_STAT_RX_STATE) d
  else aesFld AES_STAT_TX_STATE ((d - 64) / 2)

/-- The state of a side (R247): 0 OFF, 1 ARMED, 2 LEAD, 3 RUNNING, 4 TRAIL, 5 NO_CLOCK. -/
def State.sideState (s : State) (d : Nat) : Nat := s.fld (sideStat d)

/-- The enable of a side. -/
def sideEnable (d : Nat) : Fld :=
  if d < 64 then prtFld (if sideTx d then PRT_CTRL_TX_EN else PRT_CTRL_RX_EN) d
  else aesFld (if sideTx d then AES_CTRL_TX_EN else AES_CTRL_RX_EN) ((d - 64) / 2)

/-- The island of a side is powered (R237). -/
def State.sidePowered (s : State) (d : Nat) : Bool :=
  s.powered (if d < 32 then 18 else if d < 64 then 19 else 20) && s.upMode

/-- The engine's outputs reach the steering logic (01 R21). -/
def State.drives (s : State) : Bool := s.runMode

/-! ### Formats (R238 to R241, R244) -/

/-- The lead page's offset of the group of port `p`. -/
def groupOff (p : Nat) : Nat := 0x1000 * (p / 4 * 4)

/-- The registers that TDM side `d` would follow if its frames began now. -/
def State.sideRegsNow (s : State) (d : Nat) : SideRegs :=
  let o := 0x1000 * (d / 2)
  ⟨s.rd (PRT_FMT + o), s.rd ((if sideTx d then PRT_TX_CLK else PRT_RX_CLK) + o), s.rd (PRT_SLOT_EN + o),
    s.rd (PRT_GRP_CTRL + groupOff (d / 2))⟩

/-- The registers that the frames of TDM side `d` follow: after a commit, for a while those from before it (R250). -/
def State.sideRegs (s : State) (d : Nat) : SideRegs := (s.side d).old.getD (s.sideRegsNow d)

/-- Slots of a frame (R238). -/
def SideRegs.slots (r : SideRegs) : Nat := bitsNat r.fmt.toNat 31 28 + 1

/-- Bits of a slot. -/
def SideRegs.slotBits (r : SideRegs) : Nat :=
  match bitsNat r.fmt.toNat 27 26 with
  | 0 => 16
  | 1 => 24
  | _ => 32

/-- Bit periods of a frame. -/
def SideRegs.frameBits (r : SideRegs) : Nat := r.slots * r.slotBits

/-- The port rate in Hz at engine rate `f` (R240). -/
def SideRegs.rate (r : SideRegs) (f : Nat) : Nat :=
  let x := match bitsNat r.fmt.toNat 25 23 with
    | 1 => 48000
    | 2 => 24000
    | 3 => 16000
    | 4 => 8000
    | _ => f
  if f < x then f else x

/-- FS edges at which a frame begins are rising edges (R239). -/
def SideRegs.fsHigh (r : SideRegs) : Bool := !r.fmt.getLsbD 21

/-- FS is active for so many bit periods (R239). -/
def SideRegs.fsLen (r : SideRegs) : Nat := if r.fmt.getLsbD 22 then r.frameBits / 2 else 1

/-- The first bit period of slot `sl` after the frame begins (R239). -/
def SideRegs.firstBit (r : SideRegs) (sl : Nat) : Nat := (r.fmt.getLsbD 20).toNat + sl * r.slotBits

/-- A receiver takes DIN at the falling edge of BCLK; a transmitter changes DOUT at the rising edge (R239). -/
def SideRegs.rxFalling (r : SideRegs) : Bool := r.fmt.getLsbD 19
def SideRegs.txRising (r : SideRegs) : Bool := r.fmt.getLsbD 18

/-- Disabled transmit slots are high-impedance (R238). -/
def SideRegs.hiZ (r : SideRegs) : Bool := r.fmt.getLsbD 17

/-- MODE, PIN and LAG (R241, R243). -/
def SideRegs.mode (r : SideRegs) : Nat := bitsNat r.clk.toNat 31 30
def SideRegs.pin (r : SideRegs) : Nat := bitsNat r.clk.toNat 25 24
def SideRegs.lag (r : SideRegs) : Nat := bitsNat r.clk.toNat 16 16

/-- Slots of side `d`, and bits of each. -/
def State.slots (s : State) (d : Nat) : Nat := (s.sideRegs d).slots
def State.slotBits (s : State) (d : Nat) : Nat := (s.sideRegs d).slotBits

/-- The ratio D of the engine rate to the port rate (R240). -/
def State.ratio (s : State) (d : Nat) : Nat := s.rate / (s.sideRegs d).rate s.rate

/-- The enabled slots of side `d`. -/
def State.enabledSlots (s : State) (d : Nat) : List Nat :=
  let e := (s.sideRegs d).slotEn.toNat
  (List.range (s.slots d)).filter fun i => e.testBit (if sideTx d then 16 + i else i)

/-- The clock mode of a side (R241). -/
def State.clockMode (s : State) (d : Nat) : Nat := (s.sideRegs d).mode

/-- The group of side `d` steers its synthesizer (R245). -/
def State.steers (s : State) (d : Nat) : Bool := (s.sideRegs d).grp.getLsbD 31

/-- The side uses the elastic path (R241); every AES3 receiver does (R253). -/
def State.elastic (s : State) (d : Nat) : Bool :=
  if d < 64 then decide (2 ≤ s.clockMode d) || s.steers d else !sideTx d

/-- FILL_TGT of a side (R244, R253). -/
def State.fillTgt (s : State) (d : Nat) : Nat :=
  if d < 64 then max 1 (min 6 (bitsNat (s.sideRegs d).grp.toNat 19 16)) else 2

/-! ### Pins (R237, R241, R245, R247) -/

/-- The port whose BCLK and FS pins side `d` uses. -/
def State.pinPort (s : State) (d : Nat) : Nat := d / 8 * 4 + (s.sideRegs d).pin

/-- The MASTER sides that use the pins of port `q`, among those that `on` names. -/
def State.masters (s : State) (q : Nat) (on : Nat → Bool) : List Nat :=
  ((List.range 8).map fun j => q / 4 * 8 + j).filter fun d => on d && s.clockMode d == 0 && s.pinPort d == q

/-- A side is enabled, or still runs (R241, R247). -/
def State.sideOn (s : State) (d : Nat) : Bool :=
  s.fld (sideEnable d) == 1 || (decide (2 ≤ s.sideState d) && decide (s.sideState d ≤ 4))

/-- BCLK and FS of port `q` are outputs (R241). -/
def State.pinsOut (s : State) (q : Nat) : Bool := s.masters q s.sideOn != []

/-- What runs on them (R239, R247). -/
def State.pinClock (s : State) (q : Nat) : Option TdmClock :=
  (s.masters q fun d => decide (2 ≤ s.sideState d) && decide (s.sideState d ≤ 4)).head?.map fun d =>
    let r := s.sideRegs d
    ⟨r.rate s.rate * r.frameBits, r.frameBits, r.fsHigh, r.fsLen, r.txRising, bitsNat r.fmt.toNat 9 0⟩

/-- The clock pins of the ports of side `d`'s group after a change from `was`. -/
def State.showPins (s was : State) (d : Nat) : State :=
  ((List.range 4).map fun j => d / 8 * 4 + j).foldl (fun s q =>
    if s.pinsOut q = was.pinsOut q ∧ s.pinClock q = was.pinClock q then s
    else s.emit (.tdmClock q (s.pinsOut q) (s.pinClock q))) s

/-- The frequency of the master clock output of a group (R245). -/
def mclkHz (grp : Reg32) : Nat :=
  match bitsNat grp.toNat 25 24 with
  | 0 => 0
  | 1 => 12288000
  | 2 => 24576000
  | _ => 49152000

/-- The first stream of a side. -/
def sideStream (d : Nat) : Nat := if d < 64 then 16 * (d / 2) else 512 + 2 * ((d - 64) / 2)

/-! ### States (R247, R250) -/

/-- Unit 1 of the running commit is done once no side is still starting or stopping and no block load is waited for. -/
def State.checkPortsDone (s : State) : State :=
  let left := s.prt.jSides.filter fun d =>
    s.sideState d == 4 || (s.side d).restart || (s.side d).starting || (s.side d).leaving
  let open' := s.prt.jSides ≠ [] ∨ s.prt.jLoads ≠ []
  let s := s.onPrt fun p => { p with jSides := left }
  if open' ∧ left = [] ∧ s.prt.jLoads = [] then s.unitDone 1 fun _ => true else s

/-- What a side holds of its frames as it enters state `st`. -/
def PortSide.enter (x : PortSide) (d st tgt : Nat) : PortSide :=
  let x := { x with starting := false, leaving := false }
  if st = 3 then
    { x with part := [], fed := false, buf := if sideTx d then List.replicate tgt [] else [], waiting := !sideTx d
             starved := false, last := none, broken := none }
  else if st = 0 ∨ st = 5 then
    { x with part := [], buf := [], fed := false, last := none, broken := none, old := if st = 0 then none else x.old }
  else x

/-- Side `d` enters state `st`. -/
def State.setSide (s : State) (d st : Nat) : State :=
  let was := s
  let tgt := s.fillTgt d
  let s := (s.setFld (sideStat d) st).onSide d fun x => x.enter d st tgt
  let s := if 64 ≤ d ∧ st = 2 then
      let i := (d - 64) / 2
      let x : AesTx := mget ⟨0, 0, 0, 0, 0, (0, false), (0, false)⟩ s.prt.tx i
      s.onPrt fun p => { p with tx := mins p.tx i { x with pos := 0 } }
    else s
  let s := if d < 64 then s.showPins was d else s
  let s := if ¬ sideTx d ∨ (st ≠ 0 ∧ st ≠ 5) then s
    else s.emit (if d < 64 then .tdmLow (d / 2) else .aesLow ((d - 64) / 2))
  s.checkPortsDone

/-- Where a side waits for a compare unit (R248): its number, none for an immediate start. -/
def State.startUnit (s : State) (d : Nat) : Option Nat :=
  let k := if d < 64 then s.fld (prtFld PRT_CTRL_START_SRC d) else s.fld (aesFld AES_CTRL_START_SRC ((d - 64) / 2))
  if 1 ≤ k ∧ k ≤ 16 then some (k - 1) else none

/-- The engine makes the frames of the side: a MASTER side, and an AES3 transmitter. -/
def State.isMasterSide (s : State) (d : Nat) : Bool := decide (64 ≤ d) || s.clockMode d == 0

/-- The enable of side `d` became 1 (R247): a master side enters LEAD at the next tick. -/
def State.startSide (s : State) (d : Nat) : State :=
  let st := s.sideState d
  if st = 0 then
    if (s.startUnit d).isSome then s.setSide d 1
    else if s.isMasterSide d then (s.onSide d fun x => { x with starting := true }).checkPortsDone
    else s.setSide d 2
  else if st = 4 then s.setSide d 2
  else (s.onSide d fun x => { x with leaving := false }).checkPortsDone

/-- The enable of side `d` became 0 (R247): in RUNNING it enters TRAIL at its next frame start. -/
def State.stopSide (s : State) (d : Nat) : State :=
  let st := s.sideState d
  if st = 1 ∨ st = 5 then s.setSide d 0
  else if st = 2 then s.setSide d 4
  else if st = 3 then s.onSide d fun x => { x with leaving := true }
  else (s.onSide d fun x => { x with starting := false }).checkPortsDone

/-- A side that has a state: every one but an AES3 receiver. -/
def hasState (d : Nat) : Bool := decide (d < 64) || sideTx d

/-- The enable of side `d` changed to `on`. -/
def State.sideEnabled (s : State) (d : Nat) (on : Bool) : State :=
  if ¬ hasState d then
    (if on then s else s.onSide d fun x => { x with part := [], buf := [], waiting := true })
  else if on then s.startSide d else s.stopSide d

/-- Set the enable of side `d` (R247). -/
def State.writeEnable (s : State) (d : Nat) (on : Bool) : State :=
  if s.fld (sideEnable d) = (if on then 1 else 0) then s
  else
    let t := (s.setFld (sideEnable d) (if on then 1 else 0)).sideEnabled d on
    if d < 64 then t.showPins s d else t

/-- Master sides enabled since the tick before begin their first frame (R247). -/
def State.startTick (s : State) : State :=
  ((s.prt.side.filter fun e => e.2.starting).map fun e => e.1).foldl (fun s d => s.setSide d 2) s

/-- The group lead's register of port `p` was written (R245): without STEER_EN the synthesizer has no trim, and MCLK_SEL sets
the master clock output. -/
def State.grpWritten (s was : State) (g : Nat) : State :=
  let a := PRT_GRP_CTRL + 0x4000 * g
  let s := if (s.rd a).getLsbD 31 then s
    else (s.wr (PRT_GRP_STAT + 0x4000 * g) 0).onPrt fun p => { p with steer := mdel p.steer g }
  if mclkHz (s.rd a) = mclkHz (was.rd a) then s else s.emit (.mclk g (mclkHz (s.rd a)))

/-- A frame of side `d` begins: a side that is to stop enters TRAIL (R247), and slot enables of a commit take effect (R250). -/
def State.frameStart (s : State) (d : Nat) : State :=
  let now := s.sideRegsNow d
  let s := s.onSide d fun x => { x with
    broken := if x.broken = some false then some true else none
    old := match x.old with
      | some o => if o.fmt = now.fmt ∧ o.clk = now.clk ∧ o.grp = now.grp then none else x.old
      | none => none }
  if (s.side d).leaving then s.setSide d 4 else s

/-- Slot `sl` of side `d` comes: where it is not after the last one, a frame begins with it. -/
def State.slotComes (s : State) (d sl : Nat) : State :=
  let s := if (s.side d).last.all fun l => decide (sl ≤ l) then s.frameStart d else s
  s.onSide d fun x => { x with last := some sl }

/-- An FS edge of the clock pins of side `d`, rising or falling, `n` bit periods into a frame, is an active edge out of place
(R239, R249). -/
def State.badFs (s : State) (d : Nat) (fs : Option (Bool × Nat)) : Bool :=
  let r := s.sideRegs d
  fs.any fun e => e.1 == r.fsHigh && e.2 != r.frameBits

/-- A follower or foreign side meets a frame error (R249). DESIGN CHOICE (log entry 61): a receive side loses the frame that the
edge breaks off; a transmit side sends 0 in the frame that the edge begins. -/
def State.frameError (s : State) (d : Nat) : State :=
  let st := s.sideState d
  if s.clockMode d ≠ 0 ∧ (st = 2 ∨ st = 3) then
    let s := s.onSide d fun x => { x with
      part := if sideTx d then x.part else [], last := none, broken := if sideTx d then some false else none }
    (s.bump (prtFld PRT_ERR_FRAME_ERR d)).evt (sidePage d) 4
  else s

/-- STARTED (R247): 1024 lead frames have run. -/
def execStarted (side : Fin 96) (s : State) : Res :=
  .next (if hasState side ∧ s.sideState side = 2 then
    let s := s.setSide side 3
    if side.val < 64 then s.evt (sidePage side) 0 else s
  else s)

/-- STOPPED (R247): 1024 trail frames have run; a side that a commit restarts starts with its new settings (R250). -/
def execStopped (side : Fin 96) (s : State) : Res :=
  .next (if hasState side ∧ (s.sideState side = 4 ∨ (s.side side).leaving) then
    let again := (s.side side).restart && s.fld (sideEnable side) == 1
    let s := s.onSide side fun x => { x with restart := false }
    let s := s.setSide side 0
    let s := if side.val < 64 then s.evt (sidePage side) 1 else s
    if again then s.startSide side else s
  else s)

/-- Compare unit `k` has fired: every side armed on it starts (R248). -/
def State.firePorts (s : State) (k : Nat) : State :=
  (List.range 96).foldl (fun s d =>
    if hasState d ∧ s.sideState d = 1 ∧ s.startUnit d = some k then s.setSide d 2 else s) s

/-! ### Clocks (R249) -/

/-- Side `d` loses its clock. -/
def State.clkLoss (s : State) (d : Nat) : State :=
  let st := s.sideState d
  if d < 64 ∧ s.clockMode d ≠ 0 ∧ 2 ≤ st ∧ st ≤ 4 then
    ((s.setSide d 5).bump (prtFld PRT_ERR_CLK_LOSS d)).evt (sidePage d) 2
  else s

/-- CLK_LOSS (R249). -/
def execClkLoss (side : Fin 64) (s : State) : Res := .next (s.clkLoss side)

/-- CLOCK_RETURN (R249). -/
def execClockReturn (side : Fin 64) (s : State) : Res :=
  .next (if s.sideState side = 5 then s.setSide side 2 else s)

/-! ### Elastic buffers (R244) -/

/-- The register field that counts slips of a side. -/
def slipFld (d : Nat) : Fld :=
  if d < 64 then prtFld (if sideTx d then ⟨PRT_SLIP, 15, 0⟩ else ⟨PRT_SLIP, 31, 16⟩) d
  else aesFld ⟨AES_RX_SLIP, 15, 0⟩ ((d - 64) / 2)

/-- A slip of side `d`. -/
def State.slip (s : State) (d : Nat) : State := (s.bump (slipFld d)).evt (sidePage d) (if d < 64 then 3 else 4)

/-- How full side `d` is, in frames with 8 fraction bits. -/
def State.fill (s : State) (d : Nat) : Nat :=
  let x := s.side d
  256 * x.buf.length + (if d < 64 ∧ ¬ sideTx d then 256 * x.part.length / s.slots d else 0)

/-- The fill is shown as measured at a release or send. -/
def State.showFill (s : State) (d : Nat) : State :=
  if d < 64 then s.setFld (prtFld (if sideTx d then ⟨PRT_FILL, 15, 0⟩ else ⟨PRT_FILL, 31, 16⟩) d) (s.fill d)
  else s.setFld (aesFld ⟨AES_RX_FILL, 15, 0⟩ ((d - 64) / 2)) (s.fill d)

/-- A complete frame arrives in the buffer of side `d` (overrun: R244). -/
def State.pushFrame (s : State) (d : Nat) (f : SMap Reg32) : State :=
  let b := (s.side d).buf
  if b.length < 8 then s.onSide d fun x => { x with buf := x.buf ++ [f] }
  else (s.onSide d fun x => { x with buf := (x.buf ++ [f]).drop (x.buf.length + 1 - s.fillTgt d) }).slip d

/-- Take the oldest frame at a release or send: none at an underrun or while the fill recovers (R244). -/
def State.popFrame (s : State) (d : Nat) : Option (SMap Reg32) × State :=
  let s := s.showFill d
  let x := s.side d
  if x.slipInj then
    (none, (s.onSide d fun x => { x with slipInj := false, waiting := true }).slip d)
  else if x.waiting ∧ x.buf.length < s.fillTgt d then (none, s)
  else match x.buf with
    | [] => (none, (s.onSide d fun x => { x with waiting := true }).slip d)
    | f :: r => (some f, s.onSide d fun x => { x with buf := r, waiting := false })

/-- The trim limit of a group, in 0.1 ppm (R245). -/
def State.trimMax (s : State) (o : Nat) : Nat := 10 * max 1 (min 500 (s.fld (PRT_GRP_CTRL_TRIM_MAX.sh o)))

/-- The steering loop at a release or send of its side (R245): it compares the fill with FILL_TGT + 0.5 frame, and trims
proportionally and by the integral, within the limit. DESIGN CHOICE (log entry 62): one step of the loop is one release or send;
its two gains for each LOOP_BW are the implementation's. -/
def State.steer (s : State) (d : Nat) : State :=
  let p := d / 2
  let o := groupOff p
  if d < 64 ∧ s.steers d ∧ s.fld (PRT_GRP_CTRL_STEER_PIN.sh o) = p % 4 ∧
      s.fld (PRT_GRP_CTRL_STEER_SIDE.sh o) = d % 2 then
    let m : Int := s.trimMax o
    let e : Int := (s.fill d : Int) - (256 * s.fillTgt d + 128 : Nat)
    let sum := mget 0 s.prt.steer (p / 4) + e
    let bw := min 2 (s.fld (PRT_GRP_CTRL_LOOP_BW.sh o))
    let t := max (-m) (min m ((Config.steerP bw * e + Config.steerI bw * sum) / 2 ^ 32))
    let s := s.onPrt fun q => { q with steer := mset 0 q.steer (p / 4) sum }
    let s := (s.setFld (PRT_GRP_STAT_STEERING.sh o) 1).setFld (PRT_GRP_STAT_TRIM.sh o) (BitVec.ofInt 16 t).toNat
    if t = m ∨ t = -m then s else s.setFld (PRT_GRP_STAT_AT_LIMIT.sh o) 0
  else s

/-- TRIM_LIMIT (R245): the trim has stood at its limit for 1 s. -/
def execTrimLimit (group : Fin 8) (s : State) : Res :=
  let o := groupOff (4 * group)
  let t := s.fld (PRT_GRP_STAT_TRIM.sh o)
  let m := s.trimMax o
  .next (if s.fld (PRT_GRP_CTRL_STEER_EN.sh o) = 1 ∧ (t = m ∨ t = 65536 - m) then
    (s.setFld (PRT_GRP_STAT_AT_LIMIT.sh o) 1).evt (0x80 + 4 * group) 6
  else s)

/-! ### Receive (R242, R244, R246) -/

/-- A sample of source stream `k` completes: tagged with the index in progress before D_n, held for the next one after it;
a second sample for one index is late (R242). -/
def State.portSample (s : State) (k : Nat) (v : Word) : State :=
  match s.tick s.idx with
  | none => s
  | some t =>
    if t.dl.isSome then
      if (mfind s.prt.held k).isSome then s.count 0 k 1 0 else s.onPrt fun p => { p with held := mins p.held k v }
    else if (mfind t.arr k).isSome then s.count 0 k 1 0
    else s.deliver k (some v) s.idx s.trs.now

/-- The code that side `d` samples in a slot: DIN at the rising or at the falling edges of BCLK (R238, R239). -/
def State.sampled (s : State) (d : Nat) (rise fall : Reg32) : Reg32 :=
  let r := s.sideRegs d
  BitVec.ofNat 32 ((if r.rxFalling then fall else rise).toNat % 2 ^ r.slotBits)

/-- A TDM receive slot completes with code `code` (R242). -/
def State.slotComplete (s : State) (p sl : Nat) (code : Reg32) : State :=
  let d := 2 * p
  let s := s.slotComes d sl
  if s.sideState d ≠ 3 ∨ ¬ (s.enabledSlots d).contains sl then s
  else if ¬ s.elastic d ∧ s.ratio d = 1 then s.portSample (16 * p + sl) (inCode (s.slotBits d) code.toNat)
  else
    let part := mins (s.side d).part sl code
    if (s.enabledSlots d).all fun i => (mfind part i).isSome then
      let s := s.onSide d fun x => { x with part := [] }
      if s.elastic d then s.pushFrame d part else s.onSide d fun x => { x with fed := true }
    else s.onSide d fun x => { x with part := part }

/-- SLOT_COMPLETE (R242, R249): the slot's bits as DIN stands at the rising and at the falling edges of BCLK, most significant
first; or the slot is broken off by an FS edge, rising or falling, so many bit periods into the frame. -/
def execSlotComplete (port : Fin 32) (slot : Fin 16) (rise fall : Reg32) (fs : Option (Bool × Nat)) (s : State) : Res :=
  let d := 2 * port.val
  .next (if ¬ s.sidePowered d then s
  else if s.badFs d fs then s.frameError d
  else s.slotComplete port slot (s.sampled d rise fall))

/-- Deliver a released frame of a TDM receive side as samples of the index in progress. -/
def State.deliverFrame (s : State) (d : Nat) (f : SMap Reg32) : State :=
  let bits := s.slotBits d
  f.foldl (fun s e =>
    if (s.enabledSlots d).contains e.1 then
      s.deliver (sideStream d + e.1) (some (inCode bits (e.2.toNat % 2 ^ bits))) s.idx s.trs.now
    else s) s

/-- The interpolator's outputs of the index in progress. The coefficients are a ROM that the manual does not print, so the
values are free (R246, log entry 2). -/
def State.interpolate (s : State) (d : Nat) : State :=
  (s.enabledSlots d).foldl (fun s i =>
    let (v, s) := s.free 72
    s.deliver (sideStream d + i) (some v) s.idx s.trs.now) s

/-- A receive side releases its oldest frame (R244). -/
def State.releaseFrame (s : State) (d : Nat) : Option (SMap Reg32) × State :=
  let (f, s) := (s.steer d).popFrame d
  (f, s.onSide d fun x => { x with starved := f.isNone })

/-- Receive side `d` at the tick of the index in progress (R244, R246): after a release that gives no frame its streams are
absent until one does; the interpolator uses what came before the tick. -/
def State.rxTick (s : State) (d : Nat) : State :=
  if s.sideState d ≠ 3 ∨ ¬ s.sidePowered d then s
  else
    let r := s.ratio d
    let fed := (s.side d).fed
    let (f, s) := if s.elastic d ∧ s.idx % r = 0 then s.releaseFrame d else (none, s)
    if r = 1 then (match f with | some f => s.deliverFrame d f | none => s)
    else
      let s := if fed ∧ ¬ (s.side d).starved then s.interpolate d else s
      if f.isSome then s.onSide d fun x => { x with fed := true } else s

/-- Samples held since the index before are delivered (R242). -/
def State.deliverHeld (s : State) : State :=
  let h := s.prt.held
  h.foldl (fun s e => s.deliver e.1 (some e.2) s.idx s.trs.now) (s.onPrt fun p => { p with held := [] })

/-! ### Transmit (R243, R244, R246) -/

/-- Put `code` out in slot `sl` of port `p`; no code: high impedance (R238, R239). -/
def State.emitSlot (s : State) (p sl : Nat) (code : Option Nat) : State :=
  let r := s.sideRegs (2 * p + 1)
  s.emit (.tdmSlot p sl (r.firstBit sl) r.txRising code)

/-- Send a code in slot `sl` of port `p`; in the output hold the last one sent is repeated (16 R393). -/
def State.sendSlot (s : State) (p sl code : Nat) : State :=
  let k := 16 * p + sl
  if ¬ s.drives then s
  else if s.bly.hold then s.emitSlot p sl (some (mget 0 s.prt.sent k))
  else (s.onPrt fun q => { q with sent := mset 0 q.sent k code }).emitSlot p sl (some code)

/-- A disabled slot drives 0, or nothing (R238). -/
def State.idleSlot (s : State) (p sl : Nat) : State :=
  if s.drives then s.emitSlot p sl (if (s.sideRegs (2 * p + 1)).hiZ then none else some 0) else s

/-- Send `code` in slot `sl` of port `p` where the slot is enabled. -/
def State.outSlot (s : State) (p sl code : Nat) : State :=
  if (s.enabledSlots (2 * p + 1)).contains sl then s.sendSlot p sl code else s.idleSlot p sl

/-- Convert the word of sink `16p + sl` and count its saturation (R56, R58). -/
def State.portCode (s : State) (d sl : Nat) (w : Word) : Nat × State :=
  let (c, clip) := outCode (s.slotBits d) w
  let s := if clip then (s.bump (whole (PRT_CLIP + 0x1000 * (d / 2) + 4 * sl))).evt (sidePage d) 5 else s
  ((BitVec.ofInt 32 c).toNat % 2 ^ s.slotBits d, s)

/-- A decimator output for slot `sl` of side `d`, converted under R58. The filter's coefficients are a ROM that the manual does
not print, so its value is free (R246, log entry 2). -/
def State.decimateSlot (s : State) (d sl : Nat) : Nat × State :=
  let (w, s) := s.free 72
  s.portCode d sl w

/-- A direct transmit slot takes its sink sample (R243). -/
def State.tdmTake (s : State) (p sl : Nat) : State :=
  let d := 2 * p + 1
  if s.slots d ≤ sl ∨ s.elastic d then s
  else
    let s := s.slotComes d sl
    let st := s.sideState d
    if st = 2 ∨ st = 4 then s.outSlot p sl 0
    else if st ≠ 3 then s
    else
      let on := (s.enabledSlots d).contains sl
      let zero := (s.side d).broken == some true
      if s.ratio d ≠ 1 then
        let (c, s) := if on ∧ ¬ zero then s.decimateSlot d sl else (0, s)
        s.outSlot p sl c
      else
        let n := (2 ^ 48 + s.idx - (s.sideRegs d).lag) % 2 ^ 48
        let (w, s) := s.takeSink (16 * p + sl) n
        let (c, s) := if on ∧ ¬ zero then s.portCode d sl w else (0, s)
        s.outSlot p sl c

/-- TDM_SLOT_TAKE (R243, R249): the take point of a slot; `fs` as in SLOT_COMPLETE, an FS edge just before it. -/
def execTdmSlotTake (port : Fin 32) (slot : Fin 16) (fs : Option (Bool × Nat)) (s : State) : Res :=
  let d := 2 * port.val + 1
  .next (if ¬ s.sidePowered d then s
  else (if s.badFs d fs then s.frameError d else s).tdmTake port slot)

/-- A port frame of a sub-rate transmit side. -/
def State.decimated (s : State) (d : Nat) : SMap Reg32 × State :=
  (s.enabledSlots d).foldl (fun (a : SMap Reg32 × State) i =>
    let (c, s) := a.2.decimateSlot d i
    (mins a.1 i (BitVec.ofNat 32 c), s)) ([], s)

/-- The transmit side of sink `k` takes its sample of index `n` (R244, R246). -/
def State.portTake (s : State) (k n : Nat) : State :=
  let d := 2 * (k / 16) + 1
  let sl := k % 16
  let r := s.ratio d
  if s.sideState d ≠ 3 ∨ ¬ s.sidePowered d ∨ (¬ s.elastic d ∧ r = 1) then s
  else
    let (w, s) := s.takeSink k n
    if ¬ (s.enabledSlots d).contains sl then s
    else if r = 1 then
      let (c, s) := s.portCode d sl w
      let part := mins (s.side d).part sl (BitVec.ofNat 32 c)
      if (s.enabledSlots d).all fun i => (mfind part i).isSome then
        (s.onSide d fun x => { x with part := [] }).pushFrame d part
      else s.onSide d fun x => { x with part := part }
    else
      let s := s.onSide d fun x => { x with fed := true }
      if s.elastic d ∧ n % r = 0 ∧ (s.enabledSlots d).getLast? = some sl then
        let (f, s) := s.decimated d
        s.pushFrame d f
      else s

/-- EXTERNAL_FRAME_START (R244, R247, R249): a frame of an elastic transmit side starts, `bits` bit periods after the one before. It
sends the oldest frame, 0 in every slot where none is held or in LEAD and TRAIL, and 0 where it starts out of place. -/
def execExternalFrameStart (side : Fin 64) (bits : Nat) (s : State) : Res :=
  let d := side.val
  .next (if sideTx d ∧ s.elastic d ∧ s.sidePowered d ∧ 2 ≤ s.sideState d ∧ s.sideState d ≤ 4 then
    let bad := s.badFs d (some ((s.sideRegs d).fsHigh, bits))
    let s := (if bad then s.frameError d else s).frameStart d
    let (f, s) := if s.sideState d ≠ 3 ∨ (s.side d).broken == some true then (none, s) else (s.steer d).popFrame d
    (List.range (s.slots d)).foldl (fun s i => s.outSlot (d / 2) i (mget 0 (f.getD []) i).toNat) s
  else s)

end Sys2Proof.Machine
end

