-- ==== Sys2Proof/Machine/Plumb.lean ====
section
/-! DEFINITION. References, selection, synthesizer and holdover (12_plumb_clock_and_time.md R260 to R270). -/

namespace Sys2Proof.Machine

open Sys2Proof

def State.onPlb (s : State) (f : Plumb → Plumb) : State := { s with plb := f s.plb }

/-! ### References (R260 to R262) -/

/-- A field of reference `r`. -/
def refFld (f : Fld) (r : Nat) : Fld := f.sh (0x10 * r)

/-- States of a reference (PLB_REF_STAT.STATE): 0 DISABLED, 1 NO_SIGNAL, 2 OUT_OF_RANGE, 3 QUALIFYING, 4 QUALIFIED,
5 SELECTED. -/
def State.refState (s : State) (r : Nat) : Nat := s.fld (refFld PLB_REF_STAT_STATE r)

def State.refOn (s : State) (r : Nat) : Bool := s.fld (refFld PLB_REF_CFG_EN r) == 1

/-- QUALIFIED or SELECTED. -/
def State.refGood (s : State) (r : Nat) : Bool := decide (4 ≤ s.refState r)

/-- Reference `r` carries phase (R260). -/
def phaseRef (r : Nat) : Bool := !(r == 2 || r == 3 || r == 8)

/-- Q of a PTP reference by its grandmaster's clockClass (R262). -/
def ptpQ (c : Nat) : Nat :=
  if c = 6 then 1 else if c = 7 then 2 else if c = 13 ∨ c = 14 then 3 else if c = 52 ∨ c = 58 then 4
  else if c = 187 ∨ c = 193 then 5 else if c = 248 then 6 else 15

/-- Q of a line clock by its SSM code (R262). -/
def ssmQ (c : Nat) : Nat := if c = 2 then 1 else if c = 4 then 2 else if c = 8 then 3 else if c = 11 then 4 else 15

/-- The SSM code R262 gives for a Q. -/
def qSsm (q : Nat) : Nat :=
  if q = 1 then 2 else if q = 2 then 4 else if q = 3 then 8 else if q = 4 then 11 else if 5 ≤ q ∧ q ≤ 14 then 11 else 15

/-- The source of station time as R271 chooses it: 0 none, 1 PTP0, 2 PTP1, 3 the peer. -/
def State.timeSource (s : State) : Nat :=
  let better (a b : Nat) : Bool :=
    let key r := ((s.fld (refFld PLB_REF_STAT_Q r) * 256 + s.fld (refFld PLB_REF_STAT_ACC r)) * 16 +
      s.fld (refFld PLB_REF_CFG_PRIO r)) * 16 + r
    decide (key a ≤ key b)
  let sel := s.fld PLB_SYN_STAT_SEL_REF
  let best := if s.refGood 0 && s.refGood 1 then (if better 0 1 then 1 else 2)
    else if s.refGood 0 then 1 else if s.refGood 1 then 2 else 0
  if s.mode = .standby ∧ s.refGood 9 then 3
  else match s.fld PLB_TIME_CTRL_SRC_SEL with
    | 1 => if s.refGood 0 then 1 else 0
    | 2 => if s.refGood 1 then 2 else 0
    | 0 => if sel ≤ 1 then sel + 1 else best
    | _ => 0

/-- The source of station time is chosen again (R271, R283). -/
def State.refreshSource (s : State) : State :=
  let n := s.timeSource
  if s.fld PLB_TIME_STAT_SRC = n then s else (s.setFld PLB_TIME_STAT_SRC n).evt 0x32 2

/-- Reference `r` takes state `st`; leaving QUALIFIED or SELECTED is a loss (R261). -/
def State.setRef (s : State) (r st : Nat) : State :=
  let was := s.refGood r
  let s := s.setFld (refFld PLB_REF_STAT_STATE r) st
  let s := if was ∧ st < 4 then (s.bump (whole (PLB_REF_LOSS + 0x10 * r))).evt 0x31 0 else s
  s.refreshSource

/-- Reference `r` loses its signal: NO_SIGNAL at once (R261). -/
def State.refLoss (s : State) (r : Nat) : State := if s.refOn r then s.setRef r 1 else s

/-- The quality of reference `r` changes: with Q = 15 it is at most QUALIFYING (R261). -/
def State.setQuality (s : State) (r q acc : Nat) : State :=
  let s := (s.setFld (refFld PLB_REF_STAT_Q r) q).setFld (refFld PLB_REF_STAT_ACC r) acc
  if q = 15 ∧ s.refGood r then s.setRef r 3 else s.refreshSource

/-- Q and ACC of a wired reference other than PEER come from its configuration, and Q of a line clock from the port it names
(R262). -/
def State.refreshQuality (s : State) (r : Nat) : State :=
  if 4 ≤ r ∧ r ≤ 8 then s.setQuality r (max 1 (s.fld (refFld PLB_REF_CFG_QUAL r))) 0xFE
  else if r = 2 ∨ r = 3 then
    s.setQuality r (match mfind s.net.ssm (s.fld (refFld PLB_REF_CFG_SRC r)) with | some c => ssmQ c | none => 15) 0xFE
  else s

/-- Reference `r` has a signal to measure (R261), as far as the engine itself knows: a PTP reference a master, a line clock a
link (13 R295), an AES3 reference a locked receiver (11 R253). -/
def State.refSignal (s : State) (r : Nat) : Bool :=
  let src := s.fld (refFld PLB_REF_CFG_SRC r)
  match r with
  | 0 | 1 => (mget .init s.net.ptp r).parent.isSome
  | 2 | 3 => s.fld (NET_PORT_STAT_LINK.sh (0x20 * src)) == 1
  | 4 | 5 => s.fld (AES_STAT_LOCK.sh (0x1000 * src)) == 1
  | _ => true

/-- FREQ_GATE (R261): a 100 ms gate ends with the error `err`, in 0.01 ppm. -/
def execFreqGate (r : Fin 10) (err : Int) (s : State) : Res :=
  if ¬ s.refOn r ∨ ¬ s.upMode ∨ ¬ s.refSignal r then .next s
  else
    let e := max (-32768) (min 32767 err)
    let s := s.setFld (refFld PLB_REF_STAT_FREQ_ERR r) (BitVec.ofInt 16 e).toNat
    let acc := max 1 (s.fld (refFld PLB_REF_CFG_ACCEPT r))
    let rej := max acc (s.fld (refFld PLB_REF_CFG_REJECT r))
    let a := err.natAbs
    .next (if 100 * rej < a ∨ (100 * acc < a ∧ ¬ s.refGood r) then s.setRef r 2
      else if s.refGood r then s else s.setRef r 3)

/-- REF_LOSS (R261). -/
def execRefLoss (r : Fin 10) (s : State) : Res := .next (s.refLoss r)

/-- REF_QUAL (R261): QUALIFYING for QUAL_TIME with a usable quality. -/
def execRefQual (r : Fin 10) (s : State) : Res :=
  .next (if s.refOn r ∧ s.refState r = 3 ∧ s.fld (refFld PLB_REF_STAT_Q r) < 15 then (s.setRef r 4).evt 0x31 1 else s)

/-- The write of PLB_REF_CFG[r], whose EN was `was` (R261, R262, R280); PRIO may choose another source of station time
(R271). -/
def State.refEnabled (s : State) (r : Nat) (was : Bool) : State :=
  let s := s.refreshQuality r
  (if was ∧ ¬ s.refOn r then s.setRef r 0
    else if s.refOn r ∧ (¬ was ∨ ¬ s.refSignal r) then s.setRef r 1 else s).refreshSource

/-! ### Holdover and the control value (R266 to R269) -/

/-- The limit of the control value, ±200 ppm (R269). -/
def cvMax : Int := 13743895

/-- A control value limited. -/
def limitCv (x : Int) : Int := max (-cvMax) (min cvMax x)

def State.synState (s : State) : Nat := s.fld PLB_SYN_STAT_STATE

/-- The present control value: 0 in FREERUN, held in HOLDOVER and OPEN. While the loop follows a reference the manual does
not give it, so it is free (log entry 2), and stays the same until the time clock goes on; the loop begins from the value in
force (R269). -/
def State.control (s : State) : Int × State :=
  match s.synState with
  | 0 => (0, s)
  | 1 | 2 =>
    if s.plb.cvNow then (s.plb.cv, s)
    else
      let (v, s) := s.free 32
      (limitCv v.toInt, s.onPlb fun p => { p with cv := limitCv v.toInt, cvNow := true })
  | _ => (s.plb.cv, s)

/-- E0 and DRIFT of the oscillator, in ppb and ppb per hour (R268). -/
def State.oscillator (s : State) : Nat × Nat :=
  match s.fld PLB_OSC_CFG_GRADE with
  | 0 => (200, 400)
  | 1 => (10, 10)
  | 2 => (1, 1)
  | _ => (s.fld PLB_OSC_CFG_E0, max 1 (s.fld PLB_OSC_CFG_DRIFT))

/-- What the prediction of R268 must still rise before it reaches HOLD_SPEC, in ppb · cycles per hour of DRIFT. -/
def State.specLeft (s : State) : Nat :=
  let (e0, d) := s.oscillator
  (max 1 (s.fld PLB_HOLD_CFG_HOLD_SPEC) - e0) * (3600 * 250000000) - d * s.plb.holdCycles

/-- Seconds until the prediction reaches HOLD_SPEC, a part of a second counted as one (log entry 66). -/
def State.specSeconds (s : State) : Nat := ceilDiv s.specLeft (s.oscillator.2 * 250000000)

/-- Seconds in the present or last holdover. -/
def State.holdSeconds (s : State) : Nat := s.plb.holdCycles / 250000000

/-- PLB_HOLD_TIME and PLB_HOLD_LEFT follow (R268). -/
def State.refreshHold (s : State) : State :=
  let s := s.wrN PLB_HOLD_TIME s.holdSeconds
  s.wrN PLB_HOLD_LEFT (if s.synState ≠ 3 then 0xFFFFFFFF else if s.plb.specInj then 0 else s.specSeconds)

/-- The synthesizer enters state `st`; leaving HOLDOVER or OPEN clears the history and OUT_OF_SPEC (R267, R268). The loop
closes from the control value in force (R269). -/
def State.setSyn (s : State) (st : Nat) : State :=
  let old := s.synState
  if old = st then s
  else
    let s := s.setFld PLB_SYN_STAT_STATE st
    let s := if old = 3 ∨ old = 4 then s.onPlb fun p => { p with history := [], specInj := false } else s
    let s := if st = 1 ∧ old ≠ 2 then s.onPlb fun p => { p with cv := if old = 0 then 0 else p.cv, cvNow := true } else s
    let s := if old = 3 then (s.setFld PLB_SYN_STAT_AVG_HOLD 0).setFld PLB_SYN_STAT_OUT_OF_SPEC 0 else s
    s.refreshHold

/-- Entry to HOLDOVER: the control value that is held (R267). -/
def State.enterHoldover (s : State) : State :=
  if s.synState = 3 then s
  else
    let w := max 1 (min 200 (s.fld PLB_HOLD_CFG_WINDOW))
    let g := min 55 (s.fld PLB_HOLD_CFG_GUARD)
    let h := s.plb.history
    let avg := s.runMode && decide (w + g ≤ h.length)
    let (now, s) := s.control
    let cv := if avg then roundEven 20 (((h.drop g).take w).sum * 2 ^ 20 / w)
      else match h with
        | x :: _ => x
        | [] => now
    let s := s.setSyn 3
    let s := s.onPlb fun p => { p with cv := cv, holdCycles := 0 }
    ((s.setFld PLB_SYN_STAT_AVG_HOLD avg.toNat).refreshHold).evt 0x30 1

/-! ### Selection (R263, R264) -/

/-- The reference that R264 forces: FORCE_REF, or PEER in STANDBY and while a CONFIG engine joins; none where R263
applies. -/
def State.forced (s : State) : Option (Option Nat) :=
  if s.fld PLB_CTRL_FORCE_EN = 1 then
    let r := s.fld PLB_CTRL_FORCE_REF
    some (if r ≤ 9 then some r else none)
  else if (s.mode = .standby ∨ (s.mode = .config ∧ s.bly.joining)) ∧ s.refGood 9 then some (some 9)
  else none

/-- The engine is in STANDBY or joins, so that R264 excludes PEER from R263. -/
def State.peerExcluded (s : State) : Bool :=
  decide (s.mode = .active) || decide (s.mode = .standby) || (decide (s.mode = .config) && s.bly.joining)

/-- The eligible references (R263). -/
def State.eligible (s : State) (r : Nat) : Bool := s.refOn r && s.refGood r && !(r == 9 && s.peerExcluded)

/-- The least of a list by a key. -/
def leastBy (key : Nat → Nat) : List Nat → Option Nat
  | [] => none
  | r :: rs => match leastBy key rs with
    | none => some r
    | some q => some (if key r ≤ key q then r else q)

/-- The candidate of R263; `cur` is the current reference. -/
def State.candidate (s : State) (cur : Option Nat) : Option Nat :=
  let el := (List.range 10).filter s.eligible
  let prio r := s.fld (refFld PLB_REF_CFG_PRIO r) * 16 + r
  let native r := (s.fld (refFld PLB_REF_STAT_Q r) * 256 + s.fld (refFld PLB_REF_STAT_ACC r)) * 256 + prio r
  match s.fld PLB_CTRL_SEL_MODE with
  | 1 => leastBy prio el
  | 2 => match cur with
    | some r => if s.eligible r then some r else leastBy prio el
    | none => leastBy prio el
  | _ => leastBy native el

/-- SEL_REF as an option. -/
def State.selected (s : State) : Option Nat :=
  let r := s.fld PLB_SYN_STAT_SEL_REF
  if r ≤ 9 then some r else none

/-- The phase step Δ to reference `r` (R265), in ns, where its next edge, frame start, tick or instant of station time that P
divides comes `dist` ns after the tick: PHASE_OFS after that, taken to the nearest alignment. The rounding to ns and of the
tie is log entry 65. -/
def State.alignStep (s : State) (r : Nat) (dist : Int) : Int :=
  if phaseRef r then
    let p : Int := if s.plb.fast then 31250 else 62500
    let x := 3 * (dist + (BitVec.ofNat 16 (s.fld (refFld PLB_REF_OFS_PHASE_OFS r))).toInt) % p
    roundDiv (if 2 * x ≤ p then x else x - p) 3
  else 0

/-- The selected reference becomes `new`; `dist` says where its edge lies from the tick, in ns (R265). -/
def State.select (s : State) (new : Option Nat) (dist : Int) : State :=
  let cur := s.selected
  let s : State := match cur with
    | some r => if cur ≠ new ∧ s.refState r = 5 then s.setFld (refFld PLB_REF_STAT_STATE r) 4 else s
    | none => s
  let s : State := match new with
    | some r => if s.refState r = 4 then s.setFld (refFld PLB_REF_STAT_STATE r) 5 else s
    | none => s
  let s := if cur = new then s
    else
      let s := s.setFld PLB_SYN_STAT_SEL_REF (new.getD 15)
      let d := match new with | some r => s.alignStep r dist | none => 0
      let s := s.wrN PLB_LAST_SWITCH (cur.getD 15 * 2 ^ 28 + new.getD 15 * 2 ^ 24 + (BitVec.ofInt 24 d).toNat)
      ((s.bump (whole PLB_SWITCH_CNT)).evt 0x30 0).refreshSource
  let follow : Bool := match new with | some r => s.refGood r | none => false
  let st := s.synState
  if st = 4 then s
  else if follow then (if cur ≠ new ∨ st = 0 ∨ st = 3 then s.setSyn 1 else s)
  else if st = 0 ∧ new.isNone then s
  else s.enterHoldover

/-- LOCK (R266): within its error for 1 s. -/
def execLock (s : State) : Res :=
  .next (if s.synState = 1 then
    let s := (s.setSyn 2).evt 0x30 2
    if s.fld BLY_JOIN_STAT_PHASE = 1 ∧ s.bly.joining ∧ s.lockedOnPeer then s.joinRequest else s
  else s)

/-- CONTROL_AVERAGE (R267): a 1-second average while LOCKED. -/
def execControlAverage (avg : Int) (s : State) : Res :=
  .next (if s.synState = 2 then s.onPlb fun p => { p with history := (limitCv avg :: p.history).take 255 } else s)

/-- The engine enters ACTIVE or STANDBY from another mode: the history is cleared (R267). -/
def State.clearHistory (s : State) : State := s.onPlb fun p => { p with history := [] }

/-! ### Writes (R269, R270) -/

/-- The write of PLB_LOOP_CTRL (R269). -/
def State.writeLoopCtrl (s : State) (v : Reg32) : State :=
  let was := s.fld PLB_LOOP_CTRL_LOOP_OPEN
  let s := s.wr PLB_LOOP_CTRL v
  let now := s.fld PLB_LOOP_CTRL_LOOP_OPEN
  if was = 0 ∧ now = 1 then
    let (cv, s) := s.control
    let s := s.setSyn 4
    (s.wr PLB_SYN_FREQ (BitVec.ofInt 32 cv)).onPlb fun p => { p with cv := cv }
  else if was = 1 ∧ now = 0 then
    let s := s.wrN PLB_SYN_FREQ 0
    match s.selected with
    | some r => if s.refGood r then s.setSyn 1 else
        ((s.setSyn 3).onPlb fun p => { p with holdCycles := 0 }).refreshHold.evt 0x30 1
    | none => ((s.setSyn 3).onPlb fun p => { p with holdCycles := 0 }).refreshHold.evt 0x30 1
  else s

/-- The write of PLB_SYN_FREQ (R269): ignored while the loop is closed. -/
def State.writeSynFreq (s : State) (v : Reg32) : State :=
  if s.fld PLB_LOOP_CTRL_LOOP_OPEN = 0 then s
  else
    let cv := limitCv v.toInt
    (s.wr PLB_SYN_FREQ (BitVec.ofInt 32 cv)).onPlb fun p => { p with cv := cv }

/-- The write of PLB_CTRL by master `m` (R270): a change of RATE is refused outside CONFIG and SERVICE (R478), the other
fields take effect. -/
def State.writePlbCtrl (s : State) (m : Nat) (v : Reg32) : State :=
  let old := s.rd PLB_CTRL
  if v.getLsbD 0 ≠ old.getLsbD 0 ∧ ¬ s.cfgMode then
    (s.wr PLB_CTRL (putBits v 0 0 (old.toNat % 2))).refusedField m PLB_CTRL
  else s.wr PLB_CTRL v

/-- A unit whose work forbids a change of RATE is not off (12, Undefined cases): port sides and AES3 transmitters, AES67
streams. -/
def State.rateBusy (s : State) : Bool :=
  ((List.range 96).any fun d => hasState d && s.sideState d != 0) || s.net.rx != [] || s.net.tx != []

end Sys2Proof.Machine
end

