-- ==== Sys2Proof/Machine/PlumbTime.lean ====
section
/-! DEFINITION. Station time, compare units and capture units (12_plumb_clock_and_time.md R271 to R277). Commands that
name an instant carry the number of 4 ns time-clock cycles since the last one that did (log entry 25). -/

namespace Sys2Proof.Machine

open Sys2Proof

/-- Time of day wraps at 64 bits (R271). -/
def timeWrap (t : Nat) : Nat := t % 2 ^ 64

/-- RATE_CORR, in 0.01 ppm. With no source it follows the control value (R271). -/
def State.rateCorr (s : State) : State :=
  if s.fld PLB_TIME_STAT_SRC = 0 then
    let (cv, s) := s.control
    s.setFld PLB_TIME_STAT_RATE_CORR (BitVec.ofInt 16 (max (-32768) (min 32767 (roundEven 36 (cv * 10 ^ 8))))).toNat
  else s

/-- 1 + RATE_CORR in units of 10⁻⁸ · 2⁻³⁶ (R271): with no source the control value itself, so that station time keeps step
with the tick; else the register's 0.01 ppm. -/
def State.timeRate (s : State) : Int :=
  if s.fld PLB_TIME_STAT_SRC = 0 then 10 ^ 8 * (2 ^ 36 + s.control.1)
  else (10 ^ 8 + (BitVec.ofNat 16 (s.fld PLB_TIME_STAT_RATE_CORR)).toInt) * 2 ^ 36

/-- Station time advances by `n` time-clock cycles of 4 ns, scaled by 1 + RATE_CORR (R271); `timeFrac` counts parts of
10¹⁷ · 2³⁶ of its least bit. -/
def State.advance (s : State) (n : Nat) : State :=
  if n = 0 then s
  else
    let s := s.rateCorr
    let u := s.timeFrac + n * (17179869184 * s.timeRate).toNat
    let d := 10 ^ 17 * 2 ^ 36
    let s := { s with time := timeWrap (s.time + u / d), timeFrac := u % d }
    let s := s.onPlb fun p => { p with cvNow := false }
    if s.synState = 3 then (s.onPlb fun p => { p with holdCycles := p.holdCycles + n }).refreshHold else s

/-- OUT_OF_SPEC (R268): the prediction has reached HOLD_SPEC. -/
def execOutOfSpec (cycles : Nat) (s : State) : Res :=
  let s := s.advance cycles
  .next (if s.synState = 3 ∧ s.fld PLB_SYN_STAT_OUT_OF_SPEC = 0 ∧ s.specLeft = 0 then
    (s.setFld PLB_SYN_STAT_OUT_OF_SPEC 1).evt 0x30 3
  else s)

/-- A time in ns as units of 2⁻³² s, rounded under R52 (R271). -/
def nsToTime (x : Int) : Int :=
  let n := x * 2 ^ 32
  let q := n / 10 ^ 9
  let r := n % 10 ^ 9
  if 2 * r > 10 ^ 9 ∨ (2 * r = 10 ^ 9 ∧ q % 2 = 1) then q + 1 else q

/-- Units of 2⁻³² s as ns, rounded to the nearest. -/
def timeToNs (x : Int) : Int := (x * 10 ^ 9 + 2 ^ 31) / 2 ^ 32

/-- Station time steps to `t` (R272); an active engine forwards the step, as the amount by which it moves. -/
def State.stepTime (s : State) (t : Nat) : State :=
  let s := s.tell 3 256 s.idx (beBytes 8 (timeWrap (2 ^ 64 + timeWrap t - s.time)))
  let s := { s with time := timeWrap t, timeFrac := 0 }
  ((s.setFld PLB_TIME_STAT_SET 1).bump (whole PLB_STEP_CNT)).evt 0x32 0

/-- A measured offset of station time from its source, in ns (R272): one step while SET is 0 or a step is armed, else
correction by rate, whose law the manual does not give beyond its limit (free, log entry 2). -/
def State.timeOffset (s : State) (ofs : Int) : State :=
  let s := s.wr PLB_TIME_OFS (BitVec.ofInt 32 (max (-(2 ^ 31)) (min (2 ^ 31 - 1) ofs)))
  if s.fld PLB_TIME_STAT_SET = 0 ∨ s.fld PLB_TIME_STAT_ARMED_STEP = 1 then
    (s.setFld PLB_TIME_STAT_ARMED_STEP 0).stepTime (((s.time : Int) - nsToTime ofs) % 2 ^ 64).toNat
  else
    let m := 100 * max 1 (s.fld PLB_TIME_CTRL_RATE_MAX)
    let (v, s) := s.free 16
    let rc : Int := ((v.toNat % (2 * m + 1) : Nat) : Int) - m
    let s := s.setFld PLB_TIME_STAT_RATE_CORR (BitVec.ofInt 16 rc).toNat
    if 1000 * max 1 (s.fld PLB_TIME_CTRL_STEP_THR) < ofs.natAbs ∧ s.fld PLB_TIME_STAT_STEP_ALARM = 0 then
      (s.setFld PLB_TIME_STAT_STEP_ALARM 1).evt 0x32 1
    else s

/-- The write of PLB_TIME_CTRL by master `m` (R272): a refused HOST_SET leaves the rest of the write in effect. -/
def State.writeTimeCtrl (s : State) (m : Nat) (v : Reg32) : State :=
  let s := (s.wr PLB_TIME_CTRL (putBits v 31 30 0)).refreshSource
  let s := if v.getLsbD 31 then
      (s.setFld PLB_TIME_STAT_STEP_ALARM 0).setFld PLB_TIME_STAT_ARMED_STEP 1
    else s
  if v.getLsbD 30 then
    if s.cfgMode ∧ s.fld PLB_TIME_STAT_SRC = 0 then s.stepTime (s.rdPair PLB_TIME_SET_LO PLB_TIME_SET_HI)
    else s.refusedField m PLB_TIME_CTRL
  else s

/-- The tick in progress is latched (R273); the registers a read holds keep their values. -/
def State.latchTick (s : State) : State :=
  let s := s.onPlb fun p => { p with tickTime := s.time, prevTime := p.tickTime }
  let s := s.wrN PLB_TICK_IDX_LO (s.idx % 2 ^ 32)
  if s.plb.tickHeld then s
  else ((s.wrN PLB_TICK_IDX_HI (s.idx / 2 ^ 32)).wrN PLB_TICK_TIME_LO (s.time % 2 ^ 32)).wrN PLB_TICK_TIME_HI (s.time / 2 ^ 32)

/-- A read of PLB_TICK_IDX_LO freezes the other three (R273). -/
def State.readTick (s : State) : Reg32 × State :=
  let s := s.onPlb fun p => { p with tickHeld := true }
  let t := s.plb.tickTime
  (BitVec.ofNat 32 s.idx,
    ((s.wrN PLB_TICK_IDX_HI (s.idx / 2 ^ 32)).wrN PLB_TICK_TIME_LO (t % 2 ^ 32)).wrN PLB_TICK_TIME_HI (t / 2 ^ 32))

/-- A read of PLB_TIME_LO freezes PLB_TIME_HI (R273). -/
def State.readTime (s : State) : Reg32 × State :=
  (BitVec.ofNat 32 s.time, (s.onPlb fun p => { p with timeHeld := true }).wrN PLB_TIME_HI (s.time / 2 ^ 32))

/-! ### Compare units (R274 to R276) -/

/-- A field of compare or capture unit `k`. -/
def unitFld (f : Fld) (k : Nat) : Fld := f.sh (0x10 * k)

/-- S − T as a signed 48-bit number (R274). -/
def cmpDiff (now tgt : Nat) : Int := (BitVec.ofNat 48 (2 ^ 48 + now % 2 ^ 48 - tgt % 2 ^ 48)).toInt

/-- The time unit `k` compares (R274): station time, or that of the tick for a quantised unit. -/
def State.cmpTime (s : State) (k : Nat) : Nat :=
  if s.fld (unitFld PLB_CMP_CTRL_QUANT k) = 1 then s.plb.tickTime else s.time

/-- The target of unit `k`. -/
def State.target (s : State) (k : Nat) : Nat := mget 0 s.plb.target k

def State.setTarget (s : State) (k t : Nat) : State := s.onPlb fun p => { p with target := mset 0 p.target k t }

def State.cmpArmed (s : State) (k : Nat) : Bool := s.fld (unitFld PLB_CMP_CTRL_ARM k) == 1

/-- The write of PLB_CMP_CTRL[k] (R274, R275): ARM copies the pending target, STOP disarms. -/
def State.writeCmpCtrl (s : State) (k : Nat) (v : Reg32) : State :=
  let a := PLB_CMP_CTRL + 0x10 * k
  let old := s.rd a
  let s := s.wr a (putBits (putBits v 31 30 0) 27 27 (bitsNat old.toNat 27 27))
  let s := s.setFld (unitFld PLB_CMP_CTRL_ARM k) (bitsNat old.toNat 31 31)
  let s := if v.getLsbD 31 then
      let t := (s.rdPair (PLB_CMP_TGT_LO + 0x10 * k) (PLB_CMP_TGT_HI + 0x10 * k)) % 2 ^ 48
      let s := (s.setTarget k t).setFld (unitFld PLB_CMP_CTRL_ARM k) 1
      if 0 ≤ cmpDiff (s.cmpTime k) t then (s.setFld (unitFld PLB_CMP_CTRL_LATE k) 1).evt 0x33 1
      else s.setFld (unitFld PLB_CMP_CTRL_LATE k) 0
    else s
  if v.getLsbD 30 then s.setFld (unitFld PLB_CMP_CTRL_ARM k) 0 else s

/-- The first target after `now` in steps of `p` from `t`, `p` above 0 (R275). -/
def nextTarget (now t p : Nat) : Nat :=
  let d := cmpDiff now t
  if d < 0 then t % 2 ^ 48 else (t + (d.toNat / p + 1) * p) % 2 ^ 48

/-- Unit `k` disarms, or moves its target on by PERIOD (R275). -/
def State.rearm (s : State) (k : Nat) : State :=
  let p := (s.rd (PLB_CMP_PERIOD + 0x10 * k)).toNat
  if s.fld (unitFld PLB_CMP_CTRL_PERIODIC k) = 0 ∨ p = 0 then s.setFld (unitFld PLB_CMP_CTRL_ARM k) 0
  else
    let t := (s.target k + p) % 2 ^ 48
    if 0 ≤ cmpDiff (s.cmpTime k) t then
      ((s.setTarget k (nextTarget (s.cmpTime k) t p)).setFld (unitFld PLB_CMP_CTRL_LATE k) 1).evt 0x33 1
    else s.setTarget k t

/-- The pulse of a firing unit (R276). -/
def State.pulse (s : State) (k : Nat) : State :=
  let p := s.fld (unitFld PLB_CMP_CTRL_PIN k)
  if 1 ≤ p ∧ p ≤ 4 ∧ s.sends then
    let n := mget 0 s.plb.pulses (p - 1)
    let s := s.onPlb fun q => { q with pulses := mset 0 q.pulses (p - 1) (n + 1) }
    if n = 0 then s.emit (.pin (p - 1) true) else s
  else s

/-- PULSE_END (R276): the pin goes low when no pulse runs on it. -/
def execPulseEnd (pin : Fin 8) (s : State) : Res :=
  let n := mget 0 s.plb.pulses pin
  .next (if n = 0 then s
    else
      let s := s.onPlb fun q => { q with pulses := mset 0 q.pulses pin (n - 1) }
      if n = 1 then s.emit (.pin pin false) else s)

/-- Outside ACTIVE the TIME_OUT pins are low (R276). -/
def State.dropPulses (s : State) : State :=
  let ps := s.plb.pulses
  ps.foldl (fun s p => s.emit (.pin p.1 false)) (s.onPlb fun q => { q with pulses := [] })

/-! ### Capture units (R277) -/

/-- Capture unit `k` latches station time and the index of the tick in progress. -/
def State.capture (s : State) (k : Nat) : State :=
  let valid := s.fld (unitFld PLB_CAP_CTRL_VALID k) == 1
  if s.fld (unitFld PLB_CAP_CTRL_EN k) = 0 ∨ (valid ∧ s.fld (unitFld PLB_CAP_CTRL_ONESHOT k) = 1) then s
  else
    let o := 0x10 * k
    let s := ((s.wrN (PLB_CAP_TIME_LO + o) (s.time % 2 ^ 32)).wrN (PLB_CAP_TIME_HI + o) (s.time / 2 ^ 32)).wrN
      (PLB_CAP_IDX + o) (s.idx % 2 ^ 32)
    let s := if valid then (s.setFld (unitFld PLB_CAP_CTRL_OVERRUN k) 1).evt 0x34 1 else s
    (s.setFld (unitFld PLB_CAP_CTRL_VALID k) 1).evt 0x34 0

/-- The source of capture unit `k` is `src`, with `sel` where the source has a SEL. -/
def State.capFrom (s : State) (k src : Nat) (sel : Option Nat) : Bool :=
  s.fld (unitFld PLB_CAP_CTRL_SRC k) == src &&
    match sel with
    | some x => s.fld (unitFld PLB_CAP_CTRL_SEL k) == x
    | none => true

/-- An event of source `src`, from `sel` of it: every unit of that source captures. -/
def State.captureOn (s : State) (src : Nat) (sel : Option Nat) : State :=
  (List.range 16).foldl (fun s k => if s.capFrom k src sel then s.capture k else s) s

/-- CAPTURED (R277): an edge on the pin that is the source of unit `k`. The other sources are events of the engine itself, and
each captures where it happens. -/
def execCaptured (k : Fin 16) (rising : Bool) (cycles : Nat) (s : State) : Res :=
  let s := s.advance cycles
  let e := s.fld (unitFld PLB_CAP_CTRL_EDGE k)
  let edge := decide (2 ≤ e) || rising == decide (e = 0)
  .next (if (edge ∧ (s.capFrom k 1 none ∨ s.capFrom k 2 none)) ∨ (rising ∧ s.capFrom k 3 none) then s.capture k else s)

end Sys2Proof.Machine
end

