-- ==== Sys2Proof/Machine/Aes.lean ====
section
/-! DEFINITION. AES3 receivers and transmitters (11_audio_ports.md R252 to R255, R258, R259). A subframe is 32 bits, time
slot k in bit k; the preamble, which is no biphase-mark code, stands in slots 0 to 3 as 0 for X, 1 for Y, 2 for Z, and
any other value for a preamble or coding failure (log entry 24). -/

namespace Sys2Proof.Machine

open Sys2Proof

def AesRx.init : AesRx := ⟨0, 0, none, none⟩

/-- Receiver `i`. -/
def State.aesRx (s : State) (i : Nat) : AesRx := mget .init s.prt.rx i

def State.onAesRx (s : State) (i : Nat) (f : AesRx → AesRx) : State :=
  s.onPrt fun p => { p with rx := mmod .init p.rx i f }

def AesTx.init : AesTx := ⟨0, 0, 0, 0, 0, (0, false), (0, false)⟩

/-- Transmitter `i`. -/
def State.aesTx (s : State) (i : Nat) : AesTx := mget .init s.prt.tx i

def State.onAesTx (s : State) (i : Nat) (f : AesTx → AesTx) : State :=
  s.onPrt fun p => { p with tx := mmod .init p.tx i f }

/-- A field of time slots `[hi:lo]` of a subframe. -/
def sub (b : BitVec 32) (hi lo : Nat) : Nat := bitsNat b.toNat hi lo

/-- The preamble of a subframe. -/
def preamble (b : BitVec 32) : Nat := sub b 3 0

/-- The number of ones of a natural number below 2³². -/
def ones (n : Nat) : Nat := ((List.range 32).filter n.testBit).length

/-- Slots 4 to 31 hold an even number of ones (R252). -/
def parityOk (b : BitVec 32) : Bool := ones (sub b 31 4) % 2 == 0

/-- AES_CTRL as the frame that receiver `i` takes next follows it (R250). -/
def State.aesRxCtrl (s : State) (i : Nat) : Reg32 := (s.aesRx i).old.getD (s.rd (AES_CTRL + 0x1000 * i))

/-- The audio code of a subframe (R252): 24 bits; with AUX20 the low 4 bits are 0. -/
def aesAudio (aux20 : Bool) (b : BitVec 32) : Reg32 := BitVec.ofNat 32 (if aux20 then sub b 27 8 * 16 else sub b 27 4)

/-- Event bits of the AES page of transceiver `i`. -/
def State.aesEvt (s : State) (i b : Nat) : State := s.evt (0xA0 + i) b

/-- A block is discarded (R254). -/
def State.dropBlock (s : State) (i : Nat) : State :=
  if (s.aesRx i).blk.isSome then
    ((s.onAesRx i fun r => { r with blk := none }).bump (aesFld ⟨AES_BLOCK_ERR, 15, 0⟩ i)).aesEvt i 5
  else s

/-- Receiver `i` loses lock (R253); a reference taken from it loses its signal (12 R261). -/
def State.aesUnlock (s : State) (i : Nat) : State :=
  let s := s.onAesRx i fun r => { r with good := 0, bad := 0 }
  if s.fld (aesFld AES_STAT_LOCK i) = 0 then s
  else
    let s := (s.setFld (aesFld AES_STAT_LOCK i) 0).dropBlock i
    let s := (s.onSide (64 + 2 * i) fun x => { x with buf := [], waiting := true }).aesEvt i 0
    [4, 5].foldl (fun s r => if s.fld (refFld PLB_REF_CFG_SRC r) = i ∧ s.refState r ≠ 1 then s.refLoss r else s) s

/-- Write 24 bytes to an array of six registers from offset `a`. -/
def State.putBlock (s : State) (a bits : Nat) : State :=
  (List.range 6).foldl (fun s k => s.wrN (a + 4 * k) (bitsNat bits (32 * k + 31) (32 * k))) s

/-- Read six registers from offset `a` as 192 bits. -/
def State.getBlock (s : State) (a : Nat) : Nat :=
  ((List.range 6).map fun k => (s.rd (a + 4 * k)).toNat * 2 ^ (32 * k)).sum

/-- The CRCC of bytes 0 to 22 of a channel status block, bits in transmission order (R254). -/
def crcc (bits : Nat) : Nat := crcRefl 0xB8 0xFF (leBytes 23 bits)

/-- CRCC_OK of a channel status block (R254). -/
def crccOk (bits : Nat) : Bool := !bits.testBit 0 || bitsNat bits 191 184 == crcc bits

/-- A block is captured (R254). -/
def State.captureBlock (s : State) (i : Nat) (b : AesBlock) : State :=
  let o := 0x1000 * i
  let s := (((s.putBlock (AES_RX_CS_A + o) b.cA).putBlock (AES_RX_CS_B + o) b.cB).putBlock (AES_RX_US_A + o) b.uA).putBlock
    (AES_RX_US_B + o) b.uB
  let s := (s.wr (AES_RX_BLOCKS + o) (s.rd (AES_RX_BLOCKS + o) + 1)).aesEvt i 1
  let s := (s.setFld (aesFld AES_STAT_CRCC_OK_A i) (crccOk b.cA).toNat).setFld (aesFld AES_STAT_CRCC_OK_B i)
    (crccOk b.cB).toNat
  if crccOk b.cA ∧ crccOk b.cB then s else s.aesEvt i 2

/-- The block bits of a frame in lock: a Z preamble ends the block in progress and begins another (R254). -/
def State.blockFrame (s : State) (i : Nat) (a b : BitVec 32) : State :=
  let z := preamble a == 2
  let s := if z then
    match (s.aesRx i).blk with
    | some k => if k.n = 192 then s.captureBlock i k else s.dropBlock i
    | none => s
  else s
  let bit (v : BitVec 32) (sl n : Nat) : Nat := if n < 192 ∧ v.getLsbD sl then 2 ^ n else 0
  s.onAesRx i fun r =>
    let blk := if z then some ⟨0, 0, 0, 0, 0⟩ else r.blk
    { r with blk := blk.map fun k =>
        ⟨k.n + 1, k.cA + bit a 30 k.n, k.cB + bit b 30 k.n, k.uA + bit a 29 k.n, k.uB + bit b 29 k.n⟩ }

/-- AES_FRAME_RECEIVE (R252 to R254): receiver `i` takes a frame; `rate` is its measured frame rate less the engine rate, in
ppm. -/
def execAesFrameReceive (i : Fin 16) (subA subB : BitVec 32) (rate : Int) (cycles : Nat) (s : State) : Res :=
  let d := 64 + 2 * i.val
  let s := s.advance cycles
  if ¬ s.sidePowered d then .next s
  else
    let s := if preamble subA = 2 then s.captureOn 8 (some i) else s
    let s := s.setFld (aesFld AES_STAT_RATE_ERR i) (BitVec.ofInt 16 (max (-32768) (min 32767 rate))).toNat
    let inRate := decide (-2000 ≤ rate) && decide (rate ≤ 2000)
    let okA := preamble subA == 0 || preamble subA == 2
    let okB := preamble subB == 1
    let good := okA && okB
    let was := s.fld (aesFld AES_STAT_LOCK i) == 1
    let s := s.onAesRx i fun r => { r with good := if good then min 8 (r.good + 1) else 0, bad := if good then 0 else r.bad + 1 }
    let r := s.aesRx i
    let s := if was ∧ (3 ≤ r.bad ∨ ¬ inRate) then s.aesUnlock i
      else if ¬ was ∧ 8 ≤ r.good ∧ inRate then
        ((s.setFld (aesFld AES_STAT_LOCK i) 1).onSide d fun x => { x with buf := [], waiting := true }).aesEvt i 0
      else s
    let (inj, s) := s.takeInj (0xA0 + i) 3
    let badA := !okA || !parityOk subA || inj
    let badB := !okB || !parityOk subB
    let coding := (if okA then 0 else 1) + if okB then 0 else 1
    let parity := (if okA ∧ badA then 1 else 0) + if okB ∧ badB then 1 else 0
    let s := if 0 < coding then (s.bump (aesFld ⟨AES_RX_ERR, 31, 16⟩ i) coding).aesEvt i 3 else s
    let s := if 0 < parity then (s.bump (aesFld ⟨AES_RX_ERR, 15, 0⟩ i) parity).aesEvt i 3 else s
    let s := (s.setFld (aesFld AES_STAT_V_A i) (sub subA 28 28)).setFld (aesFld AES_STAT_V_B i) (sub subB 28 28)
    if s.fld (aesFld AES_STAT_LOCK i) = 0 then .next s
    else
      let s := s.blockFrame i subA subB
      let ctrl := s.aesRxCtrl i
      let s := s.onAesRx i fun r => { r with old := none }
      let va := ctrl.getLsbD 28
      let aux := ctrl.getLsbD 29
      let f : SMap Reg32 := if badA ∨ (va ∧ sub subA 28 28 = 1) then [] else [(0, aesAudio aux subA)]
      let f := if badB ∨ (va ∧ sub subB 28 28 = 1) then f else mins f 1 (aesAudio aux subB)
      .next (if s.fld (aesFld AES_CTRL_RX_EN i) = 1 then s.pushFrame d f else s)

/-- AES3 receiver `i` at the tick of the index in progress (R244, R253). -/
def State.aesTick (s : State) (i : Nat) : State :=
  let d := 64 + 2 * i
  if s.fld (aesFld AES_STAT_LOCK i) = 0 ∨ s.fld (aesFld AES_CTRL_RX_EN i) = 0 ∨ ¬ s.sidePowered d then s
  else
    let (inj, s) := s.takeInj (0xA0 + i) 4
    let s := if inj then s.onSide d fun x => { x with slipInj := true } else s
    let (f, s) := s.popFrame d
    match f with
    | none => s
    | some f => f.foldl (fun s e => s.deliver (512 + 2 * i + e.1) (some (inCode 24 e.2.toNat)) s.idx s.trs.now) s

/-! ### Transmitters (R255) -/

/-- Transmitter of sink `k` (512 to 543) takes its sample of index `n`. -/
def State.aesTake (s : State) (k n : Nat) : State :=
  let i := (k - 512) / 2
  if s.sideState (65 + 2 * i) ≠ 3 ∨ ¬ s.sidePowered (65 + 2 * i) then s
  else
    let late := s.takeLate k n
    let (w, s) := s.takeSink k n
    if s.bly.hold then s else s.onAesTx i fun x => if k % 2 = 0 then { x with a := (w, late) } else { x with b := (w, late) }

/-- The audio field (slots 4 to 27) of a subframe and whether it saturated (R252). -/
def State.aesCode (s : State) (i : Nat) (w : Word) : Nat × Bool :=
  if s.fld (aesFld AES_CTRL_AUX20 i) = 1 then
    let (c, clip) := outCode 20 w
    ((BitVec.ofInt 20 c).toNat * 16, clip)
  else
    let (c, clip) := outCode 24 w
    ((BitVec.ofInt 24 c).toNat, clip)

/-- A subframe with its parity (R252). -/
def subframe (pre audio v u c : Nat) : Nat :=
  let x := audio + v * 2 ^ 24 + u * 2 ^ 25 + c * 2 ^ 26
  pre + 16 * (x + (ones x % 2) * 2 ^ 27)

/-- At a block start, the arrays whose load is due are loaded (R255); unit 1 of a commit may wait for it (R250). -/
def State.blockStart (s : State) (i : Nat) : State :=
  let o := 0x1000 * i
  let s := if s.fld (aesFld AES_TX_UPD_CS_LOAD i) = 1 then
      (s.onAesTx i fun x => { x with csA := s.getBlock (AES_TX_CS_A + o), csB := s.getBlock (AES_TX_CS_B + o) }).setFld
        (aesFld AES_TX_UPD_CS_LOAD i) 0
    else s
  let s := if s.fld (aesFld AES_TX_UPD_US_LOAD i) = 1 then
      (s.onAesTx i fun x => { x with usA := s.getBlock (AES_TX_US_A + o), usB := s.getBlock (AES_TX_US_B + o) }).setFld
        (aesFld AES_TX_UPD_US_LOAD i) 0
    else s
  if s.prt.jLoads.contains i then
    (if s.prt.jLoads = [i] ∧ s.prt.jSides = [] then s.unitDone 1 fun _ => true else s).onPrt fun p =>
      { p with jLoads := p.jLoads.filter fun j => j != i }
  else s

/-- AES_TX_FRAME (R255): transmitter `i` sends the frame of the samples taken last. -/
def execAesTxFrame (i : Fin 16) (s : State) : Res :=
  if ¬ s.sidePowered (65 + 2 * i) ∨ s.sideState (65 + 2 * i) < 2 then .next s
  else
    let s := s.frameStart (65 + 2 * i)
    let st := s.sideState (65 + 2 * i)
    let s := if (s.aesTx i).pos = 0 then s.blockStart i else s
    let x := s.aesTx i
    let run := st == 3
    let (ca, clipA) := if run then s.aesCode i x.a.1 else (0, false)
    let (cb, clipB) := if run then s.aesCode i x.b.1 else (0, false)
    let s := if clipA then (s.bump (aesFld ⟨AES_CLIP, 15, 0⟩ i)).aesEvt i 6 else s
    let s := if clipB then (s.bump (aesFld ⟨AES_CLIP, 31, 16⟩ i)).aesEvt i 6 else s
    let force := !run || s.fld (aesFld AES_CTRL_TX_V_FORCE i) == 1 || s.bly.hold
    let cs (b : Nat) : Nat :=
      if s.fld (aesFld AES_CTRL_TX_CRCC i) = 1 then bitsNat b 183 0 + crcc b * 2 ^ 184 else b
    let n := x.pos
    let bit (b : Nat) : Nat := (b.testBit n).toNat
    let fa := subframe (if n = 0 then 2 else 0) ca (force || x.a.2).toNat (bit x.usA) (bit (cs x.csA))
    let fb := subframe 1 cb (force || x.b.2).toNat (bit x.usB) (bit (cs x.csB))
    let s := s.onAesTx i fun x => { x with pos := (x.pos + 1) % 192 }
    .next (if s.drives then (s.emit (.aes i 0 fa)).emit (.aes i 1 fb) else s)

/-- The write of AES_TX_UPD (R255). -/
def State.writeTxUpd (s : State) (i : Nat) (v : Reg32) : State :=
  let s := if v.toNat.testBit 0 then s.setFld (aesFld AES_TX_UPD_CS_LOAD i) 1 else s
  if v.toNat.testBit 1 then s.setFld (aesFld AES_TX_UPD_US_LOAD i) 1 else s

end Sys2Proof.Machine
end

