-- ==== Sys2Proof/Machine/Banks.lean ====
section
/-! DEFINITION. The commands of the memory banks (10_memory_banks.md): power states, the transparent test, repair and
replacement, and write-back. -/

namespace Sys2Proof.Machine

open Sys2Proof

/-! ### The order of the test (R226) -/

/-- Spare `i` is unused: neither in use nor copying, nor itself replaced. -/
def State.spareFree (s : State) (i : Nat) : Bool :=
  !s.bnk.failed.contains i &&
  s.fld (spareFld MEM_SPARE_MAP_IN_USE i) == 0 && s.fld (spareFld MEM_SPARE_MAP_COPYING i) == 0

/-- Physical bank `p` is divided into regions (R226): it answers for a visible bank or is an unused spare. -/
def State.tested (s : State) (p : Nat) : Bool := (s.visibleOf p).isSome || (decide (128 ≤ p) && s.spareFree (p - 128))

/-- A sweep ends (R226): MEM_TEST_SWEEPS counts it, and the service is in time (18 R423). -/
def State.endSweep (s : State) : State := (s.wr MEM_TEST_SWEEPS (s.rd MEM_TEST_SWEEPS + 1)).onTime 2

/-- The test goes on with the first region of the next bank after physical bank `p`; physical bank 135 ends a sweep. -/
def State.nextBank (s : State) (p : Nat) : State :=
  let q := ((List.range 136).map fun i => (p + 1 + i) % 136).find? s.tested
  let s := { s with bnk := { s.bnk with pos := (q.getD 0, 0) } }
  if q.getD 0 ≤ p then s.endSweep else s

/-- The test of region `r` of physical bank `p`, made or skipped, is over. -/
def State.nextRegion (s : State) (p r : Nat) : State :=
  if r < 1023 then { s with bnk := { s.bnk with pos := (p, r + 1) } } else s.nextBank p

/-! ### Power states (R225) -/

/-- One field of a write of MEM_BANK_STATE: whether it was refused, and the state. -/
def State.requestBank (s : State) (b v : Nat) : Bool × State :=
  let old := s.fld (bankField b)
  if v = 3 ∨ v = old then (false, s)
  else if ¬ s.cfgMode then (true, s)
  else
    let s := (s.setFld (bankField b) v).setFld (bankBusy b) 1
    let s := if v = 0 ∨ old = 0 then s.clearMem (bankAddr b 0) (bankAddr (b + 1) 0) else s
    let s := if v = 0 ∨ old = 0 then
      { s with flips := mkeep (fun a => decide (a < bankAddr b 0) || decide (bankAddr (b + 1) 0 ≤ a)) s.flips } else s
    (false, match s.bnk.test with
      | some (p, r) => if p = s.physOf b then ({ s with bnk := { s.bnk with test := none } }).nextRegion p r else s
      | none => s)

/-- The write of MEM_BANK_STATE[i] (R225, R235): refused fields keep their state and are logged once (R478). -/
def State.writeBankState (s : State) (m i : Nat) (v : Reg32) : State :=
  let r := (List.range 16).foldl (fun (p : Bool × State) j =>
    let (refused, s) := p.2.requestBank (16 * i + j) (bitsNat v.toNat (2 * j + 1) (2 * j))
    (p.1 || refused, s)) (false, s)
  if r.1 then r.2.refusedField m (MEM_BANK_STATE + 4 * i) else r.2

/-- STATE_DONE (R225): the change of visible bank `bank` is complete. -/
def execStateDone (bank : Fin 128) (s : State) : Res :=
  .next (if s.fld (bankBusy bank) = 1 then (s.setFld (bankBusy bank) 0).evt 0x61 0 else s)

/-! ### Repair (R227, R228) -/

/-- MEM_COL of physical bank `p`. -/
def State.colReg (s : State) (p : Nat) : Nat := (s.rd (MEM_COL + 4 * p)).toNat

/-- Bit position `bit` of physical bank `p` is replaced by a column, in use or pending. -/
def State.colCovers (s : State) (p bit : Nat) : Bool :=
  let v := s.colReg p
  (v.testBit 31 && bitsNat v 22 16 == bit) || (v.testBit 15 && bitsNat v 6 0 == bit)

/-- MEM_STAT.SPARES_LEFT follows the map. -/
def State.refreshSpares (s : State) : State :=
  s.setFld MEM_STAT_SPARES_LEFT ((List.range 8).filter s.spareFree).length

/-- Physical bank `p` lies in the north half (R220). -/
def northHalf (p : Nat) : Bool := decide (p < 64) || (decide (128 ≤ p) && decide (p < 132))

/-- The spare that replaces physical bank `p` (R228): the lowest free one of its half, else of the other. -/
def State.pickSpare (s : State) (p : Nat) : Option Nat :=
  let free := (List.range 8).filter fun i => s.spareFree i && 128 + i != p
  (free.find? fun i => northHalf (128 + i) == northHalf p).orElse fun _ => free.head?

/-- A column becomes pending for bit `bit` of physical bank `p`, in column slot `c` (R227). -/
def State.takeColumn (s : State) (p c bit : Nat) (inj : Bool) : State :=
  let lo := if c = 0 then 16 else 0
  let v := s.colReg p
  let v := v - bitsNat v (lo + 6) lo * 2 ^ lo + bit * 2 ^ lo + 2 ^ (lo + 15)
  ((s.wrN (MEM_COL + 4 * p) v).bump MEM_STAT_COL_PEND).sprLog 4 false inj p bit

/-- Visible bank `b` is being copied to a spare. -/
def State.bankCopying (s : State) (b : Nat) : Bool :=
  (List.range 8).any fun i => s.fld (spareFld MEM_SPARE_MAP_COPYING i) == 1 && s.spareBank i == b

/-- The test finds failing bit position `bit` in region `region` of physical bank `p` (R227). An unused spare whose columns
are both taken has no bank to hand over, so nothing is replaced. -/
def State.testFail (s : State) (p region bit : Nat) (inj : Bool) : State :=
  let s := if s.fld MEM_TEST_FAIL_VALID = 1 then s
    else s.wrN MEM_TEST_FAIL (2 ^ 31 + p * 2 ^ 23 + bit * 2 ^ 16 + region)
  let s := s.evt 0x60 3
  if s.colCovers p bit then s
  else if ¬ (s.colReg p).testBit 31 then s.takeColumn p 0 bit inj
  else if ¬ (s.colReg p).testBit 15 then s.takeColumn p 1 bit inj
  else match s.visibleOf p with
    | none => s
    | some b =>
      if s.bankCopying b then s
      else match s.pickSpare p with
        | none => if s.bnk.failing.contains p then s else
          let s := { s with bnk := { s.bnk with failing := p :: s.bnk.failing } }
          (((s.setFld MEM_STAT_FAILING s.bnk.failing.length).evt 0x60 5).sprLog 3 true inj p 0).degrade 3 true
        | some i =>
          let s := if inj then s.markInj (0x60 * 32 + i) else s
          (s.wrN (MEM_SPARE_MAP + 4 * i) (2 ^ 29 + b)).refreshSpares

/-- REPLACEMENT_DONE (R228): the copying spare answers for its bank from here on. -/
def execReplacementDone (s : State) : Res :=
  match (List.range 8).find? fun i => s.fld (spareFld MEM_SPARE_MAP_COPYING i) == 1 with
  | none => .next s
  | some i =>
    let b := s.spareBank i
    let old := s.physOf b
    let s := (List.range 8).foldl (fun s j =>
      if s.fld (spareFld MEM_SPARE_MAP_IN_USE j) = 1 ∧ s.spareBank j = b then
        { s.setFld (spareFld MEM_SPARE_MAP_IN_USE j) 0 with bnk := { s.bnk with failed := j :: s.bnk.failed } } else s) s
    let s := (s.wrN (MEM_SPARE_MAP + 4 * i) (2 ^ 31 + b)).refreshSpares
    let (inj, s) := s.takeMark (0x60 * 32 + i)
    .next ((s.sprLog 3 false inj old (128 + i)).evt 0x60 4)

/-! ### The transparent test (R226) -/

/-- REGION_TEST (R226): the test takes a region of an ON visible bank or an unused spare; a region of a bank that is not ON
is skipped. Accesses reach the held region as before, so no word changes. DESIGN CHOICE (log entry 63): banks and regions come
in rising order. -/
def execRegionTest (phys : Fin 136) (region : Fin 1024) (s : State) : Res :=
  .next (if s.fld MEM_CTRL_TEST_EN = 0 ∨ s.bnk.test.isSome ∨ ¬ s.upMode then s
  else
    let s := if s.tested s.bnk.pos.1 then s else s.nextBank s.bnk.pos.1
    if s.bnk.pos ≠ (phys.val, region.val) then s
    else if (s.visibleOf phys).any fun b => s.bankState b != 2 then (s.bump (whole MEM_TEST_SKIP)).nextRegion phys region
    else { s.wrN MEM_TEST_POS (phys * 2 ^ 24 + region) with bnk := { s.bnk with test := some (phys.val, region.val) } })

/-- REGION_TEST_DONE (R226, R227): the region is written back and takes its place again; `fails` are its failing bit
positions. -/
def execRegionTestDone (fails : List Nat) (s : State) : Res :=
  match s.bnk.test with
  | none => .next s
  | some (p, region) =>
    let s := ({ s with bnk := { s.bnk with test := none } }).nextRegion p region
    let (inj, s) := s.takeInj 0x60 3
    let s := if inj then s.testFail p region 0 true else s
    .next ((fails.filter fun b => decide (b < 80)).foldl (fun s b => s.testFail p region b false) s)

/-- ECC_WRITEBACK (R223): the bank writes the word back as it was corrected, unless the word has been written meanwhile. -/
def execEccWriteback (addr : Nat) (s : State) : Res :=
  .next (match s.bnk.wb.find? fun x => x.addr == addr with
  | none => s
  | some x =>
    let s := { s with bnk := { s.bnk with wb := s.bnk.wb.filter fun y => y.addr != addr } }
    if mget 0 s.flips addr = x.flips then s.setWord addr x.word else s)

end Sys2Proof.Machine
end

