-- ==== Sys2Proof/Machine/CairnRing.lean ====
section
/-! DEFINITION. The command and completion rings of Cairn (07_cairn_scenes.md R144 to R151, R161, R481). -/

namespace Sys2Proof.Machine

open Sys2Proof

/-- Change the Cairn part of the state. -/
def State.onCrn (s : State) (f : Cairn → Cairn) : State := { s with crn := f s.crn }

/-! ### The mailbox (R144) -/

/-- BAR0 address of mailbox word `w`. -/
def mbxAddr (w : Nat) : Nat := 0x3C000000 + 16 * w

/-- Cairn reads mailbox word `w`; a word that cannot be read gives 0. -/
def State.mbxRead (s : State) (w : Nat) : Word × State :=
  let (r, s) := s.checkedRead 2 (mbxAddr w)
  (r.getD 0, s)

/-- Cairn writes mailbox word `w`. -/
def State.mbxWrite (s : State) (w : Nat) (v : Word) : State := s.setWord (mbxAddr w) v

/-- An index word of the mailbox: CMD_PROD, CMD_CONS, CPL_PROD, CPL_CONS, with its errors corrected (R231); what a read of it
counts is in `mbxRead`. -/
def State.mbxIndex (s : State) (w : Nat) : Nat :=
  match (eccRead (mget 0 s.flips (mbxAddr w))).left with
  | some l => (s.word (mbxAddr w) ^^^ l).toNat % 2 ^ 32
  | none => 0

/-! ### Commands (R147) -/

def Cmd.word (c : Cmd) (i : Nat) : Word := c.words.getD i 0
def Cmd.opcode (c : Cmd) : Nat := wbits (c.word 0) 63 56
def Cmd.seq (c : Cmd) : Nat := wbits (c.word 0) 31 0

/-- Bits of word `i` of a command. -/
def Cmd.bits (c : Cmd) (i hi lo : Nat) : Nat := wbits (c.word i) hi lo

/-- A command that the active engine does not forward: EXPORT and EXPORT_ABORT (16 R380). -/
def Cmd.isLocal (c : Cmd) : Bool := c.opcode == 0x40 || c.opcode == 0x41

/-! ### Completions (R148, R149) -/

/-- What a completion says beyond OPCODE and SEQ. -/
structure CplInfo where
  primary : Nat
  journal : Nat := 0
  index : Option Nat := none
  kind : Nat := 0
  unit : Nat := 0
  entry : Nat := 0
  aux : Nat := 0
  deriving DecidableEq, Repr

/-- The four words of a completion written now. -/
def State.cplWords (s : State) (c : Cmd) (i : CplInfo) : List Word :=
  [BitVec.ofNat 72 (i.primary * 2 ^ 56 + c.opcode * 2 ^ 40 + c.seq),
   BitVec.ofNat 72 (i.journal % 65536 * 2 ^ 48 + i.index.getD s.idx),
   BitVec.ofNat 72 (i.kind * 2 ^ 56 + i.unit * 2 ^ 51 + i.entry * 2 ^ 32 + i.aux),
   BitVec.ofNat 72 s.time]

/-- Commands started and not completed (CRN_STAT.OUTSTANDING). -/
def State.outstanding (s : State) : Nat := s.crn.started.length + if s.crn.cur.isSome then 1 else 0

/-- CRN_STAT.OUTSTANDING follows. -/
def State.refreshOutstanding (s : State) : State := s.setFld CRN_STAT_OUTSTANDING s.outstanding

/-- Post a completion in the ring: the entry, then CPL_PROD (R146). -/
def State.postWords (s : State) (ws : List Word) (repost : Bool) : State :=
  let n := s.mbxIndex 2
  let base := 1040 + 4 * (n % 256)
  let s := (List.range 4).foldl (fun s i => s.mbxWrite (base + i) (ws.getD i 0)) s
  let s := s.mbxWrite 2 (BitVec.ofNat 72 ((n + 1) % 2 ^ 32))
  let w0 := ws.getD 0 0
  let prim := wbits w0 63 56
  let s := s.wrN CRN_LAST_SEQ (wbits w0 31 0)
  let s := if repost then (s.bump (whole CRN_DUP_CNT)).evt 0x20 4
    else
      let s := s.bump (whole CRN_CMD_CNT)
      let s := if prim = 0 ∨ prim = 0x60 then s else (s.bump (whole CRN_REFUSED_CNT)).evt 0x20 1
      if prim = 0x7F then s.evt 0x20 5 else s
  s.evt 0x20 0

/-- A completion with SECONDARY 0x01 DUPLICATE (R149). -/
def asDuplicate (ws : List Word) : List Word :=
  match ws with
  | w :: r => (w ||| BitVec.ofNat 72 (2 ^ 48)) :: r
  | [] => []

/-- The window keeps the last 256 completions, but none of ABORTED_BY_FAILOVER or NOT_STANDBY_SAFE (R149). -/
def State.enterWindow (s : State) (seq prim : Nat) (ws : List Word) : State :=
  if prim = 0x7F ∨ prim = 0x70 then s
  else s.onCrn fun c =>
    let w := c.window ++ [⟨seq, ws⟩]
    { c with window := w.drop (w.length - 256) }

/-- A command completes and enters the window. Its completion is posted in the ring of the engine in which it was placed, and
in one in which it was sent again while it ran (R149): there once, and once more with DUPLICATE for each such command. -/
def State.completeCmd (s : State) (c : Cmd) (i : CplInfo) : State :=
  let ws := s.cplWords c i
  let dups := match s.crn.started.find? fun t => t.cmd.seq == c.seq with
    | some t => t.dups
    | none => 0
  let s := s.onCrn fun k => { k with
    started := k.started.filter fun t => t.cmd.seq != c.seq
    cur := if k.cur.any fun d => d.seq == c.seq then none else k.cur }
  let s := if c.own ∨ 0 < dups then
    (List.range dups).foldl (fun s _ => s.postWords (asDuplicate ws) true) (s.postWords ws false) else s
  (s.enterWindow c.seq i.primary ws).refreshOutstanding

/-- The current command goes on while later ones start (R146). -/
def State.detach (s : State) (c : Cmd) : State :=
  (s.onCrn fun k => { k with started := k.started ++ [⟨c, 0⟩], cur := none }).refreshOutstanding

/-- The command of SEQ `n` that has started and not completed. -/
def State.startedCmd (s : State) (p : Cmd → Bool) : Option Cmd :=
  (s.crn.started.find? fun t => p t.cmd).map fun t => t.cmd

/-! ### The tests of R481 -/

/-- Opcodes that some chapter defines. -/
def knownOpcode (o : Nat) : Bool :=
  decide (o ≤ 4) || (decide (0x40 ≤ o) && decide (o ≤ 0x46)) || o == 0x60 || o == 0x61 ||
    (decide (0x70 ≤ o) && decide (o ≤ 0x73))

/-- A command refused in a standby engine's own ring (R151, R302, R362, R396). -/
def standbyRefuses (o : Nat) : Bool :=
  (decide (1 ≤ o) && decide (o ≤ 4)) || (decide (0x42 ≤ o) && decide (o ≤ 0x46)) || o == 0x60 ||
    (decide (0x70 ≤ o) && decide (o ≤ 0x73))

/-- The directory entry of scene `n` (R168). -/
def dirOff (n : Nat) : Nat := n / 128 * 0x1000 + n % 128 * 0x10

/-- Scene `n` is stored. -/
def State.stored (s : State) (n : Nat) : Bool := s.fld (DIR_LOC_VALID.sh (dirOff n)) == 1

/-- A block of the banks that a command names: RECORDS, SRC and LENGTH are in range (R147). -/
def blockBad (records src len : Nat) : Bool :=
  decide (65536 < records) || decide (1048576 < len) || decide (len < records) || decide (8388608 < src + len)

/-- Operands that give BAD_COMMAND (R147, R362, R396), none found by reading the banks. -/
def State.badOperands (s : State) (c : Cmd) : Bool :=
  match c.opcode with
  | 0x01 => blockBad (c.bits 1 48 32) (c.bits 1 22 0) (c.bits 2 20 0)
  | 0x02 =>
    if (c.word 1).toNat.testBit 63 then blockBad (c.bits 1 48 32) (c.bits 1 22 0) (c.bits 2 20 0)
    else !s.stored (c.bits 1 62 55)
  | 0x03 =>
    let x := c.bits 1 44 32
    c.bits 1 63 62 == 3 || (decide (1 ≤ x) && decide (x ≤ 63)) || decide (4096 < x)
  | 0x42 => c.bits 2 20 0 == 0 || decide (1048576 < c.bits 2 20 0)
  | 0x46 => c.bits 1 31 0 != 0x464D5421
  | 0x60 => c.bits 1 63 62 == 3
  | _ => false

/-- CRN_STAT.STATE (R151). -/
def State.crnState (s : State) : Nat := s.fld CRN_STAT_STATE

/-- A state in which R151 does not accept the command. -/
def State.stateRefuses (s : State) (c : Cmd) : Bool :=
  let st := s.crnState
  match c.opcode with
  | 0x01 => (st == 2 || st == 3) && s.fld CRN_STAT_DIRECT == 0 && s.fld CRN_STAT_SCENE == c.bits 1 63 56
  | 0x02 => st != 0 && st != 2
  | 0x03 => st != 2
  | 0x04 => st != 2 && st != 3
  | _ => false

/-- Tests 2 to 5 of R481, in order: the completion that the first failing test gives. -/
def State.refusal (s : State) (c : Cmd) : Option CplInfo :=
  if ¬ knownOpcode c.opcode then some { primary := 0x02 }
  else if c.own ∧ s.mode = .standby ∧ standbyRefuses c.opcode then some { primary := 0x70 }
  else if s.badOperands c then some { primary := 0x02 }
  else if s.stateRefuses c then some { primary := 0x03, aux := s.crnState }
  else none

/-! ### Taking and starting commands (R146, R149) -/

/-- The command in the ring entry at CMD_CONS is taken; CMD_CONS is written before it executes. An active engine in
lockstep forwards it with its tag (16 R380, R381). -/
def State.takeEntry (s : State) : State :=
  let n := s.mbxIndex 1
  let base := 16 + 4 * (n % 256)
  let (ws, s) := (List.range 4).foldl (fun (a : List Word × State) i =>
    let (w, s) := a.2.mbxRead (base + i)
    (a.1 ++ [w], s)) ([], s)
  let s := s.mbxWrite 1 (BitVec.ofNat 72 ((n + 1) % 2 ^ 32))
  let c : Cmd := ⟨ws, true, none⟩
  if s.forwards ∧ ¬ c.isLocal then
    let (t, s) := s.newTag
    (s.onCrn fun k => { k with queue := k.queue ++ [{ c with tag := some t }] }).sendBelay 3 t
      (ws.flatMap fun w => beBytes 8 w.toNat)
  else s.onCrn fun k => { k with queue := k.queue ++ [c] }

/-- There is room in the completion ring for one more command (R146). -/
def State.cplRoom (s : State) : Bool :=
  decide ((2 ^ 32 + s.mbxIndex 2 - s.mbxIndex 3) % 2 ^ 32 + s.outstanding < 256)

/-- The tag of a command has been reached. -/
def State.tagDue (s : State) (c : Cmd) : Bool :=
  match c.tag with
  | none => true
  | some t => idxLe t s.idx

/-- A STAGE starts: Cairn is STAGING (R151), and CRN_STAT names the scene. -/
def State.beginStage (s : State) (c : Cmd) : State :=
  ((s.setFld CRN_STAT_STATE 1).setFld CRN_STAT_SCENE (c.bits 1 62 55)).setFld CRN_STAT_DIRECT (c.bits 1 63 63)

/-- A command that no test refuses executes. -/
def State.startCmd (s : State) (c : Cmd) : State := (s.onCrn fun k => { k with cur := some c }).refreshOutstanding

/-- Start the command at the front of the queue: the SEQ test and the tests of R481, then it is the current command. -/
def State.startFront (s : State) (c : Cmd) : State :=
  let s := s.onCrn fun k => { k with queue := k.queue.drop 1, waiting := false }
  match s.crn.window.find? fun w => w.seq == c.seq with
  | some w => if c.own then s.postWords (asDuplicate w.words) true else s
  | none =>
    if s.crn.started.any fun t => t.cmd.seq == c.seq then
      s.onCrn fun k => { k with started := k.started.map fun t =>
        if c.own ∧ t.cmd.seq = c.seq then { t with dups := t.dups + 1 } else t }
    else match s.refusal c with
      | some i => s.completeCmd c i
      | none => (if c.opcode = 2 then s.beginStage c else s).startCmd c

/-- Cairn runs in the modes of R151. -/
def State.crnRuns (s : State) : Bool := s.upMode

/-- Take and start commands until one executes, waits, or none is left; the fuel bounds one doorbell's work. -/
def State.pump : Nat → State → State
  | 0, s => s
  | n + 1, s =>
    if s.crn.cur.isSome ∨ ¬ s.crnRuns then s
    else
      let more := s.mbxIndex 1 != s.crn.prod
      if more && (s.forwards || s.crn.queue.isEmpty) then State.pump n s.takeEntry
      else match s.crn.queue with
        | [] => s
        | c :: _ =>
          if ¬ s.tagDue c then s
          else
            let s := (s.mbxRead 3).2
            if ¬ s.cplRoom then
              if s.crn.waiting then s else (s.onCrn fun k => { k with waiting := true }).evt 0x20 6
            else State.pump n (s.startFront c)

/-- Enough for a full ring and a full queue. -/
def State.pumpAll (s : State) : State := State.pump (600 + s.crn.queue.length) s

/-- The command producer that Cairn goes by, read as `w` while it has taken the commands up to `cons`: what a CMD_PROD more than
256 ahead of CMD_CONS makes it take is undefined (07, Undefined cases): any number up to 256. -/
def State.takenTo (s : State) (w : Word) (cons : Nat) : Nat × State :=
  let prod := w.toNat % 2 ^ 32
  if 256 < (2 ^ 32 + prod - cons) % 2 ^ 32 then
    let (x, s) := s.free 16
    ((cons + x.toNat % 257) % 2 ^ 32, s)
  else (prod, s)

/-- Cairn reads CMD_PROD. -/
def State.readProd (s : State) : State :=
  let r := s.mbxRead 0
  let x := r.2.takenTo r.1 (r.2.mbxIndex 1)
  x.2.onCrn fun k => { k with prod := x.1 }

/-- The write of CRN_DOORBELL (R146): Cairn reads CMD_PROD and takes commands. -/
def State.ringDoorbell (s : State) : State := if s.crnRuns then s.readProd.pumpAll else s

/-- CPL_WAIT_END (R146): the waiting command starts once there is room. -/
def execCplWaitEnd (s : State) : Res := .next (if s.crn.waiting ∧ s.cplRoom then s.pumpAll else s)

/-- Execute the current command where it has opcode `o`, then go on. -/
def State.runCmd (s : State) (o : Nat) (k : Cmd → State → State) : Res :=
  match s.crn.cur with
  | none => .next s
  | some c => .next (if c.opcode = o then (k c s).pumpAll else s)

/-- CAIRN_NOP (R147). -/
def execCairnNop (s : State) : Res := s.runCmd 0x00 fun c s => s.completeCmd c { primary := 0 }

/-! ### The scene store (R142, R143) -/

/-- The banks of the store: first and one past the last. -/
def State.storeBanks (s : State) : Nat × Nat :=
  let f := s.fld CRN_STORE_CTRL_FIRST_BANK
  (f, min 128 (f + min 32 (s.fld CRN_STORE_CTRL_BANKS)))

/-- The stored scenes: first word and length. -/
def State.storedRuns (s : State) : List (Nat × Nat) :=
  ((List.range 256).filter s.stored).map fun n =>
    (bitsNat (s.rd (DIR_LOC + dirOff n)).toNat 22 0, s.fld (DIR_LEN_LENGTH.sh (dirOff n)))

/-- The free runs of store words, rising: first word and length. Banks that are not ON have none. -/
def State.freeRuns (s : State) : List (Nat × Nat) :=
  let (lo, hi) := s.storeBanks
  let off := ((List.range (hi - lo)).map (· + lo)).filter fun b => s.bankState b != 2
  let used := sortBy (fun r => r.1) (s.storedRuns ++ off.map fun b => (b * 65536, 65536))
  let r := used.foldl (fun (a : List (Nat × Nat) × Nat) u =>
    if u.1 < lo * 65536 ∨ hi * 65536 ≤ u.1 then a
    else (if a.2 < u.1 then a.1 ++ [(a.2, u.1 - a.2)] else a.1, max a.2 (u.1 + u.2))) ([], lo * 65536)
  if r.2 < hi * 65536 then r.1 ++ [(r.2, hi * 65536 - r.2)] else r.1

/-- The largest free run (CRN_STORE_RUN). -/
def State.largestRun (s : State) : Nat := s.freeRuns.foldl (fun m r => max m r.2) 0

/-- Copy `n` bank words from word `src` to word `dst`, as Cairn; none where a word cannot be read. -/
def State.copyBankWords (s : State) : Nat → Nat → Nat → Bool × State
  | 0, _, _ => (true, s)
  | n + 1, src, dst =>
    match s.bankRead 2 (globalAddr src) 16 with
    | (none, s) => (false, s)
    | (some w, s) =>
      match s.bankWrite 2 (globalAddr dst) w 16 with
      | (false, s) => (false, s)
      | (true, s) => s.copyBankWords n (src + 1) (dst + 1)

/-- Set the directory entry of scene `n`. -/
def State.setDir (s : State) (n loc len rec' seq : Nat) : State :=
  (((s.wrN (DIR_LOC + dirOff n) loc).wrN (DIR_LEN + dirOff n) len).wrN (DIR_REC + dirOff n) rec').wrN (DIR_SEQ + dirOff n) seq

/-- STORE (R142): copy a block into the lowest free run, or delete the scene. -/
def execStore (s : State) : Res :=
  s.runCmd 0x01 fun c s =>
    let n := c.bits 1 63 56
    let records := c.bits 1 48 32
    let len := c.bits 2 20 0
    if records = 0 then (s.setDir n 0 0 0 0).completeCmd c { primary := 0 }
    else match s.freeRuns.find? fun r => decide (len ≤ r.2) with
      | none => s.completeCmd c { primary := 0x30, aux := s.largestRun }
      | some r =>
        let (ok, s) := s.copyBankWords len (c.bits 1 22 0) r.1
        if ok then (s.setDir n (2 ^ 31 + r.1) len records c.seq).completeCmd c { primary := 0 }
        else s.completeCmd c { primary := 0x40, kind := 8 }

/-- The write of CRN_STORE_CTRL (R143). -/
def State.writeStoreCtrl (s : State) (m : Nat) (v : Reg32) : State :=
  let f := bitsNat v.toNat 22 16
  let b := bitsNat v.toNat 5 0
  if f = s.fld CRN_STORE_CTRL_FIRST_BANK ∧ b = s.fld CRN_STORE_CTRL_BANKS then s
  else if ¬ s.cfgMode then s.refusedField m CRN_STORE_CTRL
  else (List.range 256).foldl (fun s n => s.setDir n 0 0 0 0)
    ((s.setFld CRN_STORE_CTRL_FIRST_BANK f).setFld CRN_STORE_CTRL_BANKS b)

end Sys2Proof.Machine
end

