-- ==== Sys2Proof/Machine/BelayRole.lean ====
section
/-! DEFINITION. Lockstep ends (16_belay_twin.md R387). -/

namespace Sys2Proof.Machine

open Sys2Proof

/-- A mode request completes with RESULT `r` (19 R452). -/
def State.finishReq (s : State) (r code : Nat) : State :=
  if s.fld PWR_MODE_STAT_BUSY = 1 then
    let s := ((s.setFld PWR_MODE_STAT_BUSY 0).setFld PWR_MODE_STAT_RESULT r).setFld PWR_MODE_STAT_CODE code
    { s with sys := { s.sys with swapReq := false } }.evt 2 1
  else s

/-- A planned swap under way is given up (log entry 37): its command and the mode request that waits for it end. -/
def State.dropSwap (s : State) : State :=
  let s := match s.bly.swap with
    | some (_, true) => match s.startedCmd fun c => c.opcode == 0x60 with
      | some c => s.completeCmd c { primary := 0x03, aux := s.crnState }
      | none => s
    | _ => s
  let s := if s.sys.swapReq then s.finishReq 3 0 else s
  s.onBly fun b => { b with swap := none }

/-- This engine leaves lockstep (R387): it uses its own lane count (05 R103) and, as a standby with AUTO_RESYNC, begins a
resynchronisation where its peer can serve one. -/
def State.leaveLockstep (s : State) : State :=
  if s.lockstep then
    let s := (s.dropSwap.setFld BLY_STAT_LOCKSTEP 0).onBly fun b => { b with
      decided := [], own := [], finals := [], fell := [], digests := [], decisions := [] }
    let s := ((s.onTrs fun t => { t with peerLanes := 16 }).lanesChanged).refreshBelay
    if s.mode = .standby ∧ s.fld BLY_CTRL_AUTO_RESYNC = 1 ∧ s.peerReady then s.startJoin else s
  else s

end Sys2Proof.Machine
end

