-- ==== Sys2Proof/Machine/Budget.lean ====
section
/-! DEFINITION. Admission of a scene (05_truss_schedule.md R101 to R106): what differs between the copies, the crossfade
plan, the arrival sets and their cones. -/

namespace Sys2Proof.Machine

open Sys2Proof

/-- One copy of the graph: enabled strips with word 0 of their descriptors, valid edges between them, and the valid source
map entries (stream, input strip). -/
structure GraphView where
  copy : Nat
  strips : List (Nat × Word)
  edges : List Edge
  sources : List (Nat × Nat)
  deriving DecidableEq, Repr

/-- The graph of copy `c`. -/
def State.view (s : State) (c : Nat) : GraphView :=
  let gs := (s.enabledStrips c).map fun g => (g, s.desc0 c g)
  ⟨c, gs, s.graphEdges c, (s.validSources c).map fun i => (i, mapStrip (s.word (srcAddr c i)))⟩

/-- Word 0 of an enabled strip. -/
def GraphView.desc (v : GraphView) (g : Nat) : Option Word := (v.strips.find? fun p => p.1 == g).map fun p => p.2

/-- A strip is enabled. -/
def GraphView.has (v : GraphView) (g : Nat) : Bool := v.strips.any fun p => p.1 == g

/-- Running sections of a strip, nothing shed (R88). -/
def GraphView.secs (v : GraphView) (g : Nat) : Nat := match v.desc g with | some w => runningSos w 0 | none => 0

/-- What a commit changes in the work of strips (06 R121, R128). -/
structure CopyDiff where
  /-- strips whose chain crossfades -/
  xfade : List Nat
  added : List Edge
  removed : List Edge
  /-- every changed strip, in the order in which R105 takes them -/
  changed : List Nat
  deriving DecidableEq, Repr

/-- The coefficients of running section `k` of strip `g` differ between the copies. -/
def State.coefDiffer (s : State) (g k : Nat) : Bool :=
  (List.range 5).any fun j => s.word (coefAddr 0 (sosIndex g k) j) != s.word (coefAddr 1 (sosIndex g k) j)

/-- The chain of a strip enabled in both copies crossfades (06 R121). -/
def State.chainDiffers (s : State) (g : Nat) (a b : Word) : Bool :=
  dNsos a != dNsos b || dBypass a != dBypass b ||
    (List.range (runningSos b 0)).any fun k => s.coefDiffer g k

/-- What differs from graph `o` to graph `n`. -/
def State.diff (s : State) (o n : GraphView) : CopyDiff :=
  let xf := (n.strips.filter fun p => match o.desc p.1 with
    | some w => s.chainDiffers p.1 w p.2
    | none => false).map fun p => p.1
  let added := n.edges.filter fun d => !o.edges.any d.same
  let removed := o.edges.filter fun d => !n.edges.any d.same
  let gs := (xf ++ added.map (fun d => d.dst) ++ removed.map fun d => d.dst).eraseDups
  let cls g := match n.desc g with | some w => wordClass w | none => match o.desc g with | some w => wordClass w | none => 2
  ⟨xf, added, removed, sortBy (fun g => cls g * 4096 + g) gs⟩

/-- The cost of strip `g` in one graph (R101). -/
def GraphView.cost (v : GraphView) (g : Nat) : Nat :=
  if v.has g then 5 * v.secs g + 1 + (v.edges.filter fun d => d.dst == g).length else 0

/-- The steady load of a graph, nothing shed (R101). -/
def GraphView.load (v : GraphView) : Nat := 16 + (v.strips.map fun p => v.cost p.1).sum

/-- The cost of a strip of the running batch: both chains, and every edge of either copy once (R101, R105). -/
def bothCost (o n : GraphView) (d : CopyDiff) (g : Nat) : Nat :=
  if n.has g || o.has g then
    let secs := if n.has g then n.secs g + (if d.xfade.contains g then o.secs g else 0) else o.secs g
    let es := (n.edges.filter fun x => x.dst == g).length + (d.removed.filter fun x => x.dst == g).length
    5 * secs + 1 + es
  else 0

/-- The greedy batches of R105: strips left, batches closed (latest first), the current batch (latest first), its load;
none where a strip does not fit an empty batch. -/
def greedy (o n : GraphView) (d : CopyDiff) (u : Nat) : List Nat → List (List Nat) → List Nat → Nat → Option (List (List Nat))
  | [], done, cur, _ => some ((if cur = [] then done else cur.reverse :: done).reverse)
  | g :: gs, done, cur, load =>
    let inc := bothCost o n d g
    let was := o.cost g
    if load + inc ≤ u + was then greedy o n d u gs done (g :: cur) (load + inc - was)
    else if cur = [] then none
    else
      let closed := load + (cur.map fun h => n.cost h).sum - (cur.map fun h => bothCost o n d h).sum
      if closed + inc ≤ u + was then greedy o n d u gs (cur.reverse :: done) [g] (closed + inc - was)
      else none

/-- The crossfade plan of R105: the load with every changed strip crossfading at once, and the batches where a plan
exists. -/
def crossfadePlan (o n : GraphView) (d : CopyDiff) (u : Nat) : Nat × Option (List (List Nat)) :=
  let gs := ((o.strips ++ n.strips).map fun p => p.1).eraseDups
  let base := 16 + ((gs.filter fun g => !d.changed.contains g).map fun g => n.cost g).sum
  let all := base + (d.changed.map fun g => bothCost o n d g).sum
  if all ≤ u then (all, some (if d.changed = [] then [] else [d.changed]))
  else
    let start := base + (d.changed.map fun g => o.cost g).sum
    match greedy o n d u d.changed [] [] start with
    | none => (all, none)
    | some bs => (all, if 255 < bs.length then none else some bs)

/-! ### Arrival sets (R104) -/

/-- The arrival set of source stream `i`, named by its lowest stream: `rx` lists the first channel and the channel count of
each open receive stream. -/
def arrivalSet (rx : List (Nat × Nat)) (i : Nat) : Nat :=
  if i < 544 then i
  else if i < 1056 then
    match rx.find? fun r => decide (r.1 ≤ i - 544) && decide (i - 544 < r.1 + r.2) with
    | some r => 544 + r.1
    | none => 544 + ((List.range 512).find? fun ch => !(rx.any fun r => decide (r.1 ≤ ch) && decide (ch < r.1 + r.2))).getD 0
  else if i < 1120 then 1056
  else if i < 1248 then 1120
  else 1248 + (i - 1248) / 18 * 18

/-- The strips that edges lead to from `seen`. -/
def downstream (v : GraphView) : Nat → List Nat → List Nat
  | 0, seen => seen
  | n + 1, seen =>
    let new := ((v.edges.filter fun d => seen.contains d.src).map fun d => d.dst).eraseDups.filter fun g => !seen.contains g
    if new.isEmpty then seen else downstream v n (seen ++ new)

/-- Sections that strip `g` counts while batch `i` (from 0) runs, or at rest (R104 step 2). -/
def sectionsIn (o n : GraphView) (d : CopyDiff) (batches : List (List Nat)) (i : Option Nat) (g : Nat) : Nat :=
  match i, batches.findIdx? fun b => b.contains g with
  | some i, some j =>
    if j < i then n.secs g
    else if i < j then (if o.has g then o.secs g else n.secs g)
    else n.secs g + (if d.xfade.contains g then o.secs g else 0)
  | _, _ => n.secs g

/-- W_k of the cone from input strips `gs` (R104): strips and edges of class `k` or lower. -/
def coneCost (n : GraphView) (secs : Nat → Nat) (gs : List Nat) (k : Nat) : Nat :=
  let all := downstream n 9 gs
  ((all.filter fun g => match n.desc g with | some w => decide (wordClass w ≤ k) | none => false).map
    fun g => 5 * secs g + 1).sum +
    (n.edges.filter fun d => all.contains d.src && decide (d.cls ≤ k)).length

/-- The result of admission (R104): code, step, the need, class of the cone, whether a cone exceeds K, stream, batches. -/
structure Admission where
  code : Nat
  step : Nat
  need : Nat
  coneClass : Nat
  coneFail : Bool
  stream : Nat
  batches : List (List Nat)
  deriving DecidableEq, Repr

/-- The first cone above `lim`: set, class and cost, over the sets ascending, at rest and in each batch, for the classes
`ks`. -/
def coneAbove (o n : GraphView) (d : CopyDiff) (batches : List (List Nat)) (rx : List (Nat × Nat)) (lim : Nat)
    (ks : List Nat) : Option (Nat × Nat × Nat) :=
  let feeds := n.sources.filter fun p => n.has p.2
  let sets := sortBy (fun x => x) ((feeds.map fun p => arrivalSet rx p.1).eraseDups)
  let phases := none :: (List.range batches.length).map some
  sets.findSome? fun a =>
    let gs := ((feeds.filter fun p => arrivalSet rx p.1 == a).map fun p => p.2).eraseDups
    phases.findSome? fun i => ks.findSome? fun k =>
      let w := coneCost n (sectionsIn o n d batches i) gs k
      if lim < w then some (a, k, w) else none

/-- R104: admission of the graph of copy `c`, with `rx` the open receive streams. -/
def State.admission (s : State) (c : Nat) (rx : List (Nat × Nat)) : Admission :=
  let o := s.view s.live
  let n := s.view c
  let d := s.diff o n
  let l := s.lanesL
  let u := usable l s.rate
  let m := n.load
  if u < m then ⟨0x10, 1, m, 0, false, 0, []⟩
  else
    let (all, plan) := crossfadePlan o n d u
    let bs := plan.getD []
    match coneAbove o n d bs rx (1750 * l) [0, 1] with
    | some (a, k, w) => ⟨0x10, 2, w, k, true, a, []⟩
    | none =>
      match plan with
      | none => ⟨0x10, 3, all, 0, false, 0, []⟩
      | some bs =>
        let code := if 1 < bs.length then 0x60 else 0
        match coneAbove o n d bs rx (1750 * l) [2] with
        | some (a, _, _) => ⟨code, 0, all, 2, true, a, bs⟩
        | none => ⟨code, 0, all, 0, false, 0, bs⟩

/-- Write the result of admission (R113). A plan of at most one batch counts as one. DESIGN CHOICE (log entry 55): after an
admission that is OK, TRS_BUDGET_NEED keeps what it held. -/
def State.putAdmission (s : State) (a : Admission) : State :=
  let n := if a.code = 0x10 then 0 else max 1 a.batches.length
  let s := s.wrN TRS_BUDGET_STAT (a.code * 2 ^ 24 + n * 2 ^ 16 + a.coneClass * 2 ^ 14 +
    (if a.coneFail then 2 ^ 13 else 0) + a.step * 2 ^ 11 + a.stream)
  let s := if a.code = 0 then s else s.wrN TRS_BUDGET_NEED a.need
  if a.code = 0x10 then s.evt 0x11 0 else s

end Sys2Proof.Machine
end

