-- ==== Sys2Proof/Machine/Operands.lean ====
section
/-! DEFINITION. The operand forms of a Chisel instruction (08_chisel_core.md R170 to R179, 09_chisel_instructions.md R201 to
R206): fields, register reads with the pipeline of R179, results put in flight, addresses, I/O words. -/

namespace Sys2Proof.Machine

open Sys2Proof

/-! ### Cores -/

/-- Physical core `p`. -/
def State.core (s : State) (p : Nat) : ChiselCore := mget .init s.chs.cores p

/-- Change the Chisel part of the state. -/
def State.onChs (s : State) (f : Chisel → Chisel) : State := { s with chs := f s.chs }

/-- Change physical core `p`. -/
def State.onCore (s : State) (p : Nat) (f : ChiselCore → ChiselCore) : State :=
  s.onChs fun c => { c with cores := mmod .init c.cores p f }

/-! ### Named registers (R206) -/

def rnP (k : Nat) : Nat := k
def rnM (k : Nat) : Nat := 8 + k
def rnB (k : Nat) : Nat := 16 + k
def rnL (k : Nat) : Nat := 24 + k
def rnLC : Nat := 0x20
def rnLSA : Nat := 0x21
def rnLEA : Nat := 0x22
def rnST : Nat := 0x23
def rnIRA : Nat := 0x24

/-- Width of a named register (R170). -/
def rnWidth (rn : Nat) : Nat :=
  if rn < 24 then 16 else if rn < 32 then 15 else if rn = rnLSA ∨ rn = rnLEA then 12 else if rn = rnIRA then 15 else 16

/-- A named register as it stands. -/
def CoreRegs.named (r : CoreRegs) (rn : Nat) : Nat := (mget 0 r.ar rn).toNat

/-- Bit `b` of ST (R171). -/
def ChiselCore.stBit (c : ChiselCore) (b : Nat) : Bool := (c.r.named rnST).testBit b

/-- Set bits of ST under a mask. -/
def ChiselCore.putST (c : ChiselCore) (mask v : Nat) : ChiselCore :=
  { c with r := { c.r with ar := mmod 0 c.r.ar rnST fun x => (x &&& ~~~(BitVec.ofNat 16 mask)) ||| BitVec.ofNat 16 (v &&& mask) } }

/-- Set a named register; a write of LC sets or clears LA (09 R213). ST is written by `putST`. -/
def ChiselCore.putNamed (c : ChiselCore) (rn v : Nat) : ChiselCore :=
  let v := v % 2 ^ rnWidth rn
  let c := { c with r := { c.r with ar := mset 0 c.r.ar rn (BitVec.ofNat 16 v) } }
  if rn = rnLC then { c.putST 0x4000 (if v = 0 then 0 else 0x4000) with lcStale := false } else c

/-! ### Results in flight (R179, R202) -/

/-- Key of an I/O word among the stores in flight. -/
def ioKey (o : Nat) : Nat := 2 ^ 32 + o

/-- An I/O word that a program writes: OUT_j or RET_ch (R173). -/
def ioWritable (o : Nat) : Bool := (decide (0x40 ≤ o) && decide (o < 0x52)) || (decide (0x60 ≤ o) && decide (o < 0x68))

/-- Bits of an accumulator replaced. -/
def putAcc (a : Acc) (lo len v : Nat) : Acc :=
  let m : Acc := BitVec.ofNat 160 ((2 ^ len - 1) <<< lo)
  (a &&& ~~~m) ||| (BitVec.ofNat 160 (v <<< lo) &&& m)

/-- One result in flight is written to physical core `p`. -/
def State.land (s : State) (p : Nat) (f : InFlight) : State :=
  match f.tgt with
  | .d n => s.onCore p fun c => { c with r := { c.r with d := mset 0 c.r.d n (f.val.setWidth 72) } }
  | .acc n lo len => s.onCore p fun c =>
      { c with r := { c.r with acc := mmod 0 c.r.acc n fun a => putAcc a lo len f.val.toNat } }
  | .sum n => s.onCore p fun c => { c with r := { c.r with acc := mset 0 c.r.acc n f.val } }
  | .ar rn => s.onCore p fun c => c.putNamed rn f.val.toNat
  | .hold _ => s
  | .nzv => s.onCore p fun c => c.putST 7 f.val.toNat
  | .sat => s.onCore p fun c => c.putST 0x1000 0x1000
  | .berr => s.onCore p fun c => c.putST 0x2000 0x2000
  | .st => s.onCore p fun c => c.putST 0xBFFF f.val.toNat
  | .mem a =>
    if a < 2 ^ 32 then s.setWord a (f.val.setWidth 72)
    else if ioWritable (a - 2 ^ 32) then s.onCore p fun c => { c with outs := mins c.outs (a - 2 ^ 32) (f.val.setWidth 72) }
    else s

/-- The order in which results are written: the end of cycle, then issue, then slot (R202). -/
def InFlight.before (a b : InFlight) : Bool :=
  decide (a.due < b.due) || (a.due == b.due && (decide (a.issue < b.issue) || (a.issue == b.issue && decide (a.rank < b.rank))))

/-- Insert a result in order. -/
def insertFlight (f : InFlight) : List InFlight → List InFlight
  | [] => [f]
  | g :: r => if f.before g then f :: g :: r else g :: insertFlight f r

/-- Put a result of the instruction that issues now in flight: usable from `lat` instructions on. -/
def State.launch (s : State) (p rank lat : Nat) (tgt : Target) (v : Acc) : State :=
  s.onCore p fun c => { c with flight := insertFlight ⟨c.t + lat, c.t, rank, tgt, v⟩ c.flight }

/-- Write every result due by now. -/
def State.landDue (s : State) (p : Nat) : State :=
  let c := s.core p
  let due := c.flight.filter fun f => decide (f.due ≤ c.t)
  due.foldl (fun s f => s.land p f) (s.onCore p fun c => { c with flight := c.flight.filter fun f => decide (c.t < f.due) })

/-- Write every result in flight: the instructions already issued complete (R185, R186). -/
def State.landAll (s : State) (p : Nat) : State :=
  (s.core p).flight.foldl (fun s f => s.land p f) (s.onCore p fun c => { c with flight := [] })

/-! ### Register reads (R179, R201) -/

/-- A result of an earlier instruction that satisfies `q` is in flight: what it writes may not be used yet. -/
def ChiselCore.awaits (c : ChiselCore) (q : Target → Bool) : Bool :=
  c.flight.any fun f => decide (f.issue < c.t) && q f.tgt

/-- Read D[n]; a use before the permitted instruction gives a free value. -/
def State.readD (s : State) (p n : Nat) : Word × State :=
  let c := s.core p
  if c.awaits (· == .d n) || c.port.any (fun a => a.reg == some n) then s.free 72 else (mget 0 c.r.d n, s)

/-- An accumulator target. -/
def accTarget (n : Nat) : Target → Bool
  | .acc m .. => m == n
  | .sum m => m == n
  | _ => false

/-- Read ACCn for anything but a further accumulation. -/
def State.readAcc (s : State) (p n : Nat) : Acc × State :=
  let c := s.core p
  if c.awaits (accTarget n) then s.free 160 else (mget 0 c.r.acc n, s)

/-- Read ACCn for a further accumulation: the latest sum in flight is used as it stands (R179). -/
def State.readSum (s : State) (p n : Nat) : Acc × State :=
  let c := s.core p
  if c.awaits (fun t => match t with | .acc m .. => m == n | _ => false) then s.free 160
  else match (c.flight.filter fun f => f.tgt == .sum n).getLast? with
    | some f => (f.val, s)
    | none => (mget 0 c.r.acc n, s)

/-- Read ST: bits whose result is in flight are free. -/
def State.readST (s : State) (p : Nat) : Nat × State :=
  let c := s.core p
  let mask := (if c.awaits (· == .st) then 0xBFFF else 0) ||| (if c.awaits (· == .nzv) then 7 else 0) |||
    (if c.awaits (· == .sat) then 0x1000 else 0) ||| (if c.awaits (· == .ar rnLC) then 0x4000 else 0)
  if mask = 0 then (c.r.named rnST, s)
  else
    let (b, s) := s.free 16
    (((BitVec.ofNat 16 (c.r.named rnST) &&& ~~~(BitVec.ofNat 16 mask)) ||| (b &&& BitVec.ofNat 16 mask)).toNat, s)

/-- Read a named register as data. -/
def State.readNamed (s : State) (p rn : Nat) : Nat × State :=
  if rn = rnST then s.readST p
  else
    let c := s.core p
    if c.awaits (· == .ar rn) then let (b, s) := s.free (rnWidth rn); (b.toNat, s) else (c.r.named rn, s)

/-- Read a named register to form an address (R179: one instruction later than as data). -/
def State.readForAddress (s : State) (p rn : Nat) : Nat × State :=
  let c := s.core p
  if c.awaits (fun t => t == .ar rn || t == .hold rn) then let (b, s) := s.free (rnWidth rn); (b.toNat, s)
  else (c.r.named rn, s)

/-- A named register's value extended to 72 bits: M registers by their sign, the others by 0 (R170). -/
def extendNamed (rn v : Nat) : Word :=
  if 8 ≤ rn ∧ rn < 16 then (BitVec.ofNat 16 v).signExtend 72 else BitVec.ofNat 72 v

/-- A value moved into a named register: timing by R212. -/
def State.launchNamed (s : State) (p rank rn v : Nat) : State :=
  if rn < 32 then (s.launch p rank 2 (.ar rn) (BitVec.ofNat 160 v)).launch p rank 3 (.hold rn) 0
  else if rn = rnST then s.launch p rank 2 .st (BitVec.ofNat 160 v)
  else if rn = rnIRA then s.launch p rank 2 (.ar rn) (BitVec.ofNat 160 v)
  else s.launch p rank 3 (.ar rn) (BitVec.ofNat 160 v)

/-- A result for D[n] by an extract or a load (R179). -/
def State.launchD (s : State) (p rank n : Nat) (w : Word) : State := s.launch p rank 2 (.d n) (w.setWidth 160)

/-! ### Addresses (R174, R175) -/

/-- R175: the update of pointer `pv` by `m`. -/
def circular (pv b l : Nat) (m : Int) : Nat :=
  let l := min l 16384
  if l = 0 then ((pv + m) % 65536).toNat
  else ((b + ((pv : Int) - b + m) % l) % 65536).toNat

/-- The address of mode `mode` on pointer `k`, and the pointer afterwards where the mode updates it. -/
def State.formAddress (s : State) (p k mode : Nat) : Nat × Option Nat × State :=
  let (pv, s) := s.readForAddress p (rnP k)
  if mode = 0 then (pv, none, s)
  else
    let (b, s) := s.readForAddress p (rnB k)
    let (l, s) := s.readForAddress p (rnL k)
    if mode = 1 then (pv, some (circular pv b l 1), s)
    else if mode = 2 then (pv, some (circular pv b l (-1)), s)
    else
      let (m, s) := s.readForAddress p (rnM k)
      let u := circular pv b l (BitVec.ofNat 16 m).toInt
      if mode = 3 then (pv, some u, s) else (u, none, s)

/-- Form an address and put the pointer update in flight (usable at t + 1). -/
def State.useAddress (s : State) (p rank k mode : Nat) : Nat × State :=
  match s.formAddress p k mode with
  | (a, none, s) => (a, s)
  | (a, some u, s) => (a, s.launch p rank 1 (.ar (rnP k)) (BitVec.ofNat 160 u))

/-- What a move slot's address is (R172): a memory word, an I/O word, or not decoded. -/
inductive DataPlace where
  | mem (a : Nat)
  | io (o : Nat)
  | undecoded
  deriving DecidableEq, Repr

/-- R172 for the X or the Y slot of core `p`. -/
def dataPlace (p : Nat) (slot : MoveSlot) (a : Nat) : DataPlace :=
  match slot with
  | .x => if a < 0x4000 then .mem (xAddr p a) else .undecoded
  | .y => if a < 0x4000 then .mem (yAddr p a) else if 0xFF00 ≤ a ∧ a < 0xFF80 then .io (a - 0xFF00) else .undecoded

/-! ### I/O words (R173) -/

/-- The value that a read of I/O word `o` gives core `p` at issue. -/
def State.ioRead (s : State) (p o : Nat) : Word × State :=
  let c := s.core p
  if c.awaits (· == .mem (ioKey o)) then s.free 72
  else if o < 0x1A ∨ (0x20 ≤ o ∧ o < 0x28) then (mget 0 (if o < 0x1A then c.ins else c.sends) (o % 0x20), s)
  else if ioWritable o then (mget 0 c.outs o, s)
  else if o = 0x70 then (BitVec.ofNat 72 c.idx, s)
  else if o = 0x71 then
    (BitVec.ofNat 72 ((if c.first then 1 else 0) + (if c.patched then 2 else 0) + if c.migrated then 4 else 0), s)
  else if o = 0x72 then (c.msg.setWidth 72, s)
  else if o = 0x73 then (BitVec.ofNat 72 (c.cyc % 65536), s)
  else (0, s)

/-- A load from a place: the word; none where the memory word is uncorrectable (a core fault, R194). An address that is
not decoded gives a free value. -/
def State.loadFrom (s : State) (p : Nat) (d : DataPlace) : Option Word × State :=
  match d with
  | .mem a =>
    if (s.core p).awaits (· == .mem a) then let (w, s) := s.free 72; (some w, s)
    else (s.codedWord a, s)
  | .io o => let (w, s) := s.ioRead p o; (some w, s)
  | .undecoded => let (w, s) := s.free 72; (some w, s)

/-- A store to a place, put in flight: none where the address is not decoded. A write of an I/O word that only reads is
ignored. -/
def State.storeTo (s : State) (p rank : Nat) (d : DataPlace) (w : Word) : Option State :=
  match d with
  | .mem a => some (s.launch p rank 2 (.mem a) (w.setWidth 160))
  | .io o => some (if ioWritable o then s.launch p rank 2 (.mem (ioKey o)) (w.setWidth 160) else s)
  | .undecoded => none

/-! ### The instruction word (R201, R203, R205) -/

/-- AOP. -/
def aop (w : Word) : Nat := wbits w 71 66

/-- A move slot of an instruction. -/
def slotOf (w : Word) : MoveSlot → Nat
  | .x => wbits w 31 16
  | .y => wbits w 15 0

/-- Fields of a move slot. -/
def mop (v : Nat) : Nat := bitsNat v 15 12
def mreg (v : Nat) : Nat := bitsNat v 11 8
def mptr (v : Nat) : Nat := bitsNat v 7 5
def mmode (v : Nat) : Nat := bitsNat v 4 2

/-- Fields of the arithmetic slot in their common positions. -/
def fDD (w : Word) : Nat := wbits w 65 62
def fDA (w : Word) : Nat := wbits w 61 58
def fDB (w : Word) : Nat := wbits w 57 54
def fAX (w : Word) : Nat := wbits w 45 44
def fAY (w : Word) : Nat := wbits w 43 42
def fIMM (w : Word) : Nat := wbits w 61 46
def fRN (w : Word) : Nat := wbits w 37 32
def fTGT (w : Word) : Nat := wbits w 43 32
def fEN (w : Word) : Nat := wbits w 35 32

/-- The operand bits that each opcode names (R205): none for a reserved opcode. -/
def operandBits (op : Nat) : Option (List (Nat × Nat)) :=
  match op with
  | 0x00 | 0x01 | 0x02 => some []
  | 0x03 => some [(65, 62), (43, 32)]
  | 0x04 => some [(65, 62), (60, 58), (43, 32)]
  | 0x05 => some [(65, 62), (60, 58)]
  | 0x06 => some [(61, 46), (43, 32)]
  | 0x07 => some [(61, 58), (43, 32)]
  | 0x08 => some [(61, 46), (37, 32)]
  | 0x09 => some [(61, 58), (37, 32)]
  | 0x0A => some [(65, 62), (37, 32)]
  | 0x0B | 0x0C => some [(61, 46)]
  | 0x10 => some [(65, 62), (61, 56), (55, 32)]
  | 0x11 => some [(65, 62), (61, 58)]
  | 0x12 => some [(61, 58), (57, 54)]
  | 0x13 => some [(61, 58)]
  | 0x14 | 0x15 | 0x16 | 0x17 | 0x18 => some [(65, 62), (61, 58), (57, 54)]
  | 0x20 => some [(65, 64), (63, 63), (61, 58), (57, 54), (53, 50), (49, 46), (45, 42), (35, 32)]
  | 0x21 => some [(65, 64), (63, 63), (61, 58), (57, 54), (53, 50), (49, 46), (45, 44), (43, 42), (41, 40)]
  | 0x22 => some [(65, 64), (63, 63), (61, 58), (45, 44)]
  | 0x23 => some [(35, 32)]
  | 0x24 => some [(45, 44), (43, 42)]
  | 0x25 => some [(45, 44), (43, 42), (39, 32)]
  | 0x28 => some [(65, 62), (61, 61), (60, 60), (59, 57), (54, 48), (45, 44), (41, 36)]
  | 0x29 => some [(65, 62), (61, 60), (45, 44)]
  | 0x2A => some [(61, 58), (57, 56), (45, 44)]
  | 0x30 | 0x31 => some [(65, 62), (61, 61), (60, 58), (57, 55)]
  | _ => none

/-- The bits of some fields, as a mask. -/
def maskOf (fs : List (Nat × Nat)) : Nat := (fs.map fun f => (2 ^ (f.1 + 1 - f.2) - 1) <<< f.2).sum

/-- The arithmetic slot of `w` is defined (09, Undefined cases): no reserved opcode, operand bit, COND, RN, WID, PART or
MODE. -/
def arithDefined (w : Word) : Bool :=
  match operandBits (aop w) with
  | none => false
  | some fs =>
    let bits := wbits w 65 32 * 2 ^ 32
    decide (bits &&& maskOf fs = bits) &&
    (match aop w with
      | 0x03 | 0x04 | 0x05 => decide (wbits w 65 62 ≤ 8)
      | 0x08 | 0x09 | 0x0A => decide (fRN w ≤ 0x24)
      | 0x28 => decide (wbits w 59 57 ≤ 4)
      | 0x29 => decide (wbits w 61 60 ≤ 2)
      | 0x2A => decide (wbits w 57 56 ≤ 2)
      | 0x30 | 0x31 => decide (wbits w 57 55 ≤ 4)
      | _ => true)

/-- A move slot is defined (R203). -/
def slotDefined (slot : MoveSlot) (v : Nat) : Bool :=
  match mop v with
  | 0 => true
  | 1 | 2 | 3 | 4 => decide (mmode v ≤ 4) && decide (v % 4 = 0)
  | 5 => decide (1 ≤ mmode v) && decide (mmode v ≤ 3) && decide (v % 4 = 0)
  | 6 | 7 => slot == .y && !v.testBit 7
  | _ => false

end Sys2Proof.Machine
end

