-- ==== Sys2Proof/Machine/Flags.lean ====
section
/-! DEFINITION. The flags of a Chisel core (08_chisel_core.md R171, 09_chisel_instructions.md R209, R214, R218, R219). -/

namespace Sys2Proof.Machine

open Sys2Proof

/-- N, Z and V in their places of ST. -/
def nzvBits (n z v : Bool) : Nat := (if n then 4 else 0) + (if z then 2 else 0) + if v then 1 else 0

/-- Flags put in flight: usable `lat` instructions on. -/
def State.launchFlags (s : State) (p lat : Nat) (n z v : Bool) : State :=
  s.launch p 0 lat .nzv (BitVec.ofNat 160 (nzvBits n z v))

/-- Read N, Z and V for a branch: free where their result is in flight (R179). -/
def State.readFlags (s : State) (p : Nat) : Nat × State :=
  let c := s.core p
  if c.awaits (fun t => t == .nzv || t == .st) then let (b, s) := s.free 3; (b.toNat, s)
  else (c.r.named rnST % 8, s)

/-- The conditions of R214 on N, Z and V. -/
def condHolds (cond f : Nat) : Bool :=
  let n := f.testBit 2
  let z := f.testBit 1
  let v := f.testBit 0
  match cond with
  | 0 => true
  | 1 => z
  | 2 => !z
  | 3 => n
  | 4 => !n
  | 5 => !n && !z
  | 6 => n || z
  | 7 => v
  | 8 => !v
  | _ => false

/-- Test a condition; AL reads no flags. -/
def State.testCond (s : State) (p cond : Nat) : Bool × State :=
  if cond = 0 then (true, s) else let (f, s) := s.readFlags p; (condHolds cond f, s)

/-- The destination width that WID gives (R209). -/
def extWidth (wid : Nat) : Nat :=
  match wid with
  | 0 => 72
  | 1 => 48
  | 2 => 32
  | 3 => 24
  | _ => 16

/-- R209: q and whether it was limited. -/
def extract (x : Acc) (n wid : Nat) (sym : Bool) : Int × Bool :=
  let w := extWidth wid
  let hi : Int := 2 ^ (w - 1) - 1
  narrowTo n (if sym then -hi else -(hi + 1)) hi x.toInt

/-- The term applied to an accumulator by OP (R207). -/
def accOp (op : Nat) (old : Acc) (term : Int) : Acc :=
  match op with
  | 1 => BitVec.ofInt 160 term
  | 2 => BitVec.ofInt 160 (old.toInt + term)
  | 3 => BitVec.ofInt 160 (old.toInt - term)
  | _ => old

/-- Sum flags of an accumulation result (R218). -/
def State.launchSumFlags (s : State) (p : Nat) (f : Bool) (v : Acc) : State :=
  if f then s.launchFlags p 3 v.msb (v == 0) false else s

end Sys2Proof.Machine
end

