-- ==== Sys2Proof/Machine/ChiselIssue.lean ====
section
/-! DEFINITION. The issue of a Chisel instruction (08_chisel_core.md R179 to R196): boundaries between instructions, the
two move slots, the arithmetic slot that ends the cycle, the end of a pass, and core faults. -/

namespace Sys2Proof.Machine

open Sys2Proof

/-! ### Logical and physical cores (R193, R195, R199) -/

/-- The physical core that serves logical core `c`. -/
def State.physCore (s : State) (c : Nat) : Option Nat :=
  let b := bitsNat (s.rd (CHS_LMAP + c / 4 * 4)).toNat (8 * (c % 4) + 7) (8 * (c % 4))
  if b.testBit 7 then some (b % 32) else none

/-- Byte `c` of CHS_LMAP. -/
def State.setLmap (s : State) (c b : Nat) : State := s.setFld ⟨CHS_LMAP + c / 4 * 4, 8 * (c % 4) + 7, 8 * (c % 4)⟩ b

/-- The logical core that physical core `p` serves. -/
def State.logicalOf (s : State) (p : Nat) : Option Nat := (List.range 16).find? fun c => s.physCore c == some p

/-- The bit of CHS_RESET that governs physical core `p` (R193). -/
def State.resetBit (s : State) (p : Nat) : Option Nat :=
  if p < 16 then some p else if s.fld CHS_SPARE_IN_USE = 1 then some (s.fld CHS_SPARE_STANDS_FOR) else none

/-- Physical core `p` is held by CHS_RESET. -/
def State.coreHeld (s : State) (p : Nat) : Bool :=
  match s.resetBit p with
  | some b => (s.rd CHS_RESET).toNat.testBit b
  | none => false

/-- Physical core `p` is retired. -/
def State.coreRetired (s : State) (p : Nat) : Bool := !(s.rd CHS_CORE_OK).toNat.testBit p

/-- Logical core `c` runs no pass whatever is selected: dark by R196, held in reset or power-gated. -/
def State.coreOff (s : State) (c : Nat) : Bool :=
  s.chs.dark.contains c ||
    match s.physCore c with
    | none => true
    | some p => s.coreHeld p || !s.powered (coreIsland p)

/-- Logical core `c` is dark: it runs no passes (R199). -/
def State.coreDark (s : State) (c : Nat) : Bool := s.coreOff c || (mfind s.chs.sel c).isNone

/-- Page offset of physical core `p` relative to the first CHS page. -/
def corePage (p : Nat) : Nat := 0x1000 * p

/-! ### Core faults (R194 to R196) -/

/-- The class of logical core `c`'s program; 2 with no selected program (R196). -/
def State.coreClass (s : State) (c : Nat) : Nat :=
  match mfind s.chs.sel c with
  | some h => min h.cls 2
  | none => 2

/-- R196: the working logical core that core `c` displaces. -/
def State.displaced (s : State) (c : Nat) : Option Nat :=
  (List.range 16).foldl (fun (best : Option Nat) d =>
    let works := d != c && !s.coreDark d && (mfind s.chs.mig d).isNone &&
      (match s.physCore d with | some p => !s.coreRetired p | none => false)
    if works && decide (s.coreClass c < s.coreClass d) then
      match best with
      | none => some d
      | some b => if s.coreClass b ≤ s.coreClass d then some d else best
    else best) none

/-- Logical core `c` goes dark by R196. -/
def State.goDark (s : State) (c : Nat) : State :=
  (((s.setLmap c 0).onChs fun k => { k with dark := c :: k.dark.filter fun x => x != c }).evt 0x58 1).degrade 2 true

/-- Logical core `c` starts to migrate from physical core `p`. -/
def State.startMigration (s : State) (c p q : Nat) (inj : Bool) : State :=
  s.onChs fun k => { k with mig := mins k.mig c ⟨p, q, s.lockstep, inj⟩ }

/-- A core fault in physical core `p` (R194). -/
def State.coreFault (s : State) (p cause : Nat) (inj : Bool) : State :=
  if s.coreRetired p then s else
  let c := s.core p
  let o := corePage p
  let idx := if c.run = .pass then c.idx else s.idx
  let s := if s.fld (CHS_FAULT_INFO_VALID.sh o) = 1 then s
    else (s.wrN (CHS_FAULT_INFO + o) (2 ^ 31 + cause * 2 ^ 12 + c.pc)).wrIdx (CHS_FAULT_IDX_LO + o) (CHS_FAULT_IDX_HI + o) idx
  let s := s.evt (0x40 + p) 1
  let s := s.wrN CHS_CORE_OK ((s.rd CHS_CORE_OK).toNat - 2 ^ p)
  let l := s.logicalOf p
  let s := if c.run = .pass then s.onChs fun k => { k with next := mins k.next c.core (nextIdx c.idx) } else s
  let s := s.onCore p fun c => { c with
    run := .idle, flight := [], port := [], copying := false, delay := none
    wrap := false, handler := [], endFault := none }
  let s := match l with
    | none => s
    | some d =>
      let s := s.unitFault (16 + d)
      let spareTaken := s.fld CHS_SPARE_IN_USE == 1 || s.coreRetired 16 || s.chs.mig.any fun m => m.2.dst == 16
      if !spareTaken && p != 16 then
        (s.wrN PWR_ISL_STAT ((s.rd PWR_ISL_STAT).toNat ||| 2 ^ 6)).startMigration d p 16 inj
      else
        let s := s.sprLog 2 true inj p 0
        match s.displaced d with
        | some e => match s.physCore e with
          | some q =>
            let s := (s.goDark e).onCore q fun c => { c with run := .idle, flight := [], port := [] }
            s.startMigration d p q inj
          | none => s.goDark d
        | none => s.goDark d
  s.fusePend

/-- CORE_FAULT (R194): a residue or memory error in physical core `p`. -/
def execCoreFault (p : Fin 17) (cause : Fin 16) (s : State) : Res := .next (s.coreFault p cause false)

/-- RESET_PROGRAM_OVERRUN (R193). -/
def execResetProgramOverrun (p : Fin 17) (s : State) : Res :=
  .next (if (s.core p).run = .boot ∧ 1048576 ≤ (s.core p).cyc then s.coreFault p 4 false else s)

/-! ### Boundaries (R181, R186, R189, R190) -/

/-- The pass has reached its declared length, or is stopped by injection after its first instruction (R186, R198). -/
def ChiselCore.stopDue (c : ChiselCore) : Bool :=
  c.run == .pass && ((match c.hdr with | some h => decide (h.length ≤ c.cyc) | none => false) ||
    (c.stopInj && decide (1 ≤ c.cyc + c.hcyc)))

/-- The timer request is due (R189). -/
def ChiselCore.timerDue (c : ChiselCore) : Bool :=
  c.run == .pass && !c.timed && match c.hdr with
    | some h => decide (0 < h.timer) && decide (h.timer ≤ c.cyc)
    | none => false

/-- An interrupt is taken at this boundary (R190). -/
def ChiselCore.irqDue (c : ChiselCore) : Bool :=
  c.run == .pass && c.stBit 15 && (c.bell || c.cmsg || c.timer) && c.delay.isNone && decide (1 ≤ c.cyc + c.hcyc)

/-- A bank-port access must return before the next instruction issues (R178). -/
def ChiselCore.portDue (c : ChiselCore) : Bool := c.port.any fun a => decide (a.due ≤ c.t + 1)

/-- Something other than an instruction comes next. -/
def ChiselCore.boundary (c : ChiselCore) : Bool :=
  c.wrap || c.portDue || c.timerDue || c.stopDue || c.irqDue || (c.run == .boot && decide (1048576 ≤ c.cyc))

/-- The program bank that core `p` runs. -/
def ChiselCore.bank (c : ChiselCore) : Nat := match c.hdr with | some h => h.bank | none => 0

/-- The instruction at PC; none where the program word is uncorrectable (R194). -/
def State.fetch (s : State) (p : Nat) : Option Word := s.codedWord (progAddr p (s.core p).bank (s.core p).pc)

/-- Opcodes that may not stand in a delay slot or at LEA (R180, R181). -/
def isControl (op : Nat) : Bool := decide (1 ≤ op) && decide (op ≤ 7)

/-- The instruction reads or writes a D, P, M, B, L, LC, LSA, LEA or ST register (R191). -/
def touchesRegs (w : Word) : Bool :=
  (match aop w with
    | 0x00 | 0x01 | 0x02 | 0x23 | 0x24 | 0x25 => false
    | 0x03 => wbits w 65 62 != 0
    | 0x08 => fRN w != rnIRA
    | _ => true) || mop (slotOf w .x) != 0 || mop (slotOf w .y) != 0

/-- The instruction reads or writes an accumulator (R191). -/
def touchesAcc (w : Word) : Bool := decide (0x20 ≤ aop w) && decide (aop w ≤ 0x2A)

/-- The instruction is one whose use the manual leaves undefined where it stands: reserved encodings (09), a control
instruction in a delay slot (R180), a handler that breaks R191, HALT in a handler (R192). -/
def ChiselCore.forbids (c : ChiselCore) (w : Word) : Bool :=
  !arithDefined w || !slotDefined .x (slotOf w .x) || !slotDefined .y (slotOf w .y) ||
    (isControl (aop w) && c.delay.isSome) ||
    (match c.handler with
      | k :: _ => (decide (k < 2) && touchesRegs w) || (decide (k < 3) && touchesAcc w) || aop w == 1
      | [] => false)

/-- The instruction at PC stands at LEA with LA = 1 (R181). LA or LEA whose move is in flight is free here (R179). -/
def State.atLoopEnd (s : State) (p : Nat) : Bool × State :=
  let c := s.core p
  if c.delay.isSome then (false, s)
  else
    let (la, s) : Bool × State := if c.awaits (· == .ar rnLC) then
        let (b, s) := s.free 1
        (b == 1, s)
      else (c.stBit 14, s)
    if ¬ la then (false, s)
    else
      let (lea, s) := s.readNamed p rnLEA
      (lea == c.pc, s)

/-- The first cycle of a handler counted as one of handler `h`. -/
def bumpHead : List Nat → List Nat
  | [] => []
  | k :: r => (k + 1) :: r

/-- The end of the cycle of the instruction at PC (R179, R180, R181, R186): counts, results, and the next PC; `looping`: it
stands at LEA with LA = 1. -/
def State.endCycle (s : State) (p : Nat) (looping : Bool) : State :=
  let (lc, s) := if looping then s.readNamed p rnLC else (0, s)
  let (lsa, s) := if looping then s.readNamed p rnLSA else (0, s)
  let s := s.onCore p fun c => { c with
    t := c.t + 1, xDone := false, yDone := false
    cyc := if c.handler = [] then c.cyc + 1 else c.cyc
    hcyc := if c.handler = [] then c.hcyc else c.hcyc + 1
    handler := bumpHead c.handler
    pc := if looping then c.pc else (c.pc + 1) % 4096
    wrap := looping, loop := (lc, lsa) }
  let c := s.core p
  let s := s.landDue p
  match c.delay with
  | none => s
  | some (n, target, rti) =>
    if n ≤ 1 then
      let s := s.onCore p fun c => { c with delay := none, pc := target }
      if rti then s.onCore p fun c => { c.putST 0x8000 0x8000 with handler := c.handler.drop 1 } else s
    else s.onCore p fun c => { c with delay := some (n - 1, target, rti) }

/-- The instruction is ready to be performed: its word, or the core fault of an uncorrectable word. -/
def State.ready (s : State) (p : Nat) : Option (Option Word) :=
  let c := s.core p
  if c.run = .idle ∨ c.boundary ∨ ¬ s.upMode then none else some (s.fetch p)

/-- The arithmetic slot with opcode `op` of core `p`: it issues once both move slots are done, and ends the cycle. The
meaning answers the new state and what follows the end of the cycle; none is an undefined use. A control instruction at LEA is
one as well (R181). -/
def State.arith (s : State) (p op : Nat) (k : Word → State → Option (State × (State → State))) : Res :=
  match s.ready p with
  | none => .next s
  | some none => .next (s.coreFault p 3 false)
  | some (some w) =>
    let c := s.core p
    let slotsDone := (mop (slotOf w .x) == 0 || c.xDone) && (mop (slotOf w .y) == 0 || c.yDone)
    if c.forbids w then .fault .undefinedInstruction
    else if aop w ≠ op ∨ ¬ slotsDone then .next s
    else
      let (looping, s) := s.atLoopEnd p
      if looping ∧ isControl (aop w) then .fault .undefinedInstruction
      else match k w s with
        | none => .fault .undefinedInstruction
        | some (s, after) => .next (after (s.endCycle p looping))

/-- An arithmetic slot that is always defined and after which execution goes on. -/
def State.compute (s : State) (p op : Nat) (k : Word → State → State) : Res :=
  s.arith p op fun w s => some (k w s, fun s => s)

/-- A move slot with operation `op` of core `p` (R203): performed once per instruction. An uncorrectable memory word is a
core fault (R194). -/
def State.move (s : State) (p op : Nat) (slot : MoveSlot) (k : Nat → State → Option State × Bool) : Res :=
  match s.ready p with
  | none => .next s
  | some none => .next (s.coreFault p 3 false)
  | some (some w) =>
    let c := s.core p
    let v := slotOf w slot
    let done := match slot with | .x => c.xDone | .y => c.yDone
    if c.forbids w then .fault .undefinedInstruction
    else if mop v != op || done then .next s
    else match k v s with
      | (none, true) => .next (s.coreFault p 2 false)
      | (none, false) => .fault .undefinedInstruction
      | (some s, _) => .next (s.onCore p fun c => match slot with
        | .x => { c with xDone := true }
        | .y => { c with yDone := true })

/-! ### The end of a pass (R185, R186) -/

/-- The strip that inserts on channel `ch` of logical core `c`. -/
def State.insertStrip (s : State) (c ch : Nat) : Option Nat :=
  s.graphStrips.find? fun g => s.hasInsert g && dInsCore (s.delayWords g).1 == c && dInsCh (s.delayWords g).1 == ch

/-- Release the outputs and returns of the pass of core `p` (R185); `none` of them when it was stopped (R186). -/
def State.release (s : State) (p : Nat) (written : Bool) : State :=
  let c := s.core p
  match c.hdr with
  | none => s
  | some h =>
    let val (o : Nat) : Option Word := if written then mfind c.outs o else none
    let f := s.fabAt c.idx
    let s := ((List.range 18).filter fun j => h.outputs.testBit j).foldl
      (fun s j => s.deliver (1248 + 18 * c.core + j) (val (0x40 + j)) c.idx s.trs.now) s
    ((List.range 8).filter fun ch => h.inserts.testBit ch).foldl (fun s ch =>
      match f.insertStrip c.core ch with
      | none => s
      | some g => s.deliver (1536 + g) (val (0x60 + ch)) c.idx s.trs.now) s

/-- Take the fault that the scrubber found during the pass (R421). -/
def State.takeEndFault (s : State) (p : Nat) : State :=
  match (s.core p).endFault with
  | none => s
  | some cause => s.coreFault p cause false

/-- A pass that ends on the cycle that reaches TIMER leaves its request pending (R189). -/
def State.lastTimer (s : State) (p : Nat) : State :=
  if (s.core p).timerDue then s.onCore p fun c => { c with timer := true, timed := true } else s

/-- HALT at address `pc`, issued with LA as `la` says (R185, R193, R213): what comes after the instruction's own slots. -/
def State.halt (s : State) (p pc : Nat) (la : Bool) : State :=
  let s := (s.lastTimer p).landAll p
  let c := s.core p
  let s := s.onCore p fun c => if la then (c.putNamed rnLC 0) else c
  let s := s.setFld (CHS_CORE_STAT_PC.sh (corePage p)) pc
  if c.run = .boot then s.onCore p fun c => { c with run := .idle, hdr := none, atHalt := c.r }
  else
    let o := corePage p
    let s := s.wr (CHS_PASS_CNT + o) (s.rd (CHS_PASS_CNT + o) + 1)
    let s := s.wrN (CHS_CYC_LAST + o) (c.hcyc % 65536 * 65536 + c.cyc % 65536)
    let s := s.wrN (CHS_CYC_MAX + o) (max (s.rd (CHS_CYC_MAX + o)).toNat (c.cyc % 65536))
    let s := s.release p true
    let s := s.onCore p fun c => { c with run := .idle, atHalt := c.r, outs := [], lcStale := false }
    (s.onChs fun k => { k with next := mins k.next c.core (nextIdx c.idx) }).takeEndFault p

/-- A pass is stopped (R186). -/
def State.stopPass (s : State) (p : Nat) : State :=
  let s := s.lastTimer p
  let c := s.core p
  let o := corePage p
  let s := s.landAll p
  let s := (s.bump (whole (CHS_OVERRUN + o))).evt (0x40 + p) 0
  let s := s.setFld (CHS_CORE_STAT_PC.sh o) c.pc
  let s := s.release p false
  let s := s.onCore p fun c => { c with
    run := .idle, outs := [], delay := none, wrap := false, handler := []
    xDone := false, yDone := false, lcStale := c.r.named rnLC != 0, stopInj := false }
  (s.onChs fun k => { k with next := mins k.next c.core (nextIdx c.idx) }).takeEndFault p

/-- PASS_STOP (R186). -/
def execPassStop (p : Fin 17) (s : State) : Res :=
  .next (if (s.core p).stopDue ∧ ¬ (s.core p).wrap then s.stopPass p else s)

/-- TIMER_REQUEST (R189). -/
def execTimerRequest (p : Fin 17) (s : State) : Res :=
  .next (if (s.core p).timerDue ∧ ¬ (s.core p).wrap then
    s.onCore p fun c => { c with timer := true, timed := true } else s)

/-- LOOP_END (R181): the instruction at LEA has issued with LA = 1. -/
def execLoopEnd (p : Fin 17) (s : State) : Res :=
  let c := s.core p
  .next (if ¬ c.wrap then s
    else
      let lc := c.loop.1
      s.onCore p fun c =>
        if 1 < lc then { c with
          wrap := false, pc := c.loop.2
          r := { c.r with ar := mset 0 c.r.ar rnLC (BitVec.ofNat 16 (lc - 1)) } }
        else { c.putNamed rnLC 0 with wrap := false, pc := (c.pc + 1) % 4096 })

/-- INTERRUPT_ENTRY (R190). A loop count that a stopped pass left behind makes the handler's result undefined (09). -/
def execInterruptEntry (p : Fin 17) (s : State) : Res :=
  let c := s.core p
  if ¬ c.irqDue ∨ c.wrap ∨ c.timerDue ∨ c.stopDue ∨ c.xDone ∨ c.yDone then .next s
  else if c.lcStale then .fault .undefinedInstruction
  else
    let ira := (if c.timer then 0x4000 else 0) + (if c.cmsg then 0x2000 else 0) + (if c.bell then 0x1000 else 0) + c.pc
    .next (s.onCore p fun c => { (c.putNamed rnIRA ira).putST 0x8000 0 with
      bell := false, cmsg := false, timer := false, handler := 0 :: c.handler
      pc := match c.hdr with | some h => h.irqEntry | none => c.pc })

/-- BANK_PORT_RETURN (R178): the oldest bank-port access of core `p` is done, after a wait of `wait` matrix cycles; `late`: the
data of a read has not arrived in time, which a wait within the budget of 02 R41 does not bring about. -/
def execBankPortReturn (p : Fin 17) (late : Bool) (wait : Nat) (s : State) : Res :=
  match (s.core p).port with
  | [] => .next s
  | a :: rest =>
    let bad := a.err || (late && decide (16 < wait) && a.reg.isSome)
    let s := s.waited (0x10 + p) 0x10000000 wait
    let issue := a.due - 24
    let s := s.onCore p fun c => { c with
      port := rest
      flight := match a.reg with
        | some n => insertFlight ⟨a.due, issue, 0, .d n, (if bad then 0 else a.val.setWidth 160)⟩ c.flight
        | none => c.flight }
    let s := if bad then
      ((s.onCore p fun c => { c with flight := insertFlight ⟨a.due, issue, 0, .berr, 0⟩ c.flight }).bump
        (whole (CHS_BERR + corePage p))).evt (0x40 + p) 3 else s
    .next (if (s.core p).run = .idle then s.landAll p else s)

end Sys2Proof.Machine
end

