-- ==== Sys2Proof/Machine/ChiselArith.lean ====
section
/-! DEFINITION. The arithmetic-slot instructions of a Chisel core (09_chisel_instructions.md R205 to R219). -/

namespace Sys2Proof.Machine

open Sys2Proof

/-! ### Branches, loops and the end of a pass (R192, R214 to R216) -/

/-- NOP (R205). -/
def execNop (p : Fin 17) (s : State) : Res := s.compute p 0x00 fun _ s => s

/-- HALT (R185, R216). -/
def execHalt (p : Fin 17) (s : State) : Res :=
  s.arith p 0x01 fun _ s' => some (s', fun t => t.halt p (s.core p).pc ((s.core p).stBit 14))

/-- A taken branch: two delay slots, then the target (R180). -/
def branchTo (p target : Nat) (rti : Bool) (s : State) : State :=
  s.onCore p fun c => { c with delay := some (2, target, rti) }

/-- An address that a branch may reach (09, Undefined cases); a reset program has no header and so no such bounds. -/
def ChiselCore.inCode (c : ChiselCore) (a : Nat) : Bool :=
  match c.hdr with
  | none => true
  | some h => decide (4 ≤ a) && decide (a ≤ 3 + h.codeLen)

/-- RTI (R192). -/
def execRti (p : Fin 17) (s : State) : Res :=
  s.arith p 0x02 fun _ s =>
    let (v, s) := s.readNamed p rnIRA
    some (s, branchTo p (v % 4096) true)

/-- A branch of core `p` to `target`, with what it does besides when taken. -/
def State.branch (s : State) (p : Nat) (w : Word) (target : Nat) (link : State → State) :
    Option (State × (State → State)) :=
  let (taken, s) := s.testCond p (wbits w 65 62)
  if ¬ taken then some (s, fun s => s)
  else if (s.core p).inCode target then some (link s, branchTo p target false)
  else none

/-- BR (R214). -/
def execBr (p : Fin 17) (s : State) : Res :=
  s.arith p 0x03 fun w s => s.branch p w (fTGT w) fun s => s

/-- BRL (R205, R214): the link is the address after the second delay slot. -/
def execBrl (p : Fin 17) (s : State) : Res :=
  s.arith p 0x04 fun w s =>
    s.branch p w (fTGT w) fun s => s.launchNamed p 0 (rnP (wbits w 60 58)) (((s.core p).pc + 3) % 4096)

/-- BRP (R205): the target is in a pointer, read only where the branch is taken. -/
def execBrp (p : Fin 17) (s : State) : Res :=
  s.arith p 0x05 fun w s =>
    let (taken, s) := s.testCond p (wbits w 65 62)
    if ¬ taken then some (s, fun s => s)
    else
      let (v, s) := s.readNamed p (rnP (wbits w 60 58))
      if (s.core p).inCode (v % 4096) then some (s, branchTo p (v % 4096) false) else none

/-- R215: a loop instruction at PC with count `n`. -/
def State.loop (s : State) (p : Nat) (w : Word) (n : Nat) : Option (State × (State → State)) :=
  let c := s.core p
  let lend := fTGT w
  if lend < c.pc + 1 ∨ ¬ c.inCode lend then none
  else
    let put (rn v : Nat) (s : State) : State := s.launch p 0 1 (.ar rn) (BitVec.ofNat 160 (v % 2 ^ rnWidth rn))
    let s := put rnLC n (put rnLEA lend (put rnLSA (c.pc + 1) s))
    some (s, fun s => if n % 65536 = 0 then s.onCore p fun c => { c with pc := (lend + 1) % 4096 } else s)

/-- LOOP (R215). -/
def execLoop (p : Fin 17) (s : State) : Res := s.arith p 0x06 fun w s => s.loop p w (fIMM w)

/-- LOOPD (R215). -/
def execLoopd (p : Fin 17) (s : State) : Res :=
  s.arith p 0x07 fun w s =>
    let (d, s) := s.readD p (fDA w)
    s.loop p w (d.toNat % 65536)

/-! ### Register moves (R205, R212, R213) -/

/-- MOVRI (R212). -/
def execMovri (p : Fin 17) (s : State) : Res := s.compute p 0x08 fun w s => s.launchNamed p 0 (fRN w) (fIMM w)

/-- MOVRD (R212). -/
def execMovrd (p : Fin 17) (s : State) : Res :=
  s.compute p 0x09 fun w s =>
    let (d, s) := s.readD p (fDA w)
    s.launchNamed p 0 (fRN w) (d.toNat % 65536)

/-- MOVDR (R205). -/
def execMovdr (p : Fin 17) (s : State) : Res :=
  s.compute p 0x0A fun w s =>
    let (v, s) := s.readNamed p (fRN w)
    s.launchD p 0 (fDD w) (extendNamed (fRN w) v)

/-- STSET (R205). -/
def execStset (p : Fin 17) (s : State) : Res :=
  s.compute p 0x0B fun w s =>
    let (v, s) := s.readST p
    s.launch p 0 2 .st (BitVec.ofNat 160 (v ||| fIMM w))

/-- STCLR (R205). -/
def execStclr (p : Fin 17) (s : State) : Res :=
  s.compute p 0x0C fun w s =>
    let (v, s) := s.readST p
    s.launch p 0 2 .st (BitVec.ofNat 160 (v &&& (0xFFFF - fIMM w)))

/-! ### Data registers (R205, R211, R218) -/

/-- LDI (R211). -/
def execLdi (p : Fin 17) (s : State) : Res :=
  s.compute p 0x10 fun w s =>
    s.launchD p 0 (fDD w) (BitVec.ofInt 72 ((BitVec.ofNat 24 (wbits w 55 32)).toInt * 2 ^ wbits w 61 56))

/-- DMOV (R205). -/
def execDmov (p : Fin 17) (s : State) : Res :=
  s.compute p 0x11 fun w s =>
    let (a, s) := s.readD p (fDA w)
    s.launchD p 0 (fDD w) a

/-- DCMP (R218): an exact compare. -/
def execDcmp (p : Fin 17) (s : State) : Res :=
  s.compute p 0x12 fun w s =>
    let (a, s) := s.readD p (fDA w)
    let (b, s) := s.readD p (fDB w)
    s.launchFlags p 2 (decide (a.toInt < b.toInt)) (a == b) false

/-- DTST (R218). -/
def execDtst (p : Fin 17) (s : State) : Res :=
  s.compute p 0x13 fun w s =>
    let (a, s) := s.readD p (fDA w)
    s.launchFlags p 2 a.msb (a == 0) false

/-- An operation on two D registers whose result goes to a third. -/
def State.binary (s : State) (p op : Nat) (f : Word → Word → Word) : Res :=
  s.compute p op fun w s =>
    let (a, s) := s.readD p (fDA w)
    let (b, s) := s.readD p (fDB w)
    s.launchD p 0 (fDD w) (f a b)

/-- DMAX (R211). -/
def execDmax (p : Fin 17) (s : State) : Res := s.binary p 0x14 fun a b => if a.toInt < b.toInt then b else a

/-- DMIN (R211). -/
def execDmin (p : Fin 17) (s : State) : Res := s.binary p 0x15 fun a b => if a.toInt < b.toInt then a else b

/-- DAND (R205). -/
def execDand (p : Fin 17) (s : State) : Res := s.binary p 0x16 fun a b => a &&& b

/-- DOR (R205). -/
def execDor (p : Fin 17) (s : State) : Res := s.binary p 0x17 fun a b => a ||| b

/-- DXOR (R205). -/
def execDxor (p : Fin 17) (s : State) : Res := s.binary p 0x18 fun a b => a ^^^ b

/-! ### Accumulators (R207, R208, R219) -/

/-- ACCn OP term: the new value, and the state with it in flight; OP 0 changes nothing. -/
def State.accumulate (s : State) (p n op : Nat) (term : Int) : Acc × State :=
  let (old, s) := if 2 ≤ op then s.readSum p n else (0, s)
  let v := accOp op old term
  (v, s.launch p 0 3 (.sum n) v)

/-- MACQ (R207, R218, R219): every enabled accumulator with its own operand; with OP 0 only the flags are taken. -/
def execMacq (p : Fin 17) (s : State) : Res :=
  s.compute p 0x20 fun w s =>
    let op := wbits w 65 64
    let ns := (List.range 4).filter fun n => (fEN w).testBit n
    if ns = [] then s
    else if op = 0 then
      if w.toNat.testBit 63 then
        let (v, s) := s.readSum p (ns.headD 0)
        s.launchSumFlags p true v
      else s
    else
      let (a, s) := s.readD p (fDA w)
      let r := ns.foldl (fun (acc : Option Acc × State) n =>
        let (b, s) := acc.2.readD p (wbits w (57 - 4 * n) (54 - 4 * n))
        let (v, s) := s.accumulate p n op (a.toInt * b.toInt)
        (acc.1.orElse fun _ => some v, s)) (none, s)
      r.2.launchSumFlags p (w.toNat.testBit 63) (r.1.getD 0)

/-- MACD (R207, R219). With one accumulator named twice and both operations in use its new value is undefined (09), and
so free. -/
def execMacd (p : Fin 17) (s : State) : Res :=
  s.compute p 0x21 fun w s =>
    let opx := wbits w 65 64
    let opy := wbits w 41 40
    let f := w.toNat.testBit 63
    let term (s : State) (i j : Nat) : Int × State :=
      let (a, s) := s.readD p i
      let (b, s) := s.readD p j
      (a.toInt * b.toInt, s)
    if opx = 0 ∧ opy = 0 then s
    else if opx ≠ 0 ∧ opy ≠ 0 ∧ fAX w = fAY w then
      let (v, s) := s.free 160
      (s.launch p 0 3 (.sum (fAX w)) v).launchSumFlags p f v
    else
      let (vx, s) := if opx = 0 then (0, s) else
        let (t, s) := term s (fDA w) (fDB w)
        s.accumulate p (fAX w) opx t
      let (vy, s) := if opy = 0 then (0, s) else
        let (t, s) := term s (wbits w 53 50) (wbits w 49 46)
        s.accumulate p (fAY w) opy t
      s.launchSumFlags p f (if opx = 0 then vy else vx)

/-- ACCD (R207, R218); with OP 0 only the flags are taken. -/
def execAccd (p : Fin 17) (s : State) : Res :=
  s.compute p 0x22 fun w s =>
    if wbits w 65 64 = 0 then
      if w.toNat.testBit 63 then
        let (v, s) := s.readSum p (fAX w)
        s.launchSumFlags p true v
      else s
    else
      let (a, s) := s.readD p (fDA w)
      let (v, s) := s.accumulate p (fAX w) (wbits w 65 64) (a.toInt * 2 ^ 63)
      s.launchSumFlags p (w.toNat.testBit 63) v

/-- CLRA (R208). -/
def execClra (p : Fin 17) (s : State) : Res :=
  s.compute p 0x23 fun w s =>
    ((List.range 4).filter fun n => (fEN w).testBit n).foldl (fun s n => s.launch p 0 3 (.acc n 0 160) 0) s

/-- ACCMOV (R208). -/
def execAccmov (p : Fin 17) (s : State) : Res :=
  s.compute p 0x24 fun w s =>
    let (v, s) := s.readAcc p (fAY w)
    s.launch p 0 3 (.acc (fAX w) 0 160) v

/-- ACCSH (R208): no rounding. -/
def execAccsh (p : Fin 17) (s : State) : Res :=
  s.compute p 0x25 fun w s =>
    let (v, s) := s.readAcc p (fAY w)
    let sh := (BitVec.ofNat 8 (wbits w 39 32)).toInt
    let x := if 0 ≤ sh then v.toInt * 2 ^ sh.toNat else v.toInt >>> (-sh).toNat
    s.launch p 0 3 (.acc (fAX w) 0 160) (BitVec.ofInt 160 x)

/-- EXT (R209, R218). -/
def execExt (p : Fin 17) (s : State) : Res :=
  s.compute p 0x28 fun w s =>
    let (x, s) := s.readAcc p (fAX w)
    let (q, lim) := extract x (wbits w 54 48) (wbits w 59 57) (w.toNat.testBit 60)
    let s := s.launchD p 0 (fDD w) (BitVec.ofInt 72 (q * 2 ^ wbits w 41 36))
    let s := if lim then s.launch p 0 2 .sat 0 else s
    if w.toNat.testBit 61 then s.launchFlags p 2 (decide (q < 0)) (decide (q = 0)) lim else s

/-- ACCRD (R210). -/
def execAccrd (p : Fin 17) (s : State) : Res :=
  s.compute p 0x29 fun w s =>
    let (x, s) := s.readAcc p (fAX w)
    s.launchD p 0 (fDD w) (match wbits w 61 60 with
      | 0 => x.setWidth 72
      | 1 => (x >>> 72).setWidth 72
      | _ => ((x >>> 144).setWidth 16).signExtend 72)

/-- ACCWR (R210): the other bits keep their values. -/
def execAccwr (p : Fin 17) (s : State) : Res :=
  s.compute p 0x2A fun w s =>
    let (a, s) := s.readD p (fDA w)
    let (lo, len) : Nat × Nat := match wbits w 57 56 with
      | 0 => (0, 72)
      | 1 => (72, 72)
      | _ => (144, 16)
    s.launch p 0 3 (.acc (fAX w) lo len) (BitVec.ofNat 160 (a.toNat % 2 ^ len))

/-! ### The bank port (R177, R178, R217) -/

/-- BAR0 address of a bank-port access through window `win`, none where the window is not enabled (R177). -/
def ChiselCore.window (c : ChiselCore) (win : Bool) (a : Nat) : Option Nat :=
  match c.hdr with
  | none => none
  | some h => (if win then h.win1 else h.win0).map fun b => bankAddr b a

/-- A bank-port access within three instructions of the last breaks R178: its result is undefined. -/
def ChiselCore.portTooSoon (c : ChiselCore) : Bool :=
  match c.lastPort with
  | some u => decide (c.t < u + 4)
  | none => false

/-- BLD (R217): the word is read now and its D register written at the end of t + 23. -/
def execBld (p : Fin 17) (s : State) : Res :=
  s.compute p 0x30 fun w s =>
    let c := s.core p
    let (a, s) := s.useAddress p 0 (wbits w 60 58) (wbits w 57 55)
    let (inj, s) := s.takeInj (0x40 + p) 3
    let (v, err, s) : Word × Bool × State :=
      if c.portTooSoon then let (v, s) := s.free 72; (v, false, s)
      else if inj then (0, true, s)
      else match c.window (w.toNat.testBit 61) a with
        | none => (0, true, s)
        | some x => match s.bankRead (0x10 + p) x 16 with
          | (some v, s) => (v, false, s)
          | (none, s) => (0, true, s)
    s.onCore p fun c => { c with
      port := c.port ++ [⟨c.t + 24, some (wbits w 65 62), v, err⟩]
      lastPort := some c.t }

/-- BST (R217): a posted write; an error discards it and shows in BERR at the end of t + 23. A write too close to another
access has no stated result at all. -/
def execBst (p : Fin 17) (s : State) : Res :=
  s.arith p 0x31 fun w s =>
    let c := s.core p
    if c.portTooSoon then none
    else
      let (d, s) := s.readD p (wbits w 65 62)
      let (a, s) := s.useAddress p 0 (wbits w 60 58) (wbits w 57 55)
      let (ok, s) := match c.window (w.toNat.testBit 61) a with
        | none => (false, s)
        | some x => s.bankWrite (0x10 + p) x d 16
      some (s.onCore p fun c => { c with
        port := if ok then c.port else c.port ++ [⟨c.t + 24, none, 0, true⟩]
        lastPort := some c.t }, fun s => s)

end Sys2Proof.Machine
end

