-- ==== Sys2Proof/Machine/ChiselMoves.lean ====
section
/-! DEFINITION. The move-slot instructions of a Chisel core (09_chisel_instructions.md R203, R204). -/

namespace Sys2Proof.Machine

open Sys2Proof

/-- Rank of a slot among the results of one instruction (R202). -/
def slotRank : MoveSlot → Nat
  | .x => 1
  | .y => 2

/-- A load by a move slot: `k` puts the loaded word in flight. -/
def State.loadSlot (s : State) (p : Nat) (slot : MoveSlot) (v : Nat) (k : Word → State → State) : Option State × Bool :=
  let (a, s) := s.useAddress p (slotRank slot) (mptr v) (mmode v)
  match s.loadFrom p (dataPlace p slot a) with
  | (none, _) => (none, true)
  | (some w, s) => (some (k w s), false)

/-- A store of `w` by a move slot. -/
def State.storeSlot (s : State) (p : Nat) (slot : MoveSlot) (v : Nat) (w : Word) : Option State × Bool :=
  let (a, s) := s.useAddress p (slotRank slot) (mptr v) (mmode v)
  (s.storeTo p (slotRank slot) (dataPlace p slot a) w, false)

/-- LD (R203). -/
def execLd (p : Fin 17) (slot : MoveSlot) (s : State) : Res :=
  s.move p 1 slot fun v s => s.loadSlot p slot v fun w s => s.launchD p (slotRank slot) (mreg v) w

/-- ST (R203). -/
def execSt (p : Fin 17) (slot : MoveSlot) (s : State) : Res :=
  s.move p 2 slot fun v s =>
    let (d, s) := s.readD p (mreg v)
    s.storeSlot p slot v d

/-- LDA (R203): address registers P0 to P7 and M0 to M7 by number. -/
def execLda (p : Fin 17) (slot : MoveSlot) (s : State) : Res :=
  s.move p 3 slot fun v s =>
    s.loadSlot p slot v fun w s => s.launchNamed p (slotRank slot) (mreg v) (w.toNat % 65536)

/-- STA (R203). -/
def execSta (p : Fin 17) (slot : MoveSlot) (s : State) : Res :=
  s.move p 4 slot fun v s =>
    let (a, s) := s.readNamed p (mreg v)
    s.storeSlot p slot v (extendNamed (mreg v) a)

/-- UPD (R203). -/
def execUpd (p : Fin 17) (slot : MoveSlot) (s : State) : Res :=
  s.move p 5 slot fun v s => (some (s.useAddress p (slotRank slot) (mptr v) (mmode v)).2, false)

/-- IOLD (R203). -/
def execIold (p : Fin 17) (slot : MoveSlot) (s : State) : Res :=
  s.move p 6 slot fun v s =>
    let (w, s) := s.ioRead p (v % 128)
    (some (s.launchD p (slotRank slot) (mreg v) w), false)

/-- IOST (R203). -/
def execIost (p : Fin 17) (slot : MoveSlot) (s : State) : Res :=
  s.move p 7 slot fun v s =>
    let (d, s) := s.readD p (mreg v)
    (s.storeTo p (slotRank slot) (.io (v % 128)) d, false)

end Sys2Proof.Machine
end

