-- ==== Sys2Proof/Machine/ChiselPass.lean ====
section
/-! DEFINITION. Program passes, reset programs and migration of the Chisel cores (08_chisel_core.md R182 to R196). -/

namespace Sys2Proof.Machine

open Sys2Proof

/-! ### Program headers (R182, R183) -/

/-- The fields of the header of a program bank. -/
def headerOf (bank : Nat) (w0 w1 w2 : Word) : Selection where
  bank := bank
  entry := wbits w0 31 20
  irqEntry := wbits w0 19 8
  ieInit := w0.toNat.testBit 1
  length := wbits w0 47 32
  timer := wbits w2 31 16
  cls := min (wbits w2 47 46) 2
  codeLen := wbits w1 12 0
  inputs := wbits w1 71 46
  outputs := wbits w1 45 28
  inserts := wbits w1 27 20
  win0 := if w2.toNat.testBit 63 then some (wbits w2 62 56) else none
  win1 := if w2.toNat.testBit 55 then some (wbits w2 54 48) else none

/-- The header of program bank `b` of physical core `p`, where it is valid (R183). -/
def State.header (s : State) (p b : Nat) : Option Selection :=
  let word i := s.word (progAddr p b i)
  let w0 := word 0
  let h := headerOf b w0 (word 1) (word 2)
  if wbits w0 71 56 = 0x4348 ∧ wbits w0 55 48 = 1 ∧ 1 ≤ h.length ∧ 1 ≤ h.codeLen ∧ h.codeLen ≤ 4092 ∧
      4 ≤ h.entry ∧ h.entry ≤ 3 + h.codeLen ∧ 4 ≤ h.irqEntry ∧ h.irqEntry ≤ 3 + h.codeLen then
    let body := ([0, 1, 2] ++ (List.range h.codeLen).map (· + 4)).flatMap fun i => leBytes 9 (word i).toNat
    if crc32 body = wbits (word 3) 31 0 then some h else none
  else none

/-! ### Passes (R184, R187) -/

/-- The value of Chisel input stream `k` staged for index `n`; none while it is not staged. A sink that no strip drives
gives 0 (04 R83). -/
def State.chiselInput (s : State) (k n : Nat) : Option Word :=
  match s.staged k n with
  | some v => some v
  | none => if (s.fabAt n).sinkDriven k n then none else some 0

/-- The insert send of channel `ch` of logical core `c` for index `n`: none while a strip in work that feeds it has not
sent; 0 where no strip feeds it (R173). -/
def State.chiselSend (s : State) (c ch n : Nat) : Option Word :=
  let f := s.fabAt n
  match f.insertStrip c ch with
  | none => some 0
  | some g =>
    if f.shedState g = 2 then some 0
    else (s.tick n).bind fun t => (mfind t.heads g).map fun h => h.v

/-- All values of a list of declared numbers, none while one is missing. -/
def gather (get : Nat → Option Word) : List Nat → Option (SMap Word)
  | [] => some []
  | i :: r => match get i, gather get r with
    | some w, some m => some (mset 0 m i w)
    | _, _ => none

/-- Write the PATCH words of logical core `c` due at index `n` to physical core `p` (07 R160): whether there were any. -/
def State.applyPatches (s : State) (c p n : Nat) : Bool × State :=
  let due := s.chs.patches.filter fun w => w.core == c && idxLe w.flip n
  (!due.isEmpty, due.foldl (fun s w => s.setWord (0x08000000 + 0x200000 * p + w.addr) w.word)
    (s.onChs fun k => { k with patches := k.patches.filter fun w => !(w.core == c && idxLe w.flip n) }))

/-- The deferred write `d` is performed (R188). -/
def State.performDeferred (s : State) (d : DeferredWrite) : State :=
  let s := s.onChs fun k => { k with deferred := k.deferred.erase d }
  s.noteWrite (s.codedWriteBytes d.m (d.addr / 16 * 16) (d.addr % 16) d.data d.data.length).2 d.m

/-- Every write to physical core `p` that applies by index `n` and still waits is performed (R188). -/
def State.performDue (s : State) (p n : Nat) : State :=
  (s.chs.deferred.filter fun d => d.phys == p && idxLe d.idx n).foldl State.performDeferred s

/-- The first pass on a new physical core begins (R195, R200). -/
def State.noteMoved (s : State) (p n : Nat) : State :=
  if ¬ (s.core p).moved then s
  else
    let s := s.wrIdx CHS_MIGRATE_IDX_LO CHS_MIGRATE_IDX_HI n
    if p = 16 then s.evt 0x58 0 else s

/-- The pass of index `n` of logical core `c` starts on physical core `p` (R184, R187 to R189). -/
def State.beginPass (s : State) (c p n : Nat) (h : Selection) (ins sends : SMap Word) : State :=
  let s := (s.performDue p n).noteMoved p n
  let fresh := s.chs.fresh.contains c && s.selAt c n == mfind s.chs.sel c
  let (patched, s) := s.applyPatches c p n
  let s := s.onChs fun k => { k with
    fresh := if fresh then k.fresh.filter fun x => x != c else k.fresh
    selOld := if fresh then mdel k.selOld c else k.selOld }
  let s := s.onCore p fun k =>
    let k := if fresh then { k with r := .zero, bell := false, cmsg := false, timer := false, lcStale := false } else k
    let rung := k.bellNext.filter fun b => idxLe b.2 n
    { k.putST 0xC000 (if h.ieInit then 0x8000 else 0) with
      run := .pass, hdr := some h, core := c, idx := n, pc := h.entry, cyc := 0, hcyc := 0, handler := []
      delay := none, wrap := false, xDone := false, yDone := false, timed := false
      first := fresh, patched := patched, migrated := k.moved, moved := false, ins := ins, sends := sends, outs := []
      bell := k.bell || rung != [], msg := (rung.getLast?.map fun b => b.1).getD k.msg
      bellNext := k.bellNext.filter fun b => !idxLe b.2 n, cmsg := k.cmsg || patched }
  let (stop, s) := s.takeInj (0x40 + p) 0
  let s := s.onCore p fun k => { k with stopInj := stop }
  s.unitDone (16 + c) fun f => idxLe f n

/-- The declared inputs and sends of the pass of index `n` of logical core `c` under selection `h`; none while one is
missing. Once the index has ended they are those kept from its end. -/
def State.gathered (s : State) (c n : Nat) (h : Selection) : Option (SMap Word × SMap Word) :=
  if (s.tick n).isNone then
    match mfind s.chs.kept c with
    | some k => if k.1 = n then some k.2 else none
    | none => none
  else
    match gather (fun i => s.chiselInput (1120 + 26 * c + i) n) ((List.range 26).filter h.inputs.testBit),
        gather (fun ch => s.chiselSend c ch n) ((List.range 8).filter h.inserts.testBit) with
    | some ins, some sends => some (ins, sends)
    | _, _ => none

/-- At the end of the index in progress, the inputs and sends of passes that have not started are kept: such a pass may start
until the tick after the next (R184). -/
def State.keepPasses (s : State) : State :=
  let n := s.idx
  s.chs.next.foldl (fun s e => if idxLe e.2 n then
    match s.selAt e.1 n with
    | none => s
    | some h => match s.gathered e.1 n h with
      | some v => s.onChs fun k => { k with kept := mins k.kept e.1 (n, v.1, v.2) }
      | none => s
    else s) s

/-- Start the pass that is next for logical core `c` where everything it waits for is there and the tick at which it is
skipped has not come (R184). -/
def State.startPass (s : State) (c : Nat) : State :=
  match s.physCore c, mfind s.chs.next c with
  | some p, some n =>
    let k := s.core p
    if s.coreOff c ∨ ¬ s.upMode ∨ (mfind s.chs.mig c).isSome ∨ k.run ≠ .idle ∨ k.copying ∨ k.port ≠ [] ∨
        idxLe (nextIdx (nextIdx n)) s.idx then s
    else match s.selAt c n with
      | none => s
      | some h =>
        match s.gathered c n h with
        | some v => s.beginPass c p n h v.1 v.2
        | none => s
  | _, _ => s

/-- PASS_SKIP (R184, R195): a pass that has not started by the tick of index n + 2 is skipped. -/
def execPassSkip (core : Fin 16) (s : State) : Res :=
  match s.physCore core, mfind s.chs.next core with
  | some p, some n =>
    if (s.selAt core.val n).isNone then .next (s.onChs fun k => { k with next := mdel k.next core })
    else
    let running := (s.core p).run == .pass && (s.core p).core == core.val && (s.core p).idx == n
    .next (if ¬ running ∧ ¬ s.chs.dark.contains core.val ∧ idxLe (nextIdx (nextIdx n)) s.idx then
      ((s.onChs fun k => { k with next := mins k.next core (nextIdx n) }).bump (whole (CHS_SKIP + corePage p))).evt
        (0x40 + p) 2
    else s)
  | _, _ => .next s

/-! ### The doorbell and deferred writes (R188, R189) -/

/-- The write of CHS_DOORBELL of physical core `p` (R189, R197): discarded while the core is gated. Between the engines of
a pair it applies at the index of its tag. -/
def State.writeChsDoorbell (s : State) (p : Nat) (v : Reg32) : State :=
  if ¬ s.powered (coreIsland p) then s
  else
    let i := if s.lockstep then s.idx else ((s.logicalOf p).bind fun c => mfind s.chs.next c).getD s.idx
    s.onCore p fun k => { k with bellNext := k.bellNext ++ [(v, i)] }

/-! ### Reset programs (R193) -/

/-- Physical core that bit `b` of CHS_RESET governs. -/
def State.governed (s : State) (b : Nat) : Nat :=
  if s.fld CHS_SPARE_IN_USE = 1 ∧ s.fld CHS_SPARE_STANDS_FOR = b then 16 else b

/-- Logical core `c` has no selected program from here on. -/
def State.deselect (s : State) (c : Nat) : State :=
  s.onChs fun k => { k with sel := mdel k.sel c, selOld := mdel k.selOld c, next := mdel k.next c }

/-- Bit `b` of CHS_RESET is set: its core stops at once. -/
def State.holdCore (s : State) (b : Nat) : State :=
  let p := s.governed b
  let s := s.onCore p fun k => { k with
    run := .idle, flight := [], port := [], copying := false, delay := none, wrap := false, handler := [] }
  match s.logicalOf p with
  | some c => s.deselect c
  | none => s

/-- Bit `b` of CHS_RESET is set. -/
def State.setResetBit (s : State) (b : Nat) : State :=
  (s.holdCore b).wrN CHS_RESET ((s.rd CHS_RESET).toNat ||| 2 ^ b)

/-- Bit `b` of CHS_RESET is cleared: its core has no selection and copies its reset programs. -/
def State.clearResetBit (s : State) (b : Nat) : State :=
  let p := s.governed b
  let t := s.wrN CHS_RESET ((s.rd CHS_RESET).toNat - 2 ^ b)
  let t := ((s.logicalOf p).map t.deselect).getD t
  if s.coreRetired p ∨ ¬ s.powered (coreIsland p) then t else t.onCore p fun k => { k with copying := true }

/-- The write of CHS_RESET (R193): bits are cleared only in CONFIG and SERVICE (R478). -/
def State.writeChsReset (s : State) (m : Nat) (v : Reg32) : State :=
  let old := (s.rd CHS_RESET).toNat % 65536
  let clear := (List.range 16).filter fun b => old.testBit b && !v.toNat.testBit b
  let set := (List.range 16).filter fun b => !old.testBit b && v.toNat.testBit b
  let s := set.foldl State.setResetBit s
  if clear = [] then s
  else if ¬ s.cfgMode then s.refusedField m CHS_RESET
  else clear.foldl State.clearResetBit s

/-- A write of CHS_RESET that would release a core before REMAP is set (02, Undefined cases). -/
def State.releasesEarly (s : State) (v : Reg32) : Bool :=
  s.fld SYS_CTRL_REMAP == 0 && s.cfgMode && decide ((s.rd CHS_RESET).toNat % 65536 &&& (0xFFFF - v.toNat % 65536) ≠ 0)

/-- Copy `len` bytes of memory from `src` to `dst`. -/
def State.copyMem (s : State) (src dst len : Nat) : State :=
  let cells := s.mem.filter fun c => decide (src ≤ c.1) && decide (c.1 < src + len)
  let s := s.clearMem dst (dst + len)
  { s with
    mem := cells.foldl (fun m c => mset 0 m (dst + (c.1 - src)) c.2) s.mem
    flips := mkeep (fun a => decide (a < dst) || decide (dst + len ≤ a)) s.flips }

/-- Words of a run of memory that cannot be read: their addresses. -/
def State.badWords (s : State) (src len : Nat) : List Nat :=
  (s.flips.filter fun f => decide (src ≤ f.1) && decide (f.1 < src + len) && s.uncorrectable f.1).map fun f => f.1

/-- Word `i` of the reset copy could not be read: it is 0, and counted (R178). -/
def State.copyLost (s : State) (p i : Nat) : State :=
  ((s.setWord (progAddr p 0 i) 0).bump (whole (CHS_BERR + corePage p))).evt (0x40 + p) 3

/-- Word `i` of the reset copy is read with its check. -/
def State.copyChecked (s : State) (p i : Nat) : State :=
  match s.checkedRead (0x10 + p) (bankAddr 0 i) with
  | (some w, s) => s.setWord (progAddr p 0 i) w
  | (none, s) => (s.errResp (0x10 + p) (16 * i) 4 false 16).copyLost p i

/-- The reset copy (R193): words 0 to 4095 of the address-zero window, read through the bank port, so with the error response of
R42 while bank 0 is not ON. Words stored without error, but for the two that an injection may take, are copied as they stand. -/
def State.resetCopy (s : State) (p : Nat) : State :=
  if s.bankState 0 ≠ 2 then
    (List.range 4096).foldl (fun s i => (s.errResp (0x10 + p) (16 * i) 2 false 16).copyLost p i) s
  else
    let odd := (s.flips.filter fun f => decide (bankAddr 0 2 ≤ f.1) && decide (f.1 < bankAddr 0 4096)).map fun f =>
      (f.1 - bankAddr 0 0) / 16
    ([0, 1] ++ odd).foldl (fun s i => s.copyChecked p i) (s.copyMem (bankAddr 0 0) (progAddr p 0 0) 0x10000)

/-- RESET_COPY_DONE (R193): the core has its reset program and runs it. -/
def execResetCopyDone (p : Fin 17) (s : State) : Res :=
  .next (if ¬ (s.core p).copying then s
  else (s.resetCopy p).onCore p fun k => { k with
    copying := false, run := .boot, hdr := none, pc := 0, cyc := 0, hcyc := 0, flight := [], port := []
    delay := none, wrap := false, handler := [], xDone := false, yDone := false, outs := [], ins := [], sends := []
    r := { CoreRegs.zero with d := mset 0 [] 0 (BitVec.ofNat 72 p) } })

/-! ### Migration (R195, R196) -/

/-- The memories of physical core `src` are loaded into physical core `dst`; an uncorrectable word is loaded as 0 and
counted. -/
def State.loadMemories (s : State) (src dst : Nat) : State :=
  let a := progAddr src 0 0
  let bad := s.badWords a 0x200000
  let s := s.copyMem a (progAddr dst 0 0) 0x200000
  bad.foldl (fun s x => ((s.setWord (x - a + progAddr dst 0 0) 0).bump (whole (CHS_BERR + corePage dst))).evt (0x40 + dst) 3) s

/-- The index of the first pass after a migration from the peer: one after that of the pass it was copied at, which the peer
chooses; free between the pass that is next and the one after the index in progress (R195). -/
def State.peerIndex (s : State) (next : Nat) : Nat × State :=
  let (x, s) := s.free 48
  (if idxLe next x.toNat ∧ idxLe x.toNat (nextIdx s.idx) then x.toNat else next, s)

/-- Registers that only the peer knows: free values. -/
def State.peerRegs (s : State) : CoreRegs × State :=
  let (d, s) := (List.range 16).foldl (fun (a : SMap Word × State) i =>
    let (v, s) := a.2.free 72; (mset 0 a.1 i v, s)) ([], s)
  let (acc, s) := (List.range 4).foldl (fun (a : SMap Acc × State) i =>
    let (v, s) := a.2.free 160; (mset 0 a.1 i v, s)) ([], s)
  let (ar, s) := (List.range 37).foldl (fun (a : SMap (BitVec 16) × State) i =>
    let (v, s) := a.2.free 16; (mset 0 a.1 i (BitVec.ofNat 16 (v.toNat % 2 ^ rnWidth i)), s)) ([], s)
  (⟨d, acc, ar⟩, s)

/-- Logical core `core` migrates (R195, R196): it is loaded on its new physical core, and its first pass there begins where
it can. Copied from the peer, the memories are what its SNAP frames wrote, and the registers, the requests and the index of the
first pass are the peer's, so free; else they come from the failed core. -/
def State.migrated (s : State) (core : Nat) : State :=
  match mfind s.chs.mig core with
  | none => s
  | some g =>
    let old := s.core g.src
    let s := if g.peer then s else s.loadMemories g.src g.dst
    let (r, s) := if g.peer then s.peerRegs else (old.atHalt, s)
    let (ask, s) := if g.peer then s.free 3 else (BitVec.ofNat 3 ((if old.bell then 1 else 0) + (if old.cmsg then 2 else 0) +
      if old.timer then 4 else 0), s)
    let (msg, s) := if g.peer then s.free 32 else (old.msg, s)
    let s := s.onCore g.dst fun k => { k with
      r := r, atHalt := r, run := .idle, flight := [], port := [], moved := true, outs := []
      bell := ask.getLsbD 0, cmsg := ask.getLsbD 1, timer := ask.getLsbD 2, bellNext := old.bellNext, msg := msg
      lcStale := old.lcStale }
    let s := s.onChs fun k => { k with mig := mdel k.mig core, dark := k.dark.filter fun x => x != core }
    let s := s.setLmap core (0x80 + g.dst)
    let s := s.wrN CHS_MIGRATE (2 ^ 31 + (if g.peer then 2 ^ 30 else 0) + g.src * 2 ^ 16 + g.dst * 2 ^ 8 + core)
    let s := if g.dst = 16 then
      ((s.setFld CHS_SPARE_IN_USE 1).setFld CHS_SPARE_STANDS_FOR g.src).sprLog 2 false g.inj g.src 16 else s
    let s := match g.peer, mfind s.chs.next core with
      | true, some n =>
        let (m, s) := s.peerIndex n
        s.onChs fun k => { k with next := mins k.next core m }
      | _, _ => s
    ((s.evt 0x58 2).fusePend).startPass core

end Sys2Proof.Machine
end

