-- ==== Sys2Proof/Machine/NetFrames.lean ====
section
/-! DEFINITION. Ethernet frames (13_network_and_tether.md R289 to R292): sending, address resolution, and what a port
consumes. -/

namespace Sys2Proof.Machine

open Sys2Proof

def State.onNet (s : State) (f : Net → Net) : State := { s with net := f s.net }

/-! ### Fields of a port -/

/-- A field of Ethernet port `p`. -/
def netFld (f : Fld) (p : Nat) : Fld := f.sh (0x20 * p)

def State.netEn (s : State) (p : Nat) : Bool := s.fld (netFld NET_PORT_CTRL_EN p) == 1 && s.powered 15 && s.upMode
def State.netIp (s : State) (p : Nat) : Nat := (s.rd (NET_PORT_IP + 0x20 * p)).toNat
def State.netMac (s : State) (p : Nat) : Nat :=
  (s.rd (NET_PORT_MAC_LO + 0x20 * p)).toNat + 2 ^ 32 * ((s.rd (NET_PORT_MAC_HI + 0x20 * p)).toNat % 2 ^ 16)

/-- A big-endian field of a list of bytes. -/
def beAt (bs : List Byte) (o n : Nat) : Nat := beNat ((bs.drop o).take n)

/-- A frame is dropped and counted (R289). -/
def State.rxDrop (s : State) (p : Nat) : State := (s.bump (whole (NET_PORT_RXDROP + 0x20 * p))).evt 0xC0 4

/-! ### Sending (R289, R291) -/

/-- An Ethernet frame of port `p` without its FCS, padded to 60 bytes, with the port's tag where VLAN_EN is 1. -/
def State.ethFrame (s : State) (p dst etype pcp : Nat) (body : List Byte) : List Byte :=
  let tag := if s.fld (netFld NET_PORT_CTRL_VLAN_EN p) = 1 then
    beBytes 2 0x8100 ++ beBytes 2 (pcp * 2 ^ 13 + s.fld (netFld NET_PORT_CTRL_VID p)) else []
  let f := beBytes 6 dst ++ beBytes 6 (s.netMac p) ++ tag ++ beBytes 2 etype ++ body
  f ++ List.replicate (60 - f.length) 0

/-- Send a frame from port `p` in queue `q` of R291; a port whose MAC address is 0 sends nothing (R317). -/
def State.sendEth (s : State) (p q dst etype pcp : Nat) (body : List Byte) : State :=
  if s.netEn p ∧ s.netMac p ≠ 0 ∧ s.fld (netFld NET_PORT_STAT_LINK p) = 1 then
    s.emit (.eth p q (s.ethFrame p dst etype pcp body))
  else s

/-- The Internet checksum of a list of bytes. -/
def inetSum (bs : List Byte) : Nat :=
  let rec go : List Byte → Nat
    | a :: b :: r => a.toNat * 256 + b.toNat + go r
    | [a] => a.toNat * 256
    | [] => 0
  let x := go bs
  let x := x % 65536 + x / 65536
  let x := x % 65536 + x / 65536
  65535 - x % 65536

/-- An IPv4 packet (R289): TTL 64, DF set, identification 0, no options. -/
def ipv4 (src dst proto dscp : Nat) (body : List Byte) : List Byte :=
  let h (c : Nat) := beBytes 2 (0x4500 + dscp * 4) ++ beBytes 2 (20 + body.length) ++ beBytes 2 0 ++ beBytes 2 0x4000 ++
    beBytes 1 64 ++ beBytes 1 proto ++ beBytes 2 c ++ beBytes 4 src ++ beBytes 4 dst
  h (inetSum (h 0)) ++ body

/-- A UDP datagram; the manual does not say what its checksum field holds, so it is free (log entry 2). -/
def State.udp (s : State) (sp dp : Nat) (body : List Byte) : List Byte × State :=
  let (c, s) := s.free 16
  (beBytes 2 sp ++ beBytes 2 dp ++ beBytes 2 (8 + body.length) ++ beBytes 2 c.toNat ++ body, s)

/-- A multicast IPv4 address and its MAC address (RFC 1112). -/
def isMulticast (ip : Nat) : Bool := ip / 2 ^ 28 == 14
def multicastMac (ip : Nat) : Nat := 0x01005E000000 + ip % 2 ^ 23

/-- The MAC address of a destination, none while it is not resolved (R290). -/
def State.resolve (s : State) (p ip : Nat) : Option Nat :=
  if isMulticast ip then some (multicastMac ip)
  else (s.net.arp.find? fun e => e.1 == ip && e.2.2 == p).map fun e => e.2.1

/-- An ARP packet of port `p`. -/
def State.arpPacket (s : State) (p op tmac tip : Nat) : List Byte :=
  beBytes 2 1 ++ beBytes 2 0x0800 ++ beBytes 1 6 ++ beBytes 1 4 ++ beBytes 2 op ++ beBytes 6 (s.netMac p) ++
    beBytes 4 (s.netIp p) ++ beBytes 6 tmac ++ beBytes 4 tip

/-- Send an IPv4 packet to `dst`: whether its destination was resolved. Where not, the packet is counted in TXDROP and the
address is asked for (R290). -/
def State.sendIp (s : State) (p q dst proto dscp pcp : Nat) (body : List Byte) : Bool × State :=
  match s.resolve p dst with
  | some mac => (true, s.sendEth p q mac 0x0800 pcp (ipv4 (s.netIp p) dst proto dscp body))
  | none => (false, (s.bump (whole (NET_PORT_TXDROP + 0x20 * p))).sendEth p 6 0xFFFFFFFFFFFF 0x0806 0 (s.arpPacket p 1 0 dst))

/-- An entry of the ARP cache; with 128 entries the oldest gives way (R290, log entry 26). -/
def State.learnArp (s : State) (p ip mac : Nat) : State :=
  s.onNet fun n =>
    let l := (n.arp.filter fun e => !(e.1 == ip && e.2.2 == p)) ++ [(ip, mac, p)]
    { n with arp := l.drop (l.length - 128) }

/-- ARP_AGE (R290): the entry of an address ages out. -/
def execArpAge (ip : BitVec 32) (s : State) : Res :=
  .next (s.onNet fun n => { n with arp := n.arp.filter fun e => e.1 != ip.toNat })

/-! ### Streams and groups of a port (R290, R301) -/

def dWord (d : List Word) (i : Nat) : Word := d.getD i 0
def dRed (d : List Word) : Bool := (dWord d 0).getLsbD 60
def dPortA (d : List Word) : Nat := wbits (dWord d 0) 59 58
def dPortB (d : List Word) : Nat := wbits (dWord d 0) 57 56
def dL24 (d : List Word) : Bool := (dWord d 0).getLsbD 55
def dPtime (d : List Word) : Nat := wbits (dWord d 0) 54 53
def dChannels (d : List Word) : Nat := wbits (dWord d 0) 52 46
def dChBase (d : List Word) : Nat := wbits (dWord d 0) 43 35
def dPt (d : List Word) : Nat := wbits (dWord d 0) 34 28
def dLinkOfs (d : List Word) : Nat := wbits (dWord d 0) 12 0
def dClass (d : List Word) : Nat := wbits (dWord d 0) 62 61
/-- Destination address, destination port and source port of path 0 (A) or 1 (B). -/
def dDstIp (d : List Word) (b : Nat) : Nat := wbits (dWord d (1 + b)) 63 32
def dDstPort (d : List Word) (b : Nat) : Nat := wbits (dWord d (1 + b)) 31 16
def dSrcPort (d : List Word) (b : Nat) : Nat := wbits (dWord d (1 + b)) 15 0
def dSrc (d : List Word) : Nat := wbits (dWord d 3) 63 32
def dRtpOfs (d : List Word) : Nat := wbits (dWord d 3) 31 0

/-- The paths of a stream: path number and port. -/
def dPaths (d : List Word) : List (Nat × Nat) := (0, dPortA d) :: if dRed d then [(1, dPortB d)] else []

/-- Samples per channel and microseconds of a packet (R296). -/
def dSamples (d : List Word) : Nat := match dPtime d with | 0 => 6 | 1 => 12 | _ => 48
def dMicros (d : List Word) : Nat := match dPtime d with | 0 => 125 | 1 => 250 | _ => 1000
/-- Bytes of a sample and of a payload. -/
def dWidth (d : List Word) : Nat := if dL24 d then 3 else 2
def dPayload (d : List Word) : Nat := dChannels d * dSamples d * dWidth d

/-- An IGMPv3 membership report with one group record of type `t` (R290). -/
def State.igmpReport (s : State) (p group t : Nat) : State :=
  let b (c : Nat) := beBytes 2 0x2200 ++ beBytes 2 c ++ beBytes 2 0 ++ beBytes 2 1 ++ beBytes 1 t ++ beBytes 1 0 ++
    beBytes 2 0 ++ beBytes 4 group
  (s.sendIp p 6 0xE0000016 2 0 0 (b (inetSum (b 0)))).2

/-- Reports of type `t` for the groups of a receive stream, on each port it uses. -/
def State.reportStream (s : State) (d : List Word) (t : Nat) : State :=
  (dPaths d).foldl (fun s b => if isMulticast (dDstIp d b.1) then s.igmpReport b.2 (dDstIp d b.1) t else s) s

/-- Answer an IGMP query on port `p`. -/
def State.answerQuery (s : State) (p : Nat) : State :=
  s.net.rx.foldl (fun s r => (dPaths r.2.desc).foldl (fun s b =>
    if b.2 = p ∧ isMulticast (dDstIp r.2.desc b.1) then s.igmpReport p (dDstIp r.2.desc b.1) 2 else s) s) s

/-- The open receive stream and path that a packet on port `p` matches (R290, R299). -/
def State.rxMatch (s : State) (p src dst sp dp : Nat) : Option (Nat × Nat) :=
  s.net.rx.findSome? fun r =>
    let d := r.2.desc
    (dPaths d).findSome? fun b =>
      if b.2 = p ∧ dDstIp d b.1 = dst ∧ dDstPort d b.1 = dp ∧ (dSrcPort d b.1 = 0 ∨ dSrcPort d b.1 = sp) ∧
          (dSrc d = 0 ∨ dSrc d = src) then some (r.1, b.1) else none

/-! ### Receiving (R289, R290, R292) -/

/-- Capture filter `k` matches a frame of port `p` with this EtherType and, where it is UDP, destination port. -/
def State.capFilter (s : State) (k p etype : Nat) (dport : Option Nat) : Bool :=
  let f (x : Fld) : Nat := s.fld (x.sh (4 * k))
  f NET_CAPF_EN == 1 && f NET_CAPF_PORT == p &&
    if f NET_CAPF_MATCH = 0 then f NET_CAPF_VALUE == etype else dport == some (f NET_CAPF_VALUE)

/-- A PTP instance runs on port `p`. -/
def State.ptpOn (s : State) (p : Nat) : Bool :=
  [0, 1].any fun i => s.fld (PTP_CTRL_EN.sh (0x20 * i)) == 1 && s.fld (PTP_CTRL_PORT.sh (0x20 * i)) == p

/-- An ARP packet: a request for this port's address is answered, an answer is learnt. -/
def State.arpReceive (s : State) (p : Nat) (b : List Byte) : Bool × State :=
  let op := beAt b 6 2
  let smac := beAt b 8 6
  let sip := beAt b 14 4
  if b.length < 28 ∨ beAt b 24 4 ≠ s.netIp p then (false, s)
  else
    let s := s.learnArp p sip smac
    if op = 1 then (true, s.sendEth p 6 smac 0x0806 0 (s.arpPacket p 2 smac sip)) else (decide (op = 2), s)

/-- An IPv4 packet on port `p` from MAC address `mac`: whether it is consumed. Frames with a command of their own (PTP,
AES67, Tether) are left to it (log entry 27). -/
def State.ipReceive (s : State) (p mac : Nat) (b : List Byte) : Bool × State :=
  let ihl := beAt b 0 1
  let src := beAt b 12 4
  let dst := beAt b 16 4
  let body := ((b.drop 20).take (beAt b 2 2 - 20))
  if b.length < 20 ∨ ihl ≠ 0x45 ∨ beAt b 2 2 < 20 then (false, s)
  else match beAt b 9 1 with
    | 1 =>
      if dst = s.netIp p ∧ beAt body 0 2 = 0x0800 ∧ 8 ≤ body.length then
        let r (c : Nat) := beBytes 2 0 ++ beBytes 2 c ++ body.drop 4
        (true, s.sendEth p 6 mac 0x0800 0 (ipv4 (s.netIp p) src 1 0 (r (inetSum (r 0)))))
      else (false, s)
    | 2 => if beAt body 0 1 = 0x11 then (true, s.answerQuery p) else (false, s)
    | 17 =>
      let dp := beAt body 2 2
      (((dp == 319 || dp == 320) && s.ptpOn p) || (dp == bitsNat s.net.ctrl.toNat 15 0 && dst == s.netIp p) ||
        (s.rxMatch p src dst (beAt body 0 2) dp).isSome, s)
    | _ => (false, s)

/-- An IPv4 fragment, or a packet with IP options (R289). -/
def ipOdd (b : List Byte) : Bool :=
  beAt b 6 2 % 2 ^ 14 != 0 || (beAt b 0 1 / 16 == 4 && decide (5 < beAt b 0 1 % 16))

/-- The UDP destination port of an IPv4 packet. -/
def udpPort (b : List Byte) : Option Nat := if beAt b 0 1 = 0x45 ∧ beAt b 9 1 = 17 then some (beAt b 22 2) else none

/-- ETH_FRAME_RECEIVE (R289, R290): a frame, FCS included, comes in on a port; `fcsOk` tells whether its FCS is right. -/
def execEthFrameReceive (port : Fin 4) (frame : List Byte) (fcsOk : Bool) (cycles : Nat) (s : State) : Res :=
  let p := port.val
  let s := s.advance cycles
  if ¬ s.netEn p then .next s
  else if ¬ fcsOk then .next (s.bump (whole (NET_PORT_RXCRC + 0x20 * p)))
  else
    let e := beAt frame 12 2
    let tagged := e == 0x8100
    let vid := beAt frame 14 2 % 4096
    let etype := if tagged then beAt frame 16 2 else e
    let body := (frame.drop (if tagged then 18 else 14)).take (frame.length - 4 - if tagged then 18 else 14)
    let mac := beAt frame 6 6
    if frame.length < 64 ∨ 1522 < frame.length ∨ etype = 0x8100 ∨ etype = 0x88A8 ∨ etype = 0x9100 ∨ etype = 0x8808 ∨
        etype = 0x86DD ∨ (etype = 0x0800 ∧ ipOdd body) ∨ (tagged ∧ s.fld (netFld NET_PORT_CTRL_VLAN_EN p) = 1 ∧ vid ≠ s.fld (netFld NET_PORT_CTRL_VID p)) then
      .next (s.rxDrop p)
    else
      let dp := if etype = 0x0800 then udpPort body else none
      let caps := (List.range 16).filter fun k => s.capFilter k p etype dp
      let s := caps.foldl (fun s k => s.captureOn 5 (some k)) s
      let (used, s) := match etype with
        | 0x0806 => s.arpReceive p body
        | 0x0800 => s.ipReceive p mac body
        | 0x8809 => (beAt body 0 1 == 0x0A, s)
        | 0x88F7 => (s.ptpOn p, s)
        | _ => (false, s)
      .next (if used || caps != [] then s else s.rxDrop p)

end Sys2Proof.Machine
end

