-- ==== Sys2Proof/Machine/NetStreams.lean ====
section
/-! DEFINITION. AES67 streams (13_network_and_tether.md R296 to R304): the media clock, packets received and sent, and the
commands that open and close streams. -/

namespace Sys2Proof.Machine

open Sys2Proof

/-! ### The media clock (R297) -/

/-- M of the tick whose station time is `t`, and whether the tick carries stream samples. At 96 kHz the tick count at 96 kHz
is rounded under R52 and every other tick has an integer M. -/
def State.mediaClock (s : State) (t : Nat) : Nat × Bool :=
  if s.plb.fast then
    let x := (roundEven 32 ((t * 96000 : Nat) : Int)).toNat
    (x / 2 % 2 ^ 32, x % 2 == 0)
  else ((roundEven 32 ((t * 48000 : Nat) : Int)).toNat % 2 ^ 32, true)

/-- A difference of media clock values as a signed 32-bit number. -/
def mDiff (a b : Nat) : Int := (BitVec.ofNat 32 (2 ^ 32 + a % 2 ^ 32 - b % 2 ^ 32)).toInt

/-! ### Receive (R298, R299) -/

def State.onRxs (s : State) (st : Nat) (f : RxStream → RxStream) : State :=
  s.onNet fun n => { n with rx := match mfind n.rx st with
    | some x => mins n.rx st (f x)
    | none => n.rx }

/-- A field of stream `st`. -/
def strmFld (f : Fld) (st : Nat) : Fld := f.sh (0x10 * st)

/-- The samples of a packet for position `i`: one word per channel (R58, R296). -/
def packetWords (d : List Word) (payload : List Byte) (i : Nat) : List Word :=
  let w := dWidth d
  (List.range (dChannels d)).map fun c => inCode (8 * w) (beAt payload ((i * dChannels d + c) * w) w)

/-- The words of a stream for the index in progress are delivered. At 96 kHz they pass through the interpolator, whose
coefficients are not printed, so the values are free. -/
def State.deliverStream (s : State) (d : List Word) (ws : List Word) : State :=
  (List.range ws.length).foldl (fun s c =>
    let (v, s) := if s.plb.fast then s.free 72 else (ws.getD c 0, s)
    s.deliver (544 + dChBase d + c) (some v) s.idx s.trs.now) s

/-- The channels of a stream count a late sample (R111). -/
def State.lateStream (s : State) (d : List Word) : State :=
  (List.range (dChannels d)).foldl (fun s c => s.count 0 (544 + dChBase d + c) 1 0) s

/-- What became of one sample of a packet. -/
structure SampleFate where
  used : Bool
  late : Bool
  early : Bool
  deriving DecidableEq, Repr

/-- Position `i` of a packet of stream `st` whose samples begin at media clock value `m0` (R298); `inj`: as if received at
D_n (R322). -/
def State.rxSample (s : State) (st m0 i : Nat) (payload : List Byte) (inj : Bool) : SampleFate × State :=
  match mfind s.net.rx st with
  | none => (⟨false, false, false⟩, s)
  | some x =>
    let m := (m0 + i) % 2 ^ 32
    if x.filled.contains m then (⟨false, false, false⟩, s)
    else
      let (now, whole) := s.mediaClock s.plb.tickTime
      let diff := mDiff m now
      let ws := packetWords x.desc payload i
      if 4800 < diff then (⟨false, false, true⟩, s)
      else if 0 < diff ∧ ¬ inj then
        (⟨true, false, false⟩, s.onRxs st fun x => { x with due := x.due ++ [(m, ws)], filled := m :: x.filled })
      else
        let open' : Bool := match s.tick s.idx with | some t => t.dl.isNone | none => false
        if diff = 0 ∧ whole ∧ open' ∧ ¬ inj then
          (⟨true, false, false⟩, (s.onRxs st fun x => { x with filled := m :: x.filled, last := true }).deliverStream x.desc ws)
        else (⟨false, true, false⟩, s.lateStream x.desc)

/-- The low-rate fields of RXS_LOST: path A above path B (R319). -/
def lostFld (b : Nat) : Fld := if b = 0 then ⟨RXS_LOST, 31, 16⟩ else ⟨RXS_LOST, 15, 0⟩

/-- A gap in the sequence numbers of path `b` (R299). -/
def State.seqGap (s : State) (st b seq : Nat) : State :=
  let last := match mfind s.net.rx st with | some x => if b = 0 then x.seqA else x.seqB | none => none
  let s := match last with
    | some l =>
      let gap := (seq + 65535 - l) % 65536
      if 0 < gap ∧ gap < 32768 then (s.bump (strmFld (lostFld b) st) gap).evt 0xC2 1 else s
    | none => s
  let t := s.time
  s.onRxs st fun x => if b = 0 then { x with seqA := some seq, timeA := some t } else { x with seqB := some seq, timeB := some t }

/-- A packet of receive stream `st` on path `b` (R298, R299). -/
def State.rxPacket (s : State) (st b : Nat) (k : RtpPacket) : State :=
  match mfind s.net.rx st with
  | none => s
  | some x =>
    let d := x.desc
    if k.pt ≠ dPt d ∨ k.payload.length ≠ dPayload d then s.bump (strmFld RXS_BAD_MALFORMED st)
    else
      let lowest := match s.net.rx with | (i, _) :: _ => i == st | [] => false
      let (inj, s) := if lowest then s.takeInj 0xC2 0 else (false, s)
      let s := s.seqGap st b k.seq.toNat
      let now := (s.mediaClock s.plb.tickTime).1
      let s := s.onRxs st fun x => { x with filled := x.filled.filter fun m => decide (-(2 ^ 30) < mDiff m now) }
      let m0 := (2 ^ 32 + k.ts.toNat - dRtpOfs d + dLinkOfs d) % 2 ^ 32
      let (f, s) := (List.range (dSamples d)).foldl (fun (a : SampleFate × State) i =>
        let (g, s) := a.2.rxSample st m0 i k.payload inj
        (⟨a.1.used || g.used, a.1.late || g.late, a.1.early || g.early⟩, s)) (⟨false, false, false⟩, s)
      let s := if f.used then s.wr (RXS_PKTS + 0x10 * st) (s.rd (RXS_PKTS + 0x10 * st) + 1) else s
      let s := if f.late then (s.bump (strmFld RXS_BAD_LATE st)).evt 0xC2 0 else s
      if f.early then s.bump (strmFld RXS_BAD_EARLY st) else s

/-- AES67_PACKET_RECEIVE (R296, R298). -/
def execAes67PacketReceive (port : Fin 4) (pkt : RtpPacket) (s : State) : Res :=
  if ¬ s.netEn port then .next s
  else match s.rxMatch port pkt.srcIp.toNat pkt.dstIp.toNat pkt.srcPort.toNat pkt.dstPort.toNat with
    | none => .next (s.rxDrop port)
    | some (st, b) =>
      if pkt.version ≠ 2 ∨ pkt.padding then .next (s.rxDrop port) else .next (s.rxPacket st b pkt)

/-- Receive streams at the tick of the index in progress (R298): samples due are present. -/
def State.netRxTick (s : State) : State :=
  let (now, whole) := s.mediaClock s.plb.tickTime
  s.net.rx.foldl (fun s r =>
    let st := r.1
    let x := r.2
    if whole then
      let hit := x.due.find? fun e => e.1 == now
      let s := s.onRxs st fun x => { x with
        due := x.due.filter fun e => decide (0 < mDiff e.1 now)
        last := hit.isSome }
      match hit with
      | some (_, ws) => s.deliverStream x.desc ws
      | none => s
    else if x.last then s.deliverStream x.desc (List.replicate (dChannels x.desc) 0) else s) s

/-! ### Transmit (R300) -/

/-- A transmit stream uses sink `544 + c`. -/
def usesChannel (d : List Word) (c : Nat) : Bool := decide (dChBase d ≤ c) && decide (c < dChBase d + dChannels d)

/-- Sink `k` (544 to 1055) is taken for index `n`, once for every stream that sends it. -/
def State.netTake (s : State) (k n : Nat) : State :=
  let c := k - 544
  if (s.net.tx ++ s.net.closing).any fun t => usesChannel t.2.desc c then
    let (w, s) := s.takeSink k n
    let (m, whole) := s.mediaClock (if n = s.idx then s.plb.tickTime else s.plb.prevTime)
    if ¬ whole then s
    else
      let (w, s) := if s.plb.fast then s.free 72 else (w, s)
      let keep (e : Nat) : Bool := decide (e / 2 ^ 32 ≠ c) || decide (mDiff m (e % 2 ^ 32) < 256)
      s.onNet fun x => { x with taken := mins (mkeep keep x.taken) (c * 2 ^ 32 + m) w }
  else s

/-- The word taken from channel `c` at media clock value `m`. -/
def State.takenAt (s : State) (c m : Nat) : Option Word := mfind s.net.taken (c * 2 ^ 32 + m % 2 ^ 32)

/-- The first packet start at or after `x.next` whose samples have all been taken (R300). -/
def State.packetStart (s : State) (x : TxStream) : Option Nat :=
  let d := x.desc
  ((List.range 512).map fun j => (x.next + j) % 2 ^ 32).find? fun m =>
    m % dSamples d == 0 && (List.range (dSamples d)).all fun i =>
      (List.range (dChannels d)).all fun c => (s.takenAt (dChBase d + c) (m + i)).isSome

/-- The samples of a packet as bytes, big-endian and interleaved, and how many saturated (R56, R296). -/
def State.packetBytes (s : State) (d : List Word) (m : Nat) : List Byte × Nat :=
  let w := dWidth d
  let codes := (List.range (dSamples d)).flatMap fun i => (List.range (dChannels d)).map fun c =>
    outCode (8 * w) ((s.takenAt (dChBase d + c) (m + i)).getD 0)
  (codes.flatMap fun p => beBytes w (BitVec.ofInt (8 * w) p.1).toNat, (codes.filter fun p => p.2).length)

/-- PCP and DSCP of a stream of class `c` (R291). -/
def State.streamQos (s : State) (c : Nat) : Nat × Nat × Nat :=
  match c with
  | 0 => (3, 5, s.fld NET_QOS_DSCP_C0)
  | 1 => (4, 4, s.fld NET_QOS_DSCP_C1)
  | _ => (5, 0, s.fld NET_QOS_DSCP_C2)

/-- Send the packet of stream `st` that starts at media clock value `m` (R300). The standby keeps the counters and sends
nothing (01 R21). -/
def State.sendPacket (s : State) (st : Nat) (x : TxStream) (m : Nat) : State :=
  let d := x.desc
  let (bs, clips) := s.packetBytes d m
  let s := if 0 < clips then s.bump (whole (TXS_CLIP + 0x10 * st)) clips else s
  let s := s.wr (TXS_PKTS + 0x10 * st) (s.rd (TXS_PKTS + 0x10 * st) + 1)
  if ¬ s.sends then s
  else
    let rtp := beBytes 2 (0x8000 + dPt d) ++ beBytes 2 x.seq ++ beBytes 4 ((m + dRtpOfs d) % 2 ^ 32) ++ beBytes 4 (dSrc d)
    let (q, pcp, dscp) := s.streamQos (dClass d)
    (dPaths d).foldl (fun s b =>
      let (u, s) := s.udp (dSrcPort d b.1) (dDstPort d b.1) (rtp ++ bs)
      let (ok, s) := s.sendIp b.2 q (dDstIp d b.1) 17 dscp pcp u
      if ok then s else (s.bump (whole (TXS_DROP + 0x10 * st))).evt 0xC3 0) s

/-- AES67_PACKET_SEND (R300, R304): a closed stream still sends a packet whose first sample does not follow its close. -/
def execAes67PacketSend (st : Fin 128) (s : State) : Res :=
  let step (x : TxStream) (m : Nat) : TxStream := { x with next := (m + dSamples x.desc) % 2 ^ 32, seq := (x.seq + 1) % 65536 }
  match mfind s.net.closing st with
  | some x =>
    match s.packetStart x, x.close with
    | some m, some c =>
      if mDiff m c ≤ 0 then
        .next ((s.onNet fun n => { n with closing := mins n.closing st (step x m) }).sendPacket st x m)
      else .next (s.onNet fun n => { n with closing := mdel n.closing st })
    | _, _ => .next s
  | none =>
    match mfind s.net.tx st with
    | none => .next s
    | some x =>
      match s.packetStart x with
      | none => .next s
      | some m => .next ((s.onNet fun n => { n with tx := mins n.tx st (step x m) }).sendPacket st x m)

/-! ### Opening and closing (R302 to R304) -/

/-- The summary and status registers of the streams follow (R319). -/
def State.refreshStreams (s : State) : State :=
  let stat (d : List Word) := 2 ^ 31 + (if dRed d then 2 ^ 30 else 0) + dClass d * 2 ^ 26 + dChannels d
  let rx := s.net.rx
  let tx := s.net.tx
  let chans (l : List (List Word)) := ((List.range 512).filter fun c => l.any fun d => usesChannel d c).length
  let s := s.wrN NET_STRM_SUM (rx.length * 2 ^ 24 + chans (rx.map fun r => r.2.desc))
  let s := s.wrN (NET_STRM_SUM + 0x1000) (tx.length * 2 ^ 24 + chans (tx.map fun r => r.2.desc))
  let s := (List.range 128).foldl (fun s i =>
    s.wrN (RXS_STAT + 0x10 * i) (match mfind rx i with | some x => stat x.desc | none => 0)) s
  (List.range 128).foldl (fun s i =>
    s.wrN (TXS_STAT + 0x10 * i) (match mfind tx i with | some x => stat x.desc | none => 0)) s

/-- Data rate of port `p` in kb/s (R288, R303). -/
def State.portRate (s : State) (p : Nat) : Nat :=
  match s.fld (netFld NET_PORT_CTRL_MODE p) with | 0 => 1000000 | 2 => 25000000 | _ => 10000000

/-- Bandwidth of a stream on port `p`, in kb/s (R303). -/
def State.bandwidth (s : State) (d : List Word) (p : Nat) : Nat :=
  (dPayload d + 78 + 4 * s.fld (netFld NET_PORT_CTRL_VLAN_EN p)) * 8 * 1000 / dMicros d

/-- The checks of R303 after the descriptor has been read: the code and AUX of the first that fails. -/
def State.streamCheck (s : State) (tx : Bool) (st : Nat) (d : List Word) : Option (Nat × Nat) :=
  let opened := (if tx then s.net.tx.map fun r => (r.1, r.2.desc) else s.net.rx.map fun r => (r.1, r.2.desc))
  let use (p : Nat) := ((d :: opened.map fun r => r.2).map fun e =>
    ((dPaths e).filter fun b => b.2 == p).length * s.bandwidth e p).sum
  let limit (p : Nat) := s.portRate p * max 1 (min 95 (s.fld (netFld NET_PORT_CTRL_MEDIA_PCT p))) / 100
  if dPtime d = 3 then some (0x02, 0x01)
  else if dChannels d = 0 ∨ 64 < dChannels d ∨ 1440 < dPayload d then some (0x02, 0x02)
  else if ¬ tx ∧ (dLinkOfs d < dSamples d ∨ 4800 < dLinkOfs d) then some (0x02, 0x03)
  else if dPt d < 96 then some (0x02, 0x04)
  else if ((dPaths d).any fun b => s.fld (netFld NET_PORT_CTRL_EN b.2) == 0) ∨ (dRed d ∧ dPortA d = dPortB d) then
    some (0x02, 0x05)
  else if 512 < dChBase d + dChannels d then some (0x13, 0x10)
  else if ¬ tx ∧ opened.any fun r =>
      decide (dChBase r.2 < dChBase d + dChannels d) && decide (dChBase d < dChBase r.2 + dChannels r.2) then some (0x13, 0x11)
  else if opened.any fun r => r.1 == st then some (0x13, 0x12)
  else if ¬ tx ∧ opened.any fun r => (dPaths r.2).any fun a => (dPaths d).any fun b =>
      a.2 == b.2 && dDstIp r.2 a.1 == dDstIp d b.1 && dDstPort r.2 a.1 == dDstPort d b.1 then some (0x13, 0x13)
  else match (dPaths d).find? fun b => decide (limit b.2 < use b.2) with
    | some b => some (0x10, 0x20 + use b.2 % 2 ^ 24 * 256)
    | none => none

/-- Read the descriptor at global word address `a`; word 2 only where RED is 1 (R301). -/
def State.readDesc (s : State) (a : Nat) : Option (List Word) × State :=
  match State.burstRead 5 2 0 a s with
  | (some [w0, w1], s) =>
    let red := w0.getLsbD 60
    match State.burstRead 5 (if red then 2 else 1) (if red then 2 else 0) (a + if red then 2 else 3) s with
    | (some [w2, w3], s) => (some [w0, w1, w2, w3], s)
    | (some [w3], s) => (some [w0, w1, 0, w3], s)
    | (_, s) => (none, s)
  | (_, s) => (none, s)

/-- STREAM_OPEN (R302 to R304). -/
def execStreamOpen (s : State) : Res :=
  s.runCmd 0x70 fun c s =>
    let tx := (c.word 1).getLsbD 63
    let st := c.bits 1 62 56
    match s.readDesc (c.bits 1 22 0) with
    | (none, s) => s.completeCmd c { primary := 0x02, aux := 0x01 }
    | (some d, s) =>
      match s.streamCheck tx st d with
      | some (code, aux) => s.completeCmd c { primary := code, aux := aux }
      | none =>
        let m := (s.mediaClock s.plb.tickTime).1
        let s := s.onNet fun n =>
          if tx then { n with tx := mins n.tx st ⟨d, m, 0, none⟩, closing := mdel n.closing st }
          else { n with rx := mins n.rx st ⟨d, none, none, none, none, [], [], false⟩ }
        let s := if tx then s else s.reportStream d 4
        s.refreshStreams.completeCmd c { primary := 0 }

/-- STREAM_CLOSE (R302 to R304). -/
def execStreamClose (s : State) : Res :=
  s.runCmd 0x71 fun c s =>
    let tx := (c.word 1).getLsbD 63
    let st := c.bits 1 62 56
    let bad (s : State) := s.completeCmd c { primary := 0x13, aux := 0x12 }
    if tx then
      match mfind s.net.tx st with
      | none => bad s
      | some x =>
        let m := (s.mediaClock s.plb.tickTime).1
        (s.onNet fun n => { n with tx := mdel n.tx st, closing := mins n.closing st { x with close := some m } }).refreshStreams.completeCmd
          c { primary := 0 }
    else
      match mfind s.net.rx st with
      | none => bad s
      | some x =>
        ((s.reportStream x.desc 3).onNet fun n => { n with rx := mdel n.rx st }).refreshStreams.completeCmd c { primary := 0 }

/-- The channels of the open receive streams (05 R104): first channel and count. -/
def State.rxSets (s : State) : List (Nat × Nat) := s.net.rx.map fun r => (dChBase r.2.desc, dChannels r.2.desc)

end Sys2Proof.Machine
end

