-- ==== Sys2Proof/Machine/CairnStage.lean ====
section
/-! DEFINITION. Staging and arming (07_cairn_scenes.md R139 to R141, R151 to R155, R160, R162): STAGE, COMMIT, ABORT and
the comparison of stage digests. -/

namespace Sys2Proof.Machine

open Sys2Proof

/-! ### Records (R139 to R141) -/

/-- The register at offset `off` that the tables define; PRT_GRP_CTRL and PRT_GRP_STAT exist on the first page of each group
of four (11 R256). -/
def findReg (off : Nat) : Option RegRow :=
  let p := off / 0x1000
  if 0x80 ≤ p ∧ p < 0xa0 ∧ p % 4 ≠ 0 ∧ 0xc0 ≤ off % 0x1000 then none else regRow off

/-- The bits of the register at `off` that a REG record may stage: of TYD_CTRL only REC_EN. -/
def stagedMask (off : Nat) : Nat :=
  if off = TYD_CTRL then 2 ^ TYD_CTRL_REC_EN.lo
  else match findReg off with
    | some r => if r.staged then r.rw else 0
    | none => 0

/-- The unit of a staged register (R141). -/
def regUnit (off : Nat) : Nat :=
  let p := off / 0x1000
  if 0x80 ≤ p ∧ p < 0xb0 then 1 else if 0xc0 ≤ p ∧ p < 0xd0 then 2 else if 0x78 ≤ p ∧ p < 0x80 then 4 else 3

/-- Bits of the register at `off` of which a host write is a live write that waits for the next sample index (R73, R140). Those of
unit 3 wait for the next loop update instead (14_mallet_amplifiers.md R343). -/
def liveMask (off : Nat) : Nat := if regUnit off = 3 then 0 else stagedMask off

/-- The register at `off` with the live writes that wait. -/
def State.written (s : State) (off : Nat) (v : Reg32) : Reg32 :=
  match mfind s.crn.live off with
  | some w => (v &&& ~~~(BitVec.ofNat 32 (liveMask off))) ||| w
  | none => v

/-- A refusal that names record `i`. -/
def recordInfo (code i : Nat) : CplInfo := { primary := code, kind := 6, entry := i }

/-- STAGE_FAULT of unit `u` at record `i`. -/
def stageFault (u i : Nat) : CplInfo := { primary := 0x40, kind := 8, unit := u, entry := i }

/-- Change the plan of the stage in progress. -/
def State.onPlan (s : State) (f : StagePlan → StagePlan) : State := s.onCrn fun k => { k with plan := k.plan.map f }

/-- The scene involves unit `u`. -/
def State.involve (s : State) (u : Nat) : State := s.onPlan fun p => { p with units := p.units ||| 2 ^ u }

/-- Cairn reads `n` bank words from global word `a` on; none where one cannot be read. -/
def State.sceneRun (s : State) : Nat → Nat → Option (List Word) × State
  | 0, _ => (some [], s)
  | n + 1, a => match s.bankRead 2 (globalAddr a) 16 with
    | (none, s) => (none, s)
    | (some w, s) => match s.sceneRun n (a + 1) with
      | (none, s) => (none, s)
      | (some ws, s) => (some (w :: ws), s)

/-- Words of a TABLE record lie wholly within one copied row of R70. -/
def tableFits (dst n : Nat) : Bool :=
  trussRanges.any fun r => decide (r.1 ≤ 16 * dst) && decide (16 * (dst + n) ≤ r.2.1)

/-- Write words to memory from `a` on, 16 bytes apart, where `ok` holds; the plan remembers them (R153). -/
def State.stageWords (s : State) (ok : Nat → Bool) : Nat → List Word → State
  | _, [] => s
  | a, w :: ws =>
    let s := if ok a then (s.setWord a w).onPlan fun p => { p with set := a :: p.set.filter fun x => x != a } else s
    s.stageWords ok (a + 16) ws

/-- The physical core of logical core `c` as a record finds it (R152 step 2): none where the core is dark by R196 or its
cluster is gated. -/
def State.stagePhys (s : State) (c : Nat) : Option Nat :=
  if s.chs.dark.contains c then none
  else match s.physCore c with
    | none => none
    | some p => if s.powered (coreIsland p) then some p else none

/-- Stage PATCH words of core `c` from offset `a` of its window on; a later word for the same place stands (R140). -/
def State.stagePatches (s : State) (c : Nat) : Nat → List Word → State
  | _, [] => s
  | a, w :: ws => (s.onPlan fun p => { p with
      patches := (p.patches.filter fun x => !(x.core == c && x.addr == a)) ++ [⟨c, a, w, 0⟩] }).stagePatches c (a + 16) ws

/-- Apply record `i`, word `w`, of the scene of `len` words at global word `base`, with `used` the PATCH words that the
records before it named for each core (R139, R140, R152 step 2): the refusal, where there is one. -/
def State.applyRecord (s : State) (base len i : Nat) (used : Nat → Nat) (w : Word) : Option CplInfo × State :=
  let f (hi lo : Nat) : Nat := wbits w hi lo
  let c := f 67 64
  let conflict := some (recordInfo 0x13 i)
  match f 71 68 with
  | 0 => (none, s)
  | 1 =>
    let n := f 67 52 + 1
    if len < f 51 32 + n ∨ ¬ tableFits (f 20 0) n then (conflict, s)
    else match s.sceneRun n (base + f 51 32) with
      | (none, s) => (some (stageFault 0 i), s)
      | (some ws, s) =>
        (none, (s.involve 0).stageWords (fun a => trussWord a == some true) (copyBase s.other + 16 * f 20 0) ws)
  | 2 =>
    let off := f 23 0
    if stagedMask off = 0 then (conflict, s)
    else if (pageIsland (off / 0x1000)).any fun isl => !s.powered isl then (some (stageFault (regUnit off) i), s)
    else (none, (s.involve (regUnit off)).onPlan fun p => { p with regs := mins p.regs off (BitVec.ofNat 32 (f 63 32)) })
  | 3 =>
    let n := f 62 51 + 1
    let bank := f 63 63
    if len < f 19 0 + n ∨ 4096 < f 50 39 + n then (conflict, s)
    else if (s.stagePhys c).isSome && (mfind s.chs.sel c).any fun h => h.bank == bank then (some (recordInfo 0x21 i), s)
    else match s.stagePhys c, s.sceneRun n (base + f 19 0) with
      | some p, (some ws, s) =>
        (none, (s.involve (16 + c)).stageWords (fun _ => true) (progAddr p bank (f 50 39)) ws)
      | _, (_, s) => (some (stageFault (16 + c) i), s)
  | 4 =>
    let n := f 47 42 + 1
    if len < f 19 0 + n ∨ 64 < used c + n ∨ 16384 < f 62 49 + n then (conflict, s)
    else match s.stagePhys c, s.sceneRun n (base + f 19 0) with
      | some _, (some ws, s) =>
        (none, (s.involve (16 + c)).stagePatches c ((if f 63 63 = 0 then 0x100000 else 0x180000) + 16 * f 62 49) ws)
      | _, (_, s) => (some (stageFault (16 + c) i), s)
  | 5 =>
    if f 63 63 = 0 then
      (none, (s.involve (16 + c)).onChs fun k => { k with selNext := mins k.selNext c none })
    else match s.stagePhys c with
      | none => (some (stageFault (16 + c) i), s)
      | some p =>
        let word (j : Nat) : Word := s.word (progAddr p (f 62 62) j)
        (none, (s.involve (16 + c)).onChs fun k => { k with
          selNext := mins k.selNext c (some (headerOf (f 62 62) (word 0) (word 1) (word 2))) })
  | _ => (conflict, s)

/-- PATCH words that a record names, and its core. -/
def patchCount (w : Word) (c : Nat) : Nat := if wbits w 71 68 = 4 ∧ wbits w 67 64 = c then wbits w 47 42 + 1 else 0

/-- Apply `n` records from record `i` on, up to the first refusal. -/
def State.applyRecords (s : State) (base len : Nat) : Nat → Nat → (Nat → Nat) → Option CplInfo × State
  | 0, _, _ => (none, s)
  | n + 1, i, used => match s.bankRead 2 (globalAddr (base + i)) 16 with
    | (none, s) => (some (stageFault 0 i), s)
    | (some w, s) => match s.applyRecord base len i used w with
      | (some e, s) => (some e, s)
      | (none, s) => s.applyRecords base len n (i + 1) fun c => used c + patchCount w c

/-! ### Programs (R152 step 3) -/

/-- Check the program that the scene leaves selected for core `c`, and latch its header. -/
def State.checkProgram (s : State) (c : Nat) : Option CplInfo × State :=
  let bank : Option Nat := match mfind s.chs.selNext c with
    | some none => none
    | some (some h) => some h.bank
    | none => (mfind s.chs.sel c).map fun h => h.bank
  match bank, s.stagePhys c with
  | some b, some p =>
    match s.header p b with
    | none => (some { primary := 0x21, kind := 7, entry := c }, s)
    | some h =>
      if 1000000000 / s.rate - 512 < h.length then (some { primary := 0x20, kind := 7, entry := c, aux := h.length }, s)
      else if (mfind s.chs.selNext c).isSome then
        (none, s.onChs fun k => { k with selNext := mins k.selNext c (some h) })
      else (none, s)
  | _, _ => (none, s)

/-- Check the programs of cores `c` on. -/
def State.checkPrograms (s : State) : List Nat → Option CplInfo × State
  | [] => (none, s)
  | c :: cs => match s.checkProgram c with
    | (some e, s) => (some e, s)
    | (none, s) => s.checkPrograms cs

/-! ### STAGE (R152 to R154) -/

/-- Batches as AUX and J_INFO give them: a plan of at most one batch counts as one. -/
def StagePlan.count (p : StagePlan) : Nat := max 1 p.batches.length

/-- Cairn returns to IDLE with nothing staged. -/
def State.unstage (s : State) : State :=
  (s.setFld CRN_STAT_STATE 0).onCrn (fun k => { k with plan := none, waitDigest := false, peerDigest := none })
    |>.onChs fun k => { k with selNext := [] }

/-- The completion of a graph check that fails (R161). -/
def checkInfo (r : CheckResult) : CplInfo :=
  { primary := r.code, kind := r.kind, entry := r.index,
    aux := if r.code = 0x13 then 0 else r.len * 2 ^ 28 + r.first * 2 ^ 16 + r.last }

/-- The completion of an admission that fails (R161). -/
def budgetInfo (a : Admission) : CplInfo :=
  { primary := 0x10, kind := if a.step = 2 then 1 else 0, entry := if a.step = 2 then a.stream else 0,
    aux := a.step * 2 ^ 30 + a.need % 2 ^ 22 }

/-- Step 4 of R152: the checks of R69 and the crossfade plan. -/
def State.stageChecks (s : State) : Option CplInfo × State :=
  let r := s.checkGraph s.other (s.selFor s.other)
  if r.code ≠ 0 then (some (checkInfo r), s)
  else
    let a := s.admission s.other s.rxSets
    let s := s.putAdmission a
    if a.code = 0x10 then (some (budgetInfo a), s) else (none, s.onPlan fun p => { p with batches := a.batches })

/-- Steps 1 to 4 of R152 for the scene of `recs` records and `len` words at global word `base`. -/
def State.stageSteps (s : State) (base len recs : Nat) : Option CplInfo × State :=
  let s := s.copyMem (copyBase s.live) (copyBase s.other) 0x1180000
  match s.applyRecords base len recs 0 fun _ => 0 with
  | (some e, s) => (some e, s)
  | (none, s) => match s.checkPrograms (List.range 16) with
    | (some e, s) => (some e, s)
    | (none, s) => s.stageChecks

/-- Offsets of the staged registers of unit `u` (R140, R141). -/
def stagedRegs (u : Nat) : List Nat :=
  let pages : List Nat := match u with
    | 1 => (List.range 0x30).map (0x80 + ·)
    | 2 => (List.range 0x10).map (0xc0 + ·)
    | 3 => 0xd0 :: (List.range 0x40).map (0x100 + ·)
    | 4 => [0x78, 0x79]
    | _ => []
  pages.flatMap fun p => ((List.range 1024).map fun i => 0x1000 * p + 4 * i).filter fun off => regUnit off == u && stagedMask off != 0

/-- The place of a program word under its logical core: which physical core runs one is an engine's own. -/
def State.logicalPlace (s : State) (a : Nat) : Nat :=
  match s.logicalOf ((a - 0x08000000) / 0x200000) with
  | some c => 0x08000000 + 0x200000 * c + a % 0x200000
  | none => a

/-- What steps 1 and 2 of R152 wrote, as the digest covers it: the words of the non-live copy, program words, the staged
registers of the units involved, those no record names with their live values, and patch words. -/
def State.stagedWords (s : State) : List (Nat × Word) :=
  let base := copyBase s.other
  let slots := ((s.mem.filter fun c => decide (base ≤ c.1) && decide (c.1 < base + 0x1180000)).map fun c => c.1 / 16 * 16).eraseDups
  match s.crn.plan with
  | none => []
  | some p => (slots.map fun a => (a - base, s.word a)) ++ (p.set.filter fun a => decide (0x08000000 ≤ a)).map (fun a =>
      (s.logicalPlace a, s.word a)) ++
      (((List.range 5).filter p.units.testBit).flatMap stagedRegs).map (fun off =>
        (off, BitVec.ofNat 72 ((mfind p.regs off).getD (s.rd off)).toNat)) ++ p.patches.map fun x => (0x200000 * x.core + x.addr, x.word)

/-- A STAGE succeeds. -/
def State.stageOk (s : State) (c : Cmd) : State :=
  let n := match s.crn.plan with
    | some p => p.count
    | none => 1
  ((s.setFld CRN_STAT_STATE 2).onCrn fun k => { k with waitDigest := false, peerDigest := none }).completeCmd c
    { primary := 0, aux := n }

/-- PEER_DISAGREE (R154): both engines return to IDLE and leave lockstep. -/
def State.disagree (s : State) (c : Cmd) (code : Nat) : State :=
  (s.unstage.completeCmd c { primary := 0x50, aux := code }).leaveLockstep

/-- The active engine compares its digest with the peer's, where that has come. -/
def State.compareDigest (s : State) (c : Cmd) : State :=
  match s.crn.plan, s.crn.peerDigest with
  | some p, some (n, code, d) =>
    if n ≠ c.seq then s
    else if code = 0 ∧ d = p.digest then s.stageOk c else s.disagree c code
  | _, _ => s

/-- A standby learns the active engine's result: a refusal takes it to IDLE, a different digest out of lockstep too (log
entry 32). -/
def State.followDigest (s : State) : State :=
  match s.crn.plan, s.crn.peerDigest with
  | some p, some (n, code, d) =>
    if n ≠ p.seq ∨ s.crnState ≠ 2 then s
    else if code ≠ 0 then s.unstage
    else if d ≠ p.digest then s.unstage.leaveLockstep
    else s.onCrn fun k => { k with peerDigest := none }
  | _, _ => s

/-- A STAGE ends with its own result `e` (R152, R154). -/
def State.endStage (s : State) (c : Cmd) (e : Option CplInfo) : State :=
  let code := match e with
    | some i => i.primary
    | none => 0
  let dig := Config.stageDigest s.stagedWords code ((s.crn.plan.map fun p => p.batches).getD [])
  let s := s.onPlan fun p => { p with digest := dig, code := code }
  let s := if s.lockstep then s.sendBelay 8 s.idx (beBytes 4 c.seq ++ beBytes 1 code ++ beBytes 8 dig.toNat) else s
  match e with
  | some i => s.unstage.completeCmd c i
  | none =>
    if s.lockstep ∧ s.mode = .active then (s.onCrn fun k => { k with waitDigest := true }).compareDigest c
    else (s.stageOk c).followDigest

/-- A stored scene lies in a bank that is not ON (R143). -/
def State.sceneDark (s : State) (base len : Nat) : Bool :=
  (List.range 128).any fun b => decide (base / 65536 ≤ b) && decide (b ≤ (base + len - 1) / 65536) && s.bankState b != 2

/-- STAGE (R152): `us` is the time it took (CRN_STAGE_TIME). -/
def execStage (us : Nat) (s : State) : Res :=
  s.runCmd 0x02 fun c s => if s.crn.waitDigest then s else
    let direct := (c.word 1).toNat.testBit 63
    let n := c.bits 1 62 55
    let (base, len, recs) := if direct then (c.bits 1 22 0, c.bits 2 20 0, c.bits 1 48 32)
      else (bitsNat (s.rd (DIR_LOC + dirOff n)).toNat 22 0, s.fld (DIR_LEN_LENGTH.sh (dirOff n)),
        s.fld (DIR_REC_RECORDS.sh (dirOff n)))
    let s := s.unstage.beginStage c
    let s := (s.wrN CRN_STAGE_TIME (us % 2 ^ 24)).onCrn fun k => { k with
      plan := some ⟨n, direct, 0, [], [], [], [], 0, c.seq, 0⟩ }
    if !direct && s.sceneDark base len then s.endStage c (some (stageFault 0 0))
    else
      let (e, s) := s.stageSteps base len recs
      s.endStage c e

/-- The STAGE that waits for the peer's digest. -/
def State.waitingStage (s : State) : Option Cmd :=
  if s.crn.waitDigest then s.crn.cur.filter fun c => c.opcode == 2 else none

/-- STAGE_DIGEST (R154, 16 R403). -/
def execStageDigest (seq : Reg32) (code : Byte) (digest : BitVec 64) (s : State) : Res :=
  let s := s.gotFrame
  if ¬ s.lockstep then .next s
  else
    let s := s.onCrn fun k => { k with peerDigest := some (seq.toNat, code.toNat, digest) }
    match s.waitingStage with
    | some c => .next ((s.compareDigest c).pumpAll)
    | none => .next (if s.mode = .standby then s.followDigest else s)

/-- STAGE_DIGEST_TIMEOUT (R154). -/
def execStageDigestTimeout (s : State) : Res :=
  match s.waitingStage with
  | some c => .next ((s.disagree c 0xFF).pumpAll)
  | none => .next s

/-! ### COMMIT (R155, R162) -/

/-- The index of the first tick whose station time is at or after `t` on bits [47:0] (TARGET 2), from the current tick and
the nominal tick period; the index in progress where that is already so. -/
def State.timeIndex (s : State) (t : Nat) : Nat :=
  let d := (2 ^ 48 + t - s.plb.tickTime % 2 ^ 48) % 2 ^ 48
  if 2 ^ 47 ≤ d then s.idx else (s.idx + (d * s.rate + (2 ^ 32 - 1)) / 2 ^ 32) % 2 ^ 48

/-- The flip sample of a COMMIT, and whether its target lies before the earliest index, by signed difference from the index in
progress. -/
def State.flipSample (s : State) (c : Cmd) : Nat × Bool :=
  let ahead := if s.lockstep then 2 else 1
  let e := (s.idx + ahead) % 2 ^ 48
  match c.bits 1 63 62 with
  | 0 => (e, false)
  | k =>
    let t := if k = 1 then c.bits 2 47 0 else s.timeIndex (c.bits 2 47 0)
    let d := (2 ^ 48 + t - s.idx) % 2 ^ 48
    if ahead ≤ d ∧ d < 2 ^ 47 then (t, false) else (e, true)

/-- The window of a COMMIT (R147, R165). -/
def State.window (s : State) (c : Cmd) : Nat :=
  if c.bits 1 44 32 = 0 then max 64 (min 4096 (s.fld CRN_CTRL_XWIN_DEF)) else c.bits 1 44 32

/-- Write journal record `j` of an arming commit (R162). -/
def State.openJournal (s : State) (c : Cmd) (p : StagePlan) (j f win : Nat) (late : Bool) : State :=
  let o := jOff j
  let s := (List.range 16).foldl (fun s i => s.wrN (J_SEQ + o + 4 * i) 0) s
  let s := s.wrN (J_SEQ + o) c.seq
  let s := s.wrN (J_INFO + o) (j % 256 * 2 ^ 24 + p.scene * 2 ^ 16 + (if p.direct then 2 ^ 15 else 0) +
    c.bits 1 63 62 * 2 ^ 10 + c.bits 1 61 61 * 2 ^ 9 + p.count % 256)
  let s := (s.wrIdx (J_FLIP_LO + o) (J_FLIP_HI + o) f).wrN (J_UNITS + o) p.units
  let s := (s.wrN (J_XWIN + o) win).setJState (j % 32) 1
  if late then (s.setFld (J_FAULT_LATE.sh o) 1).evt 0x21 0 else s

/-- COMMIT (R155): arms the staged scene. -/
def execCommit (s : State) : Res :=
  s.runCmd 0x03 fun c s => match s.crn.plan with
    | none => s.completeCmd c { primary := 0x03, aux := s.crnState }
    | some p =>
      let (f, late) := s.flipSample c
      let win := s.window c
      let j := (s.rd CRN_JNL_NEXT).toNat
      let s := s.openJournal c p j f win late
      let s := (s.wrN CRN_JNL_NEXT (j + 1)).wrIdx CRN_ARM_IDX_LO CRN_ARM_IDX_HI f
      let s := (s.setFld CRN_STAT_STATE 3).onCrn fun k => { k with
        commit := some ⟨c.seq, j, f, win, (c.word 1).toNat.testBit 61⟩ }
      let s := s.tell 2 0 f (beBytes 6 f)
      s.detach c

/-- The COMMIT in progress completes. -/
def State.completeCommit (s : State) (k : Commit) (prim aux : Nat) : State :=
  match s.startedCmd fun c => c.opcode == 3 && c.seq == k.seq with
  | none => s
  | some c => s.completeCmd c { primary := prim, journal := k.jnl, index := some k.flip, aux := aux }

/-- ABORT (R151). -/
def execAbort (s : State) : Res :=
  s.runCmd 0x04 fun c s =>
    let s := match s.crn.commit with
      | some k =>
        if s.crnState = 3 then
          ((s.setJState (k.jnl % 32) 4).completeCommit k 0x04 0).onCrn fun k => { k with commit := none }
        else s
      | none => s
    s.unstage.completeCmd c { primary := 0 }

/-- CHANGING_END (R151): every changeover has ended. -/
def execChangingEnd (s : State) : Res :=
  let t := s.trs
  .next (if s.crnState = 4 ∧ t.xf = none ∧ s.fld TRS_GRAPH_STAT_XFADE = 0 ∧ t.srcRamp = [] ∧ t.sinkRamp = [] then
    ((s.trussDone.setFld CRN_STAT_STATE 0).onCrn fun k => { k with commit := none }).pumpAll
  else s)

end Sys2Proof.Machine
end

