-- ==== Sys2Proof/Machine/Fuses.lean ====
section
/-! DEFINITION. The fuse array (02_register_space.md R49, R50) and the repairs blown on entry to SERVICE
(10_memory_banks.md R229, 18_background_and_spares.md R429). -/

namespace Sys2Proof.Machine

open Sys2Proof

/-- Change the system part of the state. -/
def State.onSys (s : State) (f : Sys → Sys) : State := { s with sys := f s.sys }

/-- Fuse `b` lies in a locked region (R49). -/
def State.fuseLocked (s : State) (b : Nat) : Bool :=
  decide (b < 0x100) || (decide (0x202 ≤ b) && decide (b < 0x400)) ||
    (decide (0x100 ≤ b) && decide (b < 0x202) && mget false s.sys.fuseSensed 0x201)

/-- FUS_RDATA's view of the word that holds bit `b` is read again. -/
def State.resense (s : State) (b : Nat) : State :=
  s.onSys fun y => { y with fuseRdata := (List.range 32).foldl (fun m i =>
    mset false m (b / 32 * 32 + i) (mget false y.fuseBlown (b / 32 * 32 + i))) y.fuseRdata }

/-- Blow bit `b`; `ok` says whether it then reads 1 (R50). -/
def State.blowBit (s : State) (b : Nat) (ok : Bool) : State :=
  let s := if ok then s.onSys fun y => { y with fuseBlown := mset false y.fuseBlown b true } else s
  let s := s.resense b
  if mget false s.sys.fuseBlown b then s else (s.setFld FUS_STAT_BLOW_FAIL 1).evt 6 1

/-- The write of FUS_CTRL (R50). DESIGN CHOICES: a BLOW outside CONFIG and SERVICE is logged whatever its key (log entry 47); in a
write that sets both, BLOW comes first, and SENSE is then ignored as busy (log entry 48). -/
def State.writeFusCtrl (s : State) (m : Nat) (v : Reg32) : State :=
  let busy := s.fld FUS_STAT_BLOW_BUSY == 1 || s.fld FUS_STAT_SENSE_BUSY == 1
  let s :=
    if ¬ v.getLsbD 1 then s
    else if ¬ s.cfgMode then s.refusedField m FUS_CTRL
    else if bitsNat v.toNat 31 16 ≠ 0x4655 ∨ busy then s
    else
      let b := (s.rd FUS_ADDR).toNat % 4096
      if s.fuseLocked b then s.setFld FUS_STAT_LOCK_ERR 1
      else (s.setFld FUS_STAT_BLOW_BUSY 1).onSys fun y => { y with blowAddr := b }
  if v.getLsbD 0 ∧ s.fld FUS_STAT_BLOW_BUSY = 0 ∧ s.fld FUS_STAT_SENSE_BUSY = 0 then s.setFld FUS_STAT_SENSE_BUSY 1 else s

/-- Lane and core repairs show in SPR_FUSE_PEND, and what BLOW_DONE ends (R50). -/
def execBlowDone (ok : Bool) (s : State) : Res :=
  .next (if s.fld FUS_STAT_BLOW_BUSY = 1 then
    (((s.setFld FUS_STAT_BLOW_BUSY 0).blowBit s.sys.blowAddr ok).evt 6 0).fusePend
  else s)

/-- SENSE_DONE (R50): the array is read again into FUS_RDATA only. -/
def execSenseDone (s : State) : Res :=
  .next (if s.fld FUS_STAT_SENSE_BUSY = 1 then
    (s.setFld FUS_STAT_SENSE_BUSY 0).onSys fun y => { y with fuseRdata := y.fuseBlown }
  else s)

/-! ### Repairs (R229, R429) -/

/-- The bits of a field of value `v` from bit `lo` on, with its flag bit. -/
def repairBits (lo n v flag : Nat) : List Nat := ((List.range n).filter v.testBit).map (fun i => lo + i) ++ [flag]

/-- Blow the bits of one repair as R50 does, those in `fails` without success: whether every one reads 1. -/
def State.blowRepair (s : State) (fails : List Nat) (bits : List Nat) : Bool × State :=
  let s := bits.foldl (fun s b => if mget false s.sys.fuseBlown b then s else
    (s.blowBit b (!fails.contains b)).evt 6 0) s
  (bits.all fun b => mget false s.sys.fuseBlown b, s)

/-- Column `c` of physical bank `p`, where it is pending. -/
def State.blowColumn (s : State) (fails : List Nat) (p c : Nat) : Bool × State :=
  let r := MEM_COL + 4 * p
  let lo := if c = 0 then 16 else 0
  let v := (s.rd r).toNat
  if v.testBit (lo + 15) ∧ ¬ v.testBit (lo + 14) then
    let b := 0x400 + 16 * p + 8 * c
    let (ok, s) := s.blowRepair fails (repairBits b 7 (bitsNat v (lo + 6) lo) (b + 7))
    (true, if ok then (s.wrN r (v + 2 ^ (lo + 14))).setFld MEM_STAT_COL_PEND (s.fld MEM_STAT_COL_PEND - 1) else s)
  else (false, s)

/-- Spare mapping `i`, where it is in use and not fused. -/
def State.blowSpare (s : State) (fails : List Nat) (i : Nat) : Bool × State :=
  let r := MEM_SPARE_MAP + 4 * i
  let v := (s.rd r).toNat
  if v.testBit 31 ∧ ¬ v.testBit 30 then
    let b := 0xC80 + 8 * i
    let (ok, s) := s.blowRepair fails (repairBits b 7 (bitsNat v 6 0) (b + 7))
    (true, if ok then s.wrN r (v + 2 ^ 30) else s)
  else (false, s)

/-- The lane and core repairs that are pending (R429). -/
def State.laneCoreBits (s : State) : List Nat :=
  (if s.fld TRS_SPARE_IN_USE = 1 then repairBits 0xCC0 5 (s.fld TRS_SPARE_STANDS_FOR) 0xCC5 else []) ++
  (if s.fld CHS_SPARE_IN_USE = 1 then repairBits 0xCC8 5 (s.fld CHS_SPARE_STANDS_FOR) 0xCCD else []) ++
  ((List.range 17).filter fun l => !(s.fld TRS_LANE_STAT_LANE_OK).testBit l).map (fun l => 0xCD0 + l) ++
  ((List.range 17).filter fun p => !(s.rd CHS_CORE_OK).toNat.testBit p).map fun p => 0xCE8 + p

/-- With REPAIR_AUTO every pending repair is blown on entry to SERVICE (R229, R429). -/
def State.autoRepair (s : State) (fails : List Nat) : State :=
  if s.fld MEM_CTRL_REPAIR_AUTO = 0 then s
  else
    let add (a : Bool × State) (r : Bool × State) : Bool × State := (a.1 || r.1, r.2)
    let a := (List.range 272).foldl (fun a k => add a (a.2.blowColumn fails (k / 2) (k % 2))) (false, s)
    let a := (List.range 8).foldl (fun a i => add a (a.2.blowSpare fails i)) a
    let bits := a.2.laneCoreBits.filter fun b => !mget false a.2.sys.fuseBlown b
    let s := (a.2.blowRepair fails bits).2.fusePend
    if a.1 ∨ bits ≠ [] then s.evt 0x60 6 else s

end Sys2Proof.Machine
end

