-- ==== Sys2Proof/Machine/Mallet.lean ====
section
/-! DEFINITION. Mallet: channel states, start, diagnostics, shutdown and retry (14_mallet_amplifiers.md R325, R330 to R337,
R341, R344 to R346). -/

namespace Sys2Proof.Machine

open Sys2Proof

/-- Change the Mallet part of the state. -/
def State.onMlt (s : State) (f : Mallet → Mallet) : State := { s with mlt := f s.mlt }

/-- Channel `c`. -/
def State.chan (s : State) (c : Nat) : MltChan := mget .init s.mlt.chan c

/-- Change channel `c`. -/
def State.onChan (s : State) (c : Nat) (f : MltChan → MltChan) : State :=
  s.onMlt fun m => { m with chan := mmod .init m.chan c f }

/-- A field of channel `c`, and its page. -/
def mFld (f : Fld) (c : Nat) : Fld := f.sh (0x1000 * c)
def mPage (c : Nat) : Nat := 0x100 + c

/-- The state of channel `c` (R330): 0 OFF, 1 DIAG, 2 ARMED, 3 RUN, 4 STOPPING, 5 SHUTDOWN, 6 LATCHED, 7 HELD. -/
def State.chState (s : State) (c : Nat) : Nat := s.fld (mFld MLT_CH_STAT_STATE c)

/-- Even channel `c` leads a bridge pair (R342). -/
def State.bridged (s : State) (c : Nat) : Bool := c % 2 == 0 && s.fld (mFld MLT_CTRL_BRIDGE c) == 1

/-- The channel whose settings and state apply to channel `c` (R342). -/
def State.lead (s : State) (c : Nat) : Nat := if c % 2 = 1 ∧ s.bridged (c - 1) then c - 1 else c

/-- The channels that share the state of channel `c`. -/
def State.pairOf (s : State) (c : Nat) : List Nat :=
  if s.bridged (s.lead c) then [s.lead c, s.lead c + 1] else [c]

/-- Mallet's island is powered and the engine past SELFTEST. -/
def State.mltOn (s : State) : Bool := s.powered 21 && s.upMode

/-- This engine decides channel states: not a standby in lockstep (R324). -/
def State.mltDecides (s : State) : Bool := !(decide (s.mode = .standby) && s.lockstep)

/-- Set bit `c` of a 64-bit mask held in two registers. -/
def State.maskBit (s : State) (lo c : Nat) (v : Bool) : State :=
  s.setFld ⟨lo + 4 * (c / 32), c % 32, c % 32⟩ (if v then 1 else 0)

/-- Unit 3 of the running commit is done once every channel it enables has left OFF and every one it disables is OFF
(R343). -/
def State.checkMltDone (s : State) : State :=
  let left := s.mlt.jEn.filter fun c =>
    if s.fld (mFld MLT_CTRL_EN c) = 1 then s.chState c == 0 else s.chState c != 0
  if s.mlt.jEn ≠ [] ∧ left = [] then (s.onMlt fun m => { m with jEn := [] }).unitDone 3 fun _ => true
  else s.onMlt fun m => { m with jEn := left }

/-- An active engine in lockstep forwards the status of channel `c` (R324). -/
def State.tellChan (s : State) (c : Nat) : State :=
  s.tell 5 c s.idx (leBytes 4 (s.rd (MLT_CH_STAT + 0x1000 * c)).toNat)

/-- It forwards the diagnostic results of channel `c` (R324). -/
def State.tellDiag (s : State) (c : Nat) : State :=
  s.tell 5 (512 + c) s.idx (leBytes 4 (s.rd (MLT_DIAG_RES + 0x1000 * c)).toNat ++
    leBytes 4 (s.rd (MLT_DIAG_R + 0x1000 * c)).toNat)

/-- Channel `c`, and its partner in a pair, enter state `st`; an active engine in lockstep forwards the decision (R324). -/
def State.setChan (s : State) (c st : Nat) : State :=
  let s := (s.pairOf c).foldl (fun s c =>
    let s := ((s.setFld (mFld MLT_CH_STAT_STATE c) st).maskBit MLT_RUN_LO c (st == 3)).maskBit MLT_LATCH_LO c (st == 6)
    let s := if st = 6 then s.evt (mPage c) 1 else s
    s.tellChan c) s
  s.checkMltDone

/-- All four gates of channel `c` and its partner go low. -/
def State.gatesLow (s : State) (c : Nat) : State := (s.pairOf c).foldl (fun s c => s.emit (.gates c [] 0)) s

/-- A running sweep of channel `c` ends with ABORTED (R341). -/
def State.abortSweep (s : State) (c : Nat) : State :=
  if (s.chan c).sweep.isSome then
    (((s.onChan c fun k => { k with sweep := none }).setFld (mFld MLT_SWP_CTRL_START c) 0).setFld
      (mFld MLT_SWP_CTRL_ABORTED c) 1).evt (mPage c) 6
  else s

/-- Channel `c` goes OFF with its gates low (R330, R337). -/
def State.chanOff (s : State) (c : Nat) : State :=
  let c := s.lead c
  let s := (s.abortSweep c).onChan c fun k => { k with
    en := false, goRun := false, waiting := false, diag := none, ramp := 0, cold := false }
  ((s.gatesLow c).setFld (mFld MLT_CH_STAT_RETRY_USED c) 0).setChan c 0

/-- Every channel is OFF with its gates low (R325, R337): what a Descent and every mode but ACTIVE and STANDBY ask. -/
def State.mltAllOff (s : State) : State :=
  (List.range 64).foldl (fun s c => if s.chState c = 0 then s else s.chanOff c) s

/-! ### Diagnostics (R332, R333) -/

/-- The result field of a test. -/
def diagFld (test c : Nat) : Fld :=
  mFld (match test with
    | 1 => MLT_DIAG_RES_SENSE
    | 2 => MLT_DIAG_RES_SCG
    | 3 => MLT_DIAG_RES_SCS
    | 4 => MLT_DIAG_RES_LOAD
    | _ => MLT_DIAG_RES_CROSS) c

/-- Channel `c` begins its tests: in batch `b`, to return to `back`, or as a retry. -/
def State.beginTests (s : State) (c b : Nat) (back : Option Nat) (retry : Bool) : State :=
  ((s.wrN (MLT_DIAG_RES + 0x1000 * c) 0).tellDiag c).onChan c fun k => { k with diag := some ⟨b, back, retry, 1, 0, false, false⟩ }

/-- Change the run of channel `c`. -/
def State.onDiag (s : State) (c : Nat) (f : DiagRun → DiagRun) : State :=
  s.onChan c fun k => { k with diag := k.diag.map f }

/-- The retry rule of R336 on a shutdown or a failed retry. -/
def State.retryRule (s : State) (c : Nat) : State :=
  if s.fld (mFld MLT_CH_STAT_RETRY_USED c) = s.fld (mFld MLT_OC_RETRIES c) then
    (s.onChan c fun k => { k with diag := none, waiting := false }).setChan c 6
  else (s.onChan c fun k => { k with diag := none, waiting := true }).tellChan c

/-- A test of channel `c` fails with `code` (R332): its remaining tests end. -/
def State.failTest (s : State) (c code : Nat) : State :=
  match (s.chan c).diag with
  | none => s
  | some d =>
    let s := ((s.setFld (diagFld d.test c) code).tellDiag c).evt (mPage c) 7
    if d.retry then s.retryRule c
    else s.onDiag c fun d => { d with failed := true, done := true }

/-- A test of channel `c` passes; after the last test of a retry the channel enters RUN at the next tick (R336). -/
def State.passTest (s : State) (c : Nat) : State :=
  match (s.chan c).diag with
  | none => s
  | some d =>
    let s := (s.setFld (diagFld d.test c) 1).tellDiag c
    if d.retry ∧ d.test = 3 then s.onChan c fun k => { k with diag := none, goRun := true }
    else s.onDiag c fun d => { d with test := d.test + 1, sub := 0, done := decide (5 ≤ d.test) }

/-- The channels of batch `b`. -/
def State.batchChans (s : State) (b : Nat) : List Nat :=
  (s.mlt.chan.filter fun e => e.2.diag.any fun d => d.batch == b && !d.retry).map fun e => e.1

/-- It is the turn of channel `c` for test 5: every channel of its batch is through test 4, and every lower one through
test 5. -/
def State.crossTurn (s : State) (c b : Nat) : Bool :=
  (s.batchChans b).all fun e => match (s.chan e).diag with
    | none => true
    | some d => d.done || (d.test == 5 && decide (c ≤ e))

/-- The LOAD test ends (R332). -/
def State.loadTest (s : State) (c : Nat) (m : DiagMeas) : State :=
  let nom := max 1 (s.fld (mFld MLT_TH_A_R_NOM c))
  let s := s.wrN (MLT_DIAG_R + 0x1000 * c) (min 0xFFFF (m.r / 10))
  if m.noCurrent ∨ nom * s.fld MLT_DIAG_CFG1_OPEN_PCT < m.r * 100 then s.failTest c 5
  else if m.r * 100 < nom * s.fld MLT_DIAG_CFG1_SHORT_PCT then s.failTest c 6
  else s.passTest c

/-- The CROSS test of channel `c` ends (R333): each watcher that has not failed before fails with it, and `c` fails against
the lowest watcher. The channels of one bridge pair do not watch each other. -/
def State.crossTest (s : State) (c b : Nat) (m : DiagMeas) : State :=
  let ws := (s.batchChans b).filter fun e => e != c && s.lead e != s.lead c && m.watchers.contains e
  match ws with
  | [] => s.passTest c
  | w :: _ =>
    let s := ws.foldl (fun s e =>
      if (s.chan e).diag.any fun d => d.failed then s
      else ((s.onDiag e fun d => { d with test := 5 }).setFld (mFld MLT_DIAG_RES_PARTNER e) c).failTest e 7) s
    (s.setFld (mFld MLT_DIAG_RES_PARTNER c) w).failTest c 7

/-- A test pulse or interval of channel `c` ends and the next runs (R332, R333, R336). -/
def State.testStep' (s : State) (c : Nat) (m : DiagMeas) : State :=
  match (s.chan c).diag with
  | none => s
  | some d =>
    if d.done then s
    else match d.test with
      | 1 => if (s.chan c).lostV || (s.chan c).lostI then s.failTest c 8 else s.passTest c
      | 2 | 3 => if d.sub = 0 then s.onDiag c fun d => { d with sub := 1 } else s.passTest c
      | 4 => if d.sub = 0 then s.onDiag c fun d => { d with sub := 1 } else s.loadTest c m
      | _ => if s.crossTurn c d.batch then s.crossTest c d.batch m else s

/-- DIAG_TEST_STEP (R332). -/
def execDiagTestStep (c : Fin 64) (meas : DiagMeas) (s : State) : Res :=
  .next (if s.mltDecides then s.testStep' c meas else s)

/-- FLT_N asserts during a pulse of tests 2 and 3: the test fails for the leg pulsed (R332). -/
def State.pulseFault (s : State) (c : Nat) : State :=
  match (s.chan c).diag with
  | none => s
  | some d => if ¬ d.done ∧ (d.test = 2 ∨ d.test = 3) then (s.gatesLow c).failTest c (2 + d.sub) else s

/-- Channel `c` enters ARMED. -/
def State.arm (s : State) (c : Nat) : State :=
  (s.onChan c fun k => { k with diag := none, armed := s.idx }).setChan c 2

/-- Channel `c` enters DIAG or ARMED, by DIAG_EN (R330). -/
def State.leaveOff (s : State) (c : Nat) : State :=
  if s.fld (mFld MLT_CTRL_DIAG_EN c) = 1 then (s.beginTests c (2 * s.idx) none false).setChan c 1 else s.arm c

/-- A batch all of whose channels are through (R333). -/
def State.endedBatch (s : State) : Option Nat :=
  (s.mlt.chan.findSome? fun e => match e.2.diag with
    | some d => if ¬ d.retry ∧ ((s.batchChans d.batch).all fun c => (s.chan c).diag.any fun x => x.done) then some d.batch
        else none
    | none => none)

/-- Channel `c` of an ended batch moves on by its results. -/
def State.moveOn (s : State) (c : Nat) : State :=
  match (s.chan c).diag with
  | none => s
  | some d =>
    let s := s.onChan c fun k => { k with diag := none }
    match d.back with
    | some st => s.setChan c st
    | none => if d.failed then (s.setFld (mFld MLT_CH_STAT_CAUSE c) 1).setChan c 6 else s.arm c

/-- DIAG_DONE (R333, R344). -/
def execDiagDone (s : State) : Res :=
  match s.endedBatch with
  | none => .next s
  | some b =>
    if ¬ s.mltDecides then .next s
    else
      let s := (s.batchChans b).foldl State.moveOn s
      let s := if b % 2 = 1 then s.setFld MLT_DIAG_CMD_START 0 else s
      .next (s.evt 0xD0 0)

/-- The write of MLT_DIAG_CMD (R333). On a standby in lockstep it is the active engine's, which selects (R324). -/
def State.writeDiagCmd (s : State) (m : Nat) (v : Reg32) : State :=
  if ¬ v.toNat.testBit 0 then s
  else if ¬ s.mltDecides then s.setFld MLT_DIAG_CMD_START 1
  else if s.mode ≠ .active then s.refusedField m MLT_DIAG_CMD
  else if s.fld MLT_DIAG_CMD_START = 1 then s
  else
    let mask := s.rdPair MLT_DIAG_MASK_LO MLT_DIAG_MASK_HI
    let cs := (List.range 64).filter fun c =>
      mask.testBit c && s.lead c == c && (s.chState c == 0 || s.chState c == 6)
    if cs = [] ∨ ¬ s.mltOn then s
    else cs.foldl (fun s c => (s.beginTests c (2 * s.idx + 1) (some (s.chState c)) false).setChan c 1)
      (s.setFld MLT_DIAG_CMD_START 1)

/-! ### Enable, start and stop (R325, R330, R331) -/

/-- CHANNEL_ENABLE (R325, R330): a channel with EN = 1 leaves OFF. -/
def execChannelEnable (c : Fin 64) (s : State) : Res :=
  .next (if s.fld (mFld MLT_CTRL_EN c) = 1 ∧ s.chState c = 0 ∧ s.runMode ∧ s.mltOn ∧ s.lead c = c ∧ s.mltDecides then
    (s.onChan c fun k => { k with en := true, cold := true }).leaveOff c
  else s)

/-- A test that EN cuts short reads ABORTED (R332). -/
def State.abortTest (s : State) (c : Nat) : State :=
  match (s.chan c).diag with
  | none => s
  | some d => if d.done then s else (s.setFld (diagFld d.test c) 9).tellDiag c

/-- CHANNEL_DISABLE (R330, R337): a channel with EN = 0 leaves its state; one that DIAG_CMD.START tests while OFF does not. -/
def execChannelDisable (c : Fin 64) (s : State) : Res :=
  let k := s.chan c
  let tested := !k.en && k.diag.any fun d => d.back.isSome
  .next (if s.fld (mFld MLT_CTRL_EN c) = 1 ∨ s.lead c ≠ c ∨ tested ∨ ¬ s.mltDecides then s
    else match s.chState c with
      | 3 => (((s.abortSweep c).onChan c fun k => { k with en := false }).setChan c 4)
      | 1 | 2 | 5 | 6 => (s.abortTest c).chanOff c
      | _ => s)

/-- Channel `c` enters RUN (R328, R331): the loop starts from d = 0 with the ramp at 0, and the thermal model from 0 where
the channel comes from OFF (R339). -/
def State.enterRun (s : State) (c : Nat) : State :=
  let pwm := s.rd (MLT_PWM + 0x1000 * c)
  (s.onChan c fun k =>
    let k := if k.cold then { k with dtc := 0, dtm := 0, cold := false } else k
    { k with
      goRun := false, ramp := 0, istate := 0, duty := 0, prev := 0, applied := 0, turns := 0, valley := true, pwm := pwm
      limNow := false, limPeriod := false, ocRun := 0, shutNow := false }).setChan c 3

/-- Channel `c` starts from ARMED: RETRY_USED is 0 (R336). -/
def State.startChan (s : State) (c : Nat) : State :=
  (s.setFld (mFld MLT_CH_STAT_RETRY_USED c) 0).enterRun c

/-- The compare unit that starts channel `c` (R331): none for the first tick after ARMED. -/
def State.chanUnit (s : State) (c : Nat) : Option Nat :=
  let k := s.fld (mFld MLT_CTRL_START_SRC c)
  if 1 ≤ k ∧ k ≤ 16 then some (k - 1) else none

/-- CHANNEL_START (R331): the first tick after ARMED has come. -/
def execChannelStart (c : Fin 64) (s : State) : Res :=
  .next (if s.chState c = 2 ∧ s.lead c = c ∧ s.chanUnit c = none ∧ (s.chan c).armed ≠ s.idx ∧ s.mltDecides then s.startChan c
    else s)

/-- Compare unit `k` fires: the channels armed on it start (R331). -/
def State.fireMallet (s : State) (k : Nat) : State :=
  if s.mltDecides then
    (List.range 64).foldl (fun s c =>
      if s.chState c = 2 ∧ s.lead c = c ∧ s.chanUnit c = some k then s.startChan c else s) s
  else s

/-- STOP_RAMP_END (R331): the gates go low at a carrier valley. -/
def execStopRampEnd (c : Fin 64) (s : State) : Res :=
  .next (if s.chState c = 4 ∧ s.lead c = c ∧ (s.chan c).ramp = 0 ∧ s.mltDecides then s.chanOff c else s)

/-! ### Shutdown and retry (R335, R336) -/

/-- A shutdown of channel `c` by `cause`, in RUN or STOPPING (R335). A channel whose enable has fallen goes OFF after it
(R337). -/
def State.shutDown (s : State) (c cause : Nat) : State :=
  let l := s.lead c
  if s.chState l ≠ 3 ∧ s.chState l ≠ 4 then s
  else if ¬ s.mltDecides then s.gatesLow l
  else
    let s := ((s.gatesLow l).abortSweep l).onChan l fun k => { k with shutNow := true, goRun := false }
    let s := (s.pairOf l).foldl (fun s c => s.setFld (mFld MLT_CH_STAT_CAUSE c) cause) s
    let s := ((s.bump (mFld ⟨MLT_CNT, 15, 8⟩ c)).evt (mPage c) 0).setChan l 5
    if s.fld (mFld MLT_CTRL_EN l) = 0 then s.chanOff l else s.retryRule l

/-- FLT_N of channel `c` asserts (R332, R335, R337). -/
def State.fltN (s : State) (c : Nat) : State :=
  let l := s.lead c
  let s := (s.bump (mFld MLT_CNT_FLT_N c)).evt (mPage c) 3
  let cause := s.fld (mFld MLT_CH_STAT_CAUSE l)
  match s.chState l with
  | 3 | 4 => s.shutDown c 3
  | 7 => (s.gatesLow l).onChan l fun k => { k with shutNow := true }
  | 1 => if s.mltDecides then s.pulseFault l else s.gatesLow l
  | 5 | 6 =>
    if ¬ s.mltDecides then s
    else if (s.chan l).shutNow ∧ (cause = 2 ∨ cause = 4) then (s.setFld (mFld MLT_CH_STAT_CAUSE l) 3).tellChan l
    else s.pulseFault l
  | _ => s

/-- FLT (R335). -/
def execFlt (c : Fin 64) (s : State) : Res := .next (if s.mltOn then s.fltN c else s)

/-- RETRY_WAIT_END (R336): the retry tests begin. -/
def execRetryWaitEnd (c : Fin 64) (s : State) : Res :=
  .next (if s.chState c = 5 ∧ s.lead c = c ∧ (s.chan c).waiting ∧ s.mltDecides then
    (((s.onChan c fun k => { k with waiting := false }).bump (mFld MLT_CH_STAT_RETRY_USED c)).tellChan c).beginTests c 0 none
      true
  else s)

/-- RETRY_CLEAR (R336): CLEAR_S seconds in RUN have passed without a shutdown. -/
def execRetryClear (c : Fin 64) (s : State) : Res :=
  .next (if s.chState c = 3 ∧ s.mltDecides then (s.setFld (mFld MLT_CH_STAT_RETRY_USED c) 0).tellChan c
  else s)

/-- The write of MLT_CMD (R336): CLEAR of a LATCHED channel. A standby in lockstep waits for the active engine's decision. -/
def State.writeMltCmd (s : State) (c : Nat) (v : Reg32) : State :=
  if v.toNat.testBit 1 ∧ s.chState c = 6 ∧ s.lead c = c ∧ s.mltDecides then
    (s.setFld (mFld MLT_CH_STAT_RETRY_USED c) 0).leaveOff c
  else s

/-! ### Impedance sweep (R341) -/

/-- The write of MLT_SWP_CTRL: START in RUN begins a sweep; elsewhere it is ignored. -/
def State.writeSweep (s : State) (c : Nat) (v : Reg32) : State :=
  let o := 0x1000 * c
  let s := (s.setFld (mFld MLT_SWP_CTRL_POINTS_M1 c) (bitsNat v.toNat 28 24)).setFld (mFld MLT_SWP_CTRL_LEVEL c)
    (bitsNat v.toNat 23 16)
  if v.toNat.testBit 31 ∧ s.chState c = 3 ∧ s.lead c = c ∧ (s.chan c).sweep = none then
    let s := (List.range 32).foldl (fun s k => s.wrN (MLT_SWP_RES + o + 4 * k) 0) s
    ((s.setFld (mFld MLT_SWP_CTRL_START c) 1).setFld (mFld MLT_SWP_CTRL_ABORTED c) 0).onChan c fun k => { k with
      sweep := some 0 }
  else s

/-- SWEEP_POINT_DONE (R341): V / I at the point, magnitude in 0.01 Ω and phase in 0.01°. -/
def execSweepPointDone (c : Fin 64) (mag ph : BitVec 16) (s : State) : Res :=
  match (s.chan c).sweep with
  | none => .next s
  | some k =>
    .next (if k ≤ s.fld (mFld MLT_SWP_CTRL_POINTS_M1 c) then
      (s.wrN (MLT_SWP_RES + 0x1000 * c + 4 * k) (mag.toNat * 2 ^ 16 + ph.toNat)).onChan c fun x => { x with
        sweep := some (k + 1) }
    else s)

/-- SWEEP_DONE (R341): every point has been measured. -/
def execSweepDone (c : Fin 64) (s : State) : Res :=
  match (s.chan c).sweep with
  | none => .next s
  | some k =>
    .next (if s.fld (mFld MLT_SWP_CTRL_POINTS_M1 c) < k then
      ((s.onChan c fun x => { x with sweep := none }).setFld (mFld MLT_SWP_CTRL_START c) 0).evt (mPage c) 6
    else s)

end Sys2Proof.Machine
end

