-- ==== Sys2Proof/Machine/MalletLoop.lean ====
section
/-! DEFINITION. Mallet: sense, loop, carrier, limiting and voice-coil protection (14_mallet_amplifiers.md R326 to R329, R334,
R338 to R340, R342; 18_background_and_spares.md R422). -/

namespace Sys2Proof.Machine

open Sys2Proof

/-! ### Sense (R326) -/

/-- The impulse response of the third-order comb by 32. -/
def comb : List Nat :=
  let t (j : Nat) : Nat := if j ≤ 31 then j + 1 else if j ≤ 62 then 63 - j else 0
  (List.range 94).map fun k => ((List.range 32).map fun a => if a ≤ k then t (k - a) else 0).sum

/-- The comb's value of a bitstream, newest bit first, less its calibrated offset, in S8.63. -/
def decimate (bits : List Bool) (off : Int) : Int :=
  ((comb.zip bits).map fun p => if p.2 then (p.1 : Int) else -p.1).sum * 2 ^ 48 - off

/-- A bitstream, newest bit first, has a transition among its first `n` steps. -/
def hasTransition (n : Nat) (bits : List Bool) : Bool :=
  ((bits.zip bits.tail).take n).any fun p => p.1 != p.2

/-- MLT_CH_STAT.SENSE_OK follows. -/
def State.refreshSense (s : State) (c : Nat) : State :=
  let k := s.chan c
  s.setFld (mFld MLT_CH_STAT_SENSE_OK c)
    (if s.fld MLT_GCTRL_SCLK_EN = 1 ∧ ¬ k.lostV ∧ ¬ k.lostI then 1 else 0)

/-- The bits of one loop period reach channel `c`; a bitstream with a transition is no longer lost, unless an injection still
treats it so (R346). -/
def State.takeBits (s : State) (c : Nat) (sv si : List Bool) : State :=
  (s.onChan c fun k =>
    let v := sv.reverse ++ k.sv
    let i := si.reverse ++ k.si
    let left := k.lossInj - sv.length
    { k with
      sv := v.take 94, si := i.take 94, lossInj := left
      lostV := k.lostV && (decide (0 < left) || !hasTransition sv.length v)
      lostI := k.lostI && (decide (0 < left) || !hasTransition si.length i) }).refreshSense c

/-- A bitstream of channel `c` is lost: SV where `which`, SI otherwise. -/
def State.loseSense (s : State) (c : Nat) (v i : Bool) : State :=
  let s := s.onChan c fun k => { k with lostV := k.lostV || v, lostI := k.lostI || i }
  ((s.refreshSense c).evt (mPage c) 5).shutDown c 4

/-- SENSE_LOSS (R326, R335). -/
def execSenseLoss (c : Fin 64) (which : Bool) (s : State) : Res :=
  let k := s.chan c
  .next (if s.mltOn ∧ ¬ (if which then k.lostV else k.lostI) then s.loseSense c which (!which) else s)

/-! ### The loop (R327, R328) -/

/-- The ratio of two settings, rounded to S8.63 (R328). -/
def ratioWord (a b : Nat) : Word :=
  BitVec.ofInt 72 (max wordMin (min wordMax (roundDiv ((a * 2 ^ 63 : Nat) : Int) b)))

/-- V_BUS, where 0 acts as 1. -/
def State.vBus (s : State) (c : Nat) : Nat := max 1 (s.fld (mFld MLT_SUPPLY_V_BUS c))

/-- Limit to ±`m`. -/
def limitTo (m x : Int) : Int := max (-m) (min m x)

/-- The thermal gain (R340): G of 1/256 dB of the attenuation. -/
def State.thermalGain (s : State) (c : Nat) : Nat := romG ((s.chan c).att * 256 / 960000)

/-- The reference of channel `c` at an update, as a fraction of VOUT_FS, before its ramp and gains: the interpolator's
output, or the sine of a sweep at its level. The interpolator's coefficients are a ROM that the manual does not print, and
the sine's phase is not given: free values (log entry 2). -/
def State.reference (s : State) (c : Nat) : Word × State :=
  let (x, s) := s.free 72
  match (s.chan c).sweep with
  | none => (x, s)
  | some _ => ((narrowWord 31 (x.toInt * romG (128 * s.fld (mFld MLT_SWP_CTRL_LEVEL c)))).1, s)

/-- rb of channel `c` (R327, R328): the reference through ramp and thermal gain, or the test voltage of a diagnostic. -/
def State.refVolts (s : State) (c : Nat) : Word × State :=
  match (s.chan c).diag with
  | some d =>
    let t := ratioWord (max 1 (s.fld MLT_DIAG_CFG0_TEST_V)) (s.vBus c)
    (if d.test = 4 ∧ d.sub = 1 then -t else t, s)
  | none =>
    let (r, s) := s.reference c
    let r := (mulWord r (BitVec.ofNat 72 ((s.chan c).ramp * 2 ^ 55))).1
    let r := (narrowWord 31 (r.toInt * s.thermalGain c)).1
    ((mulWord r (ratioWord (s.fld (mFld MLT_LOOP_VOUT_FS c)) (s.vBus c))).1, s)

/-- Channel `c` closes its loop: in RUN and STOPPING, and while it drives in tests 4 and 5 of R332. -/
def State.loops (s : State) (c : Nat) : Bool :=
  s.chState c == 3 || s.chState c == 4 || (s.chState c == 1 && (s.chan c).diag.any fun d =>
    !d.done && (d.test == 4 || (d.test == 5 && s.crossTurn c d.batch)))

/-- One loop update of channel `c` (R328): the new duty, and the ramp's next step (R331). -/
def State.loopStep (s : State) (c : Nat) : State :=
  let (rb, s) := s.refVolts c
  let k := s.chan c
  let v := BitVec.ofInt 72 (decimate k.sv k.offV)
  let vb := (mulWord v (ratioWord (s.fld (mFld MLT_SENSE_VFS c)) (s.vBus c))).1
  let e := (narrowWord 0 (rb.toInt - vb.toInt)).1
  let m : Int := ((max 128 (s.fld (mFld MLT_SUPPLY_DMAX c)) * 2 ^ 55 : Nat) : Int)
  let ff : Int := if s.fld (mFld MLT_SUPPLY_FF c) = 1 then rb.toInt else 0
  let kp := (mulWord (BitVec.ofNat 72 (s.fld (mFld MLT_LOOP_KP c) * 2 ^ 57)) e).1
  let ki := (mulWord (BitVec.ofNat 72 (s.fld (mFld MLT_LOOP_KI c) * 2 ^ 51)) e).1
  let d := ff + kp.toInt + k.istate.toInt
  let stuck := (m < d ∧ 0 < e.toInt) ∨ (d < -m ∧ e.toInt < 0)
  let ist := if stuck then k.istate else BitVec.ofInt 72 (limitTo m (k.istate.toInt + ki.toInt))
  let ramp := if s.chState c = 3 then min 256 (k.ramp + 1) else if s.chState c = 4 then k.ramp - 1 else k.ramp
  s.onChan c fun k => { k with
    istate := ist, prev := k.duty, duty := BitVec.ofInt 72 (limitTo m d), ramp := ramp, turns := 0, shutNow := false }

/-- LOOP_UPDATE (R326, R328): `sv` and `si` are the 32 bits of each bitstream since the update before, oldest first. -/
def execLoopUpdate (c : Fin 64) (sv si : List Bool) (s : State) : Res :=
  if ¬ s.mltOn ∨ s.fld MLT_GCTRL_SCLK_EN = 0 then .next s
  else
    let s := s.takeBits c sv si
    .next (if s.lead c = c then
      if s.loops c then s.loopStep c
      else if s.chState c = 7 then s
      else s.onChan c fun k => { k with shutNow := false }
    else s)

/-! ### The carrier (R329, R334) -/

/-- Half periods of 1/1536000 s in half a carrier period. -/
def carHalf (pwm : Reg32) : Nat :=
  match bitsNat pwm.toNat 17 16 with
  | 0 => 4
  | 2 => 1
  | _ => 2

/-- The first turn after a loop update follows it by less than 200 ns, from PHASE and the carrier's frequency (R329). -/
def tooSoon (pwm : Reg32) : Bool :=
  let q := carHalf pwm
  let y := bitsNat pwm.toNat 9 0 * 2 * q % (min q 2 * 1024)
  decide (y * 1000000000 < 200 * 1024 * 1536000)

/-- The edge of a leg whose duty is (1 + `d`)/2 in the half period that begins, in steps of 0.8 ns from the turn, the edge
counter standing `ph`/2¹⁶ of a step before it; none where the pulse would be shorter than the dead time (log entry 33). -/
def legEdge (q : Nat) (valley : Bool) (dead ph : Nat) (d : Int) : Option Int :=
  let den : Nat := 96 * 2 ^ 64
  let x : Int := (2 ^ 63 + d) * (q * 78125 : Nat)
  let y : Int := ((q * 78125 * 2 ^ 64 : Nat) : Int)
  let e := if valley then x else y - x
  if 2 * min x (y - x) < ((dead * den : Nat) : Int) then none
  else some (roundDiv (e * 2 ^ 16 + ((ph * den : Nat) : Int)) (den * 2 ^ 16))

/-- Put out the gates of channel `c`, and its partner, for the half period that begins (R329, R342). -/
def State.sendGates (s : State) (c : Nat) (valley : Bool) : State :=
  let k := s.chan c
  let (ph, s) := s.free 16
  let q := carHalf k.pwm
  let dead := max 8 (bitsNat k.pwm.toNat 31 24)
  let d := k.applied.toInt
  let a := legEdge q valley dead ph.toNat d
  let b := if s.fld (mFld MLT_CTRL_MOD c) = 1 then legEdge q valley dead ph.toNat (-d) else a
  (s.pairOf c).foldl (fun s c => s.emit (.gates c [a, b] dead)) s

/-- The end of a carrier period: a limited cycle is counted, and OC_COUNT of them in a row shut the channel down (R334,
R335). -/
def State.endPeriod (s : State) (c : Nat) : State :=
  let k := s.chan c
  let (inj, s) := s.takeInj (mPage c) 2
  if k.limPeriod then
    let s := s.onChan c fun k => { k with limPeriod := inj, limTick := true, ocRun := k.ocRun + 1 }
    let s := (s.bump (mFld ⟨MLT_CNT, 31, 16⟩ c)).evt (mPage c) 2
    if max 1 (s.fld (mFld MLT_OC_OC_COUNT (s.lead c))) ≤ (s.chan c).ocRun then s.shutDown c 2 else s
  else s.onChan c fun k => { k with limPeriod := inj, ocRun := 0 }

/-- CARRIER_PEAK_OR_VALLEY (R329, R334, R343). -/
def execCarrierPeakOrValley (c : Fin 64) (s : State) : Res :=
  let l := s.lead c
  let st := s.chState l
  if ¬ s.mltOn ∨ ¬ (s.loops l ∨ st = 7) then .next s
  else
    let k := s.chan c
    let valley := k.valley
    let s := s.onChan c fun k => { k with valley := !valley, turns := k.turns + 1, limNow := false }
    let s := if valley then
        let pwm := s.rd (MLT_PWM + 0x1000 * l)
        s.onChan c fun k => { k with pwm := pwm }
      else s
    let s := if valley ∧ (st = 3 ∨ st = 4) then s.endPeriod c else s
    if c.val ≠ l then .next s
    else
      let s := if st = 7 then s
        else s.onChan c fun k => { k with applied := if k.turns = 1 ∧ tooSoon k.pwm then k.prev else k.duty }
      .next (if s.loops c ∨ (st = 7 ∧ ¬ (s.chan c).shutNow) then s.sendGates c valley else s)

/-- LIMIT (R334): the leg is limited until the next turn. -/
def execLimit (c : Fin 64) (s : State) : Res :=
  let st := s.chState (s.lead c)
  .next (if s.mltOn ∧ (st = 3 ∨ st = 4) then
    let dead := max 8 (bitsNat (s.chan c).pwm.toNat 31 24)
    (s.onChan c fun k => { k with limNow := true, limPeriod := true }).emit (.gates c [some 0, some 0] dead)
  else s)

/-! ### Voice-coil protection (R338 to R340) -/

/-- The coil resistance in use, mΩ (R338). -/
def State.rEst (s : State) (c : Nat) : Nat :=
  if s.fld (mFld MLT_RE_VALID c) = 1 then (s.rd (MLT_RE + 0x1000 * c)).toNat % 65536
  else max 1 (s.fld (mFld MLT_TH_A_R_NOM c))

/-- RE_ESTIMATE (R338): `vi` and `ii` are the sums over the second's `n` samples of the filtered v × i and i × i, fractions
of 126 bits. With IFS 0 the scale is not given, so the estimate is free within its limits. -/
def execReEstimate (c : Fin 64) (vi ii : Int) (n : Nat) (s : State) : Res :=
  if ¬ s.mltOn ∨ n = 0 ∨ ii * 10000 < (n : Int) * 2 ^ 126 then .next s
  else
    let nom := max 1 (s.fld (mFld MLT_TH_A_R_NOM c))
    let ifs := s.fld (mFld MLT_SENSE_IFS c)
    let (x, s) : Int × State :=
      if ifs = 0 then
        let (f, s) := s.free 32
        (f.toNat, s)
      else (roundDiv (vi * (s.fld (mFld MLT_SENSE_VFS c) * 10000 : Nat)) (ii.toNat * ifs), s)
    let r := max ((nom / 4 : Nat) : Int) (min ((4 * nom : Nat) : Int) x)
    .next (s.wrN (MLT_RE + 0x1000 * c) (2 ^ 31 + min 0xFFFF r.toNat))

/-- The thermal model and the attenuation of channel `c` at a tick (R339, R340). -/
def State.thermal (s : State) (c : Nat) : State :=
  let k := s.chan c
  let raw (c : Nat) : Int := match (s.chan c).iNow with
    | some i => i.toInt
    | none => 0
  let i := ((s.pairOf c).map raw).sum
  let ifs := s.fld (mFld MLT_SENSE_IFS c)
  let p : Int := i * i * (ifs * ifs * s.rEst c : Nat)
  let one : Nat := 2 ^ 63 * 1000000000
  let dtc := k.dtc + roundDiv ((p * s.fld (mFld MLT_TH_B_RTH_C c) - k.dtc * one) * 100)
    (one * s.rate * max 1 (s.fld (mFld MLT_TH_C_TAU_C c)))
  let dtm := k.dtm + roundDiv (p * s.fld (mFld MLT_TH_B_RTH_M c) - k.dtm * one)
    (one * s.rate * max 1 (s.fld (mFld MLT_TH_C_TAU_M c)))
  let amb := (BitVec.ofNat 8 (s.fld (mFld MLT_TH_D_T_AMB c))).toInt
  let t := amb * 2 ^ 63 + dtm + dtc
  let tmax : Int := ((s.fld (mFld MLT_TH_A_T_MAX c) : Nat) : Int) * 2 ^ 63
  let band : Int := ((max 1 (s.fld (mFld MLT_TH_A_LIM_BAND c)) : Nat) : Int) * 2 ^ 63
  let att :=
    if tmax - band ≤ t then min (40 * 960000) (k.att + max 1 (s.fld (mFld MLT_TH_D_ATT c)) * (960000 / s.rate))
    else if t < tmax - 2 * band then k.att - max 1 (s.fld (mFld MLT_TH_D_REL c)) * (96000 / s.rate)
    else k.att
  let s := s.onChan c fun k => { k with dtc := dtc, dtm := dtm, att := att }
  let s := s.wrN (MLT_TH_STAT + 0x1000 * c) ((BitVec.ofInt 16 (roundDiv (t * 10) (2 ^ 63))).toNat * 2 ^ 16 + att * 256 / 960000)
  let s := s.maskBit MLT_THLIM_LO c (decide (0 < att))
  if k.att = 0 ∧ 0 < att then s.evt (mPage c) 4 else s

/-- Deliver the sense streams of channel `c` for the index in progress (R326): present while SENSE_OK is 1. The stream
path's coefficients are not printed, so the values are free (log entry 2). -/
def State.senseStreams (s : State) (c : Nat) : State :=
  if s.fld (mFld MLT_CH_STAT_SENSE_OK c) = 1 then
    let (v, s) := s.free 72
    let (i, s) := s.free 72
    let s := s.deliver (1120 + 2 * c) (some v) s.idx s.trs.now
    (s.deliver (1121 + 2 * c) (some i) s.idx s.trs.now).onChan c fun k => { k with iNow := some i }
  else s.onChan c fun k => { k with iNow := none }

/-- Mallet at a sample tick (R326, R334, R336, R339, R340). -/
def State.mltTick (s : State) : State :=
  if s.mltOn then
    let s := (List.range 64).foldl (fun s c =>
      let k := s.chan c
      let s := s.setFld (mFld MLT_CH_STAT_LIMITING c) (if k.limTick then 1 else 0)
      let s := s.onChan c fun k => { k with limTick := false }
      let s := s.senseStreams c
      if k.goRun then s.enterRun c else s) s
    (List.range 64).foldl (fun s c => if s.lead c = c then s.thermal c else s) s
  else s

/-- Mallet takes the drive sample of channel `c` for index `n` (R327); the odd channel of a pair discards it (R342). -/
def State.mltTake (s : State) (c n : Nat) : State :=
  if ¬ s.powered 21 then s else
  let (v, s) := s.takeSink (1056 + c) n
  s.onChan c fun k => { k with drive := v }

/-- SENSE_OFFSET_CAL (18 R422): offsets in S8.63, kept in RUN and HELD and while HOLD_CAL is 1. The active engine of a pair
decides them and forwards them. -/
def execSenseOffsetCal (c : Fin 64) (offV offI : Int) (s : State) : Res :=
  let st := s.chState (s.lead c)
  .next (if s.mltOn ∧ s.rd SVC_CTRL &&& 1 = 0 ∧ (st = 0 ∨ st = 2 ∨ st = 5 ∨ st = 6) ∧ s.mltDecides then
    let s := s.onChan c fun k => { k with offV := offV, offI := offI }
    s.tell 5 (256 + c) s.idx (beBytes 9 (BitVec.ofInt 72 offV).toNat ++ beBytes 9 (BitVec.ofInt 72 offI).toNat)
  else s)

/-- A batch whose last channel has left DIAG ends (R333), on an engine that adopts its peer's decisions. -/
def State.adoptEnd (s : State) (b : Nat) : State :=
  if s.batchChans b ≠ [] then s
  else (if b % 2 = 1 then s.setFld MLT_DIAG_CMD_START 0 else s).evt 0xD0 0

/-- Channel `c` adopts state `st`, as its peer's channel entered it (R324); within SHUTDOWN it adopts the retry that begins, or
the wait after one. -/
def State.adoptState (s : State) (c st : Nat) (retry : Bool) : State :=
  let old := s.chState c
  if s.lead c ≠ c then s
  else if old = st then
    if st ≠ 5 then s
    else if retry then (s.onChan c fun k => { k with waiting := false }).beginTests c 0 none true
    else s.onChan c fun k => { k with diag := none, waiting := true }
  else
    let batch := (s.chan c).diag.map fun d => d.batch
    let started := s.fld MLT_DIAG_CMD_START == 1
    let on := s.onChan c fun k => { k with en := true, cold := k.cold || old == 0 }
    let s := match st with
      | 0 => s.chanOff c
      | 1 => (if started then s.beginTests c (2 * s.idx + 1) (some old) false else on.beginTests c (2 * s.idx) none false).setChan
          c 1
      | 2 => on.arm c
      | 3 => s.enterRun c
      | 4 => ((s.abortSweep c).onChan c fun k => { k with en := false }).setChan c 4
      | 5 => ((((s.gatesLow c).abortSweep c).bump (mFld ⟨MLT_CNT, 15, 8⟩ c)).evt (mPage c) 0 |>.onChan c fun k => { k with
          shutNow := true, goRun := false, diag := none, waiting := true }).setChan c 5
      | _ => ((s.gatesLow c).onChan c fun k => { k with diag := none, waiting := false }).setChan c st
    match old, batch with
    | 1, some b => (s.onChan c fun k => { k with diag := none }).adoptEnd b
    | _, _ => s

/-- Channel `c` adopts its peer's diagnostic results, and how far its own run has come with them (R324, R332). -/
def State.adoptDiag (s : State) (c res r : Nat) : State :=
  let s := (s.wrN (MLT_DIAG_RES + 0x1000 * c) res).wrN (MLT_DIAG_R + 0x1000 * c) r
  let codes := [1, 2, 3, 4, 5].map fun t => s.fld (diagFld t c)
  let n := (codes.takeWhile fun x => x == 1).length
  let failed := decide (1 < codes.getD n 0)
  s.onDiag c fun d => { d with test := n + 1, sub := 0, failed := failed, done := failed || decide (n = 5) }

/-- A forwarded Mallet decision (16 R385): a channel's status, its offsets, or its diagnostic results. -/
def State.mltDecision (s : State) (item data : Nat) : State :=
  if 512 ≤ item then s.adoptDiag (item % 64) (data % 2 ^ 32) (data / 2 ^ 32 % 2 ^ 32)
  else if 256 ≤ item then
    s.onChan (item % 256) fun k => { k with
      offV := (BitVec.ofNat 72 (data / 2 ^ 72)).toInt, offI := (BitVec.ofNat 72 data).toInt }
  else
    let used := bitsNat data 25 18
    let retry := decide (s.fld (mFld MLT_CH_STAT_RETRY_USED item) < used)
    ((s.setFld (mFld MLT_CH_STAT_CAUSE item) (bitsNat data 28 26)).setFld (mFld MLT_CH_STAT_RETRY_USED item) used).adoptState
      item (bitsNat data 31 29) retry

end Sys2Proof.Machine
end

