-- ==== Sys2Proof/Machine/Ptp.lean ====
section
/-! DEFINITION. The PTP instances and ESMC (13_network_and_tether.md R293 to R295). Message formats, the best master clock
algorithm and the state names are those of IEEE 1588-2019, to which R293 refers (log entry 28). -/

namespace Sys2Proof.Machine

open Sys2Proof

/-- A field of instance `i`. -/
def ptpFld (f : Fld) (i : Nat) : Fld := f.sh (0x20 * i)

def State.ptp (s : State) (i : Nat) : PtpInst := mget .init s.net.ptp i

def State.onPtp (s : State) (i : Nat) (f : PtpInst → PtpInst) : State :=
  s.onNet fun n => { n with ptp := mmod .init n.ptp i f }

/-- The port of an instance, and whether it is enabled. -/
def State.ptpPort (s : State) (i : Nat) : Nat := s.fld (ptpFld PTP_CTRL_PORT i)
def State.ptpEn (s : State) (i : Nat) : Bool := s.fld (ptpFld PTP_CTRL_EN i) == 1 && s.powered 15 && s.upMode

/-- The profile in use (R293: 4 to 7 act as 0). -/
def State.profile (s : State) (i : Nat) : Nat :=
  let p := s.fld (ptpFld PTP_CTRL_PROFILE i)
  if p ≤ 3 then p else 0

/-- The profile measures peer delay. -/
def State.peerDelay (s : State) (i : Nat) : Bool := s.profile i == 1 || s.profile i == 3

/-- The defaults of a profile for PTP_INTV (R293). -/
def profileIntv (p : Nat) : Nat := match p with | 2 => 0x01FDFD03 | 3 => 0x00FD0003 | _ => 0x01000003

/-- portState of IEEE 1588-2019: 3 DISABLED, 4 LISTENING, 6 MASTER, 8 UNCALIBRATED, 9 SLAVE. -/
def portStateFld : Fld := ⟨PTP_STAT, 31, 28⟩
def State.ptpState (s : State) (i : Nat) : Nat := s.fld (ptpFld portStateFld i)

def State.setPtpState (s : State) (i st : Nat) : State :=
  if s.ptpState i = st then s else (s.setFld (ptpFld portStateFld i) st).evt 0xC1 i

/-- The clock identity of a port: its MAC address as an EUI-64. -/
def State.clockId (s : State) (p : Nat) : Nat :=
  let m := s.netMac p
  m / 2 ^ 24 * 2 ^ 40 + 0xFFFE * 2 ^ 24 + m % 2 ^ 24

/-- The key by which masters are compared: least is best. -/
def annKey (a : PtpAnnounce) (src : Nat) : Nat :=
  ((((((a.prio1.toNat * 256 + a.cls.toNat) * 256 + a.acc.toNat) * 65536 + a.var.toNat) * 256 + a.prio2.toNat) * 2 ^ 64 +
    a.gm.toNat) * 65536 + a.steps % 65536) * 2 ^ 64 + src

/-- The instance's own data set (R294). -/
def State.ownAnn (s : State) (i : Nat) : PtpAnnounce :=
  ⟨BitVec.ofNat 64 (s.clockId (s.ptpPort i)), BitVec.ofNat 8 (s.fld (ptpFld PTP_CTRL_PRIO1 i)), 248, 0xFE, 0xFFFF,
    BitVec.ofNat 8 (s.fld (ptpFld PTP_CTRL_PRIO2 i)), 0⟩

/-- The instance may take the master state (R294). -/
def State.mayMaster (s : State) (i : Nat) : Bool := s.fld (ptpFld PTP_CTRL_MASTER_OK i) == 1 && s.sends

/-- The instance follows no master: its reference reports loss with Q = 15 (12 R261, R262). -/
def State.ptpNoMaster (s : State) (i : Nat) : State :=
  let s := s.onPtp i fun x => { x with parent := none, sync := none, t12 := none, req := none }
  let s := s.setQuality i 15 0xFE
  if s.refState i = 1 then s else s.refLoss i

/-- The instance becomes master, or listens. -/
def State.ptpAlone (s : State) (i : Nat) : State :=
  (s.ptpNoMaster i).setPtpState i (if s.mayMaster i then 6 else 4)

/-- The grandmaster's data are shown (R318). -/
def State.showGm (s : State) (i : Nat) (a : PtpAnnounce) : State :=
  let st := s.ptpState i
  ((s.wrN (PTP_STAT + 0x20 * i) (st * 2 ^ 28 + a.cls.toNat * 2 ^ 20 + a.acc.toNat * 2 ^ 12 + min 4095 (a.steps + 1))).wrN
    (PTP_GM_LO + 0x20 * i) (a.gm.toNat % 2 ^ 32)).wrN (PTP_GM_HI + 0x20 * i) (a.gm.toNat / 2 ^ 32)

/-- The best qualified foreign master. -/
def bestForeign : List ForeignMaster → Option ForeignMaster
  | [] => none
  | f :: r =>
    let b := bestForeign r
    if ¬ f.qualified then b
    else match b with
      | none => some f
      | some g => some (if annKey f.ann f.src.toNat ≤ annKey g.ann g.src.toNat then f else g)

/-- The best master clock algorithm (R293, R294). -/
def State.bmca (s : State) (i : Nat) : State :=
  match bestForeign (s.ptp i).foreign with
  | none => s
  | some f =>
    if s.mayMaster i ∧ annKey (s.ownAnn i) 0 < annKey f.ann f.src.toNat then
      if s.ptpState i = 6 then s else s.ptpAlone i
    else
      let same := match (s.ptp i).parent with | some p => p.src == f.src | none => false
      let s := s.onPtp i fun x => { x with parent := some f }
      let s := if same then s else
        (s.onPtp i fun x => { x with sync := none, t12 := none, req := none }).setPtpState i 8
      (s.showGm i f.ann).setQuality i (ptpQ f.ann.cls.toNat) f.ann.acc.toNat

/-- An Announce message: a foreign master qualifies with its second one. -/
def State.ptpAnnounce (s : State) (i : Nat) (a : PtpAnnounce) (src : BitVec 64) : State :=
  if src.toNat = s.clockId (s.ptpPort i) ∨ 255 ≤ a.steps then s
  else
    let l := (s.ptp i).foreign
    let known := l.any fun f => f.src == src
    let l := if known then l.map fun f => if f.src = src then ⟨a, src, true⟩ else f else l ++ [⟨a, src, false⟩]
    (s.onPtp i fun x => { x with foreign := l }).bmca i

/-- A signed register value. -/
def State.ptpAsym (s : State) (i : Nat) : Int := (s.rd (PTP_ASYM + 0x20 * i)).toInt

/-- The mean path delay is known. -/
def State.setDelay (s : State) (i : Nat) (d : Int) : State :=
  (s.onPtp i fun x => { x with delay := some d }).wrN (PTP_MPD + 0x20 * i) (min (2 ^ 32 - 1) d.toNat)

/-- With a complete Sync and a delay, the offset from the master is measured (R294, 12 R272). -/
def State.ptpMeasure (s : State) (i : Nat) : State :=
  match (s.ptp i).t12, (s.ptp i).delay with
  | some (t1, t2), some d =>
    let ofs := t2 - t1 - d - s.ptpAsym i
    let s := s.setPtpState i 9
    if s.fld PLB_TIME_STAT_SRC = i + 1 then s.timeOffset ofs else s
  | _, _ => s

/-! ### Sending (R291 to R294) -/

/-- A PTP timestamp: 48 bits of seconds and 32 of nanoseconds. -/
def ptpStamp (ns : Int) : List Byte := beBytes 6 (ns / 10 ^ 9).toNat ++ beBytes 4 (ns % 10 ^ 9).toNat

/-- A PTP message of instance `i`: type, flags, correction in ns, sequence number, log interval and body. -/
def State.ptpBytes (s : State) (i type flags : Nat) (corr : Int) (seq intv : Nat) (body : List Byte) : List Byte :=
  let ctl := match type with | 0 => 0 | 1 => 1 | 8 => 2 | 9 => 3 | _ => 5
  beBytes 1 ((if s.profile i = 3 then 16 else 0) + type) ++ beBytes 1 0x12 ++ beBytes 2 (34 + body.length) ++
    beBytes 1 (s.fld (ptpFld PTP_CTRL_DOMAIN i)) ++ beBytes 1 0 ++ beBytes 2 flags ++
    beBytes 8 (BitVec.ofInt 64 (corr * 65536)).toNat ++ beBytes 4 0 ++ beBytes 8 (s.clockId (s.ptpPort i)) ++ beBytes 2 1 ++
    beBytes 2 seq ++ beBytes 1 ctl ++ beBytes 1 intv ++ body

/-- Send a PTP message: Layer 2 for profile 3, else UDP over IPv4, event messages to port 319 and general ones to 320. -/
def State.sendPtp (s : State) (i : Nat) (event peer : Bool) (msg : List Byte) : State :=
  let p := s.ptpPort i
  if s.profile i = 3 then s.sendEth p 1 0x0180C200000E 0x88F7 7 msg
  else
    let dst := if peer then 0xE000006B else 0xE0000181
    let port := if event then 319 else 320
    let (u, s) := s.udp port port msg
    (s.sendIp p 1 dst 17 46 7 u).2

/-- Station time in ns. -/
def State.timeNs (s : State) : Int := timeToNs s.time

/-- The log interval in byte `b` of PTP_INTV from the left, announce, sync or delay request: from −7 to 4 (R293). -/
def State.logIntv (s : State) (i b : Nat) : Nat :=
  let v := (BitVec.ofNat 8 (bitsNat (s.rd (PTP_INTV + 0x20 * i)).toNat (31 - 8 * b) (24 - 8 * b))).toInt
  (BitVec.ofInt 8 (max (-7) (min 4 v))).toNat

/-- PTP_SEND (R293): an interval of instance `inst` has expired. -/
def execPtpSend (inst : Fin 2) (kind : PtpKind) (s : State) : Res :=
  let i := inst.val
  let x := s.ptp i
  let master := s.ptpState i == 6 && s.mayMaster i
  let slave := s.ptpState i == 8 || s.ptpState i == 9
  let now := s.timeNs
  if ¬ s.ptpEn i then .next s
  else match kind with
    | .announce =>
      if ¬ master then .next s
      else
        let a := s.ownAnn i
        let body := ptpStamp now ++ beBytes 2 0 ++ beBytes 1 0 ++ beBytes 1 a.prio1.toNat ++ beBytes 1 a.cls.toNat ++
          beBytes 1 a.acc.toNat ++ beBytes 2 a.var.toNat ++ beBytes 1 a.prio2.toNat ++ beBytes 8 a.gm.toNat ++
          beBytes 2 0 ++ beBytes 1 0xA0
        let s := s.onPtp i fun x => { x with seqAnn := (x.seqAnn + 1) % 65536 }
        .next (s.sendPtp i false false (s.ptpBytes i 11 0 0 x.seqAnn (s.logIntv i 0) body))
    | .sync =>
      if ¬ master then .next s
      else
        let two := s.fld (ptpFld PTP_CTRL_ONE_STEP i) == 0
        let s := s.onPtp i fun x => { x with seqSync := (x.seqSync + 1) % 65536, sentSync := now }
        .next (s.sendPtp i true false
          (s.ptpBytes i 0 (if two then 0x0200 else 0) 0 x.seqSync (s.logIntv i 1) (ptpStamp (if two then 0 else now))))
    | .followUp =>
      if ¬ master ∨ s.fld (ptpFld PTP_CTRL_ONE_STEP i) = 1 then .next s
      else .next (s.sendPtp i false false
        (s.ptpBytes i 8 0 0 ((x.seqSync + 65535) % 65536) (s.logIntv i 1) (ptpStamp x.sentSync)))
    | .delayReq =>
      if ¬ slave ∨ s.peerDelay i then .next s
      else
        let s := s.onPtp i fun x => { x with seqReq := (x.seqReq + 1) % 65536, req := some (x.seqReq, now) }
        .next (s.sendPtp i true false (s.ptpBytes i 1 0 0 x.seqReq 0x7F (ptpStamp 0)))
    | .pdelayReq =>
      if ¬ s.peerDelay i then .next s
      else
        let s := s.onPtp i fun x => { x with seqReq := (x.seqReq + 1) % 65536, req := some (x.seqReq, now) }
        .next (s.sendPtp i true true (s.ptpBytes i 2 0 0 x.seqReq 0x7F (ptpStamp 0 ++ List.replicate 10 0)))

/-! ### Receiving -/

/-- The answer to a peer delay request has its times: the link delay, with the neighbour's rate ratio in profile 3 (R293). -/
def State.pdelayDone (s : State) (i : Nat) (t1 t2 t3 t4 corr : Int) : State :=
  let s' := s.onPtp i fun x => { x with req := none, resp := none, ratio := some (t3, t4) }
  let turn := t3 - t2 + corr
  let d := match s.profile i, (s.ptp i).ratio with
    | 3, some (p3, p4) => if t4 - p4 = 0 then (t4 - t1 - turn) / 2 else ((t4 - t1) * (t3 - p3) / (t4 - p4) - turn) / 2
    | _, _ => (t4 - t1 - turn) / 2
  (s'.setDelay i d).ptpMeasure i

/-- PTP_MESSAGE (R293, R294). -/
def execPtpMessage (inst : Fin 2) (msg : PtpMsg) (s : State) : Res :=
  let i := inst.val
  let x := s.ptp i
  let slave := s.ptpState i == 8 || s.ptpState i == 9
  let mine := slave && match x.parent with | some p => p.src == msg.src | none => false
  let seq := msg.seq.toNat
  if ¬ s.ptpEn i ∨ msg.domain.toNat ≠ s.fld (ptpFld PTP_CTRL_DOMAIN i) then .next s
  else match msg.body with
    | .announce a => .next (s.ptpAnnounce i a msg.src)
    | .sync two origin =>
      .next (if ¬ mine then s
        else if two then s.onPtp i fun x => { x with sync := some (seq, msg.rx, msg.corr) }
        else (s.onPtp i fun x => { x with t12 := some (origin + msg.corr, msg.rx) }).ptpMeasure i)
    | .followUp origin =>
      match x.sync with
      | some (n, rx, c) =>
        .next (if mine ∧ n = seq then
          (s.onPtp i fun x => { x with sync := none, t12 := some (origin + msg.corr + c, rx) }).ptpMeasure i else s)
      | none => .next s
    | .delayReq =>
      .next (if s.ptpState i = 6 ∧ s.mayMaster i ∧ ¬ s.peerDelay i then
        s.sendPtp i false false (s.ptpBytes i 9 0 msg.corr seq (s.logIntv i 2)
          (ptpStamp msg.rx ++ beBytes 8 msg.src.toNat ++ beBytes 2 1)) else s)
    | .delayResp received =>
      match x.req, x.t12 with
      | some (n, t3), some (t1, t2) =>
        .next (if mine ∧ msg.mine ∧ n = seq ∧ ¬ s.peerDelay i then
          ((s.onPtp i fun x => { x with req := none }).setDelay i ((t2 - t1 + (received - msg.corr - t3)) / 2)).ptpMeasure i
          else s)
      | _, _ => .next s
    | .pdelayReq =>
      if ¬ s.peerDelay i then .next s
      else
        let tail := beBytes 8 msg.src.toNat ++ beBytes 2 1
        let now := s.timeNs
        if s.fld (ptpFld PTP_CTRL_ONE_STEP i) = 1 then
          .next (s.sendPtp i true true (s.ptpBytes i 3 0 (now - msg.rx + msg.corr) seq 0x7F (ptpStamp 0 ++ tail)))
        else
          .next ((s.sendPtp i true true (s.ptpBytes i 3 0x0200 0 seq 0x7F (ptpStamp msg.rx ++ tail))).sendPtp i false true
            (s.ptpBytes i 10 0 msg.corr seq 0x7F (ptpStamp now ++ tail)))
    | .pdelayResp two received =>
      match x.req with
      | some (n, t1) =>
        .next (if ¬ msg.mine ∨ n ≠ seq ∨ ¬ s.peerDelay i then s
          else if two then s.onPtp i fun x => { x with resp := some (seq, received, msg.rx, msg.corr) }
          else s.pdelayDone i t1 0 0 msg.rx msg.corr)
      | none => .next s
    | .pdelayFollowUp sent =>
      match x.req, x.resp with
      | some (n, t1), some (m, t2, t4, c) =>
        .next (if msg.mine ∧ n = seq ∧ m = seq then s.pdelayDone i t1 t2 sent t4 (c + msg.corr) else s)
      | _, _ => .next s
    | .management => .next s

/-- ANNOUNCE_RECEIPT_TIMEOUT (R293, 12 R262): no Announce within the timeout of the instance. -/
def execAnnounceReceiptTimeout (inst : Fin 2) (s : State) : Res :=
  let i := inst.val
  .next (if s.ptpEn i ∧ s.ptpState i ≠ 6 then (s.onPtp i fun x => { x with foreign := [] }).ptpAlone i else s)

/-- An instance starts in LISTENING (R318, SOFT_RESET). -/
def State.ptpRestart (s : State) (i : Nat) : State :=
  let s := s.onNet fun n => { n with ptp := mset .init n.ptp i .init }
  (s.ptpNoMaster i).setPtpState i 4

/-- The write of PTP_CTRL of instance `i` (R293, R318): a change of PROFILE loads that profile's defaults. -/
def State.writePtpCtrl (s : State) (i : Nat) (v : Reg32) : State :=
  let was := s.fld (ptpFld PTP_CTRL_EN i)
  let old := s.fld (ptpFld PTP_CTRL_PROFILE i)
  let s := s.wr (PTP_CTRL + 0x20 * i) v
  let new := s.fld (ptpFld PTP_CTRL_PROFILE i)
  let s := if old = new then s else s.wrN (PTP_INTV + 0x20 * i) (profileIntv new)
  let now := s.fld (ptpFld PTP_CTRL_EN i)
  if was = 0 ∧ now = 1 then s.ptpRestart i
  else if was = 1 ∧ now = 0 then (s.ptpNoMaster i).setPtpState i 3
  else if s.ptpState i = 6 ∧ ¬ s.mayMaster i then s.ptpAlone i
  else s

/-- Outside ACTIVE no instance is master (R294). -/
def State.ptpDemote (s : State) : State :=
  [0, 1].foldl (fun s i => if s.ptpState i = 6 ∧ ¬ s.mayMaster i then s.ptpAlone i else s) s

/-! ### ESMC (R295) -/

/-- The quality of the line clocks of port `p` follows its SSM code. -/
def State.setSsm (s : State) (p : Nat) (ssm : Option Nat) : State :=
  let s := s.onNet fun n => { n with ssm := match ssm with | some c => mins n.ssm p c | none => mdel n.ssm p }
  [2, 3].foldl (fun s r =>
    if s.fld (refFld PLB_REF_CFG_SRC r) = p then
      s.setQuality r (match ssm with | some c => ssmQ c | none => 15) 0xFE
    else s) s

/-- ESMC_PDU (R295). -/
def execEsmcPdu (port : Fin 4) (ssm : BitVec 4) (s : State) : Res :=
  .next (if s.netEn port then s.setSsm port (some ssm.toNat) else s)

/-- ESMC_PDU_TIMEOUT (12 R262): no PDU for 5 s. -/
def execEsmcPduTimeout (port : Fin 4) (s : State) : Res := .next (s.setSsm port none)

/-- The code a port sends (R295). -/
def State.ssmSent (s : State) (p : Nat) : Nat :=
  match s.selected with
  | none => 0xF
  | some r =>
    if (r = 2 ∨ r = 3) ∧ s.fld (refFld PLB_REF_CFG_SRC r) = p then 0xF
    else qSsm (s.fld (refFld PLB_REF_STAT_Q r))

/-- Send an ESMC PDU of ITU-T G.8264, as an event PDU or an information PDU. -/
def State.sendSsm (s : State) (p : Nat) (event : Bool) : State :=
  if s.netEn p ∧ s.fld (netFld NET_PORT_CTRL_ESMC_TX p) = 1 ∧ s.sends then
    s.sendEth p 6 0x0180C2000002 0x8809 0 (beBytes 1 0x0A ++ beBytes 3 0x0019A7 ++ beBytes 2 1 ++
      beBytes 1 (if event then 0x18 else 0x10) ++ beBytes 3 0 ++ beBytes 1 1 ++ beBytes 2 4 ++ beBytes 1 (s.ssmSent p))
  else s

/-- ESMC_SEND (R295). -/
def execEsmcSend (port : Fin 4) (s : State) : Res := .next (s.sendSsm port false)

/-! ### Selection (12 R263, R264) -/

/-- The selection changes, and every port whose SSM code changes with it sends an event PDU (R295). -/
def State.selectTold (s : State) (new : Option Nat) (dist : Int) : State :=
  let t := s.select new dist
  [0, 1, 2, 3].foldl (fun t p => if s.ssmSent p = t.ssmSent p then t else t.sendSsm p true) t

/-- SWITCH (R263, R264): the selection is made again. A still eligible reference stays until WTR_EXPIRE. -/
def execSwitchRef (dist : Int) (s : State) : Res :=
  if ¬ s.upMode then .next s
  else match s.forced with
    | some new => .next (s.selectTold new dist)
    | none =>
      let cur := s.selected
      let keep := match cur with | some r => s.eligible r | none => false
      .next (s.selectTold (if keep then cur else s.candidate cur) dist)

/-- WTR_EXPIRE (R263): a candidate other than the selected reference has been candidate for WTR seconds. -/
def execWtrExpire (dist : Int) (s : State) : Res :=
  if ¬ s.upMode ∨ s.forced.isSome then .next s
  else
    let cur := s.selected
    match s.candidate cur with
    | some r => .next (if cur.isSome ∧ cur ≠ some r then s.selectTold (some r) dist else s)
    | none => .next s

end Sys2Proof.Machine
end

