-- ==== Sys2Proof/Machine/Tether.lean ====
section
/-! DEFINITION. Tether cycles, the station image and supervision sweeps (13_network_and_tether.md R305 to R316). -/

namespace Sys2Proof.Machine

open Sys2Proof

/-! ### Settings in effect (R305, R313) -/

def State.ttEn (s : State) : Bool := s.net.ctrl.getLsbD 31 && s.powered 15 && s.upMode
def State.ttUdp (s : State) : Nat := bitsNat s.net.ctrl.toNat 15 0
def State.ttHold (s : State) : Nat := bitsNat s.net.ctrl.toNat 23 16
def State.ttCycle (s : State) : Nat := (s.rd NET_TT_CYCLE).toNat

/-- The compare unit of the cycles. -/
def State.ttUnit (s : State) : Nat := bitsNat s.net.ctrl.toNat 30 27

/-- The settings take effect at a cycle start, and at once while no cycle runs; where EN becomes 1, C_1 is the next firing. -/
def State.ttSettings (s : State) : State :=
  let was := s.net.ctrl.getLsbD 31
  let s := s.onNet fun n => { n with ctrl := s.rd NET_TT_CTRL, times := s.rd NET_TT_TIME, base := s.rd NET_TT_BASE }
  let now := s.net.ctrl.getLsbD 31
  if now ∧ ¬ was then (s.wrN NET_TT_CYCLE 0).onNet fun n => { n with lastFire := none, running := false }
  else if now then s else s.onNet fun n => { n with running := false }

/-- A Tether setting changes at a flip (R313). -/
def State.flipTt (s : State) (off : Nat) (v : Reg32) : State :=
  let s := s.wr off v
  if s.net.running then s else s.ttSettings

/-- The write of a Tether setting; EN = 0 stops the cycles at once. -/
def State.writeTt (s : State) (off : Nat) (v : Reg32) : State :=
  let s := s.flipTt off v
  if s.fld NET_TT_CTRL_EN = 0 ∧ s.net.running then s.ttSettings else s

/-! ### The station image (R312) -/

/-- Global word address of word `i` of station `st`. -/
def State.imgWord (s : State) (st i : Nat) : Nat := (bitsNat s.net.base.toNat 22 0 + 32 * st + i) % 8388608

/-- Words `i` on of a station's image, read in one burst; a word that cannot be read, and those after it, give 0. -/
def State.imgRead (s : State) (st i n : Nat) : List Word × State :=
  let (r, s) := State.burstRead 5 n 0 (s.imgWord st i) s
  (r.getD (List.replicate n 0), s)

/-- Write words `i` on of a station's image in one burst. -/
def State.imgWrite (s : State) (st i : Nat) (ws : List Word) : State := (State.burstWrite 5 ws 0 (s.imgWord st i) s).2

/-- The configuration word of a station as it stands. -/
def State.stCfg (s : State) (st : Nat) : Word := s.word (globalAddr (s.imgWord st 24))
def cfgEn (w : Word) : Bool := w.getLsbD 63
def cfgClass (w : Word) : Nat := min 2 (wbits w 62 61)
def cfgPort (w : Word) : Nat := wbits w 57 56
def cfgUdp (w : Word) : Nat := wbits w 47 32
def cfgIp (w : Word) : Nat := wbits w 31 0

/-- Write the inputs of a frame to words 8 to 15, and word 25 (R307, R312). -/
def State.writeInputs (s : State) (st : Nat) (f : List Byte) : State :=
  let bits := (List.range 4).map fun j => BitVec.ofNat 72 (leNat ((f.drop (20 + 8 * j)).take 8))
  let vals := (List.range 4).map fun j =>
    BitVec.ofNat 72 ((List.range 4).map fun r => beAt f (52 + 2 * (4 * j + r)) 2 * 65536 ^ r).sum
  (s.imgWrite st 8 (bits ++ vals)).imgWrite st 25 [BitVec.ofNat 72 s.idx]

/-- The default inputs replace the inputs (R310). -/
def State.writeDefaults (s : State) (st : Nat) : State :=
  let (ws, s) := s.imgRead st 16 8
  (s.imgWrite st 8 ws).imgWrite st 25 [BitVec.ofNat 72 (2 ^ 63 + s.idx)]

/-- The inputs are held: word 25 says so and keeps its index. -/
def State.markHeld (s : State) (st : Nat) : State :=
  let (ws, s) := s.imgRead st 25 1
  s.imgWrite st 25 [BitVec.ofNat 72 (2 ^ 62 + wbits (ws.getD 0 0) 47 0)]

/-! ### Frames (R306, R307) -/

/-- A Tether frame of the engine. -/
def State.ttFrame (s : State) (type st flags seq : Nat) (body : List Byte) : List Byte :=
  let per := (s.rd (PLB_CMP_PERIOD + 0x10 * s.ttUnit)).toNat
  let f := beBytes 2 0x5448 ++ beBytes 1 1 ++ beBytes 1 type ++ beBytes 1 st ++ beBytes 1 flags ++
    beBytes 2 (24 + body.length) ++ beBytes 4 seq ++ beBytes 4 0 ++
    beBytes 2 ((roundEven 32 ((per * 100000 : Nat) : Int)).toNat) ++ beBytes 2 0 ++ body
  f ++ leBytes 4 (crc32 f)

/-- Send a frame to station `st`; a standby sends none (R313, 01 R21). -/
def State.ttSend (s : State) (st : Nat) (f : List Byte) : State :=
  if ¬ s.sends then s
  else
    let c := s.stCfg st
    let (u, s) := s.udp s.ttUdp (cfgUdp c) f
    (s.sendIp (cfgPort c) 2 (cfgIp c) 17 (s.fld NET_QOS_DSCP_TT) 6 u).2

/-- The outputs of a station as a frame body: its 8 output words, read in one burst (R309). -/
def State.outBody (s : State) (st : Nat) : List Byte × State :=
  let (ws, s) := s.imgRead st 0 8
  ((ws.zip (List.range 8)).flatMap fun p => if p.2 < 4 then leBytes 8 p.1.toNat
    else (List.range 4).flatMap fun r => beBytes 2 (wbits p.1 (16 * r + 15) (16 * r)), s)

/-! ### Station states (R310) -/

def stFld (f : Fld) (st : Nat) : Fld := f.sh (0x10 * st)
def State.ttState (s : State) (st : Nat) : Nat := s.fld (stFld TTS_STAT_STATE st)
def ttLostCycles : Fld := ⟨TTS_STAT, 27, 20⟩
def ttEntries : Fld := ⟨TTS_CNT, 31, 16⟩
def ttResends : Fld := ⟨TTS_CNT, 15, 8⟩

def State.station (s : State) (st : Nat) : Station := mget .init s.net.station st
def State.onStation (s : State) (st : Nat) (f : Station → Station) : State :=
  s.onNet fun n => { n with station := mmod .init n.station st f }

/-! ### Sweeps (R314 to R316) -/

/-- A result word of the running sweep. -/
def State.sweepWrite (s : State) (r : SweepRun) (st l i v : Nat) : State :=
  (State.burstWrite 5 [BitVec.ofNat 72 v] 0 ((r.addr + 256 * st + 32 * l + i) % 8388608) s).2

/-- STATUS and LAST_STEP of a line. -/
def State.sweepStatus (s : State) (r : SweepRun) (st l status last : Nat) : State :=
  s.sweepWrite r st l 0 (status * 2 ^ 62 + last * 2 ^ 48)

/-- The lines of a bit mask. -/
def maskBits (n m : Nat) : List Nat := (List.range n).filter m.testBit

/-- Change the running sweep; NET_TT_SWEEP follows. -/
def State.setSweep (s : State) (r : Option SweepRun) : State :=
  (s.onNet fun n => { n with sweep := r }).wrN NET_TT_SWEEP (match r with
    | some r => 2 ^ 31 + r.left.length
    | none => 0)

/-- Every unfinished line of a station becomes NOT_MEASURED. -/
def State.sweepBreak (s : State) (st : Nat) : State :=
  match s.net.sweep with
  | none => s
  | some r =>
    match r.left.find? fun x => x.st == st with
    | none => s
    | some x =>
      let last := if x.step = 0 then 0xFF else x.step - 1
      let s := (maskBits 8 x.lines).foldl (fun s l => s.sweepStatus r st l 2 last) s
      s.setSweep (some { r with left := r.left.filter fun y => y.st != st, missed := st :: r.missed.filter fun y => y != st })

/-- The sweep ends when every line is finished. -/
def State.sweepCheck (s : State) : State :=
  match s.net.sweep with
  | some r =>
    if r.left = [] then
      ((s.setSweep none).evt 0xC4 2).completeCmd r.cmd { primary := 0, aux := r.missed.length + 256 * r.faulty.length }
    else s
  | none => s

/-- A write point of a station in the running sweep: the next step is sent, or waited for (R316). -/
def State.sweepPoint (s : State) (st : Nat) : State :=
  match s.net.sweep with
  | none => s
  | some r =>
    match r.left.find? fun x => x.st == st with
    | none => s
    | some x =>
      let put (y : SweepStation) := some { r with left := r.left.map fun z => if z.st = st then y else z }
      if s.ttState st ≠ 1 then (s.sweepBreak st).sweepCheck
      else if ¬ x.sent then
        let body := beBytes 1 x.step ++ beBytes 1 x.lines ++ beBytes 2 (r.freqs.getD x.step 0) ++ beBytes 1 r.level ++ beBytes 3 0
        (s.ttSend st (s.ttFrame 5 st 0 r.cmd.seq body)).setSweep (put { x with sent := true, wait := 0 })
      else if r.stepWait ≤ x.wait + 1 then (s.sweepBreak st).sweepCheck
      else s.setSweep (put { x with wait := x.wait + 1 })

/-- A valid sweep report of station `st`. -/
def State.sweepReport (s : State) (st : Nat) (f : List Byte) : State :=
  match s.net.sweep with
  | none => s
  | some r =>
    match r.left.find? fun x => x.st == st with
    | none => s
    | some x =>
      if beAt f 12 4 ≠ r.cmd.seq ∨ beAt f 20 1 ≠ x.step ∨ ¬ x.sent then s
      else
        let meas := beAt f 21 1
        let fault := beAt f 22 1
        let t := x.step
        let lines := maskBits 8 x.lines
        let s := (lines.filter meas.testBit).foldl (fun s l =>
          s.sweepWrite r st l (1 + t) (beAt f (24 + 4 * l) 2 * 65536 + beAt f (26 + 4 * l) 2)) s
        let bad := lines.filter fault.testBit
        let gone := lines.filter fun l => !fault.testBit l && !meas.testBit l
        let on := lines.filter fun l => !fault.testBit l && meas.testBit l
        let s := bad.foldl (fun s l => s.sweepStatus r st l 3 t) s
        let s := gone.foldl (fun s l => s.sweepStatus r st l 2 (if t = 0 then 0xFF else t - 1)) s
        let fin := decide (r.steps ≤ t + 1)
        let s := if fin then on.foldl (fun s l => s.sweepStatus r st l 1 t) s else s
        let add (l : List Nat) (b : Bool) := if b then st :: l.filter fun y => y != st else l
        let left := if fin || on.isEmpty then r.left.filter fun y => y.st != st
          else r.left.map fun y => if y.st = st then ⟨st, t + 1, false, 0, (on.map fun l => 2 ^ l).sum⟩ else y
        (s.setSweep (some { r with
          left := left
          missed := add r.missed (!gone.isEmpty)
          faulty := add r.faulty (!bad.isEmpty) })).sweepCheck

/-- SWEEP (R314, R316). A plan that cannot be read gives BAD_COMMAND (log entry 29). -/
def execSweep (s : State) : Res :=
  s.runCmd 0x72 fun c s =>
    if s.net.sweep.isSome then s.completeCmd c { primary := 0x03, aux := s.crnState }
    else match State.burstRead 5 5 0 (c.bits 2 22 0) s with
      | (none, s) => s.completeCmd c { primary := 0x02, aux := 0x01 }
      | (some ws, s) =>
        let w := ws.getD 0 0
        let lines := wbits w 59 52
        let freqs := (List.range 16).map fun j => wbits (ws.getD (1 + j / 4) 0) (16 * (j % 4) + 15) (16 * (j % 4))
        let sts := (maskBits 64 (c.bits 1 63 0))
        let r : SweepRun := ⟨c, wbits w 63 60 + 1, lines, wbits w 51 44, max 1 (wbits w 43 36), freqs, c.bits 2 54 32,
          sts.map fun st => ⟨st, 0, false, 0, lines⟩, [], []⟩
        let s := (s.detach c).setSweep (some r)
        let s := sts.foldl (fun s st => (List.range 8).foldl (fun s l =>
          if lines.testBit l then s else s.sweepStatus r st l 0 0xFF) s) s
        let s := sts.foldl (fun s st => if s.ttState st = 1 ∧ lines ≠ 0 then s
          else if lines = 0 then s.setSweep (s.net.sweep.map fun r => { r with left := r.left.filter fun y => y.st != st })
          else s.sweepBreak st) s
        s.sweepCheck

/-- Every unfinished line of the running sweep becomes NOT_MEASURED. -/
def State.sweepEnd (s : State) : State :=
  match s.net.sweep with
  | none => s
  | some r => (r.left.foldl (fun s x => s.sweepBreak x.st) s)

/-- SWEEP_ABORT (R316). -/
def execSweepAbort (s : State) : Res :=
  s.runCmd 0x73 fun c s =>
    match s.net.sweep with
    | none => s.completeCmd c { primary := 0 }
    | some r =>
      let s := ((s.sweepEnd.setSweep none).evt 0xC4 2).completeCmd c { primary := 0 }
      s.completeCmd r.cmd { primary := 0x04 }

/-- A takeover ends the sweep (R316): OK with AUX [31] set. -/
def State.sweepTakeover (s : State) : State :=
  match s.net.sweep with
  | none => s
  | some _ =>
    let s := s.sweepEnd
    match s.net.sweep with
    | none => s
    | some r => ((s.setSweep none).evt 0xC4 2).completeCmd r.cmd
        { primary := 0, aux := 2 ^ 31 + r.missed.length + 256 * r.faulty.length }

/-! ### The cycle (R305, R309, R310) -/

/-- A station leaves OK and becomes LOST. -/
def State.ttLost (s : State) (st : Nat) : State :=
  let s := (s.setFld (stFld TTS_STAT_STATE st) 2).setFld (stFld ttLostCycles st) 0
  let s := ((s.bump (stFld ttEntries st)).evt 0xC4 0).onStation st fun x => { x with lost := 0, run := 0, out := none }
  (s.sweepBreak st).sweepCheck

/-- C_k for one station: what ended with the cycle before, its state, and REQ. -/
def State.ttStart (s : State) (st : Nat) : State :=
  let x := s.station st
  let s := if x.out.isSome then s.bump (stFld TTS_CNT_ACKMISS st) else s
  let s := s.onStation st fun x => { x with
    gotIn := false, wrote := false, out := none, resent := false, run := if x.gotIn then x.run else 0 }
  let s := if s.ttState st = 0 then s.ttLost st else s
  let x := s.station st
  let s := if s.ttState st = 2 then
      if s.ttHold ≤ x.lost then ((s.setFld (stFld TTS_STAT_STATE st) 3).writeDefaults st).evt 0xC4 1
      else (s.bump (stFld ttLostCycles st)).onStation st fun x => { x with lost := x.lost + 1 }
    else s
  s.ttSend st (s.ttFrame 1 st (if s.ttState st = 1 then 0 else 4) s.ttCycle [])

/-- A station that is no longer enabled goes OFF (R310). -/
def State.ttOff (s : State) (st : Nat) : State :=
  if s.ttState st = 0 then s
  else ((s.setFld (stFld TTS_STAT_STATE st) 0).onNet fun n => { n with station := mdel n.station st }).sweepBreak st

/-- A point of the cycle: `f` for each enabled station in ascending CLASS and then ascending number (R305); stations no longer
enabled go OFF. -/
def State.ttEach (s : State) (f : State → Nat → State) : State :=
  let cfgs := (List.range 64).map fun st => (st, s.stCfg st)
  let s := (cfgs.filter fun p => !cfgEn p.2).foldl (fun s p => s.ttOff p.1) s
  let on := sortBy (fun p : Nat × Word => cfgClass p.2) (cfgs.filter fun p => cfgEn p.2)
  (on.foldl (fun s p => f s p.1) s).sweepCheck

/-- The Tether compare unit fires (R305): C_k, unless it comes less than 250 µs after the firing before. -/
def State.tetherFire (s : State) : State :=
  if ¬ s.ttEn then s
  else
    let short := match s.net.lastFire with
      | some t => decide ((2 ^ 64 + s.time - t) % 2 ^ 64 * 1000000 < 250 * 2 ^ 32)
      | none => false
    let s := s.onNet fun n => { n with lastFire := some s.time }
    if short then s.bump (whole NET_TT_SHORT)
    else
      let s := s.ttSettings
      let s := if s.net.jTether then (s.onNet fun n => { n with jTether := false }).unitDone 2 fun _ => true else s
      if ¬ s.ttEn then s
      else
        let s := (s.onNet fun n => { n with running := true }).wrN NET_TT_CYCLE ((s.ttCycle + 1) % 2 ^ 32)
        s.ttEach State.ttStart

/-- The length of a station frame by TYPE (R307). -/
def stationLen : Nat → Nat
  | 2 => 88
  | 4 => 24
  | 6 => 60
  | _ => 0

/-- The checks of R308: the station of a valid frame from `src`; a bad frame is counted at the station it names. -/
def State.stationFrame (s : State) (src : Nat) (f : List Byte) : Option Nat × State :=
  let st := beAt f 4 1
  let type := beAt f 3 1
  let n := f.length
  let ok := beAt f 0 2 == 0x5448 && beAt f 2 1 == 1 && stationLen type == n && beAt f 6 2 == n && decide (24 ≤ n) &&
    leNat (f.drop (n - 4)) == crc32 (f.take (n - 4)) && decide (st < 64) && cfgEn (s.stCfg st) && cfgIp (s.stCfg st) == src
  if ok then
    let safe := (beAt f 5 1).testBit 1
    if type = 6 then (some st, s)
    else
      let s := s.setFld (stFld TTS_STAT_SAFE st) safe.toNat
      (some st, if safe then s.evt 0xC4 3 else s)
  else (none, if st < 64 ∧ 5 ≤ n then s.bump (stFld TTS_ERR_BAD st) else s)

/-- An IN of station `st` (R309, R310). -/
def State.ttIn (s : State) (st : Nat) (f : List Byte) : State :=
  let x := s.station st
  if beAt f 12 4 ≠ s.ttCycle ∨ x.wrote then s.bump (stFld TTS_ERR_LATE st)
  else
    let run := if x.gotIn then x.run else x.run + 1
    let s := s.onStation st fun x => { x with gotIn := true, run := run }
    match s.ttState st with
    | 1 => s.writeInputs st f
    | 2 | 3 => if 2 ≤ run then
        ((s.setFld (stFld TTS_STAT_STATE st) 1).writeInputs st f).tell 4 (256 + st) s.idx (beBytes 1 1) else s
    | _ => s

/-- A frame of TYPE `type` from address `src`, forwarded to the peer (R313) and processed. -/
def State.stationIn (s : State) (type src : Nat) (data : List Byte) : State :=
  if ¬ s.ttEn ∨ ¬ s.net.running then s
  else match s.stationFrame src data with
    | (none, s) => s
    | (some st, s) =>
      if beAt data 3 1 ≠ type then s
      else
        let s := s.tell 4 st s.idx data
        if type = 2 then s.ttIn st data
        else if type = 6 then s.sweepReport st data
        else if beAt data 12 4 = s.ttCycle then s.onStation st fun x => { x with out := none }
        else s

/-- The standby of a pair in lockstep takes station frames and states from the active engine alone (R313). -/
def State.ttFollows (s : State) : Bool := s.lockstep && decide (s.mode = .standby)

/-- TETHER_IN (R308 to R310): an IN frame from address `src`. -/
def execTetherIn (src : BitVec 32) (data : List Byte) (s : State) : Res :=
  .next (if s.ttFollows then s else s.stationIn 2 src.toNat data)

/-- TETHER_ACK (R309): the first ACK of the cycle ends the exchange. -/
def execTetherAck (src : BitVec 32) (data : List Byte) (s : State) : Res :=
  .next (if s.ttFollows then s else s.stationIn 4 src.toNat data)

/-- SWP_RPT (R315, R316). -/
def execSwpRpt (src : BitVec 32) (data : List Byte) (s : State) : Res :=
  .next (if s.ttFollows then s else s.stationIn 6 src.toNat data)

/-- A forwarded decision on the network (16 R385): a station frame, read least significant byte first from its first byte,
or, at item 256 + station, a state change. -/
def State.netDecision (s : State) (item data : Nat) : State :=
  if 256 ≤ item then
    if data = 2 ∧ s.ttState (item - 256) = 1 then (s.markHeld (item - 256)).ttLost (item - 256)
    else s.setFld (stFld TTS_STAT_STATE (item - 256)) data
  else
    let type := data / 2 ^ 24 % 256
    s.stationIn type (cfgIp (s.stCfg item)) (leBytes (stationLen type) data)

/-- W_k for station `st` (R309, R316). -/
def State.ttWrite (s : State) (st : Nat) : State :=
  let x := s.station st
  if x.wrote ∨ s.ttState st = 0 then s
  else
    let s := s.onStation st fun x => { x with wrote := true }
    if s.ttFollows ∧ ¬ x.gotIn then s
    else if s.ttState st = 1 then
      let lowest := (List.range 64).find? fun i => s.ttState i == 1
      let (inj, s) := if lowest = some st then s.takeInj 0xC4 0 else (false, s)
      if x.gotIn ∧ ¬ inj then
        let (body, s) := s.outBody st
        let f := s.ttFrame 3 st 0 s.ttCycle body
        ((s.onStation st fun x => { x with out := some body }).ttSend st f).sweepPoint st
      else ((s.markHeld st).ttLost st).tell 4 (256 + st) s.idx (beBytes 1 2)
    else s.sweepPoint st

/-- TETHER_WRITE_POINT (R305, R309, R316): W_k. -/
def execTetherWritePoint (s : State) : Res := .next (if s.ttEn ∧ s.net.running then s.ttEach State.ttWrite else s)

/-- The OUT of station `st` is sent once more where no ACK has come (R309). -/
def State.ttResend (s : State) (st : Nat) : State :=
  let x := s.station st
  match x.out with
  | some body =>
    if x.resent then s
    else ((s.onStation st fun x => { x with resent := true }).bump (stFld ttResends st)).ttSend st
      (s.ttFrame 3 st 1 s.ttCycle body)
  | none => s

/-- TETHER_RESEND_POINT (R305, R309): the point is used only where it lies before the next cycle. -/
def execTetherResendPoint (s : State) : Res :=
  let used := decide (bitsNat s.net.times.toNat 15 0 < max 20 (bitsNat s.net.times.toNat 31 16))
  .next (if s.ttEn ∧ s.net.running ∧ used then s.ttEach State.ttResend else s)

end Sys2Proof.Machine
end

