-- ==== Sys2Proof/Machine/Modes.lean ====
section
/-! DEFINITION. What a change of the operating mode brings (01_engine_architecture.md R20, R21, R23; 18 R433; 19 R457), and
the outcome of mode requests (19 R452). -/

namespace Sys2Proof.Machine

open Sys2Proof

/-- The level of ACT_OUT changes (16 R378); pin 5 of the model. -/
def State.setActOut (s : State) (v : Bool) : State :=
  if s.fld BLY_STAT_ACT_OUT = v.toNat then s
  else
    let s := (s.setFld BLY_STAT_ACT_OUT v.toNat).emit (.pin 5 v)
    if v then s.onBly fun b => { b with actRise := s.idx } else s

/-- Injections that wait are cancelled for good when the engine leaves the modes that accept them (18 R433); those of the BLY
pages stand in STANDBY (16 R408). -/
def State.cancelInj (s : State) (m : Mode) : State :=
  let keep (k : Nat) : Bool := decide (m = .standby) && decide (0x70 ≤ k / 32) && decide (k / 32 ≤ 0x73)
  let s := { s with inj := s.inj.filter keep }
  let side (e : Nat × PortSide) : Option (Nat × PortSide) :=
    let d := { e.2 with slipInj := false }
    if d = .init then none else some (e.1, d)
  let core (e : Nat × ChiselCore) : Option (Nat × ChiselCore) :=
    let d := { e.2 with stopInj := false }
    if d = .init then none else some (e.1, d)
  (s.onPrt fun p => { p with side := p.side.filterMap side }).onChs fun c => { c with cores := c.cores.filterMap core }

/-- The engine enters mode `m` (R20): `fails` are fuse bits that do not blow. -/
def State.changeMode (s : State) (m : Mode) (fails : List Nat) : State :=
  if s.mode = m then s
  else
    let run := s.runMode
    let cfg := s.cfgMode
    let toRun := decide (m = .active) || decide (m = .standby)
    let toCfg := decide (m = .config) || decide (m = .service)
    let s := if cfg ∧ ¬ toCfg then s.cancelInj m else s
    let s := if s.mode = .standby ∧ ¬ toCfg then { s with inj := [] } else s
    let s := if s.mode = .service then s.setFld SVC_CTRL_HOLD_CAL 0 else s
    let s := if m = .service then s.autoRepair fails else s
    let s := s.setMode m
    let s := if run ∧ ¬ toRun then (s.mltAllOff).setActOut false else s
    let s := if toRun then s.clearHistory else s
    (if m = .active then s else (s.dropPulses).ptpDemote).refreshSource

/-- The commands of this engine's ring that it has not forwarded complete with ABORTED_BY_FAILOVER when it leaves ACTIVE
(07 R164); an EXPORT, never forwarded, goes on (15 R368). -/
def State.takeRing : Nat → State → State
  | 0, s => s
  | n + 1, s => if s.mbxIndex 1 ≠ s.crn.prod then State.takeRing n s.takeEntry else s

def State.abortRing (s : State) : State :=
  let s := State.takeRing 256 s
  let lost := s.crn.queue.filter fun c => c.own && c.tag.isNone && !c.isLocal
  let s := s.onCrn fun k => { k with queue := k.queue.filter fun c => !(c.own && c.tag.isNone && !c.isLocal) }
  lost.foldl (fun s c => s.completeCmd c { primary := 0x7F }) s

end Sys2Proof.Machine
end

