-- ==== Sys2Proof/Machine/BelayPeer.lean ====
section
/-! DEFINITION. Watching the peer, takeover, resignation and the output hold, and planned swaps (16_belay_twin.md R378,
R379, R388 to R396). -/

namespace Sys2Proof.Machine

open Sys2Proof

/-! ### Heartbeat and paths (R388, R389) -/

/-- HB_OUT_TOGGLE (R388); pin 4 of the model. -/
def execHbOutToggle (s : State) : Res :=
  .next (if s.upMode ∧ ¬ s.bly.hbStatic ∧ s.bly.hbOpened then
    (s.onBly fun b => { b with hb := !b.hb, hbOpened := false }).emit (.pin 4 !s.bly.hb)
  else s)

/-- HB_IN_EDGE (R388, R389): an edge `us` µs after the last valid one; while an injection treats the path as silent it is no
evidence (R408). -/
def execHbInEdge (us cycles : Nat) (s : State) : Res :=
  let s := (s.advance cycles).captureOn 7 none
  .next (if us < 20 then s
  else if 0 < s.bly.pinInj then s.onBly fun b => { b with pinInj := b.pinInj - us }
  else s.setFld BLY_STAT_HB_OK 1)

/-- A join that runs ends with completion code `prim` and shows `phase` (R397, R399). -/
def State.endJoin (s : State) (phase prim aux : Nat) (index : Option Nat) : State :=
  if s.bly.joining then
    let s := s.onBly fun b => { b with joining := false, n1 := none, n0 := none }
    let s := (s.setFld BLY_JOIN_STAT_PHASE phase).setFld BLY_JOIN_STAT_CODE prim
    let s := match s.startedCmd fun c => c.opcode == 0x61 with
      | some c => s.completeCmd c { primary := prim, index := index, aux := aux }
      | none => s
    if s.fld PWR_MODE_STAT_TARGET = 4 then s.finishReq (if prim = 0 then 0 else 4) (if prim = 0 then 0 else prim) else s
  else s

/-- A refusal of the join. -/
def State.refuseJoin (s : State) (prim aux : Nat) : State :=
  if s.bly.joining then (s.endJoin 5 prim aux none).evt 0x71 1 else s

/-- A standby decides itself every open index without a FINAL frame (R384, R390). -/
def State.decideOwn (s : State) : State :=
  (s.trs.ticks.map fun t => t.idx).foldl (fun s n =>
    if s.follows n ∧ ¬ s.bly.finals.contains n then
      let mine := (s.bly.own.filter fun e => e.1 / 8192 == n && (mfind s.bly.decided e.1).isNone).map fun e => e.1
      (s.onBly fun b => { b with decided := mine.foldl (fun m k => mins m k true) b.decided }).settle n
    else s) s

/-- The peer is declared failed (R389 to R391): a join from it is lost, forwarding ends, and a standby that has been in
lockstep decides presence from here on. -/
def State.peerFail (s : State) : State :=
  if s.fld BLY_STAT_PEER_FAILED = 1 then s
  else
    let s := (s.setFld BLY_STAT_PEER_FAILED 1).evt 0x70 0
    let s := if s.mode = .standby ∧ s.fld BLY_STAT_EVER_SYNCED = 1 then s.decideOwn else s
    ((s.leaveLockstep).endJoin 0 0x7F 0 none).onBly fun b => { b with serving := false, n0 := none }

/-- A path falls silent (R387, R389): `link` names it. -/
def State.pathSilent (s : State) (link : Bool) : State :=
  let s := s.setFld (if link then BLY_STAT_LINK_OK else BLY_STAT_HB_OK) 0
  if s.fld BLY_STAT_HB_OK = 0 ∧ s.fld BLY_STAT_LINK_OK = 0 then s.peerFail
  else
    let s := s.evt 0x70 1
    if link then s.leaveLockstep else s

/-- PATH_FAULT (R389): `path` is the link path. A path that has shown no evidence since the reset is silent as it stands
(BLY_STAT's reset values, log entry 40). -/
def execPathFault (path : Bool) (s : State) : Res :=
  .next (if s.fld (if path then BLY_STAT_LINK_OK else BLY_STAT_HB_OK) = 0 then s else s.pathSilent path)

/-- A standby out of lockstep begins a resynchronisation where AUTO_RESYNC asks for it (R387). -/
def State.autoResync (s : State) : State :=
  if s.mode = .standby ∧ ¬ s.lockstep ∧ ¬ s.bly.joining ∧ s.fld BLY_CTRL_AUTO_RESYNC = 1 ∧ s.peerReady then s.startJoin else s

/-- PEER_RETURN (R389): both paths have shown evidence for 10 ms. -/
def execPeerReturn (s : State) : Res :=
  .next (if s.fld BLY_STAT_PEER_FAILED = 1 ∧ s.fld BLY_STAT_HB_OK = 1 ∧ s.fld BLY_STAT_LINK_OK = 1 then
    (s.setFld BLY_STAT_PEER_FAILED 0).autoResync
  else s)

/-! ### Takeover (R390) -/

/-- TAKEOVER (R390): `us` is the time since the last valid evidence. -/
def execTakeover (us : Nat) (s : State) : Res :=
  .next (if s.mode = .standby ∧ s.fld BLY_STAT_PEER_FAILED = 1 ∧ s.fld BLY_STAT_EVER_SYNCED = 1 then
    let s := (s.changeMode .active []).setActOut true
    let s := (s.wrIdx BLY_TAKE_LO BLY_TAKE_HI s.idx).wrN BLY_TAKE_TIME (min 65535 us)
    let s := (s.jTakeover).sweepTakeover
    let s := if s.fld PWR_MODE_STAT_BUSY = 1 then s.finishReq 1 0 else s
    (s.evt 0x70 3).pumpAll
  else s)

/-! ### Resignation and the hold (R392, R393) -/

/-- Send RESIGN on every lane that is up. -/
def State.sendResign (s : State) (cause : Nat) : State :=
  let f : SentFrame := ⟨s.bly.fseq, 9, s.idx, beBytes 1 cause, 0⟩
  let b := s.frame false f
  s.lanesUp.foldl (fun s l => s.emit (.belay l b)) (s.onBly fun x => { x with fseq := (x.fseq + 1) % 2 ^ 32, replay := x.replay ++ [f] })

/-- Mallet channels whose gates switch hold their duty (14 R330). -/
def State.mltHold (s : State) : State :=
  (List.range 64).foldl (fun s c =>
    if s.lead c = c ∧ (s.chState c = 3 ∨ s.chState c = 4) then s.setChan c 7 else s) s

/-- The engine resigns (R392): an active engine begins the hold, a standby enters SERVICE. -/
def State.resign (s : State) (cause : Nat) : State :=
  if s.mode = .active ∧ ¬ s.bly.hold then
    let s := (s.leaveLockstep).sendResign cause
    let s := s.onBly fun b => { b with hbStatic := true, hold := true, serving := false, n0 := none }
    let s := (s.setFld BLY_STAT_HOLDING 1).setFld ⟨BLY_CAUSE, 7, 0⟩ cause
    let s := ((s.mltHold).dropPulses).ptpDemote
    (s.finishReq 1 0).evt 0x70 7
  else if s.mode = .standby then
    let s := ((s.leaveLockstep).endJoin 0 0x7F 0 none).sendResign cause
    ((s.setFld ⟨BLY_CAUSE, 7, 0⟩ cause).finishReq 1 0).changeMode .service []
  else s

/-- Where a Truss word lies, as SVC_SCRUB_UE codes it (18 R436): 1 the live copy, SOS or concealment state, 2 the non-live copy,
3 meters and counters. -/
def State.trussPlace (s : State) (a : Nat) : Nat :=
  if a < 0x07000000 then (if (0x00800000 + a) / 0x01800000 - 3 = s.live then 1 else 2)
  else if 0x07800000 ≤ a ∧ a < 0x07A00000 then 3 else 1

/-- A read of the Truss word at `a` has found it uncorrectable: in a live table, SOS or concealment state the engine resigns
(R392, cause 2). -/
def State.trussUe (s : State) (a : Nat) : State := if s.trussPlace a = 1 then s.resign 2 else s

/-- RESIGNATION (R392): a fault of the table is detected. -/
def execResignation (cause : Byte) (s : State) : Res :=
  .next (if 1 ≤ cause.toNat ∧ cause.toNat ≤ 6 then s.resign cause.toNat else s)

/-- The hold ends (R393): ACT_OUT falls and the engine enters SERVICE; at the end of a Descent it goes on to RESET (19 R454). -/
def State.endHold (s : State) (fails : List Nat) : State :=
  if s.bly.hold then
    let s := (s.onBly fun b => { b with hold := false, hbStatic := false }).setFld BLY_STAT_HOLDING 0
    ((s.setActOut false).changeMode .service fails).abortRing
  else s

/-! ### The field (R378, R379) -/

/-- An engine that claims the field yields it (R378). -/
def State.yieldField (s : State) (fails : List Nat) : State :=
  if s.bly.hold then s.endHold fails
  else
    let s := (s.leaveLockstep).setActOut false
    if s.mode = .active then (((s.finishReq 1 0).changeMode .standby []).abortRing).autoResync else s

/-- ACT_IN_FALL (R379, R394): at a swap the standby raises ACT_OUT and takes the other's mode. -/
def execActInFall (s : State) : Res :=
  let s := s.setFld BLY_STAT_ACT_IN 0
  .next (match s.bly.swap with
  | some (ns, _) =>
    if s.mode = .standby ∧ idxLe ns s.idx then
      let s := (s.onBly fun b => { b with swap := none }).changeMode .active []
      let s := ((s.setActOut true).wrIdx BLY_SWAP_IDX_LO BLY_SWAP_IDX_HI ns).wr BLY_SWAP_CNT (s.rd BLY_SWAP_CNT + 1)
      s.evt 0x70 5
    else s
  | none => s)

/-- SENIOR_REASSERT (R379). -/
def execSeniorReassert (s : State) : Res :=
  .next (if s.bly.contest ∧ s.fld BLY_STAT_ACT_IN = 0 ∧ s.fld BLY_STAT_ACT_OUT = 1 then
    ((s.setActOut false).setActOut true).onBly fun b => { b with contest := false }
  else s)

/-! ### Planned swaps (R394 to R396) -/

/-- Every condition of a quiet index but the second in lockstep, which the caller vouches for (R394). -/
def State.quiet (s : State) : Bool :=
  s.lockstep && (s.crnState == 0 || s.crnState == 2) && s.net.sweep.isNone && !s.bly.serving && s.bly.n0.isNone

/-- A swap at index `ns` is chosen and forwarded. -/
def State.planSwap (s : State) (ns : Nat) (cmd : Bool) : State :=
  (s.onBly fun b => { b with swap := some (ns % 2 ^ 48, cmd) }).sendBelay 0x0A s.idx
    (beBytes 6 (ns % 2 ^ 48) ++ beBytes 1 (s.fld BLY_SWAP_CTRL_SYNC_PORT))

/-- An index at least 16 ticks ahead; how far is the engine's own choice. -/
def State.aheadIdx (s : State) : Nat × State :=
  let (d, s) := s.free 8
  ((s.idx + 16 + d.toNat) % 2 ^ 48, s)

/-- SWAP_START (R394): a planned swap is due and the index quiet. -/
def execSwapStart (s : State) : Res :=
  .next (if s.sends ∧ s.fld BLY_SWAP_CTRL_SWAP_EN = 1 ∧ s.quiet ∧ s.bly.swap = none ∧ s.sys.descent = none then
    let (n, s) := s.aheadIdx
    s.planSwap n false
  else s)

/-- SWAP_SKIPPED (R394). -/
def execSwapSkipped (s : State) : Res :=
  .next (if s.mode = .active ∧ s.fld BLY_SWAP_CTRL_SWAP_EN = 1 ∧ s.bly.swap = none then s.evt 0x70 6 else s)

/-- SWAP_FRAME (R394): the standby learns n_s. -/
def State.swapFrame (s : State) (ns : Nat) : State :=
  if s.mode = .standby ∧ s.lockstep then s.onBly fun b => { b with swap := some (ns, false) } else s

/-- SWAP (R396): a target at least 16 ticks ahead is taken as n_s. -/
def execSwap (s : State) : Res :=
  s.runCmd 0x60 fun c s =>
    if ¬ s.sends ∨ ¬ s.lockstep ∨ s.bly.swap.isSome then s.completeCmd c { primary := 0x03, aux := s.crnState }
    else
      let least := (s.idx + 16) % 2 ^ 48
      match c.bits 1 63 62 with
      | 0 =>
        let (n, s) := s.aheadIdx
        (s.planSwap n true).detach c
      | k =>
        let t := if k = 1 then c.bits 2 47 0 else s.timeIndex (c.bits 2 47 0)
        (s.planSwap (if idxLe least t then t else least) true).detach c

/-- SWAP_EXECUTE (R394, R395): at the synchronising edge at or after t of n_s the active engine lowers ACT_OUT and becomes
the standby, in lockstep. -/
def execSwapExecute (s : State) : Res :=
  .next (match s.bly.swap with
  | some (ns, cmd) =>
    if s.mode = .active ∧ idxLe ns s.idx then
      let s := (s.onBly fun b => { b with swap := none }).setActOut false
      let s := s.changeMode .standby []
      let s := (s.wrIdx BLY_SWAP_IDX_LO BLY_SWAP_IDX_HI ns).wr BLY_SWAP_CNT (s.rd BLY_SWAP_CNT + 1)
      let s := match cmd, s.startedCmd fun c => c.opcode == 0x60 with
        | true, some c => s.completeCmd c { primary := 0, index := some ns }
        | _, _ => s
      (s.abortRing).evt 0x70 5
    else s
  | none => s)

end Sys2Proof.Machine
end

