-- ==== Sys2Proof/Machine/Volume.lean ====
section
/-! DEFINITION. Records, segments and volumes of the flash as data (15_timberyard_recorder.md R352, R358, R364). -/

namespace Sys2Proof

open Machine

/-- The 2048 bytes of a record. Pad, journal and checkpoint records are bytes of the engine's own. -/
def Chunk.bytes (c : Chunk) : List Byte :=
  if c.typ = 0 ∨ c.typ = 5 ∨ c.typ = 6 then c.body
  else
    let head := beBytes 1 c.typ ++ beBytes 1 c.flags ++ beBytes 2 c.channel ++ beBytes 2 c.stream ++ beBytes 6 c.first ++
      beBytes 8 c.time ++ beBytes 2 c.samples ++ beBytes 2 c.absent ++ beBytes 4 c.seq
    let body := (c.body ++ List.replicate 2016 0).take 2016
    head ++ leBytes 4 (crc32 (head ++ body)) ++ body

/-- Key of block `b` of channel `ch`. -/
def blockKey (ch b : Nat) : Nat := ch * 2 ^ 24 + b
def keyChan (k : Nat) : Nat := k / 2 ^ 24

def Volume.eraseCount (v : Volume) (b : Nat) : Nat := mget 0 v.erases b

/-- The block of `l` with the fewest erases, the first of equals. -/
def Volume.leastWorn (v : Volume) : List Nat → Option Nat
  | [] => none
  | b :: l => match v.leastWorn l with
    | none => some b
    | some c => if v.eraseCount c < v.eraseCount b then some c else some b

/-- Blocks of `l` on channel `ch`. -/
def onChannel (l : List Nat) (ch : Nat) : List Nat := l.filter fun b => keyChan b == ch

/-- Segments that the free blocks make: one block on each of the 8 channels (R352). -/
def Volume.freeSegs (v : Volume) : Nat :=
  (List.range 8).foldl (fun m ch => min m (onChannel v.free ch).length) v.free.length

/-- Every block of the volume on channel `ch`. -/
def Volume.blocksOn (v : Volume) (ch : Nat) : List Nat :=
  onChannel (v.free ++ v.spare ++ v.dirty ++ v.segs.flatMap fun g => g.blocks) ch

/-- Station time of the newest sample of a chunk. -/
def Chunk.newest (c : Chunk) : Nat := c.time + (c.samples - 1) * 2 ^ 32 / 48000

/-- Every chunk of a segment, in the order programmed. -/
def Segment.chunks (g : Segment) : List Chunk :=
  g.stripes.flatMap (fun st => st.flatten) ++ g.cur.flatMap fun p => p.2

/-- Recorder chunks of a segment. -/
def Segment.recorded (g : Segment) : List Chunk := g.chunks.filter fun c => c.typ == 1

def Segment.newest (g : Segment) : Nat := g.recorded.foldl (fun m c => max m c.newest) 0

/-- Open a segment on the least-worn free blocks (R352, R364); none where a channel has no free block. -/
def Volume.newSeg (v : Volume) (typ cls : Nat) : Option Volume :=
  let bs := (List.range 8).filterMap fun ch => v.leastWorn (onChannel v.free ch)
  if bs.length = 8 then
    let old := if typ = 6 then v.segs.filter fun g => g.typ == 6 else []
    some { v with
      next := v.next + 1
      free := v.free.filter fun b => !bs.contains b
      dirty := v.dirty ++ old.flatMap fun g => g.blocks
      segs := (v.segs.filter fun g => !(old.any fun o => o.seq == g.seq)) ++ [⟨v.next, typ, cls, bs, [], [], false, false, []⟩] }
  else none

/-- The open segment of a TYPE and class. -/
def Volume.openSeg (v : Volume) (typ cls : Nat) : Option Segment :=
  v.segs.find? fun g => !g.closed && g.typ == typ && g.cls == cls

end Sys2Proof
end

