-- ==== Sys2Proof/Machine/Timberyard.lean ====
section
/-! DEFINITION. The flash of Timberyard (15_timberyard_recorder.md R347 to R356, R364 to R367): codewords, segments and
stripes, retired blocks, mounts, retention and relocation. -/

namespace Sys2Proof.Machine

open Sys2Proof

/-- Change the Timberyard part of the state. -/
def State.onTyd (s : State) (f : Tyd → Tyd) : State := { s with tyd := f s.tyd }

/-- Change the volume. -/
def State.onVol (s : State) (f : Volume → Volume) : State := s.onTyd fun t => { t with vol := t.vol.map f }

/-- TYD_STAT.STATE: 0 UNMOUNTED, 1 MOUNTING, 2 READY, 3 FROZEN, 4 FAILED (R370). -/
def State.tydState (s : State) : Nat := s.fld TYD_STAT_STATE

def State.tydReady (s : State) : Bool := s.tydState == 2

/-- Class field value 3 acts as 2 (00 R3). -/
def tydClass (v : Nat) : Nat := min v 2

/-! ### Records and codewords (R349, R350, R358) -/

/-- A record whose bytes the manual leaves to the engine: a pad codeword, a journal or a checkpoint page (entry 34). -/
def State.ownRecord (s : State) (typ : Nat) : Chunk × State :=
  let (v, s) := s.free 16384
  (⟨typ, 0, 0, 0, 0, 0, 0, 0, 0, leBytes 2048 v.toNat, false⟩, s)

/-- `n` bytes of the scrambler from register `r` (R350). -/
def scramble : Nat → Nat → List Byte → List Byte
  | _, _, [] => []
  | r, acc, b :: bs =>
    let step (x : Nat × Nat) : Nat × Nat :=
      let o := x.1 / 32768 % 2
      let i := (x.1 / 32768 + x.1 / 16384 + x.1 / 4096 + x.1 / 8) % 2
      ((x.1 * 2 + i) % 65536, x.2 * 2 + o)
    let y := (List.range 8).foldl (fun x _ => step x) (r, 0)
    (b ^^^ BitVec.ofNat 8 y.2) :: scramble y.1 acc bs

/-- Row address bits of a page within a block. -/
def pageBits (pages : Nat) : Nat := if pages ≤ 1 then 0 else Nat.log2 (pages - 1) + 1

/-- Codeword `k` of a page with header fields as R349 gives them. -/
def codeword (v : Volume) (g : Segment) (stripe member row k typ : Nat) (parity : Bool) (payload : List Byte) : List Byte :=
  let head := beBytes 1 typ ++ beBytes 1 ((if parity then 128 else 0) + g.cls * 32 + k) ++ beBytes 4 g.seq ++
    beBytes 2 stripe ++ beBytes 1 member ++ beBytes 1 1 ++ beBytes 4 v.id.toNat ++ beBytes 2 0
  let seed := (row % 65536) ^^^ (0x100 * k + 1)
  let c := scramble (if seed = 0 then 1 else seed) 0 (head ++ payload)
  c ++ Config.ldpcParity c

/-- XOR of payloads. -/
def xorBytes : List (List Byte) → List Byte
  | [] => List.replicate 2048 0
  | [a] => a
  | a :: l => (a.zip (xorBytes l)).map fun p => p.1 ^^^ p.2

/-- A page goes to the flash. -/
def State.emitPage (s : State) (v : Volume) (g : Segment) (stripe ch : Nat) (parity : Bool) (recs : List (Nat × List Byte)) : State :=
  let b := g.blocks.getD ch 0 % 2 ^ 24
  let row := b * 2 ^ pageBits v.pages + stripe
  s.emit (.flash ch b stripe ((recs.zip (List.range 8)).flatMap fun r => codeword v g stripe ch row r.2 r.1.1 parity r.1.2))

/-- A data page goes to the flash. -/
def State.emitData (s : State) (v : Volume) (g : Segment) (stripe ch : Nat) (page : List Chunk) : State :=
  s.emitPage v g stripe ch false (page.map fun c => (if c.typ = 0 then 0 else g.typ, c.bytes))

/-- The parity page of a stripe goes to the flash (R352). -/
def State.emitParity (s : State) (v : Volume) (g : Segment) (stripe : Nat) (pages : List (List Chunk)) : State :=
  s.emitPage v g stripe (stripe % 8) true ((List.range 8).map fun k =>
    (g.typ, xorBytes (pages.map fun p => match p[k]? with
      | some c => c.bytes
      | none => List.replicate 2048 0)))

/-- The data members of stripe `n`, ascending (R352). -/
def dataChans (n : Nat) : List Nat := (List.range 8).filter fun c => c != n % 8

/-- A whole stripe goes to the flash. -/
def State.emitStripe (s : State) (v : Volume) (g : Segment) (n : Nat) (pages : List (List Chunk)) : State :=
  (((dataChans n).zip pages).foldl (fun s p => s.emitData v g n p.1 p.2) s).emitParity v g n pages

/-! ### Blocks (R354, R364) -/

/-- Pages still to be programmed by a channel's spare pool (TYD_CH_SPARE). -/
def State.refreshSpare (s : State) (ch : Nat) : State :=
  match s.tyd.vol with
  | some v => s.wrN (TYD_CH_SPARE + 0x10 * ch) (onChannel v.spare ch).length
  | none => s

/-- Block `b` reported FAIL and is retired (R354, R364): the block that takes its place, where the pool has one. -/
def State.retire (s : State) (b : Nat) (inj : Bool) : Option Nat × State :=
  let ch := keyChan b
  let s := (s.evt 0x78 4).onVol fun v => { v with
    free := v.free.filter (· != b), dirty := v.dirty.filter (· != b), spare := v.spare.filter (· != b) }
  let s := s.wrN (TYD_CH_GOOD + 0x10 * ch) ((s.rd (TYD_CH_GOOD + 0x10 * ch)).toNat - 1)
  match s.tyd.vol.bind fun v => v.leastWorn (onChannel v.spare ch) with
  | some r =>
    let s := (s.onVol fun v => { v with spare := v.spare.filter (· != r) }).refreshSpare ch
    (some r, s.sprLog 5 false inj ch (r % 2 ^ 24))
  | none =>
    let s := s.onVol fun v => { v with short := true }
    (none, ((s.wrN TYD_SEG_TOTAL ((s.rd TYD_SEG_TOTAL).toNat - 1)).sprLog 5 true inj ch 0).degrade 4 true)

/-! ### Retention (R367) -/

/-- A running export pins the segment (R363). -/
def State.pinned (s : State) (g : Segment) : Bool :=
  match s.tyd.exp with
  | none => false
  | some e => g.typ == (if e.kind = 0 then 1 else 4) &&
      g.chunks.any fun c => c.typ == g.typ && decide (c.time ≤ e.stop) && decide (e.start ≤ c.newest)

/-- TGT and FLOOR of class `c` in units of station time. -/
def State.retention (s : State) (c : Nat) : Nat × Nat :=
  let t := s.fld (TYD_RET_TGT.sh (4 * c))
  let h := 3600 * 2 ^ 32
  (t * h, min t (s.fld (TYD_RET_FLOOR.sh (4 * c))) * h)

/-- TYD_CAP_STAT.STEP. -/
def State.capStep (s : State) : Nat := s.fld TYD_CAP_STAT_STEP

/-- Class `c` does not record at the present step. -/
def State.classStopped (s : State) (c : Nat) : Bool := decide (5 - 2 * c ≤ s.capStep)

/-- The oldest of some segments by newest sample, ties to the higher class. -/
def oldestSeg : List Segment → Option Segment
  | [] => none
  | g :: l => match oldestSeg l with
    | none => some g
    | some h => if h.newest < g.newest ∨ (h.newest = g.newest ∧ g.cls < h.cls) then some h else some g

/-- The first rule that finds a victim. -/
def firstVictim (l : List Segment) : List (Segment → Bool) → Option Segment
  | [] => none
  | p :: ps => match oldestSeg (l.filter p) with
    | some g => some g
    | none => firstVictim l ps

/-- The victim that the rules of the steps in force select for data of class `cls`; `cls0` says that it is class-0 recorder
data. -/
def State.victim (s : State) (v : Volume) (cls0 : Bool) : Option Segment :=
  let step := s.capStep
  let past (lim : Nat) (g : Segment) : Bool := decide (lim < s.time - g.newest)
  let cand := v.segs.filter fun g => g.closed && g.typ == 1 && !s.pinned g
  firstVictim cand ([fun g => past (s.retention g.cls).1 g] ++
    (if 2 ≤ step then [fun g => g.cls == 1 && past (s.retention 1).2 g] else []) ++
    (if 3 ≤ step ∧ cls0 then [fun g => g.cls == 1, fun g => g.cls == 2] else []) ++
    (if 4 ≤ step then [fun g => g.cls == 0 && past (s.retention 0).2 g] else []))

/-- Set TYD_CAP_STAT.STEP; the degradation cause follows (18 R431). -/
def State.putStep (s : State) (n : Nat) : State := (s.setFld TYD_CAP_STAT_STEP n).degrade 5 (decide (0 < n))

/-- A segment is given up: its blocks wait to be erased. -/
def State.dropSeg (s : State) (g : Segment) : State :=
  s.onVol fun v => { v with segs := v.segs.filter fun h => h.seq != g.seq, dirty := v.dirty ++ g.blocks }

/-- Reclaim a victim, applying the next step each time there is none (R367): whether one was found. -/
def State.reclaim : Nat → Bool → State → Bool × State
  | 0, _, s => (false, s)
  | n + 1, cls0, s =>
    match s.tyd.vol.bind fun v => s.victim v cls0 with
    | some g => (true, s.dropSeg g)
    | none =>
      if s.capStep < 5 then
        let k := s.capStep + 1
        let s := (s.putStep k).evt 0x78 5
        State.reclaim n cls0 (if k = 5 then s.evt 0x78 7 else s)
      else (false, s)

/-- The highest step is lifted once enough segments are free (R367). -/
def State.liftStep (s : State) : State :=
  match s.tyd.vol with
  | none => s
  | some v =>
    if 0 < s.capStep ∧ s.fld TYD_RESERVE_SEGMENTS + (s.rd TYD_SEG_TOTAL).toNat / 100 < v.freeSegs then s.putStep (s.capStep - 1)
    else s

/-! ### Segments and stripes (R352) -/

/-- Have a segment of a TYPE and class open (R367): whether there is one. -/
def State.haveSeg (s : State) (typ cls : Nat) : Bool × State :=
  match s.tyd.vol with
  | none => (false, s)
  | some v =>
    if (v.openSeg typ cls).isSome then (true, s)
    else
      let (ok, s) := if s.fld TYD_RESERVE_SEGMENTS < v.freeSegs then (true, s)
        else State.reclaim 7 (decide (typ = 1) && decide (cls = 0)) s
      if ok then match s.tyd.vol.bind fun v => v.newSeg typ cls with
        | some v => (true, s.onTyd fun t => { t with vol := some v })
        | none => (false, s)
      else (false, s)

/-- Put back a segment of the volume. -/
def State.putSeg (s : State) (g : Segment) : State :=
  s.onVol fun v => { v with segs := v.segs.map fun h => if h.seq = g.seq then g else h }

/-- The block of channel `ch` of a segment has been retired and block `r` takes its place: the pages of its closed stripes are
copied (R354). -/
def State.spareIn (s : State) (v : Volume) (g : Segment) (ch r : Nat) : Segment × State :=
  let g := { g with blocks := g.blocks.set ch r }
  (g, (g.stripes.zip (List.range g.stripes.length)).foldl (fun s p =>
    if p.2 % 8 = ch then s.emitParity v g p.2 p.1
    else match (((dataChans p.2).zip p.1).find? fun q => q.1 == ch) with
      | some q => s.emitData v g p.2 ch q.2
      | none => s) s)

/-- Close the stripe whose 7 data members are programmed, its parity member `failed` where it reports FAIL; a full segment
closes. With no spare for that block the stripe is left without parity and the segment closes (R352, R354). -/
def State.closeStripe (s : State) (v : Volume) (g : Segment) (failed : Bool) : State :=
  if g.cur.length < 7 then s.putSeg g
  else
    let n := g.stripes.length
    let pages := g.cur.map fun p => p.2
    let done (g : Segment) : Segment := { g with stripes := g.stripes ++ [pages], cur := [], closed := decide (v.pages ≤ n + 1) }
    if failed then
      match s.retire (g.blocks.getD (n % 8) 0) false with
      | (none, s) => s.putSeg { done g with closed := true, lost := g.lost ++ [(n, n % 8)] }
      | (some r, s) =>
        let (g, s) := s.spareIn v g (n % 8) r
        (s.emitParity v g n pages).putSeg (done g)
    else (s.emitParity v g n pages).putSeg (done g)

/-- `n` pad pages. -/
def State.padPage (s : State) : List Chunk × State :=
  (List.range 8).foldl (fun (a : List Chunk × State) _ =>
    let (c, s) := a.2.ownRecord 0
    (a.1 ++ [c], s)) ([], s)

/-- Program pad codewords in what is left of an open stripe, then its parity member (R356). -/
def State.padStripe (s : State) (v : Volume) : Nat → Segment → Segment × State
  | 0, g => (g, s)
  | k + 1, g =>
    if g.cur = [] then (g, s)
    else match (dataChans g.stripes.length)[g.cur.length]? with
      | none =>
        let pages := g.cur.map fun p => p.2
        ({ g with stripes := g.stripes ++ [pages], cur := [] }, s.emitParity v g g.stripes.length pages)
      | some ch =>
        let (page, s) := s.padPage
        (s.emitData v g g.stripes.length ch page).padStripe v k { g with cur := g.cur ++ [(ch, page)] }

/-- Complete the partial stripe of a segment; a segment that is full is closed. -/
def State.completeStripe (s : State) (g : Segment) (close : Bool) : State :=
  match s.tyd.vol with
  | none => s
  | some v =>
    let (g, s) := s.padStripe v 8 g
    s.putSeg { g with closed := close || decide (v.pages ≤ g.stripes.length) }

/-- Program one data page in the open segment of a TYPE and class, `failed` where it reports FAIL and `parFailed` where the
parity page of the stripe it completes does (R352, R354): whether the page is stored. -/
def State.program (s : State) (typ cls : Nat) (page : List Chunk) (failed parFailed : Bool) : Bool × State :=
  let (ok, s) := s.haveSeg typ cls
  match ok, s.tyd.vol.bind fun v => (v.openSeg typ cls).map fun g => (v, g) with
  | true, some (v, g) =>
    let n := g.stripes.length
    match (dataChans n)[g.cur.length]? with
    | none => (false, s)
    | some ch =>
      let (inj, s) := s.takeInj 0x78 4
      if failed ∨ inj then
        let b := g.blocks.getD ch 0
        match s.retire b inj with
        | (none, s) => (false, s.completeStripe g true)
        | (some r, s) =>
          let (g, s) := s.spareIn v g ch r
          let s := g.cur.foldl (fun s p => if p.1 = ch then s.emitData v g n ch p.2 else s) s
          (true, (s.emitData v g n ch page).closeStripe v { g with cur := g.cur ++ [(ch, page)] } parFailed)
      else (true, (s.emitData v g n ch page).closeStripe v { g with cur := g.cur ++ [(ch, page)] } parFailed)
  | _, _ => (false, s)

/-! ### Programs and erases that complete (R354, R364, R366) -/

/-- The static wear rule: the closed segment with the least-erased block of a channel is due for relocation (R364). -/
def State.levelWear (s : State) (ch : Nat) : State :=
  match s.tyd.vol with
  | none => s
  | some v =>
    let bs := v.blocksOn ch
    let hi := bs.foldl (fun m b => max m (v.eraseCount b)) 0
    match v.leastWorn bs with
    | none => s
    | some b =>
      if max 1 (s.fld TYD_CTRL_WL_DELTA) * 10 < hi - v.eraseCount b then
        s.onVol fun v => { v with segs := v.segs.map fun g => if g.closed && g.blocks.contains b then { g with reloc := true } else g }
      else s

/-- A block that waits for its erase is erased (R354, R364, R366). -/
def State.eraseDone (s : State) (b : Nat) (failed : Bool) : State :=
  match s.tyd.vol with
  | none => s
  | some v =>
    let held : Bool := match s.tyd.exp with
      | some e => e.held.contains b
      | none => false
    if ¬ v.dirty.contains b ∨ held then s
    else if failed then
      let (r, s) := s.retire b false
      match r with
      | some r => s.onVol fun v => { v with free := v.free ++ [r] }
      | none => s
    else
      let s := s.onVol fun v => { v with
        dirty := v.dirty.filter (· != b), free := v.free ++ [b]
        erases := mset 0 v.erases b (v.eraseCount b + 1), reads := mset 0 v.reads b 0 }
      let s := s.emit (.flash (keyChan b) (b % 2 ^ 24) 0 [])
      let s := match s.tyd.vol with
        | some w => if v.freeSegs < w.freeSegs then s.liftStep else s
        | none => s
      s.levelWear (keyChan b)

/-- The first 8 buffered chunks of a TYPE and class, and what is left. -/
def takePage (typ cls : Nat) (buf : List Chunk) : List Chunk × List Chunk :=
  buf.foldl (fun (a : List Chunk × List Chunk) c =>
    if a.1.length < 8 ∧ c.typ = typ ∧ (typ ≠ 1 ∨ c.flags / 64 = cls) then (a.1 ++ [c], a.2) else (a.1, a.2 ++ [c])) ([], [])

/-- PAGE_PROGRAM_DONE (R354): a page of buffered chunks is programmed, or a block erased. -/
def execPageProgramDone (prog : PageProgram) (failed : Bool) (s : State) : Res :=
  .next (if s.tydReady then
    match prog with
    | .erase b => s.eraseDone b failed
    | .page typ cls parFailed =>
      let (page, rest) := takePage typ cls s.tyd.buf
      if page.length < 8 then s
      else
        let (ok, s) := s.program typ (if typ = 1 then cls else 0) page failed parFailed
        if ok then s.onTyd fun t => { t with buf := rest } else s
  else s)

/-! ### Reads and relocation (R351, R353, R365, R366) -/

/-- Data pages of stripe `st` on channels `chs` are lost. -/
def State.losePages (s : State) (g : Segment) (st : Nat) (chs : List Nat) : State :=
  let new := (chs.filter fun c => c != st % 8).map fun c => (st, c)
  let s := s.putSeg { g with lost := g.lost ++ new.filter fun p => !g.lost.contains p }
  if new = [] then s else (s.bump (whole TYD_UNREC) new.length).evt 0x78 3

/-- A page read of segment `g` that completes (R351, R353, R365). -/
def State.pageRead (s : State) (g : Segment) (r : PageRead) : State :=
  let b := g.blocks.getD r.ch 0
  let reads := (match s.tyd.vol with | some v => mget 0 v.reads b | none => 0) + 1
  let s := s.onVol fun v => { v with reads := mset 0 v.reads b reads }
  let bits := (List.range 8).filter fun k => decide (40 < r.errs.getD k 0)
  let bad := bits.any fun k => !r.fixed.getD k false
  let worn := decide (50000 ≤ reads) ||
    (List.range 8).any fun k => decide (s.fld TYD_CTRL_REFRESH_BITS < r.errs.getD k 0) && (decide (r.errs.getD k 0 ≤ 40) || r.fixed.getD k false)
  let done := decide (r.stripe < g.stripes.length)
  let (u, s) := s.takeInj 0x78 3
  let (i, s) := if done then s.takeInj 0x78 2 else (false, s)
  let g := { g with reloc := g.reloc || worn }
  if ¬ (bad ∨ u ∨ i) then s.putSeg g
  else
    let bads := (if u then [r.stripe % 8] else []) ++ r.bad ++ (g.lost.filter fun p => p.1 == r.stripe).map fun p => p.2
    let others := bads.filter fun c => c != r.ch
    if done ∧ others = [] then
      ((s.putSeg { g with reloc := true }).bump (whole TYD_REBUILT)).evt 0x78 2
    else s.losePages g r.stripe (r.ch :: others)

/-- PAGE_READ_DONE (R351). -/
def execPageReadDone (rd : PageRead) (s : State) : Res :=
  .next (if s.tydReady then
    match s.tyd.vol.bind fun v => v.segs.find? fun g => g.seq == rd.seq with
    | none => s
    | some g => if rd.stripe < g.stripes.length ∨ (g.cur.any fun p => p.1 == rd.ch) then s.pageRead g rd else s
  else s)

/-- SEGMENT_REFRESH (R365): a closed segment is read in full. -/
def execSegmentRefresh (segment : Nat) (s : State) : Res :=
  .next (if s.tydReady then
    (s.onTime 4).onVol fun v => match v.segs.find? fun g => g.closed && g.seq == segment with
      | none => v
      | some g =>
        let reads := g.blocks.foldl (fun m b => mset 0 m b (mget 0 m b + g.stripes.length)) v.reads
        { v with
          reads := reads
          segs := v.segs.map fun h =>
            if h.seq = segment then { h with reloc := h.reloc || h.blocks.any fun b => decide (50000 ≤ mget 0 reads b) } else h }
  else s)

/-- RELOCATION_DONE (R366): the first segment that is due has been copied to a new one, and the table switches. -/
def execRelocationDone (s : State) : Res :=
  .next (if s.tydReady then
    match s.tyd.vol with
    | none => s
    | some v => match v.segs.find? fun g => g.closed && g.reloc with
      | none => s
      | some g => match v.newSeg 0 0 with
        | none => s
        | some w => match w.segs.getLast? with
          | none => s
          | some h =>
            let n : Segment := { g with seq := h.seq, blocks := h.blocks, reloc := false }
            let pin := s.pinned g
            let w := { w with segs := (w.segs.filter fun x => x.seq != g.seq && x.seq != h.seq) ++ [n], dirty := w.dirty ++ g.blocks }
            let s := s.onTyd fun t => { t with
              vol := some w
              exp := t.exp.map fun e => if pin then { e with held := e.held ++ g.blocks } else e }
            (n.stripes.zip (List.range n.stripes.length)).foldl (fun s p => s.emitStripe w n p.2 p.1) s
  else s)

/-- CHECKPOINT (R356): the segment table is written to its own segment; its bytes are the engine's own (entry 34). -/
def execCheckpoint (s : State) : Res :=
  .next (if s.tydReady ∧ s.tyd.vol.isSome then
    let (page, s) := (List.range 8).foldl (fun (a : List Chunk × State) _ =>
      let (c, s) := a.2.ownRecord 6
      (a.1 ++ [c], s)) ([], s)
    let (ok, s) := s.program 6 0 page false false
    if ok then
      let s := match s.tyd.vol.bind fun v => v.openSeg 6 0 with
        | some g => s.completeStripe g false
        | none => s
      s.onTyd fun t => { t with ckpt := s.time }
    else s
  else s)

/-! ### Mount and format (R348, R356, R362) -/

/-- A mount begins, where Timberyard is UNMOUNTED (R356, R370). -/
def State.startMount (s : State) : State := if s.tydState = 0 then s.setFld TYD_STAT_STATE 1 else s

/-- The channels that a mount finds usable. -/
def State.usable (s : State) (d : DiscoveredVolume) : List Nat :=
  (List.range 8).filter fun ch => s.fld (TYD_CH_CFG_EN.sh (0x10 * ch)) == 1 &&
    match d.chans[ch]? with
    | some c => c.up && decide (0 < c.luns)
    | none => false

/-- What discovery shows of channel `ch` (R348, R373). -/
def State.showChan (s : State) (d : DiscoveredVolume) (ch : Nat) : State :=
  let up := (s.usable d).contains ch
  match d.chans[ch]? with
  | none => s
  | some c =>
    let tm := min (min 10 (s.fld (TYD_CH_CFG_TMODE.sh (0x10 * ch)))) c.tmode
    let s := s.wrN (TYD_CH_STAT + 0x10 * ch) (if up then
      2 ^ 31 + (if c.slow then 2 ^ 30 else 0) + tm % 16 * 2 ^ 26 + c.luns % 512 * 2 ^ 16 + c.refused % 512 else c.refused % 512)
    s.wrN (TYD_CH_GOOD + 0x10 * ch) (if up then c.good % 2 ^ 24 else 0)

/-- SPARE_PCT as it acts (R370). -/
def State.sparePct (s : State) : Nat := max 1 (min 25 (s.fld TYD_CTRL_SPARE_PCT))

/-- TYD_INFLIGHT captures the open stripe of the recorder segment of lowest class (R355). -/
def State.captureInflight (s : State) : State :=
  match s.tyd.vol.bind fun v => ((List.range 3).filterMap fun c => v.openSeg 1 c).head? with
  | none => s
  | some g => (s.wrN TYD_INFLIGHT_SEG g.seq).wrN TYD_INFLIGHT
      (2 ^ 31 + g.stripes.length * 2 ^ 8 + (g.cur.map fun p => 2 ^ p.1).sum)

/-- A mount ends (R356): partial stripes are completed and open segments closed. -/
def State.mount (s : State) (d : DiscoveredVolume) : State :=
  let s := (List.range 8).foldl (fun s ch => s.showChan d ch) s
  let s := s.wrN TYD_MOUNT_TIME d.ms
  let (need, s) := s.free 32
  let s := s.wr TYD_TABLE_NEED need
  if s.usable d = [] then s.setFld TYD_STAT_STATE 4
  else
    let s := if s.tyd.vol.isSome then s else s.onTyd fun t => { t with vol := d.found }
    let s := s.captureInflight
    let s := match s.tyd.vol with
      | none => s
      | some v => (v.segs.filter fun g : Segment => !g.closed).foldl (fun s g => s.completeStripe g true) s
    let s := match s.tyd.vol with
      | none => s
      | some v =>
        let n := (List.range 8).foldl (fun m ch => min m ((v.blocksOn ch).length - (onChannel v.spare ch).length)) (2 ^ 24)
        let s : State := (List.range 8).foldl (fun s ch => s.refreshSpare ch) (s.wrN TYD_SEG_TOTAL n)
        if v.short then s.degrade 4 true else s
    let s := if s.fld TYD_INFLIGHT_VALID = 1 then s.setFld TYD_INFLIGHT_COMPLETED 1 else s
    let s := s.setFld TYD_STAT_FORMATTED (if s.tyd.vol.isSome then 1 else 0)
    (s.setFld TYD_STAT_STATE 2).evt 0x78 0

/-- MOUNTED (R356). -/
def execMounted (disc : DiscoveredVolume) (s : State) : Res := .next (if s.tydState = 1 then s.mount disc else s)

/-- The volume that a FORMAT makes: every good block erased, the spare pool of each channel filled (R362, R364). -/
def State.formatted (s : State) (id : BitVec 32) (d : DiscoveredVolume) : Volume :=
  let good ch := match s.tyd.vol with
    | some v => v.blocksOn ch
    | none => match d.chans[ch]? with
      | some c => (List.range c.good).map fun b => blockKey ch b
      | none => []
  let old : Volume := match s.tyd.vol with
    | some v => v
    | none => ⟨id, 0, [], [], [], [], [], [], d.pages, false⟩
  let all := (s.usable d).map fun ch => good ch
  let spares := all.map fun bs => bs.take (bs.length * s.sparePct / 100)
  { id := id, next := 0, segs := [], reads := [], dirty := [], pages := d.pages, short := false
    erases := all.flatten.foldl (fun m b => mset 0 m b (old.eraseCount b + 1)) old.erases
    spare := spares.flatten
    free := (all.map fun bs => bs.drop (bs.length * s.sparePct / 100)).flatten }

/-- FORMAT (R362): erase, draw a VOL_ID, and mount. -/
def execFormat (volume : BitVec 32) (disc : DiscoveredVolume) (s : State) : Res :=
  s.runCmd 0x46 fun c s =>
    if ¬ s.cfgMode ∨ s.tyd.frozen then s.completeCmd c { primary := 0x03, aux := s.crnState }
    else
      let v := s.formatted volume disc
      let s := s.onTyd fun t => { t with vol := some v }
      let s := (v.free ++ v.spare).foldl (fun s b => s.emit (.flash (keyChan b) (b % 2 ^ 24) 0 [])) s
      let s := (s.degrade 4 false).putStep 0
      (s.mount disc).completeCmd c { primary := 0 }

end Sys2Proof.Machine
end

