-- ==== Sys2Proof/Machine/Recorder.lean ====
section
/-! DEFINITION. The recorder, the event log and library playback (15_timberyard_recorder.md R357 to R361, R363). -/

namespace Sys2Proof.Machine

open Sys2Proof

/-! ### The buffer (R360) -/

/-- A chunk of class `c` is dropped. -/
def State.dropChunk (s : State) (c : Nat) : State :=
  (s.bump ⟨TYD_DROP, 23 - 8 * c, 16 - 8 * c⟩).evt 0x78 6

/-- Recorder chunks of class `c` in the buffer. -/
def State.buffered (s : State) (c : Nat) : Nat := (s.tyd.buf.filter fun k => k.typ == 1 && k.flags / 64 == c).length

/-- A closed recorder chunk of class `c` enters the buffer or is dropped. -/
def State.bufferChunk (s : State) (c : Nat) (k : Chunk) : State :=
  let full := decide (1152 ≤ s.tyd.buf.length) || (c == 2 && decide (768 ≤ s.buffered 2)) ||
    (c != 0 && decide (1024 ≤ s.buffered 1 + s.buffered 2))
  if full ∨ s.classStopped c then s.dropChunk c else s.onTyd fun t => { t with buf := t.buf ++ [k] }

/-! ### Recorder channels (R357 to R359) -/

/-- The setting of recorder channel `ch`. -/
def State.recSet (s : State) (ch : Nat) : Reg32 := s.rd (TYD_REC + 4 * ch)

/-- The record of an open chunk. -/
def OpenChunk.close (o : OpenChunk) (ch seq : Nat) : Chunk where
  typ := 1
  flags := tydClass (bitsNat o.set.toNat 29 28) * 64 + bitsNat o.set.toNat 30 30 * 32
  channel := ch
  stream := bitsNat o.set.toNat 10 0
  first := o.first
  time := o.time
  samples := o.samples.length
  absent := (o.samples.filter fun c => c == 0x800000).length
  seq := seq
  body := o.samples.reverse.flatMap fun c => beBytes 3 c
  dead := false

/-- The open chunk of channel `ch` closes. -/
def State.closeChunk (s : State) (ch : Nat) : State :=
  match mfind s.tyd.chans ch with
  | some ⟨some o, q⟩ =>
    (s.onTyd fun t => { t with chans := mins t.chans ch ⟨none, q + 1⟩ }).bufferChunk (tydClass (bitsNat o.set.toNat 29 28))
      (o.close ch q)
  | _ => s

/-- A word as a code of 24 bits. -/
def code24 (w : Word) : Nat := (BitVec.ofInt 24 (outCode 24 w).1).toNat

/-- What the tap of a setting gives for the index in progress (R357). -/
def State.tapValue (s : State) (set : Reg32) : Nat :=
  let k := bitsNat set.toNat 10 0
  if set.getLsbD 30 then code24 (s.peekSink k s.idx)
  else match (s.tick s.idx).bind fun t => (t.arrival k).bind fun a => a.v with
    | some w => code24 w
    | none => 0x800000

/-- Recorder channel `ch` takes a sample; at 96 kHz the decimator's value is not given (entry 2). -/
def State.recordSample (s : State) (ch : Nat) : State :=
  let set := s.recSet ch
  let (v, s) : Nat × State :=
    if s.plb.fast then
      let (w, s) := s.free 72
      (code24 w, s)
    else (s.tapValue set, s)
  let q := match mfind s.tyd.chans ch with
    | some r => r.seq
    | none => 0
  let o : OpenChunk := match mfind s.tyd.chans ch with
    | some ⟨some o, _⟩ => { o with samples := v :: o.samples }
    | _ => ⟨set, s.idx, s.plb.tickTime, [v]⟩
  let s := s.onTyd fun t => { t with chans := mins t.chans ch ⟨some o, q⟩ }
  if 672 ≤ o.samples.length then s.closeChunk ch else s

/-- The recorder is taking samples (R357). -/
def State.recording (s : State) : Bool :=
  s.runMode && s.tydReady && s.fld TYD_CTRL_REC_EN == 1 && !s.tyd.frozen

/-- The open chunk of channel `ch` was opened under another setting. -/
def State.recStale (s : State) (ch : Nat) : Bool :=
  match mfind s.tyd.chans ch with
  | some ⟨some o, _⟩ => o.set != s.recSet ch
  | _ => false

/-- Recorder channel `ch` at the tick that ends the index in progress. -/
def State.recChannel (s : State) (on : Bool) (ch : Nat) : State :=
  let en := (s.recSet ch).getLsbD 31
  let s := if !on || !en || s.recStale ch then s.closeChunk ch else s
  if ¬ en then s.onTyd fun t => { t with chans := mdel t.chans ch }
  else if on && (!s.plb.fast || s.idx % 2 == 0) then s.recordSample ch
  else s

/-- Bytes of an event-log entry (R363): the detail of a journal record is J, STATE, J_FLIPPED, J_DONE (entry 35). -/
def LogRec.bytes (l : LogRec) : List Byte :=
  let d := match l.detail with
    | [j, st, fl, dn] => beBytes 4 j ++ beBytes 2 st ++ beBytes 4 fl ++ beBytes 4 dn
    | [i] => beBytes 4 i ++ beBytes 10 0
    | _ => beBytes 14 0
  beBytes 8 l.time ++ beBytes 6 l.idx ++ beBytes 2 l.page ++ beBytes 1 l.bit ++ beBytes 1 l.source ++ d

/-- The oldest waiting log entries become a chunk. -/
def State.logChunk (s : State) : State :=
  let es := s.evlog.reverse.take 63
  match es with
  | [] => s
  | e :: _ =>
    let c : Chunk := ⟨4, 0, 0, 0, e.idx, e.time, es.length, 0, 0, es.flatMap fun e => e.bytes, false⟩
    let s := { s with evlog := (s.evlog.reverse.drop 63).reverse }
    if s.tyd.buf.length < 1152 then s.onTyd fun t => { t with buf := t.buf ++ [c] } else s

/-- Timberyard takes its taps for the index that ends (R357, R358), and closes a full chunk of the event log. -/
def State.recTick (s : State) : State :=
  let on := s.recording
  let s := (List.range 512).foldl (fun s ch => s.recChannel on ch) s
  if s.tydReady ∧ ¬ s.tyd.frozen ∧ 63 ≤ s.evlog.length then s.logChunk else s

/-! ### Library items (R361) -/

/-- Chunks of a TYPE and channel number that stand in the flash, by position, with whether their page is lost. -/
def State.storedChunks (s : State) (typ n : Nat) : List (Chunk × Bool) :=
  match s.tyd.vol with
  | none => []
  | some v =>
    let of (g : Segment) (st ch : Nat) (p : List Chunk) : List (Chunk × Bool) :=
      (p.filter fun c => c.typ == typ && c.channel == n && !c.dead).map fun c => (c, g.lost.contains (st, ch))
    let seg (g : Segment) : List (Chunk × Bool) :=
      ((g.stripes.zip (List.range g.stripes.length)).flatMap fun p =>
        ((dataChans p.2).zip p.1).flatMap fun q => of g p.2 q.1 q.2) ++
      g.cur.flatMap fun q => of g g.stripes.length q.1 q.2
    sortBy (fun c => c.1.first) ((v.segs.filter fun g => g.typ == typ).flatMap seg)

/-- Length and rate of an item in the library, none where it is absent. -/
def State.libItem (s : State) (item : Nat) : Option (Nat × Bool) :=
  if s.tydReady then
    match (s.storedChunks 2 item).getLast? with
    | none => none
    | some (c, _) => some (c.first + c.samples, c.flags % 2 == 1)
  else none

/-- Sample `k` of an item; none where its page is lost. -/
def State.libSample (s : State) (item k : Nat) : Option Word :=
  match (s.storedChunks 2 item).find? fun c => decide (c.1.first ≤ k) && decide (k < c.1.first + c.1.samples) with
  | some (c, false) => some (inCode 24 (beNat ((c.body.drop (3 * (k - c.first))).take 3)))
  | _ => none

/-- Samples of one pass at the engine rate (R361). -/
def passLen (n : Nat) (item96 fast : Bool) : Nat := if item96 = fast then n else if fast then 2 * n else (n + 1) / 2

/-! ### Playback streams (R361, R372) -/

def pbFld (f : Fld) (st : Nat) : Fld := f.sh (0x10 * st)

def State.playback (s : State) (st : Nat) : Playback := mget ⟨none, none⟩ s.tyd.pb st

/-- Set a playback stream; GO and STATE follow. -/
def State.putPlayback (s : State) (st : Nat) (p : Playback) : State :=
  let s := s.onTyd fun t => { t with pb := mset ⟨none, none⟩ t.pb st p }
  let n := if p.play.isSome then 2 else if p.armed.isSome then 1 else 0
  (s.setFld (pbFld PB_STAT_STATE st) n).setFld (pbFld PB_CTRL_GO st) (if n = 0 then 0 else 1)

/-- The stream returns to IDLE, or to ARMED where it is armed again. -/
def State.pbEnd (s : State) (st : Nat) : State :=
  let p := s.playback st
  let s := (s.putPlayback st { p with play := none }).tell 6 st s.idx (beBytes 1 0)
  if p.armed.isSome then s else s.evt 0x7A 2

/-- A sample of the stream is absent, and counted. -/
def State.pbUnder (s : State) (st : Nat) : State :=
  ((s.bump (whole TYD_PB_UNDER)).evt 0x7A 0).deliver (1056 + st) none s.idx s.trs.now

/-- The lowest-numbered PLAYING stream. -/
def State.firstPlaying (s : State) (st : Nat) : Bool := (List.range st).all fun i => (s.playback i).play.isNone

/-- Stream `st` delivers its sample for the index in progress and, after its last, ends. A standby whose library lacks the
item delivers nothing: it takes the active engine's samples (16 R383). -/
def State.pbPlay (s : State) (st : Nat) (q : Playing) : State :=
  match s.libItem q.item with
  | none => if s.mode = .standby then s else (s.pbUnder st).pbEnd st
  | some (n, r) =>
    let len := max 1 (passLen n r s.plb.fast)
    let k := (2 ^ 48 + s.idx - q.start) % 2 ^ 48
    let pos := if r = s.plb.fast then k % len else if s.plb.fast then k % len / 2 else k % len * 2
    let (inj, s) := if s.firstPlaying st then s.takeInj 0x7A 0 else (false, s)
    let s :=
      if inj then s.pbUnder st
      else if r = s.plb.fast then
        match s.libSample q.item pos with
        | some w => s.deliver (1056 + st) (some w) s.idx s.trs.now
        | none => s.pbUnder st
      else
        let (w, s) := s.free 72
        s.deliver (1056 + st) (some w) s.idx s.trs.now
    let s := (s.wrN (PB_POS + 0x10 * st) pos).putPlayback st { s.playback st with play := some { q with rep := k / len } }
    let s := s.setFld ⟨PB_STAT + 0x10 * st, 15, 0⟩ (k / len % 65536)
    let rep := s.fld (pbFld PB_LOOP_REPEAT st)
    if (k + 1) % len = 0 ∧ rep ≠ 0xFFFF ∧ rep < (k + 1) / len then s.pbEnd st else s

/-- A playback stream at a sample tick: at its start tick PLAYBACK_START delivers. -/
def State.pbStream (s : State) (st : Nat) : State :=
  let p := s.playback st
  let begins := match p.armed with
    | some (_, some n) => n == s.idx
    | _ => false
  if begins then (if p.play.isSome then s.putPlayback st { p with play := none } else s)
  else match p.play with
    | some q => s.pbPlay st q
    | none => s.deliver (1056 + st) (some 0) s.idx s.trs.now

/-- Playback at a sample tick. -/
def State.pbTick (s : State) : State := if s.powered 22 then (List.range 64).foldl (fun s st => s.pbStream st) s else s

/-- PLAYBACK_START (R361): at its start tick an armed stream begins; the sample it delivered for the tick is replaced. -/
def execPlaybackStart (st : Fin 64) (s : State) : Res :=
  .next (match (s.playback st).armed with
  | some (item, some n) =>
    if n = s.idx then
      let q : Playing := ⟨item, n, 0⟩
      let s := (s.putPlayback st ⟨none, some q⟩).tell 6 st n (beBytes 1 1)
      (s.onTick n fun t => { t with arr := mdel t.arr (1056 + st) }).pbPlay st q
    else s
  | _ => s)

/-- A forwarded decision on a playback stream (16 R385): it starts at the index in progress, or has ended. -/
def State.pbDecision (s : State) (st start : Nat) : State :=
  let p := s.playback st
  if start = 0 then (if p.play.isSome then s.pbEnd st else s)
  else if p.play.isSome then s
  else s.putPlayback st ⟨none, some ⟨s.fld (pbFld PB_CTRL_ITEM st), s.idx, 0⟩⟩

/-- Compare unit `k` fires: the streams armed on it start at this tick. -/
def State.firePlayback (s : State) (k : Nat) : State :=
  (List.range 64).foldl (fun s st =>
    match (s.playback st).armed with
    | some (item, none) =>
      if s.fld (pbFld PB_CTRL_START_SRC st) = k + 1 then s.putPlayback st { s.playback st with armed := some (item, some s.idx) }
      else s
    | _ => s) s

/-- The write of PB_CTRL (R361, R372): STOP, then GO. -/
def State.writePbCtrl (s : State) (st : Nat) (v : Reg32) : State :=
  let s := (s.setFld (pbFld PB_CTRL_START_SRC st) (bitsNat v.toNat 20 16)).setFld (pbFld PB_CTRL_ITEM st) (bitsNat v.toNat 15 0)
  let p := s.playback st
  let s := if v.getLsbD 30 ∧ p ≠ ⟨none, none⟩ then (s.putPlayback st ⟨none, none⟩).evt 0x7A 2 else s
  if v.getLsbD 31 then
    let item := bitsNat v.toNat 15 0
    let src := bitsNat v.toNat 20 16
    let s := s.setFld (pbFld PB_STAT_NO_ITEM st) 0
    if (s.libItem item).isNone ∧ ¬ (s.mode = .standby ∧ s.lockstep) then
      (s.setFld (pbFld PB_STAT_NO_ITEM st) 1).evt 0x7A 1
    else
      let at' := if 1 ≤ src ∧ src ≤ 16 then none
        else some ((s.idx + max 1 (s.fld ⟨TYD_PB_LEAD, 15, 0⟩)) % 2 ^ 48)
      s.putPlayback st { s.playback st with armed := some (item, at') }
  else s

end Sys2Proof.Machine
end

