-- ==== Sys2Proof/Machine/BelayJoin.lean ====
section
/-! DEFINITION. Joins and resynchronisation (16_belay_twin.md R397 to R399, 19_power_reset_and_modes.md R456). How SNAP
addresses its words and what a unit-state frame holds are log entry 39. -/

namespace Sys2Proof.Machine

open Sys2Proof

/-! ### The joiner asks (R397) -/

/-- JOIN (R396, R397). -/
def execJoin (s : State) : Res :=
  s.runCmd 0x61 fun c s =>
    if s.mode = .config ∧ s.peerReady ∧ ¬ s.bly.joining then s.startJoin.detach c
    else s.completeCmd c { primary := 0x03, aux := s.crnState }

/-- DESCENT_AUTO_JOIN (19 R456): after a reset of cause 5 the engine joins a peer it sees ACTIVE. -/
def execDescentAutoJoin (s : State) : Res :=
  .next (if s.mode = .config ∧ s.fld SYS_STAT_LAST_RESET = 5 ∧ s.peerReady ∧ ¬ s.bly.joining then s.startJoin else s)

/-- JOIN_LOCK_TIMEOUT (R397): no lock on PEER within 30 s. -/
def execJoinLockTimeout (s : State) : Res :=
  .next (if s.fld BLY_JOIN_STAT_PHASE = 1 ∧ ¬ s.lockedOnPeer then s.refuseJoin 0x03 s.crnState else s)

/-! ### The handshake (R397, R398) -/

/-- What differs between the engines, as AUX [7:0] of R397 names it. -/
def State.joinDiff (s : State) (r : JoinRec) : Nat :=
  if r.rate ≠ s.fld PLB_CTRL_RATE then 1
  else if r.stepping ≠ s.stepping then 2
  else if r.islands ≠ s.rd PWR_ISL_STAT then 3
  else if r.banks ≠ s.bankMap then 4
  else if r.guard ≠ s.fld TRS_SCHED_CTRL_GUARD then 5
  else 0

/-- Send JOIN_ACK (R403). -/
def State.joinAck (s : State) (code n0 n1 : Nat) : State :=
  s.sendBelay 0x12 s.idx (beBytes 1 code ++ beBytes 6 n0 ++ beBytes 6 n1)

/-- JOIN_REQ (R397, R398): the active engine compares and chooses n0. -/
def execJoinReq (rec : JoinRec) (s : State) : Res :=
  let s := s.gotFrame
  .next (if s.mode ≠ .active ∨ s.bly.hold ∨ s.bly.serving then s
  else
    let d := s.joinDiff rec
    if d ≠ 0 then s.joinAck d 0 0
    else
      let (n, s) := s.aheadIdx
      let s := (s.onBly fun b => { b with n0 := some n, n1 := none }).wrIdx BLY_N0_LO BLY_N0_HI n
      (s.setFld BLY_JOIN_STAT_PHASE 1).joinAck 0 n 0)

/-- JOIN_ACK (R397 to R399): a refusal, n0, or n1. -/
def execJoinAck (code : Byte) (n0 n1 : Idx) (s : State) : Res :=
  let s := s.gotFrame
  .next (if ¬ s.bly.joining then s
  else if code ≠ 0 then s.refuseJoin 0x50 code.toNat
  else
    let s := if s.fld BLY_JOIN_STAT_PHASE = 1 then
        (s.onBly fun b => { b with n0 := some n0.toNat }).wrIdx BLY_N0_LO BLY_N0_HI n0.toNat
      else s
    if n1 = 0 then s else s.onBly fun b => { b with n1 := some n1.toNat })

/-! ### The snapshot (R398) -/

/-- The interval from `lo` up to `hi` without the one from `a` up to `b`. -/
def cutRun (a b : Nat) (r : Nat × Nat) : List (Nat × Nat) :=
  [(r.1, min r.2 a), (max r.1 b, r.2)].filter fun q => decide (q.1 < q.2)

/-- The bank words sent, as intervals of global word addresses: every ON visible bank, without Timberyard's segment table
and buffer (15 R370). -/
def State.snapBanks (s : State) : List (Nat × Nat) :=
  let on := ((List.range 128).filter fun b => s.bankState b == 2).map fun b => (b * 65536, (b + 1) * 65536)
  let t := bitsNat (s.rd TYD_TABLE_BASE).toNat 22 0
  let u := bitsNat (s.rd TYD_BUF_BASE).toNat 22 0
  (on.flatMap (cutRun t (t + (s.rd TYD_TABLE_NEED).toNat))).flatMap (cutRun u (u + 262144))

/-- Split `n` words from address `a` on, `step` bytes apart, into frames of at most 112. -/
def snapPieces (region a n step : Nat) : List (Nat × Nat × Nat) :=
  (List.range ((n + 111) / 112)).map fun i => (region, a + 112 * step * i, min 112 (n - 112 * i))

/-- Truss memory that a snapshot holds: both copies, SOS, meter and concealment state. -/
def snapTruss : List (Nat × Nat) :=
  [(0x04000000, 0x118000), (0x05800000, 0x118000), (0x07000000, 0x44000), (0x07800000, 0x3800), (0x07A00000, 0x2800)]

/-- The state of units that registers show is sent with the registers: Cairn with its journal and directory, port sides,
AES3, streams, stations, playback and Mallet. -/
def statePage (p : Nat) : Bool :=
  (decide (0x20 ≤ p) && decide (p ≤ 0x23)) || p == 0x7A || (decide (0x80 ≤ p) && decide (p < 0xB0)) ||
    (decide (0xC2 ≤ p) && decide (p ≤ 0xC4)) || (decide (0xD0 ≤ p) && decide (p < 0x140))

/-- The registers sent: RW and RWS registers of forwarded pages, and those that hold the state of units. -/
def snapRegs : List Nat :=
  ((List.range 0x140).filter fun p => (pageId p).isSome).flatMap fun p =>
    [PG_CTRL, PG_EVT_EN, PG_EVT_ROUTE].map (0x1000 * p + ·) ++
      ((rowsOfPage p).filter fun r => r.rc == 0 && (decide (r.rw ≠ 0) || decide (r.rws ≠ 0) || statePage p)).flatMap fun r =>
        (List.range r.n).map fun i => 0x1000 * p + r.off + r.stride * i

/-- The frames of the snapshot: region, address and word count. Banks, Truss and registers stand at their BAR0 address;
Chisel memories at that of the physical core whose number is the logical core's. -/
def State.snapFrames (s : State) : List (Nat × Nat × Nat) :=
  (s.snapBanks.flatMap fun r => snapPieces 0 (globalAddr r.1) (r.2 - r.1) 16) ++
    (snapTruss.flatMap fun r => snapPieces 1 r.1 r.2 16) ++
    ((List.range 16).flatMap fun c =>
      if (s.physCore c).isNone then []
      else snapPieces 2 (progAddr c 0 0) 4096 16 ++ snapPieces 2 (progAddr c 1 0) 4096 16 ++
        snapPieces 2 (xAddr c 0) 16384 16 ++ snapPieces 2 (yAddr c 0) 16384 16) ++
    (snapRegs.filter regForwarded).map fun a => (3, 0x1000000 + a, 1)

/-- The address of a Chisel word sent for logical core c, in this engine. -/
def State.snapCore (s : State) (a : Nat) : Option Nat :=
  (s.physCore (a / 0x200000 - 64)).map fun p => 0x08000000 + 0x200000 * p + a % 0x200000

/-- A word that the snapshot could not read: its value is free. -/
def State.snapLost (r : Option Word × State) : Word × State :=
  match r with
  | (some w, s) => (w, s)
  | (none, s) => s.free 72

/-- The bank words of a frame, word `k` of the frame on, from global word `g`: read by the resync DMA in bursts of 16, of which an
error response ends the rest (18 R435). `bad`: the burst has ended. -/
def State.snapBank : Nat → Nat → Nat → Bool → State → List Word × State
  | 0, _, _, _, s => ([], s)
  | n + 1, k, g, bad, s =>
    let bad := bad && k % 16 != 0
    let r := if bad then (none, s) else match s.bankRead 6 (globalAddr g) 16 with
      | (some w, s) => (some w, s)
      | (none, s) => (none, s.dmaErr 6 (k % 16) (if s.bankState (g / 65536) = 2 then 4 else 2) (globalAddr g))
    let (w, t) := State.snapLost r
    let (ws, t) := State.snapBank n (k + 1) (g + 1) (bad || r.1.isNone) t
    (w :: ws, t)

/-- The words of a frame. -/
def State.snapWords (s : State) (region a n : Nat) : List Word × State :=
  if region = 0 then State.snapBank n 0 ((a - 0x10000000) / 16) false s
  else
    (List.range n).foldl (fun (r : List Word × State) i =>
      let s := r.2
      let (w, s) := match region with
        | 2 => match s.snapCore (a + 16 * i) with
          | some b => State.snapLost (s.codedWord b, s)
          | none => (0, s)
        | 3 => ((s.rd (a % 0x1000000 + 4 * i)).setWidth 72, s)
        | _ => match s.codedWord (a + 16 * i) with
          | some w => (w, s)
          | none => State.snapLost (none, s.trussUe (a + 16 * i))
      (r.1 ++ [w], s)) ([], s)

/-- Send a SNAP frame (R403). -/
def State.sendSnap (s : State) (region a : Nat) (ws : List Word) : State :=
  s.sendBelay 0x10 s.idx (beBytes 1 region ++ beBytes 4 a ++ beBytes 2 ws.length ++ ws.flatMap fun w => beBytes 9 w.toNat)

/-- Send the unit state, whose form the manual leaves to the engine. -/
def State.sendUnits (s : State) : State :=
  let (w, s) := s.free 72
  s.sendSnap 4 0 [w]

/-- The fabric stands at the index before `n`: the next it opens is `n`. -/
def State.standBefore (s : State) (n : Nat) : State := { s with idx := (2 ^ 48 - 1 + n) % 2 ^ 48 }

/-- RESYNC_START (R398): at t_n0. The active engine sends its state as it stood at the end of index n0 − 1; the joiner's
sample index takes the active engine's value and its fabric stands still. -/
def execResyncStart (s : State) : Res :=
  .next (match s.bly.n0 with
  | none => s
  | some n =>
    if s.mode = .active ∧ s.idx = n then
      let fs := s.snapFrames
      let total := (fs.map fun f => f.2.2).sum
      let s := (s.onBly fun b => { b with serving := true, n0 := none }).setFld BLY_JOIN_STAT_PHASE 2
      let s := fs.foldl (fun s f =>
        let (ws, s) := s.snapWords f.1 f.2.1 f.2.2
        s.sendSnap f.1 f.2.1 ws) s
      (s.sendUnits.wrN BLY_SNAP_TOTAL total).wrN BLY_SNAP_SENT total
    else if s.bly.joining ∧ s.mode ≠ .active then
      let s := s.standBefore n
      let s := s.onBly fun b => { b with
        real := n, n0 := none, decided := [], own := [], finals := [], fell := [], store := [], digests := [], decisions := [] }
      let s := (s.onTrs fun t => { t with ticks := [], ready := [], slots := [], wrote := [] }).setFld BLY_JOIN_STAT_PHASE 2
      (s.wrIdx PLB_TICK_IDX_LO PLB_TICK_IDX_HI n).wrN BLY_SNAP_SENT 0
    else s)

/-- TRS_GRAPH_STAT shows the live copy and the crossfade that a resynchronisation brought (04 R84). -/
def State.showGraph (s : State) : State :=
  (s.setFld TRS_GRAPH_STAT_MAX_DEPTH (min 15 (s.maxDepth s.live))).refreshXfade

/-- Take the unit state of a region 4 frame. What counts engine-local things stays this engine's: lanes, cores and their
migrations, the queue of its own ring. -/
def State.takeUnits (s : State) (u : UnitSnap) : State :=
  let s := match u.trs with
    | some t => s.onTrs fun o => { t with
        ticks := [], ready := [], slots := [], now := o.now, peerLanes := o.peerLanes, laneChange := o.laneChange,
        joinFor := o.joinFor, check := none, checkWait := false }
    | none => s
  let s := match u.chs with
    | some c =>
      let cores := c.cores.foldl (fun (m : SMap ChiselCore) (e : Nat × ChiselCore) =>
        match s.physCore e.1 with
        | some p => mset .init m p e.2
        | none => m) (s.chs.cores.filter fun e => (s.logicalOf e.1).isNone)
      { s with chs := { c with cores := cores, mig := s.chs.mig, deferred := [] } }
    | none => s
  let s := match u.crn with
    | some k => s.onCrn fun o => { o with window := k.window, plan := k.plan, commit := k.commit }
    | none => s
  let s := match u.prt with
    | some p => { s with prt := p }
    | none => s
  let s := match u.net with
    | some n => s.onNet fun o => { o with
        rx := n.rx, tx := n.tx, closing := n.closing, taken := n.taken, running := n.running, station := n.station }
    | none => s
  let s := match u.pb with
    | some p => s.onTyd fun t => { t with pb := p }
    | none => s
  let s := match u.mlt with
    | some m => { s with mlt := m }
    | none => s
  s.showGraph

/-- Write word `w` of a SNAP frame at address `a` of a region. -/
def State.putSnap (s : State) (region a : Nat) (w : Word) : State :=
  match region with
  | 0 => if 0x10000000 ≤ a ∧ a < 0x18000000 then s.setWord a w else s
  | 1 => if trussWord a = some true then s.setWord a w else s
  | 2 => match s.snapCore a with
    | some b => if chiselWord (b % 0x200000) then s.setWord b w else s
    | none => s
  | 3 => if regForwarded (a % 0x1000000) then
      let was := s.live
      let s := s.wr (a % 0x1000000) (w.setWidth 32)
      if s.live = was then s else (s.wrIdx TRS_LIVE_IDX_LO TRS_LIVE_IDX_HI s.idx).evt 0x10 2
    else s
  | _ => s

/-- The words of a SNAP frame. -/
def State.putSnaps (s : State) (region a step : Nat) : List Word → State
  | [] => s
  | w :: r => (s.putSnap region a w).putSnaps region (a + step) step r

/-- SNAP (R398, R399). -/
def execSnap (region addr : Nat) (words : List Word) (units : Option UnitSnap) (s : State) : Res :=
  let s := s.gotFrame
  let ph := s.fld BLY_JOIN_STAT_PHASE
  .next (if s.bly.joining ∧ (ph = 2 ∨ ph = 3) then
    if region = 4 then
      match units with
      | some u => s.takeUnits u
      | none => s
    else (s.putSnaps region addr (if region = 3 then 4 else 16) words).wrN BLY_SNAP_SENT
      (((s.rd BLY_SNAP_SENT).toNat + words.length) % 2 ^ 32)
  else s)

/-! ### Catch-up and lockstep (R399) -/

/-- SNAPSHOT_DONE (R399): the active engine chooses n1 and says so; the joiner opens index n0. -/
def execSnapshotDone (s : State) : Res :=
  .next (if s.fld BLY_JOIN_STAT_PHASE ≠ 2 then s
  else if s.bly.serving then
    let (n, s) := s.aheadIdx
    let n0 := s.rdPair BLY_N0_LO BLY_N0_HI
    ((s.setFld BLY_JOIN_STAT_PHASE 3).onBly fun b => { b with n1 := some n }).joinAck 0 n0 n
  else if s.bly.joining then
    let s := (let s := s.setFld BLY_JOIN_STAT_PHASE 3
      ({ s with idx := nextIdx s.idx }).openLive)
    let s := s.showGraph.onBly fun b => { b with hbOpened := true }
    (s.wrN BLY_BEHIND ((2 ^ 48 + s.bly.real - s.idx) % 2 ^ 48)).settle s.idx
  else s)

/-- The pair is in lockstep from index `n` on (R387, R399). -/
def State.beginLockstep (s : State) (n : Nat) : State :=
  let s := ((s.setFld BLY_STAT_LOCKSTEP 1).setFld BLY_STAT_EVER_SYNCED 1).onBly fun b => { b with since := n }
  s.refreshBelay

/-- JOIN_DONE (R399): at n1, `ms` after the join began. The active engine sends the live state of the units and stops
sending sample values; the joiner enters STANDBY. -/
def execJoinDone (ms : Nat) (s : State) : Res :=
  .next (if s.fld BLY_JOIN_STAT_PHASE ≠ 3 ∨ s.bly.n1 ≠ some s.idx then s
  else if s.bly.serving then
    let s := s.sendUnits.onBly fun b => { b with serving := false, n1 := none }
    let s := ((s.setFld BLY_JOIN_STAT_PHASE 4).setFld BLY_JOIN_STAT_CODE 0).wrN BLY_JOIN_TIME ms
    let w := s.workingLanes
    (((s.beginLockstep s.idx).setFld TRS_LANE_STAT_WORKING w).chooseLanes (min w s.trs.peerLanes)).evt 0x71 0
  else if s.bly.joining ∧ s.bly.real = s.idx then
    let s := if s.mode = .config then s.changeMode .standby [] else s
    let s := ((s.beginLockstep s.idx).wrN BLY_JOIN_TIME ms).wrN BLY_BEHIND 0
    (s.endJoin 4 0 0 (some s.idx)).evt 0x71 0
  else s)

end Sys2Proof.Machine
end

