-- ==== Sys2Proof/Machine/BelayFrames.lean ====
section
/-! DEFINITION. Frames from the peer (16_belay_twin.md R382 to R387, R389, R394, R401 to R404): each stands for a whole frame
with a good CRC, taken in the order of FSEQ. -/

namespace Sys2Proof.Machine

open Sys2Proof

/-! ### Presence (R382 to R384) -/

/-- The joiner takes its snapshot or catches up. -/
def State.resyncing (s : State) : Bool :=
  s.bly.joining && (s.fld BLY_JOIN_STAT_PHASE == 2 || s.fld BLY_JOIN_STAT_PHASE == 3)

/-- This engine takes its peer's decisions for index `n`. -/
def State.obeys (s : State) (n : Nat) : Bool := s.resyncing || s.follows n

/-- The points of the running graph. -/
def State.points (s : State) : List Nat :=
  let f := s.fab
  f.validSources f.live ++ (f.graphStrips.filter fun g => f.hasInsert g && f.shedState g != 2).map fun g => 1536 + g

/-- Once index `n` is final, what is undecided is absent; when nothing is awaited any more, its deadline has passed. -/
def State.tryFinal (s : State) (n : Nat) : State :=
  if (s.bly.finals.contains n ∨ s.bly.fell.contains n) ∧ (s.tick n).isSome then
    let open' := s.points.filter fun p => s.awaits p n && (mfind s.bly.decided (pKey n p)).isNone
    let s := open'.foldl (fun s p => s.arrive p none n s.trs.now) s
    if s.bly.decided.any fun e => e.1 / 8192 == n && e.2 && s.awaits (e.1 % 8192) n then s else s.deadline n s.trs.now
  else s

/-- Take a decision on point `p` at index `n`; one after a fallback is ignored (R384). -/
def State.decide' (s : State) (n p : Nat) (v : Bool) : State :=
  if s.bly.fell.contains n ∨ (mfind s.bly.decided (pKey n p)).isSome then s
  else s.onBly fun b => { b with decided := mins b.decided (pKey n p) v }

/-- The engine holds the sample of point `p`, or has taken it. -/
def State.holds (s : State) (n p : Nat) : Bool :=
  (mfind s.bly.own (pKey n p)).isSome ||
    match s.tick n with
    | some t => (mfind t.arr p).isSome
    | none => false

/-- PRESENCE (R382, R383): entries as KIND and number, with PRESENT. Samples this engine lacks are asked for; those of
playback streams, and all of them in a catch-up, come unasked. -/
def execPresence (idx : Idx) (final : Bool) (entries : List (Nat × Bool)) (s : State) : Res :=
  let s := s.gotFrame
  let n := idx.toNat
  .next (if ¬ s.obeys n then s
  else
    let es := entries.map fun e => (entryPoint e.1, e.2)
    let s := es.foldl (fun s e => s.decide' n e.1 e.2) s
    let lack := (es.filter fun e => e.2 && decide (mfind s.bly.decided (pKey n e.1) = some true) && !s.holds n e.1 &&
      !(decide (1056 ≤ e.1) && decide (e.1 < 1120))).map fun e => e.1
    let s := if lack = [] ∨ s.resyncing then s else s.sendBelay 5 n (lack.flatMap fun p => presEntry p true)
    let s := if final then s.onBly fun b => { b with finals := n :: b.finals.filter fun m => m != n } else s
    (s.settle n).tryFinal n)

/-- PATCH_REQ (R383): the active engine answers from its store. -/
def execPatchReq (idx : Idx) (entries : List Nat) (s : State) : Res :=
  let s := s.gotFrame
  let n := idx.toNat
  let have' := entries.filterMap fun e => (mfind s.bly.store (pKey n (entryPoint e))).map fun w => (entryPoint e, w)
  .next (if have' = [] then s
  else (s.bump (whole BLY_PATCH_CNT) have'.length).sendBelay 6 n
    (have'.flatMap fun e => presEntry e.1 true ++ beBytes 9 e.2.toNat))

/-- One sample of a PATCH frame for index `n`: late once the index has ended (R383, log entry 38). -/
def State.patchIn (s : State) (n p : Nat) (w : Word) : State :=
  if n ≠ s.idx ∧ idxLe n s.idx then
    if s.resyncing ∨ (1056 ≤ p ∧ p < 1120) then s else (s.bump (whole BLY_PATCH_LATE)).evt 0x70 8
  else if s.holds n p then s
  else (s.onBly fun b => { b with own := mins b.own (pKey n p) (w, s.trs.now) }).settle n

/-- PATCH (R383, R398). -/
def execPatch (idx : Idx) (entries : List (Nat × Word)) (s : State) : Res :=
  let s := s.gotFrame
  let n := idx.toNat
  .next (if ¬ s.obeys n then s
  else
    let es := entries.map fun e => (entryPoint e.1, e.2)
    let asked := (es.filter fun e => !(decide (1056 ≤ e.1) && decide (e.1 < 1120))).length
    let s := if s.resyncing then s else s.bump (whole BLY_PATCH_CNT) asked
    (es.foldl (fun s e => s.patchIn n e.1 e.2) s).tryFinal n)

/-- FALLBACK (R384): 1 µs before the index ends no FINAL frame has come. -/
def execFallback (s : State) : Res :=
  let n := s.idx
  .next (if s.follows n ∧ ¬ s.catching ∧ ¬ s.bly.finals.contains n ∧ ¬ s.bly.fell.contains n then
    let s := s.bump (whole BLY_FALLBACK)
    let mine := (s.bly.own.filter fun e => e.1 / 8192 == n && (mfind s.bly.decided e.1).isNone).map fun e => e.1
    let s := s.onBly fun b => { b with
      decided := mine.foldl (fun m k => mins m k true) b.decided, fell := n :: b.fell }
    (s.settle n).tryFinal n
  else s)

/-- The index in progress ends: samples whose patch has not come are absent (R383). -/
def State.lapse (s : State) : State :=
  let n := s.idx
  if s.follows n then
    let gone := (s.bly.decided.filter fun e => e.1 / 8192 == n && e.2 && s.awaits (e.1 % 8192) n).map fun e => e.1 % 8192
    (gone.foldl (fun s p => s.arrive p none n s.trs.now) s).tryFinal n
  else s

/-! ### Ticks and digests (R386, R387, R403) -/

/-- The digest of the index in progress (R386): staged values of the sinks, then the presence map. -/
def State.digest (s : State) : BitVec 64 :=
  let n := s.idx
  let present (p : Nat) : Bool := match s.tick n with
    | some t => match mfind t.arr p with
      | some a => a.v.isSome
      | none => false
    | none => false
  let staged := (List.range 1536).flatMap fun k => beBytes 9 (s.peekSink k n).toNat
  let map := (List.range 640).map fun i =>
    BitVec.ofNat 8 ((List.range 8).map fun j => if present (8 * i + j) then 2 ^ j else 0).sum
  BitVec.ofNat 64 (crcMsb 64 0x42F0E1EBA9EA3693 (2 ^ 64 - 1) (staged ++ map) ^^^ (2 ^ 64 - 1))

/-- Digests differ at index `n` (R386). -/
def State.diverge (s : State) (n : Nat) : State :=
  let s := (s.wrIdx BLY_DIVERGE_LO BLY_DIVERGE_HI n).evt 0x70 2
  if s.mode = .standby then s.leaveLockstep else s

/-- Compare the peer's digest of index `n` with this engine's (R386); an injection makes the next comparison differ (R408). -/
def State.compareDigests (s : State) (n : Nat) (d : BitVec 64) : State :=
  match mfind s.bly.digests n with
  | none => s
  | some own =>
    if ¬ s.lockstep then s
    else
      let (inj, s) := s.takeInj 0x70 2
      let s := (s.onTime 6).onBly fun b => { b with digests := mdel b.digests n }
      if inj ∨ own ≠ d then s.diverge n else s

/-- The peer's journal bits enter this engine's record (07 R162, R164). -/
def State.peerJournal (s : State) (j flipped done' : Nat) : State :=
  let o := jOff j
  if (s.rd (J_INFO + o)).toNat / 2 ^ 24 = j % 256 ∧ s.jState (j % 32) ≠ 0 then
    ((s.wrN (J_PEER_FLIPPED + o) flipped).wrN (J_PEER_DONE + o) done').setFld (J_FAULT_PEER_VALID.sh o) 1
  else s

/-- The station time of the peer's tick, where it is the source (12 R271, R272). -/
def State.peerTime (s : State) (idx t : Nat) : State :=
  if s.fld PLB_TIME_STAT_SRC = 3 ∧ idx = s.idx then
    s.timeOffset (timeToNs (BitVec.ofNat 64 (2 ^ 64 + s.plb.tickTime - t % 2 ^ 64)).toInt)
  else s

/-- TICK_FRAME (R386, R387, R389, R401, R403). -/
def execTickFrame (rec : TickRec) (s : State) : Res :=
  let s := s.gotFrame
  let s := s.onBly fun b => { b with
    replay := b.replay.filter fun f => decide (2 ^ 31 ≤ (2 ^ 32 + rec.ack - f.fseq) % 2 ^ 32)
    rxTick := (rec.tx, rec.rx) }
  let d := timeToNs (((rec.rx : Int) - rec.echo - ((rec.tx : Int) - rec.echoRx)) / 2)
  let s := if rec.echo = 0 then s else s.wrN BLY_DELAY (max 0 (min 65535 d)).toNat
  let s := s.setFld BLY_STAT_PEER_MODE rec.mode
  let (acc, s) := if 2 ≤ rec.ref ∧ rec.ref ≤ 8 then (0xFE, s) else
    let (a, s) := s.free 8
    (a.toNat, s)
  let s := s.setQuality 9 (if rec.ref ≤ 9 then min 14 (rec.q + 1) else 14) acc
  let s := s.peerTime rec.idx rec.tickTime
  .next (if rec.mode < 2 ∨ 4 < rec.mode then s.peerFail
  else if ¬ s.lockstep then s.autoResync
  else
    let s := match rec.journal with
      | some (j, f, k) => s.peerJournal j f k
      | none => s
    let s := if s.trs.peerLanes = min 16 rec.lanes then s
      else (s.onTrs fun t => { t with peerLanes := min 16 rec.lanes }).lanesChanged
    let s := s.compareDigests ((2 ^ 48 + rec.idx - 2) % 2 ^ 48) rec.digest
    if rec.mode = 2 ∨ (¬ rec.lockstep ∧ idxLe (nextIdx s.bly.since) rec.idx) then s.leaveLockstep else s)

/-- The TICK frame of the index in progress (R386, R403). When byte 0 leaves is the engine's own matter. -/
def State.sendTick (s : State) : State :=
  let (d, s) := s.free 16
  let bit (b : Bool) (n : Nat) : Nat := if b then 2 ^ n else 0
  let dig := (mfind s.bly.digests ((2 ^ 48 + s.idx - 2) % 2 ^ 48)).getD 0
  let flags := bit s.lockstep 0 + bit (s.fld BLY_STAT_ACT_OUT == 1) 1 + bit (s.fld BLY_STAT_SENIOR == 1) 2 +
    bit s.bly.hbStatic 3 + bit (s.fld BLY_STAT_EVER_SYNCED == 1) 4
  let next := (s.rd CRN_JNL_NEXT).toNat
  let old := ((List.range 32).filterMap fun i =>
    let j := next + i - 32
    if 32 ≤ next + i ∧ (s.jState (j % 32) = 1 ∨ s.jState (j % 32) = 2) then some j else none).head?
  let jb := match old with
    | some j => beBytes 2 j ++ beBytes 4 (s.rd (J_FLIPPED + jOff j)).toNat ++ beBytes 4 (s.rd (J_DONE + jOff j)).toNat
    | none => beBytes 2 0xFFFF ++ beBytes 8 0
  let sel := s.fld PLB_SYN_STAT_SEL_REF
  let q := if sel ≤ 9 then s.fld (refFld PLB_REF_STAT_Q sel) else 15
  s.sendBelay 1 s.idx (beBytes 8 s.plb.tickTime ++ beBytes 8 (timeWrap (s.time + d.toNat)) ++ beBytes 8 s.bly.rxTick.1 ++
    beBytes 8 s.bly.rxTick.2 ++ beBytes 8 dig.toNat ++ beBytes 1 s.modeCode ++ beBytes 1 flags ++
    beBytes 1 s.workingLanes ++ beBytes 1 s.lanesL ++ beBytes 6 s.bly.actRise ++ jb ++ beBytes 1 (sel * 16 + q) ++ beBytes 3 0)

/-! ### Commands, resignation, swaps and retransmission -/

/-- COMMAND_FRAME (R381): a forwarded command waits for its tag. -/
def execCommandFrame (words : List Word) (tag : Idx) (s : State) : Res :=
  let s := s.gotFrame
  .next (if s.resyncing ∨ (s.lockstep ∧ s.mode = .standby) then
    (s.onCrn fun k => { k with queue := k.queue ++ [⟨words, false, some tag.toNat⟩] }).pumpAll
  else s)

/-- RESIGN (R389, R392). -/
def execResign (cause : Byte) (s : State) : Res :=
  let s := s.gotFrame
  .next ((((s.setFld ⟨BLY_CAUSE, 15, 8⟩ cause.toNat).evt 0x70 4).finishReq 1 0).peerFail)

/-- SWAP_FRAME (R394). -/
def execSwapFrame (ns : Idx) (_port : Fin 32) (s : State) : Res := .next (s.gotFrame.swapFrame ns.toNat)

/-- NAK (R404): every frame from `fseq` on is sent again. -/
def execNak (fseq : Reg32) (s : State) : Res :=
  let s := s.gotFrame
  .next ((s.bly.replay.filter fun f => decide ((2 ^ 32 + f.fseq - fseq.toNat) % 2 ^ 32 < 2 ^ 31)).foldl
    (fun s f => s.deal true f) s)

/-- RETRANSMIT (R404): the oldest frame has not been acknowledged for 20 µs. -/
def execRetransmit (s : State) : Res :=
  .next (match s.bly.replay with
  | f :: _ => s.deal true f
  | [] => s)

/-- BELAY_CRC_ERROR (R404, R407): the frame is no evidence; NAK names the next frame expected. -/
def execBelayCrcError (lane : Fin 4) (s : State) : Res :=
  .next ((s.bump (whole (BLY_LN_CRC + 0x10 * lane.val))).sendBelay 0x0B s.idx (beBytes 4 s.bly.got))

end Sys2Proof.Machine
end

