-- ==== Sys2Proof/Machine/Crypto.lean ====
section
/-! DEFINITION. SHA-256 (FIPS 180-4) and the check of an ECDSA P-256 signature (FIPS 186-4), by which boot images are
authenticated (19_power_reset_and_modes.md R448, R449). -/

namespace Sys2Proof.Machine

open Sys2Proof

/-! ### SHA-256 -/

/-- A 32-bit word of the hash. -/
abbrev W32 := BitVec 32

/-- `r` with the lower `n` bits so chosen that its `k`-th power comes as near to `x` as it can without passing it. -/
def rootFrom (k x : Nat) : Nat → Nat → Nat
  | 0, r => r
  | n + 1, r => rootFrom k x n (if (r + 2 ^ n) ^ k ≤ x then r + 2 ^ n else r)

/-- The first 32 bits of the fractional part of the `k`-th root of `p`, which is below 32. -/
def rootBits (k p : Nat) : W32 := BitVec.ofNat 32 (rootFrom k (p * 2 ^ (32 * k)) 37 0)

/-- The first 64 primes. -/
def shaPrimes : List Nat :=
  (List.range 312).filter fun p => decide (1 < p) && (List.range p).all fun d => decide (d < 2) || p % d != 0

/-- The constants of the rounds: FIPS 180-4 takes them from the cube roots of the primes. -/
def shaK : List W32 := shaPrimes.map (rootBits 3)

/-- The first hash value: from the square roots of the first eight. -/
def shaInit : List W32 := (shaPrimes.take 8).map (rootBits 2)

/-- The message padded to whole blocks of 64 bytes. -/
def shaPad (m : List Byte) : List Byte :=
  m ++ 0x80#8 :: List.replicate ((119 - m.length % 64) % 64) 0#8 ++ beBytes 8 (8 * m.length)

/-- The schedule, newest word first, extended by `n` words. -/
def shaExtend : Nat → List W32 → List W32
  | 0, w => w
  | n + 1, w =>
    let a := w.getD 14 0
    let b := w.getD 1 0
    let s0 := a.rotateRight 7 ^^^ a.rotateRight 18 ^^^ (a >>> 3)
    let s1 := b.rotateRight 17 ^^^ b.rotateRight 19 ^^^ (b >>> 10)
    shaExtend n ((w.getD 15 0 + s0 + w.getD 6 0 + s1) :: w)

/-- One round with constant `k` and schedule word `w`. -/
def shaRound (h : List W32) (k w : W32) : List W32 :=
  match h with
  | [a, b, c, d, e, f, g, x] =>
    let s1 := e.rotateRight 6 ^^^ e.rotateRight 11 ^^^ e.rotateRight 25
    let t1 := x + s1 + ((e &&& f) ^^^ (~~~e &&& g)) + k + w
    let s0 := a.rotateRight 2 ^^^ a.rotateRight 13 ^^^ a.rotateRight 22
    let t2 := s0 + ((a &&& b) ^^^ (a &&& c) ^^^ (b &&& c))
    [t1 + t2, a, b, c, d + t1, e, f, g]
  | _ => h

/-- The 16 words of a block. -/
def shaWords : Nat → List Byte → List W32
  | 0, _ => []
  | n + 1, b => BitVec.ofNat 32 (beNat (b.take 4)) :: shaWords n (b.drop 4)

/-- One block. -/
def shaBlock (h : List W32) (b : List Byte) : List W32 :=
  let ws := (shaExtend 48 (shaWords 16 b).reverse).reverse
  let r := (shaK.zip ws).foldl (fun h p => shaRound h p.1 p.2) h
  (h.zip r).map fun p => p.1 + p.2

def shaBlocks : Nat → List W32 → List Byte → List W32
  | 0, h, _ => h
  | n + 1, h, m => shaBlocks n (shaBlock h (m.take 64)) (m.drop 64)

/-- The SHA-256 digest. -/
def sha256 (m : List Byte) : List Byte :=
  let p := shaPad m
  (shaBlocks (p.length / 64) shaInit p).flatMap fun w => beBytes 4 w.toNat

/-! ### ECDSA over P-256 -/

def p256P : Nat := 2 ^ 256 - 2 ^ 224 + 2 ^ 192 + 2 ^ 96 - 1
def p256N : Nat := 0xffffffff00000000ffffffffffffffffbce6faada7179e84f3b9cac2fc632551
def p256B : Nat := 0x5ac635d8aa3a93e7b3ebbd55769886bc651d06b0cc53b0f63bce3c3e27d2604b
def p256G : Nat × Nat :=
  (0x6b17d1f2e12c4247f8bce6e563a440f277037d812deb33a0f4a13945d898c296,
   0x4fe342e2fe1a7f9b8ee7eb4a7c0f9e162bce33576b315ececbb6406837bf51f5)

/-- `b` to the power `e`, of `k` bits, modulo `m`. -/
def powMod (m : Nat) : Nat → Nat → Nat → Nat
  | 0, _, _ => 1
  | k + 1, b, e =>
    let r := powMod m k (b * b % m) (e / 2)
    if e % 2 = 1 then r * b % m else r

/-- The inverse modulo a prime. -/
def invMod (m x : Nat) : Nat := powMod m 256 (x % m) (m - 2)

/-- Sum of two points; none is the point at infinity. -/
def p256Add : Option (Nat × Nat) → Option (Nat × Nat) → Option (Nat × Nat)
  | none, q => q
  | p, none => p
  | some (x, y), some (u, v) =>
    let P := p256P
    let fin (l : Nat) : Option (Nat × Nat) :=
      let w := (l * l + 2 * P - x - u) % P
      some (w, (l * (x + P - w) + P - y) % P)
    if x = u then
      if (y + v) % P = 0 then none
      else fin ((3 * x * x + (P - 3)) * invMod P (2 * y) % P)
    else fin ((v + P - y) * invMod P (u + P - x) % P)

/-- `k` times a point, `n` bits of `k`. -/
def p256Mul : Nat → Nat → Option (Nat × Nat) → Option (Nat × Nat)
  | 0, _, _ => none
  | n + 1, k, q =>
    let r := p256Mul n (k / 2) (p256Add q q)
    if k % 2 = 1 then p256Add r q else r

/-- The signature (r, s) of digest `z` verifies under the public key (x, y). -/
def ecdsaVerify (x y r s z : Nat) : Bool :=
  let P := p256P
  let N := p256N
  decide (x < P) && decide (y < P) && decide (y * y % P = (x * x * x + (P - 3) * x + p256B) % P) &&
    decide (1 ≤ r) && decide (r < N) && decide (1 ≤ s) && decide (s < N) &&
    let w := invMod N s
    match p256Add (p256Mul 256 (z * w % N) (some p256G)) (p256Mul 256 (r * w % N) (some (x, y))) with
    | none => false
    | some (u, _) => u % N == r

end Sys2Proof.Machine
end

