-- ==== Sys2Proof/Machine/TydCmds.lean ====
section
/-! DEFINITION. Timberyard's commands, export, freeze and registers (15_timberyard_recorder.md R355, R362, R363, R370). -/

namespace Sys2Proof.Machine

open Sys2Proof

/-- Program whole pages of chunks in segments of a TYPE; a page that finds its block bad with no spare left is programmed
again in the next segment. Whether all are stored. -/
def State.programPages (s : State) (typ : Nat) : List (List Chunk) → Bool × State
  | [] => (true, s)
  | p :: ps =>
    let (ok, s) := s.program typ 0 p false false
    let (ok, s) := if ok then (true, s) else s.program typ 0 p false false
    if ok then s.programPages typ ps else (false, s)

/-- Chunks in pages of 8, the last padded (R355, R362). -/
def State.pages (s : State) : Nat → List Chunk → List (List Chunk) × State
  | 0, _ => ([], s)
  | n + 1, l =>
    if l = [] then ([], s)
    else
      let (pad, s) := s.padPage
      let page := l.take 8
      let (ps, s) := s.pages n (l.drop 8)
      ((page ++ pad.drop page.length) :: ps, s)

/-- Library or archive chunks with a property are deleted. -/
def State.deleteChunks (s : State) (typ : Nat) (p : Chunk → Bool) : State :=
  let f (c : Chunk) : Chunk := if c.typ == typ && p c then { c with dead := true } else c
  s.onVol fun v => { v with segs := v.segs.map fun g => if g.typ = typ then
    { g with
      stripes := g.stripes.map fun st => st.map fun pg => pg.map f
      cur := g.cur.map fun q => (q.1, q.2.map f) }
    else g }

/-- Store chunks and pad their last stripe (R362): on failure they are deleted again. -/
def State.storeChunks (s : State) (typ : Nat) (cs : List Chunk) : Bool × State :=
  let (ps, s) := s.pages cs.length cs
  let (ok, s) := s.programPages typ ps
  let s := match s.tyd.vol.bind fun v => v.openSeg typ 0 with
    | some g => s.completeStripe g false
    | none => s
  (ok, if ok then s else s.deleteChunks typ fun c => cs.contains c)

/-- Not READY: every command but FORMAT completes with NOT_READY (R362). -/
def State.tydCmd (s : State) (o : Nat) (k : Cmd → State → State) : Res :=
  s.runCmd o fun c s => if s.tydReady ∧ ¬ s.tyd.frozen then k c s else s.completeCmd c { primary := 0x03, aux := s.crnState }

/-- An access of the banks failed (R362). -/
def bankFault : CplInfo := { primary := 0x40, kind := 8, unit := 4 }

/-- `l` in pieces of `n`. -/
def pieces {α : Type} (n : Nat) : Nat → List α → List (List α)
  | 0, _ => []
  | k + 1, l => if l.isEmpty then [] else l.take n :: pieces n k (l.drop n)

/-- LIB_IMPORT (R361, R362). -/
def execLibImport (s : State) : Res :=
  s.tydCmd 0x42 fun c s =>
    let item := c.bits 1 63 48
    let app := (c.word 1).getLsbD 47
    let old := s.libItem item
    let clash := match old with
      | some (_, r) => !app || r != s.plb.fast
      | none => app
    if clash then s.completeCmd c { primary := 0x13 }
    else match State.burstRead 4 (c.bits 2 20 0) 0 (c.bits 1 22 0) s with
      | (none, s) => s.completeCmd c bankFault
      | (some ws, s) =>
        let start := match old with
          | some (n, _) => n
          | none => 0
        let seq := (s.storedChunks 2 item).length
        let ps := pieces 672 ws.length ws
        let cs := (ps.zip (List.range ps.length)).map fun p => (⟨2, if s.plb.fast then 1 else 0, item, 0, start + 672 * p.2, 0,
          p.1.length, 0, seq + p.2, p.1.flatMap fun w => beBytes 3 (code24 w), false⟩ : Chunk)
        let (ok, s) := s.storeChunks 2 cs
        s.completeCmd c { primary := if ok then 0 else 0x30 }

/-- LIB_DELETE (R362). -/
def execLibDelete (s : State) : Res :=
  s.tydCmd 0x43 fun c s =>
    let item := c.bits 1 63 48
    if (s.libItem item).isNone then s.completeCmd c { primary := 0x13 }
    else (s.deleteChunks 2 fun k => k.channel == item).completeCmd c { primary := 0 }

/-- ARCHIVE_PUT (R362): what the slot held before is replaced once the new words are stored. -/
def execArchivePut (s : State) : Res :=
  s.tydCmd 0x44 fun c s =>
    let slot := c.bits 1 63 56
    match State.burstRead 4 (c.bits 2 20 0) 0 (c.bits 1 22 0) s with
    | (none, s) => s.completeCmd c bankFault
    | (some ws, s) =>
      let old := (s.storedChunks 3 slot).map fun p => p.1
      let seq := old.foldl (fun m k => max m (k.seq + 1)) 0
      let ps := pieces 224 ws.length ws
      let cs := (ps.zip (List.range ps.length)).map fun p => (⟨3, 0, slot, 0, 224 * p.2, 0, p.1.length, 0, seq + p.2,
        p.1.flatMap fun w => beBytes 9 w.toNat, false⟩ : Chunk)
      let (ok, s) := s.storeChunks 3 cs
      if ok then (s.deleteChunks 3 fun k => k.channel == slot && decide (k.seq < seq)).completeCmd c { primary := 0 }
      else s.completeCmd c { primary := 0x30 }

/-- The words of archive chunks; those of a lost page are not given (entry 2). -/
def State.archiveWords (s : State) : List (Chunk × Bool) → List Word × State
  | [] => ([], s)
  | (k, lost) :: l =>
    let (ws, s) : List Word × State :=
      if lost then
        let (v, s) := s.free (72 * 224)
        ((List.range k.samples).map fun i => BitVec.ofNat 72 (v.toNat / 2 ^ (72 * i)), s)
      else ((List.range k.samples).map fun i => BitVec.ofNat 72 (beNat ((k.body.drop (9 * i)).take 9)), s)
    let (r, s) := s.archiveWords l
    (ws ++ r, s)

/-- ARCHIVE_GET (R362). -/
def execArchiveGet (s : State) : Res :=
  s.tydCmd 0x45 fun c s =>
    match s.storedChunks 3 (c.bits 1 63 56) with
    | [] => s.completeCmd c { primary := 0x13 }
    | ks =>
      let (ws, s) := s.archiveWords ks
      let ws := ws.take (c.bits 2 20 0)
      let (ok, s) := State.burstWrite 4 ws 0 (c.bits 1 22 0) s
      s.completeCmd c (if ok then { primary := 0, aux := ws.length } else bankFault)

/-! ### Export (R363) -/

/-- The engine's own bytes of a 2048-byte record. -/
def padRecord (bs : List Byte) : List Byte := (bs ++ List.replicate 2048 0).take 2048

/-- The record of an export written as record `n`. -/
def State.putRecord (s : State) (e : ExportRun) (n : Nat) (bs : List Byte) : State :=
  s.emit (.hostWrite (e.addr + 2048 * n) bs)

/-- The header record. -/
def State.exportHeader (s : State) (e : ExportRun) : List Byte :=
  let die := s.fuseVal 0x060 64
  padRecord (beBytes 1 0x10 ++ beBytes 1 0 ++ beBytes 2 1 ++ beBytes 8 die ++ beBytes 8 e.start ++ beBytes 8 e.stop ++
    beBytes 4 0 ++ leBytes 64 e.mask ++ beBytes 1 e.cls ++ beBytes 1 e.kind)

/-- A lost chunk. -/
def lostRecord (c : Chunk) : List Byte :=
  padRecord (beBytes 1 7 ++ beBytes 1 0 ++ beBytes 2 c.channel ++ beBytes 2 c.stream ++ beBytes 6 c.first ++ beBytes 8 c.time ++
    beBytes 2 c.samples)

/-- The chunks that an export selects, by TIME, then CHANNEL. -/
def State.exportChunks (s : State) (e : ExportRun) : List (Chunk × Bool) :=
  let typ := if e.kind = 0 then 1 else 4
  let sel (c : Chunk) : Bool :=
    decide (c.time ≤ e.stop) && decide (e.start ≤ c.newest) && (e.kind != 0 || (e.mask.testBit c.channel && e.cls.testBit (c.flags / 64)))
  let all := match s.tyd.vol with
    | none => []
    | some v => ((v.segs.filter fun g => g.typ == typ).flatMap fun g => g.chunks.map fun c => c.channel).eraseDups
  sortBy (fun p => p.1.time) ((sortBy (fun n => n) all).flatMap fun n => (s.storedChunks typ n).filter fun p => sel p.1)

/-- The export ends after `most` of its chunks, with its trailer: RECORDS, and whether chunks are left. -/
def State.finishExport (s : State) (e : ExportRun) (most : Nat) : Nat × Bool × State :=
  let all := s.exportChunks e
  let out := all.take (min most (e.size - 2))
  let recs := s.exportHeader e :: out.map fun p => if p.2 then lostRecord p.1 else p.1.bytes
  let n := recs.length + 1
  let left := decide (out.length < all.length)
  let next := match all[out.length]? with
    | some p => p.1.time
    | none => e.stop + 1
  let t := beBytes 1 0x11 ++ beBytes 1 0 ++ beBytes 4 n ++ beBytes 4 (out.filter fun p => p.2).length ++ beBytes 2 0 ++
    beBytes 8 next ++ leBytes 4 (crc32 recs.flatten)
  let s := ((recs.drop 1).zip (List.range out.length)).foldl (fun s p => s.putRecord e (p.2 + 1) p.1) s
  (n, left, (s.putRecord e (n - 1) (padRecord t)).onTyd fun t => { t with exp := none })

/-- EXPORT (R362, R363): the descriptor is read and the header written. A descriptor with an address, size or range that the
rule does not allow gives BAD_COMMAND (entry 36). -/
def execExportStart (s : State) : Res :=
  s.tydCmd 0x40 fun c s =>
    if s.tyd.exp.isSome then s.completeCmd c { primary := 0x03, aux := s.crnState }
    else match State.burstRead 4 12 0 (c.bits 1 22 0) s with
      | (none, s) => s.completeCmd c bankFault
      | (some ws, s) =>
        let w (i : Nat) : Nat := (ws.getD i 0).toNat % 2 ^ 64
        let e : ExportRun := ⟨c, w 0, w 1, w 2, bitsNat (w 3) 39 36, bitsNat (w 3) 35 32, bitsNat (w 3) 31 0,
          ((List.range 8).map fun i => w (4 + i) * 2 ^ (64 * i)).sum, []⟩
        if e.addr % 2048 ≠ 0 ∨ e.size < 2 ∨ 1 < e.kind then s.completeCmd c { primary := 0x02 }
        else ((s.onTyd fun t => { t with exp := some e }).putRecord e 0 (s.exportHeader e)).detach c

/-- EXPORT_DONE (R363), or the end of an EXPORT at a host DMA error (R362): how many records it had written is open. -/
def execExportDone (dmaErr : Bool) (s : State) : Res :=
  .next (match s.tyd.exp with
  | none => s
  | some e =>
    if dmaErr then
      let (k, s) := s.free 32
      let recs := ((s.exportChunks e).take (min k.toNat (e.size - 2))).map fun p => if p.2 then lostRecord p.1 else p.1.bytes
      let s := (recs.zip (List.range recs.length)).foldl (fun s p => s.putRecord e (p.2 + 1) p.1) s
      (s.onTyd fun t => { t with exp := none }).completeCmd e.cmd bankFault
    else
      let (n, left, s) := s.finishExport e (e.size - 2)
      s.completeCmd e.cmd { primary := 0, aux := (if left then 2 ^ 31 else 0) + n })

/-- EXPORT_ABORT (R362): how many chunks the export had written is open. -/
def execExportAbort (s : State) : Res :=
  s.tydCmd 0x41 fun c s =>
    let s := match s.tyd.exp with
      | none => s
      | some e =>
        let (k, s) := s.free 32
        let (n, left, s) := s.finishExport e k.toNat
        s.completeCmd e.cmd { primary := 0x04, aux := (if left then 2 ^ 31 else 0) + n }
    s.completeCmd c { primary := 0 }

/-! ### The freeze (R355) -/

/-- Program every buffered chunk of a TYPE and class, its last page padded. -/
def State.flushBuffer (s : State) (typ cls : Nat) : State :=
  let mine (c : Chunk) : Bool := c.typ == typ && (typ != 1 || c.flags / 64 == cls)
  let cs := s.tyd.buf.filter mine
  let (ps, s) := s.pages cs.length cs
  let s := ps.foldl (fun s p =>
    let (ok, s) := s.program typ cls p false false
    if ok then s else (s.program typ cls p false false).2) s
  s.onTyd fun t => { t with buf := t.buf.filter fun c => !mine c }

/-- Descent step 1: sampling stops, every chunk closes and the buffered pages are programmed. Work in progress stops (R368). -/
def State.tydFreeze (s : State) : State :=
  if s.tydReady ∧ ¬ s.tyd.frozen then
    let s := (List.range 512).foldl (fun s ch => s.closeChunk ch) s
    let s := (List.range (s.evlog.length / 63 + 1)).foldl (fun s _ => s.logChunk) s
    let s := s.onTyd fun t => { t with frozen := true, exp := none }
    (s.flushBuffer 1 0).flushBuffer 1 1 |>.flushBuffer 1 2 |>.flushBuffer 4 0
  else s

/-- Descent step 2: one journal page on each channel, then FROZEN. Its bytes and place are the engine's own (entry 34). -/
def State.tydJournal (s : State) : State :=
  if s.tydState = 2 then
    let s := s.captureInflight
    let s := match s.tyd.vol with
      | none => s
      | some v => (List.range 8).foldl (fun s ch =>
        let (b, s) := s.free 24
        let (r, s) := s.ownRecord 5
        s.emitPage v ⟨0, 5, 0, List.replicate 8 b.toNat, [], [], false, false, []⟩ 0 ch false
          (List.replicate 8 (5, r.bytes))) s
    (s.setFld TYD_STAT_STATE 3).evt 0x78 1
  else s

/-! ### Registers (R370, R372, R373) -/

/-- The write of TYD_CTRL. -/
def State.writeTydCtrl (s : State) (m : Nat) (v : Reg32) : State :=
  let mount := v.getLsbD 31
  let was := s.fld TYD_CTRL_MOUNT == 1
  let okMount := decide (mount = was) || (if mount then s.upMode else s.cfgMode)
  let okPct := decide (bitsNat v.toNat 23 16 = s.fld TYD_CTRL_SPARE_PCT) || s.cfgMode
  let s := ((s.setFld TYD_CTRL_REC_EN (bitsNat v.toNat 30 30)).setFld TYD_CTRL_REFRESH_BITS (bitsNat v.toNat 15 8)).setFld
    TYD_CTRL_WL_DELTA (bitsNat v.toNat 7 0)
  let s := if okPct then s.setFld TYD_CTRL_SPARE_PCT (bitsNat v.toNat 23 16) else s
  let s := if okMount then s.setFld TYD_CTRL_MOUNT (if mount then 1 else 0) else s
  let s := if okMount ∧ mount ∧ ¬ was then s.startMount else s
  if okPct ∧ okMount then s else s.refusedField m TYD_CTRL

/-- A register at `off` with bits [`hi`:0] that changes only in CONFIG and SERVICE. -/
def State.writeCfgOnly (s : State) (m off mask : Nat) (v : Reg32) : State :=
  let new := v &&& BitVec.ofNat 32 mask
  if new = s.rd off then s
  else if s.cfgMode then s.wr off new
  else s.refusedField m off

end Sys2Proof.Machine
end

