-- ==== Sys2Proof/Machine/Boot.lean ====
section
/-! DEFINITION. Boot images and SELFTEST (19_power_reset_and_modes.md R442, R444, R447 to R451), and the repairs that the
fuses bring back at a reset (10_memory_banks.md R228, R229; 18_background_and_spares.md R429). -/

namespace Sys2Proof.Machine

open Sys2Proof

/-! ### Boot images (R448, R449) -/

/-- Bytes `lo` to `lo + n − 1` of an image as a number, most significant first. -/
def imgNat (img : List Byte) (lo n : Nat) : Nat := beNat ((img.drop lo).take n)

/-- The bytes present as words of 9 bytes, bits [71:64] first. -/
def imgWords : Nat → List Byte → List Word
  | 0, _ => []
  | n + 1, b => BitVec.ofNat 72 (beNat (b.take 9)) :: imgWords n (b.drop 9)

/-- Parse `n` load records: destination and words of each, and the bytes used. None where the bytes run out, a destination
is no multiple of 16, or a record leaves the words below `top`. -/
def loadRecords (top : Nat) : Nat → List Byte → Option (List (Nat × List Word) × Nat)
  | 0, _ => some ([], 0)
  | n + 1, b =>
    let dest := beNat (b.take 4)
    let k := beNat ((b.drop 4).take 4)
    if b.length < 8 + 9 * k ∨ dest < 0x10000000 ∨ dest % 16 ≠ 0 ∨ top < dest + 16 * k then none
    else (loadRecords top n (b.drop (8 + 9 * k))).map fun r => ((dest, imgWords k (b.drop 8)) :: r.1, 8 + 9 * k + r.2)

/-- The key hash and the AUTH_REQUIRED fuse (02 R49). -/
def State.keyHash (s : State) : List Byte := leBytes 32 (s.fuseVal 0x100 256)
def State.authRequired (s : State) : Bool := mget false s.sys.fuseSensed 0x200

/-- The signature of an image whose body CRC ends at byte `e` (R448, R449). -/
def State.signedRight (s : State) (img : List Byte) (e : Nat) : Bool :=
  imgNat img 16 1 % 2 == 1 && sha256 ((img.drop 20).take 64) == s.keyHash &&
    ecdsaVerify (imgNat img 20 32) (imgNat img 52 32) (imgNat img e 32) (imgNat img (e + 32) 32) (beNat (sha256 (img.take e)))

/-- Check the image in `img` (R449): the SELFTEST_CAUSE of its rejection, or its records. `len` is the length a download
names; `top` is the first address no record may reach. -/
def State.checkImage (s : State) (img : List Byte) (len : Option Nat) (top : Nat) : Except Nat (List (Nat × List Word)) :=
  if img.length < 128 ∨ imgNat img 0 4 ≠ 0x5046494D ∨ imgNat img 4 2 ≠ 1 ∨
      leNat ((img.drop 124).take 4) ≠ crc32 (img.take 124) then .error 2
  else
    let step := imgNat img 6 2
    let total := imgNat img 8 4
    let tail := if imgNat img 16 1 % 2 = 1 then 64 else 0
    if (step ≠ 0 ∧ step ≠ s.stepping) ∨ img.length < total ∨ (len.any fun n => n != total) ∨ imgNat img 12 4 = 0 then .error 4
    else match loadRecords top (imgNat img 12 4) ((img.take total).drop 128) with
      | none => .error 4
      | some (rs, n) =>
        let e := 128 + n + 4
        if e + tail ≠ total ∨ leNat ((img.drop (128 + n)).take 4) ≠ crc32 (img.take (128 + n)) then .error 4
        else if s.authRequired ∧ ¬ s.signedRight img e then .error 3
        else .ok rs

/-- Write words to consecutive slots from address `a` on. -/
def State.putRun (s : State) (a : Nat) : List Word → State
  | [] => s
  | w :: r => (s.setWord a w).putRun (a + 16) r

/-- Copy load records to their destinations (R447). -/
def State.loadImage (s : State) (rs : List (Nat × List Word)) : State := rs.foldl (fun s r => s.putRun r.1 r.2) s

/-- SELFTEST_CAUSE, on both pages that show it. -/
def State.selftestCause (s : State) (c : Nat) : State :=
  (s.setFld SYS_STAT_SELFTEST_CAUSE c).setFld ⟨PWR_BOOT_STAT, 3, 0⟩ c

/-- An image is accepted: `src` is 0 QSPI, 1 PCI Express, 2 management SPI. -/
def State.accept (s : State) (rs : List (Nat × List Word)) (src : Nat) : State :=
  let s := (s.loadImage rs).selftestCause 0
  let s := s.onSys fun y => { y with booted := true }
  if src = 0 then s.setFld SYS_CTRL_REMAP 1 else s.setFld PWR_BOOT_STAT_DONE 1

/-- Try the QSPI copies in order (R450). -/
def State.tryCopies (s : State) : Nat → List (List Byte) → State
  | _, [] => s
  | i, c :: r =>
    match s.checkImage c none 0x18000000 with
    | .ok rs => (s.accept rs 0).setFld PWR_BOOT_STAT_COPY i
    | .error e => (s.selftestCause e).tryCopies (i + 1) r

/-- The bytes of a download: 8 per word slot from bank 96 on (R451). -/
def State.downloaded (s : State) (n : Nat) : List Byte :=
  (List.range n).map fun i => mget 0 s.mem (bankAddr 96 0 + i / 8 * 16 + i % 8)

/-- The write of PWR_BOOT_CTRL (R451): GO checks the download; elsewhere it is refused, and LENGTH is written. After an
image is accepted, or a failure of BIST that ended the boot (R447), GO has no effect. -/
def State.writeBootCtrl (s : State) (m : Nat) (v : Reg32) : State :=
  let s := s.wr PWR_BOOT_CTRL (v &&& 0x00FFFFFF)
  if ¬ v.getLsbD 31 then s
  else if s.mode ≠ .selftest ∨ s.fld PWR_STRAP_BOOT_SRC = 0 then s.refusedField m PWR_BOOT_CTRL
  else if s.sys.booted ∨ s.fld SYS_STAT_SELFTEST_CAUSE = 1 then s
  else
    let n := s.fld PWR_BOOT_CTRL_LENGTH + 1
    let src := if s.fld PWR_STRAP_BOOT_SRC = 2 then 2 else 1
    let s := s.setFld ⟨PWR_BOOT_STAT, 29, 28⟩ src
    match s.checkImage (s.downloaded (min n 16777216)) (some n) (bankAddr 96 0) with
    | .ok rs => s.accept rs src
    | .error e => s.selftestCause e

/-! ### Repairs from the fuses -/

/-- A repaired column `c` of physical bank `p`. -/
def State.fuseColumn (s : State) (p c : Nat) : State :=
  let b := 0x400 + 16 * p + 8 * c
  if s.fuseVal (b + 7) 1 = 0 then s
  else
    let lo := if c = 0 then 16 else 0
    s.wrN (MEM_COL + 4 * p) ((s.rd (MEM_COL + 4 * p)).toNat + (2 ^ 15 + 2 ^ 14 + s.fuseVal b 7) * 2 ^ lo)

/-- The last reset was a cold one (19 R443). -/
def State.coldReset (s : State) : Bool := [0, 2, 5].contains (s.fld SYS_STAT_LAST_RESET)

/-- Every repair that is fused takes effect (R228, R429); the spare banks in use stand as they are through a warm reset (R235). -/
def State.fusedRepairs (s : State) : State :=
  let s := (List.range 272).foldl (fun s k => s.fuseColumn (k / 2) (k % 2)) s
  let s := (List.range 8).foldl (fun s i =>
    let b := 0xC80 + 8 * i
    if s.coldReset ∧ s.fuseVal (b + 7) 1 = 1 then s.wrN (MEM_SPARE_MAP + 4 * i) (2 ^ 31 + 2 ^ 30 + s.fuseVal b 7) else s) s
  let s := s.refreshSpares
  let s := s.setFld TRS_LANE_STAT_LANE_OK (0x1FFFF - s.fuseVal 0xCD0 17)
  let s := if s.fuseVal 0xCC5 1 = 1 then (s.setFld TRS_SPARE_IN_USE 1).setFld TRS_SPARE_STANDS_FOR (s.fuseVal 0xCC0 5) else s
  let l := s.workingLanes
  let s := ((s.setFld TRS_LANE_STAT_WORKING l).setFld TRS_LANE_STAT_PAIR_LANES l).wrN TRS_CAPACITY (Machine.usable l s.rate)
  let s := (s.degrade 0 (decide (l < 16))).wrN CHS_CORE_OK (0x1FFFF - s.fuseVal 0xCE8 17)
  let s := if s.fuseVal 0xCCD 1 = 1 then
      let p := s.fuseVal 0xCC8 5
      ((s.setFld CHS_SPARE_IN_USE 1).setFld CHS_SPARE_STANDS_FOR p).setLmap p (0x80 + 16)
    else s
  let lost := (List.range 16).filter fun c => match s.physCore c with
    | some p => s.coreRetired p
    | none => true
  (lost.foldl (fun s c => s.goDark c) s).fusePend

/-! ### SELFTEST (R444, R447) -/

/-- RESET_EXIT (R444, R447): the straps are sensed, the fused repairs return, BIST runs, and a QSPI image is tried. -/
def execResetExit (rst : ResetExit) (s : State) : Res :=
  .next (if s.mode = .reset ∧ s.fld PWR_SUPPLY_STAT_IN_RANGE = 0xFF then
    let s := s.setMode .selftest
    let s := (s.setFld PWR_STRAP_SENIOR rst.senior.toNat).setFld PWR_STRAP_BOOT_SRC rst.bootSrc.toNat
    let s := s.setFld BLY_STAT_SENIOR rst.senior.toNat
    let s := if s.fld SYS_STAT_LAST_RESET = 5 then s.evt 2 5 else s
    let s := s.fusedRepairs
    if ¬ rst.bist then s.selftestCause 1
    else if rst.bootSrc = 0 ∨ rst.bootSrc = 3 then (s.selftestCause 2).tryCopies 0 rst.copies
    else s
  else s)

/-- BOOT_DONE (R447): Cairn runs once REMAP is set and an image is accepted; SELFTEST has taken `ms` milliseconds. A flash
whose MOUNT setting a warm reset kept is mounted (15 R356). -/
def execBootDone (ms : Nat) (s : State) : Res :=
  .next (if s.mode = .selftest ∧ s.fld SYS_CTRL_REMAP = 1 ∧ s.sys.booted then
    let s := (s.setFld PWR_BOOT_STAT_SELFTEST (min 4095 ms)).changeMode .config []
    if s.fld TYD_CTRL_MOUNT = 1 then s.startMount else s
  else s)

end Sys2Proof.Machine
end

