-- ==== Sys2Proof/Machine/Fire.lean ====
section
/-! DEFINITION. The firing of compare units and what acts on it (12_plumb_clock_and_time.md R274 to R276), and the decisions
that the active engine of a pair forwards (16_belay_twin.md R385). -/

namespace Sys2Proof.Machine

open Sys2Proof

/-- The consumers that act at a tick (R274): port sides, Mallet channels and playback streams. -/
def State.tickConsumers (s : State) (k : Nat) : State := ((s.firePorts k).fireMallet k).firePlayback k

/-- Compare unit `k` fires (R274 to R276): the consumers of an unquantised unit act at the next tick. -/
def State.fire (s : State) (k : Nat) : State :=
  let quant := s.fld (unitFld PLB_CMP_CTRL_QUANT k) == 1
  let s := if quant then (s.wrN (PLB_CMP_FIRE + 4 * k) (s.idx % 2 ^ 32)).tell 3 k s.idx [] else s
  let s := (s.wr PLB_CMP_FIRED (s.rd PLB_CMP_FIRED ||| BitVec.ofNat 32 (2 ^ k))).evt 0x33 0
  let s := ((s.pulse k).rearm k).captureOn 6 (some k)
  let s := if quant then s.tickConsumers k
    else if s.plb.firedNext.contains k then s else s.onPlb fun p => { p with firedNext := p.firedNext ++ [k] }
  if k = s.ttUnit then s.tetherFire else s

/-- A quantised unit of an engine that takes its peer's decisions fires at the forwarded index (R274). -/
def State.fireFollows (s : State) (k : Nat) : Bool :=
  s.fld (unitFld PLB_CMP_CTRL_QUANT k) == 1 && (s.resyncing || (s.lockstep && decide (s.mode = .standby)))

/-- FIRED (R274). -/
def execFired (k : Fin 16) (cycles : Nat) (s : State) : Res :=
  let s := s.advance cycles
  .next (if s.cmpArmed k ∧ 0 ≤ cmpDiff (s.cmpTime k) (s.target k) ∧ ¬ s.fireFollows k then s.fire k else s)

/-- Apply a forwarded decision (R385); the data are the register or frame image, the flip sample, the lane count, the amount
of a time step, or whether a playback stream starts. -/
def State.applyDecision (s : State) (unit item data : Nat) : State :=
  match unit with
  | 2 => match s.crn.commit with
    | some k =>
      let s := (s.onCrn fun x => { x with commit := some { k with flip := data } }).wrIdx CRN_ARM_IDX_LO CRN_ARM_IDX_HI data
      s.wrIdx (J_FLIP_LO + jOff k.jnl) (J_FLIP_HI + jOff k.jnl) data
    | none => s
  | 3 =>
    if item < 16 then (if s.cmpArmed item then s.fire item else s)
    else s.stepTime (s.time + data)
  | 4 => s.netDecision item data
  | 5 => s.mltDecision item data
  | 6 => s.pbDecision (item % 64) data
  | _ => s

/-- The decisions whose index has come. -/
def State.dueDecisions (s : State) : State :=
  let (due, rest) := s.bly.decisions.partition fun d => idxLe d.1 s.idx
  due.foldl (fun s d => s.applyDecision d.2.1 d.2.2.1 d.2.2.2) (s.onBly fun b => { b with decisions := rest })

/-- DECISION (R385). The pair lane count takes effect by PAIR_LANE_CHANGE at its index, F by COMMIT_FLIP. -/
def execDecision (unit item : Nat) (idx : Idx) (data : Nat) (s : State) : Res :=
  let s := s.gotFrame
  let n := idx.toNat
  .next (if ¬ (s.resyncing ∨ (s.lockstep ∧ s.mode = .standby)) then s
  else if unit = 1 then s.onTrs fun u => { u with laneChange := u.laneChange ++ [(data, n)] }
  else if unit = 2 then s.applyDecision 2 item data
  else (s.onBly fun b => { b with decisions := b.decisions ++ [(n, unit, item, data)] }).dueDecisions)

end Sys2Proof.Machine
end

