-- ==== Sys2Proof/Machine/Flip.lean ====
section
/-! DEFINITION. The flip of a commit (07_cairn_scenes.md R156 to R160, R163): every involved unit changes to the staged
state at F. -/

namespace Sys2Proof.Machine

open Sys2Proof

/-! ### Truss (06_strips_and_gain.md R121 to R128) -/

/-- The strip of a global section index (04 R71). -/
def sosStrip (q : Nat) : Nat :=
  if q < 24576 then q / 16 else if q < 32768 then 1536 + (q - 24576) / 16 else 2048 + (q - 32768) / 24

/-- Sections of the strips that `ok` names carry their state from set `a` to set `b` (04 R78). -/
def State.carryStates (s : State) (a b : Nat) (ok : Nat → Bool) : State :=
  let isSet (c x : Nat) : Bool := decide (0x07000000 ≤ x) && decide (x < 0x07440000) && x / 0x20 % 2 == c &&
    ok (sosStrip (x % 0x800000 / 0x40))
  let move (x : Nat) : Nat := if b = 1 then x + 0x20 else x - 0x20
  let cells := s.mem.filter fun e => isSet a e.1
  let keep := mkeep (fun x => !isSet b x) s.mem
  { s with
    mem := cells.foldl (fun m e => mset 0 m (move e.1) e.2) keep
    flips := mkeep (fun x => !isSet b x) s.flips }

/-- A gain bound for `target` from `F` on (R124, R125): a step is pending from the gain applied at present, where that
differs or where one was pending already. -/
def State.beginStep (s : State) (key : Nat) (applied target : Word) (f t : Nat) : State :=
  if (mfind s.trs.steps key).isSome ∨ applied ≠ target then
    s.onTrs fun u => { u with steps := mins u.steps key ⟨applied, f, f + t - 1⟩ }
  else s

/-- The delay or insert fields of a strip differ between two descriptors (R127). DESIGN CHOICE (log entry 51): a DLY_BASE that
differs does so also where DELAY is 0 in both, although 04 R76 ignores it then. -/
def changesOver (a0 a3 b0 b3 : Word) : Bool :=
  dDelay a0 != dDelay b0 || dDlyBase a3 != dDlyBase b3 || dInsEn a0 != dInsEn b0 || dInsCore a0 != dInsCore b0 ||
    dInsCh a0 != dInsCh b0

/-- The gain steps and the changeover of a strip enabled in both copies, `o` live before the flip and `n` after it. -/
def State.flipStrip (s : State) (o n f g : Nat) : State :=
  let w0 := s.desc0 n g
  let t := dZc w0
  let trim := s.applied (trimKey g) (s.word (descAddr o g 1))
  let fader := s.applied (faderKey g) (s.faderTarget g)
  let s := s.beginStep (trimKey g) trim (s.word (descAddr n g 1)) f t
  if changesOver (s.desc0 o g) (s.word (descAddr o g 3)) w0 (s.word (descAddr n g 3)) then
    let c : Changeover := ⟨s.desc0 o g, s.word (descAddr o g 3), none, none, false, false⟩
    let s := s.onTrs fun u => { u with chg := mins u.chg g c }
    if fader = 0 then s.dropStep (faderKey g)
    else s.onTrs fun u => { u with steps := mins u.steps (faderKey g) ⟨fader, f, f + t - 1⟩ }
  else s.beginStep (faderKey g) fader (if dMute w0 then 0 else s.word (descAddr n g 2)) f t

/-- A strip that starts at the flip (R128, 03 R62): its concealment points and its signals before F are 0, and its delay is
zero-filled. -/
def State.startStrip (s : State) (n f g : Nat) : State :=
  let w0 := s.desc0 n g
  let zero (s : State) (p : Nat) : State := (s.setWord (concAddr p 0) 0).setWord (concAddr p 1) 0
  let s := if isInput g then zero s g else s
  let s := if dInsEn w0 then zero s (1536 + g) else s
  let s := (s.dropStep (trimKey g)).dropStep (faderKey g)
  s.onTrs fun u => { u with
    prevIn := mdel u.prevIn g
    prevDly := mdel u.prevDly g
    prevOut := mdel u.prevOut g
    stopping := u.stopping.filter fun h => h != g
    chg := if dDelay w0 = 0 then mdel u.chg g
      else mins u.chg g ⟨w0, s.word (descAddr n g 3), none, some (f + dDelay w0), true, false⟩ }

/-- A step pending at a later flip keeps its applied gain and is counted afresh from there (R125). -/
def State.restartStep (s : State) (k f t : Nat) : State :=
  match mfind s.trs.steps k with
  | some p => s.onTrs fun u => { u with steps := mins u.steps k ⟨p.applied, f, f + t - 1⟩ }
  | none => s

/-- A strip that is disabled at the flip runs on from the non-live copy; an output strip's fader steps to 0 (R128). DEDUCED
(log entry 59): the target of its other pending steps stays the value of the copy it runs from. -/
def State.stopStrip (s : State) (n f g : Nat) : State :=
  let t := dZc (s.desc0 n g)
  let fader := s.applied (faderKey g) (s.faderTarget g)
  let s := s.restartStep (trimKey g) f t
  let s := if isOutput g then s.beginStep (faderKey g) fader 0 f t else s.restartStep (faderKey g) f t
  s.onTrs fun u => { u with stopping := g :: u.stopping }

/-- The edges that the commit removes, each with the gain it keeps while it fades (R125, R128). -/
def State.goneEdges (s : State) (o : Nat) (d : CopyDiff) : List (Edge × Word) :=
  d.removed.map fun x => (x, s.applied (edgeKey x.e) (s.word (edgeAddr o x.e 1)))

/-- The gain steps of the edges (R124, R125, R128): an edge that is added starts at its gain. -/
def State.flipEdges (s : State) (o n f : Nat) (es : List Edge) (d : CopyDiff) : State :=
  let s := (d.added ++ d.removed).foldl (fun s x => s.dropStep (edgeKey x.e)) s
  (es.filter fun x => !d.added.any x.same).foldl (fun s x =>
    let gain := s.applied (edgeKey x.e) (s.word (edgeAddr o x.e 1))
    s.beginStep (edgeKey x.e) gain (s.word (edgeAddr n x.e 1)) f (dZc (s.desc0 n x.src))) s

/-- What STEPS_DONE of the commit that turned `was` into `s` waits for (R138): the gain steps, changeovers and stopping strips
that it began. -/
def State.begunSince (s was : State) : List Nat :=
  ((s.trs.steps.filter fun p => mfind was.trs.steps p.1 != some p.2).map fun p => p.1) ++
    ((s.trs.chg.filter fun p => mfind was.trs.chg p.1 != some p.2).map fun p => chgKey p.1) ++
    ((s.trs.stopping.filter fun g => !was.trs.stopping.contains g).map stopKey)

/-- The ramps of R158 and R159: input strips whose source map entries differ, and sinks whose strip differs. -/
def State.flipMaps (s : State) (o n f : Nat) : State :=
  let names (c g : Nat) : List Nat := (s.validSources c).filter fun i => mapStrip (s.word (srcAddr c i)) == g
  let ins := (((s.validSources o).map fun i => mapStrip (s.word (srcAddr o i))) ++
    (s.validSources n).map fun i => mapStrip (s.word (srcAddr n i))).eraseDups
  let src := ins.filter fun g => s.enabled n g && names o g != names n g
  let sinks := (s.validSinks o ++ s.validSinks n).eraseDups.filter fun k => s.sinkStrip o k != s.sinkStrip n k
  s.onTrs fun u => { u with
    srcRamp := src.foldl (fun m g => mins m g ⟨f, s.sourceOf o g⟩) u.srcRamp
    sinkRamp := sinks.foldl (fun m k => mins m k ⟨f, s.sinkStrip o k⟩) u.sinkRamp }

/-- Truss flips (R156). DESIGN CHOICE (log entry 56): the sections of a strip that starts carry the state they held, as those of
every strip that is no changed strip do (04 R78). -/
def State.flipTruss (s : State) (k : Commit) (p : StagePlan) : State :=
  let before := s
  let o := s.live
  let n := s.other
  let f := k.flip
  let vo := s.view o
  let vn := s.view n
  let d := s.diff vo vn
  let on := vn.strips.map fun x => x.1
  let was := vo.strips.map fun x => x.1
  let both := on.filter was.contains
  let s := s.carryStates o n fun g => !(d.changed.contains g && both.contains g)
  let s := both.foldl (fun s g => s.flipStrip o n f g) s
  let s := (was.filter fun g => !on.contains g).foldl (fun s g => s.stopStrip n f g) s
  let gone := s.goneEdges o d
  let s := s.flipEdges o n f vn.edges d
  let s := s.flipMaps o n f
  let s := (on.filter fun g => !was.contains g).foldl (fun s g => s.startStrip n f g) s
  let b := p.batches
  let s := s.onTrs fun u => { u with
    xf := if b = [] then none else some ⟨f, k.win, k.equalPower, b, d.xfade, d.added, gone, 1⟩ }
  let s := ((s.setFld TRS_TABLE_SEL_LIVE n).wrIdx TRS_LIVE_IDX_LO TRS_LIVE_IDX_HI f).evt 0x10 2
  let s := (both.filter fun g => (s.trs.chg.any fun c => c.1 == g && c.2.fillEnd.isNone) && s.faderDown g).foldl (fun s g =>
    match mfind s.trs.chg g with
    | some c => s.switchOver g f c
    | none => s) s
  let s := s.onTrs fun u => { u with stepsOpen := u.stepsOpen ++ [s.begunSince before] }
  let s := s.setFld TRS_GRAPH_STAT_MAX_DEPTH (min 15 (s.maxDepth n))
  let s := s.wrN TRS_BATCH_STAT (if b = [] then 0 else 2 ^ 24 + b.length * 2 ^ 16)
  let s := if 1 < b.length then s.evt 0x11 1 else s
  ((s.refreshXfade.checkStepsDone.trussDone).reshed s.idx).reopen s.idx

/-! ### Chisel (R160) -/

/-- Logical core `c` flips. -/
def State.flipCore (s : State) (k : Commit) (p : StagePlan) (c : Nat) : State :=
  let f := k.flip
  let old := mfind s.chs.sel c
  let late := match mfind s.chs.next c with
    | some i => idxLe f i
    | none => true
  let s := match mfind s.chs.selNext c with
    | none => s
    | some none => s.onChs fun u => { u with
        sel := mdel u.sel c
        selOld := if late then mdel u.selOld c else mins u.selOld c (f, old)
        fresh := u.fresh.filter fun x => x != c
        next := if late then mdel u.next c else u.next }
    | some (some h) =>
      if old.any (fun (x : Selection) => x.bank == h.bank) then s
      else s.onChs fun u => { u with
        sel := mins u.sel c h
        selOld := mins u.selOld c (f, old)
        fresh := if u.fresh.contains c then u.fresh else c :: u.fresh
        next := if (mfind u.next c).isSome then u.next else mins u.next c f }
  let patches := (p.patches.filter fun w => w.core == c).map fun w => { w with flip := f }
  let s := s.onChs fun u => { u with patches := u.patches ++ patches }
  if (mfind s.chs.sel c).isSome then s
  else
    let s := match s.physCore c with
      | some q => (s.applyPatches c q f).2
      | none => s
    s.unitDone (16 + c) fun _ => true

/-! ### Registers (R140, R156) -/

/-- The staged copies of the registers of unit `u` become live, field by field (R140). -/
def State.flipRegs (s : State) (p : StagePlan) (u : Nat) : State :=
  (p.regs.filter fun r => regUnit r.1 == u).foldl (fun s r =>
    let m := BitVec.ofNat 32 (stagedMask r.1)
    s.wr r.1 ((s.rd r.1 &&& ~~~m) ||| (r.2 &&& m))) s

/-- A side not OFF keeps the registers it follows for now (R250): slot enables until its next frame starts, the rest until it has
stopped. -/
def State.keepSide (s was : State) (d : Nat) : State :=
  let r := was.sideRegs d
  if s.sideState d = 0 ∨ s.sideRegsNow d = r then s else s.onSide d fun x => { x with old := some r }

/-- Side `d` after its registers changed from those of `was` (11 R250): whether it is one that unit 1 waits for. -/
def State.flipSide (s was : State) (d : Nat) : Bool × State :=
  let on := s.fld (sideEnable d)
  let s := if d < 64 then s.keepSide was d else s
  let old := was.sideRegs d
  let new := s.sideRegsNow d
  let same : Bool := old.fmt == new.fmt && old.clk == new.clk && old.grp == new.grp
  if on ≠ was.fld (sideEnable d) then (hasState d, s.sideEnabled d (on == 1))
  else if 64 ≤ d ∨ on = 0 ∨ same then (false, s)
  else
    let st := s.sideState d
    if st = 1 ∨ st = 5 then (true, (s.setSide d 0).startSide d)
    else if st = 0 then (false, s)
    else (true, (s.onSide d fun x => { x with restart := true }).stopSide d)

/-- Unit 1 flips (11 R250). -/
def State.flipPorts (s : State) (p : StagePlan) : State :=
  let was := s
  let s := s.flipRegs p 1
  let s := (List.range 8).foldl (fun s g => s.grpWritten was g) s
  let s := (List.range 16).foldl (fun s i =>
    if (s.rd (AES_CTRL + 0x1000 * i) ^^^ was.rd (AES_CTRL + 0x1000 * i)) &&& 0x3FE0FFFF = 0 then s
    else s.onAesRx i fun r => { r with old := some (was.aesRxCtrl i) }) s
  let (js, s) := (List.range 96).foldl (fun (a : List Nat × State) d =>
    let (wait, s) := a.2.flipSide was d
    (if wait then d :: a.1 else a.1, s)) ([], s)
  let blocks (base i : Nat) : List Reg32 := (List.range 16).map fun j => s.rd (base + 0x1000 * i + 4 * j)
  let blocks' (base i : Nat) : List Reg32 := (List.range 16).map fun j => was.rd (base + 0x1000 * i + 4 * j)
  let cs := (List.range 16).filter fun i => blocks AES_TX_CS_A i != blocks' AES_TX_CS_A i
  let us := (List.range 16).filter fun i => blocks AES_TX_US_A i != blocks' AES_TX_US_A i
  let s := cs.foldl (fun s i => s.setFld (aesFld AES_TX_UPD_CS_LOAD i) 1) s
  let s := us.foldl (fun s i => s.setFld (aesFld AES_TX_UPD_US_LOAD i) 1) s
  let loads := (cs ++ us).eraseDups.filter fun i => s.sideState (65 + 2 * i) != 0
  let s := s.onPrt fun q => { q with jSides := (q.jSides ++ js).eraseDups, jLoads := (q.jLoads ++ loads).eraseDups }
  let s := (List.range 8).foldl (fun s g => s.showPins was (8 * g)) s
  if s.prt.jSides = [] ∧ s.prt.jLoads = [] then s.unitDone 1 fun _ => true else s.checkPortsDone

/-- Unit 2 flips: NET_QOS at F, the Tether settings at the next C_k (13 R313). -/
def State.flipNet (s : State) (p : StagePlan) : State :=
  let tt := p.regs.any fun r => r.1 == NET_TT_CTRL || r.1 == NET_TT_TIME || r.1 == NET_TT_BASE
  let s := (p.regs.filter fun r => regUnit r.1 == 2).foldl (fun s r =>
    let m := BitVec.ofNat 32 (stagedMask r.1)
    let v := (s.rd r.1 &&& ~~~m) ||| (r.2 &&& m)
    if r.1 = NET_QOS then s.wr r.1 v else s.flipTt r.1 v) s
  if tt ∧ s.net.ctrl.getLsbD 31 then s.onNet fun n => { n with jTether := true }
  else s.unitDone 2 fun _ => true

/-- Unit 3 flips (14 R343). -/
def State.flipMallet (s : State) (p : StagePlan) : State :=
  let was := s
  let s := s.flipRegs p 3
  let wait := (List.range 64).filter fun c =>
    s.fld (mFld MLT_CTRL_EN c) != was.fld (mFld MLT_CTRL_EN c) && s.lead c == c &&
      (if s.fld (mFld MLT_CTRL_EN c) = 1 then s.runMode else s.chState c != 0)
  let s := s.onMlt fun m => { m with jEn := (m.jEn ++ wait).eraseDups }
  if s.mlt.jEn = [] then s.unitDone 3 fun _ => true else s.checkMltDone

/-! ### COMMIT_FLIP (R156, R163) -/

/-- The armed commit `k` with plan `p` flips. -/
def State.flip (s : State) (k : Commit) (p : StagePlan) : State :=
  let e := k.jnl % 32
  let s := s.wrN (J_FLIPPED + jOff e) p.units
  let s := s.setFld (J_INFO_ACTIVE.sh (jOff e)) (if s.mode = .active then 1 else 0)
  let s := (s.setJState e 2).evt 0x20 2
  let s := s.setFld CRN_STAT_STATE 4
  let s := if p.units = 0 then s.jDone e 0 else s
  let has (u : Nat) : Bool := p.units.testBit u
  let s := if has 0 then s.flipTruss k p else s
  let s := if has 1 then s.flipPorts p else s
  let s := if has 2 then s.flipNet p else s
  let s := if has 3 then s.flipMallet p else s
  let s := if has 4 then (s.flipRegs p 4).unitDone 4 fun _ => true else s
  let s := ((List.range 16).filter fun c => has (16 + c)).foldl (fun s c => s.flipCore k p c) s
  let s := (s.onChs fun u => { u with selNext := [] }).onCrn fun c => { c with plan := none }
  if 1 < p.batches.length then s.completeCommit k 0x60 p.batches.length else s.completeCommit k 0 0

/-- COMMIT_FLIP (R156): at F, and not before. -/
def execCommitFlip (s : State) : Res :=
  .next (match s.crn.commit, s.crn.plan with
  | some k, some p => if s.crnState = 3 ∧ idxLe k.flip s.idx then (s.flip k p).pumpAll else s
  | _, _ => s)

end Sys2Proof.Machine
end

