-- ==== Sys2Proof/Machine/Lanes.lean ====
section
/-! DEFINITION. The serial lanes and the host link (17_serial_lanes_and_host_link.md): bring-up, electrical idle, width and
lane tests. -/

namespace Sys2Proof.Machine

open Sys2Proof

/-- A field of lane `l`. -/
def laneFld (f : Fld) (l : Nat) : Fld := f.sh (0x1000 * l)

/-- The page of lane `l`. -/
def lanePage (l : Nat) : Nat := 0xB0 + l

/-- LNE_STAT.STATE: 0 OFF, 1 IDLE, 2 TRAINING, 3 UP, 4 FAILED. -/
def State.laneState (s : State) (l : Nat) : Nat := s.fld (laneFld LNE_STAT_STATE l)

/-- The personality of lane `l` (R409): 0 none, 1 PCI Express, 2 Ethernet, 3 Belay. -/
def State.lanePers (s : State) (l : Nat) : Nat :=
  if l < 4 then 1 else if l < 8 then 2 else if l < 10 then 3
  else match s.fld LNE_COM_CTRL_PAIR_PERS with
    | 1 => 2
    | 2 => 3
    | _ => 0

/-- The Ethernet port that lane `l` serves (13 R288): ports 2 and 3 with ALT_LANE leave lanes 6 and 7 for lanes 10 and 11. -/
def State.lanePort (s : State) (l : Nat) : Option Nat :=
  if l = 4 ∨ l = 5 then some (l - 4)
  else if l = 6 ∨ l = 7 then (if s.fld (netFld NET_PORT_CTRL_ALT_LANE (l - 4)) = 0 then some (l - 4) else none)
  else if (l = 10 ∨ l = 11) ∧ s.lanePers l = 2 then
    (if s.fld (netFld NET_PORT_CTRL_ALT_LANE (l - 8)) = 1 then some (l - 8) else none)
  else none

/-- The user of lane `l` is enabled (R409, R412). -/
def State.laneUser (s : State) (l : Nat) : Bool :=
  match s.lanePers l with
  | 1 => true
  | 2 => match s.lanePort l with
    | some p => s.netEn p
    | none => false
  | 3 => true
  | _ => false

/-- Neither GEN nor CHK keeps lane `l` out of its link (R416). -/
def State.laneFree (s : State) (l : Nat) : Bool :=
  s.fld (laneFld LNE_TEST_GEN l) == 0 && s.fld (laneFld LNE_TEST_CHK l) == 0

/-- Lane `l` trains: its island is powered, it is enabled, and its user wants it. PCI Express trains in SELFTEST too, for a
download (19 R451). -/
def State.laneWanted (s : State) (l : Nat) : Bool :=
  (s.upMode || (decide (l < 4) && decide (s.mode = .selftest))) && s.powered (12 + l / 4) &&
    (decide (l < 4) || s.fld (laneFld LNE_CTRL_EN l) == 1) && s.laneUser l && s.laneFree l

/-- The rate code of a lane that comes up (R409); a PCI Express lane runs at the rate it trained at. -/
def State.laneRate (s : State) (l rate : Nat) : Nat :=
  match s.lanePers l with
  | 1 => rate
  | 2 => match s.lanePort l with
    | some p => match s.fld (netFld NET_PORT_CTRL_MODE p) with
      | 0 => 1
      | 2 => 7
      | _ => 5
    | none => 0
  | 3 => 7
  | _ => 0

/-- No PCI Express link is up. -/
def State.hostLinkDown (s : State) : Bool := s.fld LNE_PCIE_STAT_LINK_UP == 0

/-! ### The users of a lane -/

/-- The line-clock references of port `p` lose their signal (12 R261). -/
def State.lineLoss (s : State) (p : Nat) : State :=
  [2, 3].foldl (fun s r => if s.fld (refFld PLB_REF_CFG_SRC r) = p then s.refLoss r else s) s

/-- Port `p` loses its link (13 R317). -/
def State.portDown (s : State) (p : Nat) : State :=
  let s := ((s.setFld (netFld NET_PORT_STAT_LINK p) 0).setFld (netFld NET_PORT_STAT_AN_DONE p) 0).setFld
    (netFld NET_PORT_STAT_FEC p) 0
  let losses : Fld := netFld ⟨NET_PORT_STAT, 15, 0⟩ p
  (s.setFld losses (s.fld losses + 1)).lineLoss p

/-- Port `p` gets its link: auto-negotiation in mode 0, FEC in mode 2 (13 R288, R317). -/
def State.portUp (s : State) (p : Nat) : State :=
  let mode := s.fld (netFld NET_PORT_CTRL_MODE p)
  let fec := s.fld (netFld NET_PORT_CTRL_FEC p)
  let s := s.setFld (netFld NET_PORT_STAT_LINK p) 1
  let s := s.setFld (netFld NET_PORT_STAT_AN_DONE p) (if mode = 0 then s.fld (netFld NET_PORT_CTRL_AN p) else 0)
  s.setFld (netFld NET_PORT_STAT_FEC p) (if mode = 2 ∧ fec < 3 then fec else 0)

/-- Belay lane `k` (lane 8 + `k`) leaves the link (16 R401, R407): what it had not delivered goes on the others. -/
def State.belayDown (s : State) (k : Nat) : State :=
  let up := s.fld BLY_STAT_LANES_UP
  if up.testBit k then
    let s := (s.setFld BLY_STAT_LANES_UP (up - 2 ^ k)).bump (whole (BLY_LN_DOWN + 0x10 * k))
    let s := s.evt 0x72 k
    let left := s.lanesUp.length
    let s := (s.sprLog 6 (left == 0) false (8 + k) left).refreshBelay
    (s.bly.replay.filter fun f => f.lane == k).foldl (fun s f => s.deal true f) s
  else s

/-- Belay lane `k` joins the link; the first one starts it afresh, with frame numbers from 0 (16 R402). -/
def State.belayUp (s : State) (k : Nat) : State :=
  let up := s.fld BLY_STAT_LANES_UP
  let s := if up = 0 then s.onBly fun b => { b with fseq := 0, got := 0, dealt := 0, replay := [] } else s
  (s.setFld BLY_STAT_LANES_UP (up ||| 2 ^ k)).refreshBelay

/-! ### The PCI Express link (R413, R415) -/

/-- The link's width is `w`; a fall below 4 is recorded (R413, R419, 18 R431). `l` is a lane that it lost. -/
def State.pcieWidth (s : State) (l w : Nat) : State :=
  let s := s.setFld LNE_PCIE_STAT_WIDTH w
  if w = 4 then s.degrade 7 false else ((s.evt 0xBF 0).sprLog 7 false false l w).degrade 7 true

/-- The PCI Express link goes down: its lanes train again, and the engine's mode is unchanged (R415). -/
def State.pcieDown (s : State) : State :=
  if s.hostLinkDown then s
  else
    let s := (((s.wrN LNE_PCIE_STAT 0).bump ⟨LNE_PCIE_CNT, 31, 16⟩).evt 0xBF 1)
    [0, 1, 2, 3].foldl (fun s l =>
      if s.laneState l = 3 then
        (((s.setFld (laneFld LNE_STAT_STATE l) 2).setFld (laneFld LNE_STAT_RATE l) 0).bump ⟨LNE_DOWN + 0x1000 * l, 15, 0⟩).evt (lanePage l) 0
      else s) s

/-- Once every PCI Express lane that trains has come up or failed, the link forms at ×4, ×2 on lanes 0 and 1 or ×1 on
lane 0 (R413). -/
def State.pcieForm (s : State) : State :=
  let st (l : Nat) : Nat := s.laneState l
  let up (l : Nat) : Bool := s.laneState l == 3
  let lanes := [0, 1, 2, 3]
  if ¬ s.hostLinkDown ∨ lanes.any (fun l => s.laneWanted l && st l != 3 && st l != 4) ∨ ¬ up 0 then s
  else
    let w := if lanes.all up then 4 else if up 1 then 2 else 1
    let failed := (lanes.map fun l => if st l = 4 then 2 ^ l else 0).sum
    let speed := match s.fld (laneFld LNE_STAT_RATE 0) with
      | 2 => 1
      | 3 => 2
      | 4 => 3
      | _ => 4
    let rev := s.fld (laneFld LNE_STAT_REVERSED 0)
    let s := s.wrN LNE_PCIE_STAT (2 ^ 31 + rev * 2 ^ 30 + failed * 2 ^ 24 + w * 2 ^ 16 + speed * 2 ^ 8)
    s.pcieWidth ((lanes.find? fun l => !up l).getD 0) w

/-- PCI Express lane `l` is taken out of a link that is up: it goes on at ×2 or ×1, and not without lane 0. -/
def State.pcieOut (s : State) (l : Nat) : State :=
  if s.hostLinkDown then s
  else if l = 0 then s.pcieDown
  else
    let w := if l = 1 then 1 else 2
    if w < s.fld LNE_PCIE_STAT_WIDTH then s.pcieWidth l w else s

/-! ### Changes of a lane's state -/

/-- Lane `l` enters state `st`, not UP; leaving UP takes it from its user (R401, R417, R419). -/
def State.laneOut (s : State) (l st : Nat) : State :=
  if s.laneState l = 3 then
    let pers := s.fld (laneFld LNE_STAT_PERS l)
    let s := (((s.setFld (laneFld LNE_STAT_STATE l) st).setFld (laneFld LNE_STAT_RATE l) 0).bump ⟨LNE_DOWN + 0x1000 * l, 15, 0⟩).evt (lanePage l) 0
    match pers with
    | 1 => s.pcieOut l
    | 2 => if 8 ≤ l then s.portDown (l - 8) else s.portDown (l - 4)
    | 3 => s.belayDown (l - 8)
    | _ => s
  else s.setFld (laneFld LNE_STAT_STATE l) st

/-- Lane `l` comes up (R410). -/
def State.laneUp (s : State) (l : Nat) : State :=
  let s := ((s.setFld (laneFld LNE_STAT_STATE l) 3).setFld (laneFld LNE_STAT_PERS l) (s.lanePers l)).evt (lanePage l) 0
  match s.lanePers l with
  | 1 => s.pcieForm
  | 2 => match s.lanePort l with
    | some p => s.portUp p
    | none => s
  | 3 => s.belayUp (l - 8)
  | _ => s

/-- PRE, MAIN and POST of a tap word are within full swing (R411). -/
def tapsOk (v : Reg32) : Bool := decide (bitsNat v.toNat 21 16 + bitsNat v.toNat 13 8 + bitsNat v.toNat 5 0 ≤ 64)

/-- Set the taps in use, where they are within full swing (R411). -/
def State.setTaps (s : State) (l : Nat) (v : Reg32) : State :=
  if tapsOk v then s.wr (LNE_TX_TAPS + 0x1000 * l) (v &&& 0x003F3F3F) else s

/-- LANE_CHANGE (R410 to R413): the training of lane `l` ends; `rate` is a PCI Express lane's, `rev` its reversal, and `taps`
what the partner's receiver asked for. -/
def execLaneChange (l : Fin 12) (up inv rev : Bool) (rate : Fin 32) (eq taps : Reg32) (s : State) : Res :=
  let b (x : Bool) : Nat := if x then 1 else 0
  .next (if ¬ s.laneWanted l ∨ 3 ≤ s.laneState l ∨ (l.val < 4 ∧ ¬ [2, 3, 4, 6].contains rate.val) then s
  else
    let (inj, s) := s.takeInj (lanePage l) 1
    if up ∧ ¬ inj then
      let s := (s.setFld (laneFld LNE_STAT_RX_INV l) (b inv)).setFld (laneFld LNE_STAT_REVERSED l) (b (rev && decide (l.val < 4)))
      let s := s.setFld (laneFld LNE_STAT_RATE l) (s.laneRate l rate)
      let s := s.wr (LNE_EQ_STAT + 0x1000 * l.val) (eq &&& 0xFFFF000F)
      let s := if l.val < 4 ∨ s.fld (laneFld LNE_CTRL_TRAIN l) = 1 then s.setTaps l taps else s
      s.laneUp l
    else
      let s := (s.setFld (laneFld LNE_STAT_STATE l) 4).bump (laneFld LNE_DOWN_TRAIN_FAIL l)
      let s := s.evt (lanePage l) 1
      if l.val < 4 then s.pcieForm else s)

/-- TRAIN_FAIL (R410): 10 ms after it failed, the lane trains again. -/
def execTrainFail (l : Fin 12) (s : State) : Res :=
  .next (if s.laneState l = 4 ∧ s.laneWanted l then s.setFld (laneFld LNE_STAT_STATE l) 2 else s)

/-- FAST_EXIT (R412): a lane leaves electrical idle with the adaptation it held, or falls back to full training. -/
def execFastExit (l : Fin 12) (ok : Bool) (s : State) : Res :=
  .next (if s.laneState l ≠ 1 ∨ ¬ s.laneWanted l ∨ s.fld (laneFld LNE_CTRL_FAST_EXIT l) = 0 ∨ l.val < 4 then s
  else
    let (inj, s) := s.takeInj (lanePage l) 2
    if ok ∧ ¬ inj then
      (((s.setFld (laneFld LNE_STAT_RATE l) (s.laneRate l 0)).bump ⟨LNE_FAST + 0x1000 * l.val, 31, 16⟩).laneUp l)
    else
      ((s.bump (laneFld LNE_FAST_FAILED l)).setFld (laneFld LNE_STAT_STATE l) 2).evt (lanePage l) 2)

/-- LANE_DOWN (R401, R410): a Belay or Ethernet lane that was UP goes down and trains again. -/
def execLaneDown (l : Fin 12) (s : State) : Res :=
  .next (if 4 ≤ l.val ∧ s.laneState l = 3 then s.laneOut l 2 else s)

/-- LINK_DOWN (R415). -/
def execLinkDown (s : State) : Res := .next s.pcieDown

/-- Lanes whose user has gone enter electrical idle (R412); OFF where LNE_CTRL.EN is 0. -/
def State.refreshLanes (s : State) : State :=
  (List.range 12).foldl (fun s l =>
    let st := if 4 ≤ l ∧ s.fld (laneFld LNE_CTRL_EN l) = 0 then 0 else 1
    if s.laneWanted l ∨ ¬ s.laneFree l ∨ s.laneState l < 2 then
      (if s.laneState l = 1 ∧ st = 0 then s.setFld (laneFld LNE_STAT_STATE l) 0
      else if s.laneState l = 0 ∧ s.laneWanted l then s.setFld (laneFld LNE_STAT_STATE l) 1 else s)
    else s.laneOut l st) s

/-! ### Register writes -/

/-- The write of LNE_COM_CTRL by master `m` (R409): a change takes lanes 10 and 11 down and trains them in the new
personality. -/
def State.writeComCtrl (s : State) (m : Nat) (v : Reg32) : State :=
  let new := bitsNat v.toNat 1 0
  if new = s.fld LNE_COM_CTRL_PAIR_PERS then s
  else if ¬ s.cfgMode then s.refusedField m LNE_COM_CTRL
  else
    let s := (s.laneOut 10 1).laneOut 11 1
    let s := s.setFld LNE_COM_CTRL_PAIR_PERS new
    let s := [10, 11].foldl (fun s l =>
      let s := s.setFld (laneFld LNE_STAT_PERS l) (s.lanePers l)
      if s.laneWanted l then s.setFld (laneFld LNE_STAT_STATE l) 2 else s) s
    s.refreshBelay

/-- The write of LNE_CTRL of lane `l` (R417): ignored on lanes 0 to 3. -/
def State.writeLneCtrl (s : State) (l : Nat) (v : Reg32) : State :=
  if l < 4 then s else (s.wr (LNE_CTRL + 0x1000 * l) (v &&& 0xE0000000)).refreshLanes

/-- The write of LNE_TX_TAPS of lane `l` (R411, R417): it takes effect while TRAIN is 0. -/
def State.writeTaps (s : State) (l : Nat) (v : Reg32) : State :=
  if l < 4 ∨ s.fld (laneFld LNE_CTRL_TRAIN l) = 1 then s else s.setTaps l v

/-- The write of LNE_TEST of lane `l` by master `m` (R416, R478): GEN and CHK may be set only in CONFIG and SERVICE. -/
def State.writeLneTest (s : State) (m l : Nat) (v : Reg32) : State :=
  let a := LNE_TEST + 0x1000 * l
  let old := s.rd a
  let was := s.laneFree l
  let no := if s.cfgMode then 0 else v &&& ~~~old &&& 0xC0000000
  let s := s.wr a (((v &&& ~~~no) &&& 0xF0000000) ||| (old &&& 0x08000000))
  let s := if no = 0 then s else s.refusedField m a
  if was ∧ ¬ s.laneFree l then s.laneOut l 1
  else if ¬ was ∧ s.laneFree l ∧ s.laneWanted l then s.setFld (laneFld LNE_STAT_STATE l) 2
  else s

end Sys2Proof.Machine
end

