-- ==== Sys2Proof/Machine/Reset.lean ====
section
/-! DEFINITION. Resets, the supply monitors, the watchdog and the Descent (19_power_reset_and_modes.md R441, R443 to R446,
R454, R455), and the end of the output hold (16_belay_twin.md R378, R379, R393). -/

namespace Sys2Proof.Machine

open Sys2Proof

/-! ### Entering RESET (R443) -/

/-- A register that a warm reset keeps whole: the scene directory, the journal records with their number, the SPR log and the
map of the spare banks. -/
def warmKeeps (a : Nat) : Bool :=
  (decide (0x22800 ≤ a) && decide (a < 0x23000)) ||
    (decide (0x23800 ≤ a) && decide (a < 0x24000)) || (decide (0x21800 ≤ a) && decide (a < 0x22000)) || a == CRN_JNL_NEXT ||
    a == SPR_LOG_CNT || (decide (0x5100 ≤ a) && decide (a < 0x5500)) || (decide (MEM_SPARE_MAP ≤ a) && decide (a < MEM_SPARE_MAP + 32))

/-- Bits of the register at `a` that a warm reset keeps: its RWS fields (00 R6), or all of it. -/
def warmBits (a : Nat) : Reg32 :=
  if warmKeeps a then 0xFFFFFFFF else match regRow a with
    | some r => BitVec.ofNat 32 r.rws
    | none => 0

/-- Memory that a warm reset keeps: banks and Chisel memories. -/
def warmMemory (a : Nat) : Bool :=
  (decide (0x08000000 ≤ a) && decide (a < 0x0A200000)) || (decide (0x10000000 ≤ a) && decide (a < 0x18000000))

/-- The engine enters RESET with LAST_RESET `cause`; the outputs take their reset states. Flash, fuses and what waits to be
commanded outlast every reset. -/
def State.enterReset (s : State) (cause : Nat) (cold : Bool) : State :=
  let s := ((s.changeMode .reset []).setActOut false).dropPulses
  let z := State.reset
  let s' : State := { z with
    pending := s.pending
    out := s.out
    freeCtr := s.freeCtr
    mem := if cold then [] else mkeep warmMemory s.mem
    flips := if cold then [] else mkeep warmMemory s.flips
    sys := { z.sys with fuseBlown := s.sys.fuseBlown, fuseSensed := s.sys.fuseBlown, fuseRdata := s.sys.fuseBlown }
    bnk := { z.bnk with failed := if cold then [] else s.bnk.failed }
    tyd := { z.tyd with vol := s.tyd.vol }
    svc := { z.svc with tot := if cold then [] else s.svc.tot } }
  let s' := if cold then s' else s.regs.foldl (fun t e =>
    if warmBits e.1 = 0 then t else t.wr e.1 ((e.2 &&& warmBits e.1) ||| (regReset e.1 &&& ~~~(warmBits e.1)))) s'
  let s' := s'.setFld SYS_STAT_LAST_RESET cause
  let s' := if cause = 0 then s' else s'.wr PWR_DESCENT (s.rd PWR_DESCENT)
  let s' := s'.setFld PWR_SUPPLY_STAT_IN_RANGE (s.fld PWR_SUPPLY_STAT_IN_RANGE)
  if cold then s' else s'.setFld ⟨BLY_CAUSE, 7, 0⟩ (bitsNat (s.rd BLY_CAUSE).toNat 7 0)

/-- A Descent runs: other resets than power-on are held off (R445). -/
def State.descending (s : State) : Bool := s.sys.descent.isSome

/-- POWER_ON_RESET (R443). -/
def execPowerOnReset (s : State) : Res := .next ((s.enterReset 0 true).setFld PWR_SUPPLY_STAT_IN_RANGE 0xFF)

/-- PERST_RESET (R443, R445). -/
def execPerstReset (s : State) : Res := .next (if s.descending then s else s.enterReset 1 false)

/-- SYS_RESET (R443, R445). -/
def execSysReset (s : State) : Res := .next (if s.descending then s else s.enterReset 2 true)

/-- The write of SYS_CTRL (02 R45, 19 R443): REMAP sets and stays, WARM_RESET needs its key. -/
def State.writeSysCtrl (s : State) (v : Reg32) : State :=
  let s := s.wr SYS_CTRL ((s.rd SYS_CTRL ||| v) &&& 1)
  if v.getLsbD 1 ∧ bitsNat v.toNat 15 8 = 0xA7 ∧ ¬ s.descending then s.enterReset 3 false else s

/-! ### The watchdog (R446) -/

/-- The watchdog counts. -/
def State.wdtRuns (s : State) : Bool := s.fld PWR_WDT_CTRL_EN == 1 && s.upMode && !s.descending

/-- WDT_WARN (R446): 75 % of TIMEOUT since the last restart. -/
def execWdtWarn (s : State) : Res := .next (if s.wdtRuns then s.evt 2 4 else s)

/-- WATCHDOG_EXPIRY (R446). -/
def execWatchdogExpiry (s : State) : Res := .next (if s.wdtRuns then s.enterReset 4 false else s)

/-! ### The supplies (R441) -/

/-- Rail `r` is out of range. -/
def State.supplyFault (s : State) (r : Nat) : State :=
  let ok := s.fld PWR_SUPPLY_STAT_IN_RANGE
  let s := s.setFld PWR_SUPPLY_STAT_IN_RANGE (ok - if ok.testBit r then 2 ^ r else 0)
  let s := if s.fld PWR_SUPPLY_STAT_FIRST = 0 then s.setFld PWR_SUPPLY_STAT_FIRST (r + 1) else s
  let s := s.evt 2 0
  if s.runMode then s.resign 3 else s

/-- Rail `r` is in range again; with every rail in range the supply has returned to a Descent (R455). -/
def State.supplyBack (s : State) (r : Nat) : State :=
  let s := s.setFld PWR_SUPPLY_STAT_IN_RANGE (s.fld PWR_SUPPLY_STAT_IN_RANGE ||| 2 ^ r)
  if s.descending ∧ s.fld PWR_SUPPLY_STAT_IN_RANGE = 0xFF then s.onSys fun y => { y with returned := true } else s

/-- SUPPLY_FAULT (R441). -/
def execSupplyFault (rail : Fin 8) (s : State) : Res := .next (s.supplyFault rail)

/-- SUPPLY_IN_RANGE (R441, R455). -/
def execSupplyInRange (rail : Fin 8) (s : State) : Res := .next (s.supplyBack rail)

/-- POWER_FAIL_DEASSERT (R455). -/
def execPowerFailDeassert (s : State) : Res :=
  .next (if s.descending then s.onSys fun y => { y with returned := true } else s)

/-! ### The Descent (R454) -/

/-- Step 5: PWR_DESCENT records the Descent, of `us` µs, and the engine cold-resets. -/
def State.endDescent (s : State) (us : Nat) (peerTook : Bool) : State :=
  let bit (b : Bool) (n : Nat) : Nat := if b then 2 ^ n else 0
  (s.wrN PWR_DESCENT (2 ^ 31 + bit s.sys.returned 30 + bit s.sys.resigned 29 + bit peerTook 28 + min 65535 us)).enterReset 5 true

/-- DESCENT (R454, R455): step 1. A planned swap is cancelled and the watchdog stops. -/
def execDescent (s : State) : Res :=
  .next (if s.mode = .reset ∨ s.descending then s
  else
    let s := s.onSys fun y => { y with descent := some none, returned := false, resigned := false }
    if s.mode = .selftest then
      let (u, s) := s.free 16
      s.endDescent u.toNat false
    else s.dropSwap.tydFreeze)

/-- A peer is there that is not declared failed: one of the two paths shows evidence (log entry 40). -/
def State.peerThere (s : State) : Bool :=
  s.fld BLY_STAT_PEER_FAILED == 0 && (s.fld BLY_STAT_HB_OK == 1 || s.fld BLY_STAT_LINK_OK == 1)

/-- DESCENT_FLUSH_DONE (R454): steps 2 to 5, `us` µs after the edge; a resignation goes on to the end of its hold. -/
def execDescentFlushDone (us : Nat) (s : State) : Res :=
  .next (match s.sys.descent with
  | some none =>
    let s := s.tydJournal.mltAllOff
    if s.bly.hold then s.onSys fun y => { y with descent := some (some us), resigned := true }
    else if s.mode = .active ∧ s.peerThere then
      (s.resign 4).onSys fun y => { y with descent := some (some us), resigned := true }
    else if s.mode = .standby ∧ s.lockstep then
      ((s.sendResign 4).onSys fun y => { y with resigned := true }).endDescent us false
    else s.endDescent us false
  | _ => s)

/-! ### The end of the hold -/

/-- The hold ends (R393): the engine enters SERVICE, or RESET at the end of a Descent. How long the hold lasted before ACT_IN
rose is not told, up to 500 µs. -/
def State.holdOver (s : State) (peerTook : Bool) (fails : List Nat) : State :=
  match s.sys.descent with
  | some (some us) =>
    let (x, s) := s.free 16
    s.endDescent (us + if peerTook then x.toNat % 501 else 500) peerTook
  | some none => s.endHold []
  | none => s.endHold fails

/-- HOLD_END (R393): 500 µs after the resignation ACT_IN has not risen; `fails` are fuse bits that do not blow. -/
def execHoldEnd (fails : List Nat) (s : State) : Res := .next (if s.bly.hold then s.holdOver false fails else s)

/-- ACT_IN_RISE (R378, R379): `us` µs after this engine's own ACT_OUT rose. The senior of a simultaneous claim keeps the
field; a request for ACTIVE that is overtaken fails; every other claim is yielded. -/
def execActInRise (us : Nat) (s : State) : Res :=
  let s := s.setFld BLY_STAT_ACT_IN 1
  .next (if s.fld BLY_STAT_ACT_OUT = 1 then
    if s.bly.hold then s.jTakeover.holdOver true []
    else if s.fld BLY_STAT_SENIOR = 1 ∧ us ≤ 1 then s.onBly fun b => { b with contest := true }
    else s.jTakeover.yieldField []
  else if s.mode = .config ∧ s.fld PWR_MODE_STAT_BUSY = 1 ∧ s.fld PWR_MODE_STAT_TARGET = 3 then s.finishReq 2 0
  else s)

end Sys2Proof.Machine
end

