-- ==== Sys2Proof/Machine/Power.lean ====
section
/-! DEFINITION. Mode requests and island power (19_power_reset_and_modes.md R452, R453; 01_engine_architecture.md R17 to R20). -/

namespace Sys2Proof.Machine

open Sys2Proof

/-! ### Mode requests (R452) -/

/-- A request begins: BUSY with its TARGET. -/
def State.beginReq (s : State) (t : Nat) : State := (s.setFld PWR_MODE_STAT_TARGET t).setFld PWR_MODE_STAT_BUSY 1

/-- The write of PWR_MODE_REQ (R452). -/
def State.writeModeReq (s : State) (v : Reg32) : State :=
  let force := v.getLsbD 8
  let t := bitsNat v.toNat 2 0
  if force ∧ bitsNat v.toNat 31 24 ≠ 0xF0 then s
  else if s.fld PWR_MODE_STAT_BUSY = 1 then s.bump PWR_MODE_STAT_IGNORED
  else
    let s := s.beginReq t
    let cfg := decide (t = 2) || decide (t = 5)
    match s.mode with
    | .config =>
      if t = 3 ∨ t = 5 then s
      else if t = 4 then (if s.peerReady ∧ ¬ s.bly.joining then s.startJoin else s.finishReq 4 3)
      else s.finishReq 1 0
    | .active =>
      if ¬ cfg then s.finishReq 1 0
      else if force then ((s.leaveLockstep).setActOut false).mltAllOff.dropPulses
      else if s.lockstep ∧ ¬ s.bly.hold then
        let s := s.onSys fun y => { y with swapReq := true }
        if s.bly.swap.isSome then s else s.planSwap (s.idx + 16) false
      else s.finishReq 3 0
    | .standby => if cfg then s else s.finishReq 1 0
    | .service => if t = 2 then s else s.finishReq 1 0
    | _ => s.finishReq 1 0

/-- The mode of a request is entered; lockstep and a join end with it. -/
def State.enterRequested (s : State) (fails : List Nat) : State :=
  let m : Mode := if s.fld PWR_MODE_STAT_TARGET = 5 then .service else .config
  let was := s.mode
  let s := ((s.changeMode m fails).endJoin 0 0x7F 0 none).leaveLockstep
  let s := if was = .active then s.abortRing else s
  s.finishReq 0 0

/-- REQ_DONE (R452): a request that waits for no swap or join is carried out; `fails` are fuse bits that do not blow on entry
to SERVICE. -/
def execReqDone (fails : List Nat) (s : State) : Res :=
  let t := s.fld PWR_MODE_STAT_TARGET
  .next (if s.fld PWR_MODE_STAT_BUSY = 0 ∨ s.bly.hold then s
  else match s.mode with
    | .config =>
      if t = 3 then
        if s.fld BLY_STAT_ACT_IN = 1 ∧ s.fld BLY_STAT_PEER_FAILED = 0 then s.finishReq 2 0
        else
          let s := (s.endJoin 0 0x7F 0 none).changeMode .active []
          (if s.fld BLY_STAT_ACT_IN = 0 then s.setActOut true else s).finishReq 0 0
      else if t = 5 then s.enterRequested fails
      else s
    | .active => if s.sys.swapReq then s else s.enterRequested fails
    | .standby => if t = 2 ∨ t = 5 then s.enterRequested fails else s
    | .service => s.enterRequested fails
    | _ => s)

/-! ### Island power (R17, R18, R453) -/

/-- Islands that island `i` requires; the packet engine needs quad 1 or quad 2, and takes quad 1 where neither is on. -/
def islandNeeds (on : Nat → Bool) (i : Nat) : List Nat :=
  if 3 ≤ i ∧ i ≤ 7 then [8, 9, 10]
  else if 12 ≤ i ∧ i ≤ 14 then [17, 25]
  else if i = 15 then (if on 13 ∨ ¬ on 14 then [10, 13, 16] else [10, 14, 16])
  else if 18 ≤ i ∧ i ≤ 21 then [2, 17]
  else if i = 22 then [10, 16]
  else if i = 24 then [10, 14, 16]
  else []

/-- The committed scene uses island `i`: a core of the cluster has a program, a unit of the island is enabled, or a map entry
of the live graph names one of its streams. -/
def State.islandUsed (s : State) (i : Nat) : Bool :=
  ((s.validSources s.live).any fun k => sourceIsland k == some i) ||
    ((s.validSinks s.live).any fun k => sinkIsland k == some i) ||
  let cores (lo hi : Nat) : Bool := s.chs.sel.any fun e => match s.physCore e.1 with
    | some p => decide (lo ≤ p) && decide (p ≤ hi)
    | none => false
  let sides (lo hi : Nat) : Bool := (List.range 96).any fun d => decide (lo ≤ d) && decide (d < hi) && hasState d && s.sideState d != 0
  match i with
  | 3 => cores 0 3
  | 4 => cores 4 7
  | 5 => cores 8 11
  | 6 => cores 12 15
  | 15 => s.net.rx != [] || s.net.tx != [] || s.fld NET_TT_CTRL_EN == 1
  | 18 => sides 0 32
  | 19 => sides 32 64
  | 20 => sides 64 96 || (List.range 16).any fun j => (s.rd (AES_CTRL + 0x1000 * j)).toNat / 2 ^ 30 != 0
  | 21 => (List.range 64).any fun c => s.fld (mFld MLT_CTRL_EN c) == 1
  | 22 => s.fld TYD_CTRL_REC_EN == 1
  | _ => false

/-- Island `i` may be powered off by a request (R17): quad 0 only while no host link is up, Belay only without a peer, the
spare core until it is taken into use. -/
def State.gateable (s : State) (i : Nat) : Bool :=
  decide (3 ≤ i) && decide (i ≤ 6) || (decide (i = 7) && s.fld CHS_SPARE_IN_USE == 0) ||
    (decide (i = 12) && s.hostLinkDown) || (decide (13 ≤ i) && decide (i ≤ 15)) ||
    (decide (18 ≤ i) && decide (i ≤ 22)) || (decide (i = 24) && !s.paired)

/-- The islands of a mask, with what those newly powered require. -/
def powerUp (was : Nat → Bool) : Nat → List Nat → List Nat
  | 0, on => on
  | n + 1, on =>
    let need := (on.filter fun i => !was i).flatMap fun i => (islandNeeds on.contains i).filter fun j => !on.contains j
    powerUp was n (on ++ need.eraseDups)

/-- Island `j` of `off`, which a request powers off, is one that an island of `on` still requires. The packet engine requires a
lane quad of the two only where the request leaves neither: then quad 1 stays, if it was on (DESIGN CHOICE, log entry 46). -/
def stillNeeded (on off : List Nat) (j : Nat) : Bool :=
  let quad := on.contains 15 && !on.contains 13 && !on.contains 14
  if j = 13 then quad
  else if j = 14 then (quad && !off.contains 13) || on.contains 24
  else on.any fun i => (islandNeeds on.contains i).contains j

/-- Give back to `on` the islands of `off` that it still requires, until none is left. -/
def keepNeeded : Nat → List Nat → List Nat → List Nat
  | 0, on, _ => on
  | n + 1, on, off => keepNeeded n (on ++ off.filter fun j => !on.contains j && stillNeeded on off j) off

/-- The write of PWR_ISL_REQ by master `m` (R453): changes are refused outside CONFIG and SERVICE (R478); a request to power
off an island that is needed is ignored and reported (R18). -/
def State.writeIslReq (s : State) (m : Nat) (v : Reg32) : State :=
  let new := v.toNat % 2 ^ 25
  if ¬ s.cfgMode then (if new = (s.rd PWR_ISL_REQ).toNat then s else s.refusedField m PWR_ISL_REQ)
  else
    let bit (w i : Nat) : Bool := w.testBit (i - 1)
    let islands := (List.range 25).map (· + 1)
    let was := (s.rd PWR_ISL_STAT).toNat
    let want := powerUp (bit was) 4 (islands.filter (bit new))
    let off := islands.filter fun i => bit was i && !want.contains i
    let no := off.filter fun i => !s.gateable i || s.islandUsed i
    let on := keepNeeded 4 (want ++ no) off
    let refused := off.filter on.contains
    let mask (l : List Nat) : Nat := (islands.map fun i => if l.contains i then 2 ^ (i - 1) else 0).sum
    let s := (s.wrN PWR_ISL_REQ new).onSys fun y => { y with islands := some (mask on) }
    if refused = [] then s
    else (s.wr PWR_ISL_REFUSED (s.rd PWR_ISL_REFUSED ||| BitVec.ofNat 32 (mask refused))).evt 2 3

/-- Island `i` loses its state, or starts with it at reset values: its pages, and what its unit holds. -/
def State.clearIsland (s : State) (i : Nat) : State :=
  let s := { s with regs := mkeep (fun a => !pageInIsland i (a / 0x1000)) s.regs }
  let sides (lo hi : Nat) (s : State) : State := s.onPrt fun p => { p with
    side := mkeep (fun d => decide (d < lo) || decide (hi ≤ d)) p.side
    jSides := p.jSides.filter fun d => decide (d < lo) || decide (hi ≤ d) }
  let cores (lo hi : Nat) (s : State) : State :=
    let s := s.onChs fun c => { c with cores := mkeep (fun p => decide (p < lo) || decide (hi ≤ p)) c.cores }
    let a := 0x08000000 + 0x200000 * lo
    let b := 0x08000000 + 0x200000 * hi
    let s := s.clearMem a b
    { s with flips := mkeep (fun x => decide (x < a) || decide (b ≤ x)) s.flips }
  match i with
  | 3 => cores 0 4 s
  | 4 => cores 4 8 s
  | 5 => cores 8 12 s
  | 6 => cores 12 16 s
  | 7 => cores 16 17 s
  | 15 => { s with net := .init }
  | 18 => sides 0 32 s
  | 19 => sides 32 64 s
  | 20 => (sides 64 96 s).onPrt fun p => { p with rx := [], tx := [], jLoads := [] }
  | 21 => { s with mlt := .init }
  | 22 => { s with tyd := { Tyd.init with vol := s.tyd.vol } }
  | 24 => { s with bly := .init }.setFld BLY_STAT_SENIOR (s.fld PWR_STRAP_SENIOR)
  | _ => s

/-- ISL_DONE (R453): PWR_ISL_STAT equals the accepted request. -/
def execIslDone (s : State) : Res :=
  .next (match s.sys.islands with
  | none => s
  | some new =>
    let was := (s.rd PWR_ISL_STAT).toNat
    let changed := ((List.range 25).map (· + 1)).filter fun i => new.testBit (i - 1) != was.testBit (i - 1)
    let s := (s.wrN PWR_ISL_STAT new).onSys fun y => { y with islands := none }
    let s := changed.foldl (fun s i => s.clearIsland i) s.refreshLanes
    s.refreshLanes.evt 2 2)

end Sys2Proof.Machine
end

