-- ==== Sys2Proof/Machine/Services.lean ====
section
/-! DEFINITION. Background services (18_background_and_spares.md R420 to R427): scrubbing, calibration, lateness, sensors and
telemetry. -/

namespace Sys2Proof.Machine

open Sys2Proof

/-! ### The scrubber (R421) -/

/-- Where the scrubber finds a word, as SVC_SCRUB_UE codes it: 0 bank, 1 live Truss, 2 non-live Truss, 3 meter or counter,
4 running Chisel, 5 idle Chisel; with the word number it shows. None where it does not scrub. -/
def State.scrubWhere (s : State) (a : Nat) : Option (Nat × Nat) :=
  if 0x04000000 ≤ a ∧ a < 0x08000000 then
    if trussWord a ≠ some true then none
    else
      some (s.trussPlace a, a / 16 % 0x400000)
  else if 0x08000000 ≤ a ∧ a < 0x0A200000 then
    let o := a % 0x200000
    let p := a / 0x200000 - 64
    if ¬ chiselWord o ∨ ¬ s.powered (coreIsland p) then none
    else
      let sel := (s.logicalOf p).bind fun c => mfind s.chs.sel c
      let run := match sel with
        | some x => decide (0x100000 ≤ o) || o / 0x10000 == x.bank
        | none => false
      some (if run then 4 else 5, a / 16 % 0x800000)
  else if 0x10000000 ≤ a ∧ a < 0x18000000 then
    if s.bankState (bankOf a) = 2 then some (0, a / 16 % 0x1000000) else none
  else if 0x18000000 ≤ a ∧ a < 0x18800000 then
    if s.spareFree (a / 0x100000 % 128) then some (0, a / 16 % 0x1000000) else none
  else none

/-- A service round that began at station time `t` has run for this many ms. -/
def State.roundMs (s : State) (t : Nat) : Nat := (2 ^ 64 + s.time - t) % 2 ^ 64 * 1000 / 2 ^ 32

/-- The last word of a scrub round: the round's time, and its LATE bit where it kept its interval (R420, R423, R436). -/
def State.scrubRound (s : State) (a : Nat) : State :=
  if a = 0x07A27FF0 then
    let ms := s.roundMs s.svc.trussFrom
    let s := (s.setFld ⟨SVC_SCRUB_TIME, 15, 0⟩ (min ms 65535)).onSvc fun v => { v with trussFrom := s.time }
    if ms ≤ 2000 then s.onTime 1 else s
  else if a = 0x17FFFFF0 then
    let ms := s.roundMs s.svc.bankFrom
    let s := (s.setFld ⟨SVC_SCRUB_TIME, 31, 16⟩ (min (ms / 100) 65535)).onSvc fun v => { v with bankFrom := s.time }
    if ms ≤ 8000 then s.onTime 0 else s
  else s

/-- The scrubber finds an uncorrectable word at `a`, in place `k` (R421). -/
def State.scrubUe (s : State) (a k w : Nat) : State :=
  let s := if s.fld SVC_SCRUB_UE_VALID = 1 then s
    else (s.wrN SVC_SCRUB_UE (2 ^ 31 + k * 2 ^ 24 + w % 2 ^ 23)).evt 3 1
  match k with
  | 1 => s.resign 2
  | 3 => s.setWord a 0
  | 4 =>
    let p := a / 0x200000 - 64
    let cause := if 0x100000 ≤ a % 0x200000 then 2 else 3
    if (s.core p).run = .pass then s.onCore p fun c => { c with endFault := some cause } else s.coreFault p cause false
  | _ => s

/-- SCRUB_ACCESS (R421): the scrubber reads the word at `addr`, in which the bits `upset` have flipped since its last access.
A corrected word is written back by ECC_WRITEBACK. A mailbox word, which the scrubber does not visit, takes the upset alone
(DESIGN CHOICE, log entry 64). -/
def execScrubAccess (addr : Nat) (upset : BitVec 80) (s : State) : Res :=
  if ¬ s.upMode ∨ addr % 16 ≠ 0 then .next s
  else match s.scrubWhere addr with
    | none => .next (if 0x3C000000 ≤ addr ∧ addr < 0x3C010000 then s.upset addr upset else s)
    | some (k, w) =>
      let s := s.upset addr upset
      let (inj, s) := if k = 0 then s.takeInj 3 1 else (false, s)
      let r := eccRead (mget 0 s.flips addr)
      let s :=
        if inj then (s.noteEcc 7 addr { eccRead 3 with left := none, corrected := false } false).scrubUe addr k w
        else if k = 0 then
          match s.checkedRead 7 addr with
          | (none, s) => s.scrubUe addr k w
          | (some _, s) => if r.corrected then s.bump (whole SVC_SCRUB_CE) else s
        else if r.left.isNone then s.scrubUe addr k w
        else if r.corrected then (s.bump (whole SVC_SCRUB_CE)).queueBack addr r
        else s
      .next (s.scrubRound addr)

/-! ### Calibration and lateness (R422, R423) -/

/-- SYNTH_CAL (R422): band and loop gain move within the running loop; nothing that the part shows changes but the service's
LATE bit. With HOLD_CAL the calibration keeps its values. -/
def execSynthCal (s : State) : Res :=
  .next (if s.upMode ∧ s.fld SVC_CTRL_HOLD_CAL = 0 then s.onTime 3 else s)

/-- SVC_LATE (R423): service `k` has not completed a round within its interval. -/
def execSvcLate (k : Fin 7) (s : State) : Res :=
  .next (if s.upMode then ((s.setFld ⟨SVC_STAT, k.val, k.val⟩ 1).bump (whole SVC_LATE_CNT)).evt 3 0 else s)

/-- The write of SVC_CTRL by master `m` (R436, R478): HOLD_CAL only in SERVICE. -/
def State.writeSvcCtrl (s : State) (m : Nat) (v : Reg32) : State :=
  let new := bitsNat v.toNat 0 0
  if new = s.fld SVC_CTRL_HOLD_CAL then s
  else if s.mode = .service then s.setFld SVC_CTRL_HOLD_CAL new
  else s.refusedField m SVC_CTRL

/-! ### Sensors and telemetry (R424 to R427) -/

/-- The signed value of a 16-bit register field. -/
def signed16 (v : Nat) : Int := (BitVec.ofNat 16 v).toInt

/-- Set or clear bit `i` of a number. -/
def putBit (n i : Nat) (b : Bool) : Nat := if b then n ||| 2 ^ i else if n.testBit i then n - 2 ^ i else n

/-- SENSOR_UPDATE (R424, R425): island `i` + 1 reads `t` tenths of a degree, `volt` mV and an aging of `age` hundredths of a
per cent. -/
def execSensorUpdate (i : Fin 25) (t : Int) (volt age : Nat) (s : State) : Res :=
  if ¬ s.upMode then .next s
  else
    let t := max (-32768) (min 32767 t)
    let thr := s.rd TEL_THR
    let warn : Int := 10 * bitsNat thr.toNat 7 0
    let crit : Int := 10 * bitsNat thr.toNat 15 8
    let s := s.wrN (TEL_ISL_T + 16 * i.val) (BitVec.ofInt 16 t).toNat
    let s := (s.wrN (TEL_ISL_V + 16 * i.val) (volt % 65536)).wrN (TEL_ISL_A + 16 * i.val) (min age 65535)
    let raised (n : Nat) (lim : Int) : Bool := decide (lim ≤ t) || (n.testBit i && decide (lim - 50 < t))
    let w := raised s.svc.warm warn
    let h := raised s.svc.hot crit
    let s := if w ∧ ¬ s.svc.warm.testBit i then s.evt 4 1 else s
    let s := if h ∧ ¬ s.svc.hot.testBit i then s.evt 4 2 else s
    let old := decide (bitsNat thr.toNat 31 16 ≤ age)
    let s := if old ∧ ¬ s.svc.aged.testBit i then s.evt 4 3 else s
    .next (s.onSvc fun v => { v with
      warm := putBit v.warm i w
      hot := putBit v.hot i h
      aged := if old then putBit v.aged i true else v.aged })

/-- The total of R427 that stands at key `k`. -/
def State.total (s : State) (k : Nat) : Nat := mget 0 s.svc.tot k

/-- The telemetry record (R427). -/
def State.telRecord (s : State) : List Byte :=
  let u32 (n : Nat) : List Byte := beBytes 4 (min n (2 ^ 32 - 1))
  let flags := s.fld SYS_STAT_DEGRADED + 2 * s.fld BLY_STAT_LOCKSTEP + 4 * s.fld BLY_STAT_ACT_OUT
  let b (x : Bool) (n : Nat) : Nat := if x then n else 0
  let isl (i : Nat) : List Byte :=
    beBytes 2 (s.rd (TEL_ISL_T + 16 * i)).toNat ++ beBytes 2 (s.rd (TEL_ISL_V + 16 * i)).toNat ++
      beBytes 2 (s.rd (TEL_ISL_A + 16 * i)).toNat ++
      beBytes 1 (b (!s.powered (i + 1)) 1 + b (s.svc.warm.testBit i) 2 + b (s.svc.aged.testBit i) 4) ++ beBytes 1 0
  let err := BitVec.signExtend 32 (BitVec.ofNat 16 (s.fld PLB_SYN_STAT_PHASE_ERR))
  let body := beBytes 2 1 ++ beBytes 2 512 ++ u32 s.svc.rseq ++ beBytes 8 s.time ++ beBytes 6 s.idx ++ beBytes 1 s.modeCode ++
    beBytes 1 flags ++ beBytes 8 (s.fuseVal 0x060 64) ++ (List.range 25).flatMap isl ++ u32 (s.rd TRS_LOAD_NOW).toNat ++
    u32 s.trs.latWin ++ u32 (s.total 0) ++ u32 (s.total 1) ++ u32 (s.total 2) ++ u32 (s.total 3) ++ u32 (s.total 4) ++
    u32 (s.total 5) ++ u32 (s.total 6) ++ u32 (s.total 7) ++ u32 (s.total 8) ++ beBytes 4 err.toNat ++
    u32 (s.rd SVC_STAT).toNat ++ u32 (s.rd SPR_DEGR).toNat ++ List.replicate 220 0
  body ++ leBytes 4 (crc32 body)

/-- TEL_CTRL.SIZE as it acts (R437). -/
def State.telSize (s : State) : Nat := max 8 (min 4096 (bitsNat (s.rd TEL_CTRL).toNat 12 0))

/-- TEL_REC (R426): a record goes to the host's ring, or is dropped where the ring is full. -/
def execTelRec (s : State) : Res :=
  .next (if s.fld TEL_CTRL_EN = 0 ∨ ¬ s.upMode then s
  else
    let prod := (s.rd TEL_PROD).toNat
    let n := s.telSize
    let s' := (s.onTime 5).onSvc fun v => { v with rseq := v.rseq + 1 }
    let s' := s'.onTrs fun u => { u with latWin := 0 }
    if (2 ^ 32 + prod - (s.rd TEL_CONS).toNat) % 2 ^ 32 = n then s'.bump (whole TEL_DROP)
    else
      let s' := s'.emit (.hostWrite (s.rdPair TEL_RING_LO TEL_RING_HI + 512 * (prod % n)) s.telRecord)
      (s'.wr TEL_PROD (s.rd TEL_PROD + 1)).evt 4 0)

/-- Writes of TEL_CTRL, TEL_RING_LO, TEL_RING_HI and TEL_CONS that R437 leaves undefined: the ring changed while EN is 1, or
records taken that have not been written. -/
def State.telMisuse (s : State) (off : Nat) (v : Reg32) : Bool :=
  let en := s.fld TEL_CTRL_EN == 1
  if off = TEL_RING_LO then en && (v &&& 0xFFFFFE00) != s.rd TEL_RING_LO
  else if off = TEL_RING_HI then en && v != s.rd TEL_RING_HI
  else if off = TEL_CTRL then en && v.getLsbD 31 && (v &&& 0x1FFF) != (s.rd TEL_CTRL &&& 0x1FFF)
  else if off = TEL_CONS then
    let prod := (s.rd TEL_PROD).toNat
    decide (2 ^ 31 ≤ (2 ^ 32 + prod - v.toNat) % 2 ^ 32)
  else false

/-- The write of TEL_CTRL (R437): a rise of EN clears TEL_PROD and RSEQ. -/
def State.writeTelCtrl (s : State) (v : Reg32) : State :=
  let was := s.fld TEL_CTRL_EN
  let s := s.wr TEL_CTRL (v &&& 0x80001FFF)
  if was = 0 ∧ v.getLsbD 31 then (s.wr TEL_PROD 0).onSvc fun x => { x with rseq := 0 } else s

end Sys2Proof.Machine
end

