-- ==== Sys2Proof/Machine/Derived.lean ====
section
/-! DEFINITION. What a read returns where it shows the present state: the page headers (02_register_space.md R30 and the
page rules of the chapters), the registers that a table describes as a count or a status of something else, and Truss words
with their reserved bits. -/

namespace Sys2Proof.Machine

open Sys2Proof

/-- Flags as the low bits of a number. -/
def flagsNat : List Bool → Nat
  | [] => 0
  | b :: bs => (if b then 1 else 0) + 2 * flagsNat bs

/-- PG_STAT of page `p` (R84, R113, R115, R137, R165, R167, R197, R199, R233, R256, R258, R278, R280, R282, R284, R286, R317 to
R320, R344, R345, R369, R405 to R407, R417, R418, R436 to R438, R458); 0 where no rule names a bit. -/
def State.pgStat (s : State) (p : Nat) : Nat :=
  flagsNat (
    if p = 2 then [s.fld PWR_MODE_STAT_BUSY == 1, s.fld PWR_SUPPLY_STAT_IN_RANGE != 0xFF]
    else if p = 3 then [s.fld SVC_STAT_LATE != 0]
    else if p = 4 then [s.fld TEL_CTRL_EN == 1]
    else if p = 5 then [s.fld SYS_STAT_DEGRADED == 1]
    else if p = 0x10 then [s.live == 1, s.trs.check.isSome]
    else if p = 0x11 then
      [match s.trs.xf with | some x => decide (1 < x.batches.length) | none => false, (s.rd SPR_DEGR).toNat.testBit 1]
    else if p = 0x12 then [s.trs.shed != [], s.fld TRS_SHED_STAT_OVERLOAD == 1]
    else if p = 0x13 then [s.trs.steps != [] || s.trs.chg != [], s.trs.arb.any fun e => decide (0 < e.2.att)]
    else if p = 0x20 then
      [s.mbxIndex 0 != s.mbxIndex 1, s.crnState == 3, s.crnState == 4]
    else if p = 0x21 then [(List.range 32).any fun j => s.jState j == 1 || s.jState j == 2]
    else if p = 0x30 then [s.synState == 2, s.synState == 3]
    else if p = 0x31 then [(List.range 10).any fun r => s.refOn r && s.refGood r]
    else if p = 0x32 then [s.fld PLB_TIME_STAT_SET == 1, s.fld PLB_TIME_STAT_STEP_ALARM == 1]
    else if p = 0x33 then [(List.range 16).any s.cmpArmed]
    else if p = 0x34 then [(List.range 16).any fun k => s.fld (unitFld PLB_CAP_CTRL_VALID k) == 1]
    else if 0x40 ≤ p ∧ p ≤ 0x50 then
      [(s.core (p - 0x40)).run != .idle && s.powered (coreIsland (p - 0x40)), s.coreRetired (p - 0x40)]
    else if p = 0x58 then [s.fld CHS_SPARE_IN_USE == 1, (List.range 16).any s.coreDark]
    else if p = 0x60 then
      [(List.range 8).any fun i => s.fld (spareFld MEM_SPARE_MAP_COPYING i) == 1, s.fld MEM_STAT_FAILING != 0]
    else if p = 0x70 then [s.lockstep, s.fld BLY_STAT_PEER_FAILED == 1]
    else if p = 0x71 then [decide (1 ≤ s.fld BLY_JOIN_STAT_PHASE) && decide (s.fld BLY_JOIN_STAT_PHASE ≤ 3)]
    else if p = 0x78 then [s.tydReady, decide (0 < s.capStep)]
    else if p = 0x79 then [s.recording]
    else if p = 0x7a then [(List.range 64).any fun i => (s.playback i).play.isSome]
    else if p = 0x7b then [(List.range 8).all fun c => s.fld (TYD_CH_CFG_EN.sh (0x10 * c)) == 0 ||
      s.fld (TYD_CH_STAT_UP.sh (0x10 * c)) == 1]
    else if p = 0x7c then [s.capStep == 5]
    else if 0x80 ≤ p ∧ p < 0xa0 then [s.sideState (2 * (p - 0x80)) == 3, s.sideState (2 * (p - 0x80) + 1) == 3]
    else if 0xa0 ≤ p ∧ p < 0xb0 then [s.fld (aesFld AES_STAT_LOCK (p - 0xa0)) == 1, s.sideState (65 + 2 * (p - 0xa0)) == 3]
    else if 0xb0 ≤ p ∧ p ≤ 0xbb then [s.laneState (p - 0xb0) == 3]
    else if p = 0xbf then [s.fld LNE_PCIE_STAT_LINK_UP == 1]
    else if p = 0xc0 then (List.range 4).map fun q => s.fld (netFld NET_PORT_STAT_LINK q) == 1
    else if p = 0xc1 then [s.ptpState 0 == 9, s.ptpState 1 == 9]
    else if p = 0xc2 then [s.net.rx != []]
    else if p = 0xc3 then [s.net.tx != []]
    else if p = 0xc4 then [s.net.running, s.net.sweep.isSome]
    else if p = 0xd0 then [(List.range 64).any fun c => (s.chan c).diag.any fun d => !d.retry]
    else if 0x100 ≤ p ∧ p < 0x140 then [s.chState (p - 0x100) == 3, s.chState (p - 0x100) == 6]
    else [])

/-! ### Registers that show something else -/

/-- CHS_CORE_STAT of physical core `p` (R197). The unused spare, which no bit of CHS_RESET governs, shows RESET as its
reset value has it. -/
def State.coreStat (s : State) (p : Nat) : Nat :=
  let l := s.logicalOf p
  let sel := l.bind fun c => mfind s.chs.sel c
  let on := s.powered (coreIsland p)
  (if s.coreRetired p then 2 ^ 31 else 0) +
    (if (s.resetBit p).isNone || s.coreHeld p then 2 ^ 30 else 0) +
    (if on then 0 else 2 ^ 29) +
    (if on && (s.core p).run != .idle then 2 ^ 28 else 0) +
    (match sel with | some h => 2 ^ 27 + h.bank * 2 ^ 26 | none => 0) +
    l.getD 31 * 2 ^ 16 + s.fld (CHS_CORE_STAT_PC.sh (corePage p))

/-- SPR_SUMMARY (18 R438). -/
def State.sprSummary (s : State) : Nat :=
  let lane := s.fld TRS_SPARE_IN_USE == 0 && s.fld TRS_LANE_STAT_JOINING == 0 && (s.fld TRS_LANE_STAT_LANE_OK).testBit 16
  let core := !(s.fld CHS_SPARE_IN_USE == 1 || s.coreRetired 16 || s.chs.mig.any fun m => m.2.dst == 16)
  let pools := match s.tyd.vol with
    | some v => flagsNat ((List.range 8).map fun ch => (onChannel v.spare ch).isEmpty)
    | none => 0
  (if lane then 2 ^ 31 else 0) + (if core then 2 ^ 30 else 0) + s.fld MEM_STAT_SPARES_LEFT * 2 ^ 24 + pools * 2 ^ 16 +
    s.lanesUp.length * 2 ^ 12 + s.fld LNE_PCIE_STAT_WIDTH * 2 ^ 8

/-- The age in seconds of the oldest class-`c` recording held (TYD_RET_EFF, 15 R367). -/
def State.retEff (s : State) (c : Nat) : Nat :=
  match s.tyd.vol with
  | none => 0
  | some v =>
    let ts := ((v.segs.filter fun g => g.cls == c).flatMap fun g => g.recorded).map fun k => k.time
    match ts with
    | [] => 0
    | t :: ts => (2 ^ 64 + s.time - ts.foldl min t) % 2 ^ 64 / 2 ^ 32

/-- Pages whose eight chunks wait in Timberyard's buffer (TYD_STAT, R370). -/
def State.pagesWaiting (s : State) : Nat :=
  let keys := (s.tyd.buf.map fun k => (k.typ, if k.typ = 1 then k.flags / 64 else 0)).eraseDups
  (keys.map fun k => (s.tyd.buf.filter fun b => b.typ == k.1 && (b.typ != 1 || b.flags / 64 == k.2)).length / 8).sum

/-- The registers of the die identity and the fuse window (02 R45, R46, R49). -/
def State.fuseReg (s : State) (off : Nat) : Option Nat :=
  if off = SYS_STEPPING then some s.stepping
  else if off = SYS_LOT_LO then some (s.fuseVal 0x000 32)
  else if off = SYS_LOT_HI then some (s.fuseVal 0x020 16)
  else if off = SYS_DIE_POS then some (s.fuseVal 0x030 5 * 65536 + s.fuseVal 0x038 8 * 256 + s.fuseVal 0x040 8)
  else if off = SYS_FUSEMAP_REV then some (s.fuseVal 0x058 8)
  else if off = SYS_DIE_ID_LO then some (s.fuseVal 0x060 32)
  else if off = SYS_DIE_ID_HI then some (s.fuseVal 0x080 32)
  else if off = FUS_RDATA then
    let w := bitsNat (s.rd FUS_ADDR).toNat 11 5
    some (flagsNat ((List.range 32).map fun i => mget false s.sys.fuseRdata (32 * w + i)))
  else none

/-- Registers of the Truss and Cairn pages that count or measure (04 R84, 06 R137, 07 R165). -/
def State.graphReg (s : State) (off : Nat) : Option Nat :=
  if off = TRS_EDGE_COUNT then some (s.graphEdges s.live).length
  else if off = TRS_SOS_COUNT then
    some (((s.enabledStrips s.live).map fun g =>
      let w := s.desc0 s.live g
      if dBypass w then 0 else dNsos w).sum)
  else if off = TRS_STRIP_COUNT then
    let gs := s.enabledStrips s.live
    some ((gs.filter isInput).length * 2 ^ 21 + (gs.filter isBus).length * 2 ^ 11 + (gs.filter isOutput).length)
  else if off = CRN_STAT then
    some (putBits (s.rd off) 28 28 (if s.crn.cur.any fun c => c.opcode == 1 then 1 else 0)).toNat
  else if off = TRS_METER_IDX_LO then some (s.idx % 2 ^ 32)
  else if off = TRS_METER_IDX_HI then some (s.idx / 2 ^ 32)
  else if off = CRN_STORE_FREE then some (s.freeRuns.map fun r => r.2).sum
  else if off = CRN_STORE_RUN then some s.largestRun
  else none

/-- Registers of the other blocks that show state held elsewhere (08 R197, R199, 11 R257, 12 R273, 13 R319, 15 R370 to R374,
16 R399, R407, 18 R438). -/
def State.blockReg (s : State) (off : Nat) : Option Nat :=
  let p := off / 0x1000
  let o := off % 0x1000
  if off = SYS_STAT then some (putBits (s.rd SYS_STAT) 31 29 s.modeCode).toNat
  else if 0x40 ≤ p ∧ p ≤ 0x50 ∧ o = 0x40 then some (s.coreStat (p - 0x40))
  else if off = CHS_DARK then some (flagsNat ((List.range 16).map s.coreDark))
  else if off = SPR_SUMMARY then some s.sprSummary
  else if 0x80 ≤ p ∧ p < 0xa0 ∧ o = 0x54 then
    let d := 2 * (p - 0x80)
    some (putBits (s.rd off) 25 24 ((if s.elastic d then 2 else 0) + if s.elastic (d + 1) then 1 else 0)).toNat
  else if 0x80 ≤ p ∧ p < 0xa0 ∧ o = 0x58 then
    let d := 2 * (p - 0x80)
    some (putBits (putBits (s.rd off) 31 16 (if s.elastic d then bitsNat (s.rd off).toNat 31 16 else 0)) 15 0
      (if s.elastic (d + 1) then bitsNat (s.rd off).toNat 15 0 else 0)).toNat
  else if off = PLB_TIME_LO then some (s.time % 2 ^ 32)
  else if off = PLB_TIME_HI ∧ ¬ s.plb.timeHeld then some (s.time / 2 ^ 32)
  else if p = 0xc2 ∧ 0x800 ≤ o ∧ o % 16 = 0 then
    let seen (t : Option Nat) : Bool := match t with
      | some t => decide ((2 ^ 64 + s.time - t) % 2 ^ 64 ≤ 2 ^ 32 / 10)
      | none => false
    match mfind s.net.rx ((o - 0x800) / 16) with
    | some x => some ((s.rd off).toNat + (if seen x.timeA then 2 ^ 29 else 0) + if seen x.timeB then 2 ^ 28 else 0)
    | none => none
  else if off = TYD_STAT then some (putBits (s.rd off) 15 0 (min 65535 s.pagesWaiting)).toNat
  else if off = TYD_REC_SUM then
    some (((List.range 512).filter fun ch => (s.recSet ch).getLsbD 31).length * 2 ^ 16)
  else if off = TYD_CKPT_AGE then
    some (if s.tyd.vol.isSome then (2 ^ 64 + s.time - s.tyd.ckpt) % 2 ^ 64 / 2 ^ 32 else 0)
  else if off = TYD_SEG_FREE then some (match s.tyd.vol with | some v => v.freeSegs | none => 0)
  else if TYD_RET_EFF ≤ off ∧ off < TYD_RET_EFF + 12 then some (s.retEff ((off - TYD_RET_EFF) / 4))
  else if TYD_H ≤ off ∧ off < TYD_H + 4 * 540 then some (Config.ldpcRom ((off - TYD_H) / 4)).toNat
  else if p = 0x72 ∧ o % 16 = 0 ∧ 0x40 ≤ o ∧ o < 0x80 then
    let l := (o - 0x40) / 16
    some ((if s.lanesUp.contains l then 2 ^ 31 else 0) + if s.belayPers (8 + l) then 2 ^ 30 else 0)
  else none

/-- Slots of the header (02 R30). -/
def State.headerReg (s : State) (i : PageId) (off : Nat) : Reg32 :=
  let o := off % 0x1000
  if o = 0 then i.word
  else if o = 4 then BitVec.ofNat 32 i.cap
  else if o = PG_STAT then BitVec.ofNat 32 (s.pgStat (off / 0x1000))
  else if o = PG_CTRL ∨ o = PG_EVT ∨ o = PG_EVT_EN ∨ o = PG_EVT_ROUTE ∨ o = PG_FENCE_CNT then s.rd off
  else 0

/-- What the register at offset `off` reads as at the moment, FREEZE apart; an offset that no table defines reads 0 (R29). -/
def State.present (s : State) (off : Nat) : Reg32 × State :=
  match pageId (off / 0x1000) with
  | none => (0, s)
  | some i =>
    if off % 0x1000 < 0x40 then (s.headerReg i off, s)
    else if off = PLB_SYN_FREQ then
      let (v, s) := s.control
      (BitVec.ofInt 32 v, s)
    else if off = PLB_TIME_STAT then
      let s := s.rateCorr
      (s.rd off, s)
    else if (findReg off).isNone then (0, s)
    else
      match (s.fuseReg off).orElse fun _ => (s.graphReg off).orElse fun _ => s.blockReg off with
      | some v => (BitVec.ofNat 32 v, s)
      | none => (s.rd off, s)

end Sys2Proof.Machine
end

