-- ==== Sys2Proof/Machine/Regs.lean ====
section
/-! DEFINITION. Reads and writes of registers (00_scope.md R6, 02_register_space.md R28 to R34, R45): the page header, FREEZE,
and the registers whose write does more than set a value, each by its chapter's rule. -/

namespace Sys2Proof.Machine

open Sys2Proof

/-! ### FREEZE (R31) -/

/-- Bits of the register at `off` that FREEZE holds: RO and RC. -/
def heldBits (off : Nat) : Reg32 :=
  if off % 0x1000 = PG_STAT then 0xFFFFFFFF
  else match findReg off with
    | some r => ~~~(BitVec.ofNat 32 (r.rw ||| r.w1c ||| r.act))
    | none => 0

/-- Bits of the register at `off` that a read clears. -/
def rcBits (off : Nat) : Reg32 := match findReg off with | some r => BitVec.ofNat 32 r.rc | none => 0

/-- Every register of page `p`, rising. -/
def pageRegs (p : Nat) : List Nat :=
  (List.range 1024).filterMap fun i =>
    let a := 0x1000 * p + 4 * i
    if 4 * i = PG_STAT ∨ (0x40 ≤ 4 * i ∧ (findReg a).isSome) then some a else none

/-- What page `p` reads as at the moment: its status and counters. -/
def State.snapshot (s : State) (p : Nat) : SMap Reg32 × State :=
  (pageRegs p).foldl (fun (a : SMap Reg32 × State) off =>
    let (v, s) := a.2.present off
    (if heldBits off = 0 then a.1 else a.1 ++ [(off, v)], s)) ([], s)

def State.frozenPage (s : State) (p : Nat) : Option FrozenPage := s.frozen.find? fun f => f.page == p

/-- The meter records (06_strips_and_gain.md R134). -/
def isMeter (a : Nat) : Bool := decide (0x07800000 ≤ a) && decide (a < 0x07838000)

/-- Word 3 of the meter record of strip `g` (R134): the active levels and those ducked. -/
def State.duckWord (s : State) (g : Nat) : Nat :=
  if isBus g then
    let b := g - 1536
    flagsNat ((List.range 8).map fun l => (s.level b l).active) * 2 ^ 56 +
      flagsNat ((List.range 8).map fun l => decide (0 < (s.level b l).att)) * 2 ^ 48
  else 0

/-- The cells of the meter records (R134), with word 3 of each bus from `duck`. -/
def meterCells (mem : List Host.Cell) (duck : Nat → Nat) : List Host.Cell :=
  (List.range 512).foldl (fun m b => memPut m (0x07800030 + 0x40 * (1536 + b)) (leBytes 9 (duck (1536 + b))))
    (mem.filter fun e => isMeter e.1)

/-- FREEZE of page `p` becomes 1: what it reads is held, and its RC registers count on from 0. -/
def State.freeze (s : State) (p : Nat) : State :=
  let (r, s) := s.snapshot p
  let s := r.foldl (fun s e => if rcBits e.1 = 0 then s else s.wr e.1 (s.rd e.1 &&& ~~~(rcBits e.1))) s
  { s with frozen := ⟨p, r, if p = 0x13 then meterCells s.mem s.duckWord else []⟩ :: s.frozen }

/-- RC registers that keep a greatest value (05 R98, R113, 08 R186). -/
def keepsGreatest (off : Nat) : Bool :=
  off == TRS_LOAD_PEAK || off == TRS_LAT_MAX || (decide (CHS_CYC_MAX ≤ off) && decide (off ≤ CHS_CYC_MAX + 0x10000) &&
    (off - CHS_CYC_MAX) % 0x1000 == 0)

/-- An RC register that read `a` while frozen and has counted `b` since (R31): the greater, the bits of either
(PWR_ISL_REFUSED), or the saturating sum of each field. -/
def rejoin (off : Nat) (a b : Reg32) : Reg32 :=
  match findReg off with
  | none => b
  | some r => r.rcFields.foldl (fun w f =>
      let x := bitsNat a.toNat f.1 f.2
      let y := bitsNat b.toNat f.1 f.2
      putBits w f.1 f.2 (if keepsGreatest off then max x y else if off = PWR_ISL_REFUSED then x ||| y
        else min (x + y) (2 ^ (f.1 + 1 - f.2) - 1))) b

/-- FREEZE of page `p` becomes 0: what was counted meanwhile is added to the visible counters (R31). -/
def State.thaw (s : State) (p : Nat) : State :=
  match s.frozenPage p with
  | none => s
  | some f =>
    let s := f.snap.foldl (fun s e => if rcBits e.1 = 0 then s else s.wr e.1 (rejoin e.1 e.2 (s.rd e.1))) s
    { s with frozen := s.frozen.filter fun g => g.page != p }

/-- A read of the register at `off` (R6, R31): its value, and the state after the read. An RC read of a frozen register clears
the frozen value. -/
def State.readReg (s : State) (off : Nat) : Reg32 × State :=
  let (v, s) := if off = PLB_TICK_IDX_LO then s.readTick else if off = PLB_TIME_LO then s.readTime else s.present off
  let v := s.written off v
  let rc := rcBits off
  match s.frozenPage (off / 0x1000) with
  | some f =>
    let held := heldBits off
    let clear (e : Nat × Reg32) : Nat × Reg32 := if e.1 = off then (e.1, e.2 &&& ~~~rc) else e
    ((mget 0 f.snap off &&& held) ||| (v &&& ~~~held), if rc = 0 then s else { s with
      frozen := s.frozen.map fun (h : FrozenPage) => if h.page = f.page then { h with snap := h.snap.map clear } else h })
  | none => (v, if rc = 0 then s else s.wr off (s.rd off &&& ~~~rc))

/-! ### SOFT_RESET (R32) -/

/-- Clear the RC bits (`rc`) and the W1C bits (`w1c`) of every register of page `p`. -/
def State.clearPage (s : State) (p : Nat) (rc w1c : Bool) : State :=
  (pageRegs p).foldl (fun s off => match findReg off with
    | none => s
    | some r =>
      let m := BitVec.ofNat 32 ((if rc then r.rc else 0) ||| if w1c then r.w1c else 0)
      if m = 0 then s else s.wr off (s.rd off &&& ~~~m)) s

/-- Set whole registers to their reset values. -/
def State.toReset (s : State) (offs : List Nat) : State := offs.foldl (fun s off => s.wr off (regReset off)) s

/-- Reset bits of the RO counters of a list of registers. -/
def State.clearBits (s : State) (m : Reg32) (offs : List Nat) : State := offs.foldl (fun s off => s.wr off (s.rd off &&& ~~~m)) s

/-- What the soft reset of page `p` does beyond the header, as the page's rule states; where no rule states anything, its
RC registers and W1C captures clear (R32). "The counters" of a page are its RC registers and the RO registers its table
calls counts; a capture clears with all that it has captured (DEDUCED, log entry 45). -/
def State.softEffect (s : State) (p : Nat) : State :=
  if p = 5 ∨ (0x14 ≤ p ∧ p ≤ 0x1f) ∨ p = 0x21 ∨ p = 0x71 ∨ p = 0x79 ∨ (0x7b ≤ p ∧ p ≤ 0x7f) ∨ p = 0xd0 then s
  else if p = 1 then (s.toReset [MTX_ERR_ADDR, MTX_ERR_INFO]).clearPage p true true
  else if p = 3 then (s.toReset [SVC_SCRUB_UE, SVC_DMA_ERR, SVC_DMA_ADDR]).clearPage p true true
  else if p = 0x10 then
    ((s.toReset [TRS_CHECK_CTRL, TRS_CHECK_STAT, TRS_CHECK_PATH]).onTrs fun t => { t with check := none, checkWait := false })
  else if p = 0x12 then s.wr (0x12000 + PG_EVT) 0
  else if p = 0x13 then
    s.toReset [TRS_STRIP_CTRL, TRS_ZC_FORCED, TRS_CLIP_CNT, TRS_CLIP_FIRST, TRS_DLY_ERR]
  else if p = 0x20 then (s.toReset [CRN_CTRL]).clearPage p true false
  else if p = 0x30 then (s.toReset [PLB_LAST_SWITCH]).clearPage p true false
  else if p = 0x33 then (List.range 16).foldl (fun s k => s.setFld (unitFld PLB_CMP_CTRL_ARM k) 0) s
  else if 0x40 ≤ p ∧ p ≤ 0x50 then (s.toReset [CHS_PASS_CNT + 0x1000 * (p - 0x40)]).clearPage p true true
  else if p = 0x58 then s.toReset [CHS_MIGRATE]
  else if p = 0x60 then
    (s.toReset [MEM_ERR_ADDR, MEM_ERR_INFO, MBX_STAT, MEM_TEST_SWEEPS, MEM_TEST_FAIL]).clearPage p true false
  else if p = 0x70 then (s.toReset [BLY_SWAP_CNT]).clearPage p true false
  else if 0xa0 ≤ p ∧ p < 0xb0 then (s.toReset [AES_RX_BLOCKS + 0x1000 * (p - 0xa0)]).clearPage p true false
  else if p = 0xc0 then
    (s.clearBits 0xFFFF ((List.range 4).map fun q => NET_PORT_STAT + 0x20 * q)).clearPage p true false
  else if p = 0xc1 then (s.ptpRestart 0).ptpRestart 1
  else if p = 0xc2 then (s.toReset ((List.range 128).map fun i => RXS_PKTS + 0x10 * i)).clearPage p true false
  else if p = 0xc3 then (s.toReset ((List.range 128).map fun i => TXS_PKTS + 0x10 * i)).clearPage p true false
  else if 0x80 ≤ p then s.clearPage p true false
  else s.clearPage p true true

/-- The soft reset of page `p`. A frozen view of what it clears follows it: a register is cleared where the effect changes it,
its RC bits set beforehand. -/
def State.softReset (s : State) (p : Nat) : State :=
  let t := s.softEffect p
  let full := (pageRegs p).foldl (fun s off => if rcBits off = 0 then s else s.wr off (s.rd off ||| rcBits off)) s
  let bare := full.softEffect p
  let follow (e : Nat × Reg32) : Nat × Reg32 := if full.rd e.1 = bare.rd e.1 then e else (e.1, t.rd e.1)
  let t := { t with frozen := t.frozen.map fun (f : FrozenPage) => if f.page = p then { f with snap := f.snap.map follow } else f }
  t.setFld ⟨0x1000 * p + PG_CTRL, 1, 1⟩ 1

/-- SOFT_RESET of page `p` reads 1. -/
def State.softBusy (s : State) (p : Nat) : Bool := (s.rd (0x1000 * p + PG_CTRL)).getLsbD 1

/-! ### The header (R30 to R34) -/

/-- PG_CTRL.ENABLE of page `p` holds what is written (R30): no rule has it ignore a 0 (SYS, MTX, FUS and Cairn's pages from
0x022 on). What a block with ENABLE 0 does no chapter says, so nothing changes (log entry 8). -/
def enableWrites (p : Nat) : Bool := p == 0 || p == 1 || p == 6 || (decide (0x22 ≤ p) && decide (p ≤ 0x2f))

/-- The write of PG_CTRL of page `p` by master `m`: a 0 to ENABLE is ignored where the page's rule says so, SOFT_RESET is
refused outside CONFIG and SERVICE. -/
def State.putCtrl (s : State) (m p : Nat) (v : Reg32) : State :=
  let fz : Fld := ⟨0x1000 * p + PG_CTRL, 2, 2⟩
  let on := v.getLsbD 2
  let was := s.fld fz == 1
  let s := if on && !was then s.freeze p else if !on && was then s.thaw p else s
  let s := s.setFld fz (if on then 1 else 0)
  let s := if enableWrites p then s.setFld ⟨0x1000 * p + PG_CTRL, 0, 0⟩ (if v.getLsbD 0 then 1 else 0) else s
  if ¬ v.getLsbD 1 then s
  else if s.cfgMode then s.softReset p
  else s.refusedField m (0x1000 * p + PG_CTRL)

/-- The bits of PG_EVT that page `p` has (the detector tables of the chapters). -/
def evtMask (p : Nat) : Nat :=
  if p = 0 ∨ p = 6 ∨ p = 0x12 ∨ p = 0x31 ∨ p = 0x33 ∨ p = 0x34 ∨ p = 0x71 ∨ p = 0xbf ∨ p = 0xc1 ∨ p = 0xc2 then 3
  else if p = 1 ∨ p = 4 ∨ p = 0x30 ∨ p = 0x72 ∨ p = 0xc4 ∨ (0x40 ≤ p ∧ p ≤ 0x50) then 0xF
  else if p = 2 then 0x3F
  else if p = 3 ∨ p = 5 ∨ p = 0x10 ∨ p = 0x32 ∨ p = 0x58 ∨ p = 0x7a ∨ (0xb0 ≤ p ∧ p ≤ 0xbb) then 7
  else if p = 0x11 ∨ p = 0x70 then 0x1FF
  else if p = 0x13 ∨ p = 0xc0 then 0x1F
  else if p = 0x20 ∨ p = 0x60 ∨ (0xa0 ≤ p ∧ p < 0xb0) then 0x7F
  else if p = 0x21 ∨ p = 0x61 ∨ p = 0xc3 ∨ p = 0xd0 then 1
  else if p = 0x78 ∨ (0x100 ≤ p ∧ p < 0x140) then 0xFF
  else if 0x80 ≤ p ∧ p < 0xa0 then (if p % 4 = 0 then 0x7F else 0x3F)
  else 0

/-- The write of PG_EVT_EN: bits that are set and become enabled request the vector (R34). -/
def State.putEvtEn (s : State) (p : Nat) (v : Reg32) : State :=
  let a := 0x1000 * p + PG_EVT_EN
  let new := v &&& BitVec.ofNat 32 (evtMask p)
  let rise := s.rd (0x1000 * p + PG_EVT) &&& new &&& ~~~(s.rd a)
  let s := s.wr a new
  if rise = 0 then s else s.requestVector (s.pageVector p)

/-- A fence is performed on page `p`: its count rises (R37). -/
def State.countFence (s : State) (p : Nat) : State :=
  s.wr (0x1000 * p + PG_FENCE_CNT) (s.rd (0x1000 * p + PG_FENCE_CNT) + 1)

/-! ### The MSI-X table (R34) -/

/-- The write of a word of the MSI-X table: unmasking a vector with its pending bit set sends the message (R34). -/
def State.putMsix (s : State) (off : Nat) (v : Reg32) : State :=
  let e := (off - MSIX_TABLE) / 16
  let k := off % 16
  let s := s.wr off (if k = 0 then v &&& 0xFFFFFFFC else if k = 12 then v &&& 1 else v)
  let pba := MSIX_PBA + 4 * (e / 32)
  if k = 12 ∧ ¬ v.getLsbD 0 ∧ (s.rd pba).getLsbD (e % 32) then
    (s.wr pba (s.rd pba &&& ~~~(BitVec.ofNat 32 (2 ^ (e % 32))))).requestVector e
  else s

/-! ### Registers with an effect of their own -/

/-- Write `v`, of which the bits in `mask` change only in CONFIG and SERVICE (R478). -/
def State.putLimited (s : State) (m off : Nat) (mask v : Reg32) : State :=
  let old := s.rd off
  if (v ^^^ old) &&& mask = 0 ∨ s.cfgMode then s.wr off v
  else (s.wr off ((v &&& ~~~mask) ||| (old &&& mask))).refusedField m off

/-- A write to the SYS, PWR, SVC, TEL and FUS pages. -/
def State.putSystem (s : State) (m off : Nat) (v : Reg32) : Option State :=
  if off = SYS_CTRL then some (s.writeSysCtrl v)
  else if MSIX_TABLE ≤ off ∧ off < MSIX_PBA then some (s.putMsix off v)
  else if off = FUS_CTRL then some (s.writeFusCtrl m v)
  else if off = PWR_MODE_REQ then some (s.writeModeReq v)
  else if off = PWR_ISL_REQ then some (s.writeIslReq m v)
  else if off = PWR_BOOT_CTRL then some (s.writeBootCtrl m v)
  else if off = PWR_WDT_KICK then some s
  else if off = SVC_CTRL then some (s.writeSvcCtrl m v)
  else if off = TEL_CTRL then some (s.writeTelCtrl v)
  else none

/-- A write to the TRS, CRN, CHS and MEM pages. -/
def State.putFabric (s : State) (m off : Nat) (v : Reg32) : Option State :=
  if off = TRS_CHECK_CTRL then some (s.writeCheckCtrl v)
  else if off = CRN_DOORBELL then some s.ringDoorbell
  else if off = CRN_STORE_CTRL then some (s.writeStoreCtrl m v)
  else if off = CHS_RESET then some (s.writeChsReset m v)
  else if CHS_DOORBELL ≤ off ∧ off ≤ CHS_DOORBELL + 0x10000 ∧ (off - CHS_DOORBELL) % 0x1000 = 0 then
    some (s.writeChsDoorbell ((off - CHS_DOORBELL) / 0x1000) v)
  else if off = MEM_CTRL then some (s.putLimited m off 2 v)
  else if MEM_BANK_STATE ≤ off ∧ off < MEM_BANK_STATE + 32 then
    some (s.writeBankState m ((off - MEM_BANK_STATE) / 4) v)
  else none

/-- A write to the PLB pages. -/
def State.putPlumb (s : State) (m off : Nat) (v : Reg32) : Option State :=
  let k := off % 0x1000 / 16 - 4
  if off = PLB_CTRL then some (s.writePlbCtrl m v)
  else if off = PLB_LOOP_CTRL then some (s.writeLoopCtrl v)
  else if off = PLB_SYN_FREQ then some (s.writeSynFreq v)
  else if off = PLB_HOLD_CFG ∨ off = PLB_OSC_CFG then some (s.wr off v).refreshHold
  else if off / 0x1000 = 0x31 ∧ off % 16 = 0 then some ((s.wr off v).refEnabled k (s.refOn k))
  else if off = PLB_TIME_CTRL then some (s.writeTimeCtrl m v)
  else if off / 0x1000 = 0x33 ∧ off % 16 = 0 ∧ off < 0x33140 then some (s.writeCmpCtrl k v)
  else none

/-- Two enables of a port page, its other fields already written. -/
def State.putEnables (s : State) (d : Nat) (v : Reg32) : State :=
  (s.writeEnable d (v.getLsbD 30)).writeEnable (d + 1) (v.getLsbD 31)

/-- A write to the PRT, AES, LNE, NET and MLT pages. -/
def State.putOuter (s : State) (m off : Nat) (v : Reg32) : Option State :=
  let p := off / 0x1000
  let o := off % 0x1000
  if 0x80 ≤ p ∧ p < 0xa0 ∧ o = 0xc0 then some ((s.wr off v).grpWritten s ((p - 0x80) / 4))
  else if 0x80 ≤ p ∧ p < 0xa0 ∧ o = 0x40 then
    some (((s.wr off ((v &&& 0x3FFFFFFF) ||| (s.rd off &&& 0xC0000000)))).putEnables (2 * (p - 0x80)) v)
  else if 0xa0 ≤ p ∧ p < 0xb0 ∧ o = 0x40 then
    some (((s.wr off ((v &&& 0x3FFFFFFF) ||| (s.rd off &&& 0xC0000000)))).putEnables (64 + 2 * (p - 0xa0)) v)
  else if 0xa0 ≤ p ∧ p < 0xb0 ∧ o = 0x48 then some (s.writeTxUpd (p - 0xa0) v)
  else if 0xb0 ≤ p ∧ p ≤ 0xbb ∧ o = 0x40 then some (s.writeLneCtrl (p - 0xb0) v)
  else if 0xb0 ≤ p ∧ p ≤ 0xbb ∧ o = 0x48 then some (s.writeTaps (p - 0xb0) v)
  else if 0xb0 ≤ p ∧ p ≤ 0xbb ∧ o = 0x50 then some (s.writeLneTest m (p - 0xb0) v)
  else if off = LNE_COM_CTRL then some (s.writeComCtrl m v)
  else if p = 0xc0 ∧ o < 0xc0 ∧ o % 0x20 = 0 then some (s.putLimited m off 0x7E000000 v).refreshLanes
  else if p = 0xc1 ∧ o % 0x20 = 0 then some (s.writePtpCtrl ((o - 0x40) / 0x20) v)
  else if off = NET_TT_CTRL ∨ off = NET_TT_TIME ∨ off = NET_TT_BASE then some (s.writeTt off v)
  else if off = MLT_GCTRL then
    some ((List.range 64).foldl (fun s c => s.refreshSense c) (s.putLimited m off 0x80000000 v))
  else if off = MLT_DIAG_CMD then some (s.writeDiagCmd m v)
  else if 0x100 ≤ p ∧ o = 0x6c then some (s.writeMltCmd (p - 0x100) v)
  else if 0x100 ≤ p ∧ o = 0x88 then some (s.writeSweep (p - 0x100) v)
  else none

/-- A write to the BLY and TYD pages. -/
def State.putTwin (s : State) (m off : Nat) (v : Reg32) : Option State :=
  let p := off / 0x1000
  let o := off % 0x1000
  if off = BLY_CTRL then
    let s := s.setFld BLY_CTRL_AUTO_RESYNC (bitsNat v.toNat 1 1)
    some (if v.getLsbD 0 ∧ bitsNat v.toNat 31 24 = 0xB1 then s.resign 5 else s)
  else if off = TYD_CTRL then some (s.writeTydCtrl m v)
  else if off = TYD_BUF_BASE then some (s.writeCfgOnly m off 0x7FFFFF v)
  else if p = 0x7b ∧ o % 16 = 0 then some (s.writeCfgOnly m off 0x80000FFF v)
  else if p = 0x7a ∧ 0x800 ≤ o ∧ o % 16 = 0 then some (s.writePbCtrl ((o - 0x800) / 16) v)
  else none

/-- A register without behaviour of its own (R6). -/
def State.putPlain (s : State) (off : Nat) (r : RegRow) (v : Reg32) : State :=
  let rw := BitVec.ofNat 32 r.rw
  let w1c := BitVec.ofNat 32 r.w1c
  s.wr off ((s.rd off &&& ~~~rw &&& ~~~(w1c &&& v)) ||| (v &&& rw))

/-- The write of a register from offset 0x040 on; bits that no writable field holds are dropped (R5). -/
def State.putBody (s : State) (m off : Nat) (r : RegRow) (v : Reg32) : State :=
  let v := v &&& BitVec.ofNat 32 (r.rw ||| r.w1c ||| r.act)
  let p := off / 0x1000
  let t := if p < 0x10 then s.putSystem m off v
    else if 0x30 ≤ p ∧ p < 0x40 then s.putPlumb m off v
    else if 0x70 ≤ p ∧ p < 0x80 then s.putTwin m off v
    else if p < 0x70 then s.putFabric m off v
    else s.putOuter m off v
  t.getD (s.putPlain off r v)

end Sys2Proof.Machine
end

