-- ==== Sys2Proof/Machine/Inject.lean ====
section
/-! DEFINITION. Fault injection (02_register_space.md R33, 18_background_and_spares.md R432, R433): what a 1 written to a
PG_INJ bit does, by the detector tables of the chapters. An effect that waits for a later occurrence is kept in `inj`; the
detector sets the event when it occurs. -/

namespace Sys2Proof.Machine

open Sys2Proof

/-- The injections that wait for a later occurrence (R433). -/
def injWaits (p b : Nat) : Bool :=
  (decide (0x40 ≤ p) && decide (p ≤ 0x50) && (b == 0 || b == 3)) ||
    (p == 0x60 && (b == 0 || b == 1 || b == 3)) || (p == 3 && (b == 1 || b == 2)) ||
    (decide (0xa0 ≤ p) && decide (p < 0xb0) && (b == 3 || b == 4)) ||
    (decide (0xb0 ≤ p) && decide (p ≤ 0xbb) && (b == 1 || b == 2)) ||
    (decide (0x100 ≤ p) && b == 2) || (p == 0xc2 && b == 0) || (p == 0xc4 && b == 0) || (p == 0x70 && b == 2) ||
    (p == 0x78 && (b == 2 || b == 3 || b == 4)) || (p == 0x7a && b == 0)

/-- Injections of the pages of the system and of Truss (R48, R50, R114, R138, R436, R459); none: the event only. -/
def State.injSystem (s : State) (p b : Nat) : Option State :=
  if p = 1 ∧ b = 0 then
    let s := s.bump (whole MTX_ERR_CNT)
    let s := if s.fld MTX_ERR_INFO_VALID = 1 then s
      else (s.wrN MTX_ERR_ADDR 0).wrN MTX_ERR_INFO
        (2 ^ 31 + s.fld MTX_ERR_INFO_OVERFLOW * 2 ^ 30 + 0x3F * 2 ^ 16 + 0xF * 2 ^ 12)
    some (s.evt 1 0)
  else if p = 1 ∧ b = 1 then some ((s.setFld MTX_ERR_INFO_OVERFLOW 1).evt 1 1)
  else if p = 1 ∧ b = 2 then some ((s.bump (whole MTX_RT_OVER)).evt 1 2)
  else if p = 1 ∧ b = 3 then some ((s.bump (whole MTX_INJ_REFUSED)).evt 1 3)
  else if p = 2 ∧ b = 0 then some ((s.supplyFault 1).supplyBack 1)
  else if p = 3 ∧ b = 0 then some ((s.bump (whole SVC_LATE_CNT)).evt 3 0)
  else if p = 6 ∧ b = 1 then some ((s.setFld FUS_STAT_BLOW_FAIL 1).evt 6 1)
  else if p = 0x11 ∧ b = 2 then ((List.range 17).reverse.find? fun l => s.laneWorks l).map fun l => s.laneFault l true
  else if p = 0x11 ∧ b = 4 then some ((s.bump (whole TRS_LAT_OVER)).evt 0x11 4)
  else if p = 0x11 ∧ b = 5 then some ((s.bump (whole TRS_OVERRUN)).evt 0x11 5)
  else if p = 0x11 ∧ b = 8 then some ((s.bump (whole TRS_LATE_OUT)).evt 0x11 8)
  else if p = 0x13 ∧ b = 1 then some ((s.bump (whole TRS_CLIP_CNT)).evt 0x13 1)
  else if p = 0x13 ∧ b = 2 then some s.countForced
  else if p = 0x13 ∧ b = 3 then some ((s.bump (whole TRS_DLY_ERR)).evt 0x13 3)
  else none

/-- Injections of Chisel, the memory and Plumb (R198, R234, R279, R281, R283, R286); none: the event only. -/
def State.injCore (s : State) (p b : Nat) : Option State :=
  if 0x40 ≤ p ∧ p ≤ 0x50 ∧ b = 1 then
    if s.coreRetired (p - 0x40) then none else some (s.coreFault (p - 0x40) 15 true)
  else if 0x40 ≤ p ∧ p ≤ 0x50 ∧ b = 2 then
    some ((s.bump (whole (CHS_SKIP + corePage (p - 0x40)))).evt p 2)
  else if p = 0x60 ∧ b = 2 then
    let s := if s.fld MBX_STAT_COLLIDE = 1 then s else s.wrN MBX_STAT (2 ^ 31 + 0x3F * 2 ^ 16)
    some (s.evt 0x60 2)
  else if p = 0x30 ∧ b = 1 then s.selected.map fun r => s.refLoss r
  else if p = 0x30 ∧ b = 3 then
    if s.synState = 3 then
      some (((s.setFld PLB_SYN_STAT_OUT_OF_SPEC 1).wrN PLB_HOLD_LEFT 0 |>.onPlb fun x => { x with specInj := true }).evt 0x30 3)
    else none
  else if p = 0x31 ∧ b = 0 then ((List.range 10).find? fun r => s.refOn r && s.refGood r).map fun r => s.refLoss r
  else if p = 0x32 ∧ b = 1 then some ((s.setFld PLB_TIME_STAT_STEP_ALARM 1).evt 0x32 1)
  else if p = 0x34 ∧ b = 0 then some ((List.range 16).foldl (fun s k => s.capture k) s)
  else none

/-- The sides of page `p`'s port that satisfy `q`. -/
def portSides (p : Nat) (q : Nat → Bool) : List Nat := [2 * (p - 0x80), 2 * (p - 0x80) + 1].filter q

/-- Injections of the ports, the lanes, the network, Mallet, Timberyard and Belay (R257, R259, R322, R346, R375, R408,
R419); none: the event only. -/
def State.injOuter (s : State) (p b : Nat) : Option State :=
  if 0x80 ≤ p ∧ p < 0xa0 then
    if b = 2 then
      match portSides p fun d => decide (s.clockMode d ≠ 0) with
      | [] => none
      | ds => some ((ds.foldl (fun s d => s.clkLoss d) s).evt p 2)
    else if b = 3 then
      match portSides p s.elastic with
      | [] => none
      | ds => some (ds.foldl (fun s d => s.onSide d fun x => { x with slipInj := true }) s)
    else if b = 4 then some ((s.bump (PRT_ERR_FRAME_ERR.sh (0x1000 * (p - 0x80)))).evt p 4)
    else if b = 5 then some ((s.bump (whole (PRT_CLIP + 0x1000 * (p - 0x80)))).evt p 5)
    else none
  else if 0xa0 ≤ p ∧ p < 0xb0 then
    if b = 5 then some ((s.bump (aesFld ⟨AES_BLOCK_ERR, 15, 0⟩ (p - 0xa0))).evt p 5)
    else if b = 6 then some ((s.bump (aesFld ⟨AES_CLIP, 15, 0⟩ (p - 0xa0))).evt p 6)
    else none
  else if p = 0xc0 ∧ b = 4 then some (s.rxDrop 0)
  else if 0x100 ≤ p then
    if b = 0 ∧ s.chState (s.lead (p - 0x100)) = 3 then some (s.shutDown (p - 0x100) 5)
    else if b = 3 then some (s.fltN (p - 0x100))
    else if b = 5 then some ((s.onChan (p - 0x100) fun k => { k with lossInj := 256 }).loseSense (p - 0x100) true true)
    else none
  else if p = 0x78 ∧ b = 6 then some (s.dropChunk 2)
  else if p = 0x70 ∧ b = 1 then
    let s := s.onBly fun x => { x with pinInj := 200 }
    some (if s.fld BLY_STAT_HB_OK = 0 then s.evt 0x70 1 else s.pathSilent false)
  else if p = 0x70 ∧ b = 8 then some ((s.bump (whole BLY_PATCH_LATE)).evt 0x70 8)
  else if p = 0x72 then some (if s.laneState (8 + b) = 3 then s.laneOut (8 + b) 2 else s.evt 0x72 b)
  else none

/-- The injection of bit `b` of page `p`. -/
def State.injectBit (s : State) (p b : Nat) : State :=
  if injWaits p b then s.addInj p b
  else
    let t := if p < 0x30 then s.injSystem p b else if p < 0x70 then s.injCore p b else s.injOuter p b
    t.getD (s.evt p b)

/-- The bits of PG_INJ of page `p` that the present mode accepts (R23; 16 R408: in STANDBY, PATH_FAULT, DIVERGE and
LANE_DOWN). -/
def State.injAccepted (s : State) (p : Nat) : Nat :=
  if s.cfgMode then 0xFFFFFFFF
  else if s.mode = .standby then (if p = 0x70 then 6 else if p = 0x72 then 0xF else 0)
  else 0

/-- The write of PG_INJ of page `p` (R33): bits that are not accepted are counted once in MTX_INJ_REFUSED, the others
inject. -/
def State.putInj (s : State) (p : Nat) (v : Reg32) : State :=
  let ok := s.injAccepted p
  let s := if v.toNat &&& (0xFFFFFFFF - ok) = 0 then s else (s.bump (whole MTX_INJ_REFUSED)).evt 1 3
  ((List.range 32).filter fun b => (v.toNat &&& ok &&& evtMask p).testBit b).foldl (fun s b => s.injectBit p b) s

/-! ### A register write (R28 to R34) -/

/-- The write of header offset `o` of page `p`. -/
def State.putHeader (s : State) (m p o : Nat) (v : Reg32) : State :=
  if o = PG_CTRL then s.putCtrl m p v
  else if o = PG_EVT then s.wr (0x1000 * p + PG_EVT) (s.rd (0x1000 * p + PG_EVT) &&& ~~~v)
  else if o = PG_EVT_EN then s.putEvtEn p v
  else if o = PG_EVT_ROUTE then s.wr (0x1000 * p + PG_EVT_ROUTE) (v &&& 0x3F)
  else if o = 0x1C then s.putInj p v
  else if o = PG_FENCE_CNT then s.countFence p
  else s

/-- A page whose island is power-gated (R19, R479). -/
def State.pageGated (s : State) (p : Nat) : Bool :=
  match pageIsland p with
  | some i => !s.powered i
  | none => false

/-- The write of a register from offset 0x040 on, of which the staged fields wait for the next sample index (R73, R140). -/
def State.putBodyLive (s : State) (m off : Nat) (r : RegRow) (v : Reg32) : State :=
  let k := BitVec.ofNat 32 (liveMask off)
  if k = 0 then s.putBody m off r v
  else
    let s := if r.rw = liveMask off then s else s.putBody m off r ((v &&& ~~~k) ||| (s.rd off &&& k))
    s.onCrn fun c => { c with live := mins c.live off (v &&& k) }

/-- The live writes of staged registers that waited take effect with the index that begins (R73, R140). -/
def State.takeLive (s : State) : State :=
  s.crn.live.foldl (fun s e =>
    match findReg e.1 with
    | some r =>
      if s.pageGated (e.1 / 0x1000) then s
      else s.putBody 0 e.1 r ((s.rd e.1 &&& ~~~(BitVec.ofNat 32 (liveMask e.1))) ||| e.2)
    | none => s) (s.onCrn fun c => { c with live := [] })

/-- Master `m` writes `v` to the register at offset `off`, a multiple of 4. -/
def State.putReg (s : State) (m off : Nat) (v : Reg32) : State :=
  let p := off / 0x1000
  let o := off % 0x1000
  if (pageId p).isNone then s.errResp m (0x1000000 + off) 0 true 4
  else if s.pageGated p then s.errResp m (0x1000000 + off) 3 true 4
  else if s.softBusy p ∧ o ≠ PG_FENCE_CNT then s
  else if o < 0x40 then s.putHeader m p o v
  else match findReg off with
    | none => s
    | some r => s.putBodyLive m off r v

/-- SOFT_RESET_DONE (R32): the soft reset of a page completes. -/
def execSoftResetDone (page : Fin 4096) (s : State) : Res :=
  .next (if s.softBusy page then s.setFld ⟨0x1000 * page + PG_CTRL, 1, 1⟩ 0 else s)

end Sys2Proof.Machine
end

