-- ==== Sys2Proof/Machine/Misuse.lean ====
section
/-! DEFINITION. Host writes whose result the chapters leave undefined (the Undefined cases of 02 to 16), as far as the write
itself shows them: the machine goes on, and what such a write writes is a free value (log entry 43). -/

namespace Sys2Proof.Machine

open Sys2Proof

/-! ### Registers -/

/-- The pending bit of vector `v` is set. -/
def State.vectorWaits (s : State) (v : Nat) : Bool := (s.rd (MSIX_PBA + 4 * (v / 32))).getLsbD (v % 32)

/-- A write of PG_EVT_ROUTE or the MSI-X table (02, Undefined cases). Unmasking a vector, which R34 describes, is not one. -/
def State.vectorMisuse (s : State) (m off : Nat) (v : Reg32) : Bool :=
  if off % 0x1000 = PG_EVT_ROUTE then
    let old := s.pageVector (off / 0x1000)
    let new := bitsNat v.toNat 5 0
    old != new && (s.vectorWaits old || s.vectorWaits new)
  else if MSIX_TABLE ≤ off ∧ off < MSIX_PBA then
    (m == 1 && s.fld LNE_PCIE_STAT_LINK_UP == 1) ||
      (off % 16 != 12 && s.rd off != v && s.vectorWaits ((off - MSIX_TABLE) / 16))
  else false

/-- A live write that changes a port's format or clock while a side it governs is not OFF (11, Undefined cases). -/
def State.portMisuse (s : State) (off : Nat) (v : Reg32) : Bool :=
  let p := off / 0x1000
  let o := off % 0x1000
  let d := 2 * (p - 0x80)
  if 0x80 ≤ p ∧ p < 0xa0 ∧ s.rd off ≠ v then
    if o = 0x44 then s.sideState d != 0 || s.sideState (d + 1) != 0
    else if o = 0x48 then s.sideState d != 0
    else if o = 0x4c then s.sideState (d + 1) != 0
    else if o = 0xc0 ∧ p % 4 = 0 then (List.range 8).any fun i => s.sideState (d + i) != 0
    else false
  else false

/-- A write of a clock setting while its users run, or an arming of the Tether unit that is not a cycle (12, 13, Undefined
cases). -/
def State.timeMisuse (s : State) (off : Nat) (v : Reg32) : Bool :=
  if off = PLB_CTRL then
    v.getLsbD 0 != (s.rd PLB_CTRL).getLsbD 0 && s.cfgMode && (s.rateBusy || (List.range 64).any fun c => s.chState c != 0)
  else if off / 0x1000 = 0x33 ∧ off % 16 = 0 ∧ off < 0x33140 ∧ v.getLsbD 31 ∧ s.ttEn ∧
      s.ttUnit = off % 0x1000 / 16 - 4 then
    let p := (s.rd (off + 0xc)).toNat * 10 ^ 6
    let lead := bitsNat (s.rd NET_TT_TIME).toNat 31 16 * 2 ^ 32
    !v.getLsbD 28 || decide (p < 250 * 2 ^ 32) || decide (10000 * 2 ^ 32 < p) || decide (p ≤ lead)
  else false

/-- A write of a Mallet setting that the running channels forbid (14, Undefined cases). -/
def State.malletMisuse (s : State) (off : Nat) (v : Reg32) : Bool :=
  let c := off / 0x1000 - 0x100
  let o := off % 0x1000
  if off = MLT_GCTRL then
    s.cfgMode && s.fld MLT_GCTRL_SCLK_EN == 1 && !v.getLsbD 31 && (List.range 64).any fun c => s.chState c != 0
  else if 0x100000 ≤ off ∧ off < 0x140000 then
    if o = 0x40 then v.getLsbD 29 != (s.rd off).getLsbD 29 &&
      (s.chState (c / 2 * 2) != 0 || s.chState (c / 2 * 2 + 1) != 0)
    else if o = 0x88 then (s.chan c).sweep.isSome && (v &&& 0x1FFF0000) != (s.rd off &&& 0x1FFF0000)
    else if o = 0x8c then (s.chan c).sweep.isSome
    else false
  else false

/-- The standby of a pair takes a write of its own host to a page that the active engine forwards (16, Undefined cases);
the fence and the doorbell of its own ring stay local. -/
def State.standbyMisuse (s : State) (m off : Nat) : Bool :=
  decide (m ≤ 1) && s.lockstep && decide (s.mode = .standby) && regForwarded off && off % 0x1000 != PG_FENCE_CNT &&
    off != CRN_DOORBELL

/-- The write of `v` to the register at `off` by master `m` has no stated result. -/
def State.regMisuse (s : State) (m off : Nat) (v : Reg32) : Bool :=
  (pageId (off / 0x1000)).isSome && !s.pageGated (off / 0x1000) && !s.softBusy (off / 0x1000) &&
    (off == TRS_TABLE_SEL || (off == CHS_RESET && s.releasesEarly v) || s.telMisuse off v || s.portMisuse off v ||
      s.malletMisuse off v || s.standbyMisuse m off || s.vectorMisuse m off v || s.timeMisuse off v)

/-! ### Words -/

/-- A write of mailbox word `w` that breaks R144 (07, Undefined cases): a word of Cairn's, a reserved word, CMD_PROD more than
256 ahead, or a command entry that CMD_CONS has not passed. -/
def State.mailboxMisuse (s : State) (w o : Nat) (bs : List Byte) : Bool :=
  let cons := s.mbxIndex 1
  if w = 0 then
    let new := (putWordBytes (s.word (mbxAddr 0)) o bs).toNat % 2 ^ 32
    decide (256 < (2 ^ 32 + new - cons) % 2 ^ 32)
  else if w = 3 ∨ 2064 ≤ w then false
  else if 16 ≤ w ∧ w < 1040 then
    decide (((w - 16) / 4 + 256 - cons % 256) % 256 < (2 ^ 32 + s.mbxIndex 0 - cons) % 2 ^ 32)
  else true

/-- Cairn is between STAGING and CHANGING, or a crossfade reads the other copy. -/
def State.copyBusy (s : State) : Bool := s.crnState != 0 || s.fld TRS_GRAPH_STAT_XFADE == 1

/-- A write to a Truss word that the chapters leave undefined (03, 04, 07, Undefined cases). -/
def State.trussMisuse (s : State) (a : Nat) : Bool :=
  if a < 0x07000000 then (0x00800000 + a) / 0x01800000 - 3 != s.live && s.copyBusy
  else if 0x07A00000 ≤ a then
    let p := a % 0x200000 / 0x20
    if p < 1536 then s.inGraph p else s.inGraph (p - 1536) && s.hasInsert (p - 1536)
  else false

/-- The scene that is staged or armed involves logical core `c`. -/
def State.coreStaged (s : State) (c : Nat) : Bool :=
  (s.crnState == 2 || s.crnState == 3) && match s.crn.plan with
    | some p => p.units.testBit (16 + c)
    | none => false

/-- A write to the memories of physical core `p` that the chapters leave undefined (07, 08, Undefined cases): the bank it
runs, the idle bank or a patch target of a staged scene, X or Y memory during a migration. -/
def State.chiselMisuse (s : State) (p a : Nat) : Bool :=
  let o := a % 0x200000
  let l := s.logicalOf p
  let prog := decide (o < 0x20000)
  let run := match l.bind fun c => mfind s.chs.sel c with
    | some h => some h.bank
    | none => if (s.core p).run = .boot ∨ (s.core p).copying then some 0 else none
  let staged := match l with | some c => s.coreStaged c | none => false
  let target := match s.crn.plan with
    | some k => k.patches.any fun w => some w.core == l && w.addr == o
    | none => false
  (prog && (run == some (o / 0x10000) || staged)) || (!prog && staged && target) ||
    (!prog && s.chs.mig.any fun m => m.2.src == p || m.2.dst == p)

/-- Global bank words that Timberyard's buffer or segment table holds while it is READY (15, Undefined cases). -/
def State.tydArea (s : State) (g : Nat) : Bool :=
  let b := bitsNat (s.rd TYD_BUF_BASE).toNat 22 0
  let t := bitsNat (s.rd TYD_TABLE_BASE).toNat 22 0
  s.tydReady && ((decide (b ≤ g) && decide (g < b + 262144)) ||
    (decide (t ≤ g) && decide (g < t + (s.rd TYD_TABLE_NEED).toNat)))

/-- Words of a station's image that the engine writes (13, Undefined cases). -/
def State.imageWord (s : State) (g : Nat) : Bool :=
  let b := bitsNat s.net.base.toNat 22 0
  let i := (g - b) % 32
  s.net.running && decide (b ≤ g) && decide (g < b + 32 * 64) && ((decide (8 ≤ i) && decide (i < 16)) || i == 25) &&
    cfgEn (s.stCfg ((g - b) / 32))

/-- The current command reads or writes this store word: a STORE, or a STAGE of a stored scene or of this block (07,
Undefined cases). -/
def State.storeBusy (s : State) (g : Nat) : Bool :=
  match s.crn.cur with
  | none => false
  | some c =>
    let (lo, hi) := s.storeBanks
    (c.opcode == 1 || c.opcode == 2) && decide (lo ≤ g / 65536) && decide (g / 65536 < hi)

/-- A write to the bank word at BAR0 bank address `a` that the chapters leave undefined. -/
def State.bankMisuse (s : State) (a : Nat) : Bool :=
  let g := bankOf a * 65536 + a / 16 % 65536
  ((s.enabledStrips s.live).any fun i => match s.delayRegion s.live i with
    | some (b, n) => decide (b ≤ g) && decide (g < b + n)
    | none => false) || s.tydArea g || s.imageWord g || s.storeBusy g

/-- A write of `bs` from byte `o` on to the word slot `a` has no stated result. -/
def State.slotMisuse (s : State) (m a o : Nat) (bs : List Byte) : Bool :=
  let k := slotAt (s.fld SYS_CTRL_REMAP == 1) trussWord a
  masterReaches m a k && match k with
    | .bank x | .setAlias x | .clearAlias x => s.bankMisuse x
    | .truss x => s.trussMisuse x
    | .chisel p x => s.powered (coreIsland p) && s.chiselMisuse p x
    | .mailbox x => s.mailboxMisuse (x % 0x10000 / 16) o bs
    | _ => false

end Sys2Proof.Machine
end

