-- ==== Sys2Proof/Machine/Bus.lean ====
section
/-! DEFINITION. Accesses on the bus (02_register_space.md R24 to R27, R35 to R42): how a write or a read of a master is
performed, slot by slot; live writes of Truss words (R73); writes to Chisel memory between passes (R188); forwarding to a
peer in lockstep and fences (R37, R380, R381). -/

namespace Sys2Proof.Machine

open Sys2Proof

/-! ### Truss words (R70, R73 to R82, R111, R134) -/

/-- Bits of a Truss word that are not reserved. -/
def trussMask (a : Nat) : Nat :=
  if a < 0x07000000 then
    let o := (0x00800000 + a) % 0x01800000
    if o < 0x10000 then 0xE0000000000007FF
    else if o < 0x50000 then
      let k := o % 0x40 / 16
      if k = 0 then 0xFFFFCFFF1FFF0000 else if k = 3 then 0x7FFFFF else 2 ^ 72 - 1
    else if o < 0x100000 then
      (if o % 0x100 < 0x80 then 0xFFFFFFFFFFFFFFFF else 0x8000000000000000)
    else if o < 0x900000 then (if o % 0x20 = 0 then 0xFC0000000FFF0FFF else 2 ^ 72 - 1)
    else 2 ^ 72 - 1
  else if isMeter a then
    let k := a % 0x40 / 16
    if k = 2 then 0x80000000FFFFFFFF else if k = 3 then 0 else 2 ^ 72 - 1
  else if 0x07920000 ≤ a ∧ a < 0x07A00000 then 0xFFFFFFFF
  else if 0x07900000 ≤ a ∧ a < 0x07920000 then 0xFFFFFFFFFFFFFFFF
  else if 0x07A00000 ≤ a ∧ a % 0x20 = 16 then 0x3F
  else 2 ^ 72 - 1

/-- A source stream's count word lies at `a`, where ABSENT is kept relative to the deadlines passed (R62, R111). -/
def isAbsent (a : Nat) : Bool := decide (0x07900000 ≤ a) && decide (a < 0x07906000)

/-- A Truss word as it stands, with ABSENT counted up. -/
def State.trussNow (s : State) (a : Nat) (w : Word) : Word :=
  if isAbsent a then
    BitVec.ofNat 72 (w.toNat / 2 ^ 32 * 2 ^ 32 + (w.toNat + s.trs.absBase.toNat) % 2 ^ 32)
  else w

/-- The word to keep where `w` is written. -/
def State.trussKeep (s : State) (a : Nat) (w : Word) : Word :=
  if isAbsent a then
    BitVec.ofNat 72 (w.toNat / 2 ^ 32 * 2 ^ 32 + (2 ^ 32 + w.toNat - s.trs.absBase.toNat) % 2 ^ 32)
  else w

/-- A read of the Truss word at `a`: none where its check fails beyond repair. A frozen page 0x013 holds the meters (R135). -/
def State.trussRead (s : State) (a : Nat) : Option Word :=
  match if isMeter a then s.frozenPage 0x13 else none with
  | some f => some (BitVec.ofNat 72 (slotNat f.meters a))
  | none =>
    if isMeter a ∧ a % 0x40 = 0x30 then some (BitVec.ofNat 72 (s.duckWord (a % 0x100000 / 0x40)))
    else (s.codedWord a).map fun w => s.trussNow a w &&& BitVec.ofNat 72 (trussMask a)

/-- The live copy holds the word at `a`. -/
def State.inLive (s : State) (a : Nat) : Bool :=
  decide (a < 0x07000000) && decide ((0x00800000 + a) / 0x01800000 - 3 = s.live)

/-- The same word of the other copy. -/
def otherCopy (a : Nat) : Nat := if a < 0x05800000 then 0x01800000 + a else 0x04000000 + (0x00800000 + a) % 0x01800000

/-- Word 0 of a strip descriptor lies at `a`. -/
def isWord0 (a : Nat) : Bool :=
  let o := (0x00800000 + a) % 0x01800000
  decide (0x10000 ≤ o) && decide (o < 0x48000) && o % 0x40 == 0

/-- The open indices go on with word `w` at `a` (R73). -/
def State.holdWord (s : State) (a : Nat) (w : Word) : State :=
  s.onTrs fun u => { u with ticks := u.ticks.map fun t =>
    if (mfind t.held a).isSome then t else { t with held := mins t.held a w } }

/-- A live write at `a` comes into force at the next index (R73). -/
def State.liveWrote (s : State) (a : Nat) : State := s.onTrs fun u => { u with wrote := u.wrote ++ [a] }

/-- A write of bytes to the Truss word at `a` (R73, R125: one that changes MUTE counts as a write of the fader): a live word takes effect at the next sample index, and while a scene is
staged or armed it also goes to the other copy, unless a record set that word (R153). -/
def State.trussWrite (s : State) (m a o : Nat) (bs : List Byte) (size : Nat) : Bool × State :=
  if isMeter a ∧ a % 0x40 = 0x30 then (true, s) else
  let old := s.word a
  let new : Option Word := if fullSlot o bs then some (slotPattern o bs)
    else (s.codedWord a).map fun w => putWordBytes (s.trussNow a w) o bs
  match new with
  | none => (false, (s.errResp m (a + o) 4 true size).trussUe a)
  | some w =>
    let w := s.trussKeep a (w &&& BitVec.ofNat 72 (trussMask a))
    let live := s.inLive a
    let s := s.setWord a w
    if ¬ live then (true, s)
    else
      let s := (s.holdWord a old).liveWrote a
      let s := if isWord0 a ∧ dMute old ≠ dMute w then s.liveWrote (a + 0x20) else s
      let also := match s.crn.plan with
        | some p => !p.set.contains (otherCopy a)
        | none => false
      (true, if also then s.setWord (otherCopy a) w else s)

/-! ### Slots -/

/-- A write of bytes to the memory of physical core `p` (R27, R188): in ACTIVE and STANDBY it waits for the boundary between
two passes. -/
def State.chiselWrite (s : State) (m p a o : Nat) (bs : List Byte) (size : Nat) : Bool × State :=
  if ¬ s.powered (coreIsland p) then (false, s.errResp m (a + o) 3 true size)
  else if s.runMode then
    let n := if s.lockstep then s.idx else ((s.logicalOf p).bind fun c => mfind s.chs.next c).getD s.idx
    (true, s.onChs fun k => { k with deferred := k.deferred ++ [⟨m, p, a + o, bs, n⟩] })
  else s.codedWriteBytes m a o bs size

/-- A write of bytes from byte `o` on to the slot at `a` by master `m`: whether it was performed. A write to the boot ROM
and to an unused Truss word changes nothing. -/
def State.putSlot (s : State) (m a o : Nat) (bs : List Byte) (size : Nat) : Bool × State :=
  let k := slotAt (s.fld SYS_CTRL_REMAP == 1) trussWord a
  if ¬ masterReaches m a k then (false, s.errResp m (a + o) 0 true size)
  else match k with
    | .rom _ => (true, s)
    | .unused => (true, s)
    | .bank x =>
      if s.bankState (bankOf x) ≠ 2 then (false, s.errResp m (a + o) 2 true size)
      else if fullSlot o bs then (true, s.setWord x (slotPattern o bs))
      else match s.checkedRead m x with
        | (none, s) => (false, s.errResp m (a + o) 4 true size)
        | (some w, s) => (true, s.setWord x (putWordBytes w o bs))
    | .setAlias x => s.aliasWriteBytes m x o bs true size
    | .clearAlias x => s.aliasWriteBytes m x o bs false size
    | .truss x => s.trussWrite m x o bs size
    | .chisel p x => s.chiselWrite m p x o bs size
    | .mailbox x => s.mailboxWriteBytes m x o bs size
    | .nothing => (false, s.errResp m (a + o) 0 true size)

/-- A read of the word in the slot at `a` by master `m`, from byte `o` on: none with the error response. -/
def State.getSlot (s : State) (m a o size : Nat) : Option Word × State :=
  let k := slotAt (s.fld SYS_CTRL_REMAP == 1) trussWord a
  let bank (x : Nat) : Option Word × State :=
    if s.bankState (bankOf x) ≠ 2 then (none, s.errResp m (a + o) 2 false size)
    else match s.checkedRead m x with
      | (none, s) => (none, s.errResp m (a + o) 4 false size)
      | r => r
  let coded (r : Option Word) : Option Word × State :=
    match r with
    | some w => (some w, s)
    | none => (none, s.errResp m (a + o) 4 false size)
  if ¬ masterReaches m a k then (none, s.errResp m (a + o) 0 false size)
  else match k with
    | .rom w => (some (Config.bootRom w), s)
    | .unused => (some 0, s)
    | .bank x | .setAlias x | .clearAlias x => bank x
    | .truss x => match s.trussRead x with
      | some w => (some w, s)
      | none => (none, (s.errResp m (a + o) 4 false size).trussUe x)
    | .chisel p x =>
      if ¬ s.powered (coreIsland p) then (none, s.errResp m (a + o) 3 false size) else coded (s.codedWord x)
    | .mailbox x => match s.checkedRead m x with
      | (none, s) => (none, s.errResp m (a + o) 4 false size)
      | r => r
    | .nothing => (none, s.errResp m (a + o) 0 false size)

/-- Write `data` slot by slot, rising; the slot that fails ends the access (R42). The first number bounds the slots. -/
def State.putSlots (m size : Nat) : Nat → Nat → List Byte → State → State
  | 0, _, _, s => s
  | n + 1, addr, data, s =>
    if data = [] then s
    else
      let o := addr % 16
      match s.putSlot m (addr - o) o (data.take (16 - o)) size with
      | (false, s) => s
      | (true, s) => State.putSlots m size n (addr - o + 16) (data.drop (16 - o)) s

/-- Read `len` bytes slot by slot. -/
def State.getSlots (m size : Nat) : Nat → Nat → Nat → State → Option (List Byte) × State
  | 0, _, _, s => (some [], s)
  | n + 1, addr, len, s =>
    if len = 0 then (some [], s)
    else
      let o := addr % 16
      match s.getSlot m (addr - o) o size with
      | (none, s) => (none, s)
      | (some w, s) =>
        let part := ((leBytes 9 w.toNat ++ List.replicate 7 0).drop o).take len
        match State.getSlots m size n (addr - o + 16) (len - part.length) s with
        | (none, s) => (none, s)
        | (some r, s) => (some (part ++ r), s)

/-! ### Accesses (R25) -/

/-- An access of `n` bytes at `addr` has a size and alignment that a word slot takes. -/
def slotShape (addr n : Nat) : Bool :=
  ((n == 1 || n == 2 || n == 4 || n == 8 || n == 16) && addr % n == 0) ||
    (addr % 16 == 0 && n % 16 == 0 && decide (0 < n) && decide (n ≤ 256))

/-- The address lies in the register range. -/
def isReg (addr : Nat) : Bool := decide (0x01000000 ≤ addr) && decide (addr < 0x02000000)

/-- An access of `n` bytes to a register of a decoded page has a size that R25 accepts. -/
def regShape (addr n : Nat) : Bool :=
  (n == 4 && addr % 4 == 0) ||
    (n == 8 && addr % 8 == 0 && decide (0x01000800 ≤ addr) && decide (addr < 0x01000C00))

/-- Nothing is decoded at the slot address `a`. -/
def State.nowhere (s : State) (a : Nat) : Bool :=
  decide (slotAt (s.fld SYS_CTRL_REMAP == 1) trussWord a = .nothing)

/-- Master `m` writes `data` at `addr`, performed now. -/
def State.putAccess (s : State) (m addr : Nat) (data : List Byte) : State :=
  let n := data.length
  if isReg addr then
    let off := addr % 0x1000000
    if (pageId (off / 0x1000)).isNone then s.errResp m addr 0 true n
    else if ¬ regShape addr n then s.errResp m addr 1 true n
    else
      let s := s.putReg m off (BitVec.ofNat 32 (leNat (data.take 4)))
      if n = 8 then s.putReg m (off + 4) (BitVec.ofNat 32 (leNat (data.drop 4))) else s
  else if s.nowhere (addr / 16 * 16) then s.errResp m addr 0 true n
  else if ¬ slotShape addr n then s.errResp m addr 1 true n
  else State.putSlots m n 16 addr data s

/-- Master `m` reads the register at offset `off`, a multiple of 4: none with the error response. -/
def State.getReg (s : State) (m off : Nat) : Option Reg32 × State :=
  if (pageId (off / 0x1000)).isNone then (none, s.errResp m (0x01000000 + off) 0 false 4)
  else if s.pageGated (off / 0x1000) then (none, s.errResp m (0x01000000 + off) 3 false 4)
  else
    let (v, s) := s.readReg off
    (some v, s)

/-- Master `m` reads `n` bytes at `addr`: none with the error response. -/
def State.getAccess (s : State) (m addr n : Nat) : Option (List Byte) × State :=
  if isReg addr then
    let off := addr % 0x1000000
    if (pageId (off / 0x1000)).isNone then (none, s.errResp m addr 0 false n)
    else if ¬ regShape addr n then (none, s.errResp m addr 1 false n)
    else match s.getReg m off with
      | (none, s) => (none, s)
      | (some v, s) =>
        if n = 8 then
          match s.getReg m (off + 4) with
          | (none, s) => (none, s)
          | (some w, s) => (some (leBytes 4 v.toNat ++ leBytes 4 w.toNat), s)
        else (some (leBytes 4 v.toNat), s)
  else if s.nowhere (addr / 16 * 16) then (none, s.errResp m addr 0 false n)
  else if ¬ slotShape addr n then (none, s.errResp m addr 1 false n)
  else State.getSlots m n 16 addr n s

/-! ### Accesses that wait: forwarding, fences and reads (R35 to R37, R380, R381) -/

/-- The master of an access that waits. -/
def Forwarded.master : Forwarded → Nat
  | .reg m _ _ => m
  | .bytes m _ _ => m
  | .readReg m _ => m
  | .readSpi .. => 1

/-- The waiting access is a write. -/
def Forwarded.isWrite : Forwarded → Bool
  | .reg .. | .bytes .. => true
  | .readReg .. | .readSpi .. => false

/-- The ordering target of an address (R35). -/
def targetOf (addr : Nat) : Nat :=
  if isReg addr then addr / 0x1000
  else if 0x3C000000 ≤ addr then 0x3C000000
  else if 0x04000000 ≤ addr ∧ addr < 0x08000000 then 0x04000000
  else if 0x08000000 ≤ addr ∧ addr < 0x10000000 then 0x08000000 + addr / 0x200000
  else if 0x10000000 ≤ addr then 0x10000000 + addr % 0x10000000 / 0x100000
  else if addr < 0x100000 then 0x10000000
  else addr / 0x100000

/-- The ordering targets of an access of `n` bytes at `addr`: two where a run of slots leaves a bank. -/
def targetsOf (addr n : Nat) : List Nat := [targetOf addr, targetOf (addr + n - 1)]

/-- The ordering targets of a waiting access. -/
def Forwarded.targets : Forwarded → List Nat
  | .reg _ off _ => targetsOf (0x01000000 + off) 4
  | .bytes _ addr data => targetsOf addr data.length
  | .readReg _ off => targetsOf (0x01000000 + off) 4
  | .readSpi addr n _ => targetsOf addr n

/-- A waiting access is a fence (R37). -/
def Forwarded.isFence : Forwarded → Bool
  | .reg _ off _ => off % 0x1000 == PG_FENCE_CNT
  | _ => false

/-- What a master's write is. -/
def asForwarded (m addr : Nat) (data : List Byte) : Forwarded :=
  if isReg addr ∧ data.length = 4 ∧ addr % 4 = 0 then .reg m (addr % 0x1000000) (BitVec.ofNat 32 (leNat data))
  else .bytes m addr data

/-- A write that R380 forwards. -/
def fwdAddr (addr : Nat) : Bool :=
  if isReg addr then regForwarded (addr % 0x1000000) && addr != 0x01000000 + CRN_DOORBELL
  else decide (addr < 0x3C000000)

/-- A WRITE of the management SPI is not yet performed (R44). -/
def State.mspiBusy (s : State) : Bool :=
  (s.fwd.any fun f => f.2.master == 1 && f.2.isWrite) || s.chs.deferred.any fun d => d.m == 1

/-- The status byte of the management SPI (R44). -/
def State.mspiStatus (s : State) : Byte :=
  BitVec.ofNat 8 ((if s.irqAsserted then 8 else 0) + (if s.sys.mspiFrameErr then 4 else 0) + (if s.mspiBusy then 2 else 0) +
    if s.sys.mspiWriteErr then 1 else 0)

/-- The status byte has been sent in full. -/
def State.statusSent (s : State) : State :=
  { s with sys := { s.sys with mspiFrameErr := false, mspiWriteErr := false } }

/-- Master `m` reads the 4 bytes at register offset `off` now (R25, R28, R42). -/
def State.readNow (s : State) (m off : Nat) : State :=
  if (pageId (off / 0x1000)).isSome ∧ off % 4 ≠ 0 then s.errResp m (0x01000000 + off) 1 false 4
  else match s.getReg m off with
    | (some v, s) => s.emit (.regData m off v)
    | (none, s) => s

/-- The management SPI is answered a READ of `n` bytes now (R44); `full`: its status byte is sent. -/
def State.spiNow (s : State) (addr n : Nat) (full : Bool) : State :=
  match s.getAccess 1 addr n with
  | (none, s) => s.emit (.miso [0xE1])
  | (some bytes, s) =>
    if full then (s.emit (.miso (0xA5 :: bytes ++ [s.mspiStatus]))).statusSent else s.emit (.miso (0xA5 :: bytes))

/-- Perform an access whose turn has come. -/
def State.performFwd (s : State) : Forwarded → State
  | .reg m off v => s.noteWrite (s.putReg m off v) m
  | .bytes m addr data => s.noteWrite (s.putAccess m addr data) m
  | .readReg m off => s.readNow m off
  | .readSpi addr n full => s.spiNow addr n full

/-- The turn of access `f` has come, with `before` the earlier ones that still wait: none behind a write of its master to its
target; a write not before its tick, nor behind a fence of its master; a fence behind no write of its master (R36, R37). -/
def State.inTurn (s : State) (before : List (Nat × Forwarded)) (f : Nat × Forwarded) : Bool :=
  let mine := before.filter fun g => g.2.master == f.2.master && g.2.isWrite
  let late := s.chs.deferred.filter fun d => d.m == f.2.master
  let meets (ts : List Nat) : Bool := ts.any f.2.targets.contains
  if f.2.isFence then mine.isEmpty && late.isEmpty
  else if f.2.isWrite then idxLe f.1 s.idx && !(mine.any fun g => g.2.isFence || meets g.2.targets)
  else !(mine.any fun g => meets g.2.targets) && !(late.any fun d => meets (targetsOf d.addr d.data.length))

/-- Perform, oldest first, the accesses whose turn has come; `kept` are earlier ones that still wait. A reset ends them all. -/
def State.drainFrom : List (Nat × Forwarded) → List (Nat × Forwarded) → State → State
  | _, [], s => s
  | kept, f :: r, s =>
    if s.mode = .reset then s
    else if s.inTurn kept f then State.drainFrom kept r (({ s with fwd := kept ++ r }).performFwd f.2)
    else State.drainFrom (kept ++ [f]) r s

/-- Perform every waiting access whose turn has come: forwarded writes at the start of their tick, in order (R381). -/
def State.drain (s : State) : State := State.drainFrom [] s.fwd s

/-- Perform access `f` where its turn has come; else it waits. -/
def State.turn (s : State) (f : Forwarded) : State :=
  if s.inTurn s.fwd (s.idx, f) then s.performFwd f else { s with fwd := s.fwd ++ [(s.idx, f)] }

/-- Master `m` writes `data` at `addr`: an active engine that forwards performs it at the tick of its tag. -/
def State.writeAccess (s : State) (m addr : Nat) (data : List Byte) : State :=
  let f := asForwarded m addr data
  if s.forwards ∧ m ≤ 1 ∧ fwdAddr addr ∧ ¬ f.isFence then
    let (t, s) := s.newTag
    ({ s with fwd := s.fwd ++ [(t, f)] }).sendBelay 2 t
      (beBytes 1 m ++ beBytes 1 0 ++ beBytes 2 data.length ++ beBytes 4 addr ++ data)
  else s.turn f

/-! ### Writes of the host -/

/-- `n` bytes of free value. -/
def State.freeBytes (s : State) (n : Nat) : List Byte × State :=
  let (x, s) := s.free (8 * n)
  (leBytes n x.toNat, s)

/-- What a write to registers writes: a half whose result a chapter leaves undefined is free. -/
def State.settleRegs (s : State) (m off : Nat) (data : List Byte) : List Byte × State :=
  let half (s : State) (off : Nat) (d : List Byte) : List Byte × State :=
    if s.regMisuse m off (BitVec.ofNat 32 (leNat d)) then s.freeBytes d.length else (d, s)
  let (a, s) := half s off (data.take 4)
  if data.length = 8 then
    let (b, s) := half s (off + 4) (data.drop 4)
    (a ++ b, s)
  else (a, s)

/-- What a write to word slots writes: the bytes of a slot whose result a chapter leaves undefined are free. -/
def State.settleSlots (m : Nat) : Nat → Nat → List Byte → State → List Byte × State
  | 0, _, _, s => ([], s)
  | n + 1, addr, data, s =>
    let o := addr % 16
    let part := data.take (16 - o)
    let (p, s) := if s.slotMisuse m (addr - o) o part then s.freeBytes part.length else (part, s)
    let (r, s) := State.settleSlots m n (addr - o + 16) (data.drop (16 - o)) s
    (p ++ r, s)

/-- The write is one whose result a chapter leaves undefined; only an access that R25 accepts is one. -/
def State.misuse (s : State) (m addr : Nat) (data : List Byte) : Bool :=
  if isReg addr then
    let off := addr % 0x1000000
    regShape addr data.length && (s.regMisuse m off (BitVec.ofNat 32 (leNat (data.take 4))) ||
      (data.length == 8 && s.regMisuse m (off + 4) (BitVec.ofNat 32 (leNat (data.drop 4)))))
  else slotShape addr data.length &&
    ((decide (m ≤ 1) && s.lockstep && decide (s.mode = .standby) && fwdAddr addr) ||
      (List.range ((data.length + 15) / 16)).any fun i =>
        s.slotMisuse m ((addr + 16 * i) / 16 * 16) ((addr + 16 * i) % 16) ((data.drop (16 * i)).take 16))

/-- The data of a write as it is performed: the machine goes on through a misuse, and what it writes is free (log entry 43). -/
def State.asPerformed (s : State) (m addr : Nat) (data : List Byte) : List Byte × State :=
  if ¬ s.misuse m addr data then (data, s)
  else if isReg addr then s.settleRegs m (addr % 0x1000000) data
  else if decide (m ≤ 1) && s.lockstep && decide (s.mode = .standby) && fwdAddr addr then s.freeBytes data.length
  else State.settleSlots m ((data.length + 15) / 16) addr data s

/-- The masters that write by commands: the host, the management SPI and the masters of R40. In RESET nothing answers (log
entry 41). -/
def State.hostBytes (s : State) (m addr : Nat) (data : List Byte) : State :=
  if s.mode = .reset then s
  else
    let (d, s) := s.asPerformed m addr data
    s.writeAccess m addr d

/-- A write of the register at offset `off`. -/
def State.hostWrite (s : State) (m off : Nat) (v : Reg32) : Res := .next (s.hostBytes m (0x01000000 + off) (leBytes 4 v.toNat))

/-- A read by master `m` of the register at offset `off`, in its turn (R36). -/
def State.hostRead (s : State) (m off : Nat) : State :=
  if s.mode = .reset then s
  else if s.inTurn s.fwd (s.idx, .readReg m off) then s.readNow m off
  else { s with fwd := s.fwd ++ [(s.idx, .readReg m off)] }

end Sys2Proof.Machine
end

