-- ==== Sys2Proof/Machine/HostRows.lean ====
section
/-! DEFINITION. The commands that are accesses: writes and reads of the host and of the other masters (02_register_space.md,
10_memory_and_mailbox.md R232), the management SPI (R43, R44), the rows that name the write of one register, and a write
forwarded by the peer (16_belay_twin.md R381). What a register write does is in `State.putReg`. -/

namespace Sys2Proof.Machine

open Sys2Proof

/-! ### Registers and words -/

/-- REG_WRITE (R6, R25): master `m` writes `v` to the 4 bytes at offset `off`. -/
def execRegWrite (m : Nat) (off : BitVec 24) (v : Reg32) (s : State) : Res := s.hostWrite m off.toNat v

/-- RC_READ (R6): the value is returned, and an RC register clears. -/
def execRcRead (m : Nat) (off : BitVec 24) (s : State) : Res := .next (s.hostRead m off.toNat)

/-- A write of master `m` on port A that meets one of port B to mailbox word `w` in the same cycle is dropped (R232). -/
def State.collide (s : State) (m w : Nat) : State :=
  let s := if s.fld MBX_STAT_COLLIDE = 1 then s
    else ((s.setFld MBX_STAT_COLLIDE 1).setFld MBX_STAT_MASTER m).setFld MBX_STAT_WORD w
  (s.bump (whole (MEM_CONFLICT + 4 * m))).evt 0x60 2

/-- The write of `data` at `addr` covers mailbox slot number `i` of its slots, and master `m` reaches it. -/
def slotInMailbox (m addr : Nat) (data : List Byte) (i : Nat) : Bool :=
  let a := addr / 16 * 16 + 16 * i
  slotShape addr data.length && decide (i < (data.length + 15) / 16) && decide (0x3C000000 ≤ a) && decide (a < 0x3C010000) &&
    decide (m ≤ 2)

/-- A write of word slots by master `m`; `collide`: Cairn writes the mailbox word of that slot of the write, counted from 0, in
the same cycle (R232). -/
def State.wordWrite (s : State) (m addr : Nat) (data : List Byte) (collide : Option Nat) : State :=
  match collide with
  | none => s.hostBytes m addr data
  | some i =>
    if s.mode = .reset ∨ ¬ slotInMailbox m addr data i ∨ ¬ s.inTurn s.fwd (s.idx, asForwarded m addr data) then
      s.hostBytes m addr data
    else
      let s := if i = 0 then s else s.hostBytes m addr (data.take (16 * i))
      let s := s.collide m ((addr + 16 * i) % 0x10000 / 16)
      let rest := data.drop (16 * (i + 1))
      if rest = [] then s else s.hostBytes m (addr + 16 * (i + 1)) rest

/-- WORD_WRITE (R7, R25, R231): master `m` writes `data` at `addr` after a wait of `wait` matrix cycles (R41). -/
def execWordWrite (m : Nat) (addr : Nat) (data : List Byte) (collide : Option Nat) (wait : Nat) (s : State) : Res :=
  .next ((if s.mode = .reset then s else s.waited m addr wait).wordWrite m addr data collide)

/-- TRUSS_LIVE_WRITE (R73): a write to words of the Truss tables. -/
def execTrussLiveWrite (m : Nat) (addr : Nat) (data : List Byte) (s : State) : Res := .next (s.hostBytes m addr data)

/-- ALIAS_SET_WRITE (R39): a write to the set alias. -/
def execAliasSetWrite (m : Nat) (addr : Nat) (data : List Byte) (s : State) : Res := .next (s.hostBytes m addr data)

/-- ALIAS_CLEAR_WRITE (R39): a write to the clear alias. -/
def execAliasClearWrite (m : Nat) (addr : Nat) (data : List Byte) (s : State) : Res := .next (s.hostBytes m addr data)

/-! ### The management SPI (R43, R44) -/

/-- A frame is discarded. -/
def State.frameErr (s : State) : State := { s with sys := { s.sys with mspiFrameErr := true } }

/-- The address of a frame, most significant byte first. -/
def mspiAddr (a b c d : Byte) : Nat := ((a.toNat * 256 + b.toNat) * 256 + c.toNat) * 256 + d.toNat

/-- Opcodes of R43. -/
def mspiOpcode (b : Byte) : Bool := b == 0x02 || b == 0x0B || b == 0x05

/-- MSPI_WRITE (R43, R44): a frame of the bytes `data`, the opcode first, and of `extraBits` bits more, that holds a WRITE or
an unknown opcode; `collide` as in WORD_WRITE. A WRITE without its 4 address bytes, with no data byte or with more than 256 is
discarded as well, as no frame of R43 (DESIGN CHOICE, log entry 44). -/
def execMspiWrite (data : List Byte) (extraBits : Nat) (collide : Option Nat) (s : State) : Res :=
  .next (if s.mode = .reset then s
  else match data with
    | [] => s
    | op :: frame =>
      if ¬ mspiOpcode op then s.frameErr
      else if op ≠ 0x02 then s
      else match frame with
        | a :: b :: c :: d :: body =>
          if extraBits % 8 ≠ 0 ∨ body.length % 4 ≠ 0 ∨ body = [] ∨ 256 < body.length ∨ s.mspiBusy then s.frameErr
          else s.wordWrite 1 (mspiAddr a b c d) body collide
        | _ => s.frameErr)

/-- MSPI_READ (R43, R44): a READ frame, and how far it got. A read behind a WRITE to the same target that is not yet performed
is answered after it (R36). -/
def execMspiRead (data : List Byte) (phase : ReadPhase) (s : State) : Res :=
  .next (if s.mode = .reset ∨ phase = .beforeToken then s
  else match data with
    | op :: a :: b :: c :: d :: n :: _ =>
      if op ≠ 0x0B then s
      else if 63 < n.toNat then s.frameErr.emit (.miso [0xE1])
      else s.turn (.readSpi (mspiAddr a b c d) (4 * (n.toNat + 1)) (decide (phase = .full)))
    | _ => s)

/-- MSPI_STATUS (R44). -/
def execMspiStatus (full : Bool) (s : State) : Res :=
  .next (if s.mode = .reset ∨ ¬ full then s else (s.emit (.miso [s.mspiStatus])).statusSent)

/-! ### A forwarded write (R381) -/

/-- WRITE_FRAME (R381): the write waits for its tag; where the tag's tick has begun it is performed at once. -/
def execWriteFrame (m : Nat) (addr : Nat) (data : List Byte) (tag : Idx) (s : State) : Res :=
  let s := s.gotFrame
  .next (if ¬ (s.resyncing ∨ (s.lockstep ∧ s.mode = .standby)) then s
  else ({ s with fwd := s.fwd ++ [(tag.toNat, asForwarded m addr data)] }).drain)

/-! ### Enables of port sides (R247) -/

/-- The register that holds the enable of side `d`, with that enable set to `on`. -/
def State.enableWrite (s : State) (d : Nat) (on : Bool) : Res :=
  let f := sideEnable d
  s.hostWrite 0 f.off (putBits (s.written f.off (s.rd f.off)) f.hi f.lo (if on then 1 else 0))

/-- PORT_SIDE_ENABLE (R247): the host sets the enable of a side. -/
def execPortSideEnable (side : Fin 96) (s : State) : Res := s.enableWrite side true

/-- PORT_SIDE_DISABLE (R247): the host clears the enable of a side. -/
def execPortSideDisable (side : Fin 96) (s : State) : Res := s.enableWrite side false

/-! ### Rows that name the write of one register -/

/-- PG_FENCE (R37): a write of the fence of a page. -/
def execPgFence (m : Nat) (page : Fin 4096) (v : Reg32) (s : State) : Res := s.hostWrite m (0x1000 * page + PG_FENCE_CNT) v

/-- MEM_BANK_STATE (10 R225): a write of MEM_BANK_STATE[i]. -/
def execMemBankState (m : Nat) (i : Fin 8) (v : Reg32) (s : State) : Res := s.hostWrite m (MEM_BANK_STATE + 4 * i) v

/-- CRN_STORE_CTRL (07 R142): a write of CRN_STORE_CTRL. -/
def execCrnStoreCtrl (m : Nat) (v : Reg32) (s : State) : Res := s.hostWrite m CRN_STORE_CTRL v

/-- CRN_DOORBELL (07 R146): a write of CRN_DOORBELL. -/
def execCrnDoorbell (m : Nat) (v : Reg32) (s : State) : Res := s.hostWrite m CRN_DOORBELL v

/-- CHECK_START (04 R70): a write of TRS_CHECK_CTRL. -/
def execCheckStart (m : Nat) (v : Reg32) (s : State) : Res := s.hostWrite m TRS_CHECK_CTRL v

/-- CHS_DOORBELL (08 R189): a write of CHS_DOORBELL of physical core `p`. -/
def execChsDoorbell (m : Nat) (p : Fin 17) (v : Reg32) (s : State) : Res := s.hostWrite m (CHS_DOORBELL + 0x1000 * p) v

/-- CHS_RESET (08 R193): a write of CHS_RESET. -/
def execChsReset (m : Nat) (v : Reg32) (s : State) : Res := s.hostWrite m CHS_RESET v

/-- TICK_LATCH_READ (12 R273): master `m` reads PLB_TICK_IDX_LO. -/
def execTickLatchRead (m : Nat) (s : State) : Res := .next (s.hostRead m PLB_TICK_IDX_LO)

/-- TIME_READ (12 R273): master `m` reads PLB_TIME_LO, `cycles` cycles of the time clock after its last advance. -/
def execTimeRead (m : Nat) (cycles : Nat) (s : State) : Res :=
  .next (if s.mode = .reset then s else (s.advance cycles).hostRead m PLB_TIME_LO)

/-- PG_INJ (R33): a write of PG_INJ of a page. -/
def execPgInj (m : Nat) (page : Fin 4096) (v : Reg32) (s : State) : Res := s.hostWrite m (0x1000 * page + 0x1C) v

/-- SOFT_RESET (R32): a write of PG_CTRL of a page. -/
def execSoftReset (m : Nat) (page : Fin 4096) (v : Reg32) (s : State) : Res := s.hostWrite m (0x1000 * page + PG_CTRL) v

/-- WARM_RESET (R443): a write of SYS_CTRL, the key in `v`. -/
def execWarmReset (m : Nat) (v : Reg32) (s : State) : Res := s.hostWrite m SYS_CTRL v

/-- REMAP (R26): a write of SYS_CTRL. -/
def execRemap (m : Nat) (v : Reg32) (s : State) : Res := s.hostWrite m SYS_CTRL v

/-- BLOW (R50): a write of FUS_CTRL, the key in `v`. -/
def execBlow (m : Nat) (v : Reg32) (s : State) : Res := s.hostWrite m FUS_CTRL v

/-- SENSE (R49): a write of FUS_CTRL. -/
def execSense (m : Nat) (v : Reg32) (s : State) : Res := s.hostWrite m FUS_CTRL v

/-- CS_LOAD (R255): a write of AES_TX_UPD of transmitter `i` that sets CS_LOAD. -/
def execCsLoad (m : Nat) (i : Fin 16) (s : State) : Res := s.hostWrite m (AES_TX_UPD + 0x1000 * i) 1

/-- US_LOAD (R255): a write of AES_TX_UPD of transmitter `i` that sets US_LOAD. -/
def execUsLoad (m : Nat) (i : Fin 16) (s : State) : Res := s.hostWrite m (AES_TX_UPD + 0x1000 * i) 2

/-- LOOP_OPEN (R269): a write of PLB_LOOP_CTRL. -/
def execLoopOpen (m : Nat) (v : Reg32) (s : State) : Res := s.hostWrite m PLB_LOOP_CTRL v

/-- PLB_SYN_FREQ (R269): a write of PLB_SYN_FREQ. -/
def execPlbSynFreq (m : Nat) (v : Reg32) (s : State) : Res := s.hostWrite m PLB_SYN_FREQ v

/-- RATE (R270): a write of PLB_CTRL. -/
def execRate (m : Nat) (v : Reg32) (s : State) : Res := s.hostWrite m PLB_CTRL v

/-- HOST_SET (R272): a write of PLB_TIME_CTRL. -/
def execHostSet (m : Nat) (v : Reg32) (s : State) : Res := s.hostWrite m PLB_TIME_CTRL v

/-- REARM (R272): a write of PLB_TIME_CTRL. -/
def execRearm (m : Nat) (v : Reg32) (s : State) : Res := s.hostWrite m PLB_TIME_CTRL v

/-- ARM (R274): a write of PLB_CMP_CTRL of unit `k`. -/
def execArm (m : Nat) (k : Fin 16) (v : Reg32) (s : State) : Res := s.hostWrite m (PLB_CMP_CTRL + 0x10 * k) v

/-- STOP (R275): a write of PLB_CMP_CTRL of unit `k`. -/
def execStop (m : Nat) (k : Fin 16) (v : Reg32) (s : State) : Res := s.hostWrite m (PLB_CMP_CTRL + 0x10 * k) v

/-- CLEAR (R336): a write of MLT_CMD of channel `c`. -/
def execClear (m : Nat) (c : Fin 64) (v : Reg32) (s : State) : Res := s.hostWrite m (MLT_CMD + 0x1000 * c) v

/-- DIAG_CMD_START (R333): a write of MLT_DIAG_CMD. -/
def execDiagCmdStart (m : Nat) (v : Reg32) (s : State) : Res := s.hostWrite m MLT_DIAG_CMD v

/-- IMPEDANCE_SWEEP_START (R341): a write of MLT_SWP_CTRL of channel `c`. -/
def execImpedanceSweepStart (m : Nat) (c : Fin 64) (v : Reg32) (s : State) : Res := s.hostWrite m (MLT_SWP_CTRL + 0x1000 * c) v

/-- MOUNT (R356): a write of TYD_CTRL. -/
def execMount (m : Nat) (v : Reg32) (s : State) : Res := s.hostWrite m TYD_CTRL v

/-- GO (R361): a write of PB_CTRL of stream `st`. -/
def execGo (m : Nat) (st : Fin 64) (v : Reg32) (s : State) : Res := s.hostWrite m (PB_CTRL + 0x10 * st) v

/-- PLAYBACK_STOP (R361): a write of PB_CTRL of stream `st`. -/
def execPlaybackStop (m : Nat) (st : Fin 64) (v : Reg32) (s : State) : Res := s.hostWrite m (PB_CTRL + 0x10 * st) v

/-- RESIGN_WRITE (R392): a write of BLY_CTRL, the key in `v`. -/
def execResignWrite (m : Nat) (v : Reg32) (s : State) : Res := s.hostWrite m BLY_CTRL v

/-- PAIR_PERS (R409): a write of LNE_COM_CTRL. -/
def execPairPers (m : Nat) (v : Reg32) (s : State) : Res := s.hostWrite m LNE_COM_CTRL v

/-- LANE_TEST (R416): a write of LNE_TEST of lane `l`. -/
def execLaneTest (m : Nat) (l : Fin 12) (v : Reg32) (s : State) : Res := s.hostWrite m (LNE_TEST + 0x1000 * l) v

/-- BOOT_GO (R451): a write of PWR_BOOT_CTRL. -/
def execBootGo (m : Nat) (v : Reg32) (s : State) : Res := s.hostWrite m PWR_BOOT_CTRL v

/-- WDT_KICK (R446): a write of PWR_WDT_KICK. -/
def execWdtKick (m : Nat) (v : Reg32) (s : State) : Res := s.hostWrite m PWR_WDT_KICK v

/-- WDT_CTRL (R446): a write of PWR_WDT_CTRL. -/
def execWdtCtrl (m : Nat) (v : Reg32) (s : State) : Res := s.hostWrite m PWR_WDT_CTRL v

/-- MODE_REQ_CONFIG (R452): a write of PWR_MODE_REQ. -/
def execModeReqConfig (m : Nat) (v : Reg32) (s : State) : Res := s.hostWrite m PWR_MODE_REQ v

/-- MODE_REQ_ACTIVE (R452): a write of PWR_MODE_REQ. -/
def execModeReqActive (m : Nat) (v : Reg32) (s : State) : Res := s.hostWrite m PWR_MODE_REQ v

/-- MODE_REQ_STANDBY (R452): a write of PWR_MODE_REQ. -/
def execModeReqStandby (m : Nat) (v : Reg32) (s : State) : Res := s.hostWrite m PWR_MODE_REQ v

/-- MODE_REQ_SERVICE (R452): a write of PWR_MODE_REQ. -/
def execModeReqService (m : Nat) (v : Reg32) (s : State) : Res := s.hostWrite m PWR_MODE_REQ v

/-- PWR_ISL_REQ (R453): a write of PWR_ISL_REQ. -/
def execPwrIslReq (m : Nat) (v : Reg32) (s : State) : Res := s.hostWrite m PWR_ISL_REQ v

end Sys2Proof.Machine
end

