-- ==== Sys2Proof/Machine/Tick.lean ====
section
/-! DEFINITION. The sample tick (05_truss_schedule.md R92 to R95): what ends with the index in progress and what begins with
the next one in every unit, the presence deadline, and the takes of the consumers; and the ticks of an engine that
resynchronises (16_belay_twin.md R398, R399). -/

namespace Sys2Proof.Machine

open Sys2Proof

/-! ### The end of an index -/

/-- The engine exchanges TICK frames. -/
def State.ticks (s : State) : Bool := s.upMode && s.lanesUp != []

/-- The index in progress ends: recorder taps (15 R357), its digest (16 R386), absences (16 R383), and its work (R95). -/
def State.endIndex (s : State) : State :=
  let s := s.recTick
  let s := if s.ticks then s.onBly fun b => { b with digests := mins b.digests s.idx s.digest } else s
  s.keepPasses.lapse.closeIndex

/-! ### The start of an index -/

/-- PLB_CTRL.RATE takes effect at a tick (12 R270). -/
def State.rateTick (s : State) : State :=
  let fast := s.fld PLB_CTRL_RATE == 1
  if s.plb.fast = fast then s
  else
    let s := s.onPlb fun p => { p with fast := fast }
    (s.wrN TRS_CAPACITY (Machine.usable s.lanesL s.rate)).reshed s.idx

/-- The phase error of the tick against the selected reference (12 R265, R266): measured, so free here; 0 under a
frequency-only reference. An error above 1 µs ends LOCKED. -/
def State.phaseTick (s : State) : State :=
  match s.selected with
  | none => s
  | some r =>
    if ¬ phaseRef r then s.setFld PLB_SYN_STAT_PHASE_ERR 0
    else if s.synState = 1 ∨ s.synState = 2 then
      let (e, s) := s.free 16
      let s := s.setFld PLB_SYN_STAT_PHASE_ERR e.toNat
      if s.synState = 2 ∧ 1000 < e.toInt.natAbs then s.setSyn 1 else s
    else s

/-- Compare units that fired since the tick before act now (12 R274). -/
def State.firedTick (s : State) : State :=
  let ks := s.plb.firedNext
  ks.foldl (fun s k => s.tickConsumers k) (s.onPlb fun p => { p with firedNext := [] })

/-- Producers at a tick: held samples, elastic buffers, AES3 receivers and network playout (11 R242, R244, R253, 13 R298). -/
def State.produce (s : State) : State :=
  let s := s.startTick.deliverHeld
  let s := (List.range 64).foldl (fun s d => if sideTx d then s else s.rxTick d) s
  let s := (List.range 16).foldl (fun s i => s.aesTick i) s
  s.netRxTick

/-- The index that `idx` holds begins: writes of its tag first (16 R381), then the fabric (R92) and the decisions on it. -/
def State.beginIndex (s : State) : State :=
  let s := s.drain.takeLive.openLive
  (s.settle s.idx).tryFinal s.idx

/-- What else happens at the tick that `idx` holds. -/
def State.unitTick (s : State) : State :=
  let s := s.produce.firedTick.phaseTick
  let s := s.mltTick.pbTick.dueDecisions
  let s := if s.ticks then s.sendTick else s
  s.pumpAll.trimPresence.onBly fun b => { b with hbOpened := true }

/-- The second tick in a row that abandons a class-0 item makes the engine resign (16 R392). -/
def State.resignLost (s : State) : State := if s.bly.abandoned = 2 then s.resign 1 else s

/-- A tick of an engine in time with the fabric. -/
def State.fullTick (s : State) : State :=
  let s := s.endIndex
  let s := ({ s with idx := nextIdx s.idx }).rateTick.beginIndex
  (s.latchTick.captureOn 4 none).unitTick.resignLost

/-! ### Resynchronisation (16 R398, R399) -/

/-- BLY_BEHIND: how far the joiner is behind the index in progress. -/
def State.showBehind (s : State) : State := s.wrN BLY_BEHIND ((2 ^ 48 + s.bly.real - s.idx) % 2 ^ 48)

/-- The tick passes while the joiner's fabric stands still or catches up: the index of the tick counts on, and PLB_TICK shows
it. -/
def State.realTick (s : State) : State :=
  let s := s.onBly fun b => { b with real := nextIdx b.real, hbOpened := true }
  let t := ({ s with idx := s.bly.real }).latchTick.captureOn 4 none
  { t with idx := s.idx }

/-- The joiner opens the next index on the forwarded inputs. -/
def State.catchUp (s : State) : State :=
  if s.bly.real = s.idx then s
  else
    let s := s.keepPasses.lapse.closeIndex
    let s := ({ s with idx := nextIdx s.idx }).beginIndex
    (s.dueDecisions.pumpAll.trimPresence).showBehind

/-! ### Presence -/

/-- The producer of point `p` delivers samples of index `n` (01 R11, R19): it is powered and enabled. A TDM side runs with the
slot enabled, an AES3 receiver is locked, an open stream carries the channel, both bitstreams of a Mallet channel are there,
and a selected program on a powered core declares the output or the insert channel. -/
def State.producing (s : State) (p n : Nat) : Bool :=
  let core (c : Nat) (ok : Selection → Bool) : Bool := (s.selAt c n).any ok && (s.physCore c).any fun q => s.powered (coreIsland q)
  if p < 512 then
    let d := 2 * (p / 16)
    s.sidePowered d && s.sideState d == 3 && (s.enabledSlots d).contains (p % 16)
  else if p < 544 then
    let i := (p - 512) / 2
    s.sidePowered (64 + 2 * i) && s.fld (aesFld AES_CTRL_RX_EN i) == 1 && s.fld (aesFld AES_STAT_LOCK i) == 1
  else if p < 1056 then
    s.powered 15 && s.net.rx.any fun r => decide (dChBase r.2.desc ≤ p - 544) && decide (p - 544 < dChBase r.2.desc + dChannels r.2.desc)
  else if p < 1120 then s.powered 22
  else if p < 1248 then s.mltOn && s.fld (mFld MLT_CH_STAT_SENSE_OK ((p - 1120) / 2)) == 1
  else if p < 1536 then core ((p - 1248) / 18) fun h => h.outputs.testBit ((p - 1248) % 18)
  else
    let f := s.fabAt n
    let w := (f.delayWords (p - 1536)).1
    f.inWork (p - 1536) && dInsEn w && core (dInsCore w) fun h => h.inserts.testBit (dInsCh w)

/-- SAMPLE_PRESENT (R92, R93): a producer delivers a present sample. One that is disabled or power-gated delivers none (01
R11, R19). -/
def execSamplePresent (point : Fin 5120) (v : Word) (idx : Idx) (t : Nat) (s : State) : Res :=
  .next (if s.producing point idx.toNat then s.deliver point (some v) idx.toNat t else s)

/-! ### Passes: accesses that waited for a write to a core's memory follow it (02 R36, R37) -/

/-- PASS_START (08 R184). -/
def execPassStart (core : Fin 16) (s : State) : Res := .next (s.startPass core).drain

/-- DEFERRED_MEM_WRITE (08 R188): the oldest write that waits for core `p` is performed between two passes. -/
def execDeferredMemWrite (p : Fin 17) (s : State) : Res :=
  match s.chs.deferred.find? fun d => d.phys == p.val with
  | none => .next s
  | some d =>
    let n := ((s.logicalOf p).bind fun c => mfind s.chs.next c).getD s.idx
    if (s.core p).run ≠ .idle ∨ ¬ idxLe d.idx n then .next s else .next (s.performDeferred d).drain

/-- MIGRATE_DONE (08 R195, R196). -/
def execMigrateDone (core : Fin 16) (s : State) : Res := .next (s.migrated core).drain

/-! ### The commands -/

/-- SAMPLE_TICK (R92): `cycles` cycles of the time clock after the last advance of station time. A joiner that catches up opens
its next index with `cycles` = 0. -/
def execSampleTick (cycles : Nat) (s : State) : Res :=
  let s := if s.mode = .reset then s else s.advance cycles
  .next (if s.mode = .reset then s
  else if s.resyncing then
    if s.fld BLY_JOIN_STAT_PHASE = 3 ∧ cycles = 0 then s.catchUp
    else s.realTick.showBehind
  else s.fullTick)

/-- PRESENCE_DEADLINE (R93): D_n of the index in progress, at time `t`. The deciding engine tells its peer that the index is
final (16 R382); a follower waits for that frame. -/
def execPresenceDeadline (t : Nat) (s : State) : Res :=
  let n := s.idx
  .next (match s.tick n with
  | none => s
  | some k =>
    if k.dl.isSome ∨ s.obeys n then s
    else
      let s := s.deadline n t
      if s.leads n then s.sendBelay 4 n (beBytes 1 0x80 ++ beBytes 1 0) else s)

/-- CONSUMER_TAKE (R95): the consumer of sink `sink` takes the value of index `n`. Streams 1120 to 1535 have no consumer. -/
def execConsumerTake (sink : Fin 1536) (n : Idx) (s : State) : Res :=
  let k := sink.val
  .next (if k < 512 then s.portTake k n.toNat
  else if k < 544 then s.aesTake k n.toNat
  else if k < 1056 then s.netTake k n.toNat
  else if k < 1120 then s.mltTake (k - 1056) n.toNat
  else s)

end Sys2Proof.Machine
end

