-- ==== Sys2Proof/Machine/Dispatch.lean ====
section
/-! DEFINITION. One arm per command: a direct call of its meaning. -/

namespace Sys2Proof.Machine

open Sys2Proof

/-- The effect of one command on the machine (the queue of waiting commands apart). -/
def exec (i : Instr) (s : State) : Host.Outcome State Fault Refusal :=
  match i with
  | .sampleTick cycles => Sys2Proof.Machine.execSampleTick cycles s
  | .samplePresent point v idx t => Sys2Proof.Machine.execSamplePresent point v idx t s
  | .presenceDeadline t => Sys2Proof.Machine.execPresenceDeadline t s
  | .itemIssue lane slot => Sys2Proof.Machine.execItemIssue lane slot s
  | .itemComplete lane slot t => Sys2Proof.Machine.execItemComplete lane slot t s
  | .consumerTake sink n => Sys2Proof.Machine.execConsumerTake sink n s
  | .duckHoldExpire bus level => Sys2Proof.Machine.execDuckHoldExpire bus level s
  | .zcForced kind index => Sys2Proof.Machine.execZcForced kind index s
  | .changeoverSwitch strip => Sys2Proof.Machine.execChangeoverSwitch strip s
  | .delayFillEnd strip => Sys2Proof.Machine.execDelayFillEnd strip s
  | .stripStop strip => Sys2Proof.Machine.execStripStop strip s
  | .batchEnd => Sys2Proof.Machine.execBatchEnd s
  | .sourceRampEnd strip => Sys2Proof.Machine.execSourceRampEnd strip s
  | .sinkRampEnd sink => Sys2Proof.Machine.execSinkRampEnd sink s
  | .laneFault lane => Sys2Proof.Machine.execLaneFault lane s
  | .spareJoined => Sys2Proof.Machine.execSpareJoined s
  | .pairLaneChange => Sys2Proof.Machine.execPairLaneChange s
  | .regWrite m off v => Sys2Proof.Machine.execRegWrite m off v s
  | .rcRead m off => Sys2Proof.Machine.execRcRead m off s
  | .wordWrite m addr data collide wait => Sys2Proof.Machine.execWordWrite m addr data collide wait s
  | .trussLiveWrite m addr data => Sys2Proof.Machine.execTrussLiveWrite m addr data s
  | .aliasSetWrite m addr data => Sys2Proof.Machine.execAliasSetWrite m addr data s
  | .aliasClearWrite m addr data => Sys2Proof.Machine.execAliasClearWrite m addr data s
  | .eccWriteback addr => Sys2Proof.Machine.execEccWriteback addr s
  | .pgFence m page v => Sys2Proof.Machine.execPgFence m page v s
  | .pgInj m page v => Sys2Proof.Machine.execPgInj m page v s
  | .softReset m page v => Sys2Proof.Machine.execSoftReset m page v s
  | .softResetDone page => Sys2Proof.Machine.execSoftResetDone page s
  | .warmReset m v => Sys2Proof.Machine.execWarmReset m v s
  | .remap m v => Sys2Proof.Machine.execRemap m v s
  | .blow m v => Sys2Proof.Machine.execBlow m v s
  | .blowDone ok => Sys2Proof.Machine.execBlowDone ok s
  | .sense m v => Sys2Proof.Machine.execSense m v s
  | .senseDone => Sys2Proof.Machine.execSenseDone s
  | .mspiWrite data extraBits collide => Sys2Proof.Machine.execMspiWrite data extraBits collide s
  | .mspiRead data phase => Sys2Proof.Machine.execMspiRead data phase s
  | .mspiStatus full => Sys2Proof.Machine.execMspiStatus full s
  | .checkStart m v => Sys2Proof.Machine.execCheckStart m v s
  | .checkBegin => Sys2Proof.Machine.execCheckBegin s
  | .checkDone => Sys2Proof.Machine.execCheckDone s
  | .crnDoorbell m v => Sys2Proof.Machine.execCrnDoorbell m v s
  | .cplWaitEnd => Sys2Proof.Machine.execCplWaitEnd s
  | .cairnNop => Sys2Proof.Machine.execCairnNop s
  | .store => Sys2Proof.Machine.execStore s
  | .stage us => Sys2Proof.Machine.execStage us s
  | .commit => Sys2Proof.Machine.execCommit s
  | .abort => Sys2Proof.Machine.execAbort s
  | .commitFlip => Sys2Proof.Machine.execCommitFlip s
  | .changingEnd => Sys2Proof.Machine.execChangingEnd s
  | .stageDigestTimeout => Sys2Proof.Machine.execStageDigestTimeout s
  | .crnStoreCtrl m v => Sys2Proof.Machine.execCrnStoreCtrl m v s
  | .passStart core => Sys2Proof.Machine.execPassStart core s
  | .passSkip core => Sys2Proof.Machine.execPassSkip core s
  | .passStop p => Sys2Proof.Machine.execPassStop p s
  | .timerRequest p => Sys2Proof.Machine.execTimerRequest p s
  | .interruptEntry p => Sys2Proof.Machine.execInterruptEntry p s
  | .chsDoorbell m p v => Sys2Proof.Machine.execChsDoorbell m p v s
  | .bankPortReturn p late wait => Sys2Proof.Machine.execBankPortReturn p late wait s
  | .chsReset m v => Sys2Proof.Machine.execChsReset m v s
  | .resetCopyDone p => Sys2Proof.Machine.execResetCopyDone p s
  | .resetProgramOverrun p => Sys2Proof.Machine.execResetProgramOverrun p s
  | .coreFault p cause => Sys2Proof.Machine.execCoreFault p cause s
  | .migrateDone core => Sys2Proof.Machine.execMigrateDone core s
  | .deferredMemWrite p => Sys2Proof.Machine.execDeferredMemWrite p s
  | .nop p => Sys2Proof.Machine.execNop p s
  | .halt p => Sys2Proof.Machine.execHalt p s
  | .rti p => Sys2Proof.Machine.execRti p s
  | .br p => Sys2Proof.Machine.execBr p s
  | .brl p => Sys2Proof.Machine.execBrl p s
  | .brp p => Sys2Proof.Machine.execBrp p s
  | .loop p => Sys2Proof.Machine.execLoop p s
  | .loopd p => Sys2Proof.Machine.execLoopd p s
  | .loopEnd p => Sys2Proof.Machine.execLoopEnd p s
  | .movri p => Sys2Proof.Machine.execMovri p s
  | .movrd p => Sys2Proof.Machine.execMovrd p s
  | .movdr p => Sys2Proof.Machine.execMovdr p s
  | .stset p => Sys2Proof.Machine.execStset p s
  | .stclr p => Sys2Proof.Machine.execStclr p s
  | .ldi p => Sys2Proof.Machine.execLdi p s
  | .dmov p => Sys2Proof.Machine.execDmov p s
  | .dcmp p => Sys2Proof.Machine.execDcmp p s
  | .dtst p => Sys2Proof.Machine.execDtst p s
  | .dmax p => Sys2Proof.Machine.execDmax p s
  | .dmin p => Sys2Proof.Machine.execDmin p s
  | .dand p => Sys2Proof.Machine.execDand p s
  | .dor p => Sys2Proof.Machine.execDor p s
  | .dxor p => Sys2Proof.Machine.execDxor p s
  | .macq p => Sys2Proof.Machine.execMacq p s
  | .macd p => Sys2Proof.Machine.execMacd p s
  | .accd p => Sys2Proof.Machine.execAccd p s
  | .clra p => Sys2Proof.Machine.execClra p s
  | .accmov p => Sys2Proof.Machine.execAccmov p s
  | .accsh p => Sys2Proof.Machine.execAccsh p s
  | .ext p => Sys2Proof.Machine.execExt p s
  | .accrd p => Sys2Proof.Machine.execAccrd p s
  | .accwr p => Sys2Proof.Machine.execAccwr p s
  | .bld p => Sys2Proof.Machine.execBld p s
  | .bst p => Sys2Proof.Machine.execBst p s
  | .ld p slot => Sys2Proof.Machine.execLd p slot s
  | .st p slot => Sys2Proof.Machine.execSt p slot s
  | .lda p slot => Sys2Proof.Machine.execLda p slot s
  | .sta p slot => Sys2Proof.Machine.execSta p slot s
  | .upd p slot => Sys2Proof.Machine.execUpd p slot s
  | .iold p slot => Sys2Proof.Machine.execIold p slot s
  | .iost p slot => Sys2Proof.Machine.execIost p slot s
  | .memBankState m unit v => Sys2Proof.Machine.execMemBankState m unit v s
  | .stateDone bank => Sys2Proof.Machine.execStateDone bank s
  | .regionTest phys region => Sys2Proof.Machine.execRegionTest phys region s
  | .regionTestDone fails => Sys2Proof.Machine.execRegionTestDone fails s
  | .replacementDone => Sys2Proof.Machine.execReplacementDone s
  | .scrubAccess addr upset => Sys2Proof.Machine.execScrubAccess addr upset s
  | .portSideEnable side => Sys2Proof.Machine.execPortSideEnable side s
  | .portSideDisable side => Sys2Proof.Machine.execPortSideDisable side s
  | .started side => Sys2Proof.Machine.execStarted side s
  | .stopped side => Sys2Proof.Machine.execStopped side s
  | .slotComplete port slot rise fall fs => Sys2Proof.Machine.execSlotComplete port slot rise fall fs s
  | .tdmSlotTake port slot fs => Sys2Proof.Machine.execTdmSlotTake port slot fs s
  | .trimLimit group => Sys2Proof.Machine.execTrimLimit group s
  | .clkLoss side => Sys2Proof.Machine.execClkLoss side s
  | .clockReturn side => Sys2Proof.Machine.execClockReturn side s
  | .aesFrameReceive unit subA subB rate cycles => Sys2Proof.Machine.execAesFrameReceive unit subA subB rate cycles s
  | .aesTxFrame unit => Sys2Proof.Machine.execAesTxFrame unit s
  | .csLoad m unit => Sys2Proof.Machine.execCsLoad m unit s
  | .usLoad m unit => Sys2Proof.Machine.execUsLoad m unit s
  | .freqGate r err => Sys2Proof.Machine.execFreqGate r err s
  | .refLoss r => Sys2Proof.Machine.execRefLoss r s
  | .refQual r => Sys2Proof.Machine.execRefQual r s
  | .switchRef dist => Sys2Proof.Machine.execSwitchRef dist s
  | .wtrExpire dist => Sys2Proof.Machine.execWtrExpire dist s
  | .lock => Sys2Proof.Machine.execLock s
  | .controlAverage avg => Sys2Proof.Machine.execControlAverage avg s
  | .outOfSpec cycles => Sys2Proof.Machine.execOutOfSpec cycles s
  | .loopOpen m v => Sys2Proof.Machine.execLoopOpen m v s
  | .plbSynFreq m v => Sys2Proof.Machine.execPlbSynFreq m v s
  | .rate m v => Sys2Proof.Machine.execRate m v s
  | .hostSet m v => Sys2Proof.Machine.execHostSet m v s
  | .rearm m v => Sys2Proof.Machine.execRearm m v s
  | .tickLatchRead m => Sys2Proof.Machine.execTickLatchRead m s
  | .timeRead m cycles => Sys2Proof.Machine.execTimeRead m cycles s
  | .arm m k v => Sys2Proof.Machine.execArm m k v s
  | .stop m k v => Sys2Proof.Machine.execStop m k v s
  | .fired k cycles => Sys2Proof.Machine.execFired k cycles s
  | .pulseEnd pin => Sys2Proof.Machine.execPulseEnd pin s
  | .captured k rising cycles => Sys2Proof.Machine.execCaptured k rising cycles s
  | .ethFrameReceive port frame fcsOk cycles => Sys2Proof.Machine.execEthFrameReceive port frame fcsOk cycles s
  | .arpAge ip => Sys2Proof.Machine.execArpAge ip s
  | .ptpMessage inst msg => Sys2Proof.Machine.execPtpMessage inst msg s
  | .ptpSend inst kind => Sys2Proof.Machine.execPtpSend inst kind s
  | .esmcPdu port ssm => Sys2Proof.Machine.execEsmcPdu port ssm s
  | .esmcSend port => Sys2Proof.Machine.execEsmcSend port s
  | .aes67PacketReceive port pkt => Sys2Proof.Machine.execAes67PacketReceive port pkt s
  | .aes67PacketSend st => Sys2Proof.Machine.execAes67PacketSend st s
  | .streamOpen => Sys2Proof.Machine.execStreamOpen s
  | .streamClose => Sys2Proof.Machine.execStreamClose s
  | .sweep => Sys2Proof.Machine.execSweep s
  | .sweepAbort => Sys2Proof.Machine.execSweepAbort s
  | .tetherIn src data => Sys2Proof.Machine.execTetherIn src data s
  | .tetherWritePoint => Sys2Proof.Machine.execTetherWritePoint s
  | .tetherResendPoint => Sys2Proof.Machine.execTetherResendPoint s
  | .tetherAck src data => Sys2Proof.Machine.execTetherAck src data s
  | .swpRpt src data => Sys2Proof.Machine.execSwpRpt src data s
  | .channelEnable c => Sys2Proof.Machine.execChannelEnable c s
  | .channelDisable c => Sys2Proof.Machine.execChannelDisable c s
  | .channelStart c => Sys2Proof.Machine.execChannelStart c s
  | .stopRampEnd c => Sys2Proof.Machine.execStopRampEnd c s
  | .loopUpdate c sv si => Sys2Proof.Machine.execLoopUpdate c sv si s
  | .limit c => Sys2Proof.Machine.execLimit c s
  | .flt c => Sys2Proof.Machine.execFlt c s
  | .senseLoss c which => Sys2Proof.Machine.execSenseLoss c which s
  | .retryWaitEnd c => Sys2Proof.Machine.execRetryWaitEnd c s
  | .retryClear c => Sys2Proof.Machine.execRetryClear c s
  | .clear m c v => Sys2Proof.Machine.execClear m c v s
  | .diagCmdStart m v => Sys2Proof.Machine.execDiagCmdStart m v s
  | .diagTestStep c meas => Sys2Proof.Machine.execDiagTestStep c meas s
  | .diagDone => Sys2Proof.Machine.execDiagDone s
  | .reEstimate c vi ii n => Sys2Proof.Machine.execReEstimate c vi ii n s
  | .impedanceSweepStart m c v => Sys2Proof.Machine.execImpedanceSweepStart m c v s
  | .sweepPointDone c mag ph => Sys2Proof.Machine.execSweepPointDone c mag ph s
  | .sweepDone c => Sys2Proof.Machine.execSweepDone c s
  | .senseOffsetCal c offV offI => Sys2Proof.Machine.execSenseOffsetCal c offV offI s
  | .mount m v => Sys2Proof.Machine.execMount m v s
  | .mounted disc => Sys2Proof.Machine.execMounted disc s
  | .checkpoint => Sys2Proof.Machine.execCheckpoint s
  | .pageProgramDone prog failed => Sys2Proof.Machine.execPageProgramDone prog failed s
  | .pageReadDone rd => Sys2Proof.Machine.execPageReadDone rd s
  | .relocationDone => Sys2Proof.Machine.execRelocationDone s
  | .segmentRefresh segment => Sys2Proof.Machine.execSegmentRefresh segment s
  | .go m st v => Sys2Proof.Machine.execGo m st v s
  | .playbackStop m st v => Sys2Proof.Machine.execPlaybackStop m st v s
  | .playbackStart st => Sys2Proof.Machine.execPlaybackStart st s
  | .exportStart => Sys2Proof.Machine.execExportStart s
  | .exportDone dmaErr => Sys2Proof.Machine.execExportDone dmaErr s
  | .exportAbort => Sys2Proof.Machine.execExportAbort s
  | .libImport => Sys2Proof.Machine.execLibImport s
  | .libDelete => Sys2Proof.Machine.execLibDelete s
  | .archivePut => Sys2Proof.Machine.execArchivePut s
  | .archiveGet => Sys2Proof.Machine.execArchiveGet s
  | .format volume disc => Sys2Proof.Machine.execFormat volume disc s
  | .tickFrame rec => Sys2Proof.Machine.execTickFrame rec s
  | .writeFrame m addr data tag => Sys2Proof.Machine.execWriteFrame m addr data tag s
  | .commandFrame words tag => Sys2Proof.Machine.execCommandFrame words tag s
  | .presence idx final entries => Sys2Proof.Machine.execPresence idx final entries s
  | .patchReq idx entries => Sys2Proof.Machine.execPatchReq idx entries s
  | .patch idx entries => Sys2Proof.Machine.execPatch idx entries s
  | .decision unit item idx data => Sys2Proof.Machine.execDecision unit item idx data s
  | .stageDigest seq code digest => Sys2Proof.Machine.execStageDigest seq code digest s
  | .resign cause => Sys2Proof.Machine.execResign cause s
  | .swapFrame ns port => Sys2Proof.Machine.execSwapFrame ns port s
  | .nak fseq => Sys2Proof.Machine.execNak fseq s
  | .snap region addr words units => Sys2Proof.Machine.execSnap region addr words units s
  | .joinReq rec => Sys2Proof.Machine.execJoinReq rec s
  | .joinAck code n0 n1 => Sys2Proof.Machine.execJoinAck code n0 n1 s
  | .retransmit => Sys2Proof.Machine.execRetransmit s
  | .hbInEdge us cycles => Sys2Proof.Machine.execHbInEdge us cycles s
  | .hbOutToggle => Sys2Proof.Machine.execHbOutToggle s
  | .pathFault path => Sys2Proof.Machine.execPathFault path s
  | .peerReturn => Sys2Proof.Machine.execPeerReturn s
  | .takeover us => Sys2Proof.Machine.execTakeover us s
  | .fallback => Sys2Proof.Machine.execFallback s
  | .actInRise us => Sys2Proof.Machine.execActInRise us s
  | .actInFall => Sys2Proof.Machine.execActInFall s
  | .seniorReassert => Sys2Proof.Machine.execSeniorReassert s
  | .resignation cause => Sys2Proof.Machine.execResignation cause s
  | .resignWrite m v => Sys2Proof.Machine.execResignWrite m v s
  | .holdEnd fails => Sys2Proof.Machine.execHoldEnd fails s
  | .swapStart => Sys2Proof.Machine.execSwapStart s
  | .swapSkipped => Sys2Proof.Machine.execSwapSkipped s
  | .swapExecute => Sys2Proof.Machine.execSwapExecute s
  | .swap => Sys2Proof.Machine.execSwap s
  | .join => Sys2Proof.Machine.execJoin s
  | .resyncStart => Sys2Proof.Machine.execResyncStart s
  | .snapshotDone => Sys2Proof.Machine.execSnapshotDone s
  | .joinDone ms => Sys2Proof.Machine.execJoinDone ms s
  | .descentAutoJoin => Sys2Proof.Machine.execDescentAutoJoin s
  | .laneChange l up inv rev rate eq taps => Sys2Proof.Machine.execLaneChange l up inv rev rate eq taps s
  | .trainFail l => Sys2Proof.Machine.execTrainFail l s
  | .fastExit l ok => Sys2Proof.Machine.execFastExit l ok s
  | .laneDown l => Sys2Proof.Machine.execLaneDown l s
  | .pairPers m v => Sys2Proof.Machine.execPairPers m v s
  | .linkDown => Sys2Proof.Machine.execLinkDown s
  | .laneTest m l v => Sys2Proof.Machine.execLaneTest m l v s
  | .telRec => Sys2Proof.Machine.execTelRec s
  | .sensorUpdate unit t volt age => Sys2Proof.Machine.execSensorUpdate unit t volt age s
  | .synthCal => Sys2Proof.Machine.execSynthCal s
  | .svcLate k => Sys2Proof.Machine.execSvcLate k s
  | .supplyFault rail => Sys2Proof.Machine.execSupplyFault rail s
  | .powerOnReset => Sys2Proof.Machine.execPowerOnReset s
  | .perstReset => Sys2Proof.Machine.execPerstReset s
  | .sysReset => Sys2Proof.Machine.execSysReset s
  | .resetExit rst => Sys2Proof.Machine.execResetExit rst s
  | .bootGo m v => Sys2Proof.Machine.execBootGo m v s
  | .bootDone ms => Sys2Proof.Machine.execBootDone ms s
  | .wdtKick m v => Sys2Proof.Machine.execWdtKick m v s
  | .wdtCtrl m v => Sys2Proof.Machine.execWdtCtrl m v s
  | .wdtWarn => Sys2Proof.Machine.execWdtWarn s
  | .watchdogExpiry => Sys2Proof.Machine.execWatchdogExpiry s
  | .modeReqConfig m v => Sys2Proof.Machine.execModeReqConfig m v s
  | .modeReqActive m v => Sys2Proof.Machine.execModeReqActive m v s
  | .modeReqStandby m v => Sys2Proof.Machine.execModeReqStandby m v s
  | .modeReqService m v => Sys2Proof.Machine.execModeReqService m v s
  | .reqDone fails => Sys2Proof.Machine.execReqDone fails s
  | .pwrIslReq m v => Sys2Proof.Machine.execPwrIslReq m v s
  | .islDone => Sys2Proof.Machine.execIslDone s
  | .descent => Sys2Proof.Machine.execDescent s
  | .descentFlushDone us => Sys2Proof.Machine.execDescentFlushDone us s
  | .announceReceiptTimeout inst => Sys2Proof.Machine.execAnnounceReceiptTimeout inst s
  | .esmcPduTimeout port => Sys2Proof.Machine.execEsmcPduTimeout port s
  | .supplyInRange rail => Sys2Proof.Machine.execSupplyInRange rail s
  | .powerFailDeassert => Sys2Proof.Machine.execPowerFailDeassert s
  | .joinLockTimeout => Sys2Proof.Machine.execJoinLockTimeout s
  | .carrierPeakOrValley c => Sys2Proof.Machine.execCarrierPeakOrValley c s
  | .externalFrameStart side bits => Sys2Proof.Machine.execExternalFrameStart side bits s
  | .belayCrcError lane => Sys2Proof.Machine.execBelayCrcError lane s

end Sys2Proof.Machine
end

