-- ==== Sys2Proof/Machine/Step.lean ====
section
/-! DEFINITION. A step: the command that has waited longest runs; with none waiting the block idles (log entry 1). -/

namespace Sys2Proof.Machine

open Sys2Proof

/-- One step: the command at the front of the queue runs on the machine with the rest of the queue. -/
def step (s : State) : Host.Outcome State Fault Refusal :=
  match s.pending with
  | [] => .next s
  | c :: rest => exec c { s with pending := rest }

/-- Put the command that a word of the table spells at the front of the queue; `s` where the word spells none. -/
def State.withFetchWord (s : State) (nbits w : Nat) : State :=
  match decodeTableWord nbits w with
  | some c => { s with pending := c :: s.pending }
  | none => s

end Sys2Proof.Machine
end

