-- ==== Sys2Proof/Safety.lean ====
section
/-! DEFINITION. Safe runs, in the terms that claims use: steps that stop neither in a fault nor in a refusal, and the
invariant of the state that every step keeps. -/

namespace Sys2Proof.Machine

open Sys2Proof

/-- The machine goes on: its next step answers a next state. -/
def State.goesOn (s : State) : Prop := ∃ t, step s = .next t

/-- What every step keeps: memory and the register file are in canonical form, and the sample index has 48 bits. -/
abbrev State.Inv (s : State) : Prop := Memory.wf s.mem = true ∧ regsWf s.regs = true ∧ s.idx < 2 ^ 48

/-- A write of master `m` to `addr` goes to the peer before it is performed: an active engine in lockstep forwards it (16 R380). -/
abbrev State.sendsOn (s : State) (m addr : Nat) (f : Forwarded) : Prop :=
  s.forwards = true ∧ m ≤ 1 ∧ fwdAddr addr = true ∧ f.isFence = false

/-- A write by a command of master `m` is performed at once and as the chapters define it: the machine is out of RESET (R20), does
not forward the write (16 R380), its turn has come (R36, R37), and no chapter leaves the result undefined. -/
abbrev State.takesAccess (s : State) (m addr : Nat) (data : List Byte) : Prop :=
  s.mode ≠ .reset ∧ ¬ s.sendsOn m addr (asForwarded m addr data) ∧
    s.inTurn s.fwd (s.idx, asForwarded m addr data) = true ∧ s.misuse m addr data = false

/-- The same of a write of `v` to the register at offset `off`, a multiple of 4 in a page that decodes, is powered (19 R479) and has no
soft reset under way (R32). -/
abbrev State.takesWrite (s : State) (m off : Nat) (v : Reg32) : Prop :=
  s.mode ≠ .reset ∧ (pageId (off / 0x1000)).isSome = true ∧ off % 4 = 0 ∧ off < 0x1000000 ∧
    ¬ s.sendsOn m (0x01000000 + off) (.reg m off v) ∧ s.inTurn s.fwd (s.idx, .reg m off v) = true ∧
    s.regMisuse m off v = false ∧ s.pageGated (off / 0x1000) = false ∧ s.softBusy (off / 0x1000) = false

/-- The register write that a row of the table stands for: the master, the offset from 0x0100_0000 and the value. -/
def State.rowWrite (s : State) : Instr → Option (Nat × Nat × Reg32)
  | .regWrite m off v => some (m, off.toNat, v)
  | .pgFence m p v => some (m, 0x1000 * p + PG_FENCE_CNT, v)
  | .pgInj m p v => some (m, 0x1000 * p + 0x1C, v)
  | .softReset m p v => some (m, 0x1000 * p + PG_CTRL, v)
  | .warmReset m v | .remap m v => some (m, SYS_CTRL, v)
  | .blow m v | .sense m v => some (m, FUS_CTRL, v)
  | .portSideEnable d => some (0, (sideEnable d).off,
      putBits (s.written (sideEnable d).off (s.rd (sideEnable d).off)) (sideEnable d).hi (sideEnable d).lo 1)
  | .portSideDisable d => some (0, (sideEnable d).off,
      putBits (s.written (sideEnable d).off (s.rd (sideEnable d).off)) (sideEnable d).hi (sideEnable d).lo 0)
  | .memBankState m i v => some (m, MEM_BANK_STATE + 4 * i, v)
  | .crnStoreCtrl m v => some (m, CRN_STORE_CTRL, v)
  | .crnDoorbell m v => some (m, CRN_DOORBELL, v)
  | .checkStart m v => some (m, TRS_CHECK_CTRL, v)
  | .chsDoorbell m q v => some (m, CHS_DOORBELL + 0x1000 * q, v)
  | .chsReset m v => some (m, CHS_RESET, v)
  | .csLoad m i => some (m, AES_TX_UPD + 0x1000 * i, 1)
  | .usLoad m i => some (m, AES_TX_UPD + 0x1000 * i, 2)
  | .loopOpen m v => some (m, PLB_LOOP_CTRL, v)
  | .plbSynFreq m v => some (m, PLB_SYN_FREQ, v)
  | .rate m v => some (m, PLB_CTRL, v)
  | .hostSet m v | .rearm m v => some (m, PLB_TIME_CTRL, v)
  | .arm m k v | .stop m k v => some (m, PLB_CMP_CTRL + 0x10 * k, v)
  | .clear m c v => some (m, MLT_CMD + 0x1000 * c, v)
  | .diagCmdStart m v => some (m, MLT_DIAG_CMD, v)
  | .impedanceSweepStart m c v => some (m, MLT_SWP_CTRL + 0x1000 * c, v)
  | .mount m v => some (m, TYD_CTRL, v)
  | .go m st v | .playbackStop m st v => some (m, PB_CTRL + 0x10 * st, v)
  | .resignWrite m v => some (m, BLY_CTRL, v)
  | .pairPers m v => some (m, LNE_COM_CTRL, v)
  | .laneTest m l v => some (m, LNE_TEST + 0x1000 * l, v)
  | .bootGo m v => some (m, PWR_BOOT_CTRL, v)
  | .wdtKick m v => some (m, PWR_WDT_KICK, v)
  | .wdtCtrl m v => some (m, PWR_WDT_CTRL, v)
  | .modeReqConfig m v | .modeReqActive m v | .modeReqStandby m v | .modeReqService m v => some (m, PWR_MODE_REQ, v)
  | .pwrIslReq m v => some (m, PWR_ISL_REQ, v)
  | _ => none

/-- Physical core `p` issues `w` next, in whose arithmetic slot `op` stands: nothing else comes first (R181, R186, R189, R190), the
instruction is defined where it stands, and its move slots are done. -/
abbrev State.issues (s : State) (p op : Nat) (w : Word) : Prop :=
  s.ready p = some (some w) ∧ (s.core p).forbids w = false ∧ aop w = op ∧ (mop (slotOf w .x) = 0 ∨ (s.core p).xDone = true) ∧
    (mop (slotOf w .y) = 0 ∨ (s.core p).yDone = true)

/-- The same of the move slot `slot`, in which `op` stands and which is not done yet. -/
abbrev State.moves (s : State) (p op : Nat) (slot : MoveSlot) (w : Word) : Prop :=
  s.ready p = some (some w) ∧ (s.core p).forbids w = false ∧ mop (slotOf w slot) = op ∧
    (match slot with | .x => (s.core p).xDone | .y => (s.core p).yDone) = false

/-- A move slot has been performed. -/
def State.moved (s : State) (p : Nat) (slot : MoveSlot) : State :=
  s.onCore p fun c => match slot with
    | .x => { c with xDone := true }
    | .y => { c with yDone := true }

/-- No result of an instruction before is on its way in physical core `p`. -/
abbrev State.settled (s : State) (p : Nat) : Prop := (s.core p).flight = [] ∧ (s.core p).port = []

/-- The parts of the state beside the registers, what the part sends, its event log and its free values: the operating mode, the
sample index, memory and its stored bit errors, station time, the writes that wait for their tag, and what each unit holds. -/
inductive Part where
  | mode | idx | mem | flips | time | fwd | sys | trs | chs | bnk | crn | prt | plb | net | mlt | tyd | bly
  deriving DecidableEq, Repr

/-- A part of the state is the same in both. -/
def Part.same (s t : State) : Part → Prop
  | .mode => t.mode = s.mode
  | .idx => t.idx = s.idx
  | .mem => t.mem = s.mem
  | .flips => t.flips = s.flips
  | .time => t.time = s.time
  | .fwd => t.fwd = s.fwd
  | .sys => t.sys = s.sys
  | .trs => t.trs = s.trs
  | .chs => t.chs = s.chs
  | .bnk => t.bnk = s.bnk
  | .crn => t.crn = s.crn
  | .prt => t.prt = s.prt
  | .plb => t.plb = s.plb
  | .net => t.net = s.net
  | .mlt => t.mlt = s.mlt
  | .tyd => t.tyd = s.tyd
  | .bly => t.bly = s.bly

/-- Every part. -/
def everyPart : List Part :=
  [.mode, .idx, .mem, .flips, .time, .fwd, .sys, .trs, .chs, .bnk, .crn, .prt, .plb, .net, .mlt, .tyd, .bly]

/-- The parts that a command may change; a write of a register or of a word may act in any of them. -/
def mayChange : Instr → List Part
  | .checkBegin | .checkDone | .delayFillEnd .. | .duckHoldExpire .. | .itemIssue .. | .sinkRampEnd .. | .sourceRampEnd .. |
    .stripStop .. | .zcForced .. | .telRec => [.trs]
  | .batchEnd | .changeoverSwitch .. | .pairLaneChange => [.mem, .flips, .trs]
  | .itemComplete .. => [.mem, .flips, .trs, .bnk]
  | .laneFault .. | .spareJoined => [.trs, .bly]
  | .clkLoss .. | .clockReturn .. | .externalFrameStart .. | .started .. | .stopped .. | .aesTxFrame .. => [.prt]
  | .slotComplete .. => [.mem, .flips, .trs, .prt, .bly]
  | .tdmSlotTake .. => [.mem, .flips, .prt]
  | .trimLimit .. | .freqGate .. | .refLoss .. | .refQual .. | .stateDone .. | .reEstimate .. | .esmcSend .. | .swapSkipped |
    .linkDown | .trainFail .. | .sensorUpdate .. | .svcLate .. | .synthCal | .wdtWarn | .softResetDone .. => []
  | .controlAverage .. | .pulseEnd .. | .switchRef .. | .wtrExpire .. => [.plb]
  | .lock => [.plb, .bly]
  | .captured .. | .outOfSpec .. => [.time, .plb]
  | .aesFrameReceive .. => [.time, .prt, .plb]
  | .eccWriteback .. => [.mem, .flips, .bnk]
  | .regionTest .. | .regionTestDone .. | .replacementDone => [.bnk]
  | .blowDone .. | .senseDone | .powerFailDeassert | .supplyInRange .. | .mspiStatus .. => [.sys]
  | .channelDisable .. | .channelEnable .. | .channelStart .. | .diagDone | .diagTestStep .. | .flt .. | .retryWaitEnd .. |
    .stopRampEnd .. | .carrierPeakOrValley .. | .senseLoss .. | .senseOffsetCal .. => [.mlt, .bly]
  | .retryClear .. | .hbOutToggle | .peerReturn | .seniorReassert | .swapStart | .descentAutoJoin | .joinReq .. |
    .belayCrcError .. | .nak .. | .patchReq .. | .retransmit | .swapFrame .. | .fastExit .. | .laneChange .. | .laneDown ..
    => [.bly]
  | .sweepDone .. | .sweepPointDone .. | .limit .. | .loopUpdate .. => [.mlt]
  | .arpAge .. | .announceReceiptTimeout .. | .esmcPdu .. | .esmcPduTimeout .. | .ptpSend .. | .aes67PacketSend .. => [.net]
  | .ethFrameReceive .. => [.time, .plb, .net]
  | .ptpMessage .. => [.time, .net, .bly]
  | .cairnNop | .cplWaitEnd | .store | .changingEnd | .commit | .swap | .join | .commandFrame .. | .archiveGet => [.mem,
    .flips, .bnk, .crn, .bly]
  | .aes67PacketReceive .. => [.mem, .flips, .trs, .net, .bly]
  | .streamClose | .streamOpen | .sweep | .sweepAbort | .tetherWritePoint => [.mem, .flips, .bnk, .crn, .net, .bly]
  | .swpRpt .. | .tetherAck .. | .tetherIn .. => [.mem, .flips, .crn, .net, .bly]
  | .tetherResendPoint => [.mem, .flips, .crn, .net]
  | .bankPortReturn .. | .accd .. | .accmov .. | .accrd .. | .accsh .. | .accwr .. | .br .. | .brl .. | .brp .. | .bst .. |
    .clra .. | .dand .. | .dcmp .. | .dmax .. | .dmin .. | .dmov .. | .dor .. | .dtst .. | .dxor .. | .ext .. | .ldi .. |
    .loop .. | .loopd .. | .macd .. | .macq .. | .movdr .. | .movrd .. | .movri .. | .nop .. | .rti .. | .stclr .. | .stset
    .. => [.mem, .flips, .chs]
  | .coreFault .. | .interruptEntry .. | .loopEnd .. | .resetProgramOverrun .. | .timerRequest .. | .iold .. | .iost .. | .ld
    .. | .lda .. | .st .. | .sta .. | .upd .. | .passSkip .. => [.chs]
  | .passStop .. | .halt .. => [.mem, .flips, .trs, .chs, .bly]
  | .bld .. | .resetCopyDone .. => [.mem, .flips, .chs, .bnk]
  | .abort => [.mem, .flips, .chs, .bnk, .crn, .bly]
  | .stage .. | .stageDigest .. | .stageDigestTimeout => [.mem, .flips, .sys, .trs, .chs, .bnk, .crn, .bly]
  | .actInFall | .bootDone .. => [.mode, .sys, .chs, .prt, .plb, .net, .mlt, .bly]
  | .hbInEdge .. => [.time, .plb, .bly]
  | .pathFault .. | .resign .. => [.mem, .flips, .sys, .trs, .crn, .bly]
  | .resignation .. | .joinDone .. | .supplyFault .. => [.mode, .mem, .flips, .sys, .trs, .chs, .crn, .prt, .plb, .net, .mlt,
    .bly]
  | .swapExecute | .takeover .. => [.mode, .mem, .flips, .sys, .chs, .bnk, .crn, .prt, .plb, .net, .mlt, .bly]
  | .checkpoint | .mounted .. | .pageProgramDone .. | .pageReadDone .. | .relocationDone | .segmentRefresh .. => [.tyd]
  | .format .. | .archivePut | .exportAbort | .exportStart | .libDelete | .libImport => [.mem, .flips, .bnk, .crn, .tyd, .bly]
  | .playbackStart .. => [.mem, .flips, .trs, .tyd, .bly]
  | .joinAck .. | .joinLockTimeout => [.mem, .flips, .sys, .crn, .bly]
  | .resyncStart => [.mode, .idx, .mem, .flips, .sys, .trs, .chs, .bnk, .crn, .prt, .plb, .net, .mlt, .bly]
  | .snap .. => [.mem, .flips, .trs, .chs, .crn, .prt, .net, .mlt, .tyd, .bly]
  | .snapshotDone => [.idx, .mem, .flips, .trs, .bnk, .bly]
  | .fallback | .patch .. | .presence .. | .presenceDeadline .. | .samplePresent .. => [.mem, .flips, .trs, .bly]
  | .tickFrame .. => [.mem, .flips, .time, .sys, .trs, .crn, .bly]
  | .exportDone .. => [.mem, .flips, .crn, .tyd]
  | .resetExit .. => [.mode, .mem, .flips, .sys, .chs]
  | .decision .. => [.mem, .flips, .time, .trs, .bnk, .crn, .prt, .plb, .net, .mlt, .tyd, .bly]
  | .fired .. => [.mem, .flips, .time, .bnk, .crn, .prt, .plb, .net, .mlt, .tyd, .bly]
  | .commitFlip => [.mem, .flips, .trs, .chs, .bnk, .crn, .prt, .net, .mlt, .bly]
  | .scrubAccess .. | .reqDone .. => [.mode, .mem, .flips, .sys, .trs, .chs, .bnk, .crn, .prt, .plb, .net, .mlt, .bly]
  | .actInRise .. | .descent | .descentFlushDone .. | .holdEnd .. | .perstReset | .powerOnReset | .sysReset | .watchdogExpiry |
    .aliasClearWrite .. | .aliasSetWrite .. | .arm .. | .blow .. | .bootGo .. | .checkStart .. | .chsDoorbell .. | .chsReset
    .. | .clear .. | .crnDoorbell .. | .crnStoreCtrl .. | .csLoad .. | .diagCmdStart .. | .go .. | .hostSet .. |
    .impedanceSweepStart .. | .laneTest .. | .loopOpen .. | .memBankState .. | .modeReqActive .. | .modeReqConfig .. |
    .modeReqService .. | .modeReqStandby .. | .mount .. | .mspiRead .. | .mspiWrite .. | .pairPers .. | .pgFence .. | .pgInj
    .. | .playbackStop .. | .plbSynFreq .. | .portSideDisable .. | .portSideEnable .. | .pwrIslReq .. | .rate .. | .rearm ..
    | .regWrite .. | .remap .. | .resignWrite .. | .sense .. | .softReset .. | .stop .. | .trussLiveWrite .. | .usLoad .. |
    .warmReset .. | .wdtCtrl .. | .wdtKick .. | .wordWrite .. | .writeFrame .. | .deferredMemWrite .. | .migrateDone .. |
    .passStart .. | .sampleTick .. => everyPart
  | .islDone => [.mem, .flips, .sys, .chs, .prt, .net, .mlt, .tyd, .bly]
  | .rcRead .. | .tickLatchRead .. => [.fwd, .plb]
  | .timeRead .. => [.time, .fwd, .plb]
  | .consumerTake .. => [.mem, .flips, .prt, .net, .mlt]

/-- Some number of steps leads from one state to another, none of them a fault or a refusal. -/
inductive Reaches : State → State → Prop where
  | refl (s : State) : Reaches s s
  | step (s t u : State) (h : Machine.step s = .next t) (r : Reaches t u) : Reaches s u

end Sys2Proof.Machine
end

