-- ==== Sys2Proof/Certificates/Slice0/Obligations.lean ====
section
/-! DEFINITION. The statements for the provers. Each docstring names the rules of spec/ that it formalises. -/

open Sys2Proof Sys2Proof.Machine

/-! ### The block -/

/-- The queue is first in, first out: a step takes the command at the front and runs it on the machine with the queue's rest;
with an empty queue the block idles (log entry 1). -/
def Obligations.StepRunsFront : Prop := ∀ s : State,
  (∀ c : Instr, step { s with pending := c :: s.pending } = exec c s) ∧ (s.pending = [] → step s = .next s)

/-- Whatever the step, memory and the register file keep their canonical form and the sample index its 48 bits. -/
def Obligations.InvariantKept : Prop := ∀ s t : State, s.Inv → step s = .next t → t.Inv

/-- The frame of every command: a part of the state that `mayChange` does not list for a command is the same after it as before.
In particular a command whose list has no memory leaves every byte of every stored word as it was. No command looks at the queue
or changes it: what waits behind a command waits unchanged after it. -/
def Obligations.OnlyItsParts : Prop :=
  (∀ (s t : State) (c : Instr), s.Inv → exec c s = .next t →
  (∀ p : Part, p ∉ mayChange c → p.same s t) ∧
    (Part.mem ∉ mayChange c → ∀ a : Nat, mget 0 t.mem a = mget 0 s.mem a)) ∧
  (∀ (s t : State) (c : Instr), s.Inv → exec c s = .next t → t.pending = s.pending)

/-- Every command but an instruction of a Chisel core and the entry of its interrupt goes on: it answers a next state, whatever
the state is. And no command is ever refused. -/
def Obligations.EventsGoOn : Prop := ∀ (s : State) (c : Instr), (∀ r, exec c s ≠ .refused r) ∧
  ((match c with
    | .interruptEntry _ | .nop _ | .halt _ | .rti _ | .br _ | .brl _ | .brp _ | .loop _ | .loopd _ | .movri _ | .movrd _ | .movdr _
    | .stset _ | .stclr _ | .ldi _ | .dmov _ | .dcmp _ | .dtst _ | .dmax _ | .dmin _ | .dand _ | .dor _ | .dxor _ | .macq _ | .macd _
    | .accd _ | .clra _ | .accmov _ | .accsh _ | .ext _ | .accrd _ | .accwr _ | .bld _ | .bst _ | .ld .. | .st .. | .lda .. | .sta ..
    | .upd .. | .iold .. | .iost .. => False
    | _ => True) → ∃ t, exec c s = .next t)

/-- R20, R443: the machine right after reset is held in RESET with nothing under way; SYS_STAT says so, every page is enabled
and powered, no lock or event is set, and memory lists nothing. The invariant holds in the machine right after reset, in which
no command waits. -/
def Obligations.ResetState : Prop :=
  (let s := State.reset
  s.mode = .reset ∧ s.mem = [] ∧ s.regs = [] ∧ s.fwd = [] ∧ s.rd PWR_ISL_STAT = 0x1FFFFFF ∧ s.fld SYS_CTRL_REMAP = 0 ∧
    (∀ p, s.rd (0x1000 * p + PG_EVT) = 0) ∧ s.rd CHS_RESET = 0xFFFF ∧ s.rd MEM_BANK_STATE = 0xAAAAAAAA ∧ s.lockstep = false ∧
    s.fld BLY_STAT_ACT_OUT = 0 ∧ s.live = 0) ∧
  (State.reset.Inv ∧ State.reset.pending = [])

/-- R20, R400: the modes change only along the table's transitions. Where no output hold runs (the hold's end, into SERVICE, has
its own statement), a command that changes the mode enters RESET or follows one of these edges; and STANDBY gives way to ACTIVE
only at a planned swap, when ACT_IN falls, and by a takeover. -/
def Obligations.ModeGraph : Prop := ∀ (s t : State) (c : Instr), s.Inv → exec c s = .next t →
  (s.bly.hold = false → t.mode ≠ s.mode → t.mode = .reset ∨ (s.mode, t.mode) ∈ ([(.reset, .selftest), (.selftest, .config),
    (.config, .active), (.config, .standby), (.config, .service), (.active, .standby), (.active, .service), (.active, .config),
    (.standby, .active), (.standby, .service), (.standby, .config), (.service, .config)] : List (Mode × Mode))) ∧
  (s.mode = .standby → t.mode = .active → c = .actInFall ∨ ∃ us, c = .takeover us)


/-! ### Truss: samples, items and takes (05) -/

/-- R92, R95: a sample tick opens the index after the one in progress. The mode stays, but that a standby whose class-0 work was
abandoned twice in a row resigns into SERVICE (16 R392). Not for a joiner, whose fabric follows the snapshot, nor where accesses
wait for this tick. R92: a sample for an open index that has not come yet is kept there with its time; a second one changes
nothing; one for an index whose deadline has passed, or that is closed, is discarded and counted LATE (R93). A producer that is
disabled or power-gated delivers nothing (01 R11, R19). R93: the presence deadline of the index in progress passes once: the
index keeps its time, every source that has come counts one ABSENT less than the deadlines passed, and every sample that has not
come is tagged absent. -/
def Obligations.SamplesComeIn : Prop :=
  (∀ (s : State) (cycles : Nat), s.Inv → s.mode ≠ .reset → s.bly.joining = false →
  s.fwd = [] → ∃ t, exec (.sampleTick cycles) s = .next t ∧ t.idx = nextIdx s.idx ∧
    (t.mode = s.mode ∨ (s.mode = .standby ∧ t.mode = .service ∧ s.bly.abandoned ≠ 0))) ∧
  (∀ (s : State) (p : Fin 5120) (v : Word) (n : Idx) (ns : Nat),
  (s.producing p n.toNat = false → exec (.samplePresent p v n ns) s = .next s) ∧
  (s.producing p n.toNat = true → s.follows n.toNat = false → s.leads n.toNat = false →
    (∀ k, s.tick n.toNat = some k → k.dl = none → mfind k.arr p = none → exec (.samplePresent p v n ns) s =
      .next ((s.onTick n.toNat fun k => { k with arr := mins k.arr p ⟨some v, ns⟩ }).onTrs fun u => { u with now := max u.now ns }).promote) ∧
    (∀ k, s.tick n.toNat = some k → k.dl = none → (mfind k.arr p).isSome → exec (.samplePresent p v n ns) s = .next s) ∧
    ((∀ k, s.tick n.toNat = some k → k.dl.isSome) → exec (.samplePresent p v n ns) s =
      .next (s.count (if p.val < 1536 then 0 else 1) (if p.val < 1536 then p.val else p.val - 1536) 1 0)))) ∧
  (∀ (s : State) (ns : Nat) (k : Tick), s.tick s.idx = some k → k.dl = none →
  s.obeys s.idx = false → s.leads s.idx = false → ∃ t, exec (.presenceDeadline ns) s = .next t ∧ t = s.deadline s.idx ns ∧
  t.trs.absBase = s.trs.absBase + 1)

/-- R94: of the ready items whose class the slot permits, the first in R94's order goes to a free slot of a working lane;
nothing else changes. A lane that does not work takes none, and neither does a slot in use or one for which nothing is ready.
R92, R95: an item that completes leaves its slot and does its work under the settings of its index: a batch deposits, the result
of a head item is kept, and that of a strip or tail item with the gains of its edges; the items that this makes ready join the
ready list. R95: what a consumer takes: the value staged for the index, or 0; a sink that something drives then counts OUT_LATE
and TRS_LATE_OUT. Shown for the Mallet channels, where the value goes to the drive while their island is powered. -/
def Obligations.ItemsRun : Prop :=
  (∀ (s : State) (lane : Fin 17) (slot : Fin 4),
  (∀ i, mfind s.trs.slots (4 * lane.val + slot.val) = none → pickItem slot s.trs.ready = some i → s.laneWorks lane = true →
    exec (.itemIssue lane slot) s = .next (s.onTrs fun u => { u with
      ready := u.ready.filter fun j => !(j.kind = i.kind ∧ j.idx = i.idx)
      slots := mins u.slots (4 * lane.val + slot.val) i })) ∧
  (s.laneWorks lane = false ∨ (mfind s.trs.slots (4 * lane.val + slot.val)).isSome = true ∨ pickItem slot s.trs.ready = none →
    exec (.itemIssue lane slot) s = .next s)) ∧
  (∀ (s : State) (lane : Fin 17) (slot : Fin 4) (ns : Nat) (i : Item) (k : Tick),
  mfind s.trs.slots (4 * lane.val + slot.val) = some i → i.reissued = false → s.tick i.idx = some k →
  let s1 := s.onTrs fun u => { u with slots := mdel u.slots (4 * lane.val + slot.val), now := max u.now ns }
  let w := s1.work k
  (∀ g, i.kind = .head g → let r := s1.runHead w.f k g ns; r.1.clip = false → exec (.itemComplete lane slot ns) s =
    .next (r.2.onTick i.idx fun k => { k with heads := mins k.heads g r.1 }).promote) ∧
  (∀ g r u, i.kind = .strip g ∨ i.kind = .tail g → isOutput g = false → s1.runStrip w.f k i.kind ns = (some r, u) →
    exec (.itemComplete lane slot ns) s = .next (u.onTick i.idx fun k => { k with
      outs := mins k.outs g r
      gains := (w.f.outGains w.es g i.idx (mget 0 s1.trs.prevOut g) r.v).foldl (fun m p => mins m p.1 p.2) k.gains }).promote) ∧
  (∀ g c e b, i.kind = .batch g c e → ((batches w.es g).find? fun (b : Nat × List Nat) => b.1 == c && b.2.headD 0 == e) = some b →
    exec (.itemComplete lane slot ns) s = .next (s1.onTick i.idx fun k => { k with deposits := k.deposits ++ b.2 }).promote)) ∧
  (∀ (s : State) (c : Fin 64) (n : Idx) (v : Word),
  let take := exec (.consumerTake ⟨1056 + c.val, by omega⟩ n) s
  (s.powered 21 = true → s.staged (1056 + c.val) n.toNat = some v → take = .next (s.onChan c fun k => { k with drive := v })) ∧
  (s.powered 21 = true → s.staged (1056 + c.val) n.toNat = none → (s.fabAt n.toNat).sinkDriven (1056 + c.val) n.toNat = true → take =
    .next ((((s.count 2 (1056 + c.val) 0 1).bump (whole TRS_LATE_OUT)).evt 0x11 8).onChan c fun k => { k with drive := 0 })) ∧
  (s.powered 21 = true → s.staged (1056 + c.val) n.toNat = none → (s.fabAt n.toNat).sinkDriven (1056 + c.val) n.toNat = false →
    take = .next (s.onChan c fun k => { k with drive := 0 })) ∧
  (s.powered 21 = false → take = .next s))

/-! ### Truss: gains, changeovers, crossfades, lanes and checks (04, 05, 06) -/

/-- R124, R128, R131: what a commit leaves to be done ends sample by sample. A gain step whose time T has run out is forced and
counted; a duck level whose hold has run out becomes inactive; a source or sink ramp of 32 samples ends. R127, R128: the steps
of a changeover. At a sample after the fader came to 0 the new values take effect; the end of the delay fill is noted once its
last index has passed or has no work left; a strip that no edge fades from any more, and whose fader is down, stops. R105, R123:
the batch of the crossfade in progress ends with its window, or in its last index once that has no work left, whose load stays
counted (R113): the next batch begins, and after the last one the crossfade is over and TRS_BATCH_STAT reads 0. -/
def Obligations.GainChangeoverBatch : Prop :=
  (∀ s : State,
  (∀ kind i p, mfind s.trs.steps (gainKey kind i) = some p → p.deadline ≤ s.idx → exec (.zcForced kind i) s =
    .next (((s.stepDone (gainKey kind i) p.deadline).bump (whole TRS_ZC_FORCED)).evt 0x13 2).checkStepsDone) ∧
  (∀ (b : Fin 512) (l : Fin 8), (s.level b l).active = true → (s.level b l).hold = 0 →
    (∀ k, s.tick s.idx = some k → mfind k.heads (1536 + b) = none ∧ mfind k.outs (1536 + b) = none) →
    exec (.duckHoldExpire b l) s = .next (s.setLevel b l { s.level b l with active := false })) ∧
  (∀ (g : Fin 1536) r, mfind s.trs.srcRamp g = some r → r.flip + 32 ≤ s.idx → exec (.sourceRampEnd g) s =
    .next (s.onTrs fun u => { u with srcRamp := mdel u.srcRamp g }).trussDone) ∧
  (∀ (k : Fin 1536) r, mfind s.trs.sinkRamp k = some r → r.flip + 31 ≤ s.idx → exec (.sinkRampEnd k) s =
    .next (s.onTrs fun u => { u with sinkRamp := mdel u.sinkRamp k }).trussDone)) ∧
  (∀ (s : State) (g : Fin 3584),
  (∀ o0 o3 j w b, mfind s.trs.chg g = some ⟨o0, o3, some j, none, w, b⟩ → j < s.idx → mfind s.trs.steps (faderKey g) = none →
    exec (.changeoverSwitch g) s = .next ((s.switchOver g s.idx ⟨o0, o3, some j, none, w, b⟩).reopen s.idx)) ∧
  (∀ o0 o3 d e w, mfind s.trs.chg g = some ⟨o0, o3, d, some e, w, false⟩ →
    e ≤ s.idx ∨ (e = s.idx + 1 ∧ s.trs.ticks.any s.unfinished = false) → exec (.delayFillEnd g) s =
    .next (s.onTrs fun u => { u with chg := mins u.chg g ⟨o0, o3, d, some e, w, true⟩ }).refreshXfade.checkStepsDone) ∧
  (g.val ∈ s.trs.stopping → (∀ d ∈ s.allEdges s.idx, d.edge.src ≠ g.val) → (isOutput g = true → s.faderDown g = true) →
    exec (.stripStop g) s = .next ((s.onTrs fun u => { u with
      stopping := u.stopping.filter fun h => h != g.val }).refreshXfade.checkStepsDone.trussDone.reopen s.idx))) ∧
  (∀ (s : State) (x : Xfade), s.trs.xf = some x →
  let e := x.flip + x.cur * x.win
  e ≤ s.idx ∨ (s.idx + 1 = e ∧ s.trs.ticks.any s.unfinished = false) →
  exec .batchEnd s = .next (
    let last := decide (x.batches.length ≤ x.cur)
    let load := if s.idx < e then some (s.fab.loadAt s.idx s.trs.shed) else none
    let u := s.onTrs fun u => { u with xf := if last then none else some { x with cur := x.cur + 1 }, endLoad := load }
    let u := u.wrN TRS_BATCH_STAT (if last ∨ x.batches.length ≤ 1 then 0 else (x.cur + 1) * 2 ^ 24 + x.batches.length * 2 ^ 16)
    (u.refreshXfade.trussDone.reshed (max s.idx e)).reopen s.idx))

/-- R107, R109: a faulted lane is retired: LANE_OK loses its bit, nothing is left in its slots, and the items in them go back to
the head of the ready list; a fault that TRS_FAULT_INFO captures marks them, and no others, as to be reissued. A lane that does
not work is left alone. R103, R110: the spare lane that has joined stands for the lane it was to replace; the pair's lane count
takes effect at its index and sets TRS_CAPACITY. -/
def Obligations.LanesRetireAndJoin : Prop :=
  (∀ (s : State) (l : Fin 17), s.Inv →
  (s.laneWorks l = false → exec (.laneFault l) s = .next s) ∧
  (s.laneWorks l = true → ∃ t, exec (.laneFault l) s = .next t ∧
    let lost := (s.trs.slots.filter fun e => e.1 / 4 == l.val).map fun e => e.2
    let kept := s.trs.slots.filter fun e => e.1 / 4 != l.val
    (s.fld TRS_FAULT_INFO_VALID = 1 → t.trs.slots = kept ∧ t.trs.ready = lost ++ s.trs.ready) ∧
    (s.fld TRS_FAULT_INFO_VALID = 0 → t.trs.slots = kept.map (fun e => (e.1, { e.2 with reissued := false })) ∧
      t.trs.ready = (lost ++ s.trs.ready).map (fun i => { i with reissued := lost.contains i })) ∧
    t.mem = s.mem ∧ t.mode = s.mode ∧ t.idx = s.idx)) ∧
  (∀ s : State,
  (∀ l, s.trs.joinFor = some l → exec .spareJoined s = .next (
    let m := s.takeMark 0x11
    let u := (m.2.setFld TRS_LANE_STAT_JOINING 0).onTrs fun u => { u with joinFor := none }
    let u := (u.setFld TRS_SPARE_IN_USE 1).setFld TRS_SPARE_STANDS_FOR l
    ((u.sprLog 1 false m.1 l 16).evt 0x11 3).lanesChanged.fusePend)) ∧
  (∀ l i, (s.trs.laneChange.filter fun p => idxLe p.2 s.idx).getLast? = some (l, i) → exec .pairLaneChange s =
    .next (((((s.setFld TRS_LANE_STAT_PAIR_LANES l).wrN TRS_CAPACITY (usable l s.rate)).onTrs fun u => { u with
      laneChange := u.laneChange.filter fun p => !idxLe p.2 s.idx }).reshed s.idx).reopen s.idx)))

/-- R85, R86: a check starts at once where Cairn is not staging and waits for the end of the stage where it is; its result is
that of the rules of R69 on the copy chosen, START falls, and a failure sets CHECK_FAIL too. No table changes. -/
def Obligations.GraphCheck : Prop := ∀ s : State,
  (∀ (m : Nat) (v : Reg32), s.Inv → s.takesWrite m TRS_CHECK_CTRL v → v.getLsbD 0 = true →
    s.fld TRS_CHECK_CTRL_START = 0 → exec (.checkStart m v) s = .next (
    let u := (s.setFld TRS_CHECK_CTRL_COPY (bitsNat v.toNat 1 1)).setFld TRS_CHECK_CTRL_START 1
    s.noteWrite (u.onTrs fun x => if s.staging then { x with checkWait := true }
      else { x with check := some (bitsNat v.toNat 1 1) }) m)) ∧
  (s.trs.checkWait = true → s.staging = false → exec .checkBegin s =
    .next (s.onTrs fun u => { u with checkWait := false, check := some (s.fld TRS_CHECK_CTRL_COPY) })) ∧
  (∀ c, s.trs.check = some c → exec .checkDone s = .next (
    let r := s.checkGraph c (s.selFor c)
    let u := ((s.putCheck r).setFld TRS_CHECK_CTRL_START 0).evt 0x10 0
    (if r.code = 0 then u else u.evt 0x10 1).onTrs fun x => { x with check := none })) ∧
  (∀ t, exec .checkDone s = .next t → s.Inv → t.mem = s.mem)


/-! ### Accesses of the bus masters (00, 02, 10) -/

/-- R6, R25: a command that is the write of one register of a page that decodes performs that write, in its turn among its
master's accesses (R36, R37); before its turn it waits. An active engine of a pair sends a write that the peer must see, and
performs it at the tick of its tag (16 R380, R381). Where a chapter leaves the result undefined, the machine goes on and the
value written is free (log entry 43). The management SPI notes whether its write met an error (R44). In RESET no access is
taken: whatever a master writes or reads, nothing changes (the model's choice, log entry 41). -/
def Obligations.RegisterRowsWrite : Prop :=
  (∀ (s : State) (c : Instr) (m off : Nat) (v : Reg32),
  s.rowWrite c = some (m, off, v) → (pageId (off / 0x1000)).isSome = true → off % 4 = 0 → off < 0x1000000 → s.mode ≠ .reset →
  let f := Forwarded.reg m off v
  let a := 0x01000000 + off
  (s.regMisuse m off v = false → ¬ s.sendsOn m a f → s.inTurn s.fwd (s.idx, f) = true →
    exec c s = .next (s.noteWrite (s.putReg m off v) m)) ∧
  (s.regMisuse m off v = false → ¬ s.sendsOn m a f → s.inTurn s.fwd (s.idx, f) = false →
    exec c s = .next { s with fwd := s.fwd ++ [(s.idx, f)] }) ∧
  (s.regMisuse m off v = false → s.sendsOn m a f → exec c s = .next (
    let u := s.newTag.2
    ({ u with fwd := u.fwd ++ [(s.newTag.1, f)] }).sendBelay 2 s.newTag.1
      (beBytes 1 m ++ beBytes 1 0 ++ beBytes 2 4 ++ beBytes 4 a ++ leBytes 4 v.toNat))) ∧
  (s.regMisuse m off v = true → exec c s = .next ((s.free 32).2.writeAccess m a (leBytes 4 (s.free 32).1.toNat)))) ∧
  (∀ s : State, s.mode = .reset →
  (∀ c m off v, s.rowWrite c = some (m, off, v) → exec c s = .next s) ∧
  (∀ m off, exec (.rcRead m off) s = .next s ∧ exec (.tickLatchRead m) s = .next s ∧ exec (.timeRead m off.toNat) s = .next s) ∧
  (∀ m a d k w, exec (.wordWrite m a d k w) s = .next s ∧ exec (.trussLiveWrite m a d) s = .next s ∧
    exec (.aliasSetWrite m a d) s = .next s ∧ exec (.aliasClearWrite m a d) s = .next s) ∧
  (∀ d x k, exec (.mspiWrite d x k) s = .next s) ∧ (∀ d k, exec (.mspiRead d k) s = .next s) ∧ (∀ b, exec (.mspiStatus b) s = .next s))

/-- R6 (RW): a register that has only RW or RWS fields takes the bits of those fields from the value written; its other bits
(R5) and the rest of the state stay. Where all its fields are staged, the write is a live write: it waits for the next sample
index (04 R73, 07 R140), and a read shows it at once. R6: a register reads as what the last write to it left, until something
writes it again, and a write of one register leaves every other as it was. R6 (RC): a read returns the value and clears the
register to 0. A read behind a write of its master to its target waits (R36). -/
def Obligations.RegistersHold : Prop :=
  (∀ (s : State) (m : Nat) (v : Reg32) (off : BitVec 24) (rw : Reg32),
  (off, rw) ∈ ([(0x000070, 0xFFFFFFFF), (0x000078, 0xFFFFFFFF), (0x002058, 0x8000FFFF), (0x004048, 0xFFFFFFFF), (0x006044, 0xFFF),
    (0x011040, 0x7F), (0x013040, 0x1F), (0x020044, 0x1FFF), (0x030044, 0xFFFF00FF), (0x031048, 0xFFFF), (0x032054, 0xFFFFFFFF),
    (0x033044, 0xFFFFFFFF), (0x033048, 0xFFFF), (0x03304C, 0xFFFFFFFF), (0x070048, 0x9F00FFFF), (0x079800, 0xF00007FF),
    (0x07A040, 0xFFFF), (0x080050, 0xFFFFFFFF), (0x0A0180, 0xFFFFFFFF), (0x0C0048, 0xFFFFFFFF), (0x0C1044, 0xFFFFFFFF),
    (0x0D0044, 0xFFFFFFFF), (0x100044, 0xFF0303FF), (0x10004C, 0xFFFF80FF)] : List (BitVec 24 × Reg32)) →
  s.takesWrite m off.toNat v →
  exec (.regWrite m off v) s = .next (s.noteWrite (
    if liveMask off.toNat = 0 then s.wr off.toNat ((s.rd off.toNat &&& ~~~rw) ||| (v &&& rw))
    else s.onCrn fun c => { c with live := mins c.live off.toNat (v &&& rw) }) m)) ∧
  (∀ (s : State) (a b : Nat) (v : Reg32), s.Inv →
  (s.wr a v).rd a = v ∧ (b ≠ a → (s.wr a v).rd b = s.rd b) ∧ (s.wr a v).Inv ∧ (s.wr a (s.rd a)) = s) ∧
  (∀ (s : State) (m : Nat) (off : BitVec 24), s.Inv → s.mode ≠ .reset →
  off ∈ ([0x001048, 0x00104C, 0x011068, 0x01106C, 0x013044, 0x020064, 0x030064, 0x040054, 0x060050, 0x062100, 0x070064, 0x080080,
    0x0A0050, 0x0C2808, 0x0C4054, 0x100084] : List (BitVec 24)) →
  (s.inTurn s.fwd (s.idx, .readReg m off.toNat) = true → s.pageGated (off.toNat / 0x1000) = false →
    s.frozenPage (off.toNat / 0x1000) = none →
    ∃ t, exec (.rcRead m off) s = .next t ∧ t = (s.wr off.toNat (t.rd off.toNat)).emit (.regData m off.toNat (s.written off.toNat (s.rd off.toNat))) ∧
      t.rd off.toNat = s.rd off.toNat &&& ~~~(rcBits off.toNat)) ∧
  (s.inTurn s.fwd (s.idx, .readReg m off.toNat) = false →
    exec (.rcRead m off) s = .next { s with fwd := s.fwd ++ [(s.idx, .readReg m off.toNat)] }))

/-- R30, R37: the header of every page. PG_EVT: a 1 clears the bit, a 0 does not. PG_EVT_ROUTE keeps VECTOR. PG_ID, PG_CAP,
PG_STAT and the reserved offsets ignore writes. A write of any value to PG_FENCE counts it up, wrapping at 2³². A page whose
soft reset runs takes no write but that of its fence (R32). -/
def Obligations.PageHeader : Prop := ∀ (s : State) (m : Nat) (p : Fin 4096) (v : Reg32), (pageId p).isSome = true →
  let w (o : Nat) := s.takesWrite m (0x1000 * p.val + o) v
  let write (o : Nat) := exec (.regWrite m (BitVec.ofNat 24 (0x1000 * p.val + o)) v) s
  let now (t : State) : Res := .next (s.noteWrite t m)
  (w 0x10 → write 0x10 = now (s.wr (0x1000 * p + 0x10) (s.rd (0x1000 * p + 0x10) &&& ~~~v))) ∧
  (w 0x18 → write 0x18 = now (s.wr (0x1000 * p + 0x18) (v &&& 0x3F))) ∧
  (∀ o ∈ [0x00, 0x04, 0x0C, 0x24, 0x28, 0x2C, 0x30, 0x34, 0x38, 0x3C], w o → write o = now s) ∧
  (∀ o, s.mode ≠ .reset → s.softBusy p = true → s.pageGated p = false → o % 4 = 0 → o < 0x1000 →
    s.inTurn s.fwd (s.idx, .reg m (0x1000 * p.val + o) v) = true →
    (o ≠ 0x20 → s.sendsOn m (0x01000000 + (0x1000 * p.val + o)) (.reg m (0x1000 * p.val + o) v) ∨ write o = now s) ∧
    (o = 0x20 → exec (.pgFence m p v) s = now (s.wr (0x1000 * p + 0x20) (s.rd (0x1000 * p + 0x20) + 1)))) ∧
  (w 0x20 → exec (.pgFence m p v) s = now (s.wr (0x1000 * p + 0x20) (s.rd (0x1000 * p + 0x20) + 1)))

/-- R31, R32: in CONFIG and SERVICE a 1 written to SOFT_RESET performs the page's soft reset and the bit reads 1 until the reset
is done; in another mode the field is refused (R478). A 1 written to FREEZE takes the snapshot of the page's status and
counters, and a 0 releases it. ENABLE keeps what is written where no rule has it ignore a write. R33, R23: in CONFIG and SERVICE
a 1 written to a bit of PG_INJ that the page has fires its detector; where R23 does not permit it the write is ignored and
counted in MTX_INJ_REFUSED. -/
def Obligations.SoftResetAndInject : Prop :=
  (∀ (s : State) (m : Nat) (p : Fin 4096) (v : Reg32), s.Inv →
  s.takesWrite m (0x1000 * p.val + 8) v →
  let u := if enableWrites p then s.setFld ⟨0x1000 * p + 8, 0, 0⟩ (if v.getLsbD 0 then 1 else 0) else s
  let fz : Fld := ⟨0x1000 * p + 8, 2, 2⟩
  (s.fld fz = 0 → v.getLsbD 2 = false → v.getLsbD 1 = true →
    (s.cfgMode = true → ∃ t, exec (.softReset m p v) s = .next (s.noteWrite t m) ∧ t = u.softReset p ∧ t.softBusy p = true ∧
      exec (.softResetDone p) t = .next (t.setFld ⟨0x1000 * p + 8, 1, 1⟩ 0)) ∧
    (s.cfgMode = false → exec (.softReset m p v) s = .next (s.noteWrite (u.errResp m (0x1000000 + (0x1000 * p.val + 8)) 5 true 4) m))) ∧
  (v.getLsbD 1 = false → s.fld fz = 0 → v.getLsbD 2 = true → enableWrites p = false →
    exec (.softReset m p v) s = .next (s.noteWrite ((s.freeze p).setFld fz 1) m)) ∧
  (v.getLsbD 1 = false → s.fld fz = 1 → v.getLsbD 2 = false → enableWrites p = false →
    exec (.softReset m p v) s = .next (s.noteWrite ((s.thaw p).setFld fz 0) m))) ∧
  (∀ (s : State) (m : Nat) (p : Fin 4096) (b : Fin 32),
  s.takesWrite m (0x1000 * p.val + 0x1C) (BitVec.ofNat 32 (2 ^ b.val)) →
  let write := exec (.pgInj m p (BitVec.ofNat 32 (2 ^ b.val))) s
  (s.cfgMode = true → (evtMask p).testBit b = true → write = .next (s.noteWrite (s.injectBit p b) m)) ∧
  (s.cfgMode = true → (evtMask p).testBit b = false → write = .next (s.noteWrite s m)) ∧
  (s.mode = .active → write = .next (s.noteWrite ((s.bump (whole MTX_INJ_REFUSED)).evt 1 3) m)) ∧
  (p.val ∈ [0x10, 0x12, 0x33] → s.injectBit p b = s.evt p b))

/-- R30, R33, R34: what a detector does, shown for the watchdog's warning. The bit sets whether or not it is enabled; only a bit
that becomes set while enabled requests the page's vector: the message is sent, or the pending bit set where the vector is
masked. R34: the message of a vector that waits is sent when the vector is unmasked, and its pending bit clears. -/
def Obligations.EventsSend : Prop :=
  (∀ s : State, s.Inv → s.wdtRuns = true →
  ∃ t, exec .wdtWarn s = .next t ∧
    let v := bitsNat (s.rd 0x2018).toNat 5 0
    t.rd 0x2010 = s.rd 0x2010 ||| 0x10 ∧
    ((s.rd 0x2010).getLsbD 4 = true ∨ (s.rd 0x2014).getLsbD 4 = false → t.out = s.out ∧ t.rd 0xC00 = s.rd 0xC00 ∧ t.rd 0xC04 = s.rd 0xC04) ∧
    ((s.rd 0x2010).getLsbD 4 = false → (s.rd 0x2014).getLsbD 4 = true →
      ((s.rd (0x80C + 16 * v)).getLsbD 0 = false →
        t.out = .msi v ((s.rd (0x800 + 16 * v)).toNat + 2 ^ 32 * (s.rd (0x804 + 16 * v)).toNat) (s.rd (0x808 + 16 * v)) :: s.out) ∧
      ((s.rd (0x80C + 16 * v)).getLsbD 0 = true → t.out = s.out ∧ (t.rd (0xC00 + 4 * (v / 32))).getLsbD (v % 32) = true))) ∧
  (∀ (s : State) (m : Nat) (v : Fin 64), s.Inv →
  s.takesWrite m (0x80C + 16 * v.val) 0 → s.vectorWaits v = true →
  ∃ t, exec (.regWrite m (BitVec.ofNat 24 (0x80C + 16 * v.val)) 0) s = .next (s.noteWrite t m) ∧ t.vectorWaits v = false ∧
    t.out = .msi v ((s.rd (0x800 + 16 * v)).toNat + 2 ^ 32 * (s.rd (0x804 + 16 * v)).toNat) (s.rd (0x808 + 16 * v)) :: s.out)

/-- R42: the error response of a write: to a page that does not decode (cause 0), to a register of a power-gated island (cause
3), to a register at an offset that is no multiple of 4 (cause 1), to a word of a bank that is not ON (cause 2), and to an alias
by a master that R40 keeps from it (cause 0), at the address of the access. R42: MTX_ERR_ADDR and MTX_ERR_INFO capture the first
access that meets an error and MTX_ERR_CNT counts all of them, saturating; a later one sets OVERFLOW and changes nothing of the
capture. A new capture leaves OVERFLOW as it is (log entry 42). -/
def Obligations.AccessErrors : Prop :=
  (∀ (s : State) (m : Nat), s.mode ≠ .reset →
  let takes (a : Nat) (d : List Byte) := ¬ s.sendsOn m a (asForwarded m a d) ∧ s.inTurn s.fwd (s.idx, asForwarded m a d) = true
  (∀ (off : BitVec 24) (v : Reg32), takes (0x01000000 + off.toNat) (leBytes 4 v.toNat) →
    let write := exec (.regWrite m off v) s
    let err (cause : Nat) : Res := .next (s.noteWrite (s.errResp m (0x01000000 + off.toNat) cause true 4) m)
    ((pageId (off.toNat / 0x1000)).isNone = true → write = err 0) ∧
    ((pageId (off.toNat / 0x1000)).isSome = true → off.toNat % 4 ≠ 0 → write = err 1) ∧
    ((pageId (off.toNat / 0x1000)).isSome = true → off.toNat % 4 = 0 → s.pageGated (off.toNat / 0x1000) = true → write = err 3)) ∧
  (∀ (a : Nat) (d : List Byte) (w : Nat), slotShape a d.length = true → 0x10000000 ≤ a → a < 0x18000000 → a % 16 + d.length ≤ 16 →
    let u := s.waited m a w
    takes a d → u.misuse m a d = false → masterReaches m (a / 16 * 16) (.bank (a / 16 * 16)) = true → s.bankState (bankOf a) ≠ 2 →
    exec (.wordWrite m a d none w) s = .next (u.noteWrite (u.errResp m a 2 true d.length) m)) ∧
  (∀ (a : Nat) (d : List Byte), slotShape a d.length = true → 0x20000000 ≤ a → a < 0x28000000 → m = 6 ∨ m = 7 → takes a d →
    exec (.aliasSetWrite m a d) s = .next (s.noteWrite (s.errResp m a 0 true d.length) m))) ∧
  (∀ (s : State) (m addr cause size : Nat) (w : Bool), s.Inv → m < 64 → cause < 16 → addr < 2 ^ 32 →
  let t := s.errResp m addr cause w size
  t.fld (whole MTX_ERR_CNT) = min (s.fld (whole MTX_ERR_CNT) + 1) 0xFFFFFFFF ∧
  (s.fld MTX_ERR_INFO_VALID = 1 → t.rd MTX_ERR_ADDR = s.rd MTX_ERR_ADDR ∧ t.fld MTX_ERR_INFO_OVERFLOW = 1 ∧
    t.rd MTX_ERR_INFO = s.rd MTX_ERR_INFO ||| (t.rd MTX_ERR_INFO &&& 0x40000000)) ∧
  (s.fld MTX_ERR_INFO_VALID = 0 → (t.rd MTX_ERR_ADDR).toNat = addr ∧ t.fld MTX_ERR_INFO_VALID = 1 ∧
    t.fld MTX_ERR_INFO_OVERFLOW = s.fld MTX_ERR_INFO_OVERFLOW) ∧ t.mem = s.mem)

/-! ### Resets, modes and power (02, 19) -/

/-- R443, R445: what each reset source does. Every one leads to RESET; during a Descent only the power-on reset acts. A cold
reset leaves no register or memory byte of before but PWR_DESCENT; SYS_STAT.LAST_RESET names the source. R443, 00 R6: a warm
reset keeps the bank contents, the Chisel memories, the registers of the scene directory, the journal, the SPR log and the spare
banks, and nothing of the mailbox; the RWS fields keep their values and the RW fields beside them do not. R26, R45: REMAP sets
and stays set until the next reset; a write of SYS_CTRL without its key resets nothing. R446: the kick and the control register
of the watchdog. Its count is time, which the model leaves to the WDT_WARN and WATCHDOG_EXPIRY events. -/
def Obligations.ResetsAndWatchdog : Prop :=
  (∀ s : State, s.Inv →
  (∃ t, exec .powerOnReset s = .next t ∧ t.mode = .reset ∧ t.mem = [] ∧ t.fld SYS_STAT_LAST_RESET = 0 ∧
    t.fld PWR_SUPPLY_STAT_IN_RANGE = 0xFF ∧ t.idx = 0 ∧ t.time = 0 ∧ t.tyd.vol = s.tyd.vol) ∧
  (s.descending = false →
    (∃ t, exec .perstReset s = .next t ∧ t = s.enterReset 1 false ∧ t.mode = .reset ∧ t.fld SYS_STAT_LAST_RESET = 1) ∧
    (∃ t, exec .sysReset s = .next t ∧ t = s.enterReset 2 true ∧ t.mode = .reset ∧ t.mem = [] ∧ t.fld SYS_STAT_LAST_RESET = 2) ∧
    (s.wdtRuns = true → ∃ t, exec .watchdogExpiry s = .next t ∧ t.mode = .reset ∧ t.fld SYS_STAT_LAST_RESET = 4) ∧
    (∀ m v, s.takesWrite m SYS_CTRL v → v.getLsbD 1 = true → bitsNat v.toNat 15 8 = 0xA7 →
      ∃ t, exec (.warmReset m v) s = .next t ∧ t.mode = .reset ∧ t.fld SYS_STAT_LAST_RESET = 3)) ∧
  (s.wdtRuns = false → exec .watchdogExpiry s = .next s) ∧
  (s.descending = true → exec .perstReset s = .next s ∧ exec .sysReset s = .next s ∧ exec .watchdogExpiry s = .next s)) ∧
  (∀ s : State, s.Inv → s.descending = false →
  ∃ t, exec .perstReset s = .next t ∧
    (∀ a, 0x10000000 ≤ a → a < 0x18000000 → mget 0 t.mem a = mget 0 s.mem a) ∧
    (∀ a, 0x3C000000 ≤ a → mget 0 t.mem a = 0) ∧ (∀ a, a < 0x08000000 → mget 0 t.mem a = 0) ∧ t.fld SYS_CTRL_REMAP = 0 ∧
    (∀ a, warmKeeps a = true → t.rd a = s.rd a) ∧
    t.rd MEM_CTRL = (s.rd MEM_CTRL &&& warmBits MEM_CTRL) ||| (regReset MEM_CTRL &&& ~~~(warmBits MEM_CTRL))) ∧
  (∀ (s : State) (m : Nat) (v : Reg32), s.Inv → s.takesWrite m SYS_CTRL v →
  (v.getLsbD 1 = true → bitsNat v.toNat 15 8 = 0xA7 → s.descending = true) →
  ∃ t, exec (.remap m v) s = .next (s.noteWrite t m) ∧ t = s.wr SYS_CTRL ((s.rd SYS_CTRL ||| v) &&& 1) ∧
    (v.getLsbD 0 = true ∨ s.fld SYS_CTRL_REMAP = 1 → t.fld SYS_CTRL_REMAP = 1)) ∧
  (∀ (s : State) (m : Nat) (v : Reg32),
  (s.takesWrite m PWR_WDT_KICK v → exec (.wdtKick m v) s = .next (s.noteWrite s m)) ∧
  (s.takesWrite m PWR_WDT_CTRL v → exec (.wdtCtrl m v) s =
    .next (s.noteWrite (s.wr PWR_WDT_CTRL ((s.rd PWR_WDT_CTRL &&& 0x7FFF0000) ||| (v &&& 0x8000FFFF))) m)))

/-- R452: a write of PWR_MODE_REQ begins the request that R452's table carries out later: BUSY with its TARGET. While BUSY is 1
a write is counted in IGNORED; FORCE without its key is ignored; a request that the table does not have completes at once,
NOT_ALLOWED, and one to leave ACTIVE without FORCE needs a peer in lockstep, to which it plans a swap. R452, R20, R378: a
request that waits for no swap or join is carried out: the mode is entered, RESULT and CODE read 0 and BUSY falls; on entry to
ACTIVE ACT_OUT rises where ACT_IN is low, and where a peer that is not declared failed holds ACT_IN high the request fails with
ACT_CONFLICT. -/
def Obligations.ModeRequests : Prop :=
  (∀ (s : State) (m : Nat) (v : Reg32), s.takesWrite m PWR_MODE_REQ v →
  let t := bitsNat v.toNat 2 0
  let now (u : State) : Res := .next (s.noteWrite u m)
  (v.getLsbD 8 = true → bitsNat v.toNat 31 24 ≠ 0xF0 → exec (.modeReqConfig m v) s = now s ∧ exec (.modeReqService m v) s = now s) ∧
  (v.getLsbD 8 = false →
    (s.fld PWR_MODE_STAT_BUSY = 1 → exec (.modeReqActive m v) s = now (s.bump PWR_MODE_STAT_IGNORED)) ∧
    (s.fld PWR_MODE_STAT_BUSY ≠ 1 →
      (s.mode = .config → t = 3 → exec (.modeReqActive m v) s = now (s.beginReq 3)) ∧
      (s.mode = .config → t = 5 → exec (.modeReqService m v) s = now (s.beginReq 5)) ∧
      (s.mode = .config → t = 4 → exec (.modeReqStandby m v) s = now (
        if (s.beginReq 4).peerReady ∧ ¬ s.bly.joining then (s.beginReq 4).startJoin else (s.beginReq 4).finishReq 4 3)) ∧
      (s.mode = .service → t = 2 → exec (.modeReqConfig m v) s = now (s.beginReq 2)) ∧
      (s.mode = .standby → t = 2 → exec (.modeReqConfig m v) s = now (s.beginReq 2)) ∧
      (s.mode = .standby → t = 3 → exec (.modeReqActive m v) s = now ((s.beginReq 3).finishReq 1 0)) ∧
      (s.mode = .active → t = 5 → (s.beginReq 5).lockstep = false → exec (.modeReqService m v) s = now ((s.beginReq 5).finishReq 3 0)) ∧
      (s.mode = .active → t = 5 → (s.beginReq 5).lockstep = true → s.bly.hold = false → s.bly.swap.isNone = true →
        exec (.modeReqService m v) s =
          now (((s.beginReq 5).onSys fun y => { y with swapReq := true }).planSwap (s.idx + 16) false))))) ∧
  (∀ (s : State) (fails : List Nat), s.Inv → s.fld PWR_MODE_STAT_BUSY = 1 → s.bly.hold = false →
  (s.mode = .config → s.fld PWR_MODE_STAT_TARGET = 3 → s.fld BLY_STAT_ACT_IN = 1 → s.fld BLY_STAT_PEER_FAILED = 0 →
    exec (.reqDone fails) s = .next (s.finishReq 2 0)) ∧
  (s.mode = .config → s.fld PWR_MODE_STAT_TARGET = 3 → s.fld BLY_STAT_ACT_IN = 0 →
    ∃ t, exec (.reqDone fails) s = .next t ∧ t.mode = .active ∧ t.fld PWR_MODE_STAT_BUSY = 0) ∧
  (s.mode = .service → s.fld PWR_MODE_STAT_TARGET = 2 → ∃ t, exec (.reqDone fails) s = .next t ∧ t.mode = .config) ∧
  (s.mode = .config → s.fld PWR_MODE_STAT_TARGET = 5 → ∃ t, exec (.reqDone fails) s = .next t ∧ t.mode = .service))

/-- R444, R447: out of RESET, with every rail in range, the straps are sensed and BIST runs; a BIST failure gives SELFTEST_CAUSE
1, and the engine stays in SELFTEST, where no download is taken any more. Past it the engine enters CONFIG once REMAP is set and
an image is accepted. -/
def Obligations.BootRuns : Prop := ∀ (s : State) (x : ResetExit) (ms : Nat), s.Inv →
  (s.mode = .reset → s.fld PWR_SUPPLY_STAT_IN_RANGE = 0xFF → x.bist = false →
    ∃ t, exec (.resetExit x) s = .next t ∧ t.mode = .selftest ∧ t.fld SYS_STAT_SELFTEST_CAUSE = 1 ∧
      t.fld PWR_STRAP_BOOT_SRC = x.bootSrc.toNat ∧ t.fld BLY_STAT_SENIOR = x.senior.toNat) ∧
  (s.mode = .selftest → s.fld SYS_CTRL_REMAP = 1 → s.sys.booted = true →
    ∃ t, exec (.bootDone ms) s = .next t ∧ t.mode = .config) ∧
  (s.mode = .selftest → (s.fld SYS_CTRL_REMAP = 0 ∨ s.sys.booted = false) → exec (.bootDone ms) s = .next s) ∧
  (∀ m v, s.takesWrite m PWR_BOOT_CTRL v → s.mode = .selftest → s.fld PWR_STRAP_BOOT_SRC = 1 → s.sys.booted = false →
    s.fld SYS_STAT_SELFTEST_CAUSE ≠ 1 → v.getLsbD 31 = true → ∃ t, exec (.bootGo m v) s = .next t ∧ t.fld PWR_BOOT_CTRL_LENGTH = bitsNat v.toNat 23 0 ∧
      (∀ e, s.checkImage (s.downloaded (bitsNat v.toNat 23 0 + 1)) (some (bitsNat v.toNat 23 0 + 1)) 0x16000000 = .error e → e < 16 →
        t.fld SYS_STAT_SELFTEST_CAUSE = e ∧ t.mem = s.mem))

/-- R441, R455: a rail that leaves its range clears its bit of IN_RANGE, FIRST names the first one and SUPPLY_FAULT is raised;
an engine in ACTIVE or STANDBY resigns with cause 3. A rail's return sets its bit, and a supply that is whole again, or
POWER_FAIL's end, is noted by a Descent that runs. R454: the Descent. Step 1 freezes the recorder and gives up a planned swap;
the steps after the flush switch every Mallet channel off, and an engine that has nothing to hand over enters RESET with
LAST_RESET 5 and its record in PWR_DESCENT; an active engine with a peer resigns first, and the Descent ends with its hold. -/
def Obligations.SupplyAndDescent : Prop :=
  (∀ (s : State) (r : Fin 8), s.Inv →
  (s.cfgMode = true → ∃ t, exec (.supplyFault r) s = .next t ∧ (t.fld PWR_SUPPLY_STAT_IN_RANGE).testBit r = false ∧
    (s.fld PWR_SUPPLY_STAT_FIRST = 0 → t.fld PWR_SUPPLY_STAT_FIRST = r + 1) ∧ (t.rd 0x2010).getLsbD 0 = true ∧ t.mode = s.mode) ∧
  (s.mode = .active → s.bly.hold = false →
    ∃ t, exec (.supplyFault r) s = .next t ∧ t.mode = .active ∧ t.bly.hold = true ∧ bitsNat (t.rd BLY_CAUSE).toNat 7 0 = 3) ∧
  (∃ t, exec (.supplyInRange r) s = .next t ∧ (t.fld PWR_SUPPLY_STAT_IN_RANGE).testBit r = true ∧ t.mode = s.mode ∧
    (s.descending = true → t.fld PWR_SUPPLY_STAT_IN_RANGE = 0xFF → t.sys.returned = true)) ∧
  (s.descending = true → exec .powerFailDeassert s = .next (s.onSys fun y => { y with returned := true }))) ∧
  (∀ (s : State) (us : Nat),
  (s.mode ≠ .reset → s.mode ≠ .selftest → s.descending = false → exec .descent s =
    .next ((s.onSys fun y => { y with descent := some none, returned := false, resigned := false }).dropSwap.tydFreeze)) ∧
  (s.sys.descent = some none → s.bly.hold = false → s.cfgMode = true → s.Inv → us < 65536 →
    ∃ t, exec (.descentFlushDone us) s = .next t ∧ t.mode = .reset ∧ t.fld SYS_STAT_LAST_RESET = 5 ∧
      (t.rd PWR_DESCENT).toNat = 2 ^ 31 + (if s.sys.returned then 2 ^ 30 else 0) + (if s.sys.resigned then 2 ^ 29 else 0) + us) ∧
  (s.sys.descent = some none → s.bly.hold = false → s.mode = .active → (s.tydJournal.mltAllOff).mode = .active →
    (s.tydJournal.mltAllOff).bly.hold = false → (s.tydJournal.mltAllOff).peerThere = true →
    exec (.descentFlushDone us) s =
      .next ((s.tydJournal.mltAllOff.resign 4).onSys fun y => { y with descent := some (some us), resigned := true })) ∧
  (s.sys.descent = none → s.bly.hold = true → ∀ fails, exec (.holdEnd fails) s = .next (s.endHold fails)))

/-- R453, R17, R18: a request for island power reads back as written and changes no power yet; when it is done PWR_ISL_STAT is
the accepted request and ISL_DONE is raised; a request in another mode than CONFIG and SERVICE is refused. -/
def Obligations.IslandPower : Prop := ∀ (s : State) (m : Nat) (v : Reg32), s.Inv →
  (s.takesWrite m PWR_ISL_REQ v → s.cfgMode = true →
    ∃ t, exec (.pwrIslReq m v) s = .next t ∧ t.rd PWR_ISL_REQ = v &&& 0x1FFFFFF ∧ t.rd PWR_ISL_STAT = s.rd PWR_ISL_STAT ∧
      t.sys.islands.isSome = true ∧ t.mem = s.mem) ∧
  (s.takesWrite m PWR_ISL_REQ v → s.cfgMode = false → (v &&& 0x1FFFFFF) ≠ s.rd PWR_ISL_REQ →
    exec (.pwrIslReq m v) s = .next (s.noteWrite (s.errResp m (0x1000000 + PWR_ISL_REQ) 5 true 4) m)) ∧
  (∀ n, s.sys.islands = some n → n < 2 ^ 25 → ∃ t, exec .islDone s = .next t ∧ (t.rd PWR_ISL_STAT).toNat = n ∧
    t.sys.islands = none ∧ (t.rd 0x2010).getLsbD 2 = true)

/-- R49, R50: BLOW with its key starts to blow the fuse at FUS_ADDR, in CONFIG and SERVICE, while nothing is busy and the region
is not locked; elsewhere it is refused (R478; whatever its key, log entry 47). SENSE re-reads the array into FUS_RDATA only:
what the engine has sensed at its last reset stays. R50: what the end of a blow and of a sense leave. -/
def Obligations.Fuses : Prop :=
  (∀ (s : State) (m : Nat) (v : Reg32), s.Inv → s.takesWrite m FUS_CTRL v →
  s.fld FUS_STAT_BLOW_BUSY = 0 → s.fld FUS_STAT_SENSE_BUSY = 0 →
  let now (u : State) : Res := .next (s.noteWrite u m)
  (v.getLsbD 1 = true → v.getLsbD 0 = false → s.cfgMode = true → bitsNat v.toNat 31 16 = 0x4655 →
    (s.fuseLocked ((s.rd FUS_ADDR).toNat % 4096) = false → exec (.blow m v) s =
      now ((s.setFld FUS_STAT_BLOW_BUSY 1).onSys fun y => { y with blowAddr := (s.rd FUS_ADDR).toNat % 4096 })) ∧
    (s.fuseLocked ((s.rd FUS_ADDR).toNat % 4096) = true → exec (.blow m v) s = now (s.setFld FUS_STAT_LOCK_ERR 1))) ∧
  (v.getLsbD 1 = true → v.getLsbD 0 = false → s.cfgMode = true → bitsNat v.toNat 31 16 ≠ 0x4655 → exec (.blow m v) s = now s) ∧
  (v.getLsbD 1 = true → v.getLsbD 0 = false → s.cfgMode = false →
    exec (.blow m v) s = now (s.errResp m (0x1000000 + FUS_CTRL) 5 true 4)) ∧
  (v.getLsbD 1 = false → v.getLsbD 0 = true → exec (.sense m v) s = now (s.setFld FUS_STAT_SENSE_BUSY 1))) ∧
  (∀ (s : State) (ok : Bool), s.Inv →
  (s.fld FUS_STAT_BLOW_BUSY = 1 → ∃ t, exec (.blowDone ok) s = .next t ∧ t.fld FUS_STAT_BLOW_BUSY = 0 ∧ (t.rd 0x6010).getLsbD 0 = true ∧
    t.sys.fuseSensed = s.sys.fuseSensed ∧ (ok = true → mget false t.sys.fuseBlown s.sys.blowAddr = true) ∧
    (ok = false → t.sys.fuseBlown = s.sys.fuseBlown) ∧
    (ok = false → mget false s.sys.fuseBlown s.sys.blowAddr = false → t.fld FUS_STAT_BLOW_FAIL = 1)) ∧
  (s.fld FUS_STAT_SENSE_BUSY = 1 → exec .senseDone s =
    .next ((s.setFld FUS_STAT_SENSE_BUSY 0).onSys fun y => { y with fuseRdata := y.fuseBlown })))

/-! ### Chisel instructions (08, 09) -/

/-- R205, R211, R218: the instructions on D registers. The results are the stated functions of the operands; the D register or
the flags are written two instructions later (R179), and the cycle ends, at LEA with the turn of the loop (R181). Nothing else
changes but the core. -/
def Obligations.DataInstructions : Prop := ∀ (s : State) (p : Fin 17) (w : Word),
  let l := s.atLoopEnd p
  let a := l.2.readD p (fDA w)
  let b := a.2.readD p (fDB w)
  let two (f : Word → Word → Word) : Res := .next ((b.2.launchD p 0 (fDD w) (f a.1 b.1)).endCycle p l.1)
  (s.issues p 0x10 w → exec (.ldi p) s = .next ((l.2.launchD p 0 (fDD w)
    (BitVec.ofInt 72 ((BitVec.ofNat 24 (wbits w 55 32)).toInt * 2 ^ wbits w 61 56))).endCycle p l.1)) ∧
  (s.issues p 0x11 w → exec (.dmov p) s = .next ((a.2.launchD p 0 (fDD w) a.1).endCycle p l.1)) ∧
  (s.issues p 0x12 w → exec (.dcmp p) s =
    .next ((b.2.launchFlags p 2 (decide (a.1.toInt < b.1.toInt)) (a.1 == b.1) false).endCycle p l.1)) ∧
  (s.issues p 0x13 w → exec (.dtst p) s = .next ((a.2.launchFlags p 2 a.1.msb (a.1 == 0) false).endCycle p l.1)) ∧
  (s.issues p 0x14 w → exec (.dmax p) s = two fun x y => if x.toInt < y.toInt then y else x) ∧
  (s.issues p 0x15 w → exec (.dmin p) s = two fun x y => if x.toInt < y.toInt then x else y) ∧
  (s.issues p 0x16 w → exec (.dand p) s = two fun x y => x &&& y) ∧
  (s.issues p 0x17 w → exec (.dor p) s = two fun x y => x ||| y) ∧
  (s.issues p 0x18 w → exec (.dxor p) s = two fun x y => x ^^^ y)

/-- R179, R181: with nothing on its way a read gives the register as it stands, whichever kind it is, and changes nothing; the
instruction stands at the end of a hardware loop where LA is 1 and LEA is its address, outside a delay slot. R179, R201: a
result lands in its own register and in no other: once everything on its way has landed, the D register of the result holds it
and the other registers hold what they held. -/
def Obligations.ResultsLand : Prop :=
  (∀ (s : State) (p n : Nat), s.settled p →
  s.readD p n = (mget 0 (s.core p).r.d n, s) ∧ s.readAcc p n = (mget 0 (s.core p).r.acc n, s) ∧
  s.readSum p n = (mget 0 (s.core p).r.acc n, s) ∧ s.readNamed p n = ((s.core p).r.named n, s) ∧
  s.readForAddress p n = ((s.core p).r.named n, s) ∧ s.readFlags p = ((s.core p).r.named rnST % 8, s) ∧
  s.atLoopEnd p = ((s.core p).delay.isNone && (s.core p).stBit 14 && (s.core p).r.named rnLEA == (s.core p).pc, s)) ∧
  (∀ (s : State) (p n : Nat) (v : Word), s.settled p → risingFrom none s.chs.cores = true →
  risingFrom none (s.core p).r.d = true →
  let t := (s.launchD p 0 n v).landAll p
  mget 0 (t.core p).r.d n = v ∧ (∀ k, k ≠ n → mget 0 (t.core p).r.d k = mget 0 (s.core p).r.d k) ∧
    (t.core p).r.acc = (s.core p).r.acc ∧ (t.core p).r.ar = (s.core p).r.ar ∧ t.settled p ∧ t.mem = s.mem ∧
    (∀ q, q ≠ p → t.core q = s.core q))

/-- R207, R208, R209, R210: the instructions on accumulators. Products are exact and sums wrap at 160 bits; an accumulator is
written three instructions later, a D register two. -/
def Obligations.AccumulatorInstructions : Prop := ∀ (s : State) (p : Fin 17) (w : Word),
  let l := s.atLoopEnd p
  let a := l.2.readD p (fDA w)
  let x := l.2.readAcc p (fAX w)
  let y := l.2.readAcc p (fAY w)
  let sh := (BitVec.ofNat 8 (wbits w 39 32)).toInt
  let done (t : State) : Res := .next (t.endCycle p l.1)
  (s.issues p 0x23 w → exec (.clra p) s = done (((List.range 4).filter fun n => (fEN w).testBit n).foldl
    (fun s n => s.launch p 0 3 (.acc n 0 160) 0) l.2)) ∧
  (s.issues p 0x24 w → exec (.accmov p) s = done (y.2.launch p 0 3 (.acc (fAX w) 0 160) y.1)) ∧
  (s.issues p 0x25 w → exec (.accsh p) s = done (y.2.launch p 0 3 (.acc (fAX w) 0 160)
    (BitVec.ofInt 160 (if 0 ≤ sh then y.1.toInt * 2 ^ sh.toNat else y.1.toInt >>> (-sh).toNat)))) ∧
  (s.issues p 0x29 w → exec (.accrd p) s = done (x.2.launchD p 0 (fDD w) (
    if wbits w 61 60 = 0 then x.1.setWidth 72 else if wbits w 61 60 = 1 then (x.1 >>> 72).setWidth 72
    else ((x.1 >>> 144).setWidth 16).signExtend 72))) ∧
  (s.issues p 0x2A w →
    (wbits w 57 56 = 0 → exec (.accwr p) s = done (a.2.launch p 0 3 (.acc (fAX w) 0 72) (BitVec.ofNat 160 a.1.toNat))) ∧
    (wbits w 57 56 = 1 → exec (.accwr p) s = done (a.2.launch p 0 3 (.acc (fAX w) 72 72) (BitVec.ofNat 160 a.1.toNat))) ∧
    (wbits w 57 56 = 2 → exec (.accwr p) s =
      done (a.2.launch p 0 3 (.acc (fAX w) 144 16) (BitVec.ofNat 160 (a.1.toNat % 2 ^ 16))))) ∧
  (s.issues p 0x28 w → exec (.ext p) s = done (
    let q := extract x.1 (wbits w 54 48) (wbits w 59 57) (w.toNat.testBit 60)
    let t := x.2.launchD p 0 (fDD w) (BitVec.ofInt 72 (q.1 * 2 ^ wbits w 41 36))
    let t := if q.2 then t.launch p 0 2 .sat 0 else t
    if w.toNat.testBit 61 then t.launchFlags p 2 (decide (q.1 < 0)) (decide (q.1 = 0)) q.2 else t))

/-- R207, R218, R219: the multiply-accumulates: OP 1 replaces the accumulator by the exact product, OP 2 adds it, OP 3 subtracts
it, OP 0 leaves it; ACCD's term is its D register at the accumulator's binary point. Where F asks for them, the flags are those
of the first accumulator named. MACD that names one accumulator twice gives it a free value (09, Undefined cases). -/
def Obligations.MultiplyAccumulate : Prop := ∀ (s : State) (p : Fin 17) (w : Word), s.settled p →
  let d (n : Nat) : Int := (mget 0 (s.core p).r.d n).toInt
  let acc (n : Nat) : Acc := mget 0 (s.core p).r.acc n
  let op := wbits w 65 64
  let opy := wbits w 41 40
  let done (t : State) : Res := .next (t.endCycle p (s.atLoopEnd p).1)
  let put (n : Nat) (v : Acc) (t : State) : State := t.launch p 0 3 (.sum n) v
  let flags (v : Acc) (t : State) : State := t.launchSumFlags p (w.toNat.testBit 63) v
  let ns := (List.range 4).filter fun n => (fEN w).testBit n
  let q (n : Nat) : Acc := accOp op (acc n) (d (fDA w) * d (wbits w (57 - 4 * n) (54 - 4 * n)))
  let x : Acc := accOp op (acc (fAX w)) (d (fDA w) * d (fDB w))
  let y : Acc := accOp opy (acc (fAY w)) (d (wbits w 53 50) * d (wbits w 49 46))
  let z : Acc := accOp op (acc (fAX w)) (d (fDA w) * 2 ^ 63)
  (s.issues p 0x20 w → ns = [] → exec (.macq p) s = done s) ∧
  (s.issues p 0x20 w → ns ≠ [] → exec (.macq p) s =
    done (flags (q (ns.headD 0)) (if op = 0 then s else ns.foldl (fun t n => put n (q n) t) s))) ∧
  (s.issues p 0x21 w → op = 0 → opy = 0 → exec (.macd p) s = done s) ∧
  (s.issues p 0x21 w → op ≠ 0 → opy = 0 → exec (.macd p) s = done (flags x (put (fAX w) x s))) ∧
  (s.issues p 0x21 w → op = 0 → opy ≠ 0 → exec (.macd p) s = done (flags y (put (fAY w) y s))) ∧
  (s.issues p 0x21 w → op ≠ 0 → opy ≠ 0 → fAX w ≠ fAY w → exec (.macd p) s = done (flags x (put (fAY w) y (put (fAX w) x s)))) ∧
  (s.issues p 0x21 w → op ≠ 0 → opy ≠ 0 → fAX w = fAY w → exec (.macd p) s =
    done (flags (s.free 160).1 (put (fAX w) (s.free 160).1 (s.free 160).2))) ∧
  (s.issues p 0x22 w → exec (.accd p) s = done (flags z (if op = 0 then s else put (fAX w) z s)))

/-- R206, R212, R213: moves to and from the named registers, each with R212's timing, and the bits of ST that STSET and STCLR
change. -/
def Obligations.NamedRegisterMoves : Prop := ∀ (s : State) (p : Fin 17) (w : Word),
  let l := s.atLoopEnd p
  let d := l.2.readD p (fDA w)
  let r := l.2.readNamed p (fRN w)
  let st := l.2.readST p
  let done (t : State) : Res := .next (t.endCycle p l.1)
  (s.issues p 0x08 w → exec (.movri p) s = done (l.2.launchNamed p 0 (fRN w) (fIMM w))) ∧
  (s.issues p 0x09 w → exec (.movrd p) s = done (d.2.launchNamed p 0 (fRN w) (d.1.toNat % 65536))) ∧
  (s.issues p 0x0A w → exec (.movdr p) s = done (r.2.launchD p 0 (fDD w) (extendNamed (fRN w) r.1))) ∧
  (s.issues p 0x0B w → exec (.stset p) s = done (st.2.launch p 0 2 .st (BitVec.ofNat 160 (st.1 ||| fIMM w)))) ∧
  (s.issues p 0x0C w → exec (.stclr p) s = done (st.2.launch p 0 2 .st (BitVec.ofNat 160 (st.1 &&& (0xFFFF - fIMM w)))))

/-- R180, R181, R192, R213 to R216: branches take effect after two delay slots, with the link past them; RTI goes to the address
that the interrupt left; a loop sets LSA, LEA and LC at the end of its cycle, and a count of 0 skips its body; NOP only ends its
cycle. An instruction whose use 08 or 09 leaves undefined where it stands stops the machine, and so does a control instruction
at the end of a hardware loop, a taken branch out of the program and a loop that ends before it begins. -/
def Obligations.ControlInstructions : Prop := ∀ (s : State) (p : Fin 17) (w : Word), s.settled p →
  let c := s.core p
  let e := (s.atLoopEnd p).1
  let issues (op : Nat) := s.issues p op w ∧ e = false
  let holds := wbits w 65 62 = 0 ∨ condHolds (wbits w 65 62) (c.r.named rnST % 8) = true
  let target := c.r.named (rnP (wbits w 60 58)) % 4096
  let done (t : State) : Res := .next (t.endCycle p false)
  let goto (a : Nat) (rti : Bool) (t : State) : Res := .next ((t.endCycle p false).onCore p fun k => { k with delay := some (2, a, rti) })
  let put (rn v : Nat) (t : State) : State := t.launch p 0 1 (.ar rn) (BitVec.ofNat 160 (v % 2 ^ rnWidth rn))
  (s.issues p 0x00 w → exec (.nop p) s = .next (s.endCycle p e)) ∧
  (issues 0x01 → exec (.halt p) s = .next ((s.endCycle p false).halt p c.pc (c.stBit 14))) ∧
  (issues 0x02 → exec (.rti p) s = goto (c.r.named rnIRA % 4096) true s) ∧
  (issues 0x03 → ¬ holds → exec (.br p) s = done s) ∧
  (issues 0x03 → holds → c.inCode (fTGT w) = true → exec (.br p) s = goto (fTGT w) false s) ∧
  (issues 0x03 → holds → c.inCode (fTGT w) = false → exec (.br p) s = .fault .undefinedInstruction) ∧
  (issues 0x04 → ¬ holds → exec (.brl p) s = done s) ∧
  (issues 0x04 → holds → c.inCode (fTGT w) = true → exec (.brl p) s =
    goto (fTGT w) false (s.launchNamed p 0 (rnP (wbits w 60 58)) ((c.pc + 3) % 4096))) ∧
  (issues 0x05 → ¬ holds → exec (.brp p) s = done s) ∧
  (issues 0x05 → holds → c.inCode target = true → exec (.brp p) s = goto target false s) ∧
  (∀ n, (issues 0x06 ∧ n = fIMM w) ∨ (issues 0x07 ∧ n = (mget 0 c.r.d (fDA w)).toNat % 65536) →
    exec (if aop w = 6 then .loop p else .loopd p) s =
      if c.pc + 1 ≤ fTGT w ∧ c.inCode (fTGT w) = true then .next (
        let t := (put rnLC n (put rnLEA (fTGT w) (put rnLSA (c.pc + 1) s))).endCycle p false
        if n % 65536 = 0 then t.onCore p fun k => { k with pc := (fTGT w + 1) % 4096 } else t)
      else .fault .undefinedInstruction) ∧
  (s.ready p = some (some w) → c.forbids w = true → exec (.nop p) s = .fault .undefinedInstruction ∧
    ∀ slot, exec (.ld p slot) s = .fault .undefinedInstruction) ∧
  (s.issues p 0x01 w → e = true → exec (.halt p) s = .fault .undefinedInstruction)

/-- R172, R174, R203: the move slots. A load reads its place at issue, a store puts its word in flight, UPD only updates the
pointer; the IOLD and IOST slots name their I/O word. Each slot is performed once. A word that the check code cannot correct is
a core fault; a store to an address that R172 does not decode has no stated effect and stops the machine. -/
def Obligations.MoveSlots : Prop := ∀ (s : State) (p : Fin 17) (slot : MoveSlot) (w : Word),
  let v := slotOf w slot
  let a := s.useAddress p (slotRank slot) (mptr v) (mmode v)
  let r := a.2.loadFrom p (dataPlace p slot a.1)
  let d := s.readD p (mreg v)
  let da := d.2.useAddress p (slotRank slot) (mptr v) (mmode v)
  let n := s.readNamed p (mreg v)
  let na := n.2.useAddress p (slotRank slot) (mptr v) (mmode v)
  (∀ x, s.moves p 1 slot w → r.1 = some x → exec (.ld p slot) s = .next ((r.2.launchD p (slotRank slot) (mreg v) x).moved p slot)) ∧
  (s.moves p 1 slot w → r.1 = none → exec (.ld p slot) s = .next (s.coreFault p 2 false)) ∧
  (∀ t, s.moves p 2 slot w → da.2.storeTo p (slotRank slot) (dataPlace p slot da.1) d.1 = some t →
    exec (.st p slot) s = .next (t.moved p slot)) ∧
  (s.moves p 2 slot w → da.2.storeTo p (slotRank slot) (dataPlace p slot da.1) d.1 = none →
    exec (.st p slot) s = .fault .undefinedInstruction) ∧
  (∀ x, s.moves p 3 slot w → r.1 = some x →
    exec (.lda p slot) s = .next ((r.2.launchNamed p (slotRank slot) (mreg v) (x.toNat % 65536)).moved p slot)) ∧
  (s.moves p 3 slot w → r.1 = none → exec (.lda p slot) s = .next (s.coreFault p 2 false)) ∧
  (s.moves p 4 slot w → na.2.storeTo p (slotRank slot) (dataPlace p slot na.1) (extendNamed (mreg v) n.1) = none →
    exec (.sta p slot) s = .fault .undefinedInstruction) ∧
  (∀ t, s.moves p 4 slot w → na.2.storeTo p (slotRank slot) (dataPlace p slot na.1) (extendNamed (mreg v) n.1) = some t →
    exec (.sta p slot) s = .next (t.moved p slot)) ∧
  (s.moves p 5 slot w → exec (.upd p slot) s = .next (a.2.moved p slot)) ∧
  (s.moves p 6 slot w → exec (.iold p slot) s =
    .next (((s.ioRead p (v % 128)).2.launchD p (slotRank slot) (mreg v) (s.ioRead p (v % 128)).1).moved p slot)) ∧
  (∀ t, s.moves p 7 slot w → d.2.storeTo p (slotRank slot) (.io (v % 128)) d.1 = some t → exec (.iost p slot) s = .next (t.moved p slot))

/-- R177, R178, R217, 02 R41: the bank port. A read takes its word through an enabled window, and its D register is written when
it returns; a window that is not enabled gives 0 with BERR, which a return later than its budget gives as well; a write is
posted, and one that gets an error response comes back with BERR. An access too close to the one before is left out: its read
gives a free value (log entry 2), its write has no stated result and stops the machine. -/
def Obligations.BankPort : Prop := ∀ (s : State) (p : Fin 17) (w : Word),
  let l := s.atLoopEnd p
  let c := l.2.core p
  let a := l.2.useAddress p 0 (wbits w 60 58) (wbits w 57 55)
  let i := a.2.takeInj (0x40 + p) 3
  let win := c.window (w.toNat.testBit 61)
  let port (t : State) (v : Word) (err : Bool) : Res := .next ((t.onCore p fun k => { k with
    port := k.port ++ [⟨k.t + 24, some (wbits w 65 62), v, err⟩], lastPort := some k.t }).endCycle p l.1)
  (s.issues p 0x30 w → c.portTooSoon = true → exec (.bld p) s = port (i.2.free 72).2 (i.2.free 72).1 false) ∧
  (s.issues p 0x30 w → c.portTooSoon = false → i.1 = true ∨ win a.1 = none → exec (.bld p) s = port i.2 0 true) ∧
  (∀ x r, s.issues p 0x30 w → c.portTooSoon = false → i.1 = false → win a.1 = some x → i.2.bankRead (0x10 + p) x 16 = r →
    exec (.bld p) s = port r.2 (r.1.getD 0) r.1.isNone) ∧
  (∀ ok t, s.issues p 0x31 w → c.portTooSoon = false →
    let d := l.2.readD p (wbits w 65 62)
    let b := d.2.useAddress p 0 (wbits w 60 58) (wbits w 57 55)
    ((win b.1 = none ∧ (ok, t) = (false, b.2)) ∨ ∃ x, win b.1 = some x ∧ b.2.bankWrite (0x10 + p) x d.1 16 = (ok, t)) →
    exec (.bst p) s = .next ((t.onCore p fun k => { k with
      port := if ok = true then k.port else k.port ++ [⟨k.t + 24, none, 0, true⟩], lastPort := some k.t }).endCycle p l.1)) ∧
  (s.issues p 0x31 w → c.portTooSoon = true → exec (.bst p) s = .fault .undefinedInstruction) ∧
  (∀ x rest n late wait, (s.core p).port = x :: rest → x.reg = some n → (s.core p).run = .pass → risingFrom none s.chs.cores = true →
    let bad := x.err || (late && decide (16 < wait))
    let t := (s.waited (0x10 + p) 0x10000000 wait).onCore p fun k => { k with
      port := rest, flight := insertFlight ⟨x.due, x.due - 24, 0, .d n, if bad then 0 else x.val.setWidth 160⟩ k.flight }
    exec (.bankPortReturn p late wait) s = .next (if bad then
      ((t.onCore p fun k => { k with flight := insertFlight ⟨x.due, x.due - 24, 0, .berr, 0⟩ k.flight }).bump
        (whole (CHS_BERR + 0x1000 * p))).evt (0x40 + p) 3 else t))

/-! ### Chisel passes and cores (08) -/

/-- R184: the pass of index n of a logical core starts on its physical core once the one before it is over and its declared
inputs and sends are there, no later than the second tick on: PC is ENTRY, ST.IE is IE_INIT and ST.LA 0, and the inputs are
those of n. A pass that has not started two ticks on is skipped: CHS_SKIP counts it and PG_EVT.SKIP sets. R186, R189, R190,
R181: what stands between two instructions. A pass that reaches LENGTH is stopped; at TIMER its request becomes pending; a
pending request is taken where ST.IE is 1: IRA takes the address that would issue next and records the requests, IE clears and
IRQ_ENTRY follows; a loop whose last instruction has issued goes back to LSA while the count, as that instruction found it, is
above 1. A count that a stopped pass left makes the handler undefined (09), which stops the machine. -/
def Obligations.PassesRun : Prop :=
  (∀ (s : State) (c : Fin 16) (p n : Nat) (h : Selection), s.Inv → risingFrom none s.chs.cores = true →
  s.physCore c = some p → mfind s.chs.next c = some n → s.selAt c n = some h →
  (∀ ins sends, s.coreOff c = false → s.upMode = true → mfind s.chs.mig c = none → (s.core p).run = .idle → (s.core p).copying = false →
    (s.core p).port = [] → idxLe (nextIdx (nextIdx n)) s.idx = false → s.gathered c n h = some (ins, sends) →
    ∃ t : State, exec (.passStart c) s = .next t.drain ∧ t = s.beginPass c p n h ins sends ∧ (t.core p).run = .pass ∧ (t.core p).pc = h.entry ∧
      (t.core p).idx = n ∧ (t.core p).ins = ins ∧ (t.core p).cyc = 0) ∧
  ((s.core p).run = .idle → s.chs.dark.contains c.val = false → idxLe (nextIdx (nextIdx n)) s.idx = true →
    exec (.passSkip c) s = .next (((s.onChs fun k => { k with next := mins k.next c (nextIdx n) }).bump
      (whole (CHS_SKIP + 0x1000 * p))).evt (0x40 + p) 2))) ∧
  (∀ (s : State) (p : Fin 17),
  let c := s.core p
  (c.stopDue = true → c.wrap = false → exec (.passStop p) s = .next (s.stopPass p)) ∧
  (c.timerDue = true → c.wrap = false → exec (.timerRequest p) s =
    .next (s.onCore p fun c => { c with timer := true, timed := true })) ∧
  (∀ h, c.irqDue = true → c.wrap = false → c.timerDue = false → c.stopDue = false → c.xDone = false → c.yDone = false → c.hdr = some h →
    (c.lcStale = false → exec (.interruptEntry p) s = .next (s.onCore p fun k => { (k.putNamed rnIRA
      ((if c.timer then 0x4000 else 0) + (if c.cmsg then 0x2000 else 0) + (if c.bell then 0x1000 else 0) + c.pc)).putST 0x8000 0 with
        bell := false, cmsg := false, timer := false, handler := 0 :: c.handler, pc := h.irqEntry })) ∧
    (c.lcStale = true → exec (.interruptEntry p) s = .fault .undefinedInstruction)) ∧
  (c.wrap = true → 1 < c.loop.1 → exec (.loopEnd p) s = .next (s.onCore p fun k => { k with
    wrap := false, pc := c.loop.2, r := { k.r with ar := mset 0 k.r.ar rnLC (BitVec.ofNat 16 (c.loop.1 - 1)) } })) ∧
  (c.wrap = true → c.loop.1 ≤ 1 → exec (.loopEnd p) s = .next (s.onCore p fun k => { k.putNamed rnLC 0 with
    wrap := false, pc := (k.pc + 1) % 4096 })) ∧
  (c.wrap = false → exec (.loopEnd p) s = .next s))

/-- R194, R193: a core fault retires its core: CHS_CORE_OK loses the bit, CHS_FAULT_INFO keeps the first cause with its PC, the
core stops; a core that is retired already does nothing. A reset program that has not halted after 1,048,576 cycles is one,
cause 4. R193, R189, R188: the doorbell keeps its word for the pass at which it applies; a bit of CHS_RESET that is set stops
its core, and one that is cleared in CONFIG or SERVICE makes it copy; with the copy done the core runs from instruction 0, its
registers 0 but D0, which holds its number, and nothing but its program bank 0 is overwritten. A write that waits for a core is
performed while the core runs no pass. R195, R199: with a migration done the logical core is served by its new physical core and
no migration of it stands; where that is the spare, the spare is shown in use, standing for the failed core; CHS_MIGRATE records
it. -/
def Obligations.CoresControlled : Prop :=
  (∀ (s : State) (p : Fin 17) (cause : Fin 16), s.Inv →
  (s.coreRetired p = true → exec (.coreFault p cause) s = .next s) ∧
  (s.coreRetired p = false → risingFrom none s.chs.cores = true → (s.core p).pc < 4096 → ∃ t, exec (.coreFault p cause) s = .next t ∧
    t.coreRetired p = true ∧ (t.core p).run = .idle ∧ (t.core p).flight = [] ∧ (t.rd (0x1000 * (0x40 + p.val) + 0x10)).getLsbD 1 = true ∧
    (s.fld (CHS_FAULT_INFO_VALID.sh (0x1000 * p)) = 0 →
      (t.rd (CHS_FAULT_INFO + 0x1000 * p)).toNat = 2 ^ 31 + cause.val * 2 ^ 12 + (s.core p).pc)) ∧
  ((s.core p).run = .boot → 1048576 ≤ (s.core p).cyc → exec (.resetProgramOverrun p) s = exec (.coreFault p 4) s) ∧
  ((s.core p).run = .boot → (s.core p).cyc < 1048576 → exec (.resetProgramOverrun p) s = .next s)) ∧
  (∀ (s : State) (m : Nat) (p : Fin 17) (v : Reg32),
  let now (t : State) : Res := .next (s.noteWrite t m)
  let i := if s.lockstep then s.idx else ((s.logicalOf p).bind fun c => mfind s.chs.next c).getD s.idx
  let bit := 2 ^ (p.val % 16)
  (s.takesWrite m (CHS_DOORBELL + 0x1000 * p) v →
    (s.powered (coreIsland p) = true → exec (.chsDoorbell m p v) s = now (s.onCore p fun k => { k with
      bellNext := k.bellNext ++ [(v, i)] })) ∧
    (s.powered (coreIsland p) = false → exec (.chsDoorbell m p v) s = now s)) ∧
  (s.takesWrite m CHS_RESET v → s.rd CHS_RESET = 0 → v.toNat = bit → exec (.chsReset m v) s =
    now ((s.holdCore (p.val % 16)).wrN CHS_RESET bit)) ∧
  (s.takesWrite m CHS_RESET 0 → (s.rd CHS_RESET).toNat = bit →
    (s.cfgMode = true → exec (.chsReset m 0) s = now (s.clearResetBit (p.val % 16))) ∧
    (s.cfgMode = false → exec (.chsReset m 0) s = now (s.errResp m (0x1000000 + CHS_RESET) 5 true 4))) ∧
  ((s.core p).copying = true → exec (.resetCopyDone p) s =
    .next ((s.resetCopy p).onCore p fun k => { k with
      copying := false, run := .boot, hdr := none, pc := 0, cyc := 0, hcyc := 0, flight := [], port := []
      delay := none, wrap := false, handler := [], xDone := false, yDone := false, outs := [], ins := [], sends := []
      r := { CoreRegs.zero with d := mset 0 [] 0 (BitVec.ofNat 72 p) } })) ∧
  (s.Inv → ∀ a, a < progAddr p 0 0 ∨ progAddr p 0 4096 ≤ a → mget 0 (s.resetCopy p).mem a = mget 0 s.mem a) ∧
  (∀ d, s.chs.deferred.find? (fun d => d.phys == p.val) = some d → (s.core p).run = .idle →
    idxLe d.idx (((s.logicalOf p).bind fun c => mfind s.chs.next c).getD s.idx) = true → exec (.deferredMemWrite p) s =
      .next (s.performDeferred d).drain)) ∧
  (∀ (s : State) (c : Fin 16) (g : Migration), s.Inv → mfind s.chs.mig c = some g →
  g.peer = false → g.dst = 16 → g.src < 16 → risingFrom none s.chs.mig = true → ∃ t : State, exec (.migrateDone c) s = .next t.drain ∧
    t.physCore c = some 16 ∧ mfind t.chs.mig c = none ∧ t.fld CHS_SPARE_IN_USE = 1 ∧ t.fld CHS_SPARE_STANDS_FOR = g.src ∧
    (t.rd CHS_MIGRATE).toNat = 2 ^ 31 + g.src * 2 ^ 16 + 16 * 2 ^ 8 + c)

/-! ### Words and memory banks (00, 02, 04, 10) -/

/-- R7: a word in its slot. Byte k of the slot reads as bits [8k+7:8k], byte 8 as bits [71:64] and bytes 9 to 15 as 0. A write
of a whole slot of a bank that is ON, or of the mailbox, replaces the word and ignores bytes 9 to 15; a write that covers bytes
0 to 7 and not byte 8 leaves bits [71:64]; no other byte of memory changes. A write that waits is counted first (02 R41), and
one that meets a write of Cairn's to the same mailbox word is dropped (10 R232). -/
def Obligations.WordWritten : Prop := ∀ (s : State) (m a : Nat) (d : List Byte), s.Inv → s.takesAccess m a d → a % 16 = 0 →
  (0x10000000 ≤ a ∧ a < 0x18000000 ∧ s.bankState (bankOf a) = 2) ∨ (0x3C000000 ≤ a ∧ a < 0x3C010000 ∧ m ≤ 2) →
  let clean := mget 0 s.flips a = 0 ∧ 0x60 * 32 ∉ s.inj ∧ 0x60 * 32 + 1 ∉ s.inj
  (clean → (s.getAccess m a 16).1 = some (leBytes 9 (s.word a).toNat ++ List.replicate 7 0)) ∧
  (d.length = 16 → ∃ t, exec (.wordWrite m a d none 0) s = .next (s.noteWrite t m) ∧ t = s.setWord a (BitVec.ofNat 72 (leNat (d.take 9))) ∧
    t.word a = BitVec.ofNat 72 (leNat (d.take 9)) ∧ (∀ b, b < a ∨ a + 9 ≤ b → mget 0 t.mem b = mget 0 s.mem b)) ∧
  (d.length = 8 → clean → ∃ t, exec (.wordWrite m a d none 0) s = .next (s.noteWrite t m) ∧
    t.word a = BitVec.ofNat 72 (leNat d + 2 ^ 64 * ((s.word a).toNat / 2 ^ 64)) ∧
    (∀ b, b < a ∨ a + 9 ≤ b → mget 0 t.mem b = mget 0 s.mem b)) ∧
  (∀ w, exec (.wordWrite m a d none w) s = exec (.wordWrite m a d none 0) (s.waited m a w)) ∧
  (0x3C000000 ≤ a → slotShape a d.length = true → d.length ≤ 16 → exec (.wordWrite m a d (some 0) 0) s =
    .next (s.collide m (a % 0x10000 / 16)) ∧ (s.collide m (a % 0x10000 / 16)).mem = s.mem)

/-- R39: a write of pattern w to the set alias replaces the word v with v OR w, one to the clear alias with v AND NOT w; bytes
not written leave their bits, and the check bits are those of the new word; a read through either alias gives what a read of the
bank address gives; an alias of a bank that is not ON gets the error response. -/
def Obligations.AliasesChangeBits : Prop := ∀ (s : State) (m a : Nat) (d : List Byte), s.Inv → a % 16 = 0 → 0x10000000 ≤ a →
  a < 0x18000000 → d.length = 1 ∨ d.length = 2 ∨ d.length = 4 ∨ d.length = 8 ∨ d.length = 16 →
  let w : Word := BitVec.ofNat 72 (leNat (d.take 9))
  let reach := masterReaches m (a + 0x10000000) (.setAlias a) = true ∧ masterReaches m (a + 0x20000000) (.clearAlias a) = true
  reach → ((s.getAccess m (a + 0x10000000) 16).1 = (s.getAccess m a 16).1 ∧ (s.getAccess m (a + 0x20000000) 16).1 = (s.getAccess m a 16).1) ∧
  (∀ x, risingFrom none s.flips = true → mget 0 (s.setWord a x).flips a = 0 ∧ (s.setWord a x).word a = x) ∧
  let now (t : State) : Res := .next (s.noteWrite t m)
  (s.bankState (bankOf a) = 2 → mget 0 s.flips a = 0 → 0x60 * 32 ∉ s.inj → 0x60 * 32 + 1 ∉ s.inj →
    (s.takesAccess m (a + 0x10000000) d → exec (.aliasSetWrite m (a + 0x10000000) d) s = now (s.setWord a (s.word a ||| w))) ∧
    (s.takesAccess m (a + 0x20000000) d → exec (.aliasClearWrite m (a + 0x20000000) d) s = now (s.setWord a (s.word a &&& ~~~w)))) ∧
  (s.bankState (bankOf a) ≠ 2 →
    s.getAccess m (a + 0x10000000) 16 = (none, s.errResp m (a + 0x10000000) 2 false 16) ∧
    s.getAccess m (a + 0x20000000) 16 = (none, s.errResp m (a + 0x20000000) 2 false 16) ∧
    (s.takesAccess m (a + 0x10000000) d → exec (.aliasSetWrite m (a + 0x10000000) d) s =
      now (s.errResp m (a + 0x10000000) 2 true d.length)) ∧
    (s.takesAccess m (a + 0x20000000) d → exec (.aliasClearWrite m (a + 0x20000000) d) s =
      now (s.errResp m (a + 0x20000000) 2 true d.length)))

/-- R73, R125: a write of a word of the Truss tables goes to the copy it names. A word of the copy that is not live is stored;
of a word of the live copy the indices in progress keep the value in effect, and the next index takes the new one; one that
changes MUTE counts as a write of the fader as well. Reserved bits are dropped (R5). -/
def Obligations.TrussWordWritten : Prop := ∀ (s : State) (m a : Nat) (d : List Byte), s.takesAccess m a d →
  masterReaches m a (.truss a) = true → a % 16 = 0 → 0x04000000 ≤ a → a < 0x07000000 → trussWord a = some true → d.length = 16 →
  let w : Word := BitVec.ofNat 72 (leNat (d.take 9)) &&& BitVec.ofNat 72 (trussMask a)
  (s.inLive a = false → exec (.trussLiveWrite m a d) s = .next (s.noteWrite (s.setWord a w) m)) ∧
  (s.inLive a = true → s.crn.plan = none → exec (.trussLiveWrite m a d) s = .next (
    let t := ((s.setWord a w).holdWord a (s.word a)).liveWrote a
    s.noteWrite (if isWord0 a ∧ dMute (s.word a) ≠ dMute w then t.liveWrote (a + 0x20) else t) m))

/-- R222, R223: the code of a stored word. A read of a word with one stored error gives the word that was stored, counts it as
corrected and lets the bank write it back; two errors are found and never corrected. The write-back stores the word as it was
corrected, unless the word has been written meanwhile. R421, R223: the scrubber corrects a word with one stored error and writes
it back, and leaves a word that it cannot correct; shown for a bank that is ON. -/
def Obligations.CheckCode : Prop :=
  ((∀ i : Fin 80, eccRead (BitVec.ofNat 80 (2 ^ i.val)) = ⟨some 0, true, syndrome (BitVec.ofNat 80 (2 ^ i.val)), i⟩) ∧
  (∀ i j : Fin 80, i ≠ j → (eccRead (BitVec.ofNat 80 (2 ^ i.val) ||| BitVec.ofNat 80 (2 ^ j.val))).left = none) ∧
  (∀ (s : State) (a : Nat) x, s.bnk.wb.find? (fun x => x.addr == a) = some x →
    let t : State := { s with bnk := { s.bnk with wb := s.bnk.wb.filter fun y => y.addr != a } }
    (mget 0 s.flips a = x.flips → exec (.eccWriteback a) s = .next (t.setWord a x.word)) ∧
    (mget 0 s.flips a ≠ x.flips → exec (.eccWriteback a) s = .next t)) ∧
  (∀ (s : State) (a : Nat), s.bnk.wb.find? (fun x => x.addr == a) = none → exec (.eccWriteback a) s = .next s)) ∧
  (∀ (s : State) (a : Nat), s.Inv → s.mode = .config → a % 16 = 0 → 0x10000000 ≤ a →
  a < 0x18000000 → s.bankState (bankOf a) = 2 → 0x60 * 32 ∉ s.inj → 0x60 * 32 + 1 ∉ s.inj → 0x03 * 32 + 1 ∉ s.inj →
  mget 0 s.flips a = 0 → risingFrom none s.flips = true →
  (∀ i : Fin 80, ∃ t u, exec (.scrubAccess a (BitVec.ofNat 80 (2 ^ i.val))) s = .next t ∧ (∃ x ∈ t.bnk.wb, x.addr = a) ∧ t.mem = s.mem ∧
    exec (.eccWriteback a) t = .next u ∧ mget 0 u.flips a = 0 ∧ u.word a = s.word a) ∧
  (∀ x, (eccRead x).left = none → ∃ t, exec (.scrubAccess a x) s = .next t ∧ mget 0 t.flips a = x ∧ t.mem = s.mem ∧
    (t.rd 0x60010).getLsbD 1 = true))

/-- R225, R478: a field of MEM_BANK_STATE that requests another state is taken in CONFIG and SERVICE: the bank is busy until the
change is done; a bank that goes to or comes from OFF loses its contents; in other modes the field is refused. R226, R227, R228:
the transparent test changes no word. It takes the regions in rising order (log entry 63), one of a bank that is ON or of an
unused spare, and counts one of a bank that is not ON as skipped; a clean region ends with nothing; each failing position takes
a column of its bank while it has one; and a bank whose copy is complete is answered for by its spare. -/
def Obligations.BanksChange : Prop :=
  (∀ (s : State) (m : Nat) (b : Fin 128) (v : Fin 3), s.Inv → s.fld (bankField b) ≠ v →
  let w : Reg32 := putBits (s.rd (MEM_BANK_STATE + 4 * (b.val / 16))) (2 * (b.val % 16) + 1) (2 * (b.val % 16)) v
  s.takesWrite m (MEM_BANK_STATE + 4 * (b.val / 16)) w →
  (s.cfgMode = true → ∃ t, exec (.memBankState m ⟨b.val / 16, by omega⟩ w) s = .next (s.noteWrite t m) ∧ t.fld (bankField b) = v ∧
    t.bankState b = 3 ∧ (∀ k : Fin 128, k ≠ b → t.bankState k = s.bankState k) ∧
    (v.val = 0 ∨ s.fld (bankField b) = 0 → ∀ a, bankAddr b 0 ≤ a → a < bankAddr (b + 1) 0 → mget 0 t.mem a = 0) ∧
    (v.val ≠ 0 → s.fld (bankField b) ≠ 0 → t.mem = s.mem)) ∧
  (s.cfgMode = false → ∃ t, exec (.memBankState m ⟨b.val / 16, by omega⟩ w) s = .next (s.noteWrite t m) ∧ t.fld (bankField b) = s.fld (bankField b) ∧
    t.mem = s.mem) ∧
  (s.fld (bankBusy b) = 1 → exec (.stateDone b) s = .next ((s.setFld (bankBusy b) 0).evt 0x61 0))) ∧
  (∀ s : State, s.Inv →
  (∀ (phys : Fin 136) (r : Fin 1024), s.fld MEM_CTRL_TEST_EN = 1 → s.bnk.test = none → s.upMode = true → s.tested phys = true →
    s.bnk.pos = (phys.val, r.val) →
    ((∀ b, s.visibleOf phys = some b → s.bankState b = 2) → exec (.regionTest phys r) s =
      .next { s.wrN MEM_TEST_POS (phys * 2 ^ 24 + r) with bnk := { s.bnk with test := some (phys.val, r.val) } }) ∧
    (∀ b, s.visibleOf phys = some b → s.bankState b ≠ 2 → exec (.regionTest phys r) s =
      .next ((s.bump (whole MEM_TEST_SKIP)).nextRegion phys r))) ∧
  (∀ p r, s.bnk.test = some (p, r) →
    let u := ({ s with bnk := { s.bnk with test := none } }).nextRegion p r
    0x60 * 32 + 3 ∉ s.inj → exec (.regionTestDone []) s = .next (u.takeInj 0x60 3).2 ∧
      (∀ bit, bit < 80 → ∃ t, exec (.regionTestDone [bit]) s = .next t ∧ t.bnk.test = none ∧ t.mem = s.mem ∧
        (p < 136 → s.colCovers p bit = false → (s.colReg p).testBit 31 = false → t.colCovers p bit = true))) ∧
  (∀ i : Fin 8, (List.range 8).find? (fun i => s.fld (spareFld MEM_SPARE_MAP_COPYING i) == 1) = some i.val →
    (∀ j : Fin 8, s.fld (spareFld MEM_SPARE_MAP_IN_USE j) = 0) → ∃ t, exec .replacementDone s = .next t ∧
      t.physOf (s.spareBank i) = 128 + i ∧ (t.rd 0x60010).getLsbD 4 = true ∧ t.mem = s.mem))

/-! ### Audio ports (11) -/

/-- R247, R249, R250: the states of a side. LEAD ends in RUNNING, and TRAIL in OFF, or, where a commit restarts the side, in a
new start; a side whose clock the board gives goes to NO_CLOCK when the clock is lost, counts it, and returns to LEAD with the
clock. The enables of a TDM side are staged fields: the host's write waits for the next index (04 R73); then a side that is to
start waits for its compare unit, or for the next tick where it makes its own frames, or enters LEAD; one that is to stop in
RUNNING does so at its next frame start. R238, R239, R241, R243, R246, R249: the slots of a port. A received slot, its bits
taken at the edges that PRT_FMT names, of a port at the engine's rate becomes its source's sample, the code aligned to Q8.63; a
transmitted slot is the sink's value in the slot's width, and zeros are sent while the side starts or stops; a disabled slot
drives 0 or nothing; in the output hold the last code is repeated; an FS edge out of place is a frame error, which is counted.
-/
def Obligations.AudioPorts : Prop :=
  (∀ (s : State) (d : Fin 96), s.Inv → hasState d = true →
  (s.sideState d = 2 → ∃ t, exec (.started d) s = .next t ∧ t.sideState d = 3 ∧
    t = if d.val < 64 then (s.setSide d 3).evt (sidePage d) 0 else s.setSide d 3) ∧
  (s.sideState d = 4 ∨ (s.side d).leaving = true → ∃ t : State, t.sideState d = 0 ∧ t.mem = s.mem ∧ t.mode = s.mode ∧
    exec (.stopped d) s = .next (if (s.side d).restart ∧ s.fld (sideEnable d) = 1 then t.startSide d else t)) ∧
  (∀ h : d.val < 64, s.clockMode d ≠ 0 → 2 ≤ s.sideState d → s.sideState d ≤ 4 → ∃ t, exec (.clkLoss ⟨d, h⟩) s = .next t ∧
    t.sideState d = 5 ∧ t.fld (prtFld PRT_ERR_CLK_LOSS d) = min (s.fld (prtFld PRT_ERR_CLK_LOSS d) + 1) 65535 ∧
    (t.rd (0x1000 * sidePage d + 0x10)).getLsbD 2 = true) ∧
  (∀ h : d.val < 64, s.sideState d = 5 → ∃ t, exec (.clockReturn ⟨d, h⟩) s = .next t ∧ t.sideState d = 2) ∧
  (let f := sideEnable d
   let v (on : Nat) : Reg32 := putBits (s.written f.off (s.rd f.off)) f.hi f.lo on
   let waits (on : Nat) : Res := .next (s.onCrn fun c => { c with live := mins c.live f.off (v on &&& BitVec.ofNat 32 (liveMask f.off)) })
   (d.val < 64 → s.takesWrite 0 f.off (v 1) → exec (.portSideEnable d) s = waits 1) ∧
   (d.val < 64 → s.takesWrite 0 f.off (v 0) → exec (.portSideDisable d) s = waits 0) ∧
   (s.fld f = 0 → s.sideState d = 0 → risingFrom none s.prt.side = true → let t := s.writeEnable d true
     t.fld f = 1 ∧ ((s.startUnit d).isSome = true → t.sideState d = 1) ∧
       ((s.startUnit d).isNone = true → s.isMasterSide d = true → t.sideState d = 0 ∧ (t.side d).starting = true) ∧
       ((s.startUnit d).isNone = true → s.isMasterSide d = false → t.sideState d = 2)) ∧
   (s.fld f = 1 → let t := s.writeEnable d false
     t.fld f = 0 ∧ (s.sideState d = 2 → t.sideState d = 4) ∧ (s.sideState d = 1 → t.sideState d = 0) ∧
       (s.sideState d = 3 → risingFrom none s.prt.side = true → t.sideState d = 3 ∧ (t.side d).leaving = true)))) ∧
  (∀ (s : State) (port : Fin 32) (slot : Fin 16),
  let d := 2 * port.val
  let e := d + 1
  let k := 16 * port.val + slot.val
  let out (u : State) (c : Option Nat) : State := u.emitSlot port slot c
  (∀ rise fall fs, s.sidePowered d = true → s.badFs d fs = false →
    let u := s.slotComes d slot
    u.sideState d = 3 → slot.val ∈ u.enabledSlots d → u.elastic d = false → u.ratio d = 1 →
    exec (.slotComplete port slot rise fall fs) s = .next (u.portSample k (inCode (u.slotBits d)
      ((if (s.sideRegs d).rxFalling then fall else rise).toNat % 2 ^ s.slotBits d)))) ∧
  (∀ rise fall fs, s.sidePowered d = true → s.badFs d fs = true → s.clockMode d ≠ 0 → s.sideState d = 2 ∨ s.sideState d = 3 →
    exec (.slotComplete port slot rise fall fs) s =
      .next (((s.onSide d fun x => { x with part := [], last := none, broken := none }).bump (prtFld PRT_ERR_FRAME_ERR d)).evt
        (sidePage d) 4)) ∧
  (∀ fs, s.sidePowered e = true → slot.val < s.slots e →
    let v := if s.badFs e fs then s.frameError e else s
    let u := v.slotComes e slot
    v.elastic e = false → slot.val < v.slots e →
    (u.sideState e = 2 ∨ u.sideState e = 4 → exec (.tdmSlotTake port slot fs) s = .next (u.outSlot port slot 0)) ∧
    (u.sideState e = 3 → u.ratio e = 1 → slot.val ∈ u.enabledSlots e → (u.side e).broken ≠ some true →
      exec (.tdmSlotTake port slot fs) s = .next (
        let w := u.takeSink k ((2 ^ 48 + u.idx - (u.sideRegs e).lag) % 2 ^ 48)
        let c := w.2.portCode e slot w.1
        c.2.outSlot port slot c.1))) ∧
  (s.runMode = true → ∀ c,
    (slot.val ∈ s.enabledSlots e → s.bly.hold = false →
      s.outSlot port slot c = out (s.onPrt fun q => { q with sent := mset 0 q.sent k c }) (some c)) ∧
    (slot.val ∈ s.enabledSlots e → s.bly.hold = true → s.outSlot port slot c = out s (some (mget 0 s.prt.sent k))) ∧
    (slot.val ∉ s.enabledSlots e → s.outSlot port slot c = out s (if (s.sideRegs e).hiZ then none else some 0))) ∧
  (∀ (h : e < 64) bits, s.sidePowered e = true → s.elastic e = true → 2 ≤ s.sideState e → s.sideState e ≤ 4 →
    exec (.externalFrameStart ⟨e, h⟩ bits) s = .next (
      let v := if s.badFs e (some ((s.sideRegs e).fsHigh, bits)) then s.frameError e else s
      let u := v.frameStart e
      let f := if u.sideState e ≠ 3 ∨ (u.side e).broken = some true then (none, u) else (u.steer e).popFrame e
      (List.range (f.2.slots e)).foldl (fun u i => u.outSlot port i (mget 0 (f.1.getD []) i).toNat) f.2)) ∧
  (∀ g : Fin 8, let o := groupOff (4 * g)
    s.fld (PRT_GRP_CTRL_STEER_EN.sh o) = 1 → s.fld (PRT_GRP_STAT_TRIM.sh o) = s.trimMax o ∨
      s.fld (PRT_GRP_STAT_TRIM.sh o) = 65536 - s.trimMax o → exec (.trimLimit g) s =
      .next ((s.setFld (PRT_GRP_STAT_AT_LIMIT.sh o) 1).evt (0x80 + 4 * g) 6)))

/-- R252, R253, R254: what an AES3 receiver does with a frame. Eight good frames in a row at a rate within 2000 ppm lock it; the
third bad frame in a row, and a rate outside that range, unlock it; V_A and V_B show the validity bits, and an error is counted
by its kind. R255, R259: a frame that an AES3 transmitter sends within a block: two subframes with the samples' codes of 24
bits, their validity bits, the user and channel status bits of the block's position, and even parity; the position moves on
round the 192 frames. CS_LOAD and US_LOAD ask for new blocks. -/
def Obligations.Aes3 : Prop :=
  (∀ (s : State) (i : Fin 16) (a b : BitVec 32) (rate : Int) (cycles : Nat), s.Inv →
  s.sidePowered (64 + 2 * i.val) = true →
  let lock (u : State) := u.fld (aesFld AES_STAT_LOCK i)
  let coded := (preamble a = 0 ∨ preamble a = 2) ∧ preamble b = 1
  ∃ t, exec (.aesFrameReceive i a b rate cycles) s = .next t ∧
    t.fld (aesFld AES_STAT_RATE_ERR i) = (BitVec.ofInt 16 (max (-32768) (min 32767 rate))).toNat ∧
    t.fld (aesFld AES_STAT_V_A i) = (a.getLsbD 28).toNat ∧ t.fld (aesFld AES_STAT_V_B i) = (b.getLsbD 28).toNat ∧
    (lock s = 0 → coded → 7 ≤ (s.aesRx i).good → -2000 ≤ rate → rate ≤ 2000 → lock t = 1) ∧
    (lock s = 0 → ¬ coded ∨ (s.aesRx i).good < 7 ∨ 2000 < rate ∨ rate < -2000 → lock t = 0) ∧
    (lock s = 1 → coded → -2000 ≤ rate → rate ≤ 2000 → lock t = 1) ∧
    (lock s = 1 → ¬ coded → 2 ≤ (s.aesRx i).bad → lock t = 0) ∧ (lock s = 1 → 2000 < rate ∨ rate < -2000 → lock t = 0) ∧
    (coded → parityOk a = true → parityOk b = true → (0xA0 + i.val) * 32 + 3 ∉ s.inj →
      t.rd (AES_RX_ERR + 0x1000 * i) = s.rd (AES_RX_ERR + 0x1000 * i))) ∧
  (∀ (s : State) (i : Fin 16), let frame := exec (.aesTxFrame i) s
  (∀ m, s.Inv →
    (s.takesWrite m (AES_TX_UPD + 0x1000 * i) 1 → ∃ t, exec (.csLoad m i) s = .next (s.noteWrite t m) ∧
      t.fld (aesFld AES_TX_UPD_CS_LOAD i) = 1 ∧ t.mem = s.mem ∧ t.prt = s.prt) ∧
    (s.takesWrite m (AES_TX_UPD + 0x1000 * i) 2 → ∃ t, exec (.usLoad m i) s = .next (s.noteWrite t m) ∧
      t.fld (aesFld AES_TX_UPD_US_LOAD i) = 1 ∧ t.mem = s.mem ∧ t.prt = s.prt)) ∧ (s.sidePowered (65 + 2 * i.val) = true →
  2 ≤ s.sideState (65 + 2 * i.val) →
  let s := s.frameStart (65 + 2 * i.val)
  s.sideState (65 + 2 * i.val) = 3 → (s.aesTx i).pos ≠ 0 → s.runMode = true → s.bly.hold = false →
  s.fld (aesFld AES_CTRL_AUX20 i) = 0 → s.fld (aesFld AES_CTRL_TX_V_FORCE i) = 0 → s.fld (aesFld AES_CTRL_TX_CRCC i) = 0 →
  let x := s.aesTx i
  (outCode 24 x.a.1).2 = false → (outCode 24 x.b.1).2 = false → frame = .next (
    ((s.onAesTx i fun x => { x with pos := (x.pos + 1) % 192 }).emit (.aes i 0 (subframe 0 (BitVec.ofInt 24 (outCode 24 x.a.1).1).toNat
      x.a.2.toNat (x.usA.testBit x.pos).toNat (x.csA.testBit x.pos).toNat))).emit (.aes i 1 (subframe 1
        (BitVec.ofInt 24 (outCode 24 x.b.1).1).toNat x.b.2.toNat (x.usB.testBit x.pos).toNat (x.csB.testBit x.pos).toNat)))))

/-! ### Plumb (12) -/

/-- R261, R262: the states of a reference. Each gate of a reference with a signal reports the frequency error; outside the
rejection limit the reference is OUT, a reference inside the acceptance limit waits qualification, a good one stays good up to
the rejection limit; losing it is counted, and after the qualification time it is good. R263, R264, R265: the choice of the
reference. A forced choice is taken at once; a selected reference that stays eligible is kept until the wait to restore has run
out, one that does not gives way to the best candidate, and with none left the synthesiser holds over. The step to a reference
is the nearest alignment, half a period at most, and none for one of frequency only. -/
def Obligations.References : Prop :=
  (∀ (s : State) (r : Fin 10) (err : Int), s.Inv → s.refOn r = true → s.upMode = true →
  let acc := max 1 (s.fld (refFld PLB_REF_CFG_ACCEPT r))
  let rej := max acc (s.fld (refFld PLB_REF_CFG_REJECT r))
  (s.refSignal r = false → exec (.freqGate r err) s = .next s) ∧
  (s.refSignal r = true → ∃ t, exec (.freqGate r err) s = .next t ∧
    t.fld (refFld PLB_REF_STAT_FREQ_ERR r) = (BitVec.ofInt 16 (max (-32768) (min 32767 err))).toNat ∧
    (100 * rej < err.natAbs ∨ (100 * acc < err.natAbs ∧ s.refGood r = false) → t.refState r = 2) ∧
    (err.natAbs ≤ 100 * acc → s.refGood r = false → t.refState r = 3) ∧
    (err.natAbs ≤ 100 * rej → s.refGood r = true → t.refState r = s.refState r)) ∧
  (∃ t, exec (.refLoss r) s = .next t ∧ t.refState r = 1 ∧ (s.refGood r = true → (t.rd 0x31010).getLsbD 0 = true ∧
    t.fld (whole (PLB_REF_LOSS + 0x10 * r)) = min (s.fld (whole (PLB_REF_LOSS + 0x10 * r)) + 1) 0xFFFFFFFF)) ∧
  (s.refState r = 3 → s.fld (refFld PLB_REF_STAT_Q r) < 15 → ∃ t, exec (.refQual r) s = .next t ∧ t.refState r = 4 ∧
    (t.rd 0x31010).getLsbD 1 = true)) ∧
  (∀ (s : State) (dist : Int), s.Inv → s.upMode = true →
  (∀ r, s.forced = some (some r) → ∃ t, exec (.switchRef dist) s = .next t ∧ t.selected = some r ∧
    (s.refState r = 4 → t.refState r = 5) ∧ (s.selected ≠ some r → (t.rd 0x30010).getLsbD 0 = true)) ∧
  (∀ r, s.forced = none → s.selected = some r → s.eligible r = true → ∃ t, exec (.switchRef dist) s = .next t ∧
    t.selected = some r) ∧
  (∀ r, s.forced = none → s.candidate s.selected = some r → (∀ c, s.selected = some c → s.eligible c = false) →
    ∃ t, exec (.switchRef dist) s = .next t ∧ t.selected = some r) ∧
  (s.forced = none → s.candidate s.selected = none → (∀ c, s.selected = some c → s.eligible c = false) → s.synState ≠ 0 →
    s.synState ≠ 4 → ∃ t, exec (.switchRef dist) s = .next t ∧ t.selected = none ∧ t.synState = 3) ∧
  (∀ c r, s.forced = none → s.selected = some c → s.candidate (some c) = some r → c ≠ r →
    ∃ t, exec (.wtrExpire dist) s = .next t ∧ t.selected = some r) ∧
  (∀ r, (phaseRef r = false → s.alignStep r dist = 0) ∧ (s.alignStep r dist).natAbs ≤ if s.plb.fast then 5208 else 10417))

/-- R266, R268, R269, R270, R422: the synthesiser. It locks; while it is locked each second's average joins the history, 255 of
them; in holdover it is out of specification once the prediction has reached HOLD_SPEC; opening the loop keeps the control
value, which PLB_SYN_FREQ then sets within its limit; a calibration that is done clears its LATE bit. -/
def Obligations.Synthesiser : Prop := ∀ (s : State) (m : Nat) (v : Reg32), s.Inv →
  (s.synState = 1 → s.bly.joining = false → ∃ t, exec .lock s = .next t ∧ t.synState = 2 ∧ (t.rd 0x30010).getLsbD 2 = true) ∧
  (s.synState = 2 → ∀ avg, exec (.controlAverage avg) s =
    .next (s.onPlb fun p => { p with history := (limitCv avg :: p.history).take 255 })) ∧
  (∀ cycles, let u := s.advance cycles
    u.synState = 3 → u.fld PLB_SYN_STAT_OUT_OF_SPEC = 0 → u.specLeft = 0 → ∃ t, exec (.outOfSpec cycles) s = .next t ∧
    t.fld PLB_SYN_STAT_OUT_OF_SPEC = 1 ∧ (t.rd 0x30010).getLsbD 3 = true) ∧
  (s.takesWrite m PLB_LOOP_CTRL v → s.fld PLB_LOOP_CTRL_LOOP_OPEN = 0 → v.getLsbD 31 = true → s.synState ≠ 4 →
    ∃ t, exec (.loopOpen m v) s = .next (s.noteWrite t m) ∧ t.synState = 4 ∧ t.rd PLB_SYN_FREQ = BitVec.ofInt 32 t.plb.cv) ∧
  (s.takesWrite m PLB_SYN_FREQ v → exec (.plbSynFreq m v) s = .next (s.noteWrite (if s.fld PLB_LOOP_CTRL_LOOP_OPEN = 0 then s
    else (s.wr PLB_SYN_FREQ (BitVec.ofInt 32 (limitCv v.toInt))).onPlb fun p => { p with cv := limitCv v.toInt }) m)) ∧
  (s.takesWrite m PLB_CTRL v → ∃ t, exec (.rate m v) s = .next (s.noteWrite t m) ∧ t.plb = s.plb ∧
    (s.cfgMode = true → (t.rd PLB_CTRL).getLsbD 0 = v.getLsbD 0) ∧
    (s.cfgMode = false → (t.rd PLB_CTRL).getLsbD 0 = (s.rd PLB_CTRL).getLsbD 0)) ∧
  (s.upMode = true → s.fld SVC_CTRL_HOLD_CAL = 0 → exec .synthCal s = .next (s.setFld ⟨SVC_STAT, 3, 3⟩ 0))

/-- R271, R272, R273: station time. A read of PLB_TIME_LO gives its low half and holds the other in PLB_TIME_HI, as a read of
PLB_TICK_IDX_LO holds the index and the time of the tick; HOST_SET steps it where the host is its source, and is refused
elsewhere; REARM arms the step anew. R274, R275, R276, R277: compare units and capture units. ARM takes the target, STOP
disarms; a unit whose target has come fires: its bit sets, its event is raised, and one that is not periodic disarms. A pulse
ends when its last firing's has. A capture keeps the time and the index, and a second one before the first is read is an
overrun. -/
def Obligations.StationTime : Prop :=
  (∀ (s : State) (m : Nat) (v : Reg32), s.Inv →
  let reads (u : State) (off : Nat) := u.mode ≠ .reset ∧ u.inTurn u.fwd (u.idx, .readReg m off) = true ∧ u.pageGated (off / 0x1000) = false ∧
    u.frozenPage (off / 0x1000) = none
  (∀ cycles, let u := s.advance cycles
    reads u PLB_TIME_LO → ∃ t, exec (.timeRead m cycles) s = .next t ∧
      t.out = .regData m PLB_TIME_LO (u.written PLB_TIME_LO (BitVec.ofNat 32 u.time)) :: u.out ∧
      t.rd PLB_TIME_HI = BitVec.ofNat 32 (u.time / 2 ^ 32) ∧ t.time = u.time) ∧
  (reads s PLB_TICK_IDX_LO → ∃ t, exec (.tickLatchRead m) s = .next t ∧ t.out = .regData m PLB_TICK_IDX_LO (s.written PLB_TICK_IDX_LO (BitVec.ofNat 32 s.idx)) :: s.out ∧
    t.rd PLB_TICK_IDX_HI = BitVec.ofNat 32 (s.idx / 2 ^ 32) ∧ t.rd PLB_TICK_TIME_LO = BitVec.ofNat 32 s.plb.tickTime ∧
    t.rd PLB_TICK_TIME_HI = BitVec.ofNat 32 (s.plb.tickTime / 2 ^ 32)) ∧
  (s.takesWrite m PLB_TIME_CTRL v → v.getLsbD 30 = true → v.getLsbD 31 = false → bitsNat v.toNat 27 26 = 3 →
    (s.cfgMode = true → ∃ t, exec (.hostSet m v) s = .next (s.noteWrite t m) ∧ t.time = s.rdPair PLB_TIME_SET_LO PLB_TIME_SET_HI) ∧
    (s.mode = .active → ∃ t, exec (.hostSet m v) s = .next (s.noteWrite t m) ∧ t.time = s.time)) ∧
  (s.takesWrite m PLB_TIME_CTRL v → v.getLsbD 30 = false → v.getLsbD 31 = true → ∃ t, exec (.rearm m v) s = .next (s.noteWrite t m) ∧
    t.fld PLB_TIME_STAT_STEP_ALARM = 0 ∧ t.fld PLB_TIME_STAT_ARMED_STEP = 1)) ∧
  (∀ (s : State) (m cycles : Nat) (k : Fin 16) (v : Reg32), s.Inv →
  (s.takesWrite m (PLB_CMP_CTRL + 0x10 * k) v → v.getLsbD 31 = true → v.getLsbD 30 = false → ∃ t, exec (.arm m k v) s = .next (s.noteWrite t m) ∧
    t.cmpArmed k = true ∧ t.target k = s.rdPair (PLB_CMP_TGT_LO + 0x10 * k) (PLB_CMP_TGT_HI + 0x10 * k) % 2 ^ 48) ∧
  (s.takesWrite m (PLB_CMP_CTRL + 0x10 * k) v → v.getLsbD 30 = true → ∃ t, exec (.stop m k v) s = .next (s.noteWrite t m) ∧ t.cmpArmed k = false) ∧
  (let u := s.advance cycles
   u.cmpArmed k = true → 0 ≤ cmpDiff (u.cmpTime k) (u.target k) → u.fireFollows k = false → ∃ t, exec (.fired k cycles) s = .next t ∧
    t = u.fire k ∧ (t.rd PLB_CMP_FIRED).getLsbD k = true ∧ (t.rd 0x33010).getLsbD 0 = true ∧
    (u.fld (unitFld PLB_CMP_CTRL_PERIODIC k) = 0 → t.cmpArmed k = false)) ∧
  (∀ pin : Fin 8, mget 0 s.plb.pulses pin = 1 → exec (.pulseEnd pin) s =
    .next ((s.onPlb fun q => { q with pulses := mset 0 q.pulses pin 0 }).emit (.pin pin false))) ∧
  (∀ rising, let u := s.advance cycles
    let src := u.fld (unitFld PLB_CAP_CTRL_SRC k)
    let e := u.fld (unitFld PLB_CAP_CTRL_EDGE k)
    ((src = 1 ∨ src = 2) ∧ (2 ≤ e ∨ (rising = true ↔ e = 0))) ∨ (src = 3 ∧ rising = true) →
    u.fld (unitFld PLB_CAP_CTRL_EN k) = 1 → u.fld (unitFld PLB_CAP_CTRL_VALID k) = 0 ∨ u.fld (unitFld PLB_CAP_CTRL_ONESHOT k) = 0 →
    ∃ t, exec (.captured k rising cycles) s = .next t ∧ t.rd (PLB_CAP_TIME_LO + 0x10 * k) = BitVec.ofNat 32 u.time ∧
      t.rd (PLB_CAP_TIME_HI + 0x10 * k) = BitVec.ofNat 32 (u.time / 2 ^ 32) ∧
      t.rd (PLB_CAP_IDX + 0x10 * k) = BitVec.ofNat 32 u.idx ∧ t.fld (unitFld PLB_CAP_CTRL_VALID k) = 1 ∧
      (u.fld (unitFld PLB_CAP_CTRL_VALID k) = 1 → t.fld (unitFld PLB_CAP_CTRL_OVERRUN k) = 1)))

/-! ### Network and Tether (13) -/

/-- R289, R290, R295: frames at a port, `n` Plumb clock cycles after its time was last read. A frame with a bad FCS is counted
and dropped; one that is too short or too long, an IPv4 fragment and a packet with options are dropped; an ARP request for the
port's address is answered and its sender learnt; an entry that is not used for its time is forgotten; ESMC PDUs give their line
clock's quality, and their absence the worst. -/
def Obligations.EthernetFrames : Prop := ∀ (s : State) (p : Fin 4) (f : List Byte) (n : Nat), (s.advance n).netEn p = true →
  let u := s.advance n
  let caught := ((List.range 16).filter fun k => u.capFilter k p 0x0806 none).foldl (fun v k => v.captureOn 5 (some k)) u
  let learnt := caught.learnArp p (beAt f 28 4) (beAt f 22 6)
  exec (.ethFrameReceive p f false n) s = .next (u.bump (whole (NET_PORT_RXCRC + 0x20 * p))) ∧
  (f.length < 64 ∨ 1522 < f.length → exec (.ethFrameReceive p f true n) s = .next (u.rxDrop p)) ∧
  (64 ≤ f.length → f.length ≤ 1522 → beAt f 12 2 = 0x0806 → beAt f 38 4 = caught.netIp p → beAt f 20 2 = 1 →
    exec (.ethFrameReceive p f true n) s =
      .next (learnt.sendEth p 6 (beAt f 22 6) 0x0806 0 (learnt.arpPacket p 2 (beAt f 22 6) (beAt f 28 4)))) ∧
  (beAt f 12 2 = 0x0800 → ipOdd ((f.drop 14).take (f.length - 18)) = true →
    exec (.ethFrameReceive p f true n) s = .next (u.rxDrop p)) ∧
  (∀ ip, ∃ t, exec (.arpAge ip) s = .next t ∧ (∀ e ∈ t.net.arp, e.1 ≠ ip.toNat) ∧ t.regs = s.regs) ∧
  (∀ r : Nat, s.Inv → r = 2 ∨ r = 3 → s.fld (refFld PLB_REF_CFG_SRC r) = p →
    (∀ c, ∃ t, exec (.esmcPdu p c) s = .next t ∧ t.fld (refFld PLB_REF_STAT_Q r) = ssmQ c.toNat) ∧
    (∃ t, exec (.esmcPduTimeout p) s = .next t ∧ t.fld (refFld PLB_REF_STAT_Q r) = 15 ∧
      (s.refGood r = true → t.refState r = 3))) ∧
  exec (.esmcSend p) s = .next (s.sendSsm p false)

/-- R292, R293, R294: the PTP instances. A message of another domain is ignored; a Sync of the master that an instance follows
is measured against the path delay, which its Delay_Resp gives as half of the round trip; a Delay_Req is answered by a master; a
master's own messages number themselves; without Announce an instance is alone. -/
def Obligations.PtpMessages : Prop := ∀ (s : State) (i : Fin 2) (msg : PtpMsg), s.ptpEn i = true →
  let dom := msg.domain.toNat = s.fld (ptpFld PTP_CTRL_DOMAIN i)
  let mine := (s.ptpState i = 8 ∨ s.ptpState i = 9) ∧ ∃ f, (s.ptp i).parent = some f ∧ f.src = msg.src
  (¬ dom → exec (.ptpMessage i msg) s = .next s) ∧
  (∀ origin, dom → mine → msg.body = .sync false origin → exec (.ptpMessage i msg) s =
    .next ((s.onPtp i fun x => { x with t12 := some (origin + msg.corr, msg.rx) }).ptpMeasure i)) ∧
  (∀ origin, dom → mine → msg.body = .sync true origin → exec (.ptpMessage i msg) s =
    .next (s.onPtp i fun x => { x with sync := some (msg.seq.toNat, msg.rx, msg.corr) })) ∧
  (∀ r t1 t2 t3, dom → mine → msg.body = .delayResp r → msg.mine = true → s.peerDelay i = false →
    (s.ptp i).req = some (msg.seq.toNat, t3) → (s.ptp i).t12 = some (t1, t2) → exec (.ptpMessage i msg) s = .next
      (((s.onPtp i fun x => { x with req := none }).setDelay i ((t2 - t1 + (r - msg.corr - t3)) / 2)).ptpMeasure i)) ∧
  (dom → msg.body = .delayReq → s.ptpState i = 6 → s.mayMaster i = true → s.peerDelay i = false → exec (.ptpMessage i msg) s =
    .next (s.sendPtp i false false (s.ptpBytes i 9 0 msg.corr msg.seq.toNat (s.logIntv i 2)
      (ptpStamp msg.rx ++ beBytes 8 msg.src.toNat ++ beBytes 2 1)))) ∧
  (s.ptpState i = 6 → s.mayMaster i = true → s.fld (ptpFld PTP_CTRL_ONE_STEP i) = 1 → exec (.ptpSend i .sync) s = .next (
    let u := s.onPtp i fun x => { x with seqSync := (x.seqSync + 1) % 65536, sentSync := s.timeNs }
    u.sendPtp i true false (u.ptpBytes i 0 0 0 (s.ptp i).seqSync (u.logIntv i 1) (ptpStamp s.timeNs)))) ∧
  (s.Inv → s.ptpState i ≠ 6 → ∃ t, exec (.announceReceiptTimeout i) s = .next t ∧
    t.ptpState i = if s.mayMaster i then 6 else 4)

/-- R296, R298, R300, R302, R303: streams. A packet that no open receive stream matches is dropped and counted; a transmit
stream whose samples are taken sends its packet and counts it; STREAM_OPEN whose descriptor passes every check opens the stream
and one that does not completes with the first check's code; STREAM_CLOSE of a stream that is not open is NO_SUCH. -/
def Obligations.Streams : Prop := ∀ (s : State) (p : Fin 4) (k : RtpPacket) (st : Fin 128) (c : Cmd), s.netEn p = true →
  let m := s.rxMatch p k.srcIp.toNat k.dstIp.toNat k.srcPort.toNat k.dstPort.toNat
  (m = none ∨ k.version ≠ 2 ∨ k.padding = true → exec (.aes67PacketReceive p k) s = .next (s.rxDrop p)) ∧
  (∀ n b, m = some (n, b) → k.version = 2 → k.padding = false → exec (.aes67PacketReceive p k) s = .next (s.rxPacket n b k)) ∧
  (∀ x n, s.Inv → mfind s.net.closing st = none → mfind s.net.tx st = some x → s.packetStart x = some n →
    ∃ t, exec (.aes67PacketSend st) s = .next t ∧ t.rd (TXS_PKTS + 0x10 * st) = s.rd (TXS_PKTS + 0x10 * st) + 1 ∧
      t = (s.onNet fun q => { q with tx := mins q.tx st { x with
        next := (n + dSamples x.desc) % 2 ^ 32, seq := (x.seq + 1) % 65536 } }).sendPacket st x n) ∧
  (s.crn.cur = some c → c.opcode = 0x70 →
    (∀ d u, s.readDesc (c.bits 1 22 0) = (some d, u) → (c.word 1).getLsbD 63 = true →
      (∀ e, u.streamCheck true (c.bits 1 62 56) d = some e → exec .streamOpen s =
        .next (u.completeCmd c { primary := e.1, aux := e.2 }).pumpAll) ∧
      (u.streamCheck true (c.bits 1 62 56) d = none → exec .streamOpen s = .next ((u.onNet fun n => { n with
        tx := mins n.tx (c.bits 1 62 56) ⟨d, (u.mediaClock u.plb.tickTime).1, 0, none⟩
        closing := mdel n.closing (c.bits 1 62 56) }).refreshStreams.completeCmd c { primary := 0 }).pumpAll)) ∧
    (∀ u, s.readDesc (c.bits 1 22 0) = (none, u) → exec .streamOpen s =
      .next (u.completeCmd c { primary := 0x02, aux := 0x01 }).pumpAll)) ∧
  (s.crn.cur = some c → c.opcode = 0x71 → (c.word 1).getLsbD 63 = true →
    (mfind s.net.tx (c.bits 1 62 56) = none → exec .streamClose s =
      .next (s.completeCmd c { primary := 0x13, aux := 0x12 }).pumpAll) ∧
    (∀ x, mfind s.net.tx (c.bits 1 62 56) = some x → exec .streamClose s = .next ((s.onNet fun n => { n with
      tx := mdel n.tx (c.bits 1 62 56)
      closing := mins n.closing (c.bits 1 62 56) { x with close := some (s.mediaClock s.plb.tickTime).1 } }).refreshStreams.completeCmd
        c { primary := 0 }).pumpAll))

/-- R308, R309, R310, R316: Tether. A frame that is not as R306 says is counted BAD; a good IN is taken once in a cycle; the
write point and the resend point go over the enabled stations by class: at the write point a live station that answered is sent
its OUT and one that did not is LOST; at the resend point an OUT with no ACK is sent once more; an ACK of this cycle ends its
OUT; a second SWEEP is busy, and SWEEP_ABORT ends the one that runs. -/
def Obligations.TetherCycle : Prop := ∀ (s : State) (st : Fin 64) (src : BitVec 32) (f : List Byte), s.ttEn = true →
  s.net.running = true → s.ttFollows = false →
  (∀ u, s.stationFrame src.toNat f = (none, u) → exec (.tetherIn src f) s = .next u ∧ exec (.tetherAck src f) s = .next u ∧
    exec (.swpRpt src f) s = .next u) ∧
  (∀ n u, s.stationFrame src.toNat f = (some n, u) → u.forwards = false →
    (beAt f 3 1 = 2 → exec (.tetherIn src f) s = .next (u.ttIn n f)) ∧
    (beAt f 3 1 = 4 → beAt f 12 4 = u.ttCycle → exec (.tetherAck src f) s =
      .next (u.onStation n fun x => { x with out := none })) ∧
    (beAt f 3 1 = 6 → exec (.swpRpt src f) s = .next (u.sweepReport n f))) ∧
  exec .tetherWritePoint s = .next (s.ttEach State.ttWrite) ∧
  exec .tetherResendPoint s = .next (if bitsNat s.net.times.toNat 15 0 < max 20 (bitsNat s.net.times.toNat 31 16) then
    s.ttEach State.ttResend else s) ∧
  ((s.station st).wrote = false → s.ttState st = 1 → 0xC4 * 32 ∉ s.inj →
    let u := s.onStation st fun x => { x with wrote := true }
    ((s.station st).gotIn = true → s.net.sweep = none →
      s.ttWrite st = ((u.outBody st).2.onStation st fun x => { x with out := some (u.outBody st).1 }).ttSend st
        ((u.outBody st).2.ttFrame 3 st 0 (u.outBody st).2.ttCycle (u.outBody st).1)) ∧
    ((s.station st).gotIn = false → s.Inv → (s.ttWrite st).ttState st = 2 ∧ ((s.ttWrite st).rd 0xC4010).getLsbD 0 = true)) ∧
  (∀ body, (s.station st).out = some body → (s.station st).resent = false → s.ttResend st =
    ((s.onStation st fun x => { x with resent := true }).bump (stFld ttResends st)).ttSend st (s.ttFrame 3 st 1 s.ttCycle body)) ∧
  (∀ c, s.crn.cur = some c →
    (∀ r, c.opcode = 0x72 → s.net.sweep = some r → exec .sweep s =
      .next (s.completeCmd c { primary := 0x03, aux := s.crnState }).pumpAll) ∧
    (∀ ws u n, c.opcode = 0x72 → s.net.sweep = none → State.burstRead 5 5 0 (c.bits 2 22 0) s = (some ws, u) → n < 64 →
      c.bits 1 63 0 = 2 ^ n → u.ttState n = 1 → wbits (ws.getD 0 0) 59 52 ≠ 0 → ∃ (x : State) (r : SweepRun), exec .sweep s = .next x.pumpAll ∧
        x.net.sweep = some r ∧ r.cmd = c ∧ r.left = [⟨n, 0, false, 0, wbits (ws.getD 0 0) 59 52⟩] ∧ x.crn.cur = none) ∧
    (c.opcode = 0x73 → s.net.sweep = none → exec .sweepAbort s = .next (s.completeCmd c { primary := 0 }).pumpAll) ∧
    (∀ r, c.opcode = 0x73 → s.net.sweep = some r → exec .sweepAbort s =
      .next ((((s.sweepEnd.setSweep none).evt 0xC4 2).completeCmd c { primary := 0 }).completeCmd r.cmd { primary := 0x04 }).pumpAll))


/-! ### Mallet (14) -/

/-- R325, R330, R331, R335, R336: the states of a channel that leads its own outputs. Enabled, it leaves OFF for DIAG or ARMED;
at its start tick it enters RUN; disabled, it stops with its ramp or at once; a fault in RUN shuts it down with its cause; a
latched one that is cleared starts again; its retries are counted. -/
def Obligations.ChannelStates : Prop := ∀ (s : State) (m : Nat) (c : Fin 64) (v : Reg32), s.Inv →
  risingFrom none s.mlt.chan = true → s.lead c = c → s.mltDecides = true → s.mltOn = true →
  let en := s.fld (mFld MLT_CTRL_EN c)
  let free := (s.chan c).en = true ∨ ∀ d, (s.chan c).diag = some d → d.back = none
  let out (t : State) := t.chState c = if s.fld (mFld MLT_CTRL_DIAG_EN c) = 1 then 1 else 2
  (en = 1 → s.chState c = 0 → s.runMode = true → ∃ t, exec (.channelEnable c) s = .next t ∧ out t ∧ (t.chan c).en = true) ∧
  (s.chState c = 2 → s.chanUnit c = none → (s.chan c).armed ≠ s.idx → ∃ t, exec (.channelStart c) s = .next t ∧ t.chState c = 3 ∧
    t.fld (mFld MLT_CH_STAT_RETRY_USED c) = 0 ∧ (t.chan c).ramp = 0 ∧ (t.chan c).duty = 0) ∧
  (en = 0 → s.chState c = 3 → free → ∃ t, exec (.channelDisable c) s = .next t ∧ t.chState c = 4) ∧
  (en = 0 → s.chState c ∈ [1, 2, 5, 6] → free → ∃ t, exec (.channelDisable c) s = .next t ∧ t.chState c = 0) ∧
  (s.chState c = 4 → (s.chan c).ramp = 0 → ∃ t, exec (.stopRampEnd c) s = .next t ∧ t.chState c = 0) ∧
  (s.chState c = 3 → (∃ t, exec (.flt c) s = .next t ∧ t.chState c = (if en = 0 then 0 else if
      s.fld (mFld MLT_CH_STAT_RETRY_USED c) = s.fld (mFld MLT_OC_RETRIES c) then 6 else 5) ∧
      t.fld (mFld MLT_CH_STAT_CAUSE c) = 3 ∧ (t.rd (0x1000 * mPage c + 0x10)).getLsbD 0 = true) ∧
    ((s.chan c).lostV = false → ∃ t, exec (.senseLoss c true) s = .next t ∧ t.fld (mFld MLT_CH_STAT_CAUSE c) = 4 ∧
      t.chState c ≠ 3)) ∧
  (s.takesWrite m (MLT_CMD + 0x1000 * c) v → s.chState c = 6 → v.getLsbD 1 = true → ∃ t, exec (.clear m c v) s = .next t ∧ out t) ∧
  (s.chState c = 5 → (s.chan c).waiting = true → ∃ t, exec (.retryWaitEnd c) s = .next t ∧ (t.chan c).waiting = false ∧
    t.fld (mFld MLT_CH_STAT_RETRY_USED c) = min (s.fld (mFld MLT_CH_STAT_RETRY_USED c) + 1) 255) ∧
  (s.chState c = 3 → exec (.retryClear c) s = .next ((s.setFld (mFld MLT_CH_STAT_RETRY_USED c) 0).tellChan c))

/-- R326, R327, R328, R329, R334, R338: the loop of a channel. An update takes the sense bits and, while the channel loops,
computes its duty, the start ramp going up by 1/256; a turn of the carrier changes valley for peak; a limited leg turns its
outputs at once and marks its period; the estimate of the coil is bounded by a quarter of and four times its nominal value. -/
def Obligations.ChannelLoop : Prop := ∀ (s : State) (c : Fin 64), s.Inv → risingFrom none s.mlt.chan = true → s.mltOn = true →
  (∀ sv si, let u := s.takeBits c sv si
    s.fld MLT_GCTRL_SCLK_EN = 1 → u.lead c = c → u.loops c = true → ∃ t, exec (.loopUpdate c sv si) s = .next t ∧ t = u.loopStep c ∧
      (t.chan c).turns = 0 ∧ (t.chan c).prev = (u.chan c).duty ∧
      (s.chState c = 3 → (t.chan c).ramp = min 256 ((s.chan c).ramp + 1)) ∧ t.mem = s.mem) ∧
  (s.lead c = c → s.chState c = 3 → (s.chan c).valley = false → ∃ t,
    exec (.carrierPeakOrValley c) s = .next t ∧ (t.chan c).valley = true ∧ (t.chan c).turns = (s.chan c).turns + 1 ∧
      (t.chan c).pwm = (s.chan c).pwm) ∧
  (s.chState (s.lead c) = 3 ∨ s.chState (s.lead c) = 4 → exec (.limit c) s =
    .next ((s.onChan c fun k => { k with limNow := true, limPeriod := true }).emit
      (.gates c [some 0, some 0] (max 8 (bitsNat (s.chan c).pwm.toNat 31 24))))) ∧
  (∀ (vi ii : Int) (n : Nat), n ≠ 0 → (n : Int) * 2 ^ 126 ≤ ii * 10000 →
    let nom := max 1 (s.fld (mFld MLT_TH_A_R_NOM c))
    ∃ t, exec (.reEstimate c vi ii n) s = .next t ∧ (t.rd (MLT_RE + 0x1000 * c)).getLsbD 31 = true ∧
      min 0xFFFF (nom / 4) ≤ (t.rd (MLT_RE + 0x1000 * c)).toNat % 2 ^ 31 ∧ (t.rd (MLT_RE + 0x1000 * c)).toNat % 2 ^ 31 ≤ 4 * nom) ∧
  (∀ (vi ii : Int) (n : Nat), ii * 10000 < (n : Int) * 2 ^ 126 → exec (.reEstimate c vi ii n) s = .next s) ∧
  (∀ v i, s.chState (s.lead c) ∈ [0, 2, 5, 6] → (s.rd SVC_CTRL).getLsbD 0 = false → s.mltDecides = true → ∃ t,
    exec (.senseOffsetCal c v i) s = .next t ∧ (t.chan c).offV = v ∧ (t.chan c).offI = i ∧ t.regs = s.regs ∧ t.mem = s.mem)

/-- R332, R333, R341: diagnostics and the impedance sweep. DIAG_CMD.START takes the channels that are OFF or LATCHED, in ACTIVE
only; a sense test fails without both bitstreams; a batch whose channels are all done ends with DIAG_DONE, each going on or
back. A sweep keeps each point's result in its place and ends after its last. -/
def Obligations.ChannelTests : Prop := ∀ (s : State) (m : Nat) (c : Fin 64) (v : Reg32), s.Inv → risingFrom none s.mlt.chan = true →
  (s.takesWrite m MLT_DIAG_CMD v → v.getLsbD 0 = true → s.mltDecides = true →
    (s.mode ≠ .active → exec (.diagCmdStart m v) s = .next (s.noteWrite (s.refusedField m MLT_DIAG_CMD) m)) ∧
    (s.mode = .active → s.fld MLT_DIAG_CMD_START = 0 → s.mltOn = true → (s.rdPair MLT_DIAG_MASK_LO MLT_DIAG_MASK_HI) = 2 ^ c.val →
      s.lead c = c → s.chState c = 0 ∨ s.chState c = 6 → ∃ t, exec (.diagCmdStart m v) s = .next t ∧ t.chState c = 1 ∧
        t.fld MLT_DIAG_CMD_START = 1 ∧ (t.chan c).diag = some ⟨2 * s.idx + 1, some (s.chState c), false, 1, 0, false, false⟩) ∧
    (s.mode = .active → s.fld MLT_DIAG_CMD_START = 1 → exec (.diagCmdStart m v) s = .next (s.noteWrite s m))) ∧
  (∀ d meas, s.mltDecides = true → (s.chan c).diag = some d → d.done = false →
    (d.test = 1 → (s.chan c).lostV = true ∨ (s.chan c).lostI = true → exec (.diagTestStep c meas) s = .next (s.failTest c 8)) ∧
    (d.test = 1 → (s.chan c).lostV = false → (s.chan c).lostI = false → exec (.diagTestStep c meas) s = .next (s.passTest c)) ∧
    (d.test = 2 ∨ d.test = 3 → d.sub ≠ 0 → exec (.diagTestStep c meas) s = .next (s.passTest c)) ∧
    (d.retry = false → ∀ code, ((s.failTest c code).chan c).diag = some { d with failed := true, done := true })) ∧
  (∀ b, s.endedBatch = some b → s.mltDecides = true → ∃ t, exec .diagDone s = .next t ∧ (t.rd 0xD0010).getLsbD 0 = true ∧
    (b % 2 = 1 → t.fld MLT_DIAG_CMD_START = 0) ∧ (∀ l ∈ s.batchChans b, l < 64 → (t.chan l).diag = none)) ∧
  (s.takesWrite m (MLT_SWP_CTRL + 0x1000 * c) v → v.getLsbD 31 = true → s.chState c = 3 → s.lead c = c → (s.chan c).sweep = none → ∃ t,
    exec (.impedanceSweepStart m c v) s = .next t ∧ (t.chan c).sweep = some 0 ∧ t.fld (mFld MLT_SWP_CTRL_START c) = 1 ∧
      t.fld (mFld MLT_SWP_CTRL_POINTS_M1 c) = bitsNat v.toNat 28 24 ∧ ∀ k < 32, t.rd (MLT_SWP_RES + 0x1000 * c + 4 * k) = 0) ∧
  (∀ k (mag ph : BitVec 16), (s.chan c).sweep = some k → k ≤ s.fld (mFld MLT_SWP_CTRL_POINTS_M1 c) → exec (.sweepPointDone c mag ph) s =
    .next ((s.wrN (MLT_SWP_RES + 0x1000 * c + 4 * k) (mag.toNat * 2 ^ 16 + ph.toNat)).onChan c fun x => { x with sweep := some (k + 1) })) ∧
  (∀ k, (s.chan c).sweep = some k → s.fld (mFld MLT_SWP_CTRL_POINTS_M1 c) < k → ∃ t, exec (.sweepDone c) s = .next t ∧
    (t.chan c).sweep = none ∧ t.fld (mFld MLT_SWP_CTRL_START c) = 0 ∧ (t.rd (0x1000 * mPage c + 0x10)).getLsbD 6 = true)


/-! ### Timberyard (15) -/

/-- R347, R348, R350, R353, R365, R367: the flash. MOUNT begins to mount and the volume found makes it READY; an erased block is
free again; a full page of eight chunks is programmed and leaves the buffer; a read counts against its block; a relocated
segment keeps its chunks in new blocks and gives the old ones up to be erased; a checkpoint that is programmed notes its time.
-/
def Obligations.FlashVolume : Prop := ∀ (s : State) (m : Nat) (v : Reg32), s.Inv →
  (s.takesWrite m TYD_CTRL v → s.cfgMode = true → v.getLsbD 31 = true → s.fld TYD_CTRL_MOUNT = 0 → s.tydState = 0 →
    ∃ t, exec (.mount m v) s = .next t ∧ t.tydState = 1 ∧ t.fld TYD_CTRL_MOUNT = 1) ∧
  (∀ disc, s.tydState = 1 → ∃ t, exec (.mounted disc) s = .next t ∧ t = s.mount disc ∧
    (t.tydState = 2 ∨ t.tydState = 4 ∧ t.tyd.vol = s.tyd.vol) ∧ t.fld (whole TYD_MOUNT_TIME) = disc.ms % 2 ^ 32) ∧
  (s.tydReady = true →
    (∀ b failed, exec (.pageProgramDone (.erase b) failed) s = .next (s.eraseDone b failed)) ∧
    (∀ typ cls par failed, (takePage typ cls s.tyd.buf).1.length < 8 → exec (.pageProgramDone (.page typ cls par) failed) s = .next s) ∧
    (∀ typ cls par failed ok u, 8 ≤ (takePage typ cls s.tyd.buf).1.length →
      s.program typ (if typ = 1 then cls else 0) (takePage typ cls s.tyd.buf).1 failed par = (ok, u) →
      exec (.pageProgramDone (.page typ cls par) failed) s =
        .next (if ok then u.onTyd fun t => { t with buf := (takePage typ cls s.tyd.buf).2 } else u)) ∧
    (∀ vol, s.tyd.vol = some vol →
      (∀ rd g, (vol.segs.find? fun g => g.seq == rd.seq) = some g →
        rd.stripe < g.stripes.length ∨ (∃ p ∈ g.cur, p.1 = rd.ch) → exec (.pageReadDone rd) s = .next (s.pageRead g rd)) ∧
      (∀ rd, (∀ g ∈ vol.segs, g.seq ≠ rd.seq) → exec (.pageReadDone rd) s = .next s) ∧
      (∀ n, (∀ g ∈ vol.segs, g.seq ≠ n) → ∃ t, exec (.segmentRefresh n) s = .next t ∧ t.tyd.vol = some vol ∧
        t.fld ⟨SVC_STAT, 4, 4⟩ = 0) ∧
      (∀ g n, (vol.segs.find? fun g => g.closed && g.seq == n) = some g → ∃ t w, exec (.segmentRefresh n) s = .next t ∧
        t.tyd.vol = some w ∧ w.reads = g.blocks.foldl (fun r b => mset 0 r b (mget 0 r b + g.stripes.length)) vol.reads ∧
        w.free = vol.free ∧ w.dirty = vol.dirty) ∧
      (∀ g w h, (vol.segs.find? fun g => g.closed && g.reloc) = some g → vol.newSeg 0 0 = some w → w.segs.getLast? = some h →
        ∃ t x, exec .relocationDone s = .next t ∧ t.tyd.vol = some x ∧ x.dirty = w.dirty ++ g.blocks ∧
          { g with seq := h.seq, blocks := h.blocks, reloc := false } ∈ x.segs ∧ x.free = w.free) ∧
      ((∀ g ∈ vol.segs, g.closed = false ∨ g.reloc = false) → exec .relocationDone s = .next s) ∧
      (∀ page u w, ((List.range 8).foldl (fun (a : List Chunk × State) _ => (a.1 ++ [(a.2.ownRecord 6).1], (a.2.ownRecord 6).2)) ([], s))
        = (page, u) → u.program 6 0 page false false = (true, w) → ∃ t, exec .checkpoint s = .next t ∧ t.tyd.ckpt = w.time)))

/-- R359, R360, R361: playback. GO arms a stream with its item, to start after the lead or with a compare unit; an item that
does not exist sets NO_ITEM; STOP ends it; at its index an armed stream plays its item from the beginning. R355, R362, R363,
R366, R367: Timberyard's commands. FORMAT makes the volume anew in CONFIG and SERVICE; one export runs at a time and ends with
its count; a library item is imported with its rate and deleted whole; an archive slot holds the last put, and a get of an empty
slot is NO_SUCH. -/
def Obligations.PlaybackAndCommands : Prop :=
  (∀ (s : State) (m : Nat) (st : Fin 64) (v : Reg32), s.Inv → risingFrom none s.tyd.pb = true →
  let item := bitsNat v.toNat 15 0
  (s.takesWrite m (PB_CTRL + 0x10 * st) v → v.getLsbD 31 = true → v.getLsbD 30 = false →
    ((s.libItem item).isSome = true → ∃ t, exec (.go m st v) s = .next t ∧ t.playback st = { s.playback st with
      armed := some (item, if 1 ≤ bitsNat v.toNat 20 16 ∧ bitsNat v.toNat 20 16 ≤ 16 then none
        else some ((s.idx + max 1 (s.fld ⟨TYD_PB_LEAD, 15, 0⟩)) % 2 ^ 48)) } ∧ t.fld (pbFld PB_STAT_NO_ITEM st) = 0 ∧
      t.fld (pbFld PB_CTRL_GO st) = 1) ∧
    ((s.libItem item).isNone = true → ¬ (s.mode = .standby ∧ s.lockstep = true) → ∃ t, exec (.go m st v) s = .next t ∧
      t.fld (pbFld PB_STAT_NO_ITEM st) = 1 ∧ t.playback st = s.playback st ∧ (t.rd 0x7A010).getLsbD 1 = true)) ∧
  (s.takesWrite m (PB_CTRL + 0x10 * st) v → v.getLsbD 31 = false → v.getLsbD 30 = true → s.playback st ≠ ⟨none, none⟩ →
    ∃ t, exec (.playbackStop m st v) s = .next t ∧ t.playback st = ⟨none, none⟩ ∧ t.fld (pbFld PB_STAT_STATE st) = 0 ∧
      (t.rd 0x7A010).getLsbD 2 = true) ∧
  (∀ i, (s.playback st).armed = some (i, some s.idx) → exec (.playbackStart st) s =
    .next ((((s.putPlayback st ⟨none, some ⟨i, s.idx, 0⟩⟩).tell 6 st s.idx (beBytes 1 1)).onTick s.idx fun t => { t with arr := mdel t.arr (1056 + st) }).pbPlay st
      ⟨i, s.idx, 0⟩)) ∧
  (∀ i n, (s.playback st).armed = some (i, some n) → n ≠ s.idx → exec (.playbackStart st) s = .next s)) ∧
  (∀ (s : State) (c : Cmd), s.Inv → s.crn.cur = some c →
  (∀ id disc, c.opcode = 0x46 → (s.cfgMode = true → s.tyd.frozen = false → ∃ x : State, exec (.format id disc) s = .next x.pumpAll ∧
      x.tyd.vol = some (s.formatted id disc)) ∧
    (s.cfgMode = false → exec (.format id disc) s = .next (s.completeCmd c { primary := 0x03, aux := s.crnState }).pumpAll)) ∧
  (∀ e, s.tyd.exp = some e → (∃ t, exec (.exportDone true) s = .next t ∧ t.tyd.exp = none) ∧
    ∃ t, exec (.exportDone false) s = .next t ∧ t.tyd.exp = none ∧ t = (s.finishExport e (e.size - 2)).2.2.completeCmd e.cmd { primary := 0, aux :=
      (if (s.finishExport e (e.size - 2)).2.1 then 2 ^ 31 else 0) + (s.finishExport e (e.size - 2)).1 }) ∧
  (s.tydReady = true → s.tyd.frozen = false →
    (c.opcode = 0x40 → s.tyd.exp.isSome = true → exec .exportStart s =
      .next (s.completeCmd c { primary := 0x03, aux := s.crnState }).pumpAll) ∧
    (∀ ws u, c.opcode = 0x40 → s.tyd.exp = none → State.burstRead 4 12 0 (c.bits 1 22 0) s = (some ws, u) →
      (ws.getD 2 0).toNat % 2 ^ 64 % 2048 = 0 → 2 ≤ bitsNat ((ws.getD 3 0).toNat % 2 ^ 64) 31 0 →
      bitsNat ((ws.getD 3 0).toNat % 2 ^ 64) 35 32 ≤ 1 → ∃ (x : State) (e : ExportRun), exec .exportStart s = .next x.pumpAll ∧
        x.tyd.exp = some e ∧ e.cmd = c ∧ e.start = (ws.getD 0 0).toNat % 2 ^ 64 ∧ e.addr = (ws.getD 2 0).toNat % 2 ^ 64 ∧
        x.crn.cur = none) ∧
    (c.opcode = 0x41 → ∃ x : State, exec .exportAbort s = .next x.pumpAll ∧ x.tyd.exp = none ∧ x.crn.cur = none) ∧
    (∀ ws u w, c.opcode = 0x42 → s.libItem (c.bits 1 63 48) = none → (c.word 1).getLsbD 47 = false →
      State.burstRead 4 (c.bits 2 20 0) 0 (c.bits 1 22 0) s = (some ws, u) → (u.storedChunks 2 (c.bits 1 63 48)) = [] →
      u.storeChunks 2 (((pieces 672 ws.length ws).zip (List.range (pieces 672 ws.length ws).length)).map fun p =>
        ⟨2, if u.plb.fast then 1 else 0, c.bits 1 63 48, 0, 0 + 672 * p.2, 0, p.1.length, 0, 0 + p.2,
          p.1.flatMap fun w => beBytes 3 (code24 w), false⟩) = (true, w) →
      exec .libImport s = .next (w.completeCmd c { primary := 0 }).pumpAll) ∧
    (c.opcode = 0x43 → s.libItem (c.bits 1 63 48) = none → exec .libDelete s = .next (s.completeCmd c { primary := 0x13 }).pumpAll) ∧
    (c.opcode = 0x43 → (s.libItem (c.bits 1 63 48)).isSome = true → exec .libDelete s =
      .next ((s.deleteChunks 2 fun k => k.channel == c.bits 1 63 48).completeCmd c { primary := 0 }).pumpAll) ∧
    (∀ ws u w, c.opcode = 0x44 → State.burstRead 4 (c.bits 2 20 0) 0 (c.bits 1 22 0) s = (some ws, u) →
      u.storedChunks 3 (c.bits 1 63 56) = [] →
      u.storeChunks 3 (((pieces 224 ws.length ws).zip (List.range (pieces 224 ws.length ws).length)).map fun p =>
        ⟨3, 0, c.bits 1 63 56, 0, 224 * p.2, 0, p.1.length, 0, 0 + p.2, p.1.flatMap fun w => beBytes 9 w.toNat, false⟩) = (true, w) →
      exec .archivePut s = .next ((w.deleteChunks 3 fun k =>
        k.channel == c.bits 1 63 56 && decide (k.seq < 0)).completeCmd c { primary := 0 }).pumpAll) ∧
    (c.opcode = 0x45 → s.storedChunks 3 (c.bits 1 63 56) = [] → exec .archiveGet s =
      .next (s.completeCmd c { primary := 0x13 }).pumpAll) ∧
    (∀ ks ws u w, c.opcode = 0x45 → s.storedChunks 3 (c.bits 1 63 56) = ks → ks ≠ [] → s.archiveWords ks = (ws, u) →
      State.burstWrite 4 (ws.take (c.bits 2 20 0)) 0 (c.bits 1 22 0) u = (true, w) → exec .archiveGet s =
      .next (w.completeCmd c { primary := 0, aux := (ws.take (c.bits 2 20 0)).length }).pumpAll)))

/-! ### Cairn (07) -/

/-- R146, R147, R143, R148: the rings and the scene store. The doorbell does nothing in SELFTEST, and in RESET no write does
anything (log entry 41); else the entries are taken, some number of them up to 256 where CMD_PROD runs more than 256 ahead (log
entry 43); NOP completes OK; STORE of no records deletes its scene, and one that fits is copied to the first free run and
listed; CRN_STORE_CTRL is refused in ACTIVE and deletes every scene in CONFIG. -/
def Obligations.RingsAndStore : Prop := ∀ (s : State) (m : Nat) (v : Reg32) (c : Cmd), s.Inv →
  (s.mode = .reset → exec (.crnDoorbell m v) s = .next s) ∧
  (s.takesWrite m CRN_DOORBELL v →
    let r := s.mbxRead 0
    let ahead := (2 ^ 32 + r.1.toNat % 2 ^ 32 - r.2.mbxIndex 1) % 2 ^ 32
    (s.upMode = false → exec (.crnDoorbell m v) s = .next (s.noteWrite s m)) ∧
    (s.upMode = true → ahead ≤ 256 → exec (.crnDoorbell m v) s =
      .next (s.noteWrite (r.2.onCrn fun k => { k with prod := r.1.toNat % 2 ^ 32 }).pumpAll m)) ∧
    (s.upMode = true → 256 < ahead → ∃ n ≤ 256, exec (.crnDoorbell m v) s =
      .next (s.noteWrite ((r.2.free 16).2.onCrn fun k => { k with prod := (r.2.mbxIndex 1 + n) % 2 ^ 32 }).pumpAll m))) ∧
  (s.crn.waiting = true → s.cplRoom = true → exec .cplWaitEnd s = .next s.pumpAll) ∧
  (s.crn.cur = some c → c.opcode = 0 → exec .cairnNop s = .next (s.completeCmd c { primary := 0 }).pumpAll) ∧
  (s.crn.cur = some c → c.opcode = 1 → c.bits 1 48 32 = 0 → exec .store s =
    .next ((s.setDir (c.bits 1 63 56) 0 0 0 0).completeCmd c { primary := 0 }).pumpAll) ∧
  (s.crn.cur = some c → c.opcode = 1 → c.bits 1 48 32 ≠ 0 →
    ((s.freeRuns.find? fun r => decide (c.bits 2 20 0 ≤ r.2)) = none → exec .store s =
      .next (s.completeCmd c { primary := 0x30, aux := s.largestRun }).pumpAll) ∧
    (∀ r ok u, (s.freeRuns.find? fun r => decide (c.bits 2 20 0 ≤ r.2)) = some r →
      s.copyBankWords (c.bits 2 20 0) (c.bits 1 22 0) r.1 = (ok, u) → exec .store s = .next (if ok then
        ((u.setDir (c.bits 1 63 56) (2 ^ 31 + r.1) (c.bits 2 20 0) (c.bits 1 48 32) c.seq).completeCmd c { primary := 0 }).pumpAll
        else (u.completeCmd c { primary := 0x40, kind := 8 }).pumpAll))) ∧
  (s.takesWrite m CRN_STORE_CTRL v →
    bitsNat v.toNat 22 16 ≠ s.fld CRN_STORE_CTRL_FIRST_BANK ∨ bitsNat v.toNat 5 0 ≠ s.fld CRN_STORE_CTRL_BANKS →
    (s.cfgMode = false → exec (.crnStoreCtrl m v) s = .next (s.noteWrite (s.refusedField m CRN_STORE_CTRL) m)) ∧
    (s.cfgMode = true → ∃ t, exec (.crnStoreCtrl m v) s = .next t ∧ t.fld CRN_STORE_CTRL_FIRST_BANK = bitsNat v.toNat 22 16 ∧
      t.fld CRN_STORE_CTRL_BANKS = bitsNat v.toNat 5 0 ∧ ∀ n < 256, t.rd (DIR_LOC + dirOff n) = 0 ∧ t.rd (DIR_LEN + dirOff n) = 0))

/-- R151, R152, R154: STAGE. Its steps run on the copy that is not live; the first that fails gives the completion and Cairn is
IDLE; one that passes leaves the scene STAGED with its count. In lockstep the active engine waits for its peer's digest: equal
digests complete it, others, and a digest that does not come, refuse it and end lockstep. -/
def Obligations.StagingRuns : Prop := ∀ (s : State) (c : Cmd), s.crn.cur = some c → c.opcode = 2 →
  (∀ us, s.crn.waitDigest = false →
    let direct := (c.word 1).getLsbD 63
    let n := c.bits 1 62 55
    let base := if direct then c.bits 1 22 0 else bitsNat (s.rd (DIR_LOC + dirOff n)).toNat 22 0
    let len := if direct then c.bits 2 20 0 else s.fld (DIR_LEN_LENGTH.sh (dirOff n))
    let recs := if direct then c.bits 1 48 32 else s.fld (DIR_REC_RECORDS.sh (dirOff n))
    let u := ((s.unstage.beginStage c).wrN CRN_STAGE_TIME (us % 2 ^ 24)).onCrn fun k => { k with
      plan := some ⟨n, direct, 0, [], [], [], [], 0, c.seq, 0⟩ }
    (direct = false → u.sceneDark base len = true →
      exec (.stage us) s = .next (u.endStage c (some (stageFault 0 0))).pumpAll) ∧
    (direct = true ∨ u.sceneDark base len = false → exec (.stage us) s =
      .next ((u.stageSteps base len recs).2.endStage c (u.stageSteps base len recs).1).pumpAll)) ∧
  (∀ i, s.Inv → s.lockstep = false → ∃ p, s.endStage c (some i) = State.completeCmd p c i ∧ p.crnState = 0 ∧ p.crn.plan = none) ∧
  (s.Inv → s.lockstep = false → s.crn.plan.isSome = true → s.crn.peerDigest = none → (s.endStage c none).crnState = 2 ∧
    (s.endStage c none).crn.cur = none) ∧
  (s.Inv → s.lockstep = true → s.mode = .active → s.crn.peerDigest = none →
    (s.endStage c none).crn.waitDigest = true ∧ (s.endStage c none).crn.cur = some c) ∧
  (∀ seq code dig, s.lockstep = false → exec (.stageDigest seq code dig) s = .next s.gotFrame) ∧
  (∀ p dig, s.Inv → s.mode = .active → s.lockstep = true → s.crn.waitDigest = true → s.crn.plan = some p →
    (dig = p.digest → ∃ t, exec (.stageDigest (BitVec.ofNat 32 c.seq) 0 dig) s = .next (State.pumpAll t) ∧ t.crnState = 2 ∧
      t.crn.cur = none ∧ t.lockstep = true) ∧
    (dig ≠ p.digest → ∃ t, exec (.stageDigest (BitVec.ofNat 32 c.seq) 0 dig) s = .next (State.pumpAll t) ∧ t.crnState = 0 ∧
      t.lockstep = false)) ∧
  (s.crn.waitDigest = true → exec .stageDigestTimeout s = .next (s.disagree c 0xFF).pumpAll) ∧
  (s.crn.waitDigest = false → exec .stageDigestTimeout s = .next s)

/-- R155, R156, R151, R162: COMMIT, the flip, ABORT and the end of the changes. A COMMIT that arms opens the next journal record
ARMED, with its flip sample; at that sample the staged copy becomes live and the scene is no longer staged; an ABORT before it
ends the record ABORTED and leaves Cairn IDLE; once every change has ended Cairn is IDLE. -/
def Obligations.CommitsFlip : Prop := ∀ (s : State) (c : Cmd), s.Inv →
  (s.crn.cur = some c → c.opcode = 3 → s.crn.plan = none → exec .commit s =
    .next (s.completeCmd c { primary := 0x03, aux := s.crnState }).pumpAll) ∧
  (∀ p, s.crn.cur = some c → c.opcode = 3 → s.crn.plan = some p → (s.flipSample c).1 < 2 ^ 48 → ∃ x : State,
    exec .commit s = .next x.pumpAll ∧ x.crnState = 3 ∧ x.crn.cur = none ∧ x.jState ((s.rd CRN_JNL_NEXT).toNat % 32) = 1 ∧
      x.rd CRN_JNL_NEXT = s.rd CRN_JNL_NEXT + 1 ∧ x.rdPair CRN_ARM_IDX_LO CRN_ARM_IDX_HI = (s.flipSample c).1 ∧
      x.crn.commit = some ⟨c.seq, (s.rd CRN_JNL_NEXT).toNat, (s.flipSample c).1, s.window c, (c.word 1).getLsbD 61⟩) ∧
  (∀ k p, s.crn.commit = some k → s.crn.plan = some p → s.crnState = 3 → idxLe k.flip s.idx = true →
    exec .commitFlip s = .next (s.flip k p).pumpAll ∧ (s.flip k p).crn.plan = none ∧
      (p.units.testBit 0 = true → (s.flip k p).live = s.other)) ∧
  (∀ k, s.crn.cur = some c → c.opcode = 4 → s.crn.commit = some k → s.crnState = 3 → ∃ x : State, exec .abort s = .next x.pumpAll ∧
    x.crnState = 0 ∧ x.crn.commit = none ∧ x.crn.plan = none ∧ x.jState (k.jnl % 32) = 4) ∧
  (s.crn.cur = some c → c.opcode = 4 → s.crn.commit = none → exec .abort s =
    .next (s.unstage.completeCmd c { primary := 0 }).pumpAll) ∧
  (s.crnState = 4 → s.trs.xf = none → s.fld TRS_GRAPH_STAT_XFADE = 0 → s.trs.srcRamp = [] → s.trs.sinkRamp = [] → ∃ x : State,
    exec .changingEnd s = .next x.pumpAll ∧ x.crnState = 0 ∧ x.crn.commit = none)


/-! ### Belay (16) -/

/-- R388, R389, R390, R391, R392, R393, R378, R379: heartbeats, paths and roles. A valid HB_IN edge shows the pin path, unless
an injection treats it as silent (R408); the peer is declared failed when both paths are silent; a standby that has been in
lockstep then takes over and raises ACT_OUT, an active engine stays; a fault in an active engine begins its hold with its cause,
and one in a standby ends in SERVICE; ACT_IN's rise makes an active engine yield to STANDBY, but for a senior within 1 µs. -/
def Obligations.TwinRoles : Prop := ∀ (s : State) (us : Nat), s.Inv →
  let edge (n : Nat) := (s.advance n).captureOn 7 none
  (s.upMode = true → s.bly.hbStatic = false → s.bly.hbOpened = true → ∃ t, exec .hbOutToggle s = .next t ∧ t.bly.hb = !s.bly.hb ∧
    t.bly.hbOpened = false ∧ t.out = .pin 4 (!s.bly.hb) :: s.out) ∧
  (∀ n, (us < 20 → exec (.hbInEdge us n) s = .next (edge n)) ∧
    (20 ≤ us → (edge n).bly.pinInj ≤ 0 → exec (.hbInEdge us n) s = .next ((edge n).setFld BLY_STAT_HB_OK 1)) ∧
    (20 ≤ us → 0 < (edge n).bly.pinInj → exec (.hbInEdge us n) s =
      .next ((edge n).onBly fun b => { b with pinInj := b.pinInj - us }))) ∧
  (s.fld BLY_STAT_HB_OK = 1 → s.fld BLY_STAT_LINK_OK = 0 → s.fld BLY_STAT_PEER_FAILED = 0 → ∃ t, exec (.pathFault false) s = .next t ∧
    t.fld BLY_STAT_HB_OK = 0 ∧ t.fld BLY_STAT_PEER_FAILED = 1 ∧ (t.rd 0x70010).getLsbD 0 = true ∧ t.mode = s.mode ∧ t.lockstep = false) ∧
  (s.fld BLY_STAT_HB_OK = 1 → s.fld BLY_STAT_LINK_OK = 1 → ∃ t, exec (.pathFault false) s = .next t ∧ t.fld BLY_STAT_HB_OK = 0 ∧
    t.fld BLY_STAT_PEER_FAILED = s.fld BLY_STAT_PEER_FAILED ∧ (t.rd 0x70010).getLsbD 1 = true ∧ t.lockstep = s.lockstep) ∧
  (s.fld BLY_STAT_PEER_FAILED = 1 → s.fld BLY_STAT_HB_OK = 1 → s.fld BLY_STAT_LINK_OK = 1 → ∃ t, exec .peerReturn s = .next t ∧
    t.fld BLY_STAT_PEER_FAILED = 0) ∧
  (s.mode = .standby → s.fld BLY_STAT_PEER_FAILED = 1 → s.fld BLY_STAT_EVER_SYNCED = 1 → ∃ x : State, exec (.takeover us) s =
    .next x.pumpAll ∧ x.mode = .active ∧ x.fld BLY_STAT_ACT_OUT = 1 ∧ x.rdPair BLY_TAKE_LO BLY_TAKE_HI = s.idx ∧
      x.rd BLY_TAKE_TIME = BitVec.ofNat 32 (min 65535 us) ∧ (x.rd 0x70010).getLsbD 3 = true) ∧
  (s.mode = .standby → s.fld BLY_STAT_PEER_FAILED = 0 → exec (.takeover us) s = .next s) ∧
  (∀ cause : Byte, 1 ≤ cause.toNat → cause.toNat ≤ 6 →
    (s.mode = .active → s.bly.hold = false → ∃ t, exec (.resignation cause) s = .next t ∧ t.bly.hold = true ∧ t.bly.hbStatic = true ∧
      t.mode = .active ∧ bitsNat (t.rd BLY_CAUSE).toNat 7 0 = cause.toNat ∧ t.fld BLY_STAT_HOLDING = 1 ∧ t.lockstep = false) ∧
    (s.mode = .standby → ∃ t, exec (.resignation cause) s = .next t ∧ t.mode = .service)) ∧
  (∀ m v, s.takesWrite m BLY_CTRL v → v.getLsbD 0 = true → bitsNat v.toNat 31 24 = 0xB1 → exec (.resignWrite m v) s =
    .next (s.noteWrite ((s.setFld BLY_CTRL_AUTO_RESYNC (bitsNat v.toNat 1 1)).resign 5) m)) ∧
  (s.fld BLY_STAT_ACT_OUT = 1 → s.mode = .active → s.bly.hold = false →
    (s.fld BLY_STAT_SENIOR = 0 ∨ 1 < us → ∃ t, exec (.actInRise us) s = .next t ∧ t.mode = .standby ∧ t.fld BLY_STAT_ACT_OUT = 0 ∧
      t.fld BLY_STAT_ACT_IN = 1) ∧
    (s.fld BLY_STAT_SENIOR = 1 → us ≤ 1 → ∃ t, exec (.actInRise us) s = .next t ∧ t.mode = .active ∧ t.fld BLY_STAT_ACT_OUT = 1 ∧
      t.bly.contest = true)) ∧
  (s.bly.contest = true → s.fld BLY_STAT_ACT_IN = 0 → s.fld BLY_STAT_ACT_OUT = 1 → ∃ t, exec .seniorReassert s = .next t ∧
    t.fld BLY_STAT_ACT_OUT = 1 ∧ t.bly.contest = false ∧ t.out = .pin 5 true :: .pin 5 false :: s.out)

/-- R380 to R386, R402, R403, R404: the frames of a pair in lockstep, as a standby takes them. A forwarded write or command is
held to its tag; decisions and patches settle the samples of their index, the first decision standing; without its FINAL frame
the standby decides for itself and counts it; a digest that differs is a divergence and ends a standby's lockstep; a TICK frame
acknowledges what was sent; a CRC error is answered with a NAK, and a NAK has the frames from it on sent again. -/
def Obligations.TwinFrames : Prop := ∀ (s : State) (n : Idx) (tag : Idx), s.Inv →
  let g := s.gotFrame
  (s.lockstep = true → s.mode = .standby →
    (∀ m a d, exec (.writeFrame m a d tag) s = .next { g with fwd := g.fwd ++ [(tag.toNat, asForwarded m a d)] }.drain) ∧
    (∀ m a d, s.fwd = [] → (asForwarded m a d).isFence = false → exec (.writeFrame m a d tag) s =
      .next (if idxLe tag.toNat s.idx then g.performFwd (asForwarded m a d)
        else { g with fwd := [(tag.toNat, asForwarded m a d)] })) ∧
    (∀ ws, exec (.commandFrame ws tag) s = .next (g.onCrn fun k => { k with
      queue := k.queue ++ [⟨ws, false, some tag.toNat⟩] }).pumpAll) ∧
    (∀ item data, exec (.decision 1 item n data) s = .next (g.onTrs fun u => { u with laneChange := u.laneChange ++ [(data, n.toNat)] })) ∧
    (∀ item data, idxLe n.toNat s.idx = false → s.bly.decisions = [] → exec (.decision 4 item n data) s =
      .next (g.onBly fun b => { b with decisions := [(n.toNat, 4, item, data)] }))) ∧
  (s.lockstep = false → s.bly.joining = false → ∀ m a d ws u i x, exec (.writeFrame m a d tag) s = .next g ∧
    exec (.commandFrame ws tag) s = .next g ∧ exec (.decision u i n x) s = .next g) ∧
  (s.obeys n.toNat = false → ∀ f es ps, exec (.presence n f es) s = .next g ∧ exec (.patch n ps) s = .next g) ∧
  (∀ p w v, s.follows n.toNat = true → s.resyncing = false → p < 1056 →
    entryPoint v = p → exec (.patch n [(v, w)]) s = .next (((g.bump (whole BLY_PATCH_CNT)).patchIn n.toNat p w).tryFinal n.toNat)) ∧
  (∀ n p a b, ¬ s.bly.fell.contains n → mfind s.bly.decided (pKey n p) = none → s.decide' n p a = s.onBly (fun y => { y with
    decided := mins y.decided (pKey n p) a }) ∧ (s.decide' n p a).decide' n p b = s.decide' n p a) ∧
  ((∀ e : Nat, mfind s.bly.store (pKey n.toNat (entryPoint e)) = none) → ∀ es, exec (.patchReq n es) s = .next g) ∧
  (∀ e w, mfind s.bly.store (pKey n.toNat (entryPoint e)) = some w → exec (.patchReq n [e]) s = .next
    ((g.bump (whole BLY_PATCH_CNT)).sendBelay 6 n.toNat (presEntry (entryPoint e) true ++ beBytes 9 w.toNat))) ∧
  (s.follows s.idx = true → s.catching = false → s.idx ∉ s.bly.finals → s.idx ∉ s.bly.fell →
    let held := ((s.bly.own.filter fun e => e.1 / 8192 == s.idx && (mfind s.bly.decided e.1).isNone).map fun e => e.1)
    exec .fallback s = .next ((((s.bump (whole BLY_FALLBACK)).onBly fun b => { b with
      decided := held.foldl (fun m k => mins m k true) b.decided, fell := s.idx :: b.fell }).settle s.idx).tryFinal s.idx)) ∧
  (∀ d k own, s.lockstep = true → mfind s.bly.digests k = some own → 0x70 * 32 + 2 ∉ s.inj →
    (d = own → s.compareDigests k d = (s.onTime 6).onBly fun b => { b with digests := mdel b.digests k }) ∧
    (d ≠ own → k < 2 ^ 48 → (s.compareDigests k d).rdPair BLY_DIVERGE_LO BLY_DIVERGE_HI = k ∧
      ((s.compareDigests k d).rd 0x70010).getLsbD 2 = true ∧ (s.compareDigests k d).lockstep = decide (s.mode ≠ .standby))) ∧
  (∀ rec : TickRec, rec.mode < 2 ∨ 4 < rec.mode → ∃ t, exec (.tickFrame rec) s = .next t ∧ t.fld BLY_STAT_PEER_FAILED = 1) ∧
  (∀ rec : TickRec, s.lockstep = false → s.mode = .config → 2 ≤ rec.mode → rec.mode ≤ 4 → ∃ t, exec (.tickFrame rec) s = .next t ∧
    t.fld BLY_STAT_PEER_MODE = rec.mode ∧ t.fld BLY_STAT_LINK_OK = 1 ∧ t.bly.rxTick = (rec.tx, rec.rx) ∧
    (∀ f ∈ t.bly.replay, 2 ^ 31 ≤ (2 ^ 32 + rec.ack - f.fseq) % 2 ^ 32)) ∧
  (∀ q, exec (.nak q) s = .next ((g.bly.replay.filter fun f => decide ((2 ^ 32 + f.fseq - q.toNat) % 2 ^ 32 < 2 ^ 31)).foldl
    (fun s f => s.deal true f) g)) ∧
  (∀ f fs, s.bly.replay = f :: fs → exec .retransmit s = .next (s.deal true f)) ∧
  (∀ l : Fin 4, exec (.belayCrcError l) s = .next ((s.bump (whole (BLY_LN_CRC + 0x10 * l.val))).sendBelay 0x0B s.idx
    (beBytes 4 s.bly.got)))

/-- R394, R395, R396, R397, R398, R399: planned swaps and joins. A swap under way is executed at its index: the active engine
lowers ACT_OUT and enters STANDBY, and the standby, once ACT_IN falls, becomes active; both note the index and count it. A
joiner that differs is refused with the difference; an accepted one starts at n0, takes the snapshot, catches up, and at n1
enters STANDBY in lockstep. -/
def Obligations.SwapsJoins : Prop := ∀ (s : State) (c : Cmd), s.Inv →
  (∀ ns cmd, s.bly.swap = some (ns, cmd) → idxLe ns s.idx = true → ns < 2 ^ 48 →
    (s.mode = .active → cmd = false → ∃ t, exec .swapExecute s = .next t ∧ t.mode = .standby ∧ t.fld BLY_STAT_ACT_OUT = 0 ∧
      t.bly.swap = none ∧ t.rdPair BLY_SWAP_IDX_LO BLY_SWAP_IDX_HI = ns ∧ t.rd BLY_SWAP_CNT = s.rd BLY_SWAP_CNT + 1 ∧
      (t.rd 0x70010).getLsbD 5 = true) ∧
    (s.mode = .standby → ∃ t, exec .actInFall s = .next t ∧ t.mode = .active ∧ t.fld BLY_STAT_ACT_OUT = 1 ∧ t.fld BLY_STAT_ACT_IN = 0 ∧
      t.rd BLY_SWAP_CNT = s.rd BLY_SWAP_CNT + 1)) ∧
  (s.bly.swap = none → exec .swapExecute s = .next s ∧ exec .actInFall s = .next (s.setFld BLY_STAT_ACT_IN 0) ∧
    (s.mode = .active → s.fld BLY_SWAP_CTRL_SWAP_EN = 1 → exec .swapSkipped s = .next (s.evt 0x70 6)) ∧
    (s.sends = true → s.fld BLY_SWAP_CTRL_SWAP_EN = 1 → s.quiet = true → s.sys.descent = none → exec .swapStart s =
      .next (s.aheadIdx.2.planSwap s.aheadIdx.1 false)) ∧
    (s.crn.cur = some c → c.opcode = 0x60 → s.sends = true → s.lockstep = true → c.bits 1 63 62 = 0 → exec .swap s =
      .next ((s.aheadIdx.2.planSwap s.aheadIdx.1 true).detach c).pumpAll) ∧
    (s.crn.cur = some c → c.opcode = 0x60 → s.sends = true → s.lockstep = true → c.bits 1 63 62 ≠ 0 →
      let at' := if c.bits 1 63 62 = 1 then c.bits 2 47 0 else s.timeIndex (c.bits 2 47 0)
      let least := (s.idx + 16) % 2 ^ 48
      exec .swap s = .next ((s.planSwap (if idxLe least at' then at' else least) true).detach c).pumpAll)) ∧
  (∀ ns port, s.mode = .standby → s.lockstep = true → exec (.swapFrame ns port) s = .next (s.gotFrame.onBly fun b => { b with
    swap := some (ns.toNat, false) })) ∧
  (s.bly.joining = false → s.peerReady = true → s.mode = .config →
    (s.crn.cur = some c → c.opcode = 0x61 → exec .join s = .next (s.startJoin.detach c).pumpAll) ∧
    (s.fld SYS_STAT_LAST_RESET = 5 → exec .descentAutoJoin s = .next s.startJoin) ∧
    s.startJoin.bly.joining = true ∧ s.startJoin.fld BLY_JOIN_STAT_PHASE = 1) ∧
  (∀ r : JoinRec, s.mode = .active → s.bly.hold = false → s.bly.serving = false →
    (s.joinDiff r ≠ 0 → exec (.joinReq r) s = .next (s.gotFrame.joinAck (s.joinDiff r) 0 0)) ∧
    (s.joinDiff r = 0 → ∃ t n, exec (.joinReq r) s = .next t ∧ t.bly.n0 = some n ∧ t.rdPair BLY_N0_LO BLY_N0_HI = n ∧
      t.fld BLY_JOIN_STAT_PHASE = 1 ∧ 16 ≤ (2 ^ 48 + n - s.idx) % 2 ^ 48)) ∧
  (s.bly.joining = true →
    (∀ code : Byte, code ≠ 0 → ∀ n0 n1, exec (.joinAck code n0 n1) s = .next (s.gotFrame.refuseJoin 0x50 code.toNat)) ∧
    (∀ n0 : Idx, s.fld BLY_JOIN_STAT_PHASE = 1 → ∃ t, exec (.joinAck 0 n0 0) s = .next t ∧ t.bly.n0 = some n0.toNat) ∧
    (s.fld BLY_JOIN_STAT_PHASE = 1 → s.lockedOnPeer = false → exec .joinLockTimeout s = .next (s.refuseJoin 0x03 s.crnState)) ∧
    (∀ n, s.bly.n0 = some n → s.mode = .config → n < 2 ^ 48 → ∃ t, exec .resyncStart s = .next t ∧ t.fld BLY_JOIN_STAT_PHASE = 2 ∧
      t.bly.n0 = none ∧ nextIdx t.idx = n ∧ t.trs.ticks = [] ∧ t.bly.decided = []) ∧
    (∀ region a ws us, s.fld BLY_JOIN_STAT_PHASE = 2 → region ≠ 4 → exec (.snap region a ws us) s = .next (
      let g := s.gotFrame
      (g.putSnaps region a (if region = 3 then 4 else 16) ws).wrN BLY_SNAP_SENT
        (((g.rd BLY_SNAP_SENT).toNat + ws.length) % 2 ^ 32))) ∧
    (s.fld BLY_JOIN_STAT_PHASE = 2 → s.bly.serving = false → ∃ t, exec .snapshotDone s = .next t ∧
      t.fld BLY_JOIN_STAT_PHASE = 3 ∧ t.idx = nextIdx s.idx) ∧
    (∀ ms, s.fld BLY_JOIN_STAT_PHASE = 3 → s.bly.n1 = some s.idx → s.bly.serving = false → s.bly.real = s.idx → s.mode = .config →
      ∃ t, exec (.joinDone ms) s = .next t ∧ t.mode = .standby ∧ t.lockstep = true ∧ t.fld BLY_JOIN_STAT_PHASE = 4 ∧
        t.fld BLY_STAT_EVER_SYNCED = 1 ∧ t.bly.joining = false ∧ (t.rd 0x71010).getLsbD 0 = true)) ∧
  (s.mode = .active → s.bly.n0 = some s.idx → ∃ t, exec .resyncStart s = .next t ∧ t.fld BLY_JOIN_STAT_PHASE = 2 ∧ t.bly.n0 = none ∧
    t.rd BLY_SNAP_TOTAL = BitVec.ofNat 32 (s.snapFrames.map fun f => f.2.2).sum) ∧
  (s.bly.serving = true →
    (s.fld BLY_JOIN_STAT_PHASE = 2 → ∃ t n, exec .snapshotDone s = .next t ∧ t.fld BLY_JOIN_STAT_PHASE = 3 ∧ t.bly.n1 = some n ∧
      16 ≤ (2 ^ 48 + n - s.idx) % 2 ^ 48) ∧
    (∀ ms, s.fld BLY_JOIN_STAT_PHASE = 3 → s.bly.n1 = some s.idx → ∃ t, exec (.joinDone ms) s = .next t ∧ t.bly.serving = false ∧
      t.lockstep = true ∧ t.fld BLY_JOIN_STAT_PHASE = 4 ∧ (t.rd 0x71010).getLsbD 0 = true))


/-! ### Lanes, services and the management SPI (02, 17, 18) -/

/-- R409, R412, R414, R416, R417: the lanes. A lane that trains is UP at its rate and polarity, one that does not is counted in
TRAIN_FAIL and tries again; a fast exit that succeeds is UP at once; a lane that goes down trains again and is counted; the host
link's fall takes its lanes down; a test takes its lane out of use, and the pair's personality changes in CONFIG and SERVICE
only. R421, R423, R424, R425: the background services. A late service sets its LATE bit and is counted; a sensor's reading
stands in its registers, limited to 16 bits; a telemetry record is written to the host's ring and counted, or dropped where the
ring is full. -/
def Obligations.LanesAndServices : Prop :=
  (∀ (s : State) (m : Nat) (l : Fin 12) (v : Reg32), s.Inv →
  let down := s.fld ⟨LNE_DOWN + 0x1000 * l.val, 15, 0⟩
  (4 ≤ l.val → s.laneWanted l = true → s.laneState l < 3 → lanePage l * 32 + 1 ∉ s.inj →
    (∀ inv rev rate eq taps, ∃ t, exec (.laneChange l true inv rev rate eq taps) s = .next t ∧ t.laneState l = 3 ∧
      t.fld (laneFld LNE_STAT_RX_INV l) = inv.toNat ∧ t.rd (LNE_EQ_STAT + 0x1000 * l.val) = eq &&& 0xFFFF000F ∧
      t.fld (laneFld LNE_STAT_PERS l) = s.lanePers l ∧ (t.rd (0x1000 * lanePage l + 0x10)).getLsbD 0 = true) ∧
    (∀ inv rev rate eq taps, ∃ t, exec (.laneChange l false inv rev rate eq taps) s = .next t ∧ t.laneState l = 4 ∧
      (t.rd (0x1000 * lanePage l + 0x10)).getLsbD 1 = true ∧
      t.fld (laneFld LNE_DOWN_TRAIN_FAIL l) = min (s.fld (laneFld LNE_DOWN_TRAIN_FAIL l) + 1) 65535)) ∧
  (l.val < 4 → s.laneWanted l = true → s.laneState l < 3 → lanePage l * 32 + 1 ∉ s.inj → ∀ inv rev (rate : Fin 32) eq taps,
    (rate.val ∈ [2, 3, 4, 6] → ∃ t, exec (.laneChange l true inv rev rate eq taps) s = .next t ∧ t.laneState l = 3 ∧
      t.fld (laneFld LNE_STAT_RATE l) = rate ∧ t.fld (laneFld LNE_STAT_REVERSED l) = rev.toNat) ∧
    (rate.val ∉ [2, 3, 4, 6] → ∀ up, exec (.laneChange l up inv rev rate eq taps) s = .next s)) ∧
  (s.laneState l = 4 → s.laneWanted l = true → exec (.trainFail l) s = .next (s.setFld (laneFld LNE_STAT_STATE l) 2)) ∧
  (4 ≤ l.val → s.laneState l = 1 → s.laneWanted l = true → s.fld (laneFld LNE_CTRL_FAST_EXIT l) = 1 → lanePage l * 32 + 2 ∉ s.inj →
    (∃ t, exec (.fastExit l true) s = .next t ∧ t.laneState l = 3) ∧
    (∃ t, exec (.fastExit l false) s = .next t ∧ t.laneState l = 2 ∧ (t.rd (0x1000 * lanePage l + 0x10)).getLsbD 2 = true ∧
      t.fld (laneFld LNE_FAST_FAILED l) = min (s.fld (laneFld LNE_FAST_FAILED l) + 1) 65535)) ∧
  (4 ≤ l.val → s.laneState l = 3 → ∃ t, exec (.laneDown l) s = .next t ∧ t.laneState l = 2 ∧ t.fld (laneFld LNE_STAT_RATE l) = 0 ∧
    t.fld ⟨LNE_DOWN + 0x1000 * l.val, 15, 0⟩ = min (down + 1) 65535) ∧
  (s.hostLinkDown = false → l.val < 4 → s.laneState l = 3 → ∃ t, exec .linkDown s = .next t ∧ t.hostLinkDown = true ∧
    t.rd LNE_PCIE_STAT = 0 ∧ t.laneState l = 2 ∧ (t.rd 0xBF010).getLsbD 1 = true) ∧
  (s.hostLinkDown = true → exec .linkDown s = .next s) ∧
  (s.takesWrite m LNE_COM_CTRL v → bitsNat v.toNat 1 0 ≠ s.fld LNE_COM_CTRL_PAIR_PERS →
    (s.cfgMode = false → exec (.pairPers m v) s = .next (s.noteWrite (s.refusedField m LNE_COM_CTRL) m)) ∧
    (s.cfgMode = true → ∃ t, exec (.pairPers m v) s = .next t ∧ t.fld LNE_COM_CTRL_PAIR_PERS = bitsNat v.toNat 1 0 ∧
      t.laneState 10 ≠ 3 ∧ t.laneState 11 ≠ 3)) ∧
  (s.takesWrite m (LNE_TEST + 0x1000 * l) v → s.cfgMode = true → s.laneFree l = true → bitsNat v.toNat 31 30 ≠ 0 →
    ∃ t, exec (.laneTest m l v) s = .next t ∧ t.laneFree l = false ∧ t.laneState l = 1)) ∧
  (∀ s : State, s.Inv → s.upMode = true →
  (∀ k : Fin 7, ∃ t, exec (.svcLate k) s = .next t ∧ (t.rd SVC_STAT).getLsbD k = true ∧ (t.rd 0x3010).getLsbD 0 = true ∧
    t.fld (whole SVC_LATE_CNT) = min (s.fld (whole SVC_LATE_CNT) + 1) 0xFFFFFFFF) ∧
  (∀ (i : Fin 25) (x : Int) (volt age : Nat), ∃ t, exec (.sensorUpdate i x volt age) s = .next t ∧
    (t.rd (TEL_ISL_T + 16 * i.val)).toNat = (BitVec.ofInt 16 (max (-32768) (min 32767 x))).toNat ∧
    (t.rd (TEL_ISL_V + 16 * i.val)).toNat = volt % 65536 ∧ (t.rd (TEL_ISL_A + 16 * i.val)).toNat = min age 65535 ∧
    (s.svc.hot.testBit i = false → 10 * bitsNat (s.rd TEL_THR).toNat 15 8 ≤ x → x ≤ 32767 → (t.rd 0x4010).getLsbD 2 = true)) ∧
  (s.fld TEL_CTRL_EN = 1 →
    ((s.rd TEL_PROD - s.rd TEL_CONS).toNat ≠ s.telSize → ∃ t, exec .telRec s = .next t ∧ t.rd TEL_PROD = s.rd TEL_PROD + 1 ∧
      t.svc.rseq = s.svc.rseq + 1 ∧ t.trs.latWin = 0 ∧ t.rd TEL_DROP = s.rd TEL_DROP ∧
      (∃ msgs, t.out = msgs ++ .hostWrite (s.rdPair TEL_RING_LO TEL_RING_HI + 512 * ((s.rd TEL_PROD).toNat % s.telSize)) s.telRecord ::
        s.out)) ∧
    ((s.rd TEL_PROD - s.rd TEL_CONS).toNat = s.telSize → ∃ t, exec .telRec s = .next t ∧ t.rd TEL_PROD = s.rd TEL_PROD ∧
      t.fld (whole TEL_DROP) = min (s.fld (whole TEL_DROP) + 1) 0xFFFFFFFF ∧ t.out = s.out)))

/-- R43, R44: the frames of the management SPI. A WRITE of whole words is performed as one access of master 1, and WRITE_ERR
shows whether it met an error; one of another length, one that ends within a byte, one while the engine is busy, and an unknown
opcode set FRAME_ERR, as do a WRITE of no byte and one of more than 256 (the model's choice, log entry 44) and a READ of more
than 64 words; a READ waits for its turn and answers with its token, its data and the status byte; a status byte sent in full
clears the error bits. -/
def Obligations.ManagementSpi : Prop := ∀ (s : State) (a b c d n : Byte) (body : List Byte) (k : Nat), s.mode ≠ .reset →
  let addr := mspiAddr a b c d
  let write (col : Option Nat) := exec (.mspiWrite (0x02 :: a :: b :: c :: d :: body) k col) s
  let read (ph : ReadPhase) := exec (.mspiRead (0x0B :: a :: b :: c :: d :: n :: body) ph) s
  let asked (full : Bool) : Forwarded := .readSpi addr (4 * (n.toNat + 1)) full
  (∀ col, (∀ i, col = some i → slotInMailbox 1 addr body i = false) → k % 8 = 0 → body ≠ [] → body.length ≤ 256 → body.length % 4 = 0 →
    s.takesAccess 1 addr body → s.mspiBusy = false → write col = .next (s.noteWrite (s.putAccess 1 addr body) 1)) ∧
  (k % 8 ≠ 0 ∨ body.length % 4 ≠ 0 ∨ body = [] ∨ 256 < body.length ∨ s.mspiBusy = true → ∀ col, write col = .next s.frameErr) ∧
  (∀ op : Byte, op ∉ [0x02, 0x0B, 0x05] → ∀ col, exec (.mspiWrite (op :: body) k col) s = .next s.frameErr) ∧
  read .beforeToken = .next s ∧
  (63 < n.toNat → ∀ ph, ph ≠ .beforeToken → read ph = .next (s.frameErr.emit (.miso [0xE1]))) ∧
  (n.toNat ≤ 63 → ∀ ph full, ph ≠ .beforeToken → full = decide (ph = .full) →
    (s.inTurn s.fwd (s.idx, asked full) = false → read ph = .next { s with fwd := s.fwd ++ [(s.idx, asked full)] }) ∧
    (s.inTurn s.fwd (s.idx, asked full) = true →
      (∀ u, s.getAccess 1 addr (4 * (n.toNat + 1)) = (none, u) → read ph = .next (u.emit (.miso [0xE1]))) ∧
      (∀ bytes u, s.getAccess 1 addr (4 * (n.toNat + 1)) = (some bytes, u) → read ph = .next (if full then
        (u.emit (.miso (0xA5 :: bytes ++ [u.mspiStatus]))).statusSent else u.emit (.miso (0xA5 :: bytes)))))) ∧
  (∃ t, exec (.mspiStatus true) s = .next t ∧ t.out = .miso [s.mspiStatus] :: s.out ∧ t.sys.mspiFrameErr = false ∧
    t.sys.mspiWriteErr = false ∧ t.mem = s.mem ∧ t.regs = s.regs) ∧
  exec (.mspiStatus false) s = .next s
end

