-- ==== Sys2Proof/Laws/Maps.lean ====
section
/-! SUPPORT. The laws of sparse maps in canonical form: a read after a write, and that every operation keeps the form. -/

namespace Sys2Proof.Machine

open Sys2Proof

variable {α : Type}

/-! ### Reads after writes -/

theorem mget_mins_same (d : α) (m : SMap α) (k : Nat) (v : α) : mget d (mins m k v) k = v := by
  induction m with
  | nil => simp [mins, mget]
  | cons e m ih =>
    obtain ⟨j, u⟩ := e
    unfold mins
    split
    · simp [mget]
    · split
      · simp [mget]
      · rename_i h1 h2
        simp only [mget, if_neg h1, if_neg h2, ih]

theorem mget_mins_ne (d : α) (m : SMap α) (k k' : Nat) (v : α) (h : k' ≠ k) : mget d (mins m k v) k' = mget d m k' := by
  induction m with
  | nil => simp [mins, mget, h]
  | cons e m ih =>
    obtain ⟨j, u⟩ := e
    unfold mins
    split
    · rename_i hk
      subst hk
      simp [mget, h]
    · split
      · rename_i hlt
        simp only [mget, if_neg h]
        by_cases h1 : k' < k
        · rw [if_pos h1, if_neg (by omega), if_pos (by omega)]
        · rw [if_neg h1]
      · simp only [mget, ih]

theorem mfind_mins_same (m : SMap α) (k : Nat) (v : α) : mfind (mins m k v) k = some v := by
  induction m with
  | nil => simp [mins, mfind]
  | cons e m ih =>
    obtain ⟨j, u⟩ := e
    unfold mins
    split
    · simp [mfind]
    · split
      · simp [mfind]
      · simp_all [mfind]

theorem mfind_mins_ne (m : SMap α) (k k' : Nat) (v : α) (h : k' ≠ k) : mfind (mins m k v) k' = mfind m k' := by
  induction m with
  | nil => simp [mins, mfind, h]
  | cons e m ih =>
    obtain ⟨j, u⟩ := e
    unfold mins
    split
    · rename_i hk
      subst hk
      simp [mfind, h]
    · split
      · rename_i hlt
        simp only [mfind, if_neg h]
        by_cases h1 : k' < k
        · rw [if_pos h1, if_neg (by omega), if_pos (by omega)]
        · rw [if_neg h1]
      · simp only [mfind, ih]

theorem risingFrom_le {l l' : Nat} {m : SMap α} (h : risingFrom (some l) m = true) (hl : l' ≤ l) :
    risingFrom (some l') m = true := by
  cases m with
  | nil => rfl
  | cons e m =>
    simp only [risingFrom, Bool.and_eq_true, decide_eq_true_eq] at h ⊢
    exact ⟨by omega, h.2⟩

theorem risingFrom_none {l : Nat} {m : SMap α} (h : risingFrom (some l) m = true) : risingFrom none m = true := by
  cases m with
  | nil => rfl
  | cons e m =>
    simp only [risingFrom, Bool.and_eq_true] at h ⊢
    exact h.2

theorem risingFrom_cons {e : Nat × α} {m : SMap α} : risingFrom none (e :: m) = risingFrom (some e.1) m := rfl

/-- Nothing is listed at or below the bound. -/
theorem mget_of_rising {d : α} {l k : Nat} {m : SMap α} (h : risingFrom (some l) m = true) (hk : k ≤ l) :
    mget d m k = d := by
  cases m with
  | nil => rfl
  | cons e m =>
    simp only [risingFrom, Bool.and_eq_true, decide_eq_true_eq] at h
    simp only [mget]
    rw [if_neg (by omega), if_pos (by omega)]

theorem mget_mdel_same {d : α} {m : SMap α} (h : risingFrom none m = true) (k : Nat) : mget d (mdel m k) k = d := by
  induction m with
  | nil => rfl
  | cons e m ih =>
    obtain ⟨j, u⟩ := e
    rw [risingFrom_cons] at h
    unfold mdel
    split
    · rename_i hk
      exact mget_of_rising h (Nat.le_of_eq hk)
    · split
      · rename_i h1 h2
        simp [mget, h1, h2]
      · rename_i h1 h2
        simp only [mget, if_neg h1, if_neg h2]
        exact ih (risingFrom_none h)

theorem mget_mdel_ne {d : α} {m : SMap α} (h : risingFrom none m = true) {k k' : Nat} (hk : k' ≠ k) :
    mget d (mdel m k) k' = mget d m k' := by
  induction m with
  | nil => rfl
  | cons e m ih =>
    obtain ⟨j, u⟩ := e
    rw [risingFrom_cons] at h
    unfold mdel
    split
    · rename_i hj
      subst hj
      simp only [mget, if_neg hk]
      by_cases h1 : k' < k
      · rw [if_pos h1, mget_of_rising h (by simpa using Nat.le_of_lt h1)]
      · rw [if_neg h1]
    · split
      · rfl
      · simp only [mget, ih (risingFrom_none h)]

/-- A read after a write to the same key gives the value written. -/
theorem mset_eq [DecidableEq α] (d : α) (m : SMap α) (k : Nat) (v : α) :
    mset d m k v = if v = d then mdel m k else mins m k v := by
  cases m <;> rfl

theorem mget_mset_same [DecidableEq α] {d : α} {m : SMap α} (h : risingFrom none m = true) (k : Nat) (v : α) :
    mget d (mset d m k v) k = v := by
  rw [mset_eq]
  split
  · rename_i hv
    rw [mget_mdel_same h, hv]
  · exact mget_mins_same d m k v

/-- A write leaves every other key alone. -/
theorem mget_mset_ne [DecidableEq α] {d d' : α} {m : SMap α} (h : risingFrom none m = true) {k k' : Nat} (v : α)
    (hk : k' ≠ k) : mget d' (mset d m k v) k' = mget d' m k' := by
  rw [mset_eq]
  split
  · exact mget_mdel_ne h hk
  · exact mget_mins_ne d' m k k' v hk

/-! ### The canonical form is kept -/

theorem rising_mins {l : Nat} {m : SMap α} {k : Nat} {v : α} (h : risingFrom (some l) m = true) (hk : l < k) :
    risingFrom (some l) (mins m k v) = true := by
  induction m generalizing l with
  | nil => simp [mins, risingFrom, hk]
  | cons e m ih =>
    obtain ⟨j, u⟩ := e
    simp only [risingFrom, Bool.and_eq_true, decide_eq_true_eq] at h
    unfold mins
    split
    · rename_i hj
      subst hj
      simp [risingFrom, hk, h.2]
    · split
      · rename_i h1
        simp [risingFrom, hk, h1, h.2]
      · rename_i h1 h2
        simp only [risingFrom, Bool.and_eq_true, decide_eq_true_eq]
        exact ⟨h.1, ih h.2 (by omega)⟩

theorem rising_mins_none {m : SMap α} {k : Nat} {v : α} (h : risingFrom none m = true) :
    risingFrom none (mins m k v) = true := by
  cases m with
  | nil => rfl
  | cons e m =>
    obtain ⟨j, u⟩ := e
    rw [risingFrom_cons] at h
    unfold mins
    split
    · rename_i hj
      subst hj
      exact h
    · split
      · rename_i h1
        simp [risingFrom, h1, h]
      · rw [risingFrom_cons]
        exact rising_mins h (by simp only; omega)

theorem rising_mdel {l : Nat} {m : SMap α} {k : Nat} (h : risingFrom (some l) m = true) :
    risingFrom (some l) (mdel m k) = true := by
  induction m generalizing l with
  | nil => rfl
  | cons e m ih =>
    obtain ⟨j, u⟩ := e
    have h0 := h
    simp only [risingFrom, Bool.and_eq_true, decide_eq_true_eq] at h
    unfold mdel
    split
    · exact risingFrom_le h.2 (Nat.le_of_lt h.1)
    · split
      · exact h0
      · simp only [risingFrom, Bool.and_eq_true, decide_eq_true_eq]
        exact ⟨h.1, ih h.2⟩

theorem rising_mdel_none {m : SMap α} {k : Nat} (h : risingFrom none m = true) : risingFrom none (mdel m k) = true := by
  cases m with
  | nil => rfl
  | cons e m =>
    obtain ⟨j, u⟩ := e
    unfold mdel
    split
    · rw [risingFrom_cons] at h
      exact risingFrom_none h
    · split
      · exact h
      · rw [risingFrom_cons] at h ⊢
        exact rising_mdel h

theorem mem_mins {m : SMap α} {k : Nat} {v : α} {e : Nat × α} (h : e ∈ mins m k v) : e = (k, v) ∨ e ∈ m := by
  induction m with
  | nil => simpa [mins] using h
  | cons f m ih =>
    obtain ⟨j, u⟩ := f
    unfold mins at h
    split at h
    · simp only [List.mem_cons] at h ⊢
      exact h.imp id .inr
    · split at h
      · simpa using h
      · simp only [List.mem_cons] at h ⊢
        rcases h with h | h
        · exact .inr (.inl h)
        · rcases ih h with h | h
          · exact .inl h
          · exact .inr (.inr h)

theorem mem_mdel {m : SMap α} {k : Nat} {e : Nat × α} (h : e ∈ mdel m k) : e ∈ m := by
  induction m with
  | nil => exact h
  | cons f m ih =>
    obtain ⟨j, u⟩ := f
    unfold mdel at h
    split at h
    · exact List.mem_cons_of_mem _ h
    · split at h
      · exact h
      · simp only [List.mem_cons] at h ⊢
        exact h.imp id ih

theorem rising_filter {o : Option Nat} {m : SMap α} (p : Nat × α → Bool) (h : risingFrom o m = true) :
    risingFrom o (m.filter p) = true := by
  induction m generalizing o with
  | nil => exact h
  | cons e m ih =>
    obtain ⟨j, u⟩ := e
    have hm : risingFrom (some j) m = true := by
      cases o <;> simp_all [risingFrom]
    by_cases hp : p (j, u) = true
    · rw [List.filter_cons_of_pos hp]
      cases o with
      | none => exact ih hm
      | some l =>
        simp only [risingFrom, Bool.and_eq_true, decide_eq_true_eq] at h ⊢
        exact ⟨h.1, ih hm⟩
    · rw [List.filter_cons_of_neg hp]
      apply ih
      cases o with
      | none => exact risingFrom_none hm
      | some l =>
        simp only [risingFrom, Bool.and_eq_true, decide_eq_true_eq] at h
        exact risingFrom_le hm (Nat.le_of_lt h.1)

theorem mwf_iff [DecidableEq α] {d : α} {m : SMap α} :
    mwf d m = true ↔ risingFrom none m = true ∧ ∀ e ∈ m, e.2 ≠ d := by
  simp [mwf]

/-- A write keeps the canonical form. -/
theorem mwf_mset [DecidableEq α] {d : α} {m : SMap α} (h : mwf d m = true) (k : Nat) (v : α) :
    mwf d (mset d m k v) = true := by
  rw [mwf_iff] at h ⊢
  rw [mset_eq]
  split
  · exact ⟨rising_mdel_none h.1, fun e he => h.2 e (mem_mdel he)⟩
  · rename_i hv
    refine ⟨rising_mins_none h.1, fun e he => ?_⟩
    rcases mem_mins he with rfl | he
    · exact hv
    · exact h.2 e he

/-- Keeping some keys keeps the canonical form. -/
theorem mwf_mkeep [DecidableEq α] {d : α} {m : SMap α} (h : mwf d m = true) (p : Nat → Bool) :
    mwf d (mkeep p m) = true := by
  rw [mwf_iff] at h ⊢
  exact ⟨rising_filter _ h.1, fun e he => h.2 e (List.mem_filter.1 he).1⟩

theorem mget_mkeep {d : α} {m : SMap α} (h : risingFrom none m = true) (p : Nat → Bool) (k : Nat) :
    mget d (mkeep p m) k = if p k then mget d m k else d := by
  induction m with
  | nil => simp [mkeep, mget]
  | cons e m ih =>
    obtain ⟨j, u⟩ := e
    rw [risingFrom_cons] at h
    have ih := ih (risingFrom_none h)
    have hm : ∀ i, i ≤ j → mget d (mkeep p m) i = d := fun i hi => mget_of_rising (rising_filter _ h) hi
    unfold mkeep at ih hm ⊢
    by_cases hp : p j = true
    · rw [List.filter_cons_of_pos (by simpa using hp)]
      simp only [mget]
      by_cases h1 : k = j
      · subst h1
        simp [hp]
      · rw [if_neg h1, if_neg h1]
        by_cases h2 : k < j
        · simp [h2]
        · rw [if_neg h2, if_neg h2, ih]
    · rw [List.filter_cons_of_neg (by simpa using hp)]
      simp only [mget]
      by_cases h1 : k = j
      · subst h1
        simp [hp, hm]
      · rw [if_neg h1]
        by_cases h2 : k < j
        · rw [if_pos h2, hm k (Nat.le_of_lt h2)]
          simp
        · rw [if_neg h2, ih]

end Sys2Proof.Machine
end

