-- ==== Sys2Proof/Laws/Access.lean ====
section
/-! SUPPORT. An access that is performed at once, and one in RESET. -/

namespace Sys2Proof.Machine

open Sys2Proof

variable {s : State} {m off : Nat} {v : Reg32}

theorem leNat_leBytes (n v : Nat) : leNat (leBytes n v) = v % 256 ^ n := by
  induction n generalizing v with
  | zero => simp [leBytes, leNat, Nat.mod_one]
  | succ n ih =>
    show (BitVec.ofNat 8 v).toNat + 256 * leNat (leBytes n (v / 256)) = v % 256 ^ (n + 1)
    rw [ih, BitVec.toNat_ofNat]
    exact (Nat.mod_mul (x := v) (a := 256) (b := 256 ^ n)).symm.trans (by rw [← Nat.pow_succ'])

theorem length_leBytes (n v : Nat) : (leBytes n v).length = n := by
  induction n generalizing v with
  | zero => rfl
  | succ n ih => simp [leBytes, ih]

theorem ofNat_leBytes (v : Reg32) : BitVec.ofNat 32 (leNat (leBytes 4 v.toNat)) = v := by
  apply BitVec.eq_of_toNat_eq
  have h := v.isLt
  rw [leNat_leBytes, BitVec.toNat_ofNat]
  omega

/-- A write of four bytes at a register's address is that of its value. -/
theorem asForwarded_reg (h4 : off % 4 = 0) (hr : off < 0x1000000) :
    asForwarded m (0x01000000 + off) (leBytes 4 v.toNat) = .reg m off v := by
  have hi : isReg (0x01000000 + off) = true := by
    simp [isReg]
    omega
  have ha : (0x01000000 + off) % 0x1000000 = off := by omega
  have hz : (0x01000000 + off) % 4 = 0 := by omega
  simp [asForwarded, hi, ha, hz, length_leBytes, ofNat_leBytes]

/-- A write that is taken is performed on the state as it stands. -/
theorem hostBytes_eq {addr : Nat} {data : List Byte} (h : s.takesAccess m addr data) :
    s.hostBytes m addr data = s.performFwd (asForwarded m addr data) := by
  obtain ⟨h1, h2, h3, h4⟩ := h
  have hp : s.asPerformed m addr data = (data, s) := by simp [State.asPerformed, h4]
  simp only [State.hostBytes, if_neg h1, hp, State.writeAccess]
  rw [if_neg (by simpa [State.sendsOn] using h2), State.turn, if_pos h3]

/-- A register write that is taken is performed on the state as it stands. -/
theorem hostWrite_eq (h : s.takesWrite m off v) : s.hostWrite m off v = .next (s.noteWrite (s.putReg m off v) m) := by
  obtain ⟨h1, _, h4, hr, h2, h3, h5, _, _⟩ := h
  have hf := asForwarded_reg (m := m) (v := v) h4 hr
  have hi : isReg (0x01000000 + off) = true := by
    simp [isReg]
    omega
  have ha : (0x01000000 + off) % 0x1000000 = off := by omega
  have ht : (leBytes 4 v.toNat).take 4 = leBytes 4 v.toNat := List.take_of_length_le (by simp [length_leBytes])
  have hm : s.misuse m (0x01000000 + off) (leBytes 4 v.toNat) = false := by
    simp [State.misuse, hi, length_leBytes, ha, ht, ofNat_leBytes, h5]
  rw [State.hostWrite, hostBytes_eq ⟨h1, hf ▸ h2, hf ▸ h3, hm⟩, hf]
  rfl

/-- In RESET no write is taken (log entry 41). -/
theorem hostBytes_reset {addr : Nat} {data : List Byte} (h : s.mode = .reset) : s.hostBytes m addr data = s := by
  simp [State.hostBytes, h]

end Sys2Proof.Machine
end

