-- ==== Sys2Proof/Laws/Keep.lean ====
section
/-! SUPPORT. The scheme of the lemmas that say what every operation keeps: the queue is `p` and the state meets the invariant.
A lemma `f_ok` says that the operation `f` keeps this, whatever its operands. -/

set_option Elab.async false

namespace Sys2Proof.Machine

open Sys2Proof

/-- A property of a result, held apart from the result so that the lemmas below apply to every kind of it. -/
def Holds {γ : Type} (C : γ → Prop) (x : γ) : Prop := C x

/-- What is held at a given value: the mode, the sample index, memory, or the state of a unit. -/
structure Kept where
  mode : Option Mode := none
  idx : Option Nat := none
  mem : Option (List Host.Cell) := none
  flips : Option (SMap (BitVec 80)) := none
  time : Option Nat := none
  fwd : Option (List (Nat × Forwarded)) := none
  sys : Option Sys := none
  trs : Option Truss := none
  chs : Option Chisel := none
  bnk : Option Banks := none
  crn : Option Cairn := none
  prt : Option Ports := none
  plb : Option Plumb := none
  net : Option Net := none
  mlt : Option Mallet := none
  tyd : Option Tyd := none
  bly : Option Belay := none

/-- `mode` may change. -/
class MayMode (κ : Kept) : Prop where
  free : κ.mode = none

/-- `idx` may change. -/
class MayIdx (κ : Kept) : Prop where
  free : κ.idx = none

/-- `mem` may change. -/
class MayMem (κ : Kept) : Prop where
  free : κ.mem = none

/-- `flips` may change. -/
class MayFlips (κ : Kept) : Prop where
  free : κ.flips = none

/-- `time` may change. -/
class MayTime (κ : Kept) : Prop where
  free : κ.time = none

/-- `fwd` may change. -/
class MayFwd (κ : Kept) : Prop where
  free : κ.fwd = none

/-- `sys` may change. -/
class MaySys (κ : Kept) : Prop where
  free : κ.sys = none

/-- `trs` may change. -/
class MayTrs (κ : Kept) : Prop where
  free : κ.trs = none

/-- `chs` may change. -/
class MayChs (κ : Kept) : Prop where
  free : κ.chs = none

/-- `bnk` may change. -/
class MayBnk (κ : Kept) : Prop where
  free : κ.bnk = none

/-- `crn` may change. -/
class MayCrn (κ : Kept) : Prop where
  free : κ.crn = none

/-- `prt` may change. -/
class MayPrt (κ : Kept) : Prop where
  free : κ.prt = none

/-- `plb` may change. -/
class MayPlb (κ : Kept) : Prop where
  free : κ.plb = none

/-- `net` may change. -/
class MayNet (κ : Kept) : Prop where
  free : κ.net = none

/-- `mlt` may change. -/
class MayMlt (κ : Kept) : Prop where
  free : κ.mlt = none

/-- `tyd` may change. -/
class MayTyd (κ : Kept) : Prop where
  free : κ.tyd = none

/-- `bly` may change. -/
class MayBly (κ : Kept) : Prop where
  free : κ.bly = none

/-- State `s` has what is held. -/
structure Kept.Of (κ : Kept) (s : State) : Prop where
  mode : ∀ x, κ.mode = some x → s.mode = x
  idx : ∀ x, κ.idx = some x → s.idx = x
  mem : ∀ x, κ.mem = some x → s.mem = x
  flips : ∀ x, κ.flips = some x → s.flips = x
  time : ∀ x, κ.time = some x → s.time = x
  fwd : ∀ x, κ.fwd = some x → s.fwd = x
  sys : ∀ x, κ.sys = some x → s.sys = x
  trs : ∀ x, κ.trs = some x → s.trs = x
  chs : ∀ x, κ.chs = some x → s.chs = x
  bnk : ∀ x, κ.bnk = some x → s.bnk = x
  crn : ∀ x, κ.crn = some x → s.crn = x
  prt : ∀ x, κ.prt = some x → s.prt = x
  plb : ∀ x, κ.plb = some x → s.plb = x
  net : ∀ x, κ.net = some x → s.net = x
  mlt : ∀ x, κ.mlt = some x → s.mlt = x
  tyd : ∀ x, κ.tyd = some x → s.tyd = x
  bly : ∀ x, κ.bly = some x → s.bly = x

/-- A field is the same after as before, or it may change. -/
abbrev Same {α : Type} (o : Option α) (a b : α) : Prop := o = none ∨ b = a

theorem Same.out {α : Type} {o : Option α} {a b x : α} (h : Same o a b) (ha : ∀ x, o = some x → a = x) (e : o = some x) : b = x := by
  rcases h with h | h
  · rw [h] at e
    cases e
  · exact h.trans (ha x e)

/-- The queue is `p`, the state meets the invariant that every step keeps, and it has what `κ` holds. -/
structure OkS (p : List Instr) (κ : Kept) (s : State) : Prop where
  queue : s.pending = p
  inv : s.Inv
  kept : κ.Of s

/-- The queue is `p`, the invariant holds, and so does what `κ` holds. -/
abbrev Ok (p : List Instr) (κ : Kept) (s : State) : Prop := Holds (OkS p κ) s

/-- The same of an optional state. -/
abbrev OkO (p : List Instr) (κ : Kept) (o : Option State) : Prop := Holds (fun o => ∀ t, o = some t → Ok p κ t) o

/-- The same of an outcome that is a next state. -/
abbrev OkR (p : List Instr) (κ : Kept) (r : Res) : Prop := Holds (fun r => ∀ t, r = Host.Outcome.next t → Ok p κ t) r

/-- The same of a result with a state. -/
abbrev OkP {α : Type} (p : List Instr) (κ : Kept) (e : α × State) : Prop := Holds (fun e => Ok p κ e.2) e

/-- The same of two results with a state. -/
abbrev OkT {α β : Type} (p : List Instr) (κ : Kept) (e : α × β × State) : Prop := Holds (fun e => Ok p κ e.2.2) e

/-- The same of three results with a state. -/
abbrev OkQ {α β γ : Type} (p : List Instr) (κ : Kept) (e : α × β × γ × State) : Prop := Holds (fun e => Ok p κ e.2.2.2) e

/-- The same of an optional state with a result. -/
abbrev OkOP {α : Type} (p : List Instr) (κ : Kept) (e : Option State × α) : Prop := Holds (fun e => OkO p κ e.1) e

/-- The same of what an instruction of the arithmetic slot does: at once, and at the end of its cycle. -/
abbrev OkC (p : List Instr) (κ : Kept) (o : Option (State × (State → State))) : Prop :=
  Holds (fun o => ∀ t f, o = some (t, f) → Ok p κ t ∧ ∀ u, Ok p κ u → Ok p κ (f u)) o

section
variable {p : List Instr} {κ : Kept} {s t : State} {α β γ δ : Type} {C : γ → Prop}

theorem okO_some (h : Ok p κ s) : OkO p κ (some s) := fun _ e => Option.some.inj e ▸ h

theorem okO_none : OkO p κ none := fun _ e => nomatch e

theorem okR_next (h : Ok p κ s) : OkR p κ (.next s) := fun _ e => Host.Outcome.next.inj e ▸ h

theorem okR_fault {f : Fault} : OkR p κ (.fault f) := fun _ e => nomatch e

theorem okC_none : OkC p κ none := fun _ _ e => nomatch e

theorem okC_some {f : State → State} (h : Ok p κ s) (hf : ∀ u, Ok p κ u → Ok p κ (f u)) : OkC p κ (some (s, f)) := by
  intro t g e
  cases e
  exact ⟨h, hf⟩

theorem okP_mk {a : α} (h : Ok p κ s) : OkP p κ (a, s) := h

theorem okT_mk {a : α} {b : β} (h : Ok p κ s) : OkT p κ (a, b, s) := h

theorem okQ_mk {a : α} {b : β} {c : δ} (h : Ok p κ s) : OkQ p κ (a, b, c, s) := h

theorem okOP_mk {o : Option State} {a : α} (h : OkO p κ o) : OkOP p κ (o, a) := h

theorem ok_snd {e : α × State} (h : OkP p κ e) : Ok p κ e.2 := h

theorem ok_snd2 {e : α × β × State} (h : OkT p κ e) : Ok p κ e.2.2 := h

theorem ok_fst {e : Option State × α} (h : OkOP p κ e) : OkO p κ e.1 := h

theorem ok_of_some {o : Option State} (h : OkO p κ o) (e : o = some t) : Ok p κ t := h t e

theorem ok_of_pair {e : α × State} {a : α} (h : OkP p κ e) (he : e = (a, t)) : Ok p κ t := by
  subst he
  exact h

theorem ok_of_triple {e : α × β × State} {a : α} {b : β} (h : OkT p κ e) (he : e = (a, b, t)) : Ok p κ t := by
  subst he
  exact h

theorem ok_of_quad {e : α × β × δ × State} {a : α} {b : β} {c : δ} (h : OkQ p κ e) (he : e = (a, b, c, t)) : Ok p κ t := by
  subst he
  exact h

theorem ok_of_optPair {e : Option State × α} {a : α} (h : OkOP p κ e) (he : e = (some t, a)) : Ok p κ t := by
  subst he
  exact h t rfl

theorem ok_of_next {r : Res} (h : OkR p κ r) (e : r = .next t) : Ok p κ t := h t e

theorem ok_ite {c : Prop} [Decidable c] {a b : γ} (ha : Holds C a) (hb : Holds C b) : Holds C (if c then a else b) := by
  split <;> assumption

theorem use_ok {x : State} {Q : Prop} (h : Ok p κ x) (k : Ok p κ x → Q) : Q := k h

theorem use_okO {x : Option State} {Q : Prop} (h : OkO p κ x) (k : OkO p κ x → Q) : Q := k h

theorem use_okP {x : α × State} {Q : Prop} (h : OkP p κ x) (k : OkP p κ x → Q) : Q := k h

theorem use_okT {x : α × β × State} {Q : Prop} (h : OkT p κ x) (k : OkT p κ x → Q) : Q := k h

theorem ok_matchP {e : α × State} {b : α → State → γ} (he : OkP p κ e) (h : ∀ a t, Ok p κ t → Holds C (b a t)) :
    Holds C (match e with | (a, t) => b a t) := h e.1 e.2 he

theorem ok_matchT {e : α × β × State} {b : α → β → State → γ} (he : OkT p κ e) (h : ∀ a c t, Ok p κ t → Holds C (b a c t)) :
    Holds C (match e with | (a, c, t) => b a c t) := h e.1 e.2.1 e.2.2 he

theorem ok_match2 {e : α × β} {b : α → β → γ} (h : ∀ x y, Holds C (b x y)) : Holds C (match e with | (x, y) => b x y) := h e.1 e.2

theorem ok_matchO {o : Option α} {n : γ} {b : α → γ} (hn : Holds C n) (hs : ∀ x, Holds C (b x)) :
    Holds C (match o with | none => n | some x => b x) := by
  cases o
  · exact hn
  · exact hs _

theorem ok_matchOS {o : Option State} {n : γ} {b : State → γ} (ho : OkO p κ o) (hn : Holds C n) (hs : ∀ x, Ok p κ x → Holds C (b x)) :
    Holds C (match o with | none => n | some x => b x) := by
  cases o with
  | none => exact hn
  | some x => exact hs x (ho x rfl)

theorem ok_foldl {f : State → α → State} {l : List α} (h : Ok p κ s) (hf : ∀ s a, Ok p κ s → Ok p κ (f s a)) :
    Ok p κ (l.foldl f s) := by
  induction l generalizing s with
  | nil => exact h
  | cons a l ih => exact ih (hf s a h)

theorem ok_foldlP {f : α × State → β → α × State} {l : List β} {e : α × State} (h : OkP p κ e)
    (hf : ∀ e b, OkP p κ e → OkP p κ (f e b)) : OkP p κ (l.foldl f e) := by
  induction l generalizing e with
  | nil => exact h
  | cons b l ih => exact ih (hf e b h)

theorem ok_foldlO {f : Option State → β → Option State} {l : List β} {e : Option State} (h : OkO p κ e)
    (hf : ∀ e b, OkO p κ e → OkO p κ (f e b)) : OkO p κ (l.foldl f e) := by
  induction l generalizing e with
  | nil => exact h
  | cons b l ih => exact ih (hf e b h)

theorem ok_getD_map {o : Option α} {f : α → State} (h : Ok p κ s) (hf : ∀ a, Ok p κ (f a)) : Ok p κ ((o.map f).getD s) := by
  cases o
  · exact h
  · exact hf _

theorem ok_map {o : Option α} {f : α → State} (hf : ∀ a, Ok p κ (f a)) : OkO p κ (o.map f) := by
  intro t ht
  cases o with
  | none => cases ht
  | some a => exact Option.some.inj ht ▸ hf a

theorem ok_bind {o : Option α} {f : α → Option State} (hf : ∀ a, OkO p κ (f a)) : OkO p κ (o.bind f) := by
  intro t ht
  cases o with
  | none => cases ht
  | some a => exact hf a t ht

theorem ok_getD {o : Option State} (h : Ok p κ s) (ho : OkO p κ o) : Ok p κ (o.getD s) := by
  cases o with
  | none => exact h
  | some x => exact ho x rfl

/-- A change of anything but the queue, the registers, memory and the sample index. -/
theorem ok_mk (h : Ok p κ s) {m f fr o e ti tf fc ij iu fw sy tr ch bn cr pr pl ne ml ty bl sv}
    (km : Same κ.mode s.mode m := by first | with_reducible exact .inr rfl | exact .inl MayMode.free)
    (kf : Same κ.flips s.flips f := by first | with_reducible exact .inr rfl | exact .inl MayFlips.free)
    (kti : Same κ.time s.time ti := by first | with_reducible exact .inr rfl | exact .inl MayTime.free)
    (kfw : Same κ.fwd s.fwd fw := by first | with_reducible exact .inr rfl | exact .inl MayFwd.free)
    (ksy : Same κ.sys s.sys sy := by first | with_reducible exact .inr rfl | exact .inl MaySys.free)
    (ktr : Same κ.trs s.trs tr := by first | with_reducible exact .inr rfl | exact .inl MayTrs.free)
    (kch : Same κ.chs s.chs ch := by first | with_reducible exact .inr rfl | exact .inl MayChs.free)
    (kbn : Same κ.bnk s.bnk bn := by first | with_reducible exact .inr rfl | exact .inl MayBnk.free)
    (kcr : Same κ.crn s.crn cr := by first | with_reducible exact .inr rfl | exact .inl MayCrn.free)
    (kpr : Same κ.prt s.prt pr := by first | with_reducible exact .inr rfl | exact .inl MayPrt.free)
    (kpl : Same κ.plb s.plb pl := by first | with_reducible exact .inr rfl | exact .inl MayPlb.free)
    (kne : Same κ.net s.net ne := by first | with_reducible exact .inr rfl | exact .inl MayNet.free)
    (kml : Same κ.mlt s.mlt ml := by first | with_reducible exact .inr rfl | exact .inl MayMlt.free)
    (kty : Same κ.tyd s.tyd ty := by first | with_reducible exact .inr rfl | exact .inl MayTyd.free)
    (kbl : Same κ.bly s.bly bl := by first | with_reducible exact .inr rfl | exact .inl MayBly.free)
    : Ok p κ (State.mk s.pending m s.idx s.regs s.mem f fr o e ti tf fc ij iu fw sy tr ch bn cr pr pl ne ml ty bl sv) :=
  ⟨h.queue, h.inv, ⟨fun _ => km.out h.kept.mode, h.kept.idx, h.kept.mem, fun _ => kf.out h.kept.flips, fun _ => kti.out h.kept.time, fun _ => kfw.out h.kept.fwd, fun _ => ksy.out h.kept.sys, fun _ => ktr.out h.kept.trs, fun _ => kch.out h.kept.chs, fun _ => kbn.out h.kept.bnk, fun _ => kcr.out h.kept.crn, fun _ => kpr.out h.kept.prt, fun _ => kpl.out h.kept.plb, fun _ => kne.out h.kept.net, fun _ => kml.out h.kept.mlt, fun _ => kty.out h.kept.tyd, fun _ => kbl.out h.kept.bly⟩⟩

/-! ### The base operations -/

theorem memPut_wf {m : List Host.Cell} {a : Nat} {bs : List Byte} (h : Memory.wf m = true) : Memory.wf (memPut m a bs) = true := by
  induction bs generalizing m a with
  | nil => exact h
  | cons b bs ih => exact ih (mwf_mset h a b)

theorem foldl_mset_wf {l : List β} {k : β → Nat} {v : β → Byte} {m : List Host.Cell} (h : Memory.wf m = true) :
    Memory.wf (l.foldl (fun m e => mset 0 m (k e) (v e)) m) = true := by
  induction l generalizing m with
  | nil => exact h
  | cons e l ih => exact ih (mwf_mset h _ _)

theorem regsWf_iff {r : SMap Reg32} : regsWf r = true ↔ risingFrom none r = true ∧ ∀ e ∈ r, e.2 ≠ regReset e.1 := by
  simp [regsWf]

theorem regsWf_set {r : SMap Reg32} (h : regsWf r = true) (a : Nat) (v : Reg32) : regsWf (mset (regReset a) r a v) = true := by
  rw [regsWf_iff] at h ⊢
  rw [mset_eq]
  split
  · exact ⟨rising_mdel_none h.1, fun e he => h.2 e (mem_mdel he)⟩
  · rename_i hv
    refine ⟨rising_mins_none h.1, fun e he => ?_⟩
    rcases mem_mins he with rfl | he
    · exact hv
    · exact h.2 e he

theorem regsWf_mkeep {r : SMap Reg32} (h : regsWf r = true) (q : Nat → Bool) : regsWf (mkeep q r) = true := by
  rw [regsWf_iff] at h ⊢
  exact ⟨rising_filter _ h.1, fun e he => h.2 e (List.mem_filter.1 he).1⟩

/-- A change of memory that keeps its form, of the registers that keeps theirs, and of the index. -/
theorem ok_change (h : Ok p κ s) (hq : t.pending = s.pending) (hm : Memory.wf s.mem = true → Memory.wf t.mem = true)
    (hr : regsWf s.regs = true → regsWf t.regs = true) (hi : s.idx < 2 ^ 48 → t.idx < 2 ^ 48)
    (km : Same κ.mode s.mode t.mode := by first | exact .inr rfl | exact .inl MayMode.free)
    (ki : Same κ.idx s.idx t.idx := by first | exact .inr rfl | exact .inl MayIdx.free)
    (kmm : Same κ.mem s.mem t.mem := by first | exact .inr rfl | exact .inl MayMem.free)
    (kf : Same κ.flips s.flips t.flips := by first | exact .inr rfl | exact .inl MayFlips.free)
    (kti : Same κ.time s.time t.time := by first | exact .inr rfl | exact .inl MayTime.free)
    (kfw : Same κ.fwd s.fwd t.fwd := by first | exact .inr rfl | exact .inl MayFwd.free)
    (ksy : Same κ.sys s.sys t.sys := by first | exact .inr rfl | exact .inl MaySys.free)
    (ktr : Same κ.trs s.trs t.trs := by first | exact .inr rfl | exact .inl MayTrs.free)
    (kch : Same κ.chs s.chs t.chs := by first | exact .inr rfl | exact .inl MayChs.free)
    (kbn : Same κ.bnk s.bnk t.bnk := by first | exact .inr rfl | exact .inl MayBnk.free)
    (kcr : Same κ.crn s.crn t.crn := by first | exact .inr rfl | exact .inl MayCrn.free)
    (kpr : Same κ.prt s.prt t.prt := by first | exact .inr rfl | exact .inl MayPrt.free)
    (kpl : Same κ.plb s.plb t.plb := by first | exact .inr rfl | exact .inl MayPlb.free)
    (kne : Same κ.net s.net t.net := by first | exact .inr rfl | exact .inl MayNet.free)
    (kml : Same κ.mlt s.mlt t.mlt := by first | exact .inr rfl | exact .inl MayMlt.free)
    (kty : Same κ.tyd s.tyd t.tyd := by first | exact .inr rfl | exact .inl MayTyd.free)
    (kbl : Same κ.bly s.bly t.bly := by first | exact .inr rfl | exact .inl MayBly.free)
    : Ok p κ t :=
  ⟨hq.trans h.queue, ⟨hm h.inv.1, hr h.inv.2.1, hi h.inv.2.2⟩, ⟨fun _ => km.out h.kept.mode, fun _ => ki.out h.kept.idx, fun _ => kmm.out h.kept.mem, fun _ => kf.out h.kept.flips, fun _ => kti.out h.kept.time, fun _ => kfw.out h.kept.fwd, fun _ => ksy.out h.kept.sys, fun _ => ktr.out h.kept.trs, fun _ => kch.out h.kept.chs, fun _ => kbn.out h.kept.bnk, fun _ => kcr.out h.kept.crn, fun _ => kpr.out h.kept.prt, fun _ => kpl.out h.kept.plb, fun _ => kne.out h.kept.net, fun _ => kml.out h.kept.mlt, fun _ => kty.out h.kept.tyd, fun _ => kbl.out h.kept.bly⟩⟩

theorem nextIdx_lt (i : Nat) : nextIdx i < 2 ^ 48 := Nat.mod_lt _ (by decide)

theorem State.wr_ok (h : Ok p κ s) {a v} : Ok p κ (s.wr a v) := ok_change h rfl id (fun hr => regsWf_set hr _ _) id

theorem State.setWord_ok (h : Ok p κ s) [MayMem κ] [MayFlips κ] {a w} : Ok p κ (s.setWord a w) :=
  ok_change h rfl memPut_wf id id (kmm := .inl MayMem.free) (kf := .inl MayFlips.free)

/-- A change of the sample index to one of 48 bits. -/
theorem ok_idx (h : Ok p κ s) {i m f fr o e ti tf fc ij iu fw sy tr ch bn cr pr pl ne ml ty bl sv} (hi : i < 2 ^ 48)
    (km : Same κ.mode s.mode m := by first | with_reducible exact .inr rfl | exact .inl MayMode.free)
    (ki : Same κ.idx s.idx i := by first | with_reducible exact .inr rfl | exact .inl MayIdx.free)
    (kf : Same κ.flips s.flips f := by first | with_reducible exact .inr rfl | exact .inl MayFlips.free)
    (kti : Same κ.time s.time ti := by first | with_reducible exact .inr rfl | exact .inl MayTime.free)
    (kfw : Same κ.fwd s.fwd fw := by first | with_reducible exact .inr rfl | exact .inl MayFwd.free)
    (ksy : Same κ.sys s.sys sy := by first | with_reducible exact .inr rfl | exact .inl MaySys.free)
    (ktr : Same κ.trs s.trs tr := by first | with_reducible exact .inr rfl | exact .inl MayTrs.free)
    (kch : Same κ.chs s.chs ch := by first | with_reducible exact .inr rfl | exact .inl MayChs.free)
    (kbn : Same κ.bnk s.bnk bn := by first | with_reducible exact .inr rfl | exact .inl MayBnk.free)
    (kcr : Same κ.crn s.crn cr := by first | with_reducible exact .inr rfl | exact .inl MayCrn.free)
    (kpr : Same κ.prt s.prt pr := by first | with_reducible exact .inr rfl | exact .inl MayPrt.free)
    (kpl : Same κ.plb s.plb pl := by first | with_reducible exact .inr rfl | exact .inl MayPlb.free)
    (kne : Same κ.net s.net ne := by first | with_reducible exact .inr rfl | exact .inl MayNet.free)
    (kml : Same κ.mlt s.mlt ml := by first | with_reducible exact .inr rfl | exact .inl MayMlt.free)
    (kty : Same κ.tyd s.tyd ty := by first | with_reducible exact .inr rfl | exact .inl MayTyd.free)
    (kbl : Same κ.bly s.bly bl := by first | with_reducible exact .inr rfl | exact .inl MayBly.free)
    : Ok p κ (State.mk s.pending m i s.regs s.mem f fr o e ti tf fc ij iu fw sy tr ch bn cr pr pl ne ml ty bl sv) :=
  ⟨h.queue, ⟨h.inv.1, h.inv.2.1, hi⟩, ⟨fun _ => km.out h.kept.mode, fun _ => ki.out h.kept.idx, h.kept.mem, fun _ => kf.out h.kept.flips, fun _ => kti.out h.kept.time, fun _ => kfw.out h.kept.fwd, fun _ => ksy.out h.kept.sys, fun _ => ktr.out h.kept.trs, fun _ => kch.out h.kept.chs, fun _ => kbn.out h.kept.bnk, fun _ => kcr.out h.kept.crn, fun _ => kpr.out h.kept.prt, fun _ => kpl.out h.kept.plb, fun _ => kne.out h.kept.net, fun _ => kml.out h.kept.mlt, fun _ => kty.out h.kept.tyd, fun _ => kbl.out h.kept.bly⟩⟩

/-- A change of memory that keeps its form. -/
theorem ok_mem (h : Ok p κ s) {mm m f fr o e ti tf fc ij iu fw sy tr ch bn cr pr pl ne ml ty bl sv} (hm : Memory.wf mm = true)
    (km : Same κ.mode s.mode m := by first | with_reducible exact .inr rfl | exact .inl MayMode.free)
    (kmm : Same κ.mem s.mem mm := by first | with_reducible exact .inr rfl | exact .inl MayMem.free)
    (kf : Same κ.flips s.flips f := by first | with_reducible exact .inr rfl | exact .inl MayFlips.free)
    (kti : Same κ.time s.time ti := by first | with_reducible exact .inr rfl | exact .inl MayTime.free)
    (kfw : Same κ.fwd s.fwd fw := by first | with_reducible exact .inr rfl | exact .inl MayFwd.free)
    (ksy : Same κ.sys s.sys sy := by first | with_reducible exact .inr rfl | exact .inl MaySys.free)
    (ktr : Same κ.trs s.trs tr := by first | with_reducible exact .inr rfl | exact .inl MayTrs.free)
    (kch : Same κ.chs s.chs ch := by first | with_reducible exact .inr rfl | exact .inl MayChs.free)
    (kbn : Same κ.bnk s.bnk bn := by first | with_reducible exact .inr rfl | exact .inl MayBnk.free)
    (kcr : Same κ.crn s.crn cr := by first | with_reducible exact .inr rfl | exact .inl MayCrn.free)
    (kpr : Same κ.prt s.prt pr := by first | with_reducible exact .inr rfl | exact .inl MayPrt.free)
    (kpl : Same κ.plb s.plb pl := by first | with_reducible exact .inr rfl | exact .inl MayPlb.free)
    (kne : Same κ.net s.net ne := by first | with_reducible exact .inr rfl | exact .inl MayNet.free)
    (kml : Same κ.mlt s.mlt ml := by first | with_reducible exact .inr rfl | exact .inl MayMlt.free)
    (kty : Same κ.tyd s.tyd ty := by first | with_reducible exact .inr rfl | exact .inl MayTyd.free)
    (kbl : Same κ.bly s.bly bl := by first | with_reducible exact .inr rfl | exact .inl MayBly.free)
    : Ok p κ (State.mk s.pending m s.idx s.regs mm f fr o e ti tf fc ij iu fw sy tr ch bn cr pr pl ne ml ty bl sv) :=
  ⟨h.queue, ⟨hm, h.inv.2.1, h.inv.2.2⟩, ⟨fun _ => km.out h.kept.mode, h.kept.idx, fun _ => kmm.out h.kept.mem, fun _ => kf.out h.kept.flips, fun _ => kti.out h.kept.time, fun _ => kfw.out h.kept.fwd, fun _ => ksy.out h.kept.sys, fun _ => ktr.out h.kept.trs, fun _ => kch.out h.kept.chs, fun _ => kbn.out h.kept.bnk, fun _ => kcr.out h.kept.crn, fun _ => kpr.out h.kept.prt, fun _ => kpl.out h.kept.plb, fun _ => kne.out h.kept.net, fun _ => kml.out h.kept.mlt, fun _ => kty.out h.kept.tyd, fun _ => kbl.out h.kept.bly⟩⟩

/-- Registers that go back to their reset values. -/
theorem ok_regsKeep (h : Ok p κ s) {q m f fr o e ti tf fc ij iu fw sy tr ch bn cr pr pl ne ml ty bl sv}
    (km : Same κ.mode s.mode m := by first | with_reducible exact .inr rfl | exact .inl MayMode.free)
    (kf : Same κ.flips s.flips f := by first | with_reducible exact .inr rfl | exact .inl MayFlips.free)
    (kti : Same κ.time s.time ti := by first | with_reducible exact .inr rfl | exact .inl MayTime.free)
    (kfw : Same κ.fwd s.fwd fw := by first | with_reducible exact .inr rfl | exact .inl MayFwd.free)
    (ksy : Same κ.sys s.sys sy := by first | with_reducible exact .inr rfl | exact .inl MaySys.free)
    (ktr : Same κ.trs s.trs tr := by first | with_reducible exact .inr rfl | exact .inl MayTrs.free)
    (kch : Same κ.chs s.chs ch := by first | with_reducible exact .inr rfl | exact .inl MayChs.free)
    (kbn : Same κ.bnk s.bnk bn := by first | with_reducible exact .inr rfl | exact .inl MayBnk.free)
    (kcr : Same κ.crn s.crn cr := by first | with_reducible exact .inr rfl | exact .inl MayCrn.free)
    (kpr : Same κ.prt s.prt pr := by first | with_reducible exact .inr rfl | exact .inl MayPrt.free)
    (kpl : Same κ.plb s.plb pl := by first | with_reducible exact .inr rfl | exact .inl MayPlb.free)
    (kne : Same κ.net s.net ne := by first | with_reducible exact .inr rfl | exact .inl MayNet.free)
    (kml : Same κ.mlt s.mlt ml := by first | with_reducible exact .inr rfl | exact .inl MayMlt.free)
    (kty : Same κ.tyd s.tyd ty := by first | with_reducible exact .inr rfl | exact .inl MayTyd.free)
    (kbl : Same κ.bly s.bly bl := by first | with_reducible exact .inr rfl | exact .inl MayBly.free)
    : Ok p κ (State.mk s.pending m s.idx (mkeep q s.regs) s.mem f fr o e ti tf fc ij iu fw sy tr ch bn cr pr pl ne ml ty bl sv) :=
  ⟨h.queue, ⟨h.inv.1, regsWf_mkeep h.inv.2.1 _, h.inv.2.2⟩, ⟨fun _ => km.out h.kept.mode, h.kept.idx, h.kept.mem, fun _ => kf.out h.kept.flips, fun _ => kti.out h.kept.time, fun _ => kfw.out h.kept.fwd, fun _ => ksy.out h.kept.sys, fun _ => ktr.out h.kept.trs, fun _ => kch.out h.kept.chs, fun _ => kbn.out h.kept.bnk, fun _ => kcr.out h.kept.crn, fun _ => kpr.out h.kept.prt, fun _ => kpl.out h.kept.plb, fun _ => kne.out h.kept.net, fun _ => kml.out h.kept.mlt, fun _ => kty.out h.kept.tyd, fun _ => kbl.out h.kept.bly⟩⟩

/-- The state of a reset: memory and the registers empty, or what a warm reset keeps of them. -/
theorem ok_reset (h : Ok p κ s)
    {i rg me m f fr o e ti tf fc ij iu fw sy tr ch bn cr pr pl ne ml ty bl sv} (hi : i < 2 ^ 48) (hm : Memory.wf me = true) (hr : regsWf rg = true)
    [MayMem κ]
    (km : Same κ.mode s.mode m := by first | with_reducible exact .inr rfl | exact .inl MayMode.free)
    (ki : Same κ.idx s.idx i := by first | with_reducible exact .inr rfl | exact .inl MayIdx.free)
    (kf : Same κ.flips s.flips f := by first | with_reducible exact .inr rfl | exact .inl MayFlips.free)
    (kti : Same κ.time s.time ti := by first | with_reducible exact .inr rfl | exact .inl MayTime.free)
    (kfw : Same κ.fwd s.fwd fw := by first | with_reducible exact .inr rfl | exact .inl MayFwd.free)
    (ksy : Same κ.sys s.sys sy := by first | with_reducible exact .inr rfl | exact .inl MaySys.free)
    (ktr : Same κ.trs s.trs tr := by first | with_reducible exact .inr rfl | exact .inl MayTrs.free)
    (kch : Same κ.chs s.chs ch := by first | with_reducible exact .inr rfl | exact .inl MayChs.free)
    (kbn : Same κ.bnk s.bnk bn := by first | with_reducible exact .inr rfl | exact .inl MayBnk.free)
    (kcr : Same κ.crn s.crn cr := by first | with_reducible exact .inr rfl | exact .inl MayCrn.free)
    (kpr : Same κ.prt s.prt pr := by first | with_reducible exact .inr rfl | exact .inl MayPrt.free)
    (kpl : Same κ.plb s.plb pl := by first | with_reducible exact .inr rfl | exact .inl MayPlb.free)
    (kne : Same κ.net s.net ne := by first | with_reducible exact .inr rfl | exact .inl MayNet.free)
    (kml : Same κ.mlt s.mlt ml := by first | with_reducible exact .inr rfl | exact .inl MayMlt.free)
    (kty : Same κ.tyd s.tyd ty := by first | with_reducible exact .inr rfl | exact .inl MayTyd.free)
    (kbl : Same κ.bly s.bly bl := by first | with_reducible exact .inr rfl | exact .inl MayBly.free)
    : Ok p κ (State.mk s.pending m i rg me f fr o e ti tf fc ij
      iu fw sy tr ch bn cr pr pl ne ml ty bl sv) := by
  exact ⟨h.queue, ⟨hm, hr, hi⟩, ⟨fun _ => km.out h.kept.mode, fun _ => ki.out h.kept.idx, (fun _ e => nomatch (MayMem.free (κ := κ)).symm.trans e), fun _ => kf.out h.kept.flips, fun _ => kti.out h.kept.time, fun _ => kfw.out h.kept.fwd, fun _ => ksy.out h.kept.sys, fun _ => ktr.out h.kept.trs, fun _ => kch.out h.kept.chs, fun _ => kbn.out h.kept.bnk, fun _ => kcr.out h.kept.crn, fun _ => kpr.out h.kept.prt, fun _ => kpl.out h.kept.plb, fun _ => kne.out h.kept.net, fun _ => kml.out h.kept.mlt, fun _ => kty.out h.kept.tyd, fun _ => kbl.out h.kept.bly⟩⟩

theorem State.putBytes_ok (h : Ok p κ s) [MayMem κ] [MayFlips κ] {a bs} : Ok p κ (s.putBytes a bs) :=
  ok_change h rfl memPut_wf id id (kmm := .inl MayMem.free) (kf := .inl MayFlips.free)

theorem State.clearMem_ok (h : Ok p κ s) [MayMem κ] [MayFlips κ] {lo hi} : Ok p κ (s.clearMem lo hi) := by
  refine ok_change h rfl (fun hm => ?_) id id (kmm := .inl MayMem.free) (kf := .inl MayFlips.free)
  have e : (s.clearMem lo hi).mem = mkeep (fun a => decide (a < lo) || decide (hi ≤ a)) s.mem := rfl
  rw [e]
  exact mwf_mkeep hm _

end

end Sys2Proof.Machine
end

