-- ==== Sys2Proof/Laws/KeepTruss.lean ====
section
/-! SUPPORT. What the operations of the shared operations and Truss keep: the queue and the invariant of every step. -/

set_option Elab.async false

namespace Sys2Proof.Machine

open Sys2Proof

variable {p : List Instr} {κ : Kept} {s t : State}

/-! ### Ops -/

theorem State.addInj_ok (h : Ok p κ s) {a1 a2} : Ok p κ (State.addInj s a1 a2) := by
  unfold State.addInj
  refine ok_ite ?_ ?_
  assumption
  refine ok_mk ?_
  assumption

theorem State.onSvc_ok (h : Ok p κ s) {a1} : Ok p κ (State.onSvc s a1) := by
  unfold State.onSvc
  refine ok_mk ?_
  assumption

theorem State.addTotal_ok (h : Ok p κ s) {a1 a2} : Ok p κ (State.addTotal s a1 a2) := by
  unfold State.addTotal
  apply State.onSvc_ok
  assumption

theorem State.setFld_ok (h : Ok p κ s) {a1 a2} : Ok p κ (State.setFld s a1 a2) := by
  unfold State.setFld
  apply State.wr_ok
  assumption

theorem State.bump_ok (h : Ok p κ s) {a1 a2} : Ok p κ (State.bump s a1 a2) := by
  unfold State.bump
  extract_lets x23
  refine @use_ok p κ x23 _ ?_ ?_
  unfold x23
  apply State.setFld_ok
  assumption
  intro _
  clear_value x23
  split
  apply State.addTotal_ok
  assumption
  assumption

theorem State.logEvent_ok (h : Ok p κ s) {a1 a2 a3 a4} : Ok p κ (State.logEvent s a1 a2 a3 a4) := by
  unfold State.logEvent
  refine ok_mk ?_
  assumption

theorem State.emit_ok (h : Ok p κ s) {a1} : Ok p κ (State.emit s a1) := by
  unfold State.emit
  refine ok_mk ?_
  assumption

theorem State.requestVector_ok (h : Ok p κ s) {a1} : Ok p κ (State.requestVector s a1) := by
  unfold State.requestVector
  extract_lets x22
  clear_value x22
  refine ok_ite ?_ ?_
  apply State.wr_ok
  assumption
  apply State.emit_ok
  assumption

theorem State.setEvts_ok (h : Ok p κ s) {a1 a2} : Ok p κ (State.setEvts s a1 a2) := by
  unfold State.setEvts
  extract_lets x23 x24 x25 x26
  clear_value x23
  clear_value x24
  clear_value x25
  refine @use_ok p κ x26 _ ?_ ?_
  unfold x26
  refine ok_foldl ?_ ?_
  apply State.wr_ok
  assumption
  intro _ _ _
  apply State.logEvent_ok
  assumption
  intro _
  clear_value x26
  refine ok_ite ?_ ?_
  assumption
  apply State.requestVector_ok
  assumption

theorem State.evt_ok (h : Ok p κ s) {a1 a2} : Ok p κ (State.evt s a1 a2) := by
  unfold State.evt
  apply State.setEvts_ok
  assumption

theorem State.wrN_ok (h : Ok p κ s) {a1 a2} : Ok p κ (State.wrN s a1 a2) := by
  unfold State.wrN
  apply State.wr_ok
  assumption

theorem State.captureErr_ok (h : Ok p κ s) {a1 a2 a3 a4 a5} : Ok p κ (State.captureErr s a1 a2 a3 a4 a5) := by
  unfold State.captureErr
  extract_lets x26 x27
  refine @use_ok p κ x26 _ ?_ ?_
  unfold x26
  apply State.bump_ok
  assumption
  intro _
  clear_value x26
  refine @use_ok p κ x27 _ ?_ ?_
  unfold x27
  refine ok_ite ?_ ?_
  refine ok_ite ?_ ?_
  assumption
  apply State.evt_ok
  apply State.setFld_ok
  assumption
  apply State.wrN_ok
  apply State.wrN_ok
  assumption
  intro _
  clear_value x27
  apply State.evt_ok
  assumption

theorem State.deal_ok (h : Ok p κ s) [MayBly κ] {a1 a2} : Ok p κ (State.deal s a1 a2) := by
  unfold State.deal
  split
  assumption
  extract_lets x28 x29 x30
  refine @use_ok p κ x28 _ ?_ ?_
  unfold x28
  refine ok_ite ?_ ?_
  apply State.bump_ok
  assumption
  assumption
  intro _
  clear_value x28
  clear_value x29
  clear_value x30
  refine ok_mk ?_
  assumption

theorem State.degrade_ok (h : Ok p κ s) {a1 a2} : Ok p κ (State.degrade s a1 a2) := by
  unfold State.degrade
  extract_lets x23 x24 x25 x26
  clear_value x23
  clear_value x24
  refine @use_ok p κ x25 _ ?_ ?_
  unfold x25
  apply State.evt_ok
  apply State.wrN_ok
  assumption
  intro _
  clear_value x25
  clear_value x26
  refine ok_ite ?_ ?_
  assumption
  refine ok_ite ?_ ?_
  assumption
  apply State.evt_ok
  apply State.setFld_ok
  assumption

theorem State.errResp_ok (h : Ok p κ s) {a1 a2 a3 a4 a5} : Ok p κ (State.errResp s a1 a2 a3 a4 a5) := by
  unfold State.errResp
  apply State.emit_ok
  apply State.captureErr_ok
  assumption

theorem State.free_ok (h : Ok p κ s) {a1} : OkP p κ (State.free s a1) := by
  unfold State.free
  refine okP_mk ?_
  refine ok_mk ?_
  assumption

theorem State.markInj_ok (h : Ok p κ s) {a1} : Ok p κ (State.markInj s a1) := by
  unfold State.markInj
  refine ok_mk ?_
  assumption

theorem State.newTag_ok (h : Ok p κ s) [MayBly κ] : OkP p κ (State.newTag s) := by
  unfold State.newTag
  split
  extract_lets x27 x28 x29
  clear_value x27
  clear_value x28
  clear_value x29
  refine okP_mk ?_
  refine ok_mk ?_
  refine ok_of_pair ?_ (by assumption)
  apply State.free_ok
  assumption

theorem State.onTime_ok (h : Ok p κ s) {a1} : Ok p κ (State.onTime s a1) := by
  unfold State.onTime
  apply State.setFld_ok
  assumption

theorem State.refusedField_ok (h : Ok p κ s) {a1 a2} : Ok p κ (State.refusedField s a1 a2) := by
  unfold State.refusedField
  apply State.errResp_ok
  assumption

theorem State.sendBelay_ok (h : Ok p κ s) [MayBly κ] {a1 a2 a3} : Ok p κ (State.sendBelay s a1 a2 a3) := by
  unfold State.sendBelay
  refine ok_ite ?_ ?_
  assumption
  extract_lets x24 x25 x26
  clear_value x24
  clear_value x25
  clear_value x26
  apply State.deal_ok
  refine ok_mk ?_
  assumption

theorem State.setMode_ok (h : Ok p κ s) [MayMode κ] {a1} : Ok p κ (State.setMode s a1) := by
  unfold State.setMode
  extract_lets x22
  refine @use_ok p κ x22 _ ?_ ?_
  unfold x22
  refine ok_mk ?_
  assumption
  intro _
  clear_value x22
  refine ok_ite ?_ ?_
  assumption
  apply State.evt_ok
  assumption

theorem State.wrIdx_ok (h : Ok p κ s) {a1 a2 a3} : Ok p κ (State.wrIdx s a1 a2 a3) := by
  unfold State.wrIdx
  apply State.wrN_ok
  apply State.wrN_ok
  assumption

theorem State.sprLog_ok (h : Ok p κ s) {a1 a2 a3 a4 a5} : Ok p κ (State.sprLog s a1 a2 a3 a4 a5) := by
  unfold State.sprLog
  extract_lets x26 x27 x28 x29
  clear_value x26
  clear_value x27
  refine @use_ok p κ x28 _ ?_ ?_
  unfold x28
  apply State.wrN_ok
  apply State.wrIdx_ok
  apply State.wrN_ok
  assumption
  intro _
  clear_value x28
  clear_value x29
  apply State.evt_ok
  apply State.logEvent_ok
  apply State.wr_ok
  assumption

theorem State.takeInj_ok (h : Ok p κ s) {a1 a2} : OkP p κ (State.takeInj s a1 a2) := by
  unfold State.takeInj
  refine okP_mk ?_
  refine ok_mk ?_
  assumption

theorem State.takeMark_ok (h : Ok p κ s) {a1} : OkP p κ (State.takeMark s a1) := by
  unfold State.takeMark
  refine okP_mk ?_
  refine ok_mk ?_
  assumption

theorem State.tell_ok (h : Ok p κ s) [MayBly κ] {a1 a2 a3 a4} : Ok p κ (State.tell s a1 a2 a3 a4) := by
  unfold State.tell
  refine ok_ite ?_ ?_
  apply State.sendBelay_ok
  assumption
  assumption

/-! ### BelayLink -/

theorem State.onBly_ok (h : Ok p κ s) [MayBly κ] {a1} : Ok p κ (State.onBly s a1) := by
  unfold State.onBly
  refine ok_mk ?_
  assumption

theorem State.gotFrame_ok (h : Ok p κ s) [MayBly κ] : Ok p κ (State.gotFrame s) := by
  unfold State.gotFrame
  apply State.setFld_ok
  apply State.onBly_ok
  assumption

theorem State.joinRequest_ok (h : Ok p κ s) [MayBly κ] : Ok p κ (State.joinRequest s) := by
  unfold State.joinRequest
  apply State.sendBelay_ok
  assumption

theorem State.refreshBelay_ok (h : Ok p κ s) : Ok p κ (State.refreshBelay s) := by
  unfold State.refreshBelay
  extract_lets x21
  clear_value x21
  apply State.degrade_ok
  assumption

theorem State.startJoin_ok (h : Ok p κ s) [MayBly κ] : Ok p κ (State.startJoin s) := by
  unfold State.startJoin
  extract_lets x21
  refine @use_ok p κ x21 _ ?_ ?_
  unfold x21
  apply State.onBly_ok
  apply State.setFld_ok
  assumption
  intro _
  clear_value x21
  refine ok_ite ?_ ?_
  apply State.joinRequest_ok
  assumption
  assumption

/-! ### Memory -/

theorem State.injectedFlips_ok (h : Ok p κ s) : OkP p κ (State.injectedFlips s) := by
  unfold State.injectedFlips
  split
  refine ok_ite ?_ ?_
  refine okP_mk ?_
  refine ok_of_pair ?_ (by assumption)
  apply State.takeInj_ok
  assumption
  split
  refine okP_mk ?_
  refine ok_of_pair ?_ (by assumption)
  apply State.takeInj_ok
  refine ok_of_pair ?_ (by assumption)
  apply State.takeInj_ok
  assumption

theorem State.queueBack_ok (h : Ok p κ s) [MayBnk κ] {a1 a2} : Ok p κ (State.queueBack s a1 a2) := by
  unfold State.queueBack
  split
  refine ok_mk ?_
  assumption
  assumption

theorem State.noteEcc_ok (h : Ok p κ s) [MayBnk κ] {a1 a2 a3 a4} : Ok p κ (State.noteEcc s a1 a2 a3 a4) := by
  unfold State.noteEcc
  extract_lets x25 x26 x27 x28 x29
  clear_value x25
  clear_value x26
  clear_value x27
  refine @use_ok p κ x28 _ ?_ ?_
  unfold x28
  refine ok_ite ?_ ?_
  apply State.bump_ok
  apply State.bump_ok
  assumption
  apply State.bump_ok
  apply State.bump_ok
  assumption
  intro _
  clear_value x28
  refine @use_ok p κ x29 _ ?_ ?_
  unfold x29
  refine ok_ite ?_ ?_
  apply State.setFld_ok
  assumption
  apply State.wrN_ok
  apply State.wrN_ok
  assumption
  intro _
  clear_value x29
  apply State.evt_ok
  refine ok_ite ?_ ?_
  assumption
  apply State.queueBack_ok
  assumption

theorem State.checkedRead_ok (h : Ok p κ s) [MayBnk κ] {a1 a2} : OkP p κ (State.checkedRead s a1 a2) := by
  unfold State.checkedRead
  split
  extract_lets x29 x30
  clear_value x29
  refine @use_ok p κ x30 _ ?_ ?_
  unfold x30
  refine ok_ite ?_ ?_
  apply State.noteEcc_ok
  refine ok_of_pair ?_ (by assumption)
  refine ok_ite ?_ ?_
  apply State.injectedFlips_ok
  assumption
  refine okP_mk ?_
  assumption
  refine ok_of_pair ?_ (by assumption)
  refine ok_ite ?_ ?_
  apply State.injectedFlips_ok
  assumption
  refine okP_mk ?_
  assumption
  intro _
  clear_value x30
  refine okP_mk ?_
  assumption

theorem State.aliasWriteBytes_ok (h : Ok p κ s) [MayMem κ] [MayFlips κ] [MayBnk κ] {a1 a2 a3 a4 a5 a6} : OkP p κ (State.aliasWriteBytes s a1 a2 a3 a4 a5 a6) := by
  unfold State.aliasWriteBytes
  extract_lets x27 x28
  clear_value x27
  clear_value x28
  refine ok_ite ?_ ?_
  refine okP_mk ?_
  apply State.errResp_ok
  assumption
  split
  refine okP_mk ?_
  apply State.errResp_ok
  refine ok_of_pair ?_ (by assumption)
  apply State.checkedRead_ok
  assumption
  refine okP_mk ?_
  apply State.setWord_ok
  refine ok_of_pair ?_ (by assumption)
  apply State.checkedRead_ok
  assumption

theorem State.bankRead_ok (h : Ok p κ s) [MayBnk κ] {a1 a2 a3} : OkP p κ (State.bankRead s a1 a2 a3) := by
  unfold State.bankRead
  refine ok_ite ?_ ?_
  refine okP_mk ?_
  apply State.errResp_ok
  assumption
  split
  refine okP_mk ?_
  apply State.errResp_ok
  refine ok_of_pair ?_ (by assumption)
  apply State.checkedRead_ok
  assumption
  apply State.checkedRead_ok
  assumption

theorem State.bankWrite_ok (h : Ok p κ s) [MayMem κ] [MayFlips κ] {a1 a2 a3 a4} : OkP p κ (State.bankWrite s a1 a2 a3 a4) := by
  unfold State.bankWrite
  refine ok_ite ?_ ?_
  refine okP_mk ?_
  apply State.errResp_ok
  assumption
  refine okP_mk ?_
  apply State.setWord_ok
  assumption

theorem State.rmw_ok (h : Ok p κ s) [MayMem κ] [MayFlips κ] {k a2 a3 a4 a5 a6} (hk : ∀ t, Ok p κ t → OkP p κ (k t)) : OkP p κ (State.rmw s k a2 a3 a4 a5 a6) := by
  unfold State.rmw
  split
  refine okP_mk ?_
  apply State.errResp_ok
  refine ok_of_pair ?_ (by assumption)
  apply hk
  assumption
  refine okP_mk ?_
  apply State.setWord_ok
  refine ok_of_pair ?_ (by assumption)
  apply hk
  assumption

theorem State.bankWriteBytes_ok (h : Ok p κ s) [MayMem κ] [MayFlips κ] [MayBnk κ] {a1 a2 a3 a4 a5} : OkP p κ (State.bankWriteBytes s a1 a2 a3 a4 a5) := by
  unfold State.bankWriteBytes
  refine ok_ite ?_ ?_
  refine okP_mk ?_
  apply State.errResp_ok
  assumption
  refine ok_ite ?_ ?_
  refine okP_mk ?_
  apply State.setWord_ok
  assumption
  apply State.rmw_ok
  assumption
  intro _ _
  apply State.checkedRead_ok
  assumption

theorem State.dmaErr_ok (h : Ok p κ s) {a1 a2 a3 a4} : Ok p κ (State.dmaErr s a1 a2 a3 a4) := by
  unfold State.dmaErr
  refine ok_ite ?_ ?_
  assumption
  apply State.evt_ok
  apply State.wrN_ok
  apply State.wrN_ok
  assumption

theorem State.dmaInj_ok (h : Ok p κ s) {a1 a2 a3 a4} : OkO p κ (State.dmaInj s a1 a2 a3 a4) := by
  unfold State.dmaInj
  refine ok_ite ?_ ?_
  split
  refine ok_ite ?_ ?_
  refine okO_some ?_
  apply State.dmaErr_ok
  apply State.errResp_ok
  refine ok_of_pair ?_ (by assumption)
  apply State.takeInj_ok
  assumption
  exact okO_none
  exact okO_none

theorem State.burstRead_ok (h : Ok p κ s) [MayBnk κ] {a1 a2 a3 a4} : OkP p κ (State.burstRead a1 a2 a3 a4 s) := by
  induction a2 generalizing s a3 a4
  unfold State.burstRead
  refine okP_mk ?_
  assumption
  rename_i ih
  unfold State.burstRead
  split
  refine okP_mk ?_
  refine ok_of_some ?_ (by assumption)
  apply State.dmaInj_ok
  assumption
  refine ok_ite ?_ ?_
  refine okP_mk ?_
  apply State.dmaErr_ok
  apply State.errResp_ok
  assumption
  extract_lets x28
  clear_value x28
  split
  refine okP_mk ?_
  apply State.dmaErr_ok
  refine ok_of_pair ?_ (by assumption)
  apply State.bankRead_ok
  assumption
  split
  refine okP_mk ?_
  refine ok_of_pair ?_ (by assumption)
  apply ih
  refine ok_of_pair ?_ (by assumption)
  apply State.bankRead_ok
  assumption
  refine okP_mk ?_
  refine ok_of_pair ?_ (by assumption)
  apply ih
  refine ok_of_pair ?_ (by assumption)
  apply State.bankRead_ok
  assumption

theorem State.burstWrite_ok (h : Ok p κ s) [MayMem κ] [MayFlips κ] {a1 a2 a3 a4} : OkP p κ (State.burstWrite a1 a2 a3 a4 s) := by
  induction a2 generalizing s a3 a4
  unfold State.burstWrite
  refine okP_mk ?_
  assumption
  rename_i ih
  unfold State.burstWrite
  split
  refine okP_mk ?_
  refine ok_of_some ?_ (by assumption)
  apply State.dmaInj_ok
  assumption
  refine ok_ite ?_ ?_
  refine okP_mk ?_
  apply State.dmaErr_ok
  apply State.errResp_ok
  assumption
  split
  refine okP_mk ?_
  apply State.dmaErr_ok
  refine ok_of_pair ?_ (by assumption)
  apply State.bankWrite_ok
  assumption
  apply ih
  refine ok_of_pair ?_ (by assumption)
  apply State.bankWrite_ok
  assumption

theorem State.codedWriteBytes_ok (h : Ok p κ s) [MayMem κ] [MayFlips κ] {a1 a2 a3 a4 a5} : OkP p κ (State.codedWriteBytes s a1 a2 a3 a4 a5) := by
  unfold State.codedWriteBytes
  refine ok_ite ?_ ?_
  refine okP_mk ?_
  apply State.setWord_ok
  assumption
  apply State.rmw_ok
  assumption
  intro _ _
  refine okP_mk ?_
  assumption

theorem State.mailboxWriteBytes_ok (h : Ok p κ s) [MayMem κ] [MayFlips κ] [MayBnk κ] {a1 a2 a3 a4 a5} : OkP p κ (State.mailboxWriteBytes s a1 a2 a3 a4 a5) := by
  unfold State.mailboxWriteBytes
  refine ok_ite ?_ ?_
  refine okP_mk ?_
  apply State.setWord_ok
  assumption
  apply State.rmw_ok
  assumption
  intro _ _
  apply State.checkedRead_ok
  assumption

theorem State.noteWrite_ok {s2 : State} (h : Ok p κ s) [MaySys κ] {a1} : Ok p κ (State.noteWrite s2 s a1) := by
  unfold State.noteWrite
  refine ok_ite ?_ ?_
  refine ok_mk ?_
  assumption
  assumption

theorem State.upset_ok (h : Ok p κ s) [MayFlips κ] [MayBnk κ] {a1 a2} : Ok p κ (State.upset s a1 a2) := by
  unfold State.upset
  extract_lets x23 x24
  clear_value x23
  clear_value x24
  refine ok_mk ?_
  assumption

theorem State.waited_ok (h : Ok p κ s) {a1 a2 a3} : Ok p κ (State.waited s a1 a2 a3) := by
  unfold State.waited
  refine ok_ite ?_ ?_
  assumption
  extract_lets x24 x25 x26
  clear_value x24
  refine @use_ok p κ x25 _ ?_ ?_
  unfold x25
  apply State.wr_ok
  assumption
  intro _
  clear_value x25
  refine @use_ok p κ x26 _ ?_ ?_
  unfold x26
  refine ok_ite ?_ ?_
  apply State.bump_ok
  assumption
  assumption
  intro _
  clear_value x26
  refine ok_ite ?_ ?_
  apply State.evt_ok
  apply State.bump_ok
  assumption
  assumption

/-! ### TrussGraph -/

theorem State.putCheck_ok (h : Ok p κ s) {a1} : Ok p κ (State.putCheck s a1) := by
  unfold State.putCheck
  apply State.wrN_ok
  apply State.wrN_ok
  assumption

theorem State.writeCheckCtrl_ok (h : Ok p κ s) [MayTrs κ] {a1} : Ok p κ (State.writeCheckCtrl s a1) := by
  unfold State.writeCheckCtrl
  extract_lets x22 x23 x24
  refine @use_ok p κ x22 _ ?_ ?_
  unfold x22
  apply State.setFld_ok
  assumption
  intro _
  clear_value x22
  refine @use_ok p κ x23 _ ?_ ?_
  unfold x23
  apply State.setFld_ok
  assumption
  intro _
  clear_value x23
  clear_value x24
  refine ok_ite ?_ ?_
  refine ok_ite ?_ ?_
  refine ok_mk ?_
  assumption
  refine ok_mk ?_
  assumption
  assumption

theorem execCheckBegin_ok (h : Ok p κ s) [MayTrs κ] : OkR p κ (execCheckBegin s) := by
  unfold execCheckBegin
  refine okR_next ?_
  refine ok_ite ?_ ?_
  refine ok_mk ?_
  assumption
  assumption

theorem execCheckDone_ok (h : Ok p κ s) [MayTrs κ] : OkR p κ (execCheckDone s) := by
  unfold execCheckDone
  split
  refine okR_next ?_
  assumption
  extract_lets x26 x27 x28 x29
  clear_value x26
  refine @use_ok p κ x27 _ ?_ ?_
  unfold x27
  apply State.evt_ok
  apply State.setFld_ok
  apply State.putCheck_ok
  assumption
  intro _
  clear_value x27
  refine @use_ok p κ x28 _ ?_ ?_
  unfold x28
  refine ok_ite ?_ ?_
  assumption
  apply State.evt_ok
  assumption
  intro _
  clear_value x28
  clear_value x29
  refine okR_next ?_
  refine ok_mk ?_
  assumption

/-! ### Journal -/

theorem State.setJState_ok (h : Ok p κ s) {a1 a2} : Ok p κ (State.setJState s a1 a2) := by
  unfold State.setJState
  extract_lets x23
  refine @use_ok p κ x23 _ ?_ ?_
  unfold x23
  apply State.setFld_ok
  assumption
  intro _
  clear_value x23
  apply State.logEvent_ok
  assumption

theorem State.jDone_ok (h : Ok p κ s) {a1 a2} : Ok p κ (State.jDone s a1 a2) := by
  unfold State.jDone
  extract_lets x23 x24
  clear_value x23
  refine @use_ok p κ x24 _ ?_ ?_
  unfold x24
  apply State.wrN_ok
  assumption
  intro _
  clear_value x24
  refine ok_ite ?_ ?_
  apply State.evt_ok
  apply State.setJState_ok
  apply State.wrIdx_ok
  assumption
  assumption

theorem State.jTakeover_ok (h : Ok p κ s) : Ok p κ (State.jTakeover s) := by
  unfold State.jTakeover
  refine ok_foldl ?_ ?_
  assumption
  intro _ _ _
  apply State.evt_ok
  apply State.setFld_ok
  assumption

theorem State.unitDone_ok (h : Ok p κ s) {a1 a2} : Ok p κ (State.unitDone s a1 a2) := by
  unfold State.unitDone
  refine ok_foldl ?_ ?_
  assumption
  intro _ _ _
  apply State.jDone_ok
  assumption

theorem State.unitFault_ok (h : Ok p κ s) {a1} : Ok p κ (State.unitFault s a1) := by
  unfold State.unitFault
  refine ok_foldl ?_ ?_
  assumption
  intro _ _ _
  apply State.evt_ok
  apply State.setFld_ok
  apply State.setFld_ok
  assumption

/-! ### Strips -/

theorem State.onTrs_ok (h : Ok p κ s) [MayTrs κ] {a1} : Ok p κ (State.onTrs s a1) := by
  unfold State.onTrs
  refine ok_mk ?_
  assumption

theorem State.setLevel_ok (h : Ok p κ s) [MayTrs κ] {a1 a2 a3} : Ok p κ (State.setLevel s a1 a2 a3) := by
  unfold State.setLevel
  apply State.onTrs_ok
  assumption

theorem State.arbitrate_ok (h : Ok p κ s) [MayMem κ] [MayFlips κ] [MayTrs κ] {s2 a1 a2} : Ok p κ (State.arbitrate s s2 a1 a2) := by
  unfold State.arbitrate
  extract_lets x24 x25 x26 x27 x28 x29 x30
  clear_value x24
  clear_value x25
  clear_value x26
  clear_value x27
  refine @use_ok p κ x28 _ ?_ ?_
  unfold x28
  refine ok_ite ?_ ?_
  refine ok_foldl ?_ ?_
  assumption
  intro _ _ _
  extract_lets x34
  clear_value x34
  split
  apply State.setLevel_ok
  assumption
  refine ok_foldl ?_ ?_
  assumption
  intro _ _ _
  apply State.setLevel_ok
  assumption
  intro _
  clear_value x28
  clear_value x29
  refine @use_ok p κ x30 _ ?_ ?_
  unfold x30
  apply State.setWord_ok
  assumption
  intro _
  clear_value x30
  apply State.wrN_ok
  assumption

theorem State.seedSection_ok (h : Ok p κ s) [MayMem κ] [MayFlips κ] {a1 a2 a3 a4} : Ok p κ (State.seedSection s a1 a2 a3 a4) := by
  unfold State.seedSection
  apply State.setWord_ok
  apply State.setWord_ok
  assumption

theorem State.carryLate_ok (h : Ok p κ s) [MayMem κ] [MayFlips κ] {s2 a1} : Ok p κ (State.carryLate s s2 a1) := by
  unfold State.carryLate
  extract_lets x23
  clear_value x23
  refine ok_ite ?_ ?_
  assumption
  refine ok_foldl ?_ ?_
  assumption
  intro _ _ _
  apply State.seedSection_ok
  assumption

theorem State.trussDone_ok (h : Ok p κ s) : Ok p κ (State.trussDone s) := by
  unfold State.trussDone
  extract_lets x21
  clear_value x21
  refine ok_ite ?_ ?_
  apply State.unitDone_ok
  assumption
  assumption

theorem State.settleChg_ok (h : Ok p κ s) [MayTrs κ] : Ok p κ (State.settleChg s) := by
  unfold State.settleChg
  extract_lets x21
  clear_value x21
  refine ok_ite ?_ ?_
  apply State.trussDone_ok
  apply State.onTrs_ok
  assumption
  assumption

theorem State.checkStepsDone_ok (h : Ok p κ s) [MayTrs κ] : Ok p κ (State.checkStepsDone s) := by
  unfold State.checkStepsDone
  extract_lets x21 x22
  refine @use_ok p κ x21 _ ?_ ?_
  unfold x21
  apply State.settleChg_ok
  assumption
  intro _
  clear_value x21
  clear_value x22
  refine ok_foldl ?_ ?_
  apply State.onTrs_ok
  assumption
  intro _ _ _
  apply State.evt_ok
  assumption

theorem State.clipped_ok (h : Ok p κ s) [MayMem κ] [MayFlips κ] {a1 a2} : Ok p κ (State.clipped s a1 a2) := by
  unfold State.clipped
  extract_lets x23 x24 x25 x26
  clear_value x23
  refine @use_ok p κ x24 _ ?_ ?_
  unfold x24
  apply State.setWord_ok
  assumption
  intro _
  clear_value x24
  refine @use_ok p κ x25 _ ?_ ?_
  unfold x25
  refine ok_ite ?_ ?_
  apply State.evt_ok
  assumption
  assumption
  intro _
  clear_value x25
  refine @use_ok p κ x26 _ ?_ ?_
  unfold x26
  apply State.evt_ok
  apply State.bump_ok
  assumption
  intro _
  clear_value x26
  refine ok_ite ?_ ?_
  assumption
  apply State.wrN_ok
  assumption

theorem State.conceal_ok (h : Ok p κ s) [MayMem κ] [MayFlips κ] {a1 a2 a3} : OkT p κ (State.conceal s a1 a2 a3) := by
  unfold State.conceal
  extract_lets x24 x25
  clear_value x24
  clear_value x25
  split
  extract_lets x32
  clear_value x32
  refine okT_mk ?_
  apply State.setWord_ok
  apply State.setWord_ok
  assumption

theorem State.contributors_ok (h : Ok p κ s) [MayMem κ] [MayFlips κ] [MayTrs κ] {s2 a1 a2} : OkQ p κ (State.contributors s s2 a1 a2) := by
  unfold State.contributors
  extract_lets x24 x25 x26 x27 x28 x29 x30 x31 x32 x33 x34 x35
  clear_value x24
  clear_value x25
  clear_value x26
  clear_value x27
  clear_value x28
  clear_value x29
  refine @use_ok p κ x30 _ ?_ ?_
  unfold x30
  refine ok_ite ?_ ?_
  apply State.arbitrate_ok
  assumption
  assumption
  intro _
  clear_value x30
  clear_value x31
  clear_value x32
  clear_value x33
  clear_value x34
  clear_value x35
  refine okQ_mk ?_
  assumption

theorem State.countForced_ok (h : Ok p κ s) : Ok p κ (State.countForced s) := by
  unfold State.countForced
  apply State.evt_ok
  apply State.bump_ok
  assumption

theorem State.readDelay_ok (h : Ok p κ s) [MayBnk κ] {a1} : OkP p κ (State.readDelay s a1) := by
  unfold State.readDelay
  extract_lets x22
  clear_value x22
  split
  refine okP_mk ?_
  refine ok_ite ?_ ?_
  apply State.evt_ok
  apply State.bump_ok
  refine ok_of_pair ?_ (by assumption)
  apply State.bankRead_ok
  assumption
  refine ok_of_pair ?_ (by assumption)
  apply State.bankRead_ok
  assumption

theorem State.delayLine_ok (h : Ok p κ s) [MayMem κ] [MayFlips κ] [MayBnk κ] {s2 a1 a2 a3} : OkP p κ (State.delayLine s s2 a1 a2 a3) := by
  unfold State.delayLine
  extract_lets x25
  clear_value x25
  split
  refine okP_mk ?_
  assumption
  split
  refine okP_mk ?_
  refine ok_snd ?_
  apply State.bankWrite_ok
  refine ok_of_pair ?_ (by assumption)
  split
  refine okP_mk ?_
  assumption
  apply State.readDelay_ok
  assumption

theorem State.dropStep_ok (h : Ok p κ s) [MayTrs κ] {a1} : Ok p κ (State.dropStep s a1) := by
  unfold State.dropStep
  apply State.onTrs_ok
  assumption

theorem State.under_ok (h : Ok p κ s) [MayTrs κ] {a1} : Ok p κ (State.under s a1) := by
  unfold State.under
  apply State.onTrs_ok
  apply State.setFld_ok
  assumption

theorem State.fabOf_ok (h : Ok p κ s) [MayMem κ] [MayFlips κ] [MayTrs κ] {a1} : Ok p κ (State.fabOf s a1) := by
  unfold State.fabOf
  extract_lets x22
  refine @use_ok p κ x22 _ ?_ ?_
  unfold x22
  split
  apply State.under_ok
  assumption
  assumption
  intro _
  clear_value x22
  refine ok_foldl ?_ ?_
  assumption
  intro _ _ _
  apply State.setWord_ok
  assumption

theorem State.fabAt_ok (h : Ok p κ s) [MayMem κ] [MayFlips κ] [MayTrs κ] {a1} : Ok p κ (State.fabAt s a1) := by
  unfold State.fabAt
  split
  apply State.fabOf_ok
  assumption
  assumption

theorem State.fab_ok (h : Ok p κ s) [MayMem κ] [MayFlips κ] [MayTrs κ] : Ok p κ (State.fab s) := by
  unfold State.fab
  apply State.fabAt_ok
  assumption

theorem State.stepDone_ok (h : Ok p κ s) [MayTrs κ] {a1 a2} : Ok p κ (State.stepDone s a1 a2) := by
  unfold State.stepDone
  extract_lets x23
  refine @use_ok p κ x23 _ ?_ ?_
  unfold x23
  apply State.dropStep_ok
  assumption
  intro _
  clear_value x23
  refine ok_ite ?_ ?_
  assumption
  split
  refine ok_ite ?_ ?_
  apply State.onTrs_ok
  assumption
  assumption
  assumption

theorem State.testStep_ok (h : Ok p κ s) [MayTrs κ] {s2 a1 a2 a3 a4 a5} : Ok p κ (State.testStep s s2 a1 a2 a3 a4 a5) := by
  unfold State.testStep
  split
  refine ok_ite ?_ ?_
  assumption
  extract_lets x33 x34
  refine @use_ok p κ x33 _ ?_ ?_
  unfold x33
  refine ok_ite ?_ ?_
  apply State.stepDone_ok
  assumption
  apply State.onTrs_ok
  assumption
  intro _
  clear_value x33
  refine @use_ok p κ x34 _ ?_ ?_
  unfold x34
  refine ok_ite ?_ ?_
  assumption
  apply State.countForced_ok
  assumption
  intro _
  clear_value x34
  apply State.checkStepsDone_ok
  assumption
  assumption

theorem State.meter_ok (h : Ok p κ s) [MayMem κ] [MayFlips κ] {a1 a2 a3 a4} : Ok p κ (State.meter s a1 a2 a3 a4) := by
  unfold State.meter
  extract_lets x25 x26 x27 x28 x29 x30
  clear_value x25
  refine @use_ok p κ x26 _ ?_ ?_
  unfold x26
  apply State.setWord_ok
  assumption
  intro _
  clear_value x26
  clear_value x27
  clear_value x28
  clear_value x29
  refine @use_ok p κ x30 _ ?_ ?_
  unfold x30
  apply State.setWord_ok
  assumption
  intro _
  clear_value x30
  refine ok_ite ?_ ?_
  apply State.clipped_ok
  assumption
  assumption

theorem State.testEdgeSteps_ok (h : Ok p κ s) [MayTrs κ] {s2 a1 a2 a3 a4} : Ok p κ (State.testEdgeSteps s s2 a1 a2 a3 a4) := by
  unfold State.testEdgeSteps
  refine ok_foldl ?_ ?_
  assumption
  intro _ _ _
  apply State.testStep_ok
  assumption

theorem State.finish_ok (h : Ok p κ s) [MayMem κ] [MayFlips κ] [MayTrs κ] [MayBnk κ] {s2 a1 a2 a3 a4} : OkT p κ (State.finish s s2 a1 a2 a3 a4) := by
  unfold State.finish
  extract_lets x26
  clear_value x26
  split
  extract_lets x33 x34 x35 x36 x37
  clear_value x33
  clear_value x34
  refine @use_ok p κ x35 _ ?_ ?_
  unfold x35
  apply State.testStep_ok
  refine ok_of_pair ?_ (by assumption)
  apply State.delayLine_ok
  assumption
  intro _
  clear_value x35
  refine @use_ok p κ x36 _ ?_ ?_
  unfold x36
  apply State.meter_ok
  assumption
  intro _
  clear_value x36
  refine @use_ok p κ x37 _ ?_ ?_
  unfold x37
  apply State.testEdgeSteps_ok
  assumption
  intro _
  clear_value x37
  refine okT_mk ?_
  apply State.onTrs_ok
  assumption

theorem State.stage1_ok (h : Ok p κ s) [MayMem κ] [MayFlips κ] [MayTrs κ] {s2 a1 a2} : OkQ p κ (State.stage1 s s2 a1 a2) := by
  unfold State.stage1
  refine ok_ite ?_ ?_
  split
  refine okQ_mk ?_
  assumption
  split
  refine okQ_mk ?_
  assumption
  split
  refine okQ_mk ?_
  refine ok_of_triple ?_ (by assumption)
  apply State.conceal_ok
  assumption
  apply State.contributors_ok
  assumption

theorem runSections_ok {f : State} (h : Ok p κ s) [MayMem κ] [MayFlips κ] {a1 a2 a3 a4 a5 a6} : OkT p κ (runSections f a1 a2 a3 a4 s a5 a6) := by
  induction a3 generalizing s a4 a5 a6
  unfold runSections
  refine okT_mk ?_
  assumption
  rename_i ih
  unfold runSections
  extract_lets x29 x30
  clear_value x29
  clear_value x30
  split
  apply ih
  apply State.setWord_ok
  apply State.setWord_ok
  assumption

theorem State.stage3_ok (h : Ok p κ s) [MayMem κ] [MayFlips κ] {s2 a1 a2 a3 a4} : OkT p κ (State.stage3 s s2 a1 a2 a3 a4) := by
  unfold State.stage3
  extract_lets x26 x27 x28 x29
  clear_value x26
  clear_value x27
  clear_value x28
  subst x29
  refine ok_ite ?_ ?_
  apply runSections_ok
  assumption
  refine ok_ite ?_ ?_
  dsimp -zeta only
  apply runSections_ok
  assumption
  split
  extract_lets x39
  refine @use_ok p κ x39 _ ?_ ?_
  unfold x39
  refine ok_ite ?_ ?_
  refine ok_foldl ?_ ?_
  assumption
  intro _ _ _
  refine ok_ite ?_ ?_
  apply State.seedSection_ok
  assumption
  assumption
  assumption
  intro _
  clear_value x39
  refine ok_ite ?_ ?_
  split
  split
  split
  extract_lets x53
  clear_value x53
  refine okT_mk ?_
  refine ok_of_triple ?_ (by assumption)
  apply runSections_ok
  refine ok_of_triple ?_ (by assumption)
  apply runSections_ok
  assumption
  dsimp -zeta only
  apply runSections_ok
  assumption
  apply runSections_ok
  assumption
  dsimp -zeta only
  apply runSections_ok
  assumption

theorem State.front_ok (h : Ok p κ s) [MayMem κ] [MayFlips κ] [MayTrs κ] {s2 a1 a2} : OkQ p κ (State.front s s2 a1 a2) := by
  unfold State.front
  split
  extract_lets x32 x33 x34 x35 x36
  clear_value x32
  clear_value x33
  clear_value x34
  refine @use_ok p κ x35 _ ?_ ?_
  unfold x35
  apply State.testStep_ok
  refine ok_of_quad ?_ (by assumption)
  apply State.stage1_ok
  assumption
  intro _
  clear_value x35
  refine @use_ok p κ x36 _ ?_ ?_
  unfold x36
  apply State.onTrs_ok
  assumption
  intro _
  clear_value x36
  split
  refine okQ_mk ?_
  apply State.carryLate_ok
  refine ok_of_triple ?_ (by assumption)
  apply State.stage3_ok
  assumption

theorem State.onTick_ok (h : Ok p κ s) [MayTrs κ] {a1 a2} : Ok p κ (State.onTick s a1 a2) := by
  unfold State.onTick
  apply State.onTrs_ok
  assumption

theorem State.readDelays_ok (h : Ok p κ s) [MayBnk κ] {a1} : OkP p κ (State.readDelays s a1) := by
  unfold State.readDelays
  refine ok_foldlP ?_ ?_
  refine okP_mk ?_
  assumption
  intro _ _ _
  split
  assumption
  split
  refine okP_mk ?_
  refine ok_of_pair ?_ (by assumption)
  apply State.readDelay_ok
  refine ok_snd ?_
  assumption

theorem State.refreshXfade_ok (h : Ok p κ s) : Ok p κ (State.refreshXfade s) := by
  unfold State.refreshXfade
  apply State.setFld_ok
  assumption

theorem State.runHead_ok (h : Ok p κ s) [MayMem κ] [MayFlips κ] [MayTrs κ] {s2 a1 a2 a3} : OkP p κ (State.runHead s s2 a1 a2 a3) := by
  unfold State.runHead
  split
  refine okP_mk ?_
  refine ok_of_quad ?_ (by assumption)
  apply State.front_ok
  assumption

theorem State.runStrip_ok (h : Ok p κ s) [MayMem κ] [MayFlips κ] [MayTrs κ] [MayBnk κ] {s2 a1 a2 a3} : OkP p κ (State.runStrip s s2 a1 a2 a3) := by
  unfold State.runStrip
  split
  split
  split
  refine okP_mk ?_
  refine ok_of_triple ?_ (by assumption)
  apply State.finish_ok
  refine ok_of_quad ?_ (by assumption)
  apply State.front_ok
  assumption
  split
  refine okP_mk ?_
  assumption
  split
  extract_lets x36 x37
  clear_value x36
  clear_value x37
  split
  refine okP_mk ?_
  refine ok_of_triple ?_ (by assumption)
  apply State.finish_ok
  refine ok_of_triple ?_ (by assumption)
  apply State.conceal_ok
  assumption
  refine okP_mk ?_
  assumption

/-! ### Presence -/

theorem State.announce_ok (h : Ok p κ s) [MayBly κ] {a1 a2 a3} : Ok p κ (State.announce s a1 a2 a3) := by
  unfold State.announce
  extract_lets x24
  refine @use_ok p κ x24 _ ?_ ?_
  unfold x24
  apply State.sendBelay_ok
  assumption
  intro _
  clear_value x24
  split
  assumption
  extract_lets x28
  refine @use_ok p κ x28 _ ?_ ?_
  unfold x28
  apply State.onBly_ok
  assumption
  intro _
  clear_value x28
  refine ok_ite ?_ ?_
  apply State.sendBelay_ok
  assumption
  assumption

theorem State.holdOwn_ok (h : Ok p κ s) [MayBly κ] {a1 a2 a3 a4} : Ok p κ (State.holdOwn s a1 a2 a3 a4) := by
  unfold State.holdOwn
  extract_lets x25
  clear_value x25
  refine ok_ite ?_ ?_
  assumption
  apply State.onBly_ok
  assumption

theorem State.trimPresence_ok (h : Ok p κ s) [MayBly κ] : Ok p κ (State.trimPresence s) := by
  unfold State.trimPresence
  extract_lets x21
  clear_value x21
  apply State.onBly_ok
  assumption

/-! ### TrussSched -/

theorem State.absentEvent_ok (h : Ok p κ s) {a1} : Ok p κ (State.absentEvent s a1) := by
  unfold State.absentEvent
  extract_lets x22
  refine @use_ok p κ x22 _ ?_ ?_
  unfold x22
  refine ok_ite ?_ ?_
  apply State.addTotal_ok
  assumption
  assumption
  intro _
  clear_value x22
  refine ok_ite ?_ ?_
  apply State.evt_ok
  assumption
  assumption

theorem State.count_ok (h : Ok p κ s) [MayMem κ] [MayFlips κ] {a1 a2 a3 a4} : Ok p κ (State.count s a1 a2 a3 a4) := by
  unfold State.count
  extract_lets x25
  clear_value x25
  apply State.setWord_ok
  assumption

theorem State.promote_ok (h : Ok p κ s) [MayTrs κ] : Ok p κ (State.promote s) := by
  unfold State.promote
  extract_lets x21
  clear_value x21
  apply State.onTrs_ok
  assumption

theorem State.arrive_ok (h : Ok p κ s) [MayMem κ] [MayFlips κ] [MayTrs κ] {a1 a2 a3 a4} : Ok p κ (State.arrive s a1 a2 a3 a4) := by
  unfold State.arrive
  split
  refine ok_ite ?_ ?_
  refine ok_ite ?_ ?_
  apply State.count_ok
  assumption
  assumption
  refine ok_ite ?_ ?_
  assumption
  apply State.promote_ok
  apply State.onTrs_ok
  apply State.onTick_ok
  assumption
  refine ok_ite ?_ ?_
  apply State.count_ok
  assumption
  assumption

theorem State.capturedItems_ok (h : Ok p κ s) [MayTrs κ] {a1} : Ok p κ (State.capturedItems s a1) := by
  unfold State.capturedItems
  apply State.onTrs_ok
  assumption

theorem State.checkReissued_ok (h : Ok p κ s) [MayTrs κ] {a1} : Ok p κ (State.checkReissued s a1) := by
  unfold State.checkReissued
  extract_lets x22
  refine @use_ok p κ x22 _ ?_ ?_
  unfold x22
  refine ok_ite ?_ ?_
  assumption
  apply State.onTrs_ok
  assumption
  intro _
  clear_value x22
  refine ok_ite ?_ ?_
  assumption
  refine ok_ite ?_ ?_
  apply State.setFld_ok
  assumption
  assumption

theorem State.chooseLanes_ok (h : Ok p κ s) [MayTrs κ] [MayBly κ] {a1} : Ok p κ (State.chooseLanes s a1) := by
  unfold State.chooseLanes
  split
  extract_lets x28 x29
  clear_value x28
  clear_value x29
  apply State.tell_ok
  apply State.onTrs_ok
  refine ok_of_pair ?_ (by assumption)
  refine ok_ite ?_ ?_
  apply State.free_ok
  assumption
  refine okP_mk ?_
  assumption

theorem State.closeTicks_ok (h : Ok p κ s) [MayTrs κ] [MayBly κ] : Ok p κ (State.closeTicks s) := by
  unfold State.closeTicks
  extract_lets x21 x22 x23 x24 x25 x26 x27 x28
  clear_value x21
  clear_value x22
  clear_value x23
  clear_value x24
  clear_value x25
  refine @use_ok p κ x26 _ ?_ ?_
  unfold x26
  refine ok_mk ?_
  assumption
  intro _
  clear_value x26
  refine @use_ok p κ x27 _ ?_ ?_
  unfold x27
  apply State.onTrs_ok
  assumption
  intro _
  clear_value x27
  refine @use_ok p κ x28 _ ?_ ?_
  unfold x28
  refine ok_ite ?_ ?_
  apply State.checkReissued_ok
  assumption
  assumption
  intro _
  clear_value x28
  refine ok_ite ?_ ?_
  apply State.evt_ok
  apply State.bump_ok
  assumption
  assumption

theorem State.stage_ok (h : Ok p κ s) [MayTrs κ] {a1 a2 a3} : Ok p κ (State.stage s a1 a2 a3) := by
  unfold State.stage
  apply State.onTrs_ok
  assumption

theorem State.stageZeros_ok (h : Ok p κ s) [MayMem κ] [MayFlips κ] [MayTrs κ] : Ok p κ (State.stageZeros s) := by
  unfold State.stageZeros
  extract_lets x21
  refine @use_ok p κ x21 _ ?_ ?_
  unfold x21
  apply State.fab_ok
  assumption
  intro _
  clear_value x21
  refine ok_foldl ?_ ?_
  assumption
  intro _ _ _
  apply State.stage_ok
  assumption

theorem State.closeIndex_ok (h : Ok p κ s) [MayMem κ] [MayFlips κ] [MayTrs κ] [MayBly κ] : Ok p κ (State.closeIndex s) := by
  unfold State.closeIndex
  extract_lets x21 x22 x23
  clear_value x21
  refine @use_ok p κ x22 _ ?_ ?_
  unfold x22
  apply State.closeTicks_ok
  apply State.stageZeros_ok
  apply State.onTrs_ok
  assumption
  intro _
  clear_value x22
  refine @use_ok p κ x23 _ ?_ ?_
  unfold x23
  apply State.wrN_ok
  assumption
  intro _
  clear_value x23
  apply State.wrN_ok
  assumption

theorem State.measure_ok (h : Ok p κ s) [MayTrs κ] {a1 a2} : Ok p κ (State.measure s a1 a2) := by
  unfold State.measure
  split
  assumption
  extract_lets x25 x26 x27
  clear_value x25
  refine @use_ok p κ x26 _ ?_ ?_
  unfold x26
  apply State.setFld_ok
  assumption
  intro _
  clear_value x26
  refine @use_ok p κ x27 _ ?_ ?_
  unfold x27
  apply State.onTrs_ok
  assumption
  intro _
  clear_value x27
  refine ok_ite ?_ ?_
  apply State.evt_ok
  apply State.bump_ok
  assumption
  assumption

theorem State.stageOutput_ok (h : Ok p κ s) [MayTrs κ] {s2 a1 a2 a3} : Ok p κ (State.stageOutput s s2 a1 a2 a3) := by
  unfold State.stageOutput
  split
  assumption
  apply State.measure_ok
  refine ok_foldl ?_ ?_
  assumption
  intro _ _ _
  apply State.stage_ok
  assumption

theorem State.perform_ok (h : Ok p κ s) [MayMem κ] [MayFlips κ] [MayTrs κ] [MayBnk κ] {a1 a2 a3} : Ok p κ (State.perform s a1 a2 a3) := by
  unfold State.perform
  extract_lets x24
  clear_value x24
  split
  split
  extract_lets x34
  refine @use_ok p κ x34 _ ?_ ?_
  unfold x34
  apply State.onTick_ok
  refine ok_of_pair ?_ (by assumption)
  apply State.runHead_ok
  assumption
  intro _
  clear_value x34
  refine ok_ite ?_ ?_
  apply State.clipped_ok
  assumption
  assumption
  extract_lets x30
  clear_value x30
  split
  refine ok_of_pair ?_ (by assumption)
  apply State.runStrip_ok
  assumption
  extract_lets x35 x36
  clear_value x35
  refine @use_ok p κ x36 _ ?_ ?_
  unfold x36
  apply State.onTick_ok
  refine ok_of_pair ?_ (by assumption)
  apply State.runStrip_ok
  assumption
  intro _
  clear_value x36
  refine ok_ite ?_ ?_
  apply State.stageOutput_ok
  assumption
  assumption
  extract_lets x30
  clear_value x30
  split
  refine ok_of_pair ?_ (by assumption)
  apply State.runStrip_ok
  assumption
  extract_lets x35 x36
  clear_value x35
  refine @use_ok p κ x36 _ ?_ ?_
  unfold x36
  apply State.onTick_ok
  refine ok_of_pair ?_ (by assumption)
  apply State.runStrip_ok
  assumption
  intro _
  clear_value x36
  refine ok_ite ?_ ?_
  apply State.stageOutput_ok
  assumption
  assumption
  extract_lets x32
  clear_value x32
  apply State.onTick_ok
  assumption

theorem State.complete_ok (h : Ok p κ s) [MayMem κ] [MayFlips κ] [MayTrs κ] [MayBnk κ] {a1 a2 a3} : Ok p κ (State.complete s a1 a2 a3) := by
  unfold State.complete
  split
  assumption
  extract_lets x29 x30 x31
  refine @use_ok p κ x29 _ ?_ ?_
  unfold x29
  apply State.onTrs_ok
  assumption
  intro _
  clear_value x29
  refine @use_ok p κ x30 _ ?_ ?_
  unfold x30
  split
  assumption
  apply State.perform_ok
  assumption
  intro _
  clear_value x30
  refine @use_ok p κ x31 _ ?_ ?_
  unfold x31
  refine ok_ite ?_ ?_
  apply State.checkReissued_ok
  assumption
  assumption
  intro _
  clear_value x31
  apply State.promote_ok
  assumption

theorem State.deadline_ok (h : Ok p κ s) [MayMem κ] [MayFlips κ] [MayTrs κ] {a1 a2} : Ok p κ (State.deadline s a1 a2) := by
  unfold State.deadline
  split
  assumption
  refine ok_ite ?_ ?_
  assumption
  extract_lets x26 x27 x28 x29 x30 x31 x32
  refine @use_ok p κ x26 _ ?_ ?_
  unfold x26
  apply State.onTick_ok
  assumption
  intro _
  clear_value x26
  clear_value x27
  refine @use_ok p κ x28 _ ?_ ?_
  unfold x28
  apply State.onTrs_ok
  assumption
  intro _
  clear_value x28
  refine @use_ok p κ x29 _ ?_ ?_
  unfold x29
  refine ok_foldl ?_ ?_
  assumption
  intro _ _ _
  apply State.count_ok
  assumption
  intro _
  clear_value x29
  refine @use_ok p κ x30 _ ?_ ?_
  unfold x30
  apply State.fab_ok
  assumption
  intro _
  clear_value x30
  refine @use_ok p κ x31 _ ?_ ?_
  unfold x31
  refine ok_foldl ?_ ?_
  assumption
  intro _ _ _
  apply State.absentEvent_ok
  assumption
  intro _
  clear_value x31
  refine @use_ok p κ x32 _ ?_ ?_
  unfold x32
  refine ok_foldl ?_ ?_
  assumption
  intro _ _ _
  apply State.absentEvent_ok
  apply State.count_ok
  assumption
  intro _
  clear_value x32
  apply State.promote_ok
  assumption

theorem State.settle_ok (h : Ok p κ s) [MayMem κ] [MayFlips κ] [MayTrs κ] [MayBly κ] {a1} : Ok p κ (State.settle s a1) := by
  unfold State.settle
  refine ok_ite ?_ ?_
  assumption
  refine ok_foldl ?_ ?_
  assumption
  intro _ _ _
  refine ok_ite ?_ ?_
  split
  apply State.onBly_ok
  apply State.arrive_ok
  assumption
  assumption
  apply State.arrive_ok
  assumption

theorem State.deliver_ok (h : Ok p κ s) [MayMem κ] [MayFlips κ] [MayTrs κ] [MayBly κ] {a1 a2 a3 a4} : Ok p κ (State.deliver s a1 a2 a3 a4) := by
  unfold State.deliver
  refine ok_ite ?_ ?_
  split
  assumption
  apply State.settle_ok
  apply State.holdOwn_ok
  assumption
  extract_lets x25 x26
  clear_value x25
  refine @use_ok p κ x26 _ ?_ ?_
  unfold x26
  apply State.arrive_ok
  assumption
  intro _
  clear_value x26
  refine ok_ite ?_ ?_
  apply State.announce_ok
  assumption
  assumption

theorem State.fusePend_ok (h : Ok p κ s) : Ok p κ (State.fusePend s) := by
  unfold State.fusePend
  extract_lets x21 x22 x23 x24 x25
  clear_value x21
  clear_value x22
  clear_value x23
  clear_value x24
  clear_value x25
  apply State.wrN_ok
  assumption

theorem State.issue_ok (h : Ok p κ s) [MayTrs κ] {a1 a2} : Ok p κ (State.issue s a1 a2) := by
  unfold State.issue
  split
  refine ok_ite ?_ ?_
  apply State.onTrs_ok
  assumption
  assumption
  assumption

theorem State.lanesChanged_ok (h : Ok p κ s) [MayTrs κ] [MayBly κ] : Ok p κ (State.lanesChanged s) := by
  unfold State.lanesChanged
  extract_lets x21 x22 x23
  clear_value x21
  refine @use_ok p κ x22 _ ?_ ?_
  unfold x22
  apply State.setFld_ok
  assumption
  intro _
  clear_value x22
  clear_value x23
  refine ok_ite ?_ ?_
  assumption
  apply State.chooseLanes_ok
  assumption

theorem State.laneFault_ok (h : Ok p κ s) [MayTrs κ] [MayBly κ] {a1 a2} : Ok p κ (State.laneFault s a1 a2) := by
  unfold State.laneFault
  refine ok_ite ?_ ?_
  assumption
  extract_lets x23 x24 x25 x26 x27 x28 x29 x30
  refine @use_ok p κ x23 _ ?_ ?_
  unfold x23
  apply State.setFld_ok
  assumption
  intro _
  clear_value x23
  clear_value x24
  refine @use_ok p κ x25 _ ?_ ?_
  unfold x25
  apply State.onTrs_ok
  assumption
  intro _
  clear_value x25
  refine @use_ok p κ x26 _ ?_ ?_
  unfold x26
  refine ok_ite ?_ ?_
  assumption
  apply State.wrIdx_ok
  apply State.wrN_ok
  apply State.capturedItems_ok
  assumption
  intro _
  clear_value x26
  refine @use_ok p κ x27 _ ?_ ?_
  unfold x27
  apply State.evt_ok
  assumption
  intro _
  clear_value x27
  clear_value x28
  refine @use_ok p κ x29 _ ?_ ?_
  unfold x29
  apply State.onTrs_ok
  apply State.setFld_ok
  assumption
  intro _
  clear_value x29
  refine @use_ok p κ x30 _ ?_ ?_
  unfold x30
  refine ok_ite ?_ ?_
  apply State.onTrs_ok
  apply State.setFld_ok
  assumption
  assumption
  intro _
  clear_value x30
  refine ok_ite ?_ ?_
  apply State.fusePend_ok
  apply State.lanesChanged_ok
  refine ok_ite ?_ ?_
  apply State.markInj_ok
  assumption
  assumption
  apply State.fusePend_ok
  apply State.lanesChanged_ok
  apply State.degrade_ok
  apply State.sprLog_ok
  assumption

theorem State.switchOver_ok (h : Ok p κ s) [MayMem κ] [MayFlips κ] [MayTrs κ] {a1 a2 a3} : Ok p κ (State.switchOver s a1 a2 a3) := by
  unfold State.switchOver
  extract_lets x24 x25 x26 x27 x28 x29
  clear_value x24
  clear_value x25
  clear_value x26
  clear_value x27
  refine @use_ok p κ x28 _ ?_ ?_
  unfold x28
  refine ok_ite ?_ ?_
  apply State.setWord_ok
  apply State.setWord_ok
  assumption
  assumption
  intro _
  clear_value x28
  refine @use_ok p κ x29 _ ?_ ?_
  unfold x29
  apply State.onTrs_ok
  assumption
  intro _
  clear_value x29
  refine ok_ite ?_ ?_
  assumption
  apply State.onTrs_ok
  assumption

theorem State.liveGain_ok (h : Ok p κ s) [MayMem κ] [MayFlips κ] [MayTrs κ] {a1} : Ok p κ (State.liveGain s a1) := by
  unfold State.liveGain
  extract_lets x22 x23 x24
  clear_value x22
  clear_value x23
  refine @use_ok p κ x24 _ ?_ ?_
  unfold x24
  apply State.dropStep_ok
  assumption
  intro _
  clear_value x24
  refine ok_ite ?_ ?_
  refine ok_ite ?_ ?_
  apply State.dropStep_ok
  assumption
  refine ok_ite ?_ ?_
  split
  refine ok_ite ?_ ?_
  apply State.switchOver_ok
  assumption
  assumption
  assumption
  assumption
  refine ok_ite ?_ ?_
  apply State.dropStep_ok
  assumption
  assumption

theorem State.openIndex_ok (h : Ok p κ s) [MayTrs κ] [MayBnk κ] : Ok p κ (State.openIndex s) := by
  unfold State.openIndex
  split
  apply State.promote_ok
  apply State.onTrs_ok
  refine ok_of_pair ?_ (by assumption)
  apply State.readDelays_ok
  assumption

theorem State.openLive_ok (h : Ok p κ s) [MayMem κ] [MayFlips κ] [MayTrs κ] [MayBnk κ] : Ok p κ (State.openLive s) := by
  unfold State.openLive
  extract_lets x21 x22
  clear_value x21
  refine @use_ok p κ x22 _ ?_ ?_
  unfold x22
  apply State.checkStepsDone_ok
  refine ok_foldl ?_ ?_
  apply State.onTrs_ok
  assumption
  intro _ _ _
  apply State.liveGain_ok
  assumption
  intro _
  clear_value x22
  refine ok_ite ?_ ?_
  apply State.openIndex_ok
  assumption
  apply State.openIndex_ok
  apply State.wrN_ok
  assumption

theorem State.putShed_ok (h : Ok p κ s) {a1 a2} : Ok p κ (State.putShed s a1 a2) := by
  unfold State.putShed
  extract_lets x23 x24 x25 x26 x27
  clear_value x23
  clear_value x24
  refine @use_ok p κ x25 _ ?_ ?_
  unfold x25
  apply State.wrN_ok
  assumption
  intro _
  clear_value x25
  refine @use_ok p κ x26 _ ?_ ?_
  unfold x26
  apply State.wrN_ok
  apply State.wrN_ok
  assumption
  intro _
  clear_value x26
  clear_value x27
  refine ok_foldl ?_ ?_
  assumption
  intro _ _ _
  apply State.wrN_ok
  assumption

theorem State.reopen_ok (h : Ok p κ s) [MayTrs κ] {a1} : Ok p κ (State.reopen s a1) := by
  unfold State.reopen
  apply State.promote_ok
  apply State.onTrs_ok
  assumption

theorem State.reshed_ok (h : Ok p κ s) [MayMem κ] [MayFlips κ] [MayTrs κ] {a1} : Ok p κ (State.reshed s a1) := by
  unfold State.reshed
  extract_lets x22 x23 x24
  refine @use_ok p κ x22 _ ?_ ?_
  unfold x22
  apply State.fab_ok
  assumption
  intro _
  clear_value x22
  clear_value x23
  clear_value x24
  split
  extract_lets x32 x33 x34 x35
  refine @use_ok p κ x32 _ ?_ ?_
  unfold x32
  refine ok_ite ?_ ?_
  assumption
  apply State.evt_ok
  apply State.wrIdx_ok
  assumption
  intro _
  clear_value x32
  refine @use_ok p κ x33 _ ?_ ?_
  unfold x33
  apply State.onTrs_ok
  apply State.putShed_ok
  assumption
  intro _
  clear_value x33
  refine @use_ok p κ x34 _ ?_ ?_
  unfold x34
  refine ok_ite ?_ ?_
  apply State.evt_ok
  assumption
  assumption
  intro _
  clear_value x34
  refine @use_ok p κ x35 _ ?_ ?_
  unfold x35
  apply State.wrN_ok
  assumption
  intro _
  clear_value x35
  apply State.degrade_ok
  assumption

theorem State.takeSink_ok (h : Ok p κ s) [MayMem κ] [MayFlips κ] {a1 a2} : OkP p κ (State.takeSink s a1 a2) := by
  unfold State.takeSink
  split
  refine okP_mk ?_
  assumption
  refine okP_mk ?_
  refine ok_ite ?_ ?_
  apply State.evt_ok
  apply State.bump_ok
  apply State.count_ok
  assumption
  assumption

theorem execBatchEnd_ok (h : Ok p κ s) [MayMem κ] [MayFlips κ] [MayTrs κ] : OkR p κ (execBatchEnd s) := by
  unfold execBatchEnd
  split
  refine okR_next ?_
  assumption
  extract_lets x26 x27 x28 x29 x30
  clear_value x26
  clear_value x28
  refine @use_ok p κ x29 _ ?_ ?_
  unfold x29
  apply State.onTrs_ok
  assumption
  intro _
  clear_value x29
  refine @use_ok p κ x30 _ ?_ ?_
  unfold x30
  apply State.wrN_ok
  assumption
  intro _
  clear_value x30
  refine ok_ite ?_ ?_
  refine okR_next ?_
  assumption
  refine okR_next ?_
  apply State.reopen_ok
  apply State.reshed_ok
  apply State.trussDone_ok
  apply State.refreshXfade_ok
  assumption

theorem execChangeoverSwitch_ok (h : Ok p κ s) [MayMem κ] [MayFlips κ] [MayTrs κ] {a1} : OkR p κ (execChangeoverSwitch a1 s) := by
  unfold execChangeoverSwitch
  split
  refine okR_next ?_
  refine ok_ite ?_ ?_
  apply State.reopen_ok
  apply State.switchOver_ok
  assumption
  assumption
  refine okR_next ?_
  assumption

theorem execDelayFillEnd_ok (h : Ok p κ s) [MayTrs κ] {a1} : OkR p κ (execDelayFillEnd a1 s) := by
  unfold execDelayFillEnd
  split
  extract_lets x27
  clear_value x27
  refine okR_next ?_
  refine ok_ite ?_ ?_
  apply State.checkStepsDone_ok
  apply State.refreshXfade_ok
  apply State.onTrs_ok
  assumption
  assumption
  refine okR_next ?_
  assumption

theorem execDuckHoldExpire_ok (h : Ok p κ s) [MayTrs κ] {a1 a2} : OkR p κ (execDuckHoldExpire a1 a2 s) := by
  unfold execDuckHoldExpire
  extract_lets x23 x24
  clear_value x23
  clear_value x24
  refine okR_next ?_
  refine ok_ite ?_ ?_
  apply State.setLevel_ok
  assumption
  assumption

theorem execItemComplete_ok (h : Ok p κ s) [MayMem κ] [MayFlips κ] [MayTrs κ] [MayBnk κ] {a1 a2 a3} : OkR p κ (execItemComplete a1 a2 a3 s) := by
  unfold execItemComplete
  refine okR_next ?_
  apply State.complete_ok
  assumption

theorem execItemIssue_ok (h : Ok p κ s) [MayTrs κ] {a1 a2} : OkR p κ (execItemIssue a1 a2 s) := by
  unfold execItemIssue
  refine okR_next ?_
  apply State.issue_ok
  assumption

theorem execLaneFault_ok (h : Ok p κ s) [MayTrs κ] [MayBly κ] {a1} : OkR p κ (execLaneFault a1 s) := by
  unfold execLaneFault
  refine okR_next ?_
  apply State.laneFault_ok
  assumption

theorem execPairLaneChange_ok (h : Ok p κ s) [MayMem κ] [MayFlips κ] [MayTrs κ] : OkR p κ (execPairLaneChange s) := by
  unfold execPairLaneChange
  split
  refine okR_next ?_
  assumption
  extract_lets x27 x28
  refine @use_ok p κ x27 _ ?_ ?_
  unfold x27
  apply State.wrN_ok
  apply State.setFld_ok
  assumption
  intro _
  clear_value x27
  refine @use_ok p κ x28 _ ?_ ?_
  unfold x28
  apply State.onTrs_ok
  assumption
  intro _
  clear_value x28
  refine okR_next ?_
  apply State.reopen_ok
  apply State.reshed_ok
  assumption

theorem execSinkRampEnd_ok (h : Ok p κ s) [MayTrs κ] {a1} : OkR p κ (execSinkRampEnd a1 s) := by
  unfold execSinkRampEnd
  split
  refine okR_next ?_
  assumption
  refine okR_next ?_
  refine ok_ite ?_ ?_
  apply State.trussDone_ok
  apply State.onTrs_ok
  assumption
  assumption

theorem execSourceRampEnd_ok (h : Ok p κ s) [MayTrs κ] {a1} : OkR p κ (execSourceRampEnd a1 s) := by
  unfold execSourceRampEnd
  split
  refine okR_next ?_
  assumption
  refine okR_next ?_
  refine ok_ite ?_ ?_
  apply State.trussDone_ok
  apply State.onTrs_ok
  assumption
  assumption

theorem execSpareJoined_ok (h : Ok p κ s) [MayTrs κ] [MayBly κ] : OkR p κ (execSpareJoined s) := by
  unfold execSpareJoined
  split
  refine okR_next ?_
  assumption
  split
  extract_lets x30 x31
  refine @use_ok p κ x30 _ ?_ ?_
  unfold x30
  apply State.onTrs_ok
  apply State.setFld_ok
  refine ok_of_pair ?_ (by assumption)
  apply State.takeMark_ok
  assumption
  intro _
  clear_value x30
  refine @use_ok p κ x31 _ ?_ ?_
  unfold x31
  apply State.setFld_ok
  apply State.setFld_ok
  assumption
  intro _
  clear_value x31
  refine okR_next ?_
  apply State.fusePend_ok
  apply State.lanesChanged_ok
  apply State.evt_ok
  apply State.sprLog_ok
  assumption

theorem execStripStop_ok (h : Ok p κ s) [MayTrs κ] {a1} : OkR p κ (execStripStop a1 s) := by
  unfold execStripStop
  extract_lets x22 x23
  clear_value x22
  clear_value x23
  refine okR_next ?_
  refine ok_ite ?_ ?_
  apply State.reopen_ok
  apply State.trussDone_ok
  apply State.checkStepsDone_ok
  apply State.refreshXfade_ok
  apply State.onTrs_ok
  assumption
  assumption

theorem execZcForced_ok (h : Ok p κ s) [MayTrs κ] {a1 a2} : OkR p κ (execZcForced a1 a2 s) := by
  unfold execZcForced
  split
  refine okR_next ?_
  assumption
  refine okR_next ?_
  refine ok_ite ?_ ?_
  apply State.checkStepsDone_ok
  apply State.countForced_ok
  apply State.stepDone_ok
  assumption
  assumption

end Sys2Proof.Machine
end

