-- ==== Sys2Proof/Laws/KeepChisel.lean ====
section
/-! SUPPORT. What the operations of the Chisel cores keep: the queue and the invariant of every step. -/

set_option Elab.async false

namespace Sys2Proof.Machine

open Sys2Proof

variable {p : List Instr} {κ : Kept} {s t : State}

/-! ### Operands -/

theorem State.readForAddress_ok (h : Ok p κ s) {a1 a2} : OkP p κ (State.readForAddress s a1 a2) := by
  unfold State.readForAddress
  extract_lets x23
  clear_value x23
  refine ok_ite ?_ ?_
  split
  refine okP_mk ?_
  refine ok_of_pair ?_ (by assumption)
  apply State.free_ok
  assumption
  refine okP_mk ?_
  assumption

theorem State.formAddress_ok (h : Ok p κ s) {a1 a2 a3} : OkT p κ (State.formAddress s a1 a2 a3) := by
  unfold State.formAddress
  split
  refine ok_ite ?_ ?_
  refine okT_mk ?_
  refine ok_of_pair ?_ (by assumption)
  apply State.readForAddress_ok
  assumption
  split
  split
  refine ok_ite ?_ ?_
  refine okT_mk ?_
  refine ok_of_pair ?_ (by assumption)
  apply State.readForAddress_ok
  refine ok_of_pair ?_ (by assumption)
  apply State.readForAddress_ok
  refine ok_of_pair ?_ (by assumption)
  apply State.readForAddress_ok
  assumption
  refine ok_ite ?_ ?_
  refine okT_mk ?_
  refine ok_of_pair ?_ (by assumption)
  apply State.readForAddress_ok
  refine ok_of_pair ?_ (by assumption)
  apply State.readForAddress_ok
  refine ok_of_pair ?_ (by assumption)
  apply State.readForAddress_ok
  assumption
  split
  extract_lets x42
  clear_value x42
  refine ok_ite ?_ ?_
  refine okT_mk ?_
  refine ok_of_pair ?_ (by assumption)
  apply State.readForAddress_ok
  refine ok_of_pair ?_ (by assumption)
  apply State.readForAddress_ok
  refine ok_of_pair ?_ (by assumption)
  apply State.readForAddress_ok
  refine ok_of_pair ?_ (by assumption)
  apply State.readForAddress_ok
  assumption
  refine okT_mk ?_
  refine ok_of_pair ?_ (by assumption)
  apply State.readForAddress_ok
  refine ok_of_pair ?_ (by assumption)
  apply State.readForAddress_ok
  refine ok_of_pair ?_ (by assumption)
  apply State.readForAddress_ok
  refine ok_of_pair ?_ (by assumption)
  apply State.readForAddress_ok
  assumption

theorem State.ioRead_ok (h : Ok p κ s) {a1 a2} : OkP p κ (State.ioRead s a1 a2) := by
  unfold State.ioRead
  extract_lets x23
  clear_value x23
  refine ok_ite ?_ ?_
  apply State.free_ok
  assumption
  refine ok_ite ?_ ?_
  refine okP_mk ?_
  assumption
  refine ok_ite ?_ ?_
  refine okP_mk ?_
  assumption
  refine ok_ite ?_ ?_
  refine okP_mk ?_
  assumption
  refine ok_ite ?_ ?_
  refine okP_mk ?_
  assumption
  refine ok_ite ?_ ?_
  refine okP_mk ?_
  assumption
  refine ok_ite ?_ ?_
  refine okP_mk ?_
  assumption
  refine okP_mk ?_
  assumption

theorem State.onChs_ok (h : Ok p κ s) [MayChs κ] {a1} : Ok p κ (State.onChs s a1) := by
  unfold State.onChs
  refine ok_mk ?_
  assumption

theorem State.onCore_ok (h : Ok p κ s) [MayChs κ] {a1 a2} : Ok p κ (State.onCore s a1 a2) := by
  unfold State.onCore
  apply State.onChs_ok
  assumption

theorem State.land_ok (h : Ok p κ s) [MayMem κ] [MayFlips κ] [MayChs κ] {a1 a2} : Ok p κ (State.land s a1 a2) := by
  unfold State.land
  split
  apply State.onCore_ok
  assumption
  apply State.onCore_ok
  assumption
  apply State.onCore_ok
  assumption
  apply State.onCore_ok
  assumption
  assumption
  apply State.onCore_ok
  assumption
  apply State.onCore_ok
  assumption
  apply State.onCore_ok
  assumption
  apply State.onCore_ok
  assumption
  refine ok_ite ?_ ?_
  apply State.setWord_ok
  assumption
  refine ok_ite ?_ ?_
  apply State.onCore_ok
  assumption
  assumption

theorem State.landAll_ok (h : Ok p κ s) [MayMem κ] [MayFlips κ] [MayChs κ] {a1} : Ok p κ (State.landAll s a1) := by
  unfold State.landAll
  refine ok_foldl ?_ ?_
  apply State.onCore_ok
  assumption
  intro _ _ _
  apply State.land_ok
  assumption

theorem State.landDue_ok (h : Ok p κ s) [MayMem κ] [MayFlips κ] [MayChs κ] {a1} : Ok p κ (State.landDue s a1) := by
  unfold State.landDue
  extract_lets x22 x23
  clear_value x22
  clear_value x23
  refine ok_foldl ?_ ?_
  apply State.onCore_ok
  assumption
  intro _ _ _
  apply State.land_ok
  assumption

theorem State.launch_ok (h : Ok p κ s) [MayChs κ] {a1 a2 a3 a4 a5} : Ok p κ (State.launch s a1 a2 a3 a4 a5) := by
  unfold State.launch
  apply State.onCore_ok
  assumption

theorem State.launchD_ok (h : Ok p κ s) [MayChs κ] {a1 a2 a3 a4} : Ok p κ (State.launchD s a1 a2 a3 a4) := by
  unfold State.launchD
  apply State.launch_ok
  assumption

theorem State.launchNamed_ok (h : Ok p κ s) [MayChs κ] {a1 a2 a3 a4} : Ok p κ (State.launchNamed s a1 a2 a3 a4) := by
  unfold State.launchNamed
  refine ok_ite ?_ ?_
  apply State.launch_ok
  apply State.launch_ok
  assumption
  refine ok_ite ?_ ?_
  apply State.launch_ok
  assumption
  refine ok_ite ?_ ?_
  apply State.launch_ok
  assumption
  apply State.launch_ok
  assumption

theorem State.loadFrom_ok (h : Ok p κ s) {a1 a2} : OkP p κ (State.loadFrom s a1 a2) := by
  unfold State.loadFrom
  split
  refine ok_ite ?_ ?_
  split
  refine okP_mk ?_
  refine ok_of_pair ?_ (by assumption)
  apply State.free_ok
  assumption
  refine okP_mk ?_
  assumption
  split
  refine okP_mk ?_
  refine ok_of_pair ?_ (by assumption)
  apply State.ioRead_ok
  assumption
  split
  refine okP_mk ?_
  refine ok_of_pair ?_ (by assumption)
  apply State.free_ok
  assumption

theorem State.readAcc_ok (h : Ok p κ s) {a1 a2} : OkP p κ (State.readAcc s a1 a2) := by
  unfold State.readAcc
  extract_lets x23
  clear_value x23
  refine ok_ite ?_ ?_
  apply State.free_ok
  assumption
  refine okP_mk ?_
  assumption

theorem State.readD_ok (h : Ok p κ s) {a1 a2} : OkP p κ (State.readD s a1 a2) := by
  unfold State.readD
  extract_lets x23
  clear_value x23
  refine ok_ite ?_ ?_
  apply State.free_ok
  assumption
  refine okP_mk ?_
  assumption

theorem State.readST_ok (h : Ok p κ s) {a1} : OkP p κ (State.readST s a1) := by
  unfold State.readST
  extract_lets x22 x23
  clear_value x22
  clear_value x23
  refine ok_ite ?_ ?_
  refine okP_mk ?_
  assumption
  split
  refine okP_mk ?_
  refine ok_of_pair ?_ (by assumption)
  apply State.free_ok
  assumption

theorem State.readNamed_ok (h : Ok p κ s) {a1 a2} : OkP p κ (State.readNamed s a1 a2) := by
  unfold State.readNamed
  refine ok_ite ?_ ?_
  apply State.readST_ok
  assumption
  extract_lets x23
  clear_value x23
  refine ok_ite ?_ ?_
  split
  refine okP_mk ?_
  refine ok_of_pair ?_ (by assumption)
  apply State.free_ok
  assumption
  refine okP_mk ?_
  assumption

theorem State.readSum_ok (h : Ok p κ s) {a1 a2} : OkP p κ (State.readSum s a1 a2) := by
  unfold State.readSum
  extract_lets x23
  clear_value x23
  refine ok_ite ?_ ?_
  apply State.free_ok
  assumption
  split
  refine okP_mk ?_
  assumption
  refine okP_mk ?_
  assumption

theorem State.storeTo_ok (h : Ok p κ s) [MayChs κ] {a1 a2 a3 a4} : OkO p κ (State.storeTo s a1 a2 a3 a4) := by
  unfold State.storeTo
  split
  refine okO_some ?_
  apply State.launch_ok
  assumption
  refine okO_some ?_
  refine ok_ite ?_ ?_
  apply State.launch_ok
  assumption
  assumption
  exact okO_none

theorem State.useAddress_ok (h : Ok p κ s) [MayChs κ] {a1 a2 a3 a4} : OkP p κ (State.useAddress s a1 a2 a3 a4) := by
  unfold State.useAddress
  split
  refine okP_mk ?_
  refine ok_of_triple ?_ (by assumption)
  apply State.formAddress_ok
  assumption
  refine okP_mk ?_
  apply State.launch_ok
  refine ok_of_triple ?_ (by assumption)
  apply State.formAddress_ok
  assumption

/-! ### Flags -/

theorem State.launchFlags_ok (h : Ok p κ s) [MayChs κ] {a1 a2 a3 a4 a5} : Ok p κ (State.launchFlags s a1 a2 a3 a4 a5) := by
  unfold State.launchFlags
  apply State.launch_ok
  assumption

theorem State.launchSumFlags_ok (h : Ok p κ s) [MayChs κ] {a1 a2 a3} : Ok p κ (State.launchSumFlags s a1 a2 a3) := by
  unfold State.launchSumFlags
  refine ok_ite ?_ ?_
  apply State.launchFlags_ok
  assumption
  assumption

theorem State.readFlags_ok (h : Ok p κ s) {a1} : OkP p κ (State.readFlags s a1) := by
  unfold State.readFlags
  extract_lets x22
  clear_value x22
  refine ok_ite ?_ ?_
  split
  refine okP_mk ?_
  refine ok_of_pair ?_ (by assumption)
  apply State.free_ok
  assumption
  refine okP_mk ?_
  assumption

theorem State.testCond_ok (h : Ok p κ s) {a1 a2} : OkP p κ (State.testCond s a1 a2) := by
  unfold State.testCond
  refine ok_ite ?_ ?_
  refine okP_mk ?_
  assumption
  split
  refine okP_mk ?_
  refine ok_of_pair ?_ (by assumption)
  apply State.readFlags_ok
  assumption

/-! ### ChiselIssue -/

theorem State.startMigration_ok (h : Ok p κ s) [MayChs κ] {a1 a2 a3 a4} : Ok p κ (State.startMigration s a1 a2 a3 a4) := by
  unfold State.startMigration
  apply State.onChs_ok
  assumption

theorem State.setLmap_ok (h : Ok p κ s) {a1 a2} : Ok p κ (State.setLmap s a1 a2) := by
  unfold State.setLmap
  apply State.setFld_ok
  assumption

theorem State.goDark_ok (h : Ok p κ s) [MayChs κ] {a1} : Ok p κ (State.goDark s a1) := by
  unfold State.goDark
  apply State.degrade_ok
  apply State.evt_ok
  apply State.onChs_ok
  apply State.setLmap_ok
  assumption

theorem State.coreFault_ok (h : Ok p κ s) [MayChs κ] {a1 a2 a3} : Ok p κ (State.coreFault s a1 a2 a3) := by
  unfold State.coreFault
  refine ok_ite ?_ ?_
  assumption
  extract_lets x24 x25 x26 x27 x28 x29 x30 x31 x32 x33
  clear_value x24
  clear_value x25
  clear_value x26
  refine @use_ok p κ x27 _ ?_ ?_
  unfold x27
  refine ok_ite ?_ ?_
  assumption
  apply State.wrIdx_ok
  apply State.wrN_ok
  assumption
  intro _
  clear_value x27
  refine @use_ok p κ x28 _ ?_ ?_
  unfold x28
  apply State.evt_ok
  assumption
  intro _
  clear_value x28
  refine @use_ok p κ x29 _ ?_ ?_
  unfold x29
  apply State.wrN_ok
  assumption
  intro _
  clear_value x29
  clear_value x30
  refine @use_ok p κ x31 _ ?_ ?_
  unfold x31
  refine ok_ite ?_ ?_
  apply State.onChs_ok
  assumption
  assumption
  intro _
  clear_value x31
  refine @use_ok p κ x32 _ ?_ ?_
  unfold x32
  apply State.onCore_ok
  assumption
  intro _
  clear_value x32
  refine @use_ok p κ x33 _ ?_ ?_
  unfold x33
  split
  assumption
  extract_lets x42 x43 x44
  refine @use_ok p κ x42 _ ?_ ?_
  unfold x42
  apply State.unitFault_ok
  assumption
  intro _
  clear_value x42
  clear_value x43
  refine @use_ok p κ x44 _ ?_ ?_
  unfold x44
  apply State.sprLog_ok
  assumption
  intro _
  clear_value x44
  refine ok_ite ?_ ?_
  apply State.startMigration_ok
  apply State.wrN_ok
  assumption
  split
  split
  extract_lets x53
  refine @use_ok p κ x53 _ ?_ ?_
  unfold x53
  apply State.onCore_ok
  apply State.goDark_ok
  assumption
  intro _
  clear_value x53
  apply State.startMigration_ok
  assumption
  apply State.goDark_ok
  assumption
  apply State.goDark_ok
  assumption
  intro _
  clear_value x33
  apply State.fusePend_ok
  assumption

theorem State.atLoopEnd_ok (h : Ok p κ s) {a1} : OkP p κ (State.atLoopEnd s a1) := by
  unfold State.atLoopEnd
  extract_lets x22
  clear_value x22
  refine ok_ite ?_ ?_
  refine okP_mk ?_
  assumption
  split
  refine ok_ite ?_ ?_
  refine okP_mk ?_
  refine ok_of_pair ?_ (by assumption)
  refine ok_ite ?_ ?_
  split
  refine okP_mk ?_
  refine ok_of_pair ?_ (by assumption)
  apply State.free_ok
  assumption
  refine okP_mk ?_
  assumption
  split
  refine okP_mk ?_
  refine ok_of_pair ?_ (by assumption)
  apply State.readNamed_ok
  refine ok_of_pair ?_ (by assumption)
  refine ok_ite ?_ ?_
  split
  refine okP_mk ?_
  refine ok_of_pair ?_ (by assumption)
  apply State.free_ok
  assumption
  refine okP_mk ?_
  assumption

theorem State.endCycle_ok (h : Ok p κ s) [MayMem κ] [MayFlips κ] [MayChs κ] {a1 a2} : Ok p κ (State.endCycle s a1 a2) := by
  unfold State.endCycle
  split
  split
  extract_lets x33 x34 x35
  refine @use_ok p κ x33 _ ?_ ?_
  unfold x33
  apply State.onCore_ok
  refine ok_of_pair ?_ (by assumption)
  refine ok_ite ?_ ?_
  apply State.readNamed_ok
  refine ok_of_pair ?_ (by assumption)
  refine ok_ite ?_ ?_
  apply State.readNamed_ok
  assumption
  refine okP_mk ?_
  assumption
  refine okP_mk ?_
  refine ok_of_pair ?_ (by assumption)
  refine ok_ite ?_ ?_
  apply State.readNamed_ok
  assumption
  refine okP_mk ?_
  assumption
  intro _
  clear_value x33
  clear_value x34
  refine @use_ok p κ x35 _ ?_ ?_
  unfold x35
  apply State.landDue_ok
  assumption
  intro _
  clear_value x35
  split
  assumption
  refine ok_ite ?_ ?_
  extract_lets x41
  refine @use_ok p κ x41 _ ?_ ?_
  unfold x41
  apply State.onCore_ok
  assumption
  intro _
  clear_value x41
  refine ok_ite ?_ ?_
  apply State.onCore_ok
  assumption
  assumption
  apply State.onCore_ok
  assumption

theorem State.arith_ok (h : Ok p κ s) [MayMem κ] [MayFlips κ] [MayChs κ] {a1 a2} {k : Word → State → Option (State × (State → State))} (hk : ∀ w t, Ok p κ t → OkC p κ (k w t)) : OkR p κ (State.arith s a1 a2 k) := by
  unfold State.arith
  split
  · exact okR_next h
  · exact okR_next (State.coreFault_ok h)
  · extract_lets c d
    clear_value c d
    have h1 := State.atLoopEnd_ok (a1 := a1) h
    generalize s.atLoopEnd a1 = l at h1 ⊢
    obtain ⟨looping, u⟩ := l
    refine ok_ite okR_fault (ok_ite (okR_next h) (ok_ite okR_fault ?_))
    split
    · exact okR_fault
    · rename_i u' f e
      have hc := hk _ _ h1 _ _ e
      exact okR_next (hc.2 _ (State.endCycle_ok hc.1))

theorem State.compute_ok (h : Ok p κ s) [MayMem κ] [MayFlips κ] [MayChs κ] {a1 a2} {k : Word → State → State} (hk : ∀ w t, Ok p κ t → Ok p κ (k w t)) : OkR p κ (State.compute s a1 a2 k) := by
  unfold State.compute
  apply State.arith_ok
  assumption
  intro _ _ _
  refine okC_some ?_ ?_
  apply hk
  assumption
  intro _ _
  assumption

theorem State.lastTimer_ok (h : Ok p κ s) [MayChs κ] {a1} : Ok p κ (State.lastTimer s a1) := by
  unfold State.lastTimer
  refine ok_ite ?_ ?_
  apply State.onCore_ok
  assumption
  assumption

theorem State.release_ok (h : Ok p κ s) [MayMem κ] [MayFlips κ] [MayTrs κ] [MayBly κ] {a1 a2} : Ok p κ (State.release s a1 a2) := by
  unfold State.release
  extract_lets x23 x24 x25
  clear_value x23
  clear_value x24
  refine @use_ok p κ x25 _ ?_ ?_
  unfold x25
  apply State.fabAt_ok
  assumption
  intro _
  clear_value x25
  split
  assumption
  extract_lets x32
  refine @use_ok p κ x32 _ ?_ ?_
  unfold x32
  refine ok_foldl ?_ ?_
  assumption
  intro _ _ _
  apply State.deliver_ok
  assumption
  intro _
  clear_value x32
  refine ok_foldl ?_ ?_
  assumption
  intro _ _ _
  split
  assumption
  apply State.deliver_ok
  assumption

theorem State.takeEndFault_ok (h : Ok p κ s) [MayChs κ] {a1} : Ok p κ (State.takeEndFault s a1) := by
  unfold State.takeEndFault
  split
  assumption
  apply State.coreFault_ok
  assumption

theorem State.halt_ok (h : Ok p κ s) [MayMem κ] [MayFlips κ] [MayTrs κ] [MayChs κ] [MayBly κ] {a1 a2 a3} : Ok p κ (State.halt s a1 a2 a3) := by
  unfold State.halt
  extract_lets x24 x25 x26 x27 x28 x29 x30 x31 x32 x33
  refine @use_ok p κ x24 _ ?_ ?_
  unfold x24
  apply State.landAll_ok
  apply State.lastTimer_ok
  assumption
  intro _
  clear_value x24
  clear_value x25
  refine @use_ok p κ x26 _ ?_ ?_
  unfold x26
  apply State.onCore_ok
  assumption
  intro _
  clear_value x26
  refine @use_ok p κ x27 _ ?_ ?_
  unfold x27
  apply State.setFld_ok
  assumption
  intro _
  clear_value x27
  clear_value x28
  refine @use_ok p κ x29 _ ?_ ?_
  unfold x29
  apply State.wr_ok
  assumption
  intro _
  clear_value x29
  refine @use_ok p κ x30 _ ?_ ?_
  unfold x30
  apply State.wrN_ok
  assumption
  intro _
  clear_value x30
  refine @use_ok p κ x31 _ ?_ ?_
  unfold x31
  apply State.wrN_ok
  assumption
  intro _
  clear_value x31
  refine @use_ok p κ x32 _ ?_ ?_
  unfold x32
  apply State.release_ok
  assumption
  intro _
  clear_value x32
  refine @use_ok p κ x33 _ ?_ ?_
  unfold x33
  apply State.onCore_ok
  assumption
  intro _
  clear_value x33
  refine ok_ite ?_ ?_
  apply State.onCore_ok
  assumption
  apply State.takeEndFault_ok
  apply State.onChs_ok
  assumption

theorem State.move_ok (h : Ok p κ s) [MayChs κ] {a1 a2 a3} {k : Nat → State → Option State × Bool} (hk : ∀ v t, Ok p κ t → OkOP p κ (k v t)) : OkR p κ (State.move s a1 a2 a3 k) := by
  unfold State.move
  split
  refine okR_next ?_
  assumption
  refine okR_next ?_
  apply State.coreFault_ok
  assumption
  extract_lets x31 x32 x33
  clear_value x31
  clear_value x32
  clear_value x33
  refine ok_ite ?_ ?_
  exact okR_fault
  refine ok_ite ?_ ?_
  refine okR_next ?_
  assumption
  split
  refine okR_next ?_
  apply State.coreFault_ok
  assumption
  exact okR_fault
  refine okR_next ?_
  apply State.onCore_ok
  refine ok_of_optPair ?_ (by assumption)
  apply hk
  assumption

theorem State.stopPass_ok (h : Ok p κ s) [MayMem κ] [MayFlips κ] [MayTrs κ] [MayChs κ] [MayBly κ] {a1} : Ok p κ (State.stopPass s a1) := by
  unfold State.stopPass
  extract_lets x22 x23 x24 x25 x26 x27 x28 x29
  refine @use_ok p κ x22 _ ?_ ?_
  unfold x22
  apply State.lastTimer_ok
  assumption
  intro _
  clear_value x22
  clear_value x23
  clear_value x24
  refine @use_ok p κ x25 _ ?_ ?_
  unfold x25
  apply State.landAll_ok
  assumption
  intro _
  clear_value x25
  refine @use_ok p κ x26 _ ?_ ?_
  unfold x26
  apply State.evt_ok
  apply State.bump_ok
  assumption
  intro _
  clear_value x26
  refine @use_ok p κ x27 _ ?_ ?_
  unfold x27
  apply State.setFld_ok
  assumption
  intro _
  clear_value x27
  refine @use_ok p κ x28 _ ?_ ?_
  unfold x28
  apply State.release_ok
  assumption
  intro _
  clear_value x28
  refine @use_ok p κ x29 _ ?_ ?_
  unfold x29
  apply State.onCore_ok
  assumption
  intro _
  clear_value x29
  apply State.takeEndFault_ok
  apply State.onChs_ok
  assumption

theorem execBankPortReturn_ok (h : Ok p κ s) [MayMem κ] [MayFlips κ] [MayChs κ] {a1 a2 a3} : OkR p κ (execBankPortReturn a1 a2 a3 s) := by
  unfold execBankPortReturn
  split
  refine okR_next ?_
  assumption
  extract_lets x30 x31 x32 x33 x34
  clear_value x30
  refine @use_ok p κ x31 _ ?_ ?_
  unfold x31
  apply State.waited_ok
  assumption
  intro _
  clear_value x31
  clear_value x32
  refine @use_ok p κ x33 _ ?_ ?_
  unfold x33
  apply State.onCore_ok
  assumption
  intro _
  clear_value x33
  refine @use_ok p κ x34 _ ?_ ?_
  unfold x34
  refine ok_ite ?_ ?_
  apply State.evt_ok
  apply State.bump_ok
  apply State.onCore_ok
  assumption
  assumption
  intro _
  clear_value x34
  refine okR_next ?_
  refine ok_ite ?_ ?_
  apply State.landAll_ok
  assumption
  assumption

theorem execCoreFault_ok (h : Ok p κ s) [MayChs κ] {a1 a2} : OkR p κ (execCoreFault a1 a2 s) := by
  unfold execCoreFault
  refine okR_next ?_
  apply State.coreFault_ok
  assumption

theorem execInterruptEntry_ok (h : Ok p κ s) [MayChs κ] {a1} : OkR p κ (execInterruptEntry a1 s) := by
  unfold execInterruptEntry
  extract_lets x22 x23
  clear_value x22
  clear_value x23
  refine ok_ite ?_ ?_
  refine okR_next ?_
  assumption
  refine ok_ite ?_ ?_
  exact okR_fault
  refine okR_next ?_
  apply State.onCore_ok
  assumption

theorem execLoopEnd_ok (h : Ok p κ s) [MayChs κ] {a1} : OkR p κ (execLoopEnd a1 s) := by
  unfold execLoopEnd
  extract_lets x22 x23
  clear_value x22
  clear_value x23
  refine okR_next ?_
  refine ok_ite ?_ ?_
  assumption
  apply State.onCore_ok
  assumption

theorem execPassStop_ok (h : Ok p κ s) [MayMem κ] [MayFlips κ] [MayTrs κ] [MayChs κ] [MayBly κ] {a1} : OkR p κ (execPassStop a1 s) := by
  unfold execPassStop
  refine okR_next ?_
  refine ok_ite ?_ ?_
  apply State.stopPass_ok
  assumption
  assumption

theorem execResetProgramOverrun_ok (h : Ok p κ s) [MayChs κ] {a1} : OkR p κ (execResetProgramOverrun a1 s) := by
  unfold execResetProgramOverrun
  refine okR_next ?_
  refine ok_ite ?_ ?_
  apply State.coreFault_ok
  assumption
  assumption

theorem execTimerRequest_ok (h : Ok p κ s) [MayChs κ] {a1} : OkR p κ (execTimerRequest a1 s) := by
  unfold execTimerRequest
  refine okR_next ?_
  refine ok_ite ?_ ?_
  apply State.onCore_ok
  assumption
  assumption

/-! ### ChiselArith -/

theorem State.accumulate_ok (h : Ok p κ s) [MayChs κ] {a1 a2 a3 a4} : OkP p κ (State.accumulate s a1 a2 a3 a4) := by
  unfold State.accumulate
  split
  extract_lets x31
  clear_value x31
  refine okP_mk ?_
  apply State.launch_ok
  refine ok_of_pair ?_ (by assumption)
  refine ok_ite ?_ ?_
  apply State.readSum_ok
  assumption
  refine okP_mk ?_
  assumption

theorem State.binary_ok (h : Ok p κ s) [MayMem κ] [MayFlips κ] [MayChs κ] {a1 a2 a3} : OkR p κ (State.binary s a1 a2 a3) := by
  unfold State.binary
  apply State.compute_ok
  assumption
  intro _ _ _
  split
  split
  apply State.launchD_ok
  refine ok_of_pair ?_ (by assumption)
  apply State.readD_ok
  refine ok_of_pair ?_ (by assumption)
  apply State.readD_ok
  assumption

theorem branchTo_ok (h : Ok p κ s) [MayChs κ] {a1 a2 a3} : Ok p κ (branchTo a1 a2 a3 s) := by
  unfold branchTo
  apply State.onCore_ok
  assumption

theorem State.branch_ok (h : Ok p κ s) [MayChs κ] {a1 a2 a3} {k : State → State} (hk : ∀ t, Ok p κ t → Ok p κ (k t)) : OkC p κ (State.branch s a1 a2 a3 k) := by
  unfold State.branch
  split
  refine ok_ite ?_ ?_
  refine okC_some ?_ ?_
  refine ok_of_pair ?_ (by assumption)
  apply State.testCond_ok
  assumption
  intro _ _
  assumption
  refine ok_ite ?_ ?_
  refine okC_some ?_ ?_
  apply hk
  refine ok_of_pair ?_ (by assumption)
  apply State.testCond_ok
  assumption
  intro _ _
  apply branchTo_ok
  assumption
  exact okC_none

theorem State.loop_ok (h : Ok p κ s) [MayChs κ] {a1 a2 a3} : OkC p κ (State.loop s a1 a2 a3) := by
  unfold State.loop
  extract_lets x24 x25 x26 x27
  clear_value x24
  clear_value x25
  subst x26
  refine @use_ok p κ x27 _ ?_ ?_
  unfold x27
  dsimp -zeta only
  apply State.launch_ok
  apply State.launch_ok
  apply State.launch_ok
  assumption
  intro _
  clear_value x27
  refine ok_ite ?_ ?_
  exact okC_none
  refine okC_some ?_ ?_
  assumption
  intro _ _
  refine ok_ite ?_ ?_
  apply State.onCore_ok
  assumption
  assumption

theorem execAccd_ok (h : Ok p κ s) [MayMem κ] [MayFlips κ] [MayChs κ] {a1} : OkR p κ (execAccd a1 s) := by
  unfold execAccd
  apply State.compute_ok
  assumption
  intro _ _ _
  refine ok_ite ?_ ?_
  refine ok_ite ?_ ?_
  split
  apply State.launchSumFlags_ok
  refine ok_of_pair ?_ (by assumption)
  apply State.readSum_ok
  assumption
  assumption
  split
  split
  apply State.launchSumFlags_ok
  refine ok_of_pair ?_ (by assumption)
  apply State.accumulate_ok
  refine ok_of_pair ?_ (by assumption)
  apply State.readD_ok
  assumption

theorem execAccmov_ok (h : Ok p κ s) [MayMem κ] [MayFlips κ] [MayChs κ] {a1} : OkR p κ (execAccmov a1 s) := by
  unfold execAccmov
  apply State.compute_ok
  assumption
  intro _ _ _
  split
  apply State.launch_ok
  refine ok_of_pair ?_ (by assumption)
  apply State.readAcc_ok
  assumption

theorem execAccrd_ok (h : Ok p κ s) [MayMem κ] [MayFlips κ] [MayChs κ] {a1} : OkR p κ (execAccrd a1 s) := by
  unfold execAccrd
  apply State.compute_ok
  assumption
  intro _ _ _
  split
  apply State.launchD_ok
  refine ok_of_pair ?_ (by assumption)
  apply State.readAcc_ok
  assumption

theorem execAccsh_ok (h : Ok p κ s) [MayMem κ] [MayFlips κ] [MayChs κ] {a1} : OkR p κ (execAccsh a1 s) := by
  unfold execAccsh
  apply State.compute_ok
  assumption
  intro _ _ _
  split
  extract_lets x31 x32
  clear_value x31
  clear_value x32
  apply State.launch_ok
  refine ok_of_pair ?_ (by assumption)
  apply State.readAcc_ok
  assumption

theorem execAccwr_ok (h : Ok p κ s) [MayMem κ] [MayFlips κ] [MayChs κ] {a1} : OkR p κ (execAccwr a1 s) := by
  unfold execAccwr
  apply State.compute_ok
  assumption
  intro _ _ _
  split
  split
  apply State.launch_ok
  refine ok_of_pair ?_ (by assumption)
  apply State.readD_ok
  assumption

theorem execBld_ok (h : Ok p κ s) [MayMem κ] [MayFlips κ] [MayChs κ] [MayBnk κ] {a1} : OkR p κ (execBld a1 s) := by
  unfold execBld
  apply State.compute_ok
  assumption
  intro _ _ _
  extract_lets x25
  clear_value x25
  split
  split
  split
  apply State.onCore_ok
  refine ok_of_triple ?_ (by assumption)
  refine ok_ite ?_ ?_
  split
  refine okT_mk ?_
  refine ok_of_pair ?_ (by assumption)
  apply State.free_ok
  refine ok_of_pair ?_ (by assumption)
  apply State.takeInj_ok
  refine ok_of_pair ?_ (by assumption)
  apply State.useAddress_ok
  assumption
  refine ok_ite ?_ ?_
  refine okT_mk ?_
  refine ok_of_pair ?_ (by assumption)
  apply State.takeInj_ok
  refine ok_of_pair ?_ (by assumption)
  apply State.useAddress_ok
  assumption
  split
  refine okT_mk ?_
  refine ok_of_pair ?_ (by assumption)
  apply State.takeInj_ok
  refine ok_of_pair ?_ (by assumption)
  apply State.useAddress_ok
  assumption
  split
  refine okT_mk ?_
  refine ok_of_pair ?_ (by assumption)
  apply State.bankRead_ok
  refine ok_of_pair ?_ (by assumption)
  apply State.takeInj_ok
  refine ok_of_pair ?_ (by assumption)
  apply State.useAddress_ok
  assumption
  refine okT_mk ?_
  refine ok_of_pair ?_ (by assumption)
  apply State.bankRead_ok
  refine ok_of_pair ?_ (by assumption)
  apply State.takeInj_ok
  refine ok_of_pair ?_ (by assumption)
  apply State.useAddress_ok
  assumption

theorem execBr_ok (h : Ok p κ s) [MayMem κ] [MayFlips κ] [MayChs κ] {a1} : OkR p κ (execBr a1 s) := by
  unfold execBr
  apply State.arith_ok
  assumption
  intro _ _ _
  apply State.branch_ok
  assumption
  intro _ _
  assumption

theorem execBrl_ok (h : Ok p κ s) [MayMem κ] [MayFlips κ] [MayChs κ] {a1} : OkR p κ (execBrl a1 s) := by
  unfold execBrl
  apply State.arith_ok
  assumption
  intro _ _ _
  apply State.branch_ok
  assumption
  intro _ _
  apply State.launchNamed_ok
  assumption

theorem execBrp_ok (h : Ok p κ s) [MayMem κ] [MayFlips κ] [MayChs κ] {a1} : OkR p κ (execBrp a1 s) := by
  unfold execBrp
  apply State.arith_ok
  assumption
  intro _ _ _
  split
  refine ok_ite ?_ ?_
  refine okC_some ?_ ?_
  refine ok_of_pair ?_ (by assumption)
  apply State.testCond_ok
  assumption
  intro _ _
  assumption
  split
  refine ok_ite ?_ ?_
  refine okC_some ?_ ?_
  refine ok_of_pair ?_ (by assumption)
  apply State.readNamed_ok
  refine ok_of_pair ?_ (by assumption)
  apply State.testCond_ok
  assumption
  intro _ _
  apply branchTo_ok
  assumption
  exact okC_none

theorem execBst_ok (h : Ok p κ s) [MayMem κ] [MayFlips κ] [MayChs κ] {a1} : OkR p κ (execBst a1 s) := by
  unfold execBst
  apply State.arith_ok
  assumption
  intro _ _ _
  extract_lets x25
  clear_value x25
  refine ok_ite ?_ ?_
  exact okC_none
  split
  split
  split
  refine okC_some ?_ ?_
  apply State.onCore_ok
  refine ok_of_pair ?_ (by assumption)
  split
  refine okP_mk ?_
  refine ok_of_pair ?_ (by assumption)
  apply State.useAddress_ok
  refine ok_of_pair ?_ (by assumption)
  apply State.readD_ok
  assumption
  apply State.bankWrite_ok
  refine ok_of_pair ?_ (by assumption)
  apply State.useAddress_ok
  refine ok_of_pair ?_ (by assumption)
  apply State.readD_ok
  assumption
  intro _ _
  assumption

theorem execClra_ok (h : Ok p κ s) [MayMem κ] [MayFlips κ] [MayChs κ] {a1} : OkR p κ (execClra a1 s) := by
  unfold execClra
  apply State.compute_ok
  assumption
  intro _ _ _
  refine ok_foldl ?_ ?_
  assumption
  intro _ _ _
  apply State.launch_ok
  assumption

theorem execDand_ok (h : Ok p κ s) [MayMem κ] [MayFlips κ] [MayChs κ] {a1} : OkR p κ (execDand a1 s) := by
  unfold execDand
  apply State.binary_ok
  assumption

theorem execDcmp_ok (h : Ok p κ s) [MayMem κ] [MayFlips κ] [MayChs κ] {a1} : OkR p κ (execDcmp a1 s) := by
  unfold execDcmp
  apply State.compute_ok
  assumption
  intro _ _ _
  split
  split
  apply State.launchFlags_ok
  refine ok_of_pair ?_ (by assumption)
  apply State.readD_ok
  refine ok_of_pair ?_ (by assumption)
  apply State.readD_ok
  assumption

theorem execDmax_ok (h : Ok p κ s) [MayMem κ] [MayFlips κ] [MayChs κ] {a1} : OkR p κ (execDmax a1 s) := by
  unfold execDmax
  apply State.binary_ok
  assumption

theorem execDmin_ok (h : Ok p κ s) [MayMem κ] [MayFlips κ] [MayChs κ] {a1} : OkR p κ (execDmin a1 s) := by
  unfold execDmin
  apply State.binary_ok
  assumption

theorem execDmov_ok (h : Ok p κ s) [MayMem κ] [MayFlips κ] [MayChs κ] {a1} : OkR p κ (execDmov a1 s) := by
  unfold execDmov
  apply State.compute_ok
  assumption
  intro _ _ _
  split
  apply State.launchD_ok
  refine ok_of_pair ?_ (by assumption)
  apply State.readD_ok
  assumption

theorem execDor_ok (h : Ok p κ s) [MayMem κ] [MayFlips κ] [MayChs κ] {a1} : OkR p κ (execDor a1 s) := by
  unfold execDor
  apply State.binary_ok
  assumption

theorem execDtst_ok (h : Ok p κ s) [MayMem κ] [MayFlips κ] [MayChs κ] {a1} : OkR p κ (execDtst a1 s) := by
  unfold execDtst
  apply State.compute_ok
  assumption
  intro _ _ _
  split
  apply State.launchFlags_ok
  refine ok_of_pair ?_ (by assumption)
  apply State.readD_ok
  assumption

theorem execDxor_ok (h : Ok p κ s) [MayMem κ] [MayFlips κ] [MayChs κ] {a1} : OkR p κ (execDxor a1 s) := by
  unfold execDxor
  apply State.binary_ok
  assumption

theorem execExt_ok (h : Ok p κ s) [MayMem κ] [MayFlips κ] [MayChs κ] {a1} : OkR p κ (execExt a1 s) := by
  unfold execExt
  apply State.compute_ok
  assumption
  intro _ _ _
  split
  split
  extract_lets x35 x36
  refine @use_ok p κ x35 _ ?_ ?_
  unfold x35
  apply State.launchD_ok
  refine ok_of_pair ?_ (by assumption)
  apply State.readAcc_ok
  assumption
  intro _
  clear_value x35
  refine @use_ok p κ x36 _ ?_ ?_
  unfold x36
  refine ok_ite ?_ ?_
  apply State.launch_ok
  assumption
  assumption
  intro _
  clear_value x36
  refine ok_ite ?_ ?_
  apply State.launchFlags_ok
  assumption
  assumption

theorem execHalt_ok (h : Ok p κ s) [MayMem κ] [MayFlips κ] [MayTrs κ] [MayChs κ] [MayBly κ] {a1} : OkR p κ (execHalt a1 s) := by
  unfold execHalt
  apply State.arith_ok
  assumption
  intro _ _ _
  refine okC_some ?_ ?_
  assumption
  intro _ _
  apply State.halt_ok
  assumption

theorem execLdi_ok (h : Ok p κ s) [MayMem κ] [MayFlips κ] [MayChs κ] {a1} : OkR p κ (execLdi a1 s) := by
  unfold execLdi
  apply State.compute_ok
  assumption
  intro _ _ _
  apply State.launchD_ok
  assumption

theorem execLoop_ok (h : Ok p κ s) [MayMem κ] [MayFlips κ] [MayChs κ] {a1} : OkR p κ (execLoop a1 s) := by
  unfold execLoop
  apply State.arith_ok
  assumption
  intro _ _ _
  apply State.loop_ok
  assumption

theorem execLoopd_ok (h : Ok p κ s) [MayMem κ] [MayFlips κ] [MayChs κ] {a1} : OkR p κ (execLoopd a1 s) := by
  unfold execLoopd
  apply State.arith_ok
  assumption
  intro _ _ _
  split
  apply State.loop_ok
  refine ok_of_pair ?_ (by assumption)
  apply State.readD_ok
  assumption

theorem execMacd_ok (h : Ok p κ s) [MayMem κ] [MayFlips κ] [MayChs κ] {a1} : OkR p κ (execMacd a1 s) := by
  unfold execMacd
  apply State.compute_ok
  assumption
  intro _ _ _
  extract_lets x25 x26 x27 x28
  clear_value x25
  clear_value x26
  clear_value x27
  subst x28
  refine ok_ite ?_ ?_
  assumption
  refine ok_ite ?_ ?_
  split
  apply State.launchSumFlags_ok
  apply State.launch_ok
  refine ok_of_pair ?_ (by assumption)
  apply State.free_ok
  assumption
  split
  split
  apply State.launchSumFlags_ok
  refine ok_of_pair ?_ (by assumption)
  refine ok_ite ?_ ?_
  refine okP_mk ?_
  refine ok_of_pair ?_ (by assumption)
  refine ok_ite ?_ ?_
  refine okP_mk ?_
  assumption
  split
  apply State.accumulate_ok
  refine ok_of_pair ?_ (by assumption)
  dsimp -zeta only
  refine okP_mk ?_
  refine ok_snd ?_
  apply State.readD_ok
  refine ok_snd ?_
  apply State.readD_ok
  assumption
  split
  apply State.accumulate_ok
  refine ok_of_pair ?_ (by assumption)
  dsimp -zeta only
  refine okP_mk ?_
  refine ok_snd ?_
  apply State.readD_ok
  refine ok_snd ?_
  apply State.readD_ok
  refine ok_of_pair ?_ (by assumption)
  refine ok_ite ?_ ?_
  refine okP_mk ?_
  assumption
  split
  apply State.accumulate_ok
  refine ok_of_pair ?_ (by assumption)
  dsimp -zeta only
  refine okP_mk ?_
  refine ok_snd ?_
  apply State.readD_ok
  refine ok_snd ?_
  apply State.readD_ok
  assumption

theorem execMacq_ok (h : Ok p κ s) [MayMem κ] [MayFlips κ] [MayChs κ] {a1} : OkR p κ (execMacq a1 s) := by
  unfold execMacq
  apply State.compute_ok
  assumption
  intro _ _ _
  extract_lets x25 x26
  clear_value x25
  clear_value x26
  refine ok_ite ?_ ?_
  assumption
  refine ok_ite ?_ ?_
  refine ok_ite ?_ ?_
  split
  apply State.launchSumFlags_ok
  refine ok_of_pair ?_ (by assumption)
  apply State.readSum_ok
  assumption
  assumption
  split
  extract_lets x33
  refine @use_okP p κ _ x33 _ ?_ ?_
  unfold x33
  refine ok_foldlP ?_ ?_
  refine okP_mk ?_
  refine ok_of_pair ?_ (by assumption)
  apply State.readD_ok
  assumption
  intro _ _ _
  split
  split
  refine okP_mk ?_
  refine ok_of_pair ?_ (by assumption)
  apply State.accumulate_ok
  refine ok_of_pair ?_ (by assumption)
  apply State.readD_ok
  refine ok_snd ?_
  assumption
  intro _
  clear_value x33
  apply State.launchSumFlags_ok
  refine ok_snd ?_
  assumption

theorem execMovdr_ok (h : Ok p κ s) [MayMem κ] [MayFlips κ] [MayChs κ] {a1} : OkR p κ (execMovdr a1 s) := by
  unfold execMovdr
  apply State.compute_ok
  assumption
  intro _ _ _
  split
  apply State.launchD_ok
  refine ok_of_pair ?_ (by assumption)
  apply State.readNamed_ok
  assumption

theorem execMovrd_ok (h : Ok p κ s) [MayMem κ] [MayFlips κ] [MayChs κ] {a1} : OkR p κ (execMovrd a1 s) := by
  unfold execMovrd
  apply State.compute_ok
  assumption
  intro _ _ _
  split
  apply State.launchNamed_ok
  refine ok_of_pair ?_ (by assumption)
  apply State.readD_ok
  assumption

theorem execMovri_ok (h : Ok p κ s) [MayMem κ] [MayFlips κ] [MayChs κ] {a1} : OkR p κ (execMovri a1 s) := by
  unfold execMovri
  apply State.compute_ok
  assumption
  intro _ _ _
  apply State.launchNamed_ok
  assumption

theorem execNop_ok (h : Ok p κ s) [MayMem κ] [MayFlips κ] [MayChs κ] {a1} : OkR p κ (execNop a1 s) := by
  unfold execNop
  apply State.compute_ok
  assumption
  intro _ _ _
  assumption

theorem execRti_ok (h : Ok p κ s) [MayMem κ] [MayFlips κ] [MayChs κ] {a1} : OkR p κ (execRti a1 s) := by
  unfold execRti
  apply State.arith_ok
  assumption
  intro _ _ _
  split
  refine okC_some ?_ ?_
  refine ok_of_pair ?_ (by assumption)
  apply State.readNamed_ok
  assumption
  intro _ _
  apply branchTo_ok
  assumption

theorem execStclr_ok (h : Ok p κ s) [MayMem κ] [MayFlips κ] [MayChs κ] {a1} : OkR p κ (execStclr a1 s) := by
  unfold execStclr
  apply State.compute_ok
  assumption
  intro _ _ _
  split
  apply State.launch_ok
  refine ok_of_pair ?_ (by assumption)
  apply State.readST_ok
  assumption

theorem execStset_ok (h : Ok p κ s) [MayMem κ] [MayFlips κ] [MayChs κ] {a1} : OkR p κ (execStset a1 s) := by
  unfold execStset
  apply State.compute_ok
  assumption
  intro _ _ _
  split
  apply State.launch_ok
  refine ok_of_pair ?_ (by assumption)
  apply State.readST_ok
  assumption

/-! ### ChiselMoves -/

theorem State.loadSlot_ok (h : Ok p κ s) [MayChs κ] {a1 a2 a3} {k : Word → State → State} (hk : ∀ w t, Ok p κ t → Ok p κ (k w t)) : OkOP p κ (State.loadSlot s a1 a2 a3 k) := by
  unfold State.loadSlot
  split
  split
  refine okOP_mk ?_
  exact okO_none
  refine okOP_mk ?_
  refine okO_some ?_
  apply hk
  refine ok_of_pair ?_ (by assumption)
  apply State.loadFrom_ok
  refine ok_of_pair ?_ (by assumption)
  apply State.useAddress_ok
  assumption

theorem State.storeSlot_ok (h : Ok p κ s) [MayChs κ] {a1 a2 a3 a4} : OkOP p κ (State.storeSlot s a1 a2 a3 a4) := by
  unfold State.storeSlot
  split
  refine okOP_mk ?_
  apply State.storeTo_ok
  refine ok_of_pair ?_ (by assumption)
  apply State.useAddress_ok
  assumption

theorem execIold_ok (h : Ok p κ s) [MayChs κ] {a1 a2} : OkR p κ (execIold a1 a2 s) := by
  unfold execIold
  apply State.move_ok
  assumption
  intro _ _ _
  split
  refine okOP_mk ?_
  refine okO_some ?_
  apply State.launchD_ok
  refine ok_of_pair ?_ (by assumption)
  apply State.ioRead_ok
  assumption

theorem execIost_ok (h : Ok p κ s) [MayChs κ] {a1 a2} : OkR p κ (execIost a1 a2 s) := by
  unfold execIost
  apply State.move_ok
  assumption
  intro _ _ _
  split
  refine okOP_mk ?_
  apply State.storeTo_ok
  refine ok_of_pair ?_ (by assumption)
  apply State.readD_ok
  assumption

theorem execLd_ok (h : Ok p κ s) [MayChs κ] {a1 a2} : OkR p κ (execLd a1 a2 s) := by
  unfold execLd
  apply State.move_ok
  assumption
  intro _ _ _
  apply State.loadSlot_ok
  assumption
  intro _ _ _
  apply State.launchD_ok
  assumption

theorem execLda_ok (h : Ok p κ s) [MayChs κ] {a1 a2} : OkR p κ (execLda a1 a2 s) := by
  unfold execLda
  apply State.move_ok
  assumption
  intro _ _ _
  apply State.loadSlot_ok
  assumption
  intro _ _ _
  apply State.launchNamed_ok
  assumption

theorem execSt_ok (h : Ok p κ s) [MayChs κ] {a1 a2} : OkR p κ (execSt a1 a2 s) := by
  unfold execSt
  apply State.move_ok
  assumption
  intro _ _ _
  split
  apply State.storeSlot_ok
  refine ok_of_pair ?_ (by assumption)
  apply State.readD_ok
  assumption

theorem execSta_ok (h : Ok p κ s) [MayChs κ] {a1 a2} : OkR p κ (execSta a1 a2 s) := by
  unfold execSta
  apply State.move_ok
  assumption
  intro _ _ _
  split
  apply State.storeSlot_ok
  refine ok_of_pair ?_ (by assumption)
  apply State.readNamed_ok
  assumption

theorem execUpd_ok (h : Ok p κ s) [MayChs κ] {a1 a2} : OkR p κ (execUpd a1 a2 s) := by
  unfold execUpd
  apply State.move_ok
  assumption
  intro _ _ _
  refine okOP_mk ?_
  refine okO_some ?_
  refine ok_snd ?_
  apply State.useAddress_ok
  assumption

/-! ### ChiselPass -/

theorem State.applyPatches_ok (h : Ok p κ s) [MayMem κ] [MayFlips κ] [MayChs κ] {a1 a2 a3} : OkP p κ (State.applyPatches s a1 a2 a3) := by
  unfold State.applyPatches
  extract_lets x24
  clear_value x24
  refine okP_mk ?_
  refine ok_foldl ?_ ?_
  apply State.onChs_ok
  assumption
  intro _ _ _
  apply State.setWord_ok
  assumption

theorem State.noteMoved_ok (h : Ok p κ s) {a1 a2} : Ok p κ (State.noteMoved s a1 a2) := by
  unfold State.noteMoved
  refine ok_ite ?_ ?_
  assumption
  extract_lets x23
  refine @use_ok p κ x23 _ ?_ ?_
  unfold x23
  apply State.wrIdx_ok
  assumption
  intro _
  clear_value x23
  refine ok_ite ?_ ?_
  apply State.evt_ok
  assumption
  assumption

theorem State.performDeferred_ok (h : Ok p κ s) [MayMem κ] [MayFlips κ] [MaySys κ] [MayChs κ] {a1} : Ok p κ (State.performDeferred s a1) := by
  unfold State.performDeferred
  extract_lets x22
  refine @use_ok p κ x22 _ ?_ ?_
  unfold x22
  apply State.onChs_ok
  assumption
  intro _
  clear_value x22
  apply State.noteWrite_ok
  refine ok_snd ?_
  apply State.codedWriteBytes_ok
  assumption

theorem State.performDue_ok (h : Ok p κ s) [MayMem κ] [MayFlips κ] [MaySys κ] [MayChs κ] {a1 a2} : Ok p κ (State.performDue s a1 a2) := by
  unfold State.performDue
  refine ok_foldl ?_ ?_
  assumption
  intro _ _ _
  apply State.performDeferred_ok
  assumption

theorem State.beginPass_ok (h : Ok p κ s) [MayMem κ] [MayFlips κ] [MaySys κ] [MayChs κ] {a1 a2 a3 a4 a5 a6} : Ok p κ (State.beginPass s a1 a2 a3 a4 a5 a6) := by
  unfold State.beginPass
  extract_lets x27 x28
  refine @use_ok p κ x27 _ ?_ ?_
  unfold x27
  apply State.noteMoved_ok
  apply State.performDue_ok
  assumption
  intro _
  clear_value x27
  clear_value x28
  split
  extract_lets x36 x37
  refine @use_ok p κ x36 _ ?_ ?_
  unfold x36
  apply State.onChs_ok
  refine ok_of_pair ?_ (by assumption)
  apply State.applyPatches_ok
  assumption
  intro _
  clear_value x36
  refine @use_ok p κ x37 _ ?_ ?_
  unfold x37
  apply State.onCore_ok
  assumption
  intro _
  clear_value x37
  split
  extract_lets x44
  refine @use_ok p κ x44 _ ?_ ?_
  unfold x44
  apply State.onCore_ok
  refine ok_of_pair ?_ (by assumption)
  apply State.takeInj_ok
  assumption
  intro _
  clear_value x44
  apply State.unitDone_ok
  assumption

theorem State.deselect_ok (h : Ok p κ s) [MayChs κ] {a1} : Ok p κ (State.deselect s a1) := by
  unfold State.deselect
  apply State.onChs_ok
  assumption

theorem State.clearResetBit_ok (h : Ok p κ s) [MayChs κ] {a1} : Ok p κ (State.clearResetBit s a1) := by
  unfold State.clearResetBit
  extract_lets x22 x23 x24
  clear_value x22
  refine @use_ok p κ x23 _ ?_ ?_
  unfold x23
  apply State.wrN_ok
  assumption
  intro _
  clear_value x23
  refine @use_ok p κ x24 _ ?_ ?_
  unfold x24
  refine ok_getD_map ?_ ?_
  assumption
  intro _
  apply State.deselect_ok
  assumption
  intro _
  clear_value x24
  refine ok_ite ?_ ?_
  assumption
  apply State.onCore_ok
  assumption

theorem State.copyLost_ok (h : Ok p κ s) [MayMem κ] [MayFlips κ] {a1 a2} : Ok p κ (State.copyLost s a1 a2) := by
  unfold State.copyLost
  apply State.evt_ok
  apply State.bump_ok
  apply State.setWord_ok
  assumption

theorem State.copyChecked_ok (h : Ok p κ s) [MayMem κ] [MayFlips κ] [MayBnk κ] {a1 a2} : Ok p κ (State.copyChecked s a1 a2) := by
  unfold State.copyChecked
  split
  apply State.setWord_ok
  refine ok_of_pair ?_ (by assumption)
  apply State.checkedRead_ok
  assumption
  apply State.copyLost_ok
  apply State.errResp_ok
  refine ok_of_pair ?_ (by assumption)
  apply State.checkedRead_ok
  assumption

theorem State.copyMem_ok (h : Ok p κ s) [MayMem κ] [MayFlips κ] {a1 a2 a3} : Ok p κ (State.copyMem s a1 a2 a3) := by
  have hc : Ok p κ (s.clearMem a2 (a2 + a3)) := State.clearMem_ok h
  unfold State.copyMem
  exact ok_mem hc (foldl_mset_wf hc.inv.1)

theorem State.holdCore_ok (h : Ok p κ s) [MayChs κ] {a1} : Ok p κ (State.holdCore s a1) := by
  unfold State.holdCore
  extract_lets x22 x23
  clear_value x22
  refine @use_ok p κ x23 _ ?_ ?_
  unfold x23
  apply State.onCore_ok
  assumption
  intro _
  clear_value x23
  split
  apply State.deselect_ok
  assumption
  assumption

theorem State.keepPasses_ok (h : Ok p κ s) [MayChs κ] : Ok p κ (State.keepPasses s) := by
  unfold State.keepPasses
  extract_lets x21
  clear_value x21
  refine ok_foldl ?_ ?_
  assumption
  intro _ _ _
  refine ok_ite ?_ ?_
  split
  assumption
  split
  apply State.onChs_ok
  assumption
  assumption
  assumption

theorem State.loadMemories_ok (h : Ok p κ s) [MayMem κ] [MayFlips κ] {a1 a2} : Ok p κ (State.loadMemories s a1 a2) := by
  unfold State.loadMemories
  extract_lets x23 x24 x25
  clear_value x23
  clear_value x24
  refine @use_ok p κ x25 _ ?_ ?_
  unfold x25
  apply State.copyMem_ok
  assumption
  intro _
  clear_value x25
  refine ok_foldl ?_ ?_
  assumption
  intro _ _ _
  apply State.evt_ok
  apply State.bump_ok
  apply State.setWord_ok
  assumption

theorem State.peerRegs_ok (h : Ok p κ s) : OkP p κ (State.peerRegs s) := by
  unfold State.peerRegs
  split
  split
  split
  refine okP_mk ?_
  refine ok_of_pair ?_ (by assumption)
  refine ok_foldlP ?_ ?_
  refine okP_mk ?_
  refine ok_of_pair ?_ (by assumption)
  refine ok_foldlP ?_ ?_
  refine okP_mk ?_
  refine ok_of_pair ?_ (by assumption)
  refine ok_foldlP ?_ ?_
  refine okP_mk ?_
  assumption
  intro _ _ _
  split
  refine okP_mk ?_
  refine ok_of_pair ?_ (by assumption)
  apply State.free_ok
  refine ok_snd ?_
  assumption
  intro _ _ _
  split
  refine okP_mk ?_
  refine ok_of_pair ?_ (by assumption)
  apply State.free_ok
  refine ok_snd ?_
  assumption
  intro _ _ _
  split
  refine okP_mk ?_
  refine ok_of_pair ?_ (by assumption)
  apply State.free_ok
  refine ok_snd ?_
  assumption

theorem State.peerIndex_ok (h : Ok p κ s) {a1} : OkP p κ (State.peerIndex s a1) := by
  unfold State.peerIndex
  split
  refine okP_mk ?_
  refine ok_of_pair ?_ (by assumption)
  apply State.free_ok
  assumption

theorem State.startPass_ok (h : Ok p κ s) [MayMem κ] [MayFlips κ] [MaySys κ] [MayChs κ] {a1} : Ok p κ (State.startPass s a1) := by
  unfold State.startPass
  split
  extract_lets x32
  clear_value x32
  refine ok_ite ?_ ?_
  assumption
  split
  assumption
  split
  apply State.beginPass_ok
  assumption
  assumption
  assumption

theorem State.migrated_ok (h : Ok p κ s) [MayMem κ] [MayFlips κ] [MaySys κ] [MayChs κ] {a1} : Ok p κ (State.migrated s a1) := by
  unfold State.migrated
  split
  assumption
  extract_lets x27 x28
  clear_value x27
  refine @use_ok p κ x28 _ ?_ ?_
  unfold x28
  refine ok_ite ?_ ?_
  assumption
  apply State.loadMemories_ok
  assumption
  intro _
  clear_value x28
  split
  split
  split
  extract_lets x42 x43 x44 x45 x46 x47
  refine @use_ok p κ x42 _ ?_ ?_
  unfold x42
  apply State.onCore_ok
  refine ok_of_pair ?_ (by assumption)
  refine ok_ite ?_ ?_
  apply State.free_ok
  refine ok_of_pair ?_ (by assumption)
  refine ok_ite ?_ ?_
  apply State.free_ok
  refine ok_of_pair ?_ (by assumption)
  refine ok_ite ?_ ?_
  apply State.peerRegs_ok
  assumption
  refine okP_mk ?_
  assumption
  refine okP_mk ?_
  refine ok_of_pair ?_ (by assumption)
  refine ok_ite ?_ ?_
  apply State.peerRegs_ok
  assumption
  refine okP_mk ?_
  assumption
  refine okP_mk ?_
  refine ok_of_pair ?_ (by assumption)
  refine ok_ite ?_ ?_
  apply State.free_ok
  refine ok_of_pair ?_ (by assumption)
  refine ok_ite ?_ ?_
  apply State.peerRegs_ok
  assumption
  refine okP_mk ?_
  assumption
  refine okP_mk ?_
  refine ok_of_pair ?_ (by assumption)
  refine ok_ite ?_ ?_
  apply State.peerRegs_ok
  assumption
  refine okP_mk ?_
  assumption
  intro _
  clear_value x42
  refine @use_ok p κ x43 _ ?_ ?_
  unfold x43
  apply State.onChs_ok
  assumption
  intro _
  clear_value x43
  refine @use_ok p κ x44 _ ?_ ?_
  unfold x44
  apply State.setLmap_ok
  assumption
  intro _
  clear_value x44
  refine @use_ok p κ x45 _ ?_ ?_
  unfold x45
  apply State.wrN_ok
  assumption
  intro _
  clear_value x45
  refine @use_ok p κ x46 _ ?_ ?_
  unfold x46
  refine ok_ite ?_ ?_
  apply State.sprLog_ok
  apply State.setFld_ok
  apply State.setFld_ok
  assumption
  assumption
  intro _
  clear_value x46
  refine @use_ok p κ x47 _ ?_ ?_
  unfold x47
  split
  split
  apply State.onChs_ok
  refine ok_of_pair ?_ (by assumption)
  apply State.peerIndex_ok
  assumption
  assumption
  intro _
  clear_value x47
  apply State.startPass_ok
  apply State.fusePend_ok
  apply State.evt_ok
  assumption

theorem State.resetCopy_ok (h : Ok p κ s) [MayMem κ] [MayFlips κ] [MayBnk κ] {a1} : Ok p κ (State.resetCopy s a1) := by
  unfold State.resetCopy
  refine ok_ite ?_ ?_
  refine ok_foldl ?_ ?_
  assumption
  intro _ _ _
  apply State.copyLost_ok
  apply State.errResp_ok
  assumption
  extract_lets x22
  clear_value x22
  refine ok_foldl ?_ ?_
  apply State.copyMem_ok
  assumption
  intro _ _ _
  apply State.copyChecked_ok
  assumption

theorem State.setResetBit_ok (h : Ok p κ s) [MayChs κ] {a1} : Ok p κ (State.setResetBit s a1) := by
  unfold State.setResetBit
  apply State.wrN_ok
  apply State.holdCore_ok
  assumption

theorem State.writeChsDoorbell_ok (h : Ok p κ s) [MayChs κ] {a1 a2} : Ok p κ (State.writeChsDoorbell s a1 a2) := by
  unfold State.writeChsDoorbell
  refine ok_ite ?_ ?_
  assumption
  extract_lets x23
  clear_value x23
  apply State.onCore_ok
  assumption

theorem State.writeChsReset_ok (h : Ok p κ s) [MayChs κ] {a1 a2} : Ok p κ (State.writeChsReset s a1 a2) := by
  unfold State.writeChsReset
  extract_lets x23 x24 x25 x26
  clear_value x23
  clear_value x24
  clear_value x25
  refine @use_ok p κ x26 _ ?_ ?_
  unfold x26
  refine ok_foldl ?_ ?_
  assumption
  intro _ _ _
  apply State.setResetBit_ok
  assumption
  intro _
  clear_value x26
  refine ok_ite ?_ ?_
  assumption
  refine ok_ite ?_ ?_
  apply State.refusedField_ok
  assumption
  refine ok_foldl ?_ ?_
  assumption
  intro _ _ _
  apply State.clearResetBit_ok
  assumption

theorem execPassSkip_ok (h : Ok p κ s) [MayChs κ] {a1} : OkR p κ (execPassSkip a1 s) := by
  unfold execPassSkip
  split
  refine ok_ite ?_ ?_
  refine okR_next ?_
  apply State.onChs_ok
  assumption
  extract_lets x28
  clear_value x28
  refine okR_next ?_
  refine ok_ite ?_ ?_
  apply State.evt_ok
  apply State.bump_ok
  apply State.onChs_ok
  assumption
  assumption
  refine okR_next ?_
  assumption

theorem execResetCopyDone_ok (h : Ok p κ s) [MayMem κ] [MayFlips κ] [MayChs κ] [MayBnk κ] {a1} : OkR p κ (execResetCopyDone a1 s) := by
  unfold execResetCopyDone
  refine okR_next ?_
  refine ok_ite ?_ ?_
  assumption
  apply State.onCore_ok
  apply State.resetCopy_ok
  assumption

end Sys2Proof.Machine
end

