-- ==== Sys2Proof/Laws/KeepPorts.lean ====
section
/-! SUPPORT. What the operations of the ports, Plumb, the banks and the fuses keep: the queue and the invariant of every step. -/

set_option Elab.async false

namespace Sys2Proof.Machine

open Sys2Proof

variable {p : List Instr} {κ : Kept} {s t : State}

/-! ### Ports -/

theorem State.onPrt_ok (h : Ok p κ s) [MayPrt κ] {a1} : Ok p κ (State.onPrt s a1) := by
  unfold State.onPrt
  refine ok_mk ?_
  assumption

theorem State.checkPortsDone_ok (h : Ok p κ s) [MayPrt κ] : Ok p κ (State.checkPortsDone s) := by
  unfold State.checkPortsDone
  extract_lets x21 x22 x23
  clear_value x21
  refine @use_ok p κ x23 _ ?_ ?_
  unfold x23
  apply State.onPrt_ok
  assumption
  intro _
  clear_value x23
  refine ok_ite ?_ ?_
  apply State.unitDone_ok
  assumption
  assumption

theorem State.onSide_ok (h : Ok p κ s) [MayPrt κ] {a1 a2} : Ok p κ (State.onSide s a1 a2) := by
  unfold State.onSide
  apply State.onPrt_ok
  assumption

theorem State.showPins_ok (h : Ok p κ s) {s2 a1} : Ok p κ (State.showPins s s2 a1) := by
  unfold State.showPins
  refine ok_foldl ?_ ?_
  assumption
  intro _ _ _
  refine ok_ite ?_ ?_
  assumption
  apply State.emit_ok
  assumption

theorem State.setSide_ok (h : Ok p κ s) [MayPrt κ] {a1 a2} : Ok p κ (State.setSide s a1 a2) := by
  unfold State.setSide
  extract_lets x23 x24 x25 x26 x27 x28 x29 x30
  refine @use_ok p κ x23 _ ?_ ?_
  unfold x23
  assumption
  intro _
  clear_value x23
  clear_value x24
  refine @use_ok p κ x25 _ ?_ ?_
  unfold x25
  apply State.onSide_ok
  apply State.setFld_ok
  assumption
  intro _
  clear_value x25
  clear_value x26
  clear_value x27
  refine @use_ok p κ x28 _ ?_ ?_
  unfold x28
  refine ok_ite ?_ ?_
  apply State.onPrt_ok
  assumption
  assumption
  intro _
  clear_value x28
  refine @use_ok p κ x29 _ ?_ ?_
  unfold x29
  refine ok_ite ?_ ?_
  apply State.showPins_ok
  assumption
  assumption
  intro _
  clear_value x29
  refine @use_ok p κ x30 _ ?_ ?_
  unfold x30
  refine ok_ite ?_ ?_
  assumption
  apply State.emit_ok
  assumption
  intro _
  clear_value x30
  apply State.checkPortsDone_ok
  assumption

theorem State.clkLoss_ok (h : Ok p κ s) [MayPrt κ] {a1} : Ok p κ (State.clkLoss s a1) := by
  unfold State.clkLoss
  extract_lets x22
  clear_value x22
  refine ok_ite ?_ ?_
  apply State.evt_ok
  apply State.bump_ok
  apply State.setSide_ok
  assumption
  assumption

theorem State.portCode_ok (h : Ok p κ s) {a1 a2 a3} : OkP p κ (State.portCode s a1 a2 a3) := by
  unfold State.portCode
  split
  extract_lets x30
  refine @use_ok p κ x30 _ ?_ ?_
  unfold x30
  refine ok_ite ?_ ?_
  apply State.evt_ok
  apply State.bump_ok
  assumption
  assumption
  intro _
  clear_value x30
  refine okP_mk ?_
  assumption

theorem State.decimateSlot_ok (h : Ok p κ s) {a1 a2} : OkP p κ (State.decimateSlot s a1 a2) := by
  unfold State.decimateSlot
  split
  apply State.portCode_ok
  refine ok_of_pair ?_ (by assumption)
  apply State.free_ok
  assumption

theorem State.decimated_ok (h : Ok p κ s) {a1} : OkP p κ (State.decimated s a1) := by
  unfold State.decimated
  refine ok_foldlP ?_ ?_
  refine okP_mk ?_
  assumption
  intro _ _ _
  split
  refine okP_mk ?_
  refine ok_of_pair ?_ (by assumption)
  apply State.decimateSlot_ok
  refine ok_snd ?_
  assumption

theorem State.deliverFrame_ok (h : Ok p κ s) [MayMem κ] [MayFlips κ] [MayTrs κ] [MayBly κ] {a1 a2} : Ok p κ (State.deliverFrame s a1 a2) := by
  unfold State.deliverFrame
  extract_lets x23
  clear_value x23
  refine ok_foldl ?_ ?_
  assumption
  intro _ _ _
  refine ok_ite ?_ ?_
  apply State.deliver_ok
  assumption
  assumption

theorem State.deliverHeld_ok (h : Ok p κ s) [MayMem κ] [MayFlips κ] [MayTrs κ] [MayPrt κ] [MayBly κ] : Ok p κ (State.deliverHeld s) := by
  unfold State.deliverHeld
  extract_lets x21
  clear_value x21
  refine ok_foldl ?_ ?_
  apply State.onPrt_ok
  assumption
  intro _ _ _
  apply State.deliver_ok
  assumption

theorem State.emitSlot_ok (h : Ok p κ s) {a1 a2 a3} : Ok p κ (State.emitSlot s a1 a2 a3) := by
  unfold State.emitSlot
  extract_lets x24
  clear_value x24
  apply State.emit_ok
  assumption

theorem State.firePorts_ok (h : Ok p κ s) [MayPrt κ] {a1} : Ok p κ (State.firePorts s a1) := by
  unfold State.firePorts
  refine ok_foldl ?_ ?_
  assumption
  intro _ _ _
  refine ok_ite ?_ ?_
  apply State.setSide_ok
  assumption
  assumption

theorem State.frameError_ok (h : Ok p κ s) [MayPrt κ] {a1} : Ok p κ (State.frameError s a1) := by
  unfold State.frameError
  extract_lets x22 x23
  clear_value x22
  refine @use_ok p κ x23 _ ?_ ?_
  unfold x23
  apply State.onSide_ok
  assumption
  intro _
  clear_value x23
  refine ok_ite ?_ ?_
  apply State.evt_ok
  apply State.bump_ok
  assumption
  assumption

theorem State.frameStart_ok (h : Ok p κ s) [MayPrt κ] {a1} : Ok p κ (State.frameStart s a1) := by
  unfold State.frameStart
  extract_lets x22 x23
  clear_value x22
  refine @use_ok p κ x23 _ ?_ ?_
  unfold x23
  apply State.onSide_ok
  assumption
  intro _
  clear_value x23
  refine ok_ite ?_ ?_
  apply State.setSide_ok
  assumption
  assumption

theorem State.grpWritten_ok (h : Ok p κ s) [MayPrt κ] {s2 a1} : Ok p κ (State.grpWritten s s2 a1) := by
  unfold State.grpWritten
  extract_lets x23 x24
  clear_value x23
  refine @use_ok p κ x24 _ ?_ ?_
  unfold x24
  refine ok_ite ?_ ?_
  assumption
  apply State.onPrt_ok
  apply State.wr_ok
  assumption
  intro _
  clear_value x24
  refine ok_ite ?_ ?_
  assumption
  apply State.emit_ok
  assumption

theorem State.idleSlot_ok (h : Ok p κ s) {a1 a2} : Ok p κ (State.idleSlot s a1 a2) := by
  unfold State.idleSlot
  refine ok_ite ?_ ?_
  apply State.emitSlot_ok
  assumption
  assumption

theorem State.interpolate_ok (h : Ok p κ s) [MayMem κ] [MayFlips κ] [MayTrs κ] [MayBly κ] {a1} : Ok p κ (State.interpolate s a1) := by
  unfold State.interpolate
  refine ok_foldl ?_ ?_
  assumption
  intro _ _ _
  split
  apply State.deliver_ok
  refine ok_of_pair ?_ (by assumption)
  apply State.free_ok
  assumption

theorem State.sendSlot_ok (h : Ok p κ s) [MayPrt κ] {a1 a2 a3} : Ok p κ (State.sendSlot s a1 a2 a3) := by
  unfold State.sendSlot
  extract_lets x24
  clear_value x24
  refine ok_ite ?_ ?_
  assumption
  refine ok_ite ?_ ?_
  apply State.emitSlot_ok
  assumption
  apply State.emitSlot_ok
  apply State.onPrt_ok
  assumption

theorem State.outSlot_ok (h : Ok p κ s) [MayPrt κ] {a1 a2 a3} : Ok p κ (State.outSlot s a1 a2 a3) := by
  unfold State.outSlot
  refine ok_ite ?_ ?_
  apply State.sendSlot_ok
  assumption
  apply State.idleSlot_ok
  assumption

theorem State.showFill_ok (h : Ok p κ s) {a1} : Ok p κ (State.showFill s a1) := by
  unfold State.showFill
  refine ok_ite ?_ ?_
  apply State.setFld_ok
  assumption
  apply State.setFld_ok
  assumption

theorem State.slip_ok (h : Ok p κ s) {a1} : Ok p κ (State.slip s a1) := by
  unfold State.slip
  apply State.evt_ok
  apply State.bump_ok
  assumption

theorem State.popFrame_ok (h : Ok p κ s) [MayPrt κ] {a1} : OkP p κ (State.popFrame s a1) := by
  unfold State.popFrame
  extract_lets x22 x23
  refine @use_ok p κ x22 _ ?_ ?_
  unfold x22
  apply State.showFill_ok
  assumption
  intro _
  clear_value x22
  clear_value x23
  refine ok_ite ?_ ?_
  refine okP_mk ?_
  apply State.slip_ok
  apply State.onSide_ok
  assumption
  refine ok_ite ?_ ?_
  refine okP_mk ?_
  assumption
  split
  refine okP_mk ?_
  apply State.slip_ok
  apply State.onSide_ok
  assumption
  refine okP_mk ?_
  apply State.onSide_ok
  assumption

theorem State.portSample_ok (h : Ok p κ s) [MayMem κ] [MayFlips κ] [MayTrs κ] [MayPrt κ] [MayBly κ] {a1 a2} : Ok p κ (State.portSample s a1 a2) := by
  unfold State.portSample
  split
  assumption
  refine ok_ite ?_ ?_
  refine ok_ite ?_ ?_
  apply State.count_ok
  assumption
  apply State.onPrt_ok
  assumption
  refine ok_ite ?_ ?_
  apply State.count_ok
  assumption
  apply State.deliver_ok
  assumption

theorem State.pushFrame_ok (h : Ok p κ s) [MayPrt κ] {a1 a2} : Ok p κ (State.pushFrame s a1 a2) := by
  unfold State.pushFrame
  extract_lets x23
  clear_value x23
  refine ok_ite ?_ ?_
  apply State.onSide_ok
  assumption
  apply State.slip_ok
  apply State.onSide_ok
  assumption

theorem State.portTake_ok (h : Ok p κ s) [MayMem κ] [MayFlips κ] [MayPrt κ] {a1 a2} : Ok p κ (State.portTake s a1 a2) := by
  unfold State.portTake
  extract_lets x23 x24 x25
  clear_value x23
  clear_value x24
  clear_value x25
  refine ok_ite ?_ ?_
  assumption
  split
  refine ok_ite ?_ ?_
  refine ok_of_pair ?_ (by assumption)
  apply State.takeSink_ok
  assumption
  refine ok_ite ?_ ?_
  split
  extract_lets x36
  clear_value x36
  refine ok_ite ?_ ?_
  apply State.pushFrame_ok
  apply State.onSide_ok
  refine ok_of_pair ?_ (by assumption)
  apply State.portCode_ok
  refine ok_of_pair ?_ (by assumption)
  apply State.takeSink_ok
  assumption
  apply State.onSide_ok
  refine ok_of_pair ?_ (by assumption)
  apply State.portCode_ok
  refine ok_of_pair ?_ (by assumption)
  apply State.takeSink_ok
  assumption
  extract_lets x30
  refine @use_ok p κ x30 _ ?_ ?_
  unfold x30
  apply State.onSide_ok
  refine ok_of_pair ?_ (by assumption)
  apply State.takeSink_ok
  assumption
  intro _
  clear_value x30
  refine ok_ite ?_ ?_
  split
  apply State.pushFrame_ok
  refine ok_of_pair ?_ (by assumption)
  apply State.decimated_ok
  assumption
  assumption

theorem State.steer_ok (h : Ok p κ s) [MayPrt κ] {a1} : Ok p κ (State.steer s a1) := by
  unfold State.steer
  extract_lets x22 x23 x24 x25 x26 x27 x28 x29 x30
  clear_value x22
  clear_value x23
  clear_value x24
  clear_value x25
  clear_value x26
  clear_value x27
  clear_value x28
  refine @use_ok p κ x29 _ ?_ ?_
  unfold x29
  apply State.onPrt_ok
  assumption
  intro _
  clear_value x29
  refine @use_ok p κ x30 _ ?_ ?_
  unfold x30
  apply State.setFld_ok
  apply State.setFld_ok
  assumption
  intro _
  clear_value x30
  refine ok_ite ?_ ?_
  refine ok_ite ?_ ?_
  assumption
  apply State.setFld_ok
  assumption
  assumption

theorem State.releaseFrame_ok (h : Ok p κ s) [MayPrt κ] {a1} : OkP p κ (State.releaseFrame s a1) := by
  unfold State.releaseFrame
  split
  refine okP_mk ?_
  apply State.onSide_ok
  refine ok_of_pair ?_ (by assumption)
  apply State.popFrame_ok
  apply State.steer_ok
  assumption

theorem State.rxTick_ok (h : Ok p κ s) [MayMem κ] [MayFlips κ] [MayTrs κ] [MayPrt κ] [MayBly κ] {a1} : Ok p κ (State.rxTick s a1) := by
  unfold State.rxTick
  refine ok_ite ?_ ?_
  assumption
  extract_lets x22 x23
  clear_value x22
  clear_value x23
  split
  refine ok_ite ?_ ?_
  split
  apply State.deliverFrame_ok
  refine ok_of_pair ?_ (by assumption)
  refine ok_ite ?_ ?_
  apply State.releaseFrame_ok
  assumption
  refine okP_mk ?_
  assumption
  refine ok_of_pair ?_ (by assumption)
  refine ok_ite ?_ ?_
  apply State.releaseFrame_ok
  assumption
  refine okP_mk ?_
  assumption
  extract_lets x28
  refine @use_ok p κ x28 _ ?_ ?_
  unfold x28
  refine ok_ite ?_ ?_
  apply State.interpolate_ok
  refine ok_of_pair ?_ (by assumption)
  refine ok_ite ?_ ?_
  apply State.releaseFrame_ok
  assumption
  refine okP_mk ?_
  assumption
  refine ok_of_pair ?_ (by assumption)
  refine ok_ite ?_ ?_
  apply State.releaseFrame_ok
  assumption
  refine okP_mk ?_
  assumption
  intro _
  clear_value x28
  refine ok_ite ?_ ?_
  apply State.onSide_ok
  assumption
  assumption

theorem State.startSide_ok (h : Ok p κ s) [MayPrt κ] {a1} : Ok p κ (State.startSide s a1) := by
  unfold State.startSide
  extract_lets x22
  clear_value x22
  refine ok_ite ?_ ?_
  refine ok_ite ?_ ?_
  apply State.setSide_ok
  assumption
  refine ok_ite ?_ ?_
  apply State.checkPortsDone_ok
  apply State.onSide_ok
  assumption
  apply State.setSide_ok
  assumption
  refine ok_ite ?_ ?_
  apply State.setSide_ok
  assumption
  apply State.checkPortsDone_ok
  apply State.onSide_ok
  assumption

theorem State.stopSide_ok (h : Ok p κ s) [MayPrt κ] {a1} : Ok p κ (State.stopSide s a1) := by
  unfold State.stopSide
  extract_lets x22
  clear_value x22
  refine ok_ite ?_ ?_
  apply State.setSide_ok
  assumption
  refine ok_ite ?_ ?_
  apply State.setSide_ok
  assumption
  refine ok_ite ?_ ?_
  apply State.onSide_ok
  assumption
  apply State.checkPortsDone_ok
  apply State.onSide_ok
  assumption

theorem State.sideEnabled_ok (h : Ok p κ s) [MayPrt κ] {a1 a2} : Ok p κ (State.sideEnabled s a1 a2) := by
  unfold State.sideEnabled
  refine ok_ite ?_ ?_
  refine ok_ite ?_ ?_
  assumption
  apply State.onSide_ok
  assumption
  refine ok_ite ?_ ?_
  apply State.startSide_ok
  assumption
  apply State.stopSide_ok
  assumption

theorem State.slotComes_ok (h : Ok p κ s) [MayPrt κ] {a1 a2} : Ok p κ (State.slotComes s a1 a2) := by
  unfold State.slotComes
  extract_lets x23
  refine @use_ok p κ x23 _ ?_ ?_
  unfold x23
  refine ok_ite ?_ ?_
  apply State.frameStart_ok
  assumption
  assumption
  intro _
  clear_value x23
  apply State.onSide_ok
  assumption

theorem State.slotComplete_ok (h : Ok p κ s) [MayMem κ] [MayFlips κ] [MayTrs κ] [MayPrt κ] [MayBly κ] {a1 a2 a3} : Ok p κ (State.slotComplete s a1 a2 a3) := by
  unfold State.slotComplete
  extract_lets x24 x25 x26 x27
  clear_value x24
  refine @use_ok p κ x25 _ ?_ ?_
  unfold x25
  apply State.slotComes_ok
  assumption
  intro _
  clear_value x25
  clear_value x26
  refine @use_ok p κ x27 _ ?_ ?_
  unfold x27
  apply State.onSide_ok
  assumption
  intro _
  clear_value x27
  refine ok_ite ?_ ?_
  assumption
  refine ok_ite ?_ ?_
  apply State.portSample_ok
  assumption
  refine ok_ite ?_ ?_
  refine ok_ite ?_ ?_
  apply State.pushFrame_ok
  assumption
  apply State.onSide_ok
  assumption
  apply State.onSide_ok
  assumption

theorem State.startTick_ok (h : Ok p κ s) [MayPrt κ] : Ok p κ (State.startTick s) := by
  unfold State.startTick
  refine ok_foldl ?_ ?_
  assumption
  intro _ _ _
  apply State.setSide_ok
  assumption

theorem State.tdmTake_ok (h : Ok p κ s) [MayMem κ] [MayFlips κ] [MayPrt κ] {a1 a2} : Ok p κ (State.tdmTake s a1 a2) := by
  unfold State.tdmTake
  extract_lets x23 x24 x25 x26 x27 x28
  clear_value x23
  refine @use_ok p κ x24 _ ?_ ?_
  unfold x24
  apply State.slotComes_ok
  assumption
  intro _
  clear_value x24
  clear_value x25
  clear_value x26
  clear_value x27
  clear_value x28
  refine ok_ite ?_ ?_
  assumption
  refine ok_ite ?_ ?_
  apply State.outSlot_ok
  assumption
  refine ok_ite ?_ ?_
  assumption
  refine ok_ite ?_ ?_
  split
  apply State.outSlot_ok
  refine ok_of_pair ?_ (by assumption)
  refine ok_ite ?_ ?_
  apply State.decimateSlot_ok
  assumption
  refine okP_mk ?_
  assumption
  split
  split
  apply State.outSlot_ok
  refine ok_of_pair ?_ (by assumption)
  refine ok_ite ?_ ?_
  apply State.portCode_ok
  refine ok_of_pair ?_ (by assumption)
  apply State.takeSink_ok
  assumption
  refine okP_mk ?_
  refine ok_of_pair ?_ (by assumption)
  apply State.takeSink_ok
  assumption

theorem State.writeEnable_ok (h : Ok p κ s) [MayPrt κ] {a1 a2} : Ok p κ (State.writeEnable s a1 a2) := by
  unfold State.writeEnable
  refine ok_ite ?_ ?_
  assumption
  extract_lets x23
  refine @use_ok p κ x23 _ ?_ ?_
  unfold x23
  apply State.sideEnabled_ok
  apply State.setFld_ok
  assumption
  intro _
  clear_value x23
  refine ok_ite ?_ ?_
  apply State.showPins_ok
  assumption
  assumption

theorem execClkLoss_ok (h : Ok p κ s) [MayPrt κ] {a1} : OkR p κ (execClkLoss a1 s) := by
  unfold execClkLoss
  refine okR_next ?_
  apply State.clkLoss_ok
  assumption

theorem execClockReturn_ok (h : Ok p κ s) [MayPrt κ] {a1} : OkR p κ (execClockReturn a1 s) := by
  unfold execClockReturn
  refine okR_next ?_
  refine ok_ite ?_ ?_
  apply State.setSide_ok
  assumption
  assumption

theorem execExternalFrameStart_ok (h : Ok p κ s) [MayPrt κ] {a1 a2} : OkR p κ (execExternalFrameStart a1 a2 s) := by
  unfold execExternalFrameStart
  extract_lets x23 x24 x25
  clear_value x23
  clear_value x24
  refine @use_ok p κ x25 _ ?_ ?_
  unfold x25
  apply State.frameStart_ok
  refine ok_ite ?_ ?_
  apply State.frameError_ok
  assumption
  assumption
  intro _
  clear_value x25
  refine okR_next ?_
  refine ok_ite ?_ ?_
  split
  refine ok_foldl ?_ ?_
  refine ok_of_pair ?_ (by assumption)
  refine ok_ite ?_ ?_
  refine okP_mk ?_
  assumption
  apply State.popFrame_ok
  apply State.steer_ok
  assumption
  intro _ _ _
  apply State.outSlot_ok
  assumption
  assumption

theorem execSlotComplete_ok (h : Ok p κ s) [MayMem κ] [MayFlips κ] [MayTrs κ] [MayPrt κ] [MayBly κ] {a1 a2 a3 a4 a5} : OkR p κ (execSlotComplete a1 a2 a3 a4 a5 s) := by
  unfold execSlotComplete
  extract_lets x26
  clear_value x26
  refine okR_next ?_
  refine ok_ite ?_ ?_
  assumption
  refine ok_ite ?_ ?_
  apply State.frameError_ok
  assumption
  apply State.slotComplete_ok
  assumption

theorem execStarted_ok (h : Ok p κ s) [MayPrt κ] {a1} : OkR p κ (execStarted a1 s) := by
  unfold execStarted
  refine okR_next ?_
  refine ok_ite ?_ ?_
  extract_lets x22
  refine @use_ok p κ x22 _ ?_ ?_
  unfold x22
  apply State.setSide_ok
  assumption
  intro _
  clear_value x22
  refine ok_ite ?_ ?_
  apply State.evt_ok
  assumption
  assumption
  assumption

theorem execStopped_ok (h : Ok p κ s) [MayPrt κ] {a1} : OkR p κ (execStopped a1 s) := by
  unfold execStopped
  refine okR_next ?_
  refine ok_ite ?_ ?_
  extract_lets x22 x23 x24 x25
  clear_value x22
  refine @use_ok p κ x23 _ ?_ ?_
  unfold x23
  apply State.onSide_ok
  assumption
  intro _
  clear_value x23
  refine @use_ok p κ x24 _ ?_ ?_
  unfold x24
  apply State.setSide_ok
  assumption
  intro _
  clear_value x24
  refine @use_ok p κ x25 _ ?_ ?_
  unfold x25
  refine ok_ite ?_ ?_
  apply State.evt_ok
  assumption
  assumption
  intro _
  clear_value x25
  refine ok_ite ?_ ?_
  apply State.startSide_ok
  assumption
  assumption
  assumption

theorem execTdmSlotTake_ok (h : Ok p κ s) [MayMem κ] [MayFlips κ] [MayPrt κ] {a1 a2 a3} : OkR p κ (execTdmSlotTake a1 a2 a3 s) := by
  unfold execTdmSlotTake
  extract_lets x24
  clear_value x24
  refine okR_next ?_
  refine ok_ite ?_ ?_
  assumption
  apply State.tdmTake_ok
  refine ok_ite ?_ ?_
  apply State.frameError_ok
  assumption
  assumption

theorem execTrimLimit_ok (h : Ok p κ s) {a1} : OkR p κ (execTrimLimit a1 s) := by
  unfold execTrimLimit
  extract_lets x22 x23 x24
  clear_value x22
  clear_value x23
  clear_value x24
  refine okR_next ?_
  refine ok_ite ?_ ?_
  apply State.evt_ok
  apply State.setFld_ok
  assumption
  assumption

/-! ### Plumb -/

theorem State.onPlb_ok (h : Ok p κ s) [MayPlb κ] {a1} : Ok p κ (State.onPlb s a1) := by
  unfold State.onPlb
  refine ok_mk ?_
  assumption

theorem State.clearHistory_ok (h : Ok p κ s) [MayPlb κ] : Ok p κ (State.clearHistory s) := by
  unfold State.clearHistory
  apply State.onPlb_ok
  assumption

theorem State.control_ok (h : Ok p κ s) [MayPlb κ] : OkP p κ (State.control s) := by
  unfold State.control
  split
  refine okP_mk ?_
  assumption
  refine ok_ite ?_ ?_
  refine okP_mk ?_
  assumption
  split
  refine okP_mk ?_
  apply State.onPlb_ok
  refine ok_of_pair ?_ (by assumption)
  apply State.free_ok
  assumption
  refine ok_ite ?_ ?_
  refine okP_mk ?_
  assumption
  split
  refine okP_mk ?_
  apply State.onPlb_ok
  refine ok_of_pair ?_ (by assumption)
  apply State.free_ok
  assumption
  refine okP_mk ?_
  assumption

theorem State.refreshHold_ok (h : Ok p κ s) : Ok p κ (State.refreshHold s) := by
  unfold State.refreshHold
  extract_lets x21
  refine @use_ok p κ x21 _ ?_ ?_
  unfold x21
  apply State.wrN_ok
  assumption
  intro _
  clear_value x21
  apply State.wrN_ok
  assumption

theorem State.setSyn_ok (h : Ok p κ s) [MayPlb κ] {a1} : Ok p κ (State.setSyn s a1) := by
  unfold State.setSyn
  extract_lets x22 x23 x24 x25 x26
  clear_value x22
  refine @use_ok p κ x23 _ ?_ ?_
  unfold x23
  apply State.setFld_ok
  assumption
  intro _
  clear_value x23
  refine @use_ok p κ x24 _ ?_ ?_
  unfold x24
  refine ok_ite ?_ ?_
  apply State.onPlb_ok
  assumption
  assumption
  intro _
  clear_value x24
  refine @use_ok p κ x25 _ ?_ ?_
  unfold x25
  refine ok_ite ?_ ?_
  apply State.onPlb_ok
  assumption
  assumption
  intro _
  clear_value x25
  refine @use_ok p κ x26 _ ?_ ?_
  unfold x26
  refine ok_ite ?_ ?_
  apply State.setFld_ok
  apply State.setFld_ok
  assumption
  assumption
  intro _
  clear_value x26
  refine ok_ite ?_ ?_
  assumption
  apply State.refreshHold_ok
  assumption

theorem State.enterHoldover_ok (h : Ok p κ s) [MayPlb κ] : Ok p κ (State.enterHoldover s) := by
  unfold State.enterHoldover
  refine ok_ite ?_ ?_
  assumption
  extract_lets x21 x22 x23 x24
  clear_value x21
  clear_value x22
  clear_value x23
  clear_value x24
  split
  extract_lets x31 x32 x33
  clear_value x31
  refine @use_ok p κ x32 _ ?_ ?_
  unfold x32
  apply State.setSyn_ok
  refine ok_of_pair ?_ (by assumption)
  apply State.control_ok
  assumption
  intro _
  clear_value x32
  refine @use_ok p κ x33 _ ?_ ?_
  unfold x33
  apply State.onPlb_ok
  assumption
  intro _
  clear_value x33
  apply State.evt_ok
  apply State.refreshHold_ok
  apply State.setFld_ok
  assumption

theorem State.refreshSource_ok (h : Ok p κ s) : Ok p κ (State.refreshSource s) := by
  unfold State.refreshSource
  extract_lets x21
  clear_value x21
  refine ok_ite ?_ ?_
  assumption
  apply State.evt_ok
  apply State.setFld_ok
  assumption

theorem State.setRef_ok (h : Ok p κ s) {a1 a2} : Ok p κ (State.setRef s a1 a2) := by
  unfold State.setRef
  extract_lets x23 x24 x25
  clear_value x23
  refine @use_ok p κ x24 _ ?_ ?_
  unfold x24
  apply State.setFld_ok
  assumption
  intro _
  clear_value x24
  refine @use_ok p κ x25 _ ?_ ?_
  unfold x25
  refine ok_ite ?_ ?_
  apply State.evt_ok
  apply State.bump_ok
  assumption
  assumption
  intro _
  clear_value x25
  apply State.refreshSource_ok
  assumption

theorem State.setQuality_ok (h : Ok p κ s) {a1 a2 a3} : Ok p κ (State.setQuality s a1 a2 a3) := by
  unfold State.setQuality
  extract_lets x24
  refine @use_ok p κ x24 _ ?_ ?_
  unfold x24
  apply State.setFld_ok
  apply State.setFld_ok
  assumption
  intro _
  clear_value x24
  refine ok_ite ?_ ?_
  apply State.setRef_ok
  assumption
  apply State.refreshSource_ok
  assumption

theorem State.refreshQuality_ok (h : Ok p κ s) {a1} : Ok p κ (State.refreshQuality s a1) := by
  unfold State.refreshQuality
  refine ok_ite ?_ ?_
  apply State.setQuality_ok
  assumption
  refine ok_ite ?_ ?_
  apply State.setQuality_ok
  assumption
  assumption

theorem State.refEnabled_ok (h : Ok p κ s) {a1 a2} : Ok p κ (State.refEnabled s a1 a2) := by
  unfold State.refEnabled
  extract_lets x23
  refine @use_ok p κ x23 _ ?_ ?_
  unfold x23
  apply State.refreshQuality_ok
  assumption
  intro _
  clear_value x23
  apply State.refreshSource_ok
  refine ok_ite ?_ ?_
  apply State.setRef_ok
  assumption
  refine ok_ite ?_ ?_
  apply State.setRef_ok
  assumption
  assumption

theorem State.refLoss_ok (h : Ok p κ s) {a1} : Ok p κ (State.refLoss s a1) := by
  unfold State.refLoss
  refine ok_ite ?_ ?_
  apply State.setRef_ok
  assumption
  assumption

theorem State.select_ok (h : Ok p κ s) [MayPlb κ] {a1 a2} : Ok p κ (State.select s a1 a2) := by
  unfold State.select
  extract_lets x23 x24 x25 x26 x27 x28 x29 x30 x31
  clear_value x23
  refine @use_ok p κ x24 _ ?_ ?_
  unfold x24
  split
  refine ok_ite ?_ ?_
  apply State.setFld_ok
  assumption
  assumption
  assumption
  intro _
  clear_value x24
  refine @use_ok p κ x25 _ ?_ ?_
  unfold x25
  split
  refine ok_ite ?_ ?_
  apply State.setFld_ok
  assumption
  assumption
  assumption
  intro _
  clear_value x25
  refine @use_ok p κ x26 _ ?_ ?_
  unfold x26
  apply State.setFld_ok
  assumption
  intro _
  clear_value x26
  clear_value x27
  refine @use_ok p κ x28 _ ?_ ?_
  unfold x28
  apply State.wrN_ok
  assumption
  intro _
  clear_value x28
  refine @use_ok p κ x29 _ ?_ ?_
  unfold x29
  refine ok_ite ?_ ?_
  assumption
  apply State.refreshSource_ok
  apply State.evt_ok
  apply State.bump_ok
  assumption
  intro _
  clear_value x29
  clear_value x30
  clear_value x31
  refine ok_ite ?_ ?_
  assumption
  refine ok_ite ?_ ?_
  refine ok_ite ?_ ?_
  apply State.setSyn_ok
  assumption
  assumption
  refine ok_ite ?_ ?_
  assumption
  apply State.enterHoldover_ok
  assumption

theorem State.writeLoopCtrl_ok (h : Ok p κ s) [MayPlb κ] {a1} : Ok p κ (State.writeLoopCtrl s a1) := by
  unfold State.writeLoopCtrl
  extract_lets x22 x23 x24 x25
  clear_value x22
  refine @use_ok p κ x23 _ ?_ ?_
  unfold x23
  apply State.wr_ok
  assumption
  intro _
  clear_value x23
  clear_value x24
  refine @use_ok p κ x25 _ ?_ ?_
  unfold x25
  apply State.wrN_ok
  assumption
  intro _
  clear_value x25
  refine ok_ite ?_ ?_
  split
  extract_lets x34
  refine @use_ok p κ x34 _ ?_ ?_
  unfold x34
  apply State.setSyn_ok
  refine ok_of_pair ?_ (by assumption)
  apply State.control_ok
  assumption
  intro _
  clear_value x34
  apply State.onPlb_ok
  apply State.wr_ok
  assumption
  refine ok_ite ?_ ?_
  split
  refine ok_ite ?_ ?_
  apply State.setSyn_ok
  assumption
  apply State.evt_ok
  apply State.refreshHold_ok
  apply State.onPlb_ok
  apply State.setSyn_ok
  assumption
  apply State.evt_ok
  apply State.refreshHold_ok
  apply State.onPlb_ok
  apply State.setSyn_ok
  assumption
  assumption

theorem State.writePlbCtrl_ok (h : Ok p κ s) {a1 a2} : Ok p κ (State.writePlbCtrl s a1 a2) := by
  unfold State.writePlbCtrl
  extract_lets x23
  clear_value x23
  refine ok_ite ?_ ?_
  apply State.refusedField_ok
  apply State.wr_ok
  assumption
  apply State.wr_ok
  assumption

theorem State.writeSynFreq_ok (h : Ok p κ s) [MayPlb κ] {a1} : Ok p κ (State.writeSynFreq s a1) := by
  unfold State.writeSynFreq
  refine ok_ite ?_ ?_
  assumption
  extract_lets x22
  clear_value x22
  apply State.onPlb_ok
  apply State.wr_ok
  assumption

theorem execControlAverage_ok (h : Ok p κ s) [MayPlb κ] {a1} : OkR p κ (execControlAverage a1 s) := by
  unfold execControlAverage
  refine okR_next ?_
  refine ok_ite ?_ ?_
  apply State.onPlb_ok
  assumption
  assumption

theorem execFreqGate_ok (h : Ok p κ s) {a1 a2} : OkR p κ (execFreqGate a1 a2 s) := by
  unfold execFreqGate
  refine ok_ite ?_ ?_
  refine okR_next ?_
  assumption
  extract_lets x23 x24 x25 x26 x27
  clear_value x23
  refine @use_ok p κ x24 _ ?_ ?_
  unfold x24
  apply State.setFld_ok
  assumption
  intro _
  clear_value x24
  clear_value x25
  clear_value x26
  clear_value x27
  refine okR_next ?_
  refine ok_ite ?_ ?_
  apply State.setRef_ok
  assumption
  refine ok_ite ?_ ?_
  assumption
  apply State.setRef_ok
  assumption

theorem execLock_ok (h : Ok p κ s) [MayPlb κ] [MayBly κ] : OkR p κ (execLock s) := by
  unfold execLock
  refine okR_next ?_
  refine ok_ite ?_ ?_
  extract_lets x21
  refine @use_ok p κ x21 _ ?_ ?_
  unfold x21
  apply State.evt_ok
  apply State.setSyn_ok
  assumption
  intro _
  clear_value x21
  refine ok_ite ?_ ?_
  apply State.joinRequest_ok
  assumption
  assumption
  assumption

theorem execRefLoss_ok (h : Ok p κ s) {a1} : OkR p κ (execRefLoss a1 s) := by
  unfold execRefLoss
  refine okR_next ?_
  apply State.refLoss_ok
  assumption

theorem execRefQual_ok (h : Ok p κ s) {a1} : OkR p κ (execRefQual a1 s) := by
  unfold execRefQual
  refine okR_next ?_
  refine ok_ite ?_ ?_
  apply State.evt_ok
  apply State.setRef_ok
  assumption
  assumption

/-! ### PlumbTime -/

theorem State.rateCorr_ok (h : Ok p κ s) [MayPlb κ] : Ok p κ (State.rateCorr s) := by
  unfold State.rateCorr
  refine ok_ite ?_ ?_
  split
  apply State.setFld_ok
  refine ok_of_pair ?_ (by assumption)
  apply State.control_ok
  assumption
  assumption

theorem State.advance_ok (h : Ok p κ s) [MayTime κ] [MayPlb κ] {a1} : Ok p κ (State.advance s a1) := by
  unfold State.advance
  refine ok_ite ?_ ?_
  assumption
  extract_lets x22 x23 x24 x25 x26
  refine @use_ok p κ x22 _ ?_ ?_
  unfold x22
  apply State.rateCorr_ok
  assumption
  intro _
  refine @use_ok p κ x25 _ ?_ ?_
  unfold x25
  refine ok_mk ?_
  assumption
  intro _
  refine @use_ok p κ x26 _ ?_ ?_
  unfold x26
  apply State.onPlb_ok
  assumption
  intro _
  refine ok_ite ?_ ?_
  apply State.refreshHold_ok
  apply State.onPlb_ok
  assumption
  assumption

theorem State.capture_ok (h : Ok p κ s) {a1} : Ok p κ (State.capture s a1) := by
  unfold State.capture
  extract_lets x22 x23 x24 x25
  clear_value x22
  clear_value x23
  refine @use_ok p κ x24 _ ?_ ?_
  unfold x24
  apply State.wrN_ok
  apply State.wrN_ok
  apply State.wrN_ok
  assumption
  intro _
  clear_value x24
  refine @use_ok p κ x25 _ ?_ ?_
  unfold x25
  refine ok_ite ?_ ?_
  apply State.evt_ok
  apply State.setFld_ok
  assumption
  assumption
  intro _
  clear_value x25
  refine ok_ite ?_ ?_
  assumption
  apply State.evt_ok
  apply State.setFld_ok
  assumption

theorem State.captureOn_ok (h : Ok p κ s) {a1 a2} : Ok p κ (State.captureOn s a1 a2) := by
  unfold State.captureOn
  refine ok_foldl ?_ ?_
  assumption
  intro _ _ _
  refine ok_ite ?_ ?_
  apply State.capture_ok
  assumption
  assumption

theorem State.dropPulses_ok (h : Ok p κ s) [MayPlb κ] : Ok p κ (State.dropPulses s) := by
  unfold State.dropPulses
  extract_lets x21
  clear_value x21
  refine ok_foldl ?_ ?_
  apply State.onPlb_ok
  assumption
  intro _ _ _
  apply State.emit_ok
  assumption

theorem State.latchTick_ok (h : Ok p κ s) [MayPlb κ] : Ok p κ (State.latchTick s) := by
  unfold State.latchTick
  extract_lets x21 x22
  refine @use_ok p κ x21 _ ?_ ?_
  unfold x21
  apply State.onPlb_ok
  assumption
  intro _
  clear_value x21
  refine @use_ok p κ x22 _ ?_ ?_
  unfold x22
  apply State.wrN_ok
  assumption
  intro _
  clear_value x22
  refine ok_ite ?_ ?_
  assumption
  apply State.wrN_ok
  apply State.wrN_ok
  apply State.wrN_ok
  assumption

theorem State.pulse_ok (h : Ok p κ s) [MayPlb κ] {a1} : Ok p κ (State.pulse s a1) := by
  unfold State.pulse
  extract_lets x22 x23 x24
  clear_value x22
  clear_value x23
  refine @use_ok p κ x24 _ ?_ ?_
  unfold x24
  apply State.onPlb_ok
  assumption
  intro _
  clear_value x24
  refine ok_ite ?_ ?_
  refine ok_ite ?_ ?_
  apply State.emit_ok
  assumption
  assumption
  assumption

theorem State.readTick_ok (h : Ok p κ s) [MayPlb κ] : OkP p κ (State.readTick s) := by
  unfold State.readTick
  extract_lets x21 x22
  refine @use_ok p κ x21 _ ?_ ?_
  unfold x21
  apply State.onPlb_ok
  assumption
  intro _
  clear_value x21
  clear_value x22
  refine okP_mk ?_
  apply State.wrN_ok
  apply State.wrN_ok
  apply State.wrN_ok
  assumption

theorem State.readTime_ok (h : Ok p κ s) [MayPlb κ] : OkP p κ (State.readTime s) := by
  unfold State.readTime
  refine okP_mk ?_
  apply State.wrN_ok
  apply State.onPlb_ok
  assumption

theorem State.setTarget_ok (h : Ok p κ s) [MayPlb κ] {a1 a2} : Ok p κ (State.setTarget s a1 a2) := by
  unfold State.setTarget
  apply State.onPlb_ok
  assumption

theorem State.rearm_ok (h : Ok p κ s) [MayPlb κ] {a1} : Ok p κ (State.rearm s a1) := by
  unfold State.rearm
  extract_lets x22 x23
  clear_value x22
  clear_value x23
  refine ok_ite ?_ ?_
  apply State.setFld_ok
  assumption
  refine ok_ite ?_ ?_
  apply State.evt_ok
  apply State.setFld_ok
  apply State.setTarget_ok
  assumption
  apply State.setTarget_ok
  assumption

theorem State.stepTime_ok (h : Ok p κ s) [MayTime κ] [MayBly κ] {a1} : Ok p κ (State.stepTime s a1) := by
  unfold State.stepTime
  extract_lets x22 x23
  refine @use_ok p κ x22 _ ?_ ?_
  unfold x22
  apply State.tell_ok
  assumption
  intro _
  clear_value x22
  refine @use_ok p κ x23 _ ?_ ?_
  unfold x23
  refine ok_mk ?_
  assumption
  intro _
  clear_value x23
  apply State.evt_ok
  apply State.bump_ok
  apply State.setFld_ok
  assumption

theorem State.timeOffset_ok (h : Ok p κ s) [MayTime κ] [MayBly κ] {a1} : Ok p κ (State.timeOffset s a1) := by
  unfold State.timeOffset
  extract_lets x22 x23
  refine @use_ok p κ x22 _ ?_ ?_
  unfold x22
  apply State.wr_ok
  assumption
  intro _
  clear_value x22
  clear_value x23
  refine ok_ite ?_ ?_
  apply State.stepTime_ok
  apply State.setFld_ok
  assumption
  split
  extract_lets x31 x32
  clear_value x31
  refine @use_ok p κ x32 _ ?_ ?_
  unfold x32
  apply State.setFld_ok
  refine ok_of_pair ?_ (by assumption)
  apply State.free_ok
  assumption
  intro _
  clear_value x32
  refine ok_ite ?_ ?_
  apply State.evt_ok
  apply State.setFld_ok
  assumption
  assumption

theorem State.writeCmpCtrl_ok (h : Ok p κ s) [MayPlb κ] {a1 a2} : Ok p κ (State.writeCmpCtrl s a1 a2) := by
  unfold State.writeCmpCtrl
  extract_lets x23 x24 x25 x26 x27 x28 x29
  clear_value x23
  clear_value x24
  refine @use_ok p κ x25 _ ?_ ?_
  unfold x25
  apply State.wr_ok
  assumption
  intro _
  clear_value x25
  refine @use_ok p κ x26 _ ?_ ?_
  unfold x26
  apply State.setFld_ok
  assumption
  intro _
  clear_value x26
  clear_value x27
  refine @use_ok p κ x28 _ ?_ ?_
  unfold x28
  apply State.setFld_ok
  apply State.setTarget_ok
  assumption
  intro _
  clear_value x28
  refine @use_ok p κ x29 _ ?_ ?_
  unfold x29
  refine ok_ite ?_ ?_
  refine ok_ite ?_ ?_
  apply State.evt_ok
  apply State.setFld_ok
  assumption
  apply State.setFld_ok
  assumption
  assumption
  intro _
  clear_value x29
  refine ok_ite ?_ ?_
  apply State.setFld_ok
  assumption
  assumption

theorem State.writeTimeCtrl_ok (h : Ok p κ s) [MayTime κ] [MayBly κ] {a1 a2} : Ok p κ (State.writeTimeCtrl s a1 a2) := by
  unfold State.writeTimeCtrl
  extract_lets x23 x24
  refine @use_ok p κ x23 _ ?_ ?_
  unfold x23
  apply State.refreshSource_ok
  apply State.wr_ok
  assumption
  intro _
  clear_value x23
  refine @use_ok p κ x24 _ ?_ ?_
  unfold x24
  refine ok_ite ?_ ?_
  apply State.setFld_ok
  apply State.setFld_ok
  assumption
  assumption
  intro _
  clear_value x24
  refine ok_ite ?_ ?_
  refine ok_ite ?_ ?_
  apply State.stepTime_ok
  assumption
  apply State.refusedField_ok
  assumption
  assumption

theorem execCaptured_ok (h : Ok p κ s) [MayTime κ] [MayPlb κ] {a1 a2 a3} : OkR p κ (execCaptured a1 a2 a3 s) := by
  unfold execCaptured
  extract_lets x24 x25 x26
  refine @use_ok p κ x24 _ ?_ ?_
  unfold x24
  apply State.advance_ok
  assumption
  intro _
  clear_value x24
  clear_value x25
  clear_value x26
  refine okR_next ?_
  refine ok_ite ?_ ?_
  apply State.capture_ok
  assumption
  assumption

theorem execOutOfSpec_ok (h : Ok p κ s) [MayTime κ] [MayPlb κ] {a1} : OkR p κ (execOutOfSpec a1 s) := by
  unfold execOutOfSpec
  extract_lets x22
  refine @use_ok p κ x22 _ ?_ ?_
  unfold x22
  apply State.advance_ok
  assumption
  intro _
  clear_value x22
  refine okR_next ?_
  refine ok_ite ?_ ?_
  apply State.evt_ok
  apply State.setFld_ok
  assumption
  assumption

theorem execPulseEnd_ok (h : Ok p κ s) [MayPlb κ] {a1} : OkR p κ (execPulseEnd a1 s) := by
  unfold execPulseEnd
  extract_lets x22 x23
  clear_value x22
  refine @use_ok p κ x23 _ ?_ ?_
  unfold x23
  apply State.onPlb_ok
  assumption
  intro _
  clear_value x23
  refine okR_next ?_
  refine ok_ite ?_ ?_
  assumption
  refine ok_ite ?_ ?_
  apply State.emit_ok
  assumption
  assumption

/-! ### Aes -/

theorem State.aesEvt_ok (h : Ok p κ s) {a1 a2} : Ok p κ (State.aesEvt s a1 a2) := by
  unfold State.aesEvt
  apply State.evt_ok
  assumption

theorem State.onAesTx_ok (h : Ok p κ s) [MayPrt κ] {a1 a2} : Ok p κ (State.onAesTx s a1 a2) := by
  unfold State.onAesTx
  apply State.onPrt_ok
  assumption

theorem State.aesTake_ok (h : Ok p κ s) [MayMem κ] [MayFlips κ] [MayPrt κ] {a1 a2} : Ok p κ (State.aesTake s a1 a2) := by
  unfold State.aesTake
  extract_lets x23 x24
  clear_value x23
  clear_value x24
  refine ok_ite ?_ ?_
  assumption
  split
  refine ok_ite ?_ ?_
  refine ok_of_pair ?_ (by assumption)
  apply State.takeSink_ok
  assumption
  apply State.onAesTx_ok
  refine ok_of_pair ?_ (by assumption)
  apply State.takeSink_ok
  assumption

theorem State.aesTick_ok (h : Ok p κ s) [MayMem κ] [MayFlips κ] [MayTrs κ] [MayPrt κ] [MayBly κ] {a1} : Ok p κ (State.aesTick s a1) := by
  unfold State.aesTick
  extract_lets x22
  clear_value x22
  refine ok_ite ?_ ?_
  assumption
  split
  extract_lets x29
  refine @use_ok p κ x29 _ ?_ ?_
  unfold x29
  refine ok_ite ?_ ?_
  apply State.onSide_ok
  refine ok_of_pair ?_ (by assumption)
  apply State.takeInj_ok
  assumption
  refine ok_of_pair ?_ (by assumption)
  apply State.takeInj_ok
  assumption
  intro _
  clear_value x29
  split
  split
  refine ok_of_pair ?_ (by assumption)
  apply State.popFrame_ok
  assumption
  refine ok_foldl ?_ ?_
  refine ok_of_pair ?_ (by assumption)
  apply State.popFrame_ok
  assumption
  intro _ _ _
  apply State.deliver_ok
  assumption

theorem State.onAesRx_ok (h : Ok p κ s) [MayPrt κ] {a1 a2} : Ok p κ (State.onAesRx s a1 a2) := by
  unfold State.onAesRx
  apply State.onPrt_ok
  assumption

theorem State.dropBlock_ok (h : Ok p κ s) [MayPrt κ] {a1} : Ok p κ (State.dropBlock s a1) := by
  unfold State.dropBlock
  refine ok_ite ?_ ?_
  apply State.aesEvt_ok
  apply State.bump_ok
  apply State.onAesRx_ok
  assumption
  assumption

theorem State.aesUnlock_ok (h : Ok p κ s) [MayPrt κ] {a1} : Ok p κ (State.aesUnlock s a1) := by
  unfold State.aesUnlock
  extract_lets x22 x23 x24
  refine @use_ok p κ x22 _ ?_ ?_
  unfold x22
  apply State.onAesRx_ok
  assumption
  intro _
  clear_value x22
  refine @use_ok p κ x23 _ ?_ ?_
  unfold x23
  apply State.dropBlock_ok
  apply State.setFld_ok
  assumption
  intro _
  clear_value x23
  refine @use_ok p κ x24 _ ?_ ?_
  unfold x24
  apply State.aesEvt_ok
  apply State.onSide_ok
  assumption
  intro _
  clear_value x24
  refine ok_ite ?_ ?_
  assumption
  refine ok_foldl ?_ ?_
  assumption
  intro _ _ _
  refine ok_ite ?_ ?_
  apply State.refLoss_ok
  assumption
  assumption

theorem State.putBlock_ok (h : Ok p κ s) {a1 a2} : Ok p κ (State.putBlock s a1 a2) := by
  unfold State.putBlock
  refine ok_foldl ?_ ?_
  assumption
  intro _ _ _
  apply State.wrN_ok
  assumption

theorem State.captureBlock_ok (h : Ok p κ s) {a1 a2} : Ok p κ (State.captureBlock s a1 a2) := by
  unfold State.captureBlock
  extract_lets x23 x24 x25 x26
  clear_value x23
  refine @use_ok p κ x24 _ ?_ ?_
  unfold x24
  apply State.putBlock_ok
  apply State.putBlock_ok
  apply State.putBlock_ok
  apply State.putBlock_ok
  assumption
  intro _
  clear_value x24
  refine @use_ok p κ x25 _ ?_ ?_
  unfold x25
  apply State.aesEvt_ok
  apply State.wr_ok
  assumption
  intro _
  clear_value x25
  refine @use_ok p κ x26 _ ?_ ?_
  unfold x26
  apply State.setFld_ok
  apply State.setFld_ok
  assumption
  intro _
  clear_value x26
  refine ok_ite ?_ ?_
  assumption
  apply State.aesEvt_ok
  assumption

theorem State.blockFrame_ok (h : Ok p κ s) [MayPrt κ] {a1 a2 a3} : Ok p κ (State.blockFrame s a1 a2 a3) := by
  unfold State.blockFrame
  extract_lets x24 x25 x26
  clear_value x24
  refine @use_ok p κ x25 _ ?_ ?_
  unfold x25
  refine ok_ite ?_ ?_
  split
  refine ok_ite ?_ ?_
  apply State.captureBlock_ok
  assumption
  apply State.dropBlock_ok
  assumption
  assumption
  assumption
  intro _
  clear_value x25
  clear_value x26
  apply State.onAesRx_ok
  assumption

theorem State.blockStart_ok (h : Ok p κ s) [MayPrt κ] {a1} : Ok p κ (State.blockStart s a1) := by
  unfold State.blockStart
  extract_lets x22 x23 x24
  clear_value x22
  refine @use_ok p κ x23 _ ?_ ?_
  unfold x23
  refine ok_ite ?_ ?_
  apply State.setFld_ok
  apply State.onAesTx_ok
  assumption
  assumption
  intro _
  clear_value x23
  refine @use_ok p κ x24 _ ?_ ?_
  unfold x24
  refine ok_ite ?_ ?_
  apply State.setFld_ok
  apply State.onAesTx_ok
  assumption
  assumption
  intro _
  clear_value x24
  refine ok_ite ?_ ?_
  apply State.onPrt_ok
  refine ok_ite ?_ ?_
  apply State.unitDone_ok
  assumption
  assumption
  assumption

theorem State.writeTxUpd_ok (h : Ok p κ s) {a1 a2} : Ok p κ (State.writeTxUpd s a1 a2) := by
  unfold State.writeTxUpd
  extract_lets x23
  refine @use_ok p κ x23 _ ?_ ?_
  unfold x23
  refine ok_ite ?_ ?_
  apply State.setFld_ok
  assumption
  assumption
  intro _
  clear_value x23
  refine ok_ite ?_ ?_
  apply State.setFld_ok
  assumption
  assumption

theorem execAesFrameReceive_ok (h : Ok p κ s) [MayTime κ] [MayPrt κ] [MayPlb κ] {a1 a2 a3 a4 a5} : OkR p κ (execAesFrameReceive a1 a2 a3 a4 a5 s) := by
  unfold execAesFrameReceive
  extract_lets x26 x27 x28 x29 x30 x31 x32 x33 x34 x35 x36 x37 x38 x39
  clear_value x26
  refine @use_ok p κ x27 _ ?_ ?_
  unfold x27
  apply State.advance_ok
  assumption
  intro _
  clear_value x27
  refine @use_ok p κ x28 _ ?_ ?_
  unfold x28
  refine ok_ite ?_ ?_
  apply State.captureOn_ok
  assumption
  assumption
  intro _
  clear_value x28
  refine @use_ok p κ x29 _ ?_ ?_
  unfold x29
  apply State.setFld_ok
  assumption
  intro _
  clear_value x29
  clear_value x30
  clear_value x31
  clear_value x32
  clear_value x33
  clear_value x34
  refine @use_ok p κ x35 _ ?_ ?_
  unfold x35
  apply State.onAesRx_ok
  assumption
  intro _
  clear_value x35
  clear_value x36
  refine @use_ok p κ x37 _ ?_ ?_
  unfold x37
  refine ok_ite ?_ ?_
  apply State.aesUnlock_ok
  assumption
  refine ok_ite ?_ ?_
  apply State.aesEvt_ok
  apply State.onSide_ok
  apply State.setFld_ok
  assumption
  assumption
  intro _
  clear_value x37
  clear_value x38
  clear_value x39
  refine ok_ite ?_ ?_
  refine okR_next ?_
  assumption
  split
  extract_lets x51 x52 x53 x54 x55 x56 x57 x58 x59 x60 x61 x62
  clear_value x51
  clear_value x52
  refine @use_ok p κ x53 _ ?_ ?_
  unfold x53
  refine ok_ite ?_ ?_
  apply State.aesEvt_ok
  apply State.bump_ok
  refine ok_of_pair ?_ (by assumption)
  apply State.takeInj_ok
  assumption
  refine ok_of_pair ?_ (by assumption)
  apply State.takeInj_ok
  assumption
  intro _
  clear_value x53
  refine @use_ok p κ x54 _ ?_ ?_
  unfold x54
  refine ok_ite ?_ ?_
  apply State.aesEvt_ok
  apply State.bump_ok
  assumption
  assumption
  intro _
  clear_value x54
  refine @use_ok p κ x55 _ ?_ ?_
  unfold x55
  apply State.setFld_ok
  apply State.setFld_ok
  assumption
  intro _
  clear_value x55
  refine @use_ok p κ x56 _ ?_ ?_
  unfold x56
  apply State.blockFrame_ok
  assumption
  intro _
  clear_value x56
  clear_value x57
  refine @use_ok p κ x58 _ ?_ ?_
  unfold x58
  apply State.onAesRx_ok
  assumption
  intro _
  clear_value x58
  clear_value x59
  clear_value x60
  clear_value x61
  clear_value x62
  refine ok_ite ?_ ?_
  refine okR_next ?_
  assumption
  refine okR_next ?_
  refine ok_ite ?_ ?_
  apply State.pushFrame_ok
  assumption
  assumption

theorem execAesTxFrame_ok (h : Ok p κ s) [MayPrt κ] {a1} : OkR p κ (execAesTxFrame a1 s) := by
  unfold execAesTxFrame
  refine ok_ite ?_ ?_
  refine okR_next ?_
  assumption
  extract_lets x22 x23 x24 x25 x26 x27 x28
  refine @use_ok p κ x22 _ ?_ ?_
  unfold x22
  apply State.frameStart_ok
  assumption
  intro _
  clear_value x22
  clear_value x23
  refine @use_ok p κ x24 _ ?_ ?_
  unfold x24
  refine ok_ite ?_ ?_
  apply State.blockStart_ok
  assumption
  assumption
  intro _
  clear_value x24
  clear_value x25
  clear_value x26
  clear_value x27
  clear_value x28
  split
  split
  extract_lets x41 x42 x43 x44 x45 x46 x47
  refine @use_ok p κ x41 _ ?_ ?_
  unfold x41
  refine ok_ite ?_ ?_
  apply State.aesEvt_ok
  apply State.bump_ok
  assumption
  assumption
  intro _
  clear_value x41
  refine @use_ok p κ x42 _ ?_ ?_
  unfold x42
  refine ok_ite ?_ ?_
  apply State.aesEvt_ok
  apply State.bump_ok
  assumption
  assumption
  intro _
  clear_value x42
  clear_value x43
  clear_value x44
  clear_value x45
  clear_value x46
  refine @use_ok p κ x47 _ ?_ ?_
  unfold x47
  apply State.onAesTx_ok
  assumption
  intro _
  clear_value x47
  refine okR_next ?_
  refine ok_ite ?_ ?_
  apply State.emit_ok
  apply State.emit_ok
  assumption
  assumption

/-! ### Banks -/

theorem State.endSweep_ok (h : Ok p κ s) : Ok p κ (State.endSweep s) := by
  unfold State.endSweep
  apply State.onTime_ok
  apply State.wr_ok
  assumption

theorem State.nextBank_ok (h : Ok p κ s) [MayBnk κ] {a1} : Ok p κ (State.nextBank s a1) := by
  unfold State.nextBank
  extract_lets x22 x23 x24
  clear_value x22
  clear_value x23
  refine @use_ok p κ x24 _ ?_ ?_
  unfold x24
  refine ok_mk ?_
  assumption
  intro _
  clear_value x24
  refine ok_ite ?_ ?_
  apply State.endSweep_ok
  assumption
  assumption

theorem State.nextRegion_ok (h : Ok p κ s) [MayBnk κ] {a1 a2} : Ok p κ (State.nextRegion s a1 a2) := by
  unfold State.nextRegion
  refine ok_ite ?_ ?_
  refine ok_mk ?_
  assumption
  apply State.nextBank_ok
  assumption

theorem State.refreshSpares_ok (h : Ok p κ s) : Ok p κ (State.refreshSpares s) := by
  unfold State.refreshSpares
  apply State.setFld_ok
  assumption

theorem State.requestBank_ok (h : Ok p κ s) [MayMem κ] [MayFlips κ] [MayBnk κ] {a1 a2} : OkP p κ (State.requestBank s a1 a2) := by
  unfold State.requestBank
  extract_lets x23 x24 x25 x26 x27
  clear_value x23
  refine @use_ok p κ x24 _ ?_ ?_
  unfold x24
  apply State.setFld_ok
  apply State.setFld_ok
  assumption
  intro _
  clear_value x24
  refine @use_ok p κ x25 _ ?_ ?_
  unfold x25
  refine ok_ite ?_ ?_
  apply State.clearMem_ok
  assumption
  assumption
  intro _
  clear_value x25
  refine @use_ok p κ x26 _ ?_ ?_
  unfold x26
  refine ok_ite ?_ ?_
  refine ok_mk ?_
  assumption
  assumption
  intro _
  clear_value x26
  clear_value x27
  refine ok_ite ?_ ?_
  refine okP_mk ?_
  assumption
  refine ok_ite ?_ ?_
  refine okP_mk ?_
  assumption
  refine okP_mk ?_
  split
  refine ok_ite ?_ ?_
  apply State.nextRegion_ok
  refine ok_mk ?_
  assumption
  assumption
  assumption

theorem State.takeColumn_ok (h : Ok p κ s) {a1 a2 a3 a4} : Ok p κ (State.takeColumn s a1 a2 a3 a4) := by
  unfold State.takeColumn
  extract_lets x25 x26 x27
  clear_value x25
  clear_value x26
  clear_value x27
  apply State.sprLog_ok
  apply State.bump_ok
  apply State.wrN_ok
  assumption

theorem State.testFail_ok (h : Ok p κ s) [MayBnk κ] {a1 a2 a3 a4} : Ok p κ (State.testFail s a1 a2 a3 a4) := by
  unfold State.testFail
  extract_lets x25 x26 x27 x28
  refine @use_ok p κ x25 _ ?_ ?_
  unfold x25
  refine ok_ite ?_ ?_
  assumption
  apply State.wrN_ok
  assumption
  intro _
  clear_value x25
  refine @use_ok p κ x26 _ ?_ ?_
  unfold x26
  apply State.evt_ok
  assumption
  intro _
  clear_value x26
  clear_value x27
  refine @use_ok p κ x28 _ ?_ ?_
  unfold x28
  refine ok_mk ?_
  assumption
  intro _
  clear_value x28
  refine ok_ite ?_ ?_
  assumption
  refine ok_ite ?_ ?_
  apply State.takeColumn_ok
  assumption
  refine ok_ite ?_ ?_
  apply State.takeColumn_ok
  assumption
  split
  assumption
  refine ok_ite ?_ ?_
  assumption
  split
  refine ok_ite ?_ ?_
  assumption
  apply State.degrade_ok
  apply State.sprLog_ok
  apply State.evt_ok
  apply State.setFld_ok
  assumption
  extract_lets x40
  refine @use_ok p κ x40 _ ?_ ?_
  unfold x40
  refine ok_ite ?_ ?_
  apply State.markInj_ok
  assumption
  assumption
  intro _
  clear_value x40
  apply State.refreshSpares_ok
  apply State.wrN_ok
  assumption

theorem State.writeBankState_ok (h : Ok p κ s) [MayMem κ] [MayFlips κ] [MayBnk κ] {a1 a2 a3} : Ok p κ (State.writeBankState s a1 a2 a3) := by
  unfold State.writeBankState
  extract_lets x24
  refine @use_okP p κ _ x24 _ ?_ ?_
  unfold x24
  refine ok_foldlP ?_ ?_
  refine okP_mk ?_
  assumption
  intro _ _ _
  split
  refine okP_mk ?_
  refine ok_of_pair ?_ (by assumption)
  apply State.requestBank_ok
  refine ok_snd ?_
  assumption
  intro _
  clear_value x24
  refine ok_ite ?_ ?_
  apply State.refusedField_ok
  refine ok_snd ?_
  assumption
  refine ok_snd ?_
  assumption

theorem execEccWriteback_ok (h : Ok p κ s) [MayMem κ] [MayFlips κ] [MayBnk κ] {a1} : OkR p κ (execEccWriteback a1 s) := by
  unfold execEccWriteback
  refine okR_next ?_
  split
  assumption
  extract_lets x27 x28
  clear_value x27
  refine @use_ok p κ x28 _ ?_ ?_
  unfold x28
  refine ok_mk ?_
  assumption
  intro _
  clear_value x28
  refine ok_ite ?_ ?_
  apply State.setWord_ok
  assumption
  assumption

theorem execRegionTest_ok (h : Ok p κ s) [MayBnk κ] {a1 a2} : OkR p κ (execRegionTest a1 a2 s) := by
  unfold execRegionTest
  refine okR_next ?_
  refine ok_ite ?_ ?_
  assumption
  extract_lets x23 x24 x25
  refine @use_ok p κ x23 _ ?_ ?_
  unfold x23
  refine ok_ite ?_ ?_
  assumption
  apply State.nextBank_ok
  assumption
  intro _
  clear_value x23
  refine @use_ok p κ x24 _ ?_ ?_
  unfold x24
  apply State.wrN_ok
  assumption
  intro _
  clear_value x24
  clear_value x25
  refine ok_ite ?_ ?_
  assumption
  refine ok_ite ?_ ?_
  apply State.nextRegion_ok
  apply State.bump_ok
  assumption
  refine ok_mk ?_
  assumption

theorem execRegionTestDone_ok (h : Ok p κ s) [MayBnk κ] {a1} : OkR p κ (execRegionTestDone a1 s) := by
  unfold execRegionTestDone
  split
  refine okR_next ?_
  assumption
  extract_lets x28 x29
  clear_value x28
  refine @use_ok p κ x29 _ ?_ ?_
  unfold x29
  apply State.nextRegion_ok
  refine ok_mk ?_
  assumption
  intro _
  clear_value x29
  split
  extract_lets x35
  refine @use_ok p κ x35 _ ?_ ?_
  unfold x35
  refine ok_ite ?_ ?_
  apply State.testFail_ok
  refine ok_of_pair ?_ (by assumption)
  apply State.takeInj_ok
  assumption
  refine ok_of_pair ?_ (by assumption)
  apply State.takeInj_ok
  assumption
  intro _
  clear_value x35
  refine okR_next ?_
  refine ok_foldl ?_ ?_
  assumption
  intro _ _ _
  apply State.testFail_ok
  assumption

theorem execReplacementDone_ok (h : Ok p κ s) [MayBnk κ] : OkR p κ (execReplacementDone s) := by
  unfold execReplacementDone
  split
  refine okR_next ?_
  assumption
  extract_lets x26 x27 x28 x29
  clear_value x26
  clear_value x27
  refine @use_ok p κ x28 _ ?_ ?_
  unfold x28
  refine ok_foldl ?_ ?_
  assumption
  intro _ _ _
  refine ok_ite ?_ ?_
  extract_lets x31 x32
  refine @use_ok p κ x31 _ ?_ ?_
  unfold x31
  apply State.setFld_ok
  assumption
  intro _
  clear_value x31
  clear_value x32
  refine ok_mk ?_
  assumption
  assumption
  intro _
  clear_value x28
  refine @use_ok p κ x29 _ ?_ ?_
  unfold x29
  apply State.refreshSpares_ok
  apply State.wrN_ok
  assumption
  intro _
  clear_value x29
  split
  refine okR_next ?_
  apply State.evt_ok
  apply State.sprLog_ok
  refine ok_of_pair ?_ (by assumption)
  apply State.takeMark_ok
  assumption

theorem execStateDone_ok (h : Ok p κ s) {a1} : OkR p κ (execStateDone a1 s) := by
  unfold execStateDone
  refine okR_next ?_
  refine ok_ite ?_ ?_
  apply State.evt_ok
  apply State.setFld_ok
  assumption
  assumption

/-! ### Fuses -/

theorem State.onSys_ok (h : Ok p κ s) [MaySys κ] {a1} : Ok p κ (State.onSys s a1) := by
  unfold State.onSys
  refine ok_mk ?_
  assumption

theorem State.resense_ok (h : Ok p κ s) [MaySys κ] {a1} : Ok p κ (State.resense s a1) := by
  unfold State.resense
  apply State.onSys_ok
  assumption

theorem State.blowBit_ok (h : Ok p κ s) [MaySys κ] {a1 a2} : Ok p κ (State.blowBit s a1 a2) := by
  unfold State.blowBit
  extract_lets x23 x24
  refine @use_ok p κ x23 _ ?_ ?_
  unfold x23
  refine ok_ite ?_ ?_
  apply State.onSys_ok
  assumption
  assumption
  intro _
  clear_value x23
  refine @use_ok p κ x24 _ ?_ ?_
  unfold x24
  apply State.resense_ok
  assumption
  intro _
  clear_value x24
  refine ok_ite ?_ ?_
  assumption
  apply State.evt_ok
  apply State.setFld_ok
  assumption

theorem State.blowRepair_ok (h : Ok p κ s) [MaySys κ] {a1 a2} : OkP p κ (State.blowRepair s a1 a2) := by
  unfold State.blowRepair
  extract_lets x23
  refine @use_ok p κ x23 _ ?_ ?_
  unfold x23
  refine ok_foldl ?_ ?_
  assumption
  intro _ _ _
  refine ok_ite ?_ ?_
  assumption
  apply State.evt_ok
  apply State.blowBit_ok
  assumption
  intro _
  clear_value x23
  refine okP_mk ?_
  assumption

theorem State.blowColumn_ok (h : Ok p κ s) [MaySys κ] {a1 a2 a3} : OkP p κ (State.blowColumn s a1 a2 a3) := by
  unfold State.blowColumn
  extract_lets x24 x25 x26 x27
  clear_value x24
  clear_value x25
  clear_value x26
  clear_value x27
  refine ok_ite ?_ ?_
  split
  refine okP_mk ?_
  refine ok_ite ?_ ?_
  apply State.setFld_ok
  apply State.wrN_ok
  refine ok_of_pair ?_ (by assumption)
  apply State.blowRepair_ok
  assumption
  refine ok_of_pair ?_ (by assumption)
  apply State.blowRepair_ok
  assumption
  refine okP_mk ?_
  assumption

theorem State.blowSpare_ok (h : Ok p κ s) [MaySys κ] {a1 a2} : OkP p κ (State.blowSpare s a1 a2) := by
  unfold State.blowSpare
  extract_lets x23 x24 x25
  clear_value x23
  clear_value x24
  clear_value x25
  refine ok_ite ?_ ?_
  split
  refine okP_mk ?_
  refine ok_ite ?_ ?_
  apply State.wrN_ok
  refine ok_of_pair ?_ (by assumption)
  apply State.blowRepair_ok
  assumption
  refine ok_of_pair ?_ (by assumption)
  apply State.blowRepair_ok
  assumption
  refine okP_mk ?_
  assumption

theorem State.autoRepair_ok (h : Ok p κ s) [MaySys κ] {a1} : Ok p κ (State.autoRepair s a1) := by
  unfold State.autoRepair
  refine ok_ite ?_ ?_
  assumption
  extract_lets x22 x23 x24 x25 x26
  subst x22
  refine @use_okP p κ _ x23 _ ?_ ?_
  unfold x23
  refine ok_foldlP ?_ ?_
  refine okP_mk ?_
  assumption
  intro _ _ _
  dsimp -zeta only
  refine okP_mk ?_
  refine ok_snd ?_
  apply State.blowColumn_ok
  refine ok_snd ?_
  assumption
  intro _
  clear_value x23
  refine @use_okP p κ _ x24 _ ?_ ?_
  unfold x24
  refine ok_foldlP ?_ ?_
  assumption
  intro _ _ _
  dsimp -zeta only
  refine okP_mk ?_
  refine ok_snd ?_
  apply State.blowSpare_ok
  refine ok_snd ?_
  assumption
  intro _
  clear_value x24
  clear_value x25
  refine @use_ok p κ x26 _ ?_ ?_
  unfold x26
  apply State.fusePend_ok
  refine ok_snd ?_
  apply State.blowRepair_ok
  refine ok_snd ?_
  assumption
  intro _
  clear_value x26
  refine ok_ite ?_ ?_
  apply State.evt_ok
  assumption
  assumption

theorem State.writeFusCtrl_ok (h : Ok p κ s) [MaySys κ] {a1 a2} : Ok p κ (State.writeFusCtrl s a1 a2) := by
  unfold State.writeFusCtrl
  extract_lets x23 x24 x25
  clear_value x23
  clear_value x24
  refine @use_ok p κ x25 _ ?_ ?_
  unfold x25
  refine ok_ite ?_ ?_
  assumption
  refine ok_ite ?_ ?_
  apply State.refusedField_ok
  assumption
  refine ok_ite ?_ ?_
  assumption
  refine ok_ite ?_ ?_
  apply State.setFld_ok
  assumption
  apply State.onSys_ok
  apply State.setFld_ok
  assumption
  intro _
  clear_value x25
  refine ok_ite ?_ ?_
  apply State.setFld_ok
  assumption
  assumption

theorem execBlowDone_ok (h : Ok p κ s) [MaySys κ] {a1} : OkR p κ (execBlowDone a1 s) := by
  unfold execBlowDone
  refine okR_next ?_
  refine ok_ite ?_ ?_
  apply State.fusePend_ok
  apply State.evt_ok
  apply State.blowBit_ok
  apply State.setFld_ok
  assumption
  assumption

theorem execSenseDone_ok (h : Ok p κ s) [MaySys κ] : OkR p κ (execSenseDone s) := by
  unfold execSenseDone
  refine okR_next ?_
  refine ok_ite ?_ ?_
  apply State.onSys_ok
  apply State.setFld_ok
  assumption
  assumption

end Sys2Proof.Machine
end

