-- ==== Sys2Proof/Laws/KeepMallet.lean ====
section
/-! SUPPORT. What the operations of Mallet keep: the queue and the invariant of every step. -/

set_option Elab.async false

namespace Sys2Proof.Machine

open Sys2Proof

variable {p : List Instr} {κ : Kept} {s t : State}

/-! ### Mallet -/

theorem State.onMlt_ok (h : Ok p κ s) [MayMlt κ] {a1} : Ok p κ (State.onMlt s a1) := by
  unfold State.onMlt
  refine ok_mk ?_
  assumption

theorem State.onChan_ok (h : Ok p κ s) [MayMlt κ] {a1 a2} : Ok p κ (State.onChan s a1 a2) := by
  unfold State.onChan
  apply State.onMlt_ok
  assumption

theorem State.abortSweep_ok (h : Ok p κ s) [MayMlt κ] {a1} : Ok p κ (State.abortSweep s a1) := by
  unfold State.abortSweep
  refine ok_ite ?_ ?_
  apply State.evt_ok
  apply State.setFld_ok
  apply State.setFld_ok
  apply State.onChan_ok
  assumption
  assumption

theorem State.tellDiag_ok (h : Ok p κ s) [MayBly κ] {a1} : Ok p κ (State.tellDiag s a1) := by
  unfold State.tellDiag
  apply State.tell_ok
  assumption

theorem State.abortTest_ok (h : Ok p κ s) [MayBly κ] {a1} : Ok p κ (State.abortTest s a1) := by
  unfold State.abortTest
  split
  assumption
  refine ok_ite ?_ ?_
  assumption
  apply State.tellDiag_ok
  apply State.setFld_ok
  assumption

theorem State.maskBit_ok (h : Ok p κ s) {a1 a2 a3} : Ok p κ (State.maskBit s a1 a2 a3) := by
  unfold State.maskBit
  apply State.setFld_ok
  assumption

theorem State.tellChan_ok (h : Ok p κ s) [MayBly κ] {a1} : Ok p κ (State.tellChan s a1) := by
  unfold State.tellChan
  apply State.tell_ok
  assumption

theorem State.checkMltDone_ok (h : Ok p κ s) [MayMlt κ] : Ok p κ (State.checkMltDone s) := by
  unfold State.checkMltDone
  extract_lets x21
  clear_value x21
  refine ok_ite ?_ ?_
  apply State.unitDone_ok
  apply State.onMlt_ok
  assumption
  apply State.onMlt_ok
  assumption

theorem State.setChan_ok (h : Ok p κ s) [MayMlt κ] [MayBly κ] {a1 a2} : Ok p κ (State.setChan s a1 a2) := by
  unfold State.setChan
  extract_lets x23
  refine @use_ok p κ x23 _ ?_ ?_
  unfold x23
  refine ok_foldl ?_ ?_
  assumption
  intro _ _ _
  extract_lets x27 x28
  refine @use_ok p κ x27 _ ?_ ?_
  unfold x27
  apply State.maskBit_ok
  apply State.maskBit_ok
  apply State.setFld_ok
  assumption
  intro _
  clear_value x27
  refine @use_ok p κ x28 _ ?_ ?_
  unfold x28
  refine ok_ite ?_ ?_
  apply State.evt_ok
  assumption
  assumption
  intro _
  clear_value x28
  apply State.tellChan_ok
  assumption
  intro _
  clear_value x23
  apply State.checkMltDone_ok
  assumption

theorem State.arm_ok (h : Ok p κ s) [MayMlt κ] [MayBly κ] {a1} : Ok p κ (State.arm s a1) := by
  unfold State.arm
  apply State.setChan_ok
  apply State.onChan_ok
  assumption

theorem State.beginTests_ok (h : Ok p κ s) [MayMlt κ] [MayBly κ] {a1 a2 a3 a4} : Ok p κ (State.beginTests s a1 a2 a3 a4) := by
  unfold State.beginTests
  apply State.onChan_ok
  apply State.tellDiag_ok
  apply State.wrN_ok
  assumption

theorem State.gatesLow_ok (h : Ok p κ s) {a1} : Ok p κ (State.gatesLow s a1) := by
  unfold State.gatesLow
  refine ok_foldl ?_ ?_
  assumption
  intro _ _ _
  apply State.emit_ok
  assumption

theorem State.chanOff_ok (h : Ok p κ s) [MayMlt κ] [MayBly κ] {a1} : Ok p κ (State.chanOff s a1) := by
  unfold State.chanOff
  extract_lets x22 x23
  clear_value x22
  refine @use_ok p κ x23 _ ?_ ?_
  unfold x23
  apply State.onChan_ok
  apply State.abortSweep_ok
  assumption
  intro _
  clear_value x23
  apply State.setChan_ok
  apply State.setFld_ok
  apply State.gatesLow_ok
  assumption

theorem State.onDiag_ok (h : Ok p κ s) [MayMlt κ] {a1 a2} : Ok p κ (State.onDiag s a1 a2) := by
  unfold State.onDiag
  apply State.onChan_ok
  assumption

theorem State.passTest_ok (h : Ok p κ s) [MayMlt κ] [MayBly κ] {a1} : Ok p κ (State.passTest s a1) := by
  unfold State.passTest
  split
  assumption
  extract_lets x27
  refine @use_ok p κ x27 _ ?_ ?_
  unfold x27
  apply State.tellDiag_ok
  apply State.setFld_ok
  assumption
  intro _
  clear_value x27
  refine ok_ite ?_ ?_
  apply State.onChan_ok
  assumption
  apply State.onDiag_ok
  assumption

theorem State.retryRule_ok (h : Ok p κ s) [MayMlt κ] [MayBly κ] {a1} : Ok p κ (State.retryRule s a1) := by
  unfold State.retryRule
  refine ok_ite ?_ ?_
  apply State.setChan_ok
  apply State.onChan_ok
  assumption
  apply State.tellChan_ok
  apply State.onChan_ok
  assumption

theorem State.failTest_ok (h : Ok p κ s) [MayMlt κ] [MayBly κ] {a1 a2} : Ok p κ (State.failTest s a1 a2) := by
  unfold State.failTest
  split
  assumption
  extract_lets x28
  refine @use_ok p κ x28 _ ?_ ?_
  unfold x28
  apply State.evt_ok
  apply State.tellDiag_ok
  apply State.setFld_ok
  assumption
  intro _
  clear_value x28
  refine ok_ite ?_ ?_
  apply State.retryRule_ok
  assumption
  apply State.onDiag_ok
  assumption

theorem State.crossTest_ok (h : Ok p κ s) [MayMlt κ] [MayBly κ] {a1 a2 a3} : Ok p κ (State.crossTest s a1 a2 a3) := by
  unfold State.crossTest
  extract_lets x24 x25
  clear_value x24
  refine @use_ok p κ x25 _ ?_ ?_
  unfold x25
  refine ok_foldl ?_ ?_
  assumption
  intro _ _ _
  refine ok_ite ?_ ?_
  assumption
  apply State.failTest_ok
  apply State.setFld_ok
  apply State.onDiag_ok
  assumption
  intro _
  clear_value x25
  split
  apply State.passTest_ok
  assumption
  apply State.failTest_ok
  apply State.setFld_ok
  assumption

theorem State.enterRun_ok (h : Ok p κ s) [MayMlt κ] [MayBly κ] {a1} : Ok p κ (State.enterRun s a1) := by
  unfold State.enterRun
  extract_lets x22
  clear_value x22
  apply State.setChan_ok
  apply State.onChan_ok
  assumption

theorem State.startChan_ok (h : Ok p κ s) [MayMlt κ] [MayBly κ] {a1} : Ok p κ (State.startChan s a1) := by
  unfold State.startChan
  apply State.enterRun_ok
  apply State.setFld_ok
  assumption

theorem State.fireMallet_ok (h : Ok p κ s) [MayMlt κ] [MayBly κ] {a1} : Ok p κ (State.fireMallet s a1) := by
  unfold State.fireMallet
  refine ok_ite ?_ ?_
  refine ok_foldl ?_ ?_
  assumption
  intro _ _ _
  refine ok_ite ?_ ?_
  apply State.startChan_ok
  assumption
  assumption
  assumption

theorem State.shutDown_ok (h : Ok p κ s) [MayMlt κ] [MayBly κ] {a1 a2} : Ok p κ (State.shutDown s a1 a2) := by
  unfold State.shutDown
  extract_lets x23 x24 x25 x26
  clear_value x23
  refine @use_ok p κ x24 _ ?_ ?_
  unfold x24
  apply State.onChan_ok
  apply State.abortSweep_ok
  apply State.gatesLow_ok
  assumption
  intro _
  clear_value x24
  refine @use_ok p κ x25 _ ?_ ?_
  unfold x25
  refine ok_foldl ?_ ?_
  assumption
  intro _ _ _
  apply State.setFld_ok
  assumption
  intro _
  clear_value x25
  refine @use_ok p κ x26 _ ?_ ?_
  unfold x26
  apply State.setChan_ok
  apply State.evt_ok
  apply State.bump_ok
  assumption
  intro _
  clear_value x26
  refine ok_ite ?_ ?_
  assumption
  refine ok_ite ?_ ?_
  apply State.gatesLow_ok
  assumption
  refine ok_ite ?_ ?_
  apply State.chanOff_ok
  assumption
  apply State.retryRule_ok
  assumption

theorem State.pulseFault_ok (h : Ok p κ s) [MayMlt κ] [MayBly κ] {a1} : Ok p κ (State.pulseFault s a1) := by
  unfold State.pulseFault
  split
  assumption
  refine ok_ite ?_ ?_
  apply State.failTest_ok
  apply State.gatesLow_ok
  assumption
  assumption

theorem State.fltN_ok (h : Ok p κ s) [MayMlt κ] [MayBly κ] {a1} : Ok p κ (State.fltN s a1) := by
  unfold State.fltN
  extract_lets x22 x23 x24
  clear_value x22
  refine @use_ok p κ x23 _ ?_ ?_
  unfold x23
  apply State.evt_ok
  apply State.bump_ok
  assumption
  intro _
  clear_value x23
  clear_value x24
  split
  apply State.shutDown_ok
  assumption
  apply State.shutDown_ok
  assumption
  apply State.onChan_ok
  apply State.gatesLow_ok
  assumption
  refine ok_ite ?_ ?_
  apply State.pulseFault_ok
  assumption
  apply State.gatesLow_ok
  assumption
  refine ok_ite ?_ ?_
  assumption
  refine ok_ite ?_ ?_
  apply State.tellChan_ok
  apply State.setFld_ok
  assumption
  apply State.pulseFault_ok
  assumption
  refine ok_ite ?_ ?_
  assumption
  refine ok_ite ?_ ?_
  apply State.tellChan_ok
  apply State.setFld_ok
  assumption
  apply State.pulseFault_ok
  assumption
  assumption

theorem State.leaveOff_ok (h : Ok p κ s) [MayMlt κ] [MayBly κ] {a1} : Ok p κ (State.leaveOff s a1) := by
  unfold State.leaveOff
  refine ok_ite ?_ ?_
  apply State.setChan_ok
  apply State.beginTests_ok
  assumption
  apply State.arm_ok
  assumption

theorem State.loadTest_ok (h : Ok p κ s) [MayMlt κ] [MayBly κ] {a1 a2} : Ok p κ (State.loadTest s a1 a2) := by
  unfold State.loadTest
  extract_lets x23 x24
  clear_value x23
  refine @use_ok p κ x24 _ ?_ ?_
  unfold x24
  apply State.wrN_ok
  assumption
  intro _
  clear_value x24
  refine ok_ite ?_ ?_
  apply State.failTest_ok
  assumption
  refine ok_ite ?_ ?_
  apply State.failTest_ok
  assumption
  apply State.passTest_ok
  assumption

theorem State.mltAllOff_ok (h : Ok p κ s) [MayMlt κ] [MayBly κ] : Ok p κ (State.mltAllOff s) := by
  unfold State.mltAllOff
  refine ok_foldl ?_ ?_
  assumption
  intro _ _ _
  refine ok_ite ?_ ?_
  assumption
  apply State.chanOff_ok
  assumption

theorem State.moveOn_ok (h : Ok p κ s) [MayMlt κ] [MayBly κ] {a1} : Ok p κ (State.moveOn s a1) := by
  unfold State.moveOn
  split
  assumption
  extract_lets x27
  refine @use_ok p κ x27 _ ?_ ?_
  unfold x27
  apply State.onChan_ok
  assumption
  intro _
  clear_value x27
  split
  apply State.setChan_ok
  assumption
  refine ok_ite ?_ ?_
  apply State.setChan_ok
  apply State.setFld_ok
  assumption
  apply State.arm_ok
  assumption

theorem State.testStep'_ok (h : Ok p κ s) [MayMlt κ] [MayBly κ] {a1 a2} : Ok p κ (State.testStep' s a1 a2) := by
  unfold State.testStep'
  split
  assumption
  refine ok_ite ?_ ?_
  assumption
  split
  refine ok_ite ?_ ?_
  apply State.failTest_ok
  assumption
  apply State.passTest_ok
  assumption
  refine ok_ite ?_ ?_
  apply State.onDiag_ok
  assumption
  apply State.passTest_ok
  assumption
  refine ok_ite ?_ ?_
  apply State.onDiag_ok
  assumption
  apply State.passTest_ok
  assumption
  refine ok_ite ?_ ?_
  apply State.onDiag_ok
  assumption
  apply State.loadTest_ok
  assumption
  refine ok_ite ?_ ?_
  apply State.crossTest_ok
  assumption
  assumption

theorem State.writeDiagCmd_ok (h : Ok p κ s) [MayMlt κ] [MayBly κ] {a1 a2} : Ok p κ (State.writeDiagCmd s a1 a2) := by
  unfold State.writeDiagCmd
  refine ok_ite ?_ ?_
  assumption
  refine ok_ite ?_ ?_
  apply State.setFld_ok
  assumption
  refine ok_ite ?_ ?_
  apply State.refusedField_ok
  assumption
  refine ok_ite ?_ ?_
  assumption
  extract_lets x23 x24
  clear_value x23
  clear_value x24
  refine ok_ite ?_ ?_
  assumption
  refine ok_foldl ?_ ?_
  apply State.setFld_ok
  assumption
  intro _ _ _
  apply State.setChan_ok
  apply State.beginTests_ok
  assumption

theorem State.writeMltCmd_ok (h : Ok p κ s) [MayMlt κ] [MayBly κ] {a1 a2} : Ok p κ (State.writeMltCmd s a1 a2) := by
  unfold State.writeMltCmd
  refine ok_ite ?_ ?_
  apply State.leaveOff_ok
  apply State.setFld_ok
  assumption
  assumption

theorem State.writeSweep_ok (h : Ok p κ s) [MayMlt κ] {a1 a2} : Ok p κ (State.writeSweep s a1 a2) := by
  unfold State.writeSweep
  extract_lets x23 x24 x25
  clear_value x23
  refine @use_ok p κ x24 _ ?_ ?_
  unfold x24
  apply State.setFld_ok
  apply State.setFld_ok
  assumption
  intro _
  clear_value x24
  refine @use_ok p κ x25 _ ?_ ?_
  unfold x25
  refine ok_foldl ?_ ?_
  assumption
  intro _ _ _
  apply State.wrN_ok
  assumption
  intro _
  clear_value x25
  refine ok_ite ?_ ?_
  apply State.onChan_ok
  apply State.setFld_ok
  apply State.setFld_ok
  assumption
  assumption

theorem execChannelDisable_ok (h : Ok p κ s) [MayMlt κ] [MayBly κ] {a1} : OkR p κ (execChannelDisable a1 s) := by
  unfold execChannelDisable
  extract_lets x22 x23
  clear_value x22
  clear_value x23
  refine okR_next ?_
  refine ok_ite ?_ ?_
  assumption
  split
  apply State.setChan_ok
  apply State.onChan_ok
  apply State.abortSweep_ok
  assumption
  apply State.chanOff_ok
  apply State.abortTest_ok
  assumption
  apply State.chanOff_ok
  apply State.abortTest_ok
  assumption
  apply State.chanOff_ok
  apply State.abortTest_ok
  assumption
  apply State.chanOff_ok
  apply State.abortTest_ok
  assumption
  assumption

theorem execChannelEnable_ok (h : Ok p κ s) [MayMlt κ] [MayBly κ] {a1} : OkR p κ (execChannelEnable a1 s) := by
  unfold execChannelEnable
  refine okR_next ?_
  refine ok_ite ?_ ?_
  apply State.leaveOff_ok
  apply State.onChan_ok
  assumption
  assumption

theorem execChannelStart_ok (h : Ok p κ s) [MayMlt κ] [MayBly κ] {a1} : OkR p κ (execChannelStart a1 s) := by
  unfold execChannelStart
  refine okR_next ?_
  refine ok_ite ?_ ?_
  apply State.startChan_ok
  assumption
  assumption

theorem execDiagDone_ok (h : Ok p κ s) [MayMlt κ] [MayBly κ] : OkR p κ (execDiagDone s) := by
  unfold execDiagDone
  split
  refine okR_next ?_
  assumption
  refine ok_ite ?_ ?_
  refine okR_next ?_
  assumption
  extract_lets x24 x25
  refine @use_ok p κ x24 _ ?_ ?_
  unfold x24
  refine ok_foldl ?_ ?_
  assumption
  intro _ _ _
  apply State.moveOn_ok
  assumption
  intro _
  clear_value x24
  refine @use_ok p κ x25 _ ?_ ?_
  unfold x25
  refine ok_ite ?_ ?_
  apply State.setFld_ok
  assumption
  assumption
  intro _
  clear_value x25
  refine okR_next ?_
  apply State.evt_ok
  assumption

theorem execDiagTestStep_ok (h : Ok p κ s) [MayMlt κ] [MayBly κ] {a1 a2} : OkR p κ (execDiagTestStep a1 a2 s) := by
  unfold execDiagTestStep
  refine okR_next ?_
  refine ok_ite ?_ ?_
  apply State.testStep'_ok
  assumption
  assumption

theorem execFlt_ok (h : Ok p κ s) [MayMlt κ] [MayBly κ] {a1} : OkR p κ (execFlt a1 s) := by
  unfold execFlt
  refine okR_next ?_
  refine ok_ite ?_ ?_
  apply State.fltN_ok
  assumption
  assumption

theorem execRetryClear_ok (h : Ok p κ s) [MayBly κ] {a1} : OkR p κ (execRetryClear a1 s) := by
  unfold execRetryClear
  refine okR_next ?_
  refine ok_ite ?_ ?_
  apply State.tellChan_ok
  apply State.setFld_ok
  assumption
  assumption

theorem execRetryWaitEnd_ok (h : Ok p κ s) [MayMlt κ] [MayBly κ] {a1} : OkR p κ (execRetryWaitEnd a1 s) := by
  unfold execRetryWaitEnd
  refine okR_next ?_
  refine ok_ite ?_ ?_
  apply State.beginTests_ok
  apply State.tellChan_ok
  apply State.bump_ok
  apply State.onChan_ok
  assumption
  assumption

theorem execStopRampEnd_ok (h : Ok p κ s) [MayMlt κ] [MayBly κ] {a1} : OkR p κ (execStopRampEnd a1 s) := by
  unfold execStopRampEnd
  refine okR_next ?_
  refine ok_ite ?_ ?_
  apply State.chanOff_ok
  assumption
  assumption

theorem execSweepDone_ok (h : Ok p κ s) [MayMlt κ] {a1} : OkR p κ (execSweepDone a1 s) := by
  unfold execSweepDone
  split
  refine okR_next ?_
  assumption
  refine okR_next ?_
  refine ok_ite ?_ ?_
  apply State.evt_ok
  apply State.setFld_ok
  apply State.onChan_ok
  assumption
  assumption

theorem execSweepPointDone_ok (h : Ok p κ s) [MayMlt κ] {a1 a2 a3} : OkR p κ (execSweepPointDone a1 a2 a3 s) := by
  unfold execSweepPointDone
  split
  refine okR_next ?_
  assumption
  refine okR_next ?_
  refine ok_ite ?_ ?_
  apply State.onChan_ok
  apply State.wrN_ok
  assumption
  assumption

/-! ### MalletLoop -/

theorem State.adoptDiag_ok (h : Ok p κ s) [MayMlt κ] {a1 a2 a3} : Ok p κ (State.adoptDiag s a1 a2 a3) := by
  unfold State.adoptDiag
  extract_lets x24 x25 x26 x27
  refine @use_ok p κ x24 _ ?_ ?_
  unfold x24
  apply State.wrN_ok
  apply State.wrN_ok
  assumption
  intro _
  clear_value x24
  clear_value x25
  clear_value x26
  clear_value x27
  apply State.onDiag_ok
  assumption

theorem State.adoptEnd_ok (h : Ok p κ s) {a1} : Ok p κ (State.adoptEnd s a1) := by
  unfold State.adoptEnd
  refine ok_ite ?_ ?_
  assumption
  apply State.evt_ok
  refine ok_ite ?_ ?_
  apply State.setFld_ok
  assumption
  assumption

theorem State.adoptState_ok (h : Ok p κ s) [MayMlt κ] [MayBly κ] {a1 a2 a3} : Ok p κ (State.adoptState s a1 a2 a3) := by
  unfold State.adoptState
  extract_lets x24 x25 x26 x27 x28
  clear_value x24
  clear_value x25
  clear_value x26
  refine @use_ok p κ x27 _ ?_ ?_
  unfold x27
  apply State.onChan_ok
  assumption
  intro _
  clear_value x27
  refine @use_ok p κ x28 _ ?_ ?_
  unfold x28
  split
  apply State.chanOff_ok
  assumption
  apply State.setChan_ok
  refine ok_ite ?_ ?_
  apply State.beginTests_ok
  assumption
  apply State.beginTests_ok
  assumption
  apply State.arm_ok
  assumption
  apply State.enterRun_ok
  assumption
  apply State.setChan_ok
  apply State.onChan_ok
  apply State.abortSweep_ok
  assumption
  apply State.setChan_ok
  apply State.onChan_ok
  apply State.evt_ok
  apply State.bump_ok
  apply State.abortSweep_ok
  apply State.gatesLow_ok
  assumption
  apply State.setChan_ok
  apply State.onChan_ok
  apply State.gatesLow_ok
  assumption
  intro _
  clear_value x28
  refine ok_ite ?_ ?_
  assumption
  refine ok_ite ?_ ?_
  refine ok_ite ?_ ?_
  assumption
  refine ok_ite ?_ ?_
  apply State.beginTests_ok
  apply State.onChan_ok
  assumption
  apply State.onChan_ok
  assumption
  split
  apply State.adoptEnd_ok
  apply State.onChan_ok
  assumption
  assumption

theorem State.endPeriod_ok (h : Ok p κ s) [MayMlt κ] [MayBly κ] {a1} : Ok p κ (State.endPeriod s a1) := by
  unfold State.endPeriod
  extract_lets x22
  clear_value x22
  split
  refine ok_ite ?_ ?_
  extract_lets x27 x28
  refine @use_ok p κ x27 _ ?_ ?_
  unfold x27
  apply State.onChan_ok
  refine ok_of_pair ?_ (by assumption)
  apply State.takeInj_ok
  assumption
  intro _
  clear_value x27
  refine @use_ok p κ x28 _ ?_ ?_
  unfold x28
  apply State.evt_ok
  apply State.bump_ok
  assumption
  intro _
  clear_value x28
  refine ok_ite ?_ ?_
  apply State.shutDown_ok
  assumption
  assumption
  apply State.onChan_ok
  refine ok_of_pair ?_ (by assumption)
  apply State.takeInj_ok
  assumption

theorem State.reference_ok (h : Ok p κ s) {a1} : OkP p κ (State.reference s a1) := by
  unfold State.reference
  split
  split
  refine okP_mk ?_
  refine ok_of_pair ?_ (by assumption)
  apply State.free_ok
  assumption
  refine okP_mk ?_
  refine ok_of_pair ?_ (by assumption)
  apply State.free_ok
  assumption

theorem State.refVolts_ok (h : Ok p κ s) {a1} : OkP p κ (State.refVolts s a1) := by
  unfold State.refVolts
  split
  extract_lets x27
  clear_value x27
  refine okP_mk ?_
  assumption
  split
  extract_lets x30 x31
  clear_value x30
  clear_value x31
  refine okP_mk ?_
  refine ok_of_pair ?_ (by assumption)
  apply State.reference_ok
  assumption

theorem State.loopStep_ok (h : Ok p κ s) [MayMlt κ] {a1} : Ok p κ (State.loopStep s a1) := by
  unfold State.loopStep
  split
  extract_lets x28 x29 x30 x31 x32 x33 x34 x35 x36 x37 x38 x39
  clear_value x28
  clear_value x29
  clear_value x30
  clear_value x31
  clear_value x32
  clear_value x33
  clear_value x34
  clear_value x35
  clear_value x36
  clear_value x38
  clear_value x39
  apply State.onChan_ok
  refine ok_of_pair ?_ (by assumption)
  apply State.refVolts_ok
  assumption

theorem State.refreshSense_ok (h : Ok p κ s) {a1} : Ok p κ (State.refreshSense s a1) := by
  unfold State.refreshSense
  extract_lets x22
  clear_value x22
  apply State.setFld_ok
  assumption

theorem State.loseSense_ok (h : Ok p κ s) [MayMlt κ] [MayBly κ] {a1 a2 a3} : Ok p κ (State.loseSense s a1 a2 a3) := by
  unfold State.loseSense
  extract_lets x24
  refine @use_ok p κ x24 _ ?_ ?_
  unfold x24
  apply State.onChan_ok
  assumption
  intro _
  clear_value x24
  apply State.shutDown_ok
  apply State.evt_ok
  apply State.refreshSense_ok
  assumption

theorem State.mltDecision_ok (h : Ok p κ s) [MayMlt κ] [MayBly κ] {a1 a2} : Ok p κ (State.mltDecision s a1 a2) := by
  unfold State.mltDecision
  refine ok_ite ?_ ?_
  apply State.adoptDiag_ok
  assumption
  refine ok_ite ?_ ?_
  apply State.onChan_ok
  assumption
  extract_lets x23 x24
  clear_value x23
  clear_value x24
  apply State.adoptState_ok
  apply State.setFld_ok
  apply State.setFld_ok
  assumption

theorem State.mltTake_ok (h : Ok p κ s) [MayMem κ] [MayFlips κ] [MayMlt κ] {a1 a2} : Ok p κ (State.mltTake s a1 a2) := by
  unfold State.mltTake
  refine ok_ite ?_ ?_
  assumption
  split
  apply State.onChan_ok
  refine ok_of_pair ?_ (by assumption)
  apply State.takeSink_ok
  assumption

theorem State.senseStreams_ok (h : Ok p κ s) [MayMem κ] [MayFlips κ] [MayTrs κ] [MayMlt κ] [MayBly κ] {a1} : Ok p κ (State.senseStreams s a1) := by
  unfold State.senseStreams
  refine ok_ite ?_ ?_
  split
  split
  extract_lets x32
  refine @use_ok p κ x32 _ ?_ ?_
  unfold x32
  apply State.deliver_ok
  refine ok_of_pair ?_ (by assumption)
  apply State.free_ok
  refine ok_of_pair ?_ (by assumption)
  apply State.free_ok
  assumption
  intro _
  clear_value x32
  apply State.onChan_ok
  apply State.deliver_ok
  assumption
  apply State.onChan_ok
  assumption

theorem State.thermal_ok (h : Ok p κ s) [MayMlt κ] {a1} : Ok p κ (State.thermal s a1) := by
  unfold State.thermal
  extract_lets x22 x23 x24 x25 x26 x27 x28 x29 x30 x31 x32 x33 x34 x35 x36 x37
  clear_value x22
  clear_value x23
  clear_value x24
  clear_value x25
  clear_value x26
  clear_value x27
  clear_value x28
  clear_value x29
  clear_value x30
  clear_value x31
  clear_value x32
  clear_value x33
  clear_value x34
  refine @use_ok p κ x35 _ ?_ ?_
  unfold x35
  apply State.onChan_ok
  assumption
  intro _
  clear_value x35
  refine @use_ok p κ x36 _ ?_ ?_
  unfold x36
  apply State.wrN_ok
  assumption
  intro _
  clear_value x36
  refine @use_ok p κ x37 _ ?_ ?_
  unfold x37
  apply State.maskBit_ok
  assumption
  intro _
  clear_value x37
  refine ok_ite ?_ ?_
  apply State.evt_ok
  assumption
  assumption

theorem State.mltTick_ok (h : Ok p κ s) [MayMem κ] [MayFlips κ] [MayTrs κ] [MayMlt κ] [MayBly κ] : Ok p κ (State.mltTick s) := by
  unfold State.mltTick
  refine ok_ite ?_ ?_
  extract_lets x21
  refine @use_ok p κ x21 _ ?_ ?_
  unfold x21
  refine ok_foldl ?_ ?_
  assumption
  intro _ _ _
  extract_lets x25 x26 x27 x28
  clear_value x25
  refine @use_ok p κ x26 _ ?_ ?_
  unfold x26
  apply State.setFld_ok
  assumption
  intro _
  clear_value x26
  refine @use_ok p κ x27 _ ?_ ?_
  unfold x27
  apply State.onChan_ok
  assumption
  intro _
  clear_value x27
  refine @use_ok p κ x28 _ ?_ ?_
  unfold x28
  apply State.senseStreams_ok
  assumption
  intro _
  clear_value x28
  refine ok_ite ?_ ?_
  apply State.enterRun_ok
  assumption
  assumption
  intro _
  clear_value x21
  refine ok_foldl ?_ ?_
  assumption
  intro _ _ _
  refine ok_ite ?_ ?_
  apply State.thermal_ok
  assumption
  assumption
  assumption

theorem State.sendGates_ok (h : Ok p κ s) {a1 a2} : Ok p κ (State.sendGates s a1 a2) := by
  unfold State.sendGates
  extract_lets x23 x24 x25 x26
  clear_value x23
  clear_value x24
  clear_value x25
  clear_value x26
  split
  extract_lets x33 x34
  clear_value x33
  clear_value x34
  refine ok_foldl ?_ ?_
  refine ok_of_pair ?_ (by assumption)
  apply State.free_ok
  assumption
  intro _ _ _
  apply State.emit_ok
  assumption

theorem State.takeBits_ok (h : Ok p κ s) [MayMlt κ] {a1 a2 a3} : Ok p κ (State.takeBits s a1 a2 a3) := by
  unfold State.takeBits
  apply State.refreshSense_ok
  apply State.onChan_ok
  assumption

theorem execCarrierPeakOrValley_ok (h : Ok p κ s) [MayMlt κ] [MayBly κ] {a1} : OkR p κ (execCarrierPeakOrValley a1 s) := by
  unfold execCarrierPeakOrValley
  extract_lets x22 x23 x24 x25 x26 x27 x28 x29 x30
  clear_value x22
  clear_value x23
  clear_value x24
  clear_value x25
  refine @use_ok p κ x26 _ ?_ ?_
  unfold x26
  apply State.onChan_ok
  assumption
  intro _
  clear_value x26
  clear_value x27
  refine @use_ok p κ x28 _ ?_ ?_
  unfold x28
  refine ok_ite ?_ ?_
  apply State.onChan_ok
  assumption
  assumption
  intro _
  clear_value x28
  refine @use_ok p κ x29 _ ?_ ?_
  unfold x29
  refine ok_ite ?_ ?_
  apply State.endPeriod_ok
  assumption
  assumption
  intro _
  clear_value x29
  refine @use_ok p κ x30 _ ?_ ?_
  unfold x30
  refine ok_ite ?_ ?_
  assumption
  apply State.onChan_ok
  assumption
  intro _
  clear_value x30
  refine ok_ite ?_ ?_
  refine okR_next ?_
  assumption
  refine ok_ite ?_ ?_
  refine okR_next ?_
  assumption
  refine okR_next ?_
  refine ok_ite ?_ ?_
  apply State.sendGates_ok
  assumption
  assumption

theorem execLimit_ok (h : Ok p κ s) [MayMlt κ] {a1} : OkR p κ (execLimit a1 s) := by
  unfold execLimit
  extract_lets x22 x23
  clear_value x22
  clear_value x23
  refine okR_next ?_
  refine ok_ite ?_ ?_
  apply State.emit_ok
  apply State.onChan_ok
  assumption
  assumption

theorem execLoopUpdate_ok (h : Ok p κ s) [MayMlt κ] {a1 a2 a3} : OkR p κ (execLoopUpdate a1 a2 a3 s) := by
  unfold execLoopUpdate
  refine ok_ite ?_ ?_
  refine okR_next ?_
  assumption
  extract_lets x24
  refine @use_ok p κ x24 _ ?_ ?_
  unfold x24
  apply State.takeBits_ok
  assumption
  intro _
  clear_value x24
  refine okR_next ?_
  refine ok_ite ?_ ?_
  refine ok_ite ?_ ?_
  apply State.loopStep_ok
  assumption
  refine ok_ite ?_ ?_
  assumption
  apply State.onChan_ok
  assumption
  assumption

theorem execReEstimate_ok (h : Ok p κ s) {a1 a2 a3 a4} : OkR p κ (execReEstimate a1 a2 a3 a4 s) := by
  unfold execReEstimate
  refine ok_ite ?_ ?_
  refine okR_next ?_
  assumption
  extract_lets x25 x26
  clear_value x25
  clear_value x26
  split
  extract_lets x33
  clear_value x33
  refine okR_next ?_
  apply State.wrN_ok
  refine ok_of_pair ?_ (by assumption)
  refine ok_ite ?_ ?_
  split
  refine okP_mk ?_
  refine ok_of_pair ?_ (by assumption)
  apply State.free_ok
  assumption
  refine okP_mk ?_
  assumption

theorem execSenseLoss_ok (h : Ok p κ s) [MayMlt κ] [MayBly κ] {a1 a2} : OkR p κ (execSenseLoss a1 a2 s) := by
  unfold execSenseLoss
  extract_lets x23
  clear_value x23
  refine okR_next ?_
  refine ok_ite ?_ ?_
  apply State.loseSense_ok
  assumption
  assumption

theorem execSenseOffsetCal_ok (h : Ok p κ s) [MayMlt κ] [MayBly κ] {a1 a2 a3} : OkR p κ (execSenseOffsetCal a1 a2 a3 s) := by
  unfold execSenseOffsetCal
  extract_lets x24 x25
  clear_value x24
  refine @use_ok p κ x25 _ ?_ ?_
  unfold x25
  apply State.onChan_ok
  assumption
  intro _
  clear_value x25
  refine okR_next ?_
  refine ok_ite ?_ ?_
  apply State.tell_ok
  assumption
  assumption

end Sys2Proof.Machine
end

