-- ==== Sys2Proof/Laws/KeepNet.lean ====
section
/-! SUPPORT. What the operations of the network and Cairn's rings keep: the queue and the invariant of every step. -/

set_option Elab.async false

namespace Sys2Proof.Machine

open Sys2Proof

variable {p : List Instr} {κ : Kept} {s t : State}

/-! ### NetFrames -/

theorem State.sendEth_ok (h : Ok p κ s) {a1 a2 a3 a4 a5 a6} : Ok p κ (State.sendEth s a1 a2 a3 a4 a5 a6) := by
  unfold State.sendEth
  refine ok_ite ?_ ?_
  apply State.emit_ok
  assumption
  assumption

theorem State.sendIp_ok (h : Ok p κ s) {a1 a2 a3 a4 a5 a6 a7} : OkP p κ (State.sendIp s a1 a2 a3 a4 a5 a6 a7) := by
  unfold State.sendIp
  split
  refine okP_mk ?_
  apply State.sendEth_ok
  assumption
  refine okP_mk ?_
  apply State.sendEth_ok
  apply State.bump_ok
  assumption

theorem State.igmpReport_ok (h : Ok p κ s) {a1 a2 a3} : Ok p κ (State.igmpReport s a1 a2 a3) := by
  unfold State.igmpReport
  extract_lets x24
  clear_value x24
  refine ok_snd ?_
  apply State.sendIp_ok
  assumption

theorem State.answerQuery_ok (h : Ok p κ s) {a1} : Ok p κ (State.answerQuery s a1) := by
  unfold State.answerQuery
  refine ok_foldl ?_ ?_
  assumption
  intro _ _ _
  refine ok_foldl ?_ ?_
  assumption
  intro _ _ _
  refine ok_ite ?_ ?_
  apply State.igmpReport_ok
  assumption
  assumption

theorem State.onNet_ok (h : Ok p κ s) [MayNet κ] {a1} : Ok p κ (State.onNet s a1) := by
  unfold State.onNet
  refine ok_mk ?_
  assumption

theorem State.learnArp_ok (h : Ok p κ s) [MayNet κ] {a1 a2 a3} : Ok p κ (State.learnArp s a1 a2 a3) := by
  unfold State.learnArp
  apply State.onNet_ok
  assumption

theorem State.arpReceive_ok (h : Ok p κ s) [MayNet κ] {a1 a2} : OkP p κ (State.arpReceive s a1 a2) := by
  unfold State.arpReceive
  extract_lets x23 x24 x25 x26
  clear_value x23
  clear_value x24
  clear_value x25
  refine @use_ok p κ x26 _ ?_ ?_
  unfold x26
  apply State.learnArp_ok
  assumption
  intro _
  clear_value x26
  refine ok_ite ?_ ?_
  refine okP_mk ?_
  assumption
  refine ok_ite ?_ ?_
  refine okP_mk ?_
  apply State.sendEth_ok
  assumption
  refine okP_mk ?_
  assumption

theorem State.ipReceive_ok (h : Ok p κ s) {a1 a2 a3} : OkP p κ (State.ipReceive s a1 a2 a3) := by
  unfold State.ipReceive
  extract_lets x24 x25 x26 x27 x28 x29
  clear_value x24
  clear_value x25
  clear_value x26
  clear_value x27
  clear_value x28
  clear_value x29
  refine ok_ite ?_ ?_
  refine okP_mk ?_
  assumption
  split
  refine ok_ite ?_ ?_
  refine okP_mk ?_
  apply State.sendEth_ok
  assumption
  refine okP_mk ?_
  assumption
  refine ok_ite ?_ ?_
  refine okP_mk ?_
  apply State.answerQuery_ok
  assumption
  refine okP_mk ?_
  assumption
  refine okP_mk ?_
  assumption
  refine okP_mk ?_
  assumption

theorem State.reportStream_ok (h : Ok p κ s) {a1 a2} : Ok p κ (State.reportStream s a1 a2) := by
  unfold State.reportStream
  refine ok_foldl ?_ ?_
  assumption
  intro _ _ _
  refine ok_ite ?_ ?_
  apply State.igmpReport_ok
  assumption
  assumption

theorem State.rxDrop_ok (h : Ok p κ s) {a1} : Ok p κ (State.rxDrop s a1) := by
  unfold State.rxDrop
  apply State.evt_ok
  apply State.bump_ok
  assumption

theorem State.udp_ok (h : Ok p κ s) {a1 a2 a3} : OkP p κ (State.udp s a1 a2 a3) := by
  unfold State.udp
  split
  refine okP_mk ?_
  refine ok_of_pair ?_ (by assumption)
  apply State.free_ok
  assumption

theorem execArpAge_ok (h : Ok p κ s) [MayNet κ] {a1} : OkR p κ (execArpAge a1 s) := by
  unfold execArpAge
  refine okR_next ?_
  apply State.onNet_ok
  assumption

theorem execEthFrameReceive_ok (h : Ok p κ s) [MayTime κ] [MayPlb κ] [MayNet κ] {a1 a2 a3 a4} : OkR p κ (execEthFrameReceive a1 a2 a3 a4 s) := by
  unfold execEthFrameReceive
  extract_lets x25 x26 x27 x28 x29 x30 x31 x32 x33 x34 x35
  clear_value x25
  refine @use_ok p κ x26 _ ?_ ?_
  unfold x26
  apply State.advance_ok
  assumption
  intro _
  clear_value x26
  clear_value x27
  clear_value x28
  clear_value x29
  clear_value x30
  clear_value x31
  clear_value x32
  clear_value x33
  clear_value x34
  refine @use_ok p κ x35 _ ?_ ?_
  unfold x35
  refine ok_foldl ?_ ?_
  assumption
  intro _ _ _
  apply State.captureOn_ok
  assumption
  intro _
  clear_value x35
  refine ok_ite ?_ ?_
  refine okR_next ?_
  assumption
  refine ok_ite ?_ ?_
  refine okR_next ?_
  apply State.bump_ok
  assumption
  refine ok_ite ?_ ?_
  refine okR_next ?_
  apply State.rxDrop_ok
  assumption
  split
  refine okR_next ?_
  refine ok_ite ?_ ?_
  refine ok_of_pair ?_ (by assumption)
  split
  apply State.arpReceive_ok
  assumption
  apply State.ipReceive_ok
  assumption
  refine okP_mk ?_
  assumption
  refine okP_mk ?_
  assumption
  refine okP_mk ?_
  assumption
  apply State.rxDrop_ok
  refine ok_of_pair ?_ (by assumption)
  split
  apply State.arpReceive_ok
  assumption
  apply State.ipReceive_ok
  assumption
  refine okP_mk ?_
  assumption
  refine okP_mk ?_
  assumption
  refine okP_mk ?_
  assumption

/-! ### Ptp -/

theorem State.setPtpState_ok (h : Ok p κ s) {a1 a2} : Ok p κ (State.setPtpState s a1 a2) := by
  unfold State.setPtpState
  refine ok_ite ?_ ?_
  assumption
  apply State.evt_ok
  apply State.setFld_ok
  assumption

theorem State.onPtp_ok (h : Ok p κ s) [MayNet κ] {a1 a2} : Ok p κ (State.onPtp s a1 a2) := by
  unfold State.onPtp
  apply State.onNet_ok
  assumption

theorem State.ptpNoMaster_ok (h : Ok p κ s) [MayNet κ] {a1} : Ok p κ (State.ptpNoMaster s a1) := by
  unfold State.ptpNoMaster
  extract_lets x22 x23
  refine @use_ok p κ x22 _ ?_ ?_
  unfold x22
  apply State.onPtp_ok
  assumption
  intro _
  clear_value x22
  refine @use_ok p κ x23 _ ?_ ?_
  unfold x23
  apply State.setQuality_ok
  assumption
  intro _
  clear_value x23
  refine ok_ite ?_ ?_
  assumption
  apply State.refLoss_ok
  assumption

theorem State.ptpAlone_ok (h : Ok p κ s) [MayNet κ] {a1} : Ok p κ (State.ptpAlone s a1) := by
  unfold State.ptpAlone
  apply State.setPtpState_ok
  apply State.ptpNoMaster_ok
  assumption

theorem State.showGm_ok (h : Ok p κ s) {a1 a2} : Ok p κ (State.showGm s a1 a2) := by
  unfold State.showGm
  extract_lets x23
  clear_value x23
  apply State.wrN_ok
  apply State.wrN_ok
  apply State.wrN_ok
  assumption

theorem State.bmca_ok (h : Ok p κ s) [MayNet κ] {a1} : Ok p κ (State.bmca s a1) := by
  unfold State.bmca
  split
  assumption
  refine ok_ite ?_ ?_
  refine ok_ite ?_ ?_
  assumption
  apply State.ptpAlone_ok
  assumption
  extract_lets x25 x26 x27
  clear_value x25
  refine @use_ok p κ x26 _ ?_ ?_
  unfold x26
  apply State.onPtp_ok
  assumption
  intro _
  clear_value x26
  refine @use_ok p κ x27 _ ?_ ?_
  unfold x27
  refine ok_ite ?_ ?_
  assumption
  apply State.setPtpState_ok
  apply State.onPtp_ok
  assumption
  intro _
  clear_value x27
  apply State.setQuality_ok
  apply State.showGm_ok
  assumption

theorem State.ptpMeasure_ok (h : Ok p κ s) [MayTime κ] [MayBly κ] {a1} : Ok p κ (State.ptpMeasure s a1) := by
  unfold State.ptpMeasure
  split
  extract_lets x33 x34
  clear_value x33
  refine @use_ok p κ x34 _ ?_ ?_
  unfold x34
  apply State.setPtpState_ok
  assumption
  intro _
  clear_value x34
  refine ok_ite ?_ ?_
  apply State.timeOffset_ok
  assumption
  assumption
  assumption

theorem State.setDelay_ok (h : Ok p κ s) [MayNet κ] {a1 a2} : Ok p κ (State.setDelay s a1 a2) := by
  unfold State.setDelay
  apply State.wrN_ok
  apply State.onPtp_ok
  assumption

theorem State.pdelayDone_ok (h : Ok p κ s) [MayTime κ] [MayNet κ] [MayBly κ] {a1 a2 a3 a4 a5 a6} : Ok p κ (State.pdelayDone s a1 a2 a3 a4 a5 a6) := by
  unfold State.pdelayDone
  extract_lets x27 x28 x29
  refine @use_ok p κ x27 _ ?_ ?_
  unfold x27
  apply State.onPtp_ok
  assumption
  intro _
  clear_value x27
  clear_value x28
  clear_value x29
  apply State.ptpMeasure_ok
  apply State.setDelay_ok
  assumption

theorem State.ptpAnnounce_ok (h : Ok p κ s) [MayNet κ] {a1 a2 a3} : Ok p κ (State.ptpAnnounce s a1 a2 a3) := by
  unfold State.ptpAnnounce
  refine ok_ite ?_ ?_
  assumption
  extract_lets x24 x25 x26
  clear_value x24
  clear_value x25
  clear_value x26
  apply State.bmca_ok
  apply State.onPtp_ok
  assumption

theorem State.ptpDemote_ok (h : Ok p κ s) [MayNet κ] : Ok p κ (State.ptpDemote s) := by
  unfold State.ptpDemote
  refine ok_foldl ?_ ?_
  assumption
  intro _ _ _
  refine ok_ite ?_ ?_
  apply State.ptpAlone_ok
  assumption
  assumption

theorem State.ptpRestart_ok (h : Ok p κ s) [MayNet κ] {a1} : Ok p κ (State.ptpRestart s a1) := by
  unfold State.ptpRestart
  extract_lets x22
  refine @use_ok p κ x22 _ ?_ ?_
  unfold x22
  apply State.onNet_ok
  assumption
  intro _
  clear_value x22
  apply State.setPtpState_ok
  apply State.ptpNoMaster_ok
  assumption

theorem State.sendSsm_ok (h : Ok p κ s) {a1 a2} : Ok p κ (State.sendSsm s a1 a2) := by
  unfold State.sendSsm
  refine ok_ite ?_ ?_
  apply State.sendEth_ok
  assumption
  assumption

theorem State.selectTold_ok (h : Ok p κ s) [MayPlb κ] {a1 a2} : Ok p κ (State.selectTold s a1 a2) := by
  unfold State.selectTold
  extract_lets x23
  refine @use_ok p κ x23 _ ?_ ?_
  unfold x23
  apply State.select_ok
  assumption
  intro _
  clear_value x23
  refine ok_foldl ?_ ?_
  assumption
  intro _ _ _
  refine ok_ite ?_ ?_
  assumption
  apply State.sendSsm_ok
  assumption

theorem State.sendPtp_ok (h : Ok p κ s) {a1 a2 a3 a4} : Ok p κ (State.sendPtp s a1 a2 a3 a4) := by
  unfold State.sendPtp
  extract_lets x25 x26 x27
  clear_value x25
  clear_value x26
  clear_value x27
  refine ok_ite ?_ ?_
  apply State.sendEth_ok
  assumption
  split
  refine ok_snd ?_
  apply State.sendIp_ok
  refine ok_of_pair ?_ (by assumption)
  apply State.udp_ok
  assumption

theorem State.setSsm_ok (h : Ok p κ s) [MayNet κ] {a1 a2} : Ok p κ (State.setSsm s a1 a2) := by
  unfold State.setSsm
  extract_lets x23
  refine @use_ok p κ x23 _ ?_ ?_
  unfold x23
  apply State.onNet_ok
  assumption
  intro _
  clear_value x23
  refine ok_foldl ?_ ?_
  assumption
  intro _ _ _
  refine ok_ite ?_ ?_
  apply State.setQuality_ok
  assumption
  assumption

theorem State.writePtpCtrl_ok (h : Ok p κ s) [MayNet κ] {a1 a2} : Ok p κ (State.writePtpCtrl s a1 a2) := by
  unfold State.writePtpCtrl
  extract_lets x23 x24 x25 x26 x27 x28
  clear_value x23
  clear_value x24
  refine @use_ok p κ x25 _ ?_ ?_
  unfold x25
  apply State.wr_ok
  assumption
  intro _
  clear_value x25
  clear_value x26
  refine @use_ok p κ x27 _ ?_ ?_
  unfold x27
  refine ok_ite ?_ ?_
  assumption
  apply State.wrN_ok
  assumption
  intro _
  clear_value x27
  clear_value x28
  refine ok_ite ?_ ?_
  apply State.ptpRestart_ok
  assumption
  refine ok_ite ?_ ?_
  apply State.setPtpState_ok
  apply State.ptpNoMaster_ok
  assumption
  refine ok_ite ?_ ?_
  apply State.ptpAlone_ok
  assumption
  assumption

theorem execAnnounceReceiptTimeout_ok (h : Ok p κ s) [MayNet κ] {a1} : OkR p κ (execAnnounceReceiptTimeout a1 s) := by
  unfold execAnnounceReceiptTimeout
  extract_lets x22
  clear_value x22
  refine okR_next ?_
  refine ok_ite ?_ ?_
  apply State.ptpAlone_ok
  apply State.onPtp_ok
  assumption
  assumption

theorem execEsmcPdu_ok (h : Ok p κ s) [MayNet κ] {a1 a2} : OkR p κ (execEsmcPdu a1 a2 s) := by
  unfold execEsmcPdu
  refine okR_next ?_
  refine ok_ite ?_ ?_
  apply State.setSsm_ok
  assumption
  assumption

theorem execEsmcPduTimeout_ok (h : Ok p κ s) [MayNet κ] {a1} : OkR p κ (execEsmcPduTimeout a1 s) := by
  unfold execEsmcPduTimeout
  refine okR_next ?_
  apply State.setSsm_ok
  assumption

theorem execEsmcSend_ok (h : Ok p κ s) {a1} : OkR p κ (execEsmcSend a1 s) := by
  unfold execEsmcSend
  refine okR_next ?_
  apply State.sendSsm_ok
  assumption

theorem execPtpMessage_ok (h : Ok p κ s) [MayTime κ] [MayNet κ] [MayBly κ] {a1 a2} : OkR p κ (execPtpMessage a1 a2 s) := by
  unfold execPtpMessage
  extract_lets x23 x24 x25 x26 x27 x28 x29
  clear_value x23
  clear_value x24
  clear_value x25
  clear_value x26
  clear_value x27
  clear_value x28
  clear_value x29
  refine ok_ite ?_ ?_
  refine okR_next ?_
  assumption
  split
  refine okR_next ?_
  apply State.ptpAnnounce_ok
  assumption
  refine okR_next ?_
  refine ok_ite ?_ ?_
  assumption
  refine ok_ite ?_ ?_
  apply State.onPtp_ok
  assumption
  apply State.ptpMeasure_ok
  apply State.onPtp_ok
  assumption
  split
  refine okR_next ?_
  refine ok_ite ?_ ?_
  apply State.ptpMeasure_ok
  apply State.onPtp_ok
  assumption
  assumption
  refine okR_next ?_
  assumption
  refine okR_next ?_
  refine ok_ite ?_ ?_
  apply State.sendPtp_ok
  assumption
  assumption
  split
  refine okR_next ?_
  refine ok_ite ?_ ?_
  apply State.ptpMeasure_ok
  apply State.setDelay_ok
  apply State.onPtp_ok
  assumption
  assumption
  refine okR_next ?_
  assumption
  refine ok_ite ?_ ?_
  refine okR_next ?_
  assumption
  refine ok_ite ?_ ?_
  refine okR_next ?_
  apply State.sendPtp_ok
  assumption
  refine okR_next ?_
  apply State.sendPtp_ok
  apply State.sendPtp_ok
  assumption
  split
  refine okR_next ?_
  refine ok_ite ?_ ?_
  assumption
  refine ok_ite ?_ ?_
  apply State.onPtp_ok
  assumption
  apply State.pdelayDone_ok
  assumption
  refine okR_next ?_
  assumption
  split
  refine okR_next ?_
  refine ok_ite ?_ ?_
  apply State.pdelayDone_ok
  assumption
  assumption
  refine okR_next ?_
  assumption
  refine okR_next ?_
  assumption

theorem execPtpSend_ok (h : Ok p κ s) [MayNet κ] {a1 a2} : OkR p κ (execPtpSend a1 a2 s) := by
  unfold execPtpSend
  extract_lets x23 x24 x25 x26 x27 x28 x29 x30 x31 x32 x33
  clear_value x23
  clear_value x24
  clear_value x25
  clear_value x26
  clear_value x27
  clear_value x28
  clear_value x29
  refine @use_ok p κ x30 _ ?_ ?_
  unfold x30
  apply State.onPtp_ok
  assumption
  intro _
  clear_value x30
  clear_value x31
  refine @use_ok p κ x32 _ ?_ ?_
  unfold x32
  apply State.onPtp_ok
  assumption
  intro _
  clear_value x32
  refine @use_ok p κ x33 _ ?_ ?_
  unfold x33
  apply State.onPtp_ok
  assumption
  intro _
  clear_value x33
  refine ok_ite ?_ ?_
  refine okR_next ?_
  assumption
  split
  refine ok_ite ?_ ?_
  refine okR_next ?_
  assumption
  refine okR_next ?_
  apply State.sendPtp_ok
  assumption
  refine ok_ite ?_ ?_
  refine okR_next ?_
  assumption
  refine okR_next ?_
  apply State.sendPtp_ok
  assumption
  refine ok_ite ?_ ?_
  refine okR_next ?_
  assumption
  refine okR_next ?_
  apply State.sendPtp_ok
  assumption
  refine ok_ite ?_ ?_
  refine okR_next ?_
  assumption
  refine okR_next ?_
  apply State.sendPtp_ok
  assumption
  refine ok_ite ?_ ?_
  refine okR_next ?_
  assumption
  refine okR_next ?_
  apply State.sendPtp_ok
  assumption

theorem execSwitchRef_ok (h : Ok p κ s) [MayPlb κ] {a1} : OkR p κ (execSwitchRef a1 s) := by
  unfold execSwitchRef
  refine ok_ite ?_ ?_
  refine okR_next ?_
  assumption
  split
  refine okR_next ?_
  apply State.selectTold_ok
  assumption
  extract_lets x26 x27
  clear_value x26
  clear_value x27
  refine okR_next ?_
  apply State.selectTold_ok
  assumption

theorem execWtrExpire_ok (h : Ok p κ s) [MayPlb κ] {a1} : OkR p κ (execWtrExpire a1 s) := by
  unfold execWtrExpire
  refine ok_ite ?_ ?_
  refine okR_next ?_
  assumption
  extract_lets x22
  clear_value x22
  split
  refine okR_next ?_
  refine ok_ite ?_ ?_
  apply State.selectTold_ok
  assumption
  assumption
  refine okR_next ?_
  assumption

/-! ### CairnRing -/

theorem State.beginStage_ok (h : Ok p κ s) {a1} : Ok p κ (State.beginStage s a1) := by
  unfold State.beginStage
  apply State.setFld_ok
  apply State.setFld_ok
  apply State.setFld_ok
  assumption

theorem State.onCrn_ok (h : Ok p κ s) [MayCrn κ] {a1} : Ok p κ (State.onCrn s a1) := by
  unfold State.onCrn
  refine ok_mk ?_
  assumption

theorem State.mbxWrite_ok (h : Ok p κ s) [MayMem κ] [MayFlips κ] {a1 a2} : Ok p κ (State.mbxWrite s a1 a2) := by
  unfold State.mbxWrite
  apply State.setWord_ok
  assumption

theorem State.postWords_ok (h : Ok p κ s) [MayMem κ] [MayFlips κ] {a1 a2} : Ok p κ (State.postWords s a1 a2) := by
  unfold State.postWords
  extract_lets x23 x24 x25 x26 x27 x28 x29 x30 x31 x32
  clear_value x23
  clear_value x24
  refine @use_ok p κ x25 _ ?_ ?_
  unfold x25
  refine ok_foldl ?_ ?_
  assumption
  intro _ _ _
  apply State.mbxWrite_ok
  assumption
  intro _
  clear_value x25
  refine @use_ok p κ x26 _ ?_ ?_
  unfold x26
  apply State.mbxWrite_ok
  assumption
  intro _
  clear_value x26
  clear_value x27
  clear_value x28
  refine @use_ok p κ x29 _ ?_ ?_
  unfold x29
  apply State.wrN_ok
  assumption
  intro _
  clear_value x29
  refine @use_ok p κ x30 _ ?_ ?_
  unfold x30
  apply State.bump_ok
  assumption
  intro _
  clear_value x30
  refine @use_ok p κ x31 _ ?_ ?_
  unfold x31
  refine ok_ite ?_ ?_
  assumption
  apply State.evt_ok
  apply State.bump_ok
  assumption
  intro _
  clear_value x31
  refine @use_ok p κ x32 _ ?_ ?_
  unfold x32
  refine ok_ite ?_ ?_
  apply State.evt_ok
  apply State.bump_ok
  assumption
  refine ok_ite ?_ ?_
  apply State.evt_ok
  assumption
  assumption
  intro _
  clear_value x32
  apply State.evt_ok
  assumption

theorem State.refreshOutstanding_ok (h : Ok p κ s) : Ok p κ (State.refreshOutstanding s) := by
  unfold State.refreshOutstanding
  apply State.setFld_ok
  assumption

theorem State.enterWindow_ok (h : Ok p κ s) [MayCrn κ] {a1 a2 a3} : Ok p κ (State.enterWindow s a1 a2 a3) := by
  unfold State.enterWindow
  refine ok_ite ?_ ?_
  assumption
  apply State.onCrn_ok
  assumption

theorem State.completeCmd_ok (h : Ok p κ s) [MayMem κ] [MayFlips κ] [MayCrn κ] {a1 a2} : Ok p κ (State.completeCmd s a1 a2) := by
  unfold State.completeCmd
  extract_lets x23 x24 x25 x26
  clear_value x23
  clear_value x24
  refine @use_ok p κ x25 _ ?_ ?_
  unfold x25
  apply State.onCrn_ok
  assumption
  intro _
  clear_value x25
  refine @use_ok p κ x26 _ ?_ ?_
  unfold x26
  refine ok_ite ?_ ?_
  refine ok_foldl ?_ ?_
  apply State.postWords_ok
  assumption
  intro _ _ _
  apply State.postWords_ok
  assumption
  assumption
  intro _
  clear_value x26
  apply State.refreshOutstanding_ok
  apply State.enterWindow_ok
  assumption

theorem State.copyBankWords_ok (h : Ok p κ s) [MayMem κ] [MayFlips κ] [MayBnk κ] {a1 a2 a3} : OkP p κ (State.copyBankWords s a1 a2 a3) := by
  induction a1 generalizing s a2 a3
  unfold State.copyBankWords
  refine okP_mk ?_
  assumption
  rename_i ih
  unfold State.copyBankWords
  split
  refine okP_mk ?_
  refine ok_of_pair ?_ (by assumption)
  apply State.bankRead_ok
  assumption
  split
  refine okP_mk ?_
  refine ok_of_pair ?_ (by assumption)
  apply State.bankWrite_ok
  refine ok_of_pair ?_ (by assumption)
  apply State.bankRead_ok
  assumption
  apply ih
  refine ok_of_pair ?_ (by assumption)
  apply State.bankWrite_ok
  refine ok_of_pair ?_ (by assumption)
  apply State.bankRead_ok
  assumption

theorem State.detach_ok (h : Ok p κ s) [MayCrn κ] {a1} : Ok p κ (State.detach s a1) := by
  unfold State.detach
  apply State.refreshOutstanding_ok
  apply State.onCrn_ok
  assumption

theorem State.mbxRead_ok (h : Ok p κ s) [MayBnk κ] {a1} : OkP p κ (State.mbxRead s a1) := by
  unfold State.mbxRead
  split
  refine okP_mk ?_
  refine ok_of_pair ?_ (by assumption)
  apply State.checkedRead_ok
  assumption

theorem State.takeEntry_ok (h : Ok p κ s) [MayMem κ] [MayFlips κ] [MayBnk κ] [MayCrn κ] [MayBly κ] : Ok p κ (State.takeEntry s) := by
  unfold State.takeEntry
  extract_lets x21 x22
  clear_value x21
  clear_value x22
  split
  extract_lets x29 x30
  refine @use_ok p κ x29 _ ?_ ?_
  unfold x29
  apply State.mbxWrite_ok
  refine ok_of_pair ?_ (by assumption)
  refine ok_foldlP ?_ ?_
  refine okP_mk ?_
  assumption
  intro _ _ _
  split
  refine okP_mk ?_
  refine ok_of_pair ?_ (by assumption)
  apply State.mbxRead_ok
  refine ok_snd ?_
  assumption
  intro _
  clear_value x29
  clear_value x30
  refine ok_ite ?_ ?_
  split
  apply State.sendBelay_ok
  apply State.onCrn_ok
  refine ok_of_pair ?_ (by assumption)
  apply State.newTag_ok
  assumption
  apply State.onCrn_ok
  assumption

theorem State.startCmd_ok (h : Ok p κ s) [MayCrn κ] {a1} : Ok p κ (State.startCmd s a1) := by
  unfold State.startCmd
  apply State.refreshOutstanding_ok
  apply State.onCrn_ok
  assumption

theorem State.startFront_ok (h : Ok p κ s) [MayMem κ] [MayFlips κ] [MayCrn κ] {a1} : Ok p κ (State.startFront s a1) := by
  unfold State.startFront
  extract_lets x22
  refine @use_ok p κ x22 _ ?_ ?_
  unfold x22
  apply State.onCrn_ok
  assumption
  intro _
  clear_value x22
  split
  refine ok_ite ?_ ?_
  apply State.postWords_ok
  assumption
  assumption
  refine ok_ite ?_ ?_
  apply State.onCrn_ok
  assumption
  split
  apply State.completeCmd_ok
  assumption
  apply State.startCmd_ok
  refine ok_ite ?_ ?_
  apply State.beginStage_ok
  assumption
  assumption

theorem State.pump_ok (h : Ok p κ s) [MayMem κ] [MayFlips κ] [MayBnk κ] [MayCrn κ] [MayBly κ] {a1} : Ok p κ (State.pump a1 s) := by
  induction a1 generalizing s
  unfold State.pump
  assumption
  rename_i ih
  unfold State.pump
  refine ok_ite ?_ ?_
  assumption
  extract_lets x23 x24
  clear_value x23
  refine @use_ok p κ x24 _ ?_ ?_
  unfold x24
  refine ok_snd ?_
  apply State.mbxRead_ok
  assumption
  intro _
  clear_value x24
  refine ok_ite ?_ ?_
  apply ih
  apply State.takeEntry_ok
  assumption
  split
  assumption
  refine ok_ite ?_ ?_
  assumption
  refine ok_ite ?_ ?_
  refine ok_ite ?_ ?_
  assumption
  apply State.evt_ok
  apply State.onCrn_ok
  assumption
  apply ih
  apply State.startFront_ok
  assumption

theorem State.pumpAll_ok (h : Ok p κ s) [MayMem κ] [MayFlips κ] [MayBnk κ] [MayCrn κ] [MayBly κ] : Ok p κ (State.pumpAll s) := by
  unfold State.pumpAll
  apply State.pump_ok
  assumption

theorem State.takenTo_ok (h : Ok p κ s) {a1 a2} : OkP p κ (State.takenTo s a1 a2) := by
  unfold State.takenTo
  extract_lets x23
  clear_value x23
  refine ok_ite ?_ ?_
  split
  refine okP_mk ?_
  refine ok_of_pair ?_ (by assumption)
  apply State.free_ok
  assumption
  refine okP_mk ?_
  assumption

theorem State.readProd_ok (h : Ok p κ s) [MayBnk κ] [MayCrn κ] : Ok p κ (State.readProd s) := by
  unfold State.readProd
  extract_lets x21 x22
  refine @use_okP p κ _ x21 _ ?_ ?_
  unfold x21
  apply State.mbxRead_ok
  assumption
  intro _
  clear_value x21
  refine @use_okP p κ _ x22 _ ?_ ?_
  unfold x22
  apply State.takenTo_ok
  refine ok_snd ?_
  assumption
  intro _
  clear_value x22
  apply State.onCrn_ok
  refine ok_snd ?_
  assumption

theorem State.ringDoorbell_ok (h : Ok p κ s) [MayMem κ] [MayFlips κ] [MayBnk κ] [MayCrn κ] [MayBly κ] : Ok p κ (State.ringDoorbell s) := by
  unfold State.ringDoorbell
  refine ok_ite ?_ ?_
  apply State.pumpAll_ok
  apply State.readProd_ok
  assumption
  assumption

theorem State.runCmd_ok (h : Ok p κ s) [MayMem κ] [MayFlips κ] [MayBnk κ] [MayCrn κ] [MayBly κ] {a1} {k : Cmd → State → State} (hk : ∀ c t, Ok p κ t → Ok p κ (k c t)) : OkR p κ (State.runCmd s a1 k) := by
  unfold State.runCmd
  split
  refine okR_next ?_
  assumption
  refine okR_next ?_
  refine ok_ite ?_ ?_
  apply State.pumpAll_ok
  apply hk
  assumption
  assumption

theorem State.setDir_ok (h : Ok p κ s) {a1 a2 a3 a4 a5} : Ok p κ (State.setDir s a1 a2 a3 a4 a5) := by
  unfold State.setDir
  apply State.wrN_ok
  apply State.wrN_ok
  apply State.wrN_ok
  apply State.wrN_ok
  assumption

theorem State.writeStoreCtrl_ok (h : Ok p κ s) {a1 a2} : Ok p κ (State.writeStoreCtrl s a1 a2) := by
  unfold State.writeStoreCtrl
  extract_lets x23 x24
  clear_value x23
  clear_value x24
  refine ok_ite ?_ ?_
  assumption
  refine ok_ite ?_ ?_
  apply State.refusedField_ok
  assumption
  refine ok_foldl ?_ ?_
  apply State.setFld_ok
  apply State.setFld_ok
  assumption
  intro _ _ _
  apply State.setDir_ok
  assumption

theorem execCairnNop_ok (h : Ok p κ s) [MayMem κ] [MayFlips κ] [MayBnk κ] [MayCrn κ] [MayBly κ] : OkR p κ (execCairnNop s) := by
  unfold execCairnNop
  apply State.runCmd_ok
  assumption
  intro _ _ _
  apply State.completeCmd_ok
  assumption

theorem execCplWaitEnd_ok (h : Ok p κ s) [MayMem κ] [MayFlips κ] [MayBnk κ] [MayCrn κ] [MayBly κ] : OkR p κ (execCplWaitEnd s) := by
  unfold execCplWaitEnd
  refine okR_next ?_
  refine ok_ite ?_ ?_
  apply State.pumpAll_ok
  assumption
  assumption

theorem execStore_ok (h : Ok p κ s) [MayMem κ] [MayFlips κ] [MayBnk κ] [MayCrn κ] [MayBly κ] : OkR p κ (execStore s) := by
  unfold execStore
  apply State.runCmd_ok
  assumption
  intro _ _ _
  extract_lets x24 x25 x26
  clear_value x24
  clear_value x25
  clear_value x26
  refine ok_ite ?_ ?_
  apply State.completeCmd_ok
  apply State.setDir_ok
  assumption
  split
  apply State.completeCmd_ok
  assumption
  split
  refine ok_ite ?_ ?_
  apply State.completeCmd_ok
  apply State.setDir_ok
  refine ok_of_pair ?_ (by assumption)
  apply State.copyBankWords_ok
  assumption
  apply State.completeCmd_ok
  refine ok_of_pair ?_ (by assumption)
  apply State.copyBankWords_ok
  assumption

/-! ### NetStreams -/

theorem State.deliverStream_ok (h : Ok p κ s) [MayMem κ] [MayFlips κ] [MayTrs κ] [MayBly κ] {a1 a2} : Ok p κ (State.deliverStream s a1 a2) := by
  unfold State.deliverStream
  refine ok_foldl ?_ ?_
  assumption
  intro _ _ _
  split
  apply State.deliver_ok
  refine ok_of_pair ?_ (by assumption)
  refine ok_ite ?_ ?_
  apply State.free_ok
  assumption
  refine okP_mk ?_
  assumption

theorem State.lateStream_ok (h : Ok p κ s) [MayMem κ] [MayFlips κ] {a1} : Ok p κ (State.lateStream s a1) := by
  unfold State.lateStream
  refine ok_foldl ?_ ?_
  assumption
  intro _ _ _
  apply State.count_ok
  assumption

theorem State.onRxs_ok (h : Ok p κ s) [MayNet κ] {a1 a2} : Ok p κ (State.onRxs s a1 a2) := by
  unfold State.onRxs
  apply State.onNet_ok
  assumption

theorem State.netRxTick_ok (h : Ok p κ s) [MayMem κ] [MayFlips κ] [MayTrs κ] [MayNet κ] [MayBly κ] : Ok p κ (State.netRxTick s) := by
  unfold State.netRxTick
  split
  refine ok_foldl ?_ ?_
  assumption
  intro _ _ _
  extract_lets x28 x29 x30 x31
  clear_value x28
  clear_value x29
  clear_value x30
  refine @use_ok p κ x31 _ ?_ ?_
  unfold x31
  apply State.onRxs_ok
  assumption
  intro _
  clear_value x31
  refine ok_ite ?_ ?_
  split
  apply State.deliverStream_ok
  assumption
  assumption
  refine ok_ite ?_ ?_
  apply State.deliverStream_ok
  assumption
  assumption

theorem State.netTake_ok (h : Ok p κ s) [MayMem κ] [MayFlips κ] [MayNet κ] {a1 a2} : Ok p κ (State.netTake s a1 a2) := by
  unfold State.netTake
  extract_lets x23
  clear_value x23
  refine ok_ite ?_ ?_
  split
  split
  refine ok_ite ?_ ?_
  refine ok_of_pair ?_ (by assumption)
  apply State.takeSink_ok
  assumption
  split
  extract_lets x38
  clear_value x38
  apply State.onNet_ok
  refine ok_of_pair ?_ (by assumption)
  refine ok_ite ?_ ?_
  apply State.free_ok
  refine ok_of_pair ?_ (by assumption)
  apply State.takeSink_ok
  assumption
  refine okP_mk ?_
  refine ok_of_pair ?_ (by assumption)
  apply State.takeSink_ok
  assumption
  assumption

theorem State.readDesc_ok (h : Ok p κ s) [MayBnk κ] {a1} : OkP p κ (State.readDesc s a1) := by
  unfold State.readDesc
  split
  extract_lets x29
  clear_value x29
  split
  refine okP_mk ?_
  refine ok_of_pair ?_ (by assumption)
  apply State.burstRead_ok
  refine ok_of_pair ?_ (by assumption)
  apply State.burstRead_ok
  assumption
  refine okP_mk ?_
  refine ok_of_pair ?_ (by assumption)
  apply State.burstRead_ok
  refine ok_of_pair ?_ (by assumption)
  apply State.burstRead_ok
  assumption
  refine okP_mk ?_
  refine ok_of_pair ?_ (by assumption)
  apply State.burstRead_ok
  refine ok_of_pair ?_ (by assumption)
  apply State.burstRead_ok
  assumption
  refine okP_mk ?_
  refine ok_of_pair ?_ (by assumption)
  apply State.burstRead_ok
  assumption

theorem State.refreshStreams_ok (h : Ok p κ s) : Ok p κ (State.refreshStreams s) := by
  unfold State.refreshStreams
  extract_lets x21 x22 x23 x24 x25 x26 x27
  clear_value x21
  clear_value x22
  clear_value x23
  clear_value x24
  refine @use_ok p κ x25 _ ?_ ?_
  unfold x25
  apply State.wrN_ok
  assumption
  intro _
  clear_value x25
  refine @use_ok p κ x26 _ ?_ ?_
  unfold x26
  apply State.wrN_ok
  assumption
  intro _
  clear_value x26
  refine @use_ok p κ x27 _ ?_ ?_
  unfold x27
  refine ok_foldl ?_ ?_
  assumption
  intro _ _ _
  apply State.wrN_ok
  assumption
  intro _
  clear_value x27
  refine ok_foldl ?_ ?_
  assumption
  intro _ _ _
  apply State.wrN_ok
  assumption

theorem State.seqGap_ok (h : Ok p κ s) [MayNet κ] {a1 a2 a3} : Ok p κ (State.seqGap s a1 a2 a3) := by
  unfold State.seqGap
  extract_lets x24 x25 x26
  clear_value x24
  refine @use_ok p κ x25 _ ?_ ?_
  unfold x25
  split
  extract_lets x31
  clear_value x31
  refine ok_ite ?_ ?_
  apply State.evt_ok
  apply State.bump_ok
  assumption
  assumption
  assumption
  intro _
  clear_value x25
  clear_value x26
  apply State.onRxs_ok
  assumption

theorem State.rxSample_ok (h : Ok p κ s) [MayMem κ] [MayFlips κ] [MayTrs κ] [MayNet κ] [MayBly κ] {a1 a2 a3 a4 a5} : OkP p κ (State.rxSample s a1 a2 a3 a4 a5) := by
  unfold State.rxSample
  split
  refine okP_mk ?_
  assumption
  extract_lets x31 x32 x33
  clear_value x31
  clear_value x32
  clear_value x33
  refine ok_ite ?_ ?_
  refine okP_mk ?_
  assumption
  split
  extract_lets x38
  clear_value x38
  refine ok_ite ?_ ?_
  refine okP_mk ?_
  assumption
  refine ok_ite ?_ ?_
  refine okP_mk ?_
  apply State.onRxs_ok
  assumption
  refine ok_ite ?_ ?_
  refine okP_mk ?_
  apply State.deliverStream_ok
  apply State.onRxs_ok
  assumption
  refine okP_mk ?_
  apply State.lateStream_ok
  assumption

theorem State.rxPacket_ok (h : Ok p κ s) [MayMem κ] [MayFlips κ] [MayTrs κ] [MayNet κ] [MayBly κ] {a1 a2 a3} : Ok p κ (State.rxPacket s a1 a2 a3) := by
  unfold State.rxPacket
  split
  assumption
  extract_lets x29 x30 x31
  clear_value x29
  clear_value x30
  clear_value x31
  refine ok_ite ?_ ?_
  apply State.bump_ok
  assumption
  split
  extract_lets x36 x37 x38
  refine @use_ok p κ x36 _ ?_ ?_
  unfold x36
  apply State.seqGap_ok
  refine ok_of_pair ?_ (by assumption)
  refine ok_ite ?_ ?_
  apply State.takeInj_ok
  assumption
  refine okP_mk ?_
  assumption
  intro _
  clear_value x36
  clear_value x37
  refine @use_ok p κ x38 _ ?_ ?_
  unfold x38
  apply State.onRxs_ok
  assumption
  intro _
  clear_value x38
  split
  extract_lets x45 x46
  refine @use_ok p κ x45 _ ?_ ?_
  unfold x45
  refine ok_ite ?_ ?_
  apply State.wr_ok
  refine ok_of_pair ?_ (by assumption)
  refine ok_foldlP ?_ ?_
  refine okP_mk ?_
  assumption
  intro _ _ _
  split
  refine okP_mk ?_
  refine ok_of_pair ?_ (by assumption)
  apply State.rxSample_ok
  refine ok_snd ?_
  assumption
  refine ok_of_pair ?_ (by assumption)
  refine ok_foldlP ?_ ?_
  refine okP_mk ?_
  assumption
  intro _ _ _
  split
  refine okP_mk ?_
  refine ok_of_pair ?_ (by assumption)
  apply State.rxSample_ok
  refine ok_snd ?_
  assumption
  intro _
  clear_value x45
  refine @use_ok p κ x46 _ ?_ ?_
  unfold x46
  refine ok_ite ?_ ?_
  apply State.evt_ok
  apply State.bump_ok
  assumption
  assumption
  intro _
  clear_value x46
  refine ok_ite ?_ ?_
  apply State.bump_ok
  assumption
  assumption

theorem State.sendPacket_ok (h : Ok p κ s) {a1 a2 a3} : Ok p κ (State.sendPacket s a1 a2 a3) := by
  unfold State.sendPacket
  extract_lets x24 x25
  clear_value x24
  clear_value x25
  split
  extract_lets x32 x33
  refine @use_ok p κ x32 _ ?_ ?_
  unfold x32
  refine ok_ite ?_ ?_
  apply State.bump_ok
  assumption
  assumption
  intro _
  clear_value x32
  refine @use_ok p κ x33 _ ?_ ?_
  unfold x33
  apply State.wr_ok
  assumption
  intro _
  clear_value x33
  refine ok_ite ?_ ?_
  assumption
  split
  refine ok_foldl ?_ ?_
  assumption
  intro _ _ _
  split
  split
  refine ok_ite ?_ ?_
  refine ok_of_pair ?_ (by assumption)
  apply State.sendIp_ok
  refine ok_of_pair ?_ (by assumption)
  apply State.udp_ok
  assumption
  apply State.evt_ok
  apply State.bump_ok
  refine ok_of_pair ?_ (by assumption)
  apply State.sendIp_ok
  refine ok_of_pair ?_ (by assumption)
  apply State.udp_ok
  assumption

theorem execAes67PacketReceive_ok (h : Ok p κ s) [MayMem κ] [MayFlips κ] [MayTrs κ] [MayNet κ] [MayBly κ] {a1 a2} : OkR p κ (execAes67PacketReceive a1 a2 s) := by
  unfold execAes67PacketReceive
  refine ok_ite ?_ ?_
  refine okR_next ?_
  assumption
  split
  refine okR_next ?_
  apply State.rxDrop_ok
  assumption
  refine ok_ite ?_ ?_
  refine okR_next ?_
  apply State.rxDrop_ok
  assumption
  refine okR_next ?_
  apply State.rxPacket_ok
  assumption

theorem execAes67PacketSend_ok (h : Ok p κ s) [MayNet κ] {a1} : OkR p κ (execAes67PacketSend a1 s) := by
  unfold execAes67PacketSend
  extract_lets x22
  clear_value x22
  split
  split
  refine ok_ite ?_ ?_
  refine okR_next ?_
  apply State.sendPacket_ok
  apply State.onNet_ok
  assumption
  refine okR_next ?_
  apply State.onNet_ok
  assumption
  refine okR_next ?_
  assumption
  split
  refine okR_next ?_
  assumption
  split
  refine okR_next ?_
  assumption
  refine okR_next ?_
  apply State.sendPacket_ok
  apply State.onNet_ok
  assumption

theorem execStreamClose_ok (h : Ok p κ s) [MayMem κ] [MayFlips κ] [MayBnk κ] [MayCrn κ] [MayNet κ] [MayBly κ] : OkR p κ (execStreamClose s) := by
  unfold execStreamClose
  apply State.runCmd_ok
  assumption
  intro _ _ _
  extract_lets x24 x25 x26 x27
  clear_value x24
  clear_value x25
  subst x26
  clear_value x27
  refine ok_ite ?_ ?_
  split
  dsimp -zeta only
  apply State.completeCmd_ok
  assumption
  apply State.completeCmd_ok
  apply State.refreshStreams_ok
  apply State.onNet_ok
  assumption
  split
  dsimp -zeta only
  apply State.completeCmd_ok
  assumption
  apply State.completeCmd_ok
  apply State.refreshStreams_ok
  apply State.onNet_ok
  apply State.reportStream_ok
  assumption

theorem execStreamOpen_ok (h : Ok p κ s) [MayMem κ] [MayFlips κ] [MayBnk κ] [MayCrn κ] [MayNet κ] [MayBly κ] : OkR p κ (execStreamOpen s) := by
  unfold execStreamOpen
  apply State.runCmd_ok
  assumption
  intro _ _ _
  extract_lets x24 x25
  clear_value x24
  clear_value x25
  split
  apply State.completeCmd_ok
  refine ok_of_pair ?_ (by assumption)
  apply State.readDesc_ok
  assumption
  split
  apply State.completeCmd_ok
  refine ok_of_pair ?_ (by assumption)
  apply State.readDesc_ok
  assumption
  extract_lets x34 x35 x36
  clear_value x34
  refine @use_ok p κ x35 _ ?_ ?_
  unfold x35
  apply State.onNet_ok
  refine ok_of_pair ?_ (by assumption)
  apply State.readDesc_ok
  assumption
  intro _
  clear_value x35
  refine @use_ok p κ x36 _ ?_ ?_
  unfold x36
  refine ok_ite ?_ ?_
  assumption
  apply State.reportStream_ok
  assumption
  intro _
  clear_value x36
  apply State.completeCmd_ok
  apply State.refreshStreams_ok
  assumption

/-! ### Tether -/

theorem State.ttSettings_ok (h : Ok p κ s) [MayNet κ] : Ok p κ (State.ttSettings s) := by
  unfold State.ttSettings
  extract_lets x21 x22 x23
  clear_value x21
  refine @use_ok p κ x22 _ ?_ ?_
  unfold x22
  apply State.onNet_ok
  assumption
  intro _
  clear_value x22
  clear_value x23
  refine ok_ite ?_ ?_
  apply State.onNet_ok
  apply State.wrN_ok
  assumption
  refine ok_ite ?_ ?_
  assumption
  apply State.onNet_ok
  assumption

theorem State.flipTt_ok (h : Ok p κ s) [MayNet κ] {a1 a2} : Ok p κ (State.flipTt s a1 a2) := by
  unfold State.flipTt
  extract_lets x23
  refine @use_ok p κ x23 _ ?_ ?_
  unfold x23
  apply State.wr_ok
  assumption
  intro _
  clear_value x23
  refine ok_ite ?_ ?_
  assumption
  apply State.ttSettings_ok
  assumption

theorem State.imgRead_ok (h : Ok p κ s) [MayBnk κ] {a1 a2 a3} : OkP p κ (State.imgRead s a1 a2 a3) := by
  unfold State.imgRead
  split
  refine okP_mk ?_
  refine ok_of_pair ?_ (by assumption)
  apply State.burstRead_ok
  assumption

theorem State.imgWrite_ok (h : Ok p κ s) [MayMem κ] [MayFlips κ] {a1 a2 a3} : Ok p κ (State.imgWrite s a1 a2 a3) := by
  unfold State.imgWrite
  refine ok_snd ?_
  apply State.burstWrite_ok
  assumption

theorem State.markHeld_ok (h : Ok p κ s) [MayMem κ] [MayFlips κ] [MayBnk κ] {a1} : Ok p κ (State.markHeld s a1) := by
  unfold State.markHeld
  split
  apply State.imgWrite_ok
  refine ok_of_pair ?_ (by assumption)
  apply State.imgRead_ok
  assumption

theorem State.onStation_ok (h : Ok p κ s) [MayNet κ] {a1 a2} : Ok p κ (State.onStation s a1 a2) := by
  unfold State.onStation
  apply State.onNet_ok
  assumption

theorem State.setSweep_ok (h : Ok p κ s) [MayNet κ] {a1} : Ok p κ (State.setSweep s a1) := by
  unfold State.setSweep
  apply State.wrN_ok
  apply State.onNet_ok
  assumption

theorem State.sweepCheck_ok (h : Ok p κ s) [MayMem κ] [MayFlips κ] [MayCrn κ] [MayNet κ] : Ok p κ (State.sweepCheck s) := by
  unfold State.sweepCheck
  split
  refine ok_ite ?_ ?_
  apply State.completeCmd_ok
  apply State.evt_ok
  apply State.setSweep_ok
  assumption
  assumption
  assumption

theorem State.sweepWrite_ok (h : Ok p κ s) [MayMem κ] [MayFlips κ] {a1 a2 a3 a4 a5} : Ok p κ (State.sweepWrite s a1 a2 a3 a4 a5) := by
  unfold State.sweepWrite
  refine ok_snd ?_
  apply State.burstWrite_ok
  assumption

theorem State.sweepStatus_ok (h : Ok p κ s) [MayMem κ] [MayFlips κ] {a1 a2 a3 a4 a5} : Ok p κ (State.sweepStatus s a1 a2 a3 a4 a5) := by
  unfold State.sweepStatus
  apply State.sweepWrite_ok
  assumption

theorem State.sweepBreak_ok (h : Ok p κ s) [MayMem κ] [MayFlips κ] [MayNet κ] {a1} : Ok p κ (State.sweepBreak s a1) := by
  unfold State.sweepBreak
  split
  assumption
  split
  assumption
  extract_lets x30 x31
  clear_value x30
  refine @use_ok p κ x31 _ ?_ ?_
  unfold x31
  refine ok_foldl ?_ ?_
  assumption
  intro _ _ _
  apply State.sweepStatus_ok
  assumption
  intro _
  clear_value x31
  apply State.setSweep_ok
  assumption

theorem State.ttLost_ok (h : Ok p κ s) [MayMem κ] [MayFlips κ] [MayCrn κ] [MayNet κ] {a1} : Ok p κ (State.ttLost s a1) := by
  unfold State.ttLost
  extract_lets x22 x23
  refine @use_ok p κ x22 _ ?_ ?_
  unfold x22
  apply State.setFld_ok
  apply State.setFld_ok
  assumption
  intro _
  clear_value x22
  refine @use_ok p κ x23 _ ?_ ?_
  unfold x23
  apply State.onStation_ok
  apply State.evt_ok
  apply State.bump_ok
  assumption
  intro _
  clear_value x23
  apply State.sweepCheck_ok
  apply State.sweepBreak_ok
  assumption

theorem State.stationFrame_ok (h : Ok p κ s) {a1 a2} : OkP p κ (State.stationFrame s a1 a2) := by
  unfold State.stationFrame
  extract_lets x23 x24 x25 x26 x27 x28
  clear_value x23
  clear_value x24
  clear_value x25
  clear_value x26
  clear_value x27
  refine @use_ok p κ x28 _ ?_ ?_
  unfold x28
  apply State.setFld_ok
  assumption
  intro _
  clear_value x28
  refine ok_ite ?_ ?_
  refine ok_ite ?_ ?_
  refine okP_mk ?_
  assumption
  refine okP_mk ?_
  refine ok_ite ?_ ?_
  apply State.evt_ok
  assumption
  assumption
  refine okP_mk ?_
  refine ok_ite ?_ ?_
  apply State.bump_ok
  assumption
  assumption

theorem State.writeInputs_ok (h : Ok p κ s) [MayMem κ] [MayFlips κ] {a1 a2} : Ok p κ (State.writeInputs s a1 a2) := by
  unfold State.writeInputs
  extract_lets x23 x24
  clear_value x23
  clear_value x24
  apply State.imgWrite_ok
  apply State.imgWrite_ok
  assumption

theorem State.ttIn_ok (h : Ok p κ s) [MayMem κ] [MayFlips κ] [MayNet κ] [MayBly κ] {a1 a2} : Ok p κ (State.ttIn s a1 a2) := by
  unfold State.ttIn
  extract_lets x23 x24 x25
  clear_value x23
  clear_value x24
  refine @use_ok p κ x25 _ ?_ ?_
  unfold x25
  apply State.onStation_ok
  assumption
  intro _
  clear_value x25
  refine ok_ite ?_ ?_
  apply State.bump_ok
  assumption
  split
  apply State.writeInputs_ok
  assumption
  refine ok_ite ?_ ?_
  apply State.tell_ok
  apply State.writeInputs_ok
  apply State.setFld_ok
  assumption
  assumption
  refine ok_ite ?_ ?_
  apply State.tell_ok
  apply State.writeInputs_ok
  apply State.setFld_ok
  assumption
  assumption
  assumption

theorem State.sweepReport_ok (h : Ok p κ s) [MayMem κ] [MayFlips κ] [MayCrn κ] [MayNet κ] {a1 a2} : Ok p κ (State.sweepReport s a1 a2) := by
  unfold State.sweepReport
  split
  assumption
  split
  assumption
  refine ok_ite ?_ ?_
  assumption
  extract_lets x29 x30 x31 x32 x33 x34 x35 x36 x37 x38 x39 x40 x41 x42
  clear_value x29
  clear_value x30
  clear_value x31
  clear_value x32
  refine @use_ok p κ x33 _ ?_ ?_
  unfold x33
  refine ok_foldl ?_ ?_
  assumption
  intro _ _ _
  apply State.sweepWrite_ok
  assumption
  intro _
  clear_value x33
  clear_value x34
  clear_value x35
  clear_value x36
  refine @use_ok p κ x37 _ ?_ ?_
  unfold x37
  refine ok_foldl ?_ ?_
  assumption
  intro _ _ _
  apply State.sweepStatus_ok
  assumption
  intro _
  clear_value x37
  refine @use_ok p κ x38 _ ?_ ?_
  unfold x38
  refine ok_foldl ?_ ?_
  assumption
  intro _ _ _
  apply State.sweepStatus_ok
  assumption
  intro _
  clear_value x38
  clear_value x39
  refine @use_ok p κ x40 _ ?_ ?_
  unfold x40
  refine ok_ite ?_ ?_
  refine ok_foldl ?_ ?_
  assumption
  intro _ _ _
  apply State.sweepStatus_ok
  assumption
  assumption
  intro _
  clear_value x40
  clear_value x41
  clear_value x42
  apply State.sweepCheck_ok
  apply State.setSweep_ok
  assumption

theorem State.stationIn_ok (h : Ok p κ s) [MayMem κ] [MayFlips κ] [MayCrn κ] [MayNet κ] [MayBly κ] {a1 a2 a3} : Ok p κ (State.stationIn s a1 a2 a3) := by
  unfold State.stationIn
  refine ok_ite ?_ ?_
  assumption
  split
  refine ok_of_pair ?_ (by assumption)
  apply State.stationFrame_ok
  assumption
  refine ok_ite ?_ ?_
  refine ok_of_pair ?_ (by assumption)
  apply State.stationFrame_ok
  assumption
  extract_lets x28
  refine @use_ok p κ x28 _ ?_ ?_
  unfold x28
  apply State.tell_ok
  refine ok_of_pair ?_ (by assumption)
  apply State.stationFrame_ok
  assumption
  intro _
  clear_value x28
  refine ok_ite ?_ ?_
  apply State.ttIn_ok
  assumption
  refine ok_ite ?_ ?_
  apply State.sweepReport_ok
  assumption
  refine ok_ite ?_ ?_
  apply State.onStation_ok
  assumption
  assumption

theorem State.netDecision_ok (h : Ok p κ s) [MayMem κ] [MayFlips κ] [MayBnk κ] [MayCrn κ] [MayNet κ] [MayBly κ] {a1 a2} : Ok p κ (State.netDecision s a1 a2) := by
  unfold State.netDecision
  refine ok_ite ?_ ?_
  refine ok_ite ?_ ?_
  apply State.ttLost_ok
  apply State.markHeld_ok
  assumption
  apply State.setFld_ok
  assumption
  extract_lets x23
  clear_value x23
  apply State.stationIn_ok
  assumption

theorem State.outBody_ok (h : Ok p κ s) [MayBnk κ] {a1} : OkP p κ (State.outBody s a1) := by
  unfold State.outBody
  split
  refine okP_mk ?_
  refine ok_of_pair ?_ (by assumption)
  apply State.imgRead_ok
  assumption

theorem State.sweepEnd_ok (h : Ok p κ s) [MayMem κ] [MayFlips κ] [MayNet κ] : Ok p κ (State.sweepEnd s) := by
  unfold State.sweepEnd
  split
  assumption
  refine ok_foldl ?_ ?_
  assumption
  intro _ _ _
  apply State.sweepBreak_ok
  assumption

theorem State.ttSend_ok (h : Ok p κ s) {a1 a2} : Ok p κ (State.ttSend s a1 a2) := by
  unfold State.ttSend
  refine ok_ite ?_ ?_
  assumption
  extract_lets x23
  clear_value x23
  split
  refine ok_snd ?_
  apply State.sendIp_ok
  refine ok_of_pair ?_ (by assumption)
  apply State.udp_ok
  assumption

theorem State.sweepPoint_ok (h : Ok p κ s) [MayMem κ] [MayFlips κ] [MayCrn κ] [MayNet κ] {a1} : Ok p κ (State.sweepPoint s a1) := by
  unfold State.sweepPoint
  split
  assumption
  split
  assumption
  extract_lets x30 x31
  clear_value x30
  clear_value x31
  refine ok_ite ?_ ?_
  apply State.sweepCheck_ok
  apply State.sweepBreak_ok
  assumption
  refine ok_ite ?_ ?_
  apply State.setSweep_ok
  apply State.ttSend_ok
  assumption
  refine ok_ite ?_ ?_
  apply State.sweepCheck_ok
  apply State.sweepBreak_ok
  assumption
  apply State.setSweep_ok
  assumption

theorem State.sweepTakeover_ok (h : Ok p κ s) [MayMem κ] [MayFlips κ] [MayCrn κ] [MayNet κ] : Ok p κ (State.sweepTakeover s) := by
  unfold State.sweepTakeover
  split
  assumption
  extract_lets x26
  refine @use_ok p κ x26 _ ?_ ?_
  unfold x26
  apply State.sweepEnd_ok
  assumption
  intro _
  clear_value x26
  split
  assumption
  apply State.completeCmd_ok
  apply State.evt_ok
  apply State.setSweep_ok
  assumption

theorem State.ttOff_ok (h : Ok p κ s) [MayMem κ] [MayFlips κ] [MayNet κ] {a1} : Ok p κ (State.ttOff s a1) := by
  unfold State.ttOff
  refine ok_ite ?_ ?_
  assumption
  apply State.sweepBreak_ok
  apply State.onNet_ok
  apply State.setFld_ok
  assumption

theorem State.ttEach_ok (h : Ok p κ s) [MayMem κ] [MayFlips κ] [MayCrn κ] [MayNet κ] {k : State → Nat → State} (hk : ∀ t n, Ok p κ t → Ok p κ (k t n)) : Ok p κ (State.ttEach s k) := by
  unfold State.ttEach
  extract_lets x23 x24 x25
  clear_value x23
  refine @use_ok p κ x24 _ ?_ ?_
  unfold x24
  refine ok_foldl ?_ ?_
  assumption
  intro _ _ _
  apply State.ttOff_ok
  assumption
  intro _
  clear_value x24
  clear_value x25
  apply State.sweepCheck_ok
  refine ok_foldl ?_ ?_
  assumption
  intro _ _ _
  apply hk
  assumption

theorem State.writeDefaults_ok (h : Ok p κ s) [MayMem κ] [MayFlips κ] [MayBnk κ] {a1} : Ok p κ (State.writeDefaults s a1) := by
  unfold State.writeDefaults
  split
  apply State.imgWrite_ok
  apply State.imgWrite_ok
  refine ok_of_pair ?_ (by assumption)
  apply State.imgRead_ok
  assumption

theorem State.ttStart_ok (h : Ok p κ s) [MayMem κ] [MayFlips κ] [MayBnk κ] [MayCrn κ] [MayNet κ] {a1} : Ok p κ (State.ttStart s a1) := by
  unfold State.ttStart
  extract_lets x22 x23 x24 x25 x26 x27
  clear_value x22
  refine @use_ok p κ x23 _ ?_ ?_
  unfold x23
  refine ok_ite ?_ ?_
  apply State.bump_ok
  assumption
  assumption
  intro _
  clear_value x23
  refine @use_ok p κ x24 _ ?_ ?_
  unfold x24
  apply State.onStation_ok
  assumption
  intro _
  clear_value x24
  refine @use_ok p κ x25 _ ?_ ?_
  unfold x25
  refine ok_ite ?_ ?_
  apply State.ttLost_ok
  assumption
  assumption
  intro _
  clear_value x25
  clear_value x26
  refine @use_ok p κ x27 _ ?_ ?_
  unfold x27
  refine ok_ite ?_ ?_
  refine ok_ite ?_ ?_
  apply State.evt_ok
  apply State.writeDefaults_ok
  apply State.setFld_ok
  assumption
  apply State.onStation_ok
  apply State.bump_ok
  assumption
  assumption
  intro _
  clear_value x27
  apply State.ttSend_ok
  assumption

theorem State.tetherFire_ok (h : Ok p κ s) [MayMem κ] [MayFlips κ] [MayBnk κ] [MayCrn κ] [MayNet κ] : Ok p κ (State.tetherFire s) := by
  unfold State.tetherFire
  refine ok_ite ?_ ?_
  assumption
  extract_lets x21 x22 x23 x24 x25
  clear_value x21
  refine @use_ok p κ x22 _ ?_ ?_
  unfold x22
  apply State.onNet_ok
  assumption
  intro _
  clear_value x22
  refine @use_ok p κ x23 _ ?_ ?_
  unfold x23
  apply State.ttSettings_ok
  assumption
  intro _
  clear_value x23
  refine @use_ok p κ x24 _ ?_ ?_
  unfold x24
  refine ok_ite ?_ ?_
  apply State.unitDone_ok
  apply State.onNet_ok
  assumption
  assumption
  intro _
  clear_value x24
  refine @use_ok p κ x25 _ ?_ ?_
  unfold x25
  apply State.wrN_ok
  apply State.onNet_ok
  assumption
  intro _
  clear_value x25
  refine ok_ite ?_ ?_
  apply State.bump_ok
  assumption
  refine ok_ite ?_ ?_
  assumption
  apply State.ttEach_ok
  assumption
  intro _ _ _
  apply State.ttStart_ok
  assumption

theorem State.ttResend_ok (h : Ok p κ s) [MayNet κ] {a1} : Ok p κ (State.ttResend s a1) := by
  unfold State.ttResend
  extract_lets x22
  clear_value x22
  split
  refine ok_ite ?_ ?_
  assumption
  apply State.ttSend_ok
  apply State.bump_ok
  apply State.onStation_ok
  assumption
  assumption

theorem State.ttWrite_ok (h : Ok p κ s) [MayMem κ] [MayFlips κ] [MayBnk κ] [MayCrn κ] [MayNet κ] [MayBly κ] {a1} : Ok p κ (State.ttWrite s a1) := by
  unfold State.ttWrite
  extract_lets x22 x23 x24
  clear_value x22
  refine @use_ok p κ x23 _ ?_ ?_
  unfold x23
  apply State.onStation_ok
  assumption
  intro _
  clear_value x23
  clear_value x24
  refine ok_ite ?_ ?_
  assumption
  refine ok_ite ?_ ?_
  assumption
  refine ok_ite ?_ ?_
  split
  refine ok_ite ?_ ?_
  split
  extract_lets x36
  clear_value x36
  apply State.sweepPoint_ok
  apply State.ttSend_ok
  apply State.onStation_ok
  refine ok_of_pair ?_ (by assumption)
  apply State.outBody_ok
  refine ok_of_pair ?_ (by assumption)
  refine ok_ite ?_ ?_
  apply State.takeInj_ok
  assumption
  refine okP_mk ?_
  assumption
  apply State.tell_ok
  apply State.ttLost_ok
  apply State.markHeld_ok
  refine ok_of_pair ?_ (by assumption)
  refine ok_ite ?_ ?_
  apply State.takeInj_ok
  assumption
  refine okP_mk ?_
  assumption
  apply State.sweepPoint_ok
  assumption

theorem State.writeTt_ok (h : Ok p κ s) [MayNet κ] {a1 a2} : Ok p κ (State.writeTt s a1 a2) := by
  unfold State.writeTt
  extract_lets x23
  refine @use_ok p κ x23 _ ?_ ?_
  unfold x23
  apply State.flipTt_ok
  assumption
  intro _
  clear_value x23
  refine ok_ite ?_ ?_
  apply State.ttSettings_ok
  assumption
  assumption

theorem execSweep_ok (h : Ok p κ s) [MayMem κ] [MayFlips κ] [MayBnk κ] [MayCrn κ] [MayNet κ] [MayBly κ] : OkR p κ (execSweep s) := by
  unfold execSweep
  apply State.runCmd_ok
  assumption
  intro _ _ _
  refine ok_ite ?_ ?_
  apply State.completeCmd_ok
  assumption
  split
  apply State.completeCmd_ok
  refine ok_of_pair ?_ (by assumption)
  apply State.burstRead_ok
  assumption
  extract_lets x30 x31 x32 x33 x34 x35 x36 x37
  refine @use_ok p κ x35 _ ?_ ?_
  unfold x35
  apply State.setSweep_ok
  apply State.detach_ok
  refine ok_of_pair ?_ (by assumption)
  apply State.burstRead_ok
  assumption
  intro _
  refine @use_ok p κ x36 _ ?_ ?_
  unfold x36
  refine ok_foldl ?_ ?_
  assumption
  intro _ _ _
  refine ok_foldl ?_ ?_
  assumption
  intro _ _ _
  refine ok_ite ?_ ?_
  assumption
  apply State.sweepStatus_ok
  assumption
  intro _
  refine @use_ok p κ x37 _ ?_ ?_
  unfold x37
  refine ok_foldl ?_ ?_
  assumption
  intro _ _ _
  refine ok_ite ?_ ?_
  assumption
  refine ok_ite ?_ ?_
  apply State.setSweep_ok
  assumption
  apply State.sweepBreak_ok
  assumption
  intro _
  apply State.sweepCheck_ok
  assumption

theorem execSweepAbort_ok (h : Ok p κ s) [MayMem κ] [MayFlips κ] [MayBnk κ] [MayCrn κ] [MayNet κ] [MayBly κ] : OkR p κ (execSweepAbort s) := by
  unfold execSweepAbort
  apply State.runCmd_ok
  assumption
  intro _ _ _
  split
  apply State.completeCmd_ok
  assumption
  extract_lets x29
  refine @use_ok p κ x29 _ ?_ ?_
  unfold x29
  apply State.completeCmd_ok
  apply State.evt_ok
  apply State.setSweep_ok
  apply State.sweepEnd_ok
  assumption
  intro _
  clear_value x29
  apply State.completeCmd_ok
  assumption

theorem execSwpRpt_ok (h : Ok p κ s) [MayMem κ] [MayFlips κ] [MayCrn κ] [MayNet κ] [MayBly κ] {a1 a2} : OkR p κ (execSwpRpt a1 a2 s) := by
  unfold execSwpRpt
  refine okR_next ?_
  refine ok_ite ?_ ?_
  assumption
  apply State.stationIn_ok
  assumption

theorem execTetherAck_ok (h : Ok p κ s) [MayMem κ] [MayFlips κ] [MayCrn κ] [MayNet κ] [MayBly κ] {a1 a2} : OkR p κ (execTetherAck a1 a2 s) := by
  unfold execTetherAck
  refine okR_next ?_
  refine ok_ite ?_ ?_
  assumption
  apply State.stationIn_ok
  assumption

theorem execTetherIn_ok (h : Ok p κ s) [MayMem κ] [MayFlips κ] [MayCrn κ] [MayNet κ] [MayBly κ] {a1 a2} : OkR p κ (execTetherIn a1 a2 s) := by
  unfold execTetherIn
  refine okR_next ?_
  refine ok_ite ?_ ?_
  assumption
  apply State.stationIn_ok
  assumption

theorem execTetherResendPoint_ok (h : Ok p κ s) [MayMem κ] [MayFlips κ] [MayCrn κ] [MayNet κ] : OkR p κ (execTetherResendPoint s) := by
  unfold execTetherResendPoint
  extract_lets x21
  clear_value x21
  refine okR_next ?_
  refine ok_ite ?_ ?_
  apply State.ttEach_ok
  assumption
  intro _ _ _
  apply State.ttResend_ok
  assumption
  assumption

theorem execTetherWritePoint_ok (h : Ok p κ s) [MayMem κ] [MayFlips κ] [MayBnk κ] [MayCrn κ] [MayNet κ] [MayBly κ] : OkR p κ (execTetherWritePoint s) := by
  unfold execTetherWritePoint
  refine okR_next ?_
  refine ok_ite ?_ ?_
  apply State.ttEach_ok
  assumption
  intro _ _ _
  apply State.ttWrite_ok
  assumption
  assumption

end Sys2Proof.Machine
end

