-- ==== Sys2Proof/Laws/KeepCairn.lean ====
section
/-! SUPPORT. What the operations of staging and the modes keep: the queue and the invariant of every step. -/

set_option Elab.async false

namespace Sys2Proof.Machine

open Sys2Proof

variable {p : List Instr} {κ : Kept} {s t : State}

/-! ### Budget -/

theorem State.putAdmission_ok (h : Ok p κ s) {a1} : Ok p κ (State.putAdmission s a1) := by
  unfold State.putAdmission
  extract_lets x22 x23 x24
  clear_value x22
  refine @use_ok p κ x23 _ ?_ ?_
  unfold x23
  apply State.wrN_ok
  assumption
  intro _
  clear_value x23
  refine @use_ok p κ x24 _ ?_ ?_
  unfold x24
  refine ok_ite ?_ ?_
  assumption
  apply State.wrN_ok
  assumption
  intro _
  clear_value x24
  refine ok_ite ?_ ?_
  apply State.evt_ok
  assumption
  assumption

/-! ### BelayRole -/

theorem State.finishReq_ok (h : Ok p κ s) [MaySys κ] {a1 a2} : Ok p κ (State.finishReq s a1 a2) := by
  unfold State.finishReq
  refine ok_ite ?_ ?_
  extract_lets x23 x24
  refine @use_ok p κ x23 _ ?_ ?_
  unfold x23
  apply State.setFld_ok
  apply State.setFld_ok
  apply State.setFld_ok
  assumption
  intro _
  clear_value x23
  clear_value x24
  apply State.evt_ok
  refine ok_mk ?_
  assumption
  assumption

theorem State.dropSwap_ok (h : Ok p κ s) [MayMem κ] [MayFlips κ] [MaySys κ] [MayCrn κ] [MayBly κ] : Ok p κ (State.dropSwap s) := by
  unfold State.dropSwap
  extract_lets x21 x22
  refine @use_ok p κ x21 _ ?_ ?_
  unfold x21
  split
  split
  apply State.completeCmd_ok
  assumption
  assumption
  assumption
  intro _
  clear_value x21
  refine @use_ok p κ x22 _ ?_ ?_
  unfold x22
  refine ok_ite ?_ ?_
  apply State.finishReq_ok
  assumption
  assumption
  intro _
  clear_value x22
  apply State.onBly_ok
  assumption

theorem State.leaveLockstep_ok (h : Ok p κ s) [MayMem κ] [MayFlips κ] [MaySys κ] [MayTrs κ] [MayCrn κ] [MayBly κ] : Ok p κ (State.leaveLockstep s) := by
  unfold State.leaveLockstep
  refine ok_ite ?_ ?_
  extract_lets x21 x22
  refine @use_ok p κ x21 _ ?_ ?_
  unfold x21
  apply State.onBly_ok
  apply State.setFld_ok
  apply State.dropSwap_ok
  assumption
  intro _
  clear_value x21
  refine @use_ok p κ x22 _ ?_ ?_
  unfold x22
  apply State.refreshBelay_ok
  apply State.lanesChanged_ok
  apply State.onTrs_ok
  assumption
  intro _
  clear_value x22
  refine ok_ite ?_ ?_
  apply State.startJoin_ok
  assumption
  assumption
  assumption

/-! ### CairnStage -/

theorem State.sceneRun_ok (h : Ok p κ s) [MayBnk κ] {a1 a2} : OkP p κ (State.sceneRun s a1 a2) := by
  induction a1 generalizing s a2
  unfold State.sceneRun
  refine okP_mk ?_
  assumption
  rename_i ih
  unfold State.sceneRun
  split
  refine okP_mk ?_
  refine ok_of_pair ?_ (by assumption)
  apply State.bankRead_ok
  assumption
  split
  refine okP_mk ?_
  refine ok_of_pair ?_ (by assumption)
  apply ih
  refine ok_of_pair ?_ (by assumption)
  apply State.bankRead_ok
  assumption
  refine okP_mk ?_
  refine ok_of_pair ?_ (by assumption)
  apply ih
  refine ok_of_pair ?_ (by assumption)
  apply State.bankRead_ok
  assumption

theorem State.onPlan_ok (h : Ok p κ s) [MayCrn κ] {a1} : Ok p κ (State.onPlan s a1) := by
  unfold State.onPlan
  apply State.onCrn_ok
  assumption

theorem State.stageWords_ok (h : Ok p κ s) [MayMem κ] [MayFlips κ] [MayCrn κ] {a1 a2 a3} : Ok p κ (State.stageWords s a1 a2 a3) := by
  induction a3 generalizing s a2
  unfold State.stageWords
  assumption
  rename_i ih
  unfold State.stageWords
  extract_lets x26
  refine @use_ok p κ x26 _ ?_ ?_
  unfold x26
  refine ok_ite ?_ ?_
  apply State.onPlan_ok
  apply State.setWord_ok
  assumption
  assumption
  intro _
  clear_value x26
  apply ih
  assumption

theorem State.involve_ok (h : Ok p κ s) [MayCrn κ] {a1} : Ok p κ (State.involve s a1) := by
  unfold State.involve
  apply State.onPlan_ok
  assumption

theorem State.stagePatches_ok (h : Ok p κ s) [MayCrn κ] {a1 a2 a3} : Ok p κ (State.stagePatches s a1 a2 a3) := by
  induction a3 generalizing s a2
  unfold State.stagePatches
  assumption
  rename_i ih
  unfold State.stagePatches
  apply ih
  apply State.onPlan_ok
  assumption

theorem State.applyRecord_ok (h : Ok p κ s) [MayMem κ] [MayFlips κ] [MayChs κ] [MayBnk κ] [MayCrn κ] {a1 a2 a3 a4 a5} : OkP p κ (State.applyRecord s a1 a2 a3 a4 a5) := by
  unfold State.applyRecord
  extract_lets x26 x27 x28 x29 x30 x31 x32 x33
  clear_value x26
  clear_value x27
  clear_value x28
  clear_value x29
  clear_value x30
  clear_value x31
  clear_value x32
  clear_value x33
  split
  refine okP_mk ?_
  assumption
  refine ok_ite ?_ ?_
  refine okP_mk ?_
  assumption
  split
  refine okP_mk ?_
  refine ok_of_pair ?_ (by assumption)
  apply State.sceneRun_ok
  assumption
  refine okP_mk ?_
  apply State.stageWords_ok
  apply State.involve_ok
  refine ok_of_pair ?_ (by assumption)
  apply State.sceneRun_ok
  assumption
  refine ok_ite ?_ ?_
  refine okP_mk ?_
  assumption
  refine ok_ite ?_ ?_
  refine okP_mk ?_
  assumption
  refine okP_mk ?_
  apply State.onPlan_ok
  apply State.involve_ok
  assumption
  refine ok_ite ?_ ?_
  refine okP_mk ?_
  assumption
  refine ok_ite ?_ ?_
  refine okP_mk ?_
  assumption
  split
  refine okP_mk ?_
  apply State.stageWords_ok
  apply State.involve_ok
  refine ok_of_pair ?_ (by assumption)
  apply State.sceneRun_ok
  assumption
  refine okP_mk ?_
  refine ok_of_pair ?_ (by assumption)
  apply State.sceneRun_ok
  assumption
  refine ok_ite ?_ ?_
  refine okP_mk ?_
  assumption
  split
  refine okP_mk ?_
  apply State.stagePatches_ok
  apply State.involve_ok
  refine ok_of_pair ?_ (by assumption)
  apply State.sceneRun_ok
  assumption
  refine okP_mk ?_
  refine ok_of_pair ?_ (by assumption)
  apply State.sceneRun_ok
  assumption
  refine ok_ite ?_ ?_
  refine okP_mk ?_
  apply State.onChs_ok
  apply State.involve_ok
  assumption
  split
  refine okP_mk ?_
  assumption
  extract_lets x41
  clear_value x41
  refine okP_mk ?_
  apply State.onChs_ok
  apply State.involve_ok
  assumption
  refine okP_mk ?_
  assumption

theorem State.applyRecords_ok (h : Ok p κ s) [MayMem κ] [MayFlips κ] [MayChs κ] [MayBnk κ] [MayCrn κ] {a1 a2 a3 a4 a5} : OkP p κ (State.applyRecords s a1 a2 a3 a4 a5) := by
  induction a3 generalizing s a4 a5
  unfold State.applyRecords
  refine okP_mk ?_
  assumption
  rename_i ih
  unfold State.applyRecords
  split
  refine okP_mk ?_
  refine ok_of_pair ?_ (by assumption)
  apply State.bankRead_ok
  assumption
  split
  refine okP_mk ?_
  refine ok_of_pair ?_ (by assumption)
  apply State.applyRecord_ok
  refine ok_of_pair ?_ (by assumption)
  apply State.bankRead_ok
  assumption
  apply ih
  refine ok_of_pair ?_ (by assumption)
  apply State.applyRecord_ok
  refine ok_of_pair ?_ (by assumption)
  apply State.bankRead_ok
  assumption

theorem State.checkProgram_ok (h : Ok p κ s) [MayChs κ] {a1} : OkP p κ (State.checkProgram s a1) := by
  unfold State.checkProgram
  extract_lets x22
  clear_value x22
  split
  split
  refine okP_mk ?_
  assumption
  refine ok_ite ?_ ?_
  refine okP_mk ?_
  assumption
  refine ok_ite ?_ ?_
  refine okP_mk ?_
  apply State.onChs_ok
  assumption
  refine okP_mk ?_
  assumption
  refine okP_mk ?_
  assumption

theorem State.checkPrograms_ok (h : Ok p κ s) [MayChs κ] {a1} : OkP p κ (State.checkPrograms s a1) := by
  induction a1 generalizing s
  unfold State.checkPrograms
  refine okP_mk ?_
  assumption
  rename_i ih
  unfold State.checkPrograms
  split
  refine okP_mk ?_
  refine ok_of_pair ?_ (by assumption)
  apply State.checkProgram_ok
  assumption
  apply ih
  refine ok_of_pair ?_ (by assumption)
  apply State.checkProgram_ok
  assumption

theorem State.stageOk_ok (h : Ok p κ s) [MayMem κ] [MayFlips κ] [MayCrn κ] {a1} : Ok p κ (State.stageOk s a1) := by
  unfold State.stageOk
  extract_lets x22
  clear_value x22
  apply State.completeCmd_ok
  apply State.onCrn_ok
  apply State.setFld_ok
  assumption

theorem State.unstage_ok (h : Ok p κ s) [MayChs κ] [MayCrn κ] : Ok p κ (State.unstage s) := by
  unfold State.unstage
  apply State.onChs_ok
  apply State.onCrn_ok
  apply State.setFld_ok
  assumption

theorem State.disagree_ok (h : Ok p κ s) [MayMem κ] [MayFlips κ] [MaySys κ] [MayTrs κ] [MayChs κ] [MayCrn κ] [MayBly κ] {a1 a2} : Ok p κ (State.disagree s a1 a2) := by
  unfold State.disagree
  apply State.leaveLockstep_ok
  apply State.completeCmd_ok
  apply State.unstage_ok
  assumption

theorem State.compareDigest_ok (h : Ok p κ s) [MayMem κ] [MayFlips κ] [MaySys κ] [MayTrs κ] [MayChs κ] [MayCrn κ] [MayBly κ] {a1} : Ok p κ (State.compareDigest s a1) := by
  unfold State.compareDigest
  split
  refine ok_ite ?_ ?_
  assumption
  refine ok_ite ?_ ?_
  apply State.stageOk_ok
  assumption
  apply State.disagree_ok
  assumption
  assumption

theorem State.completeCommit_ok (h : Ok p κ s) [MayMem κ] [MayFlips κ] [MayCrn κ] {a1 a2 a3} : Ok p κ (State.completeCommit s a1 a2 a3) := by
  unfold State.completeCommit
  split
  assumption
  apply State.completeCmd_ok
  assumption

theorem State.followDigest_ok (h : Ok p κ s) [MayMem κ] [MayFlips κ] [MaySys κ] [MayTrs κ] [MayChs κ] [MayCrn κ] [MayBly κ] : Ok p κ (State.followDigest s) := by
  unfold State.followDigest
  split
  refine ok_ite ?_ ?_
  assumption
  refine ok_ite ?_ ?_
  apply State.unstage_ok
  assumption
  refine ok_ite ?_ ?_
  apply State.leaveLockstep_ok
  apply State.unstage_ok
  assumption
  apply State.onCrn_ok
  assumption
  assumption

theorem State.endStage_ok (h : Ok p κ s) [MayMem κ] [MayFlips κ] [MaySys κ] [MayTrs κ] [MayChs κ] [MayCrn κ] [MayBly κ] {a1 a2} : Ok p κ (State.endStage s a1 a2) := by
  unfold State.endStage
  extract_lets x23 x24 x25 x26
  clear_value x23
  clear_value x24
  refine @use_ok p κ x25 _ ?_ ?_
  unfold x25
  apply State.onPlan_ok
  assumption
  intro _
  clear_value x25
  refine @use_ok p κ x26 _ ?_ ?_
  unfold x26
  refine ok_ite ?_ ?_
  apply State.sendBelay_ok
  assumption
  assumption
  intro _
  clear_value x26
  split
  apply State.completeCmd_ok
  apply State.unstage_ok
  assumption
  refine ok_ite ?_ ?_
  apply State.compareDigest_ok
  apply State.onCrn_ok
  assumption
  apply State.followDigest_ok
  apply State.stageOk_ok
  assumption

theorem State.openJournal_ok (h : Ok p κ s) {a1 a2 a3 a4 a5 a6} : Ok p κ (State.openJournal s a1 a2 a3 a4 a5 a6) := by
  unfold State.openJournal
  extract_lets x27 x28 x29 x30 x31 x32
  clear_value x27
  refine @use_ok p κ x28 _ ?_ ?_
  unfold x28
  refine ok_foldl ?_ ?_
  assumption
  intro _ _ _
  apply State.wrN_ok
  assumption
  intro _
  clear_value x28
  refine @use_ok p κ x29 _ ?_ ?_
  unfold x29
  apply State.wrN_ok
  assumption
  intro _
  clear_value x29
  refine @use_ok p κ x30 _ ?_ ?_
  unfold x30
  apply State.wrN_ok
  assumption
  intro _
  clear_value x30
  refine @use_ok p κ x31 _ ?_ ?_
  unfold x31
  apply State.wrN_ok
  apply State.wrIdx_ok
  assumption
  intro _
  clear_value x31
  refine @use_ok p κ x32 _ ?_ ?_
  unfold x32
  apply State.setJState_ok
  apply State.wrN_ok
  assumption
  intro _
  clear_value x32
  refine ok_ite ?_ ?_
  apply State.evt_ok
  apply State.setFld_ok
  assumption
  assumption

theorem State.stageChecks_ok (h : Ok p κ s) [MayCrn κ] : OkP p κ (State.stageChecks s) := by
  unfold State.stageChecks
  extract_lets x21 x22 x23
  clear_value x21
  clear_value x22
  refine @use_ok p κ x23 _ ?_ ?_
  unfold x23
  apply State.putAdmission_ok
  assumption
  intro _
  clear_value x23
  refine ok_ite ?_ ?_
  refine okP_mk ?_
  assumption
  refine ok_ite ?_ ?_
  refine okP_mk ?_
  assumption
  refine okP_mk ?_
  apply State.onPlan_ok
  assumption

theorem State.stageSteps_ok (h : Ok p κ s) [MayMem κ] [MayFlips κ] [MayChs κ] [MayBnk κ] [MayCrn κ] {a1 a2 a3} : OkP p κ (State.stageSteps s a1 a2 a3) := by
  unfold State.stageSteps
  extract_lets x24
  refine @use_ok p κ x24 _ ?_ ?_
  unfold x24
  apply State.copyMem_ok
  assumption
  intro _
  clear_value x24
  split
  refine okP_mk ?_
  refine ok_of_pair ?_ (by assumption)
  apply State.applyRecords_ok
  assumption
  split
  refine okP_mk ?_
  refine ok_of_pair ?_ (by assumption)
  apply State.checkPrograms_ok
  refine ok_of_pair ?_ (by assumption)
  apply State.applyRecords_ok
  assumption
  apply State.stageChecks_ok
  refine ok_of_pair ?_ (by assumption)
  apply State.checkPrograms_ok
  refine ok_of_pair ?_ (by assumption)
  apply State.applyRecords_ok
  assumption

theorem execAbort_ok (h : Ok p κ s) [MayMem κ] [MayFlips κ] [MayChs κ] [MayBnk κ] [MayCrn κ] [MayBly κ] : OkR p κ (execAbort s) := by
  unfold execAbort
  apply State.runCmd_ok
  assumption
  intro _ _ _
  extract_lets x24
  refine @use_ok p κ x24 _ ?_ ?_
  unfold x24
  split
  refine ok_ite ?_ ?_
  apply State.onCrn_ok
  apply State.completeCommit_ok
  apply State.setJState_ok
  assumption
  assumption
  assumption
  intro _
  clear_value x24
  apply State.completeCmd_ok
  apply State.unstage_ok
  assumption

theorem execChangingEnd_ok (h : Ok p κ s) [MayMem κ] [MayFlips κ] [MayBnk κ] [MayCrn κ] [MayBly κ] : OkR p κ (execChangingEnd s) := by
  unfold execChangingEnd
  extract_lets x21
  clear_value x21
  refine okR_next ?_
  refine ok_ite ?_ ?_
  apply State.pumpAll_ok
  apply State.onCrn_ok
  apply State.setFld_ok
  apply State.trussDone_ok
  assumption
  assumption

theorem execCommit_ok (h : Ok p κ s) [MayMem κ] [MayFlips κ] [MayBnk κ] [MayCrn κ] [MayBly κ] : OkR p κ (execCommit s) := by
  unfold execCommit
  apply State.runCmd_ok
  assumption
  intro _ _ _
  split
  apply State.completeCmd_ok
  assumption
  split
  extract_lets x33 x34 x35 x36 x37 x38
  clear_value x33
  clear_value x34
  refine @use_ok p κ x35 _ ?_ ?_
  unfold x35
  apply State.openJournal_ok
  assumption
  intro _
  clear_value x35
  refine @use_ok p κ x36 _ ?_ ?_
  unfold x36
  apply State.wrIdx_ok
  apply State.wrN_ok
  assumption
  intro _
  clear_value x36
  refine @use_ok p κ x37 _ ?_ ?_
  unfold x37
  apply State.onCrn_ok
  apply State.setFld_ok
  assumption
  intro _
  clear_value x37
  refine @use_ok p κ x38 _ ?_ ?_
  unfold x38
  apply State.tell_ok
  assumption
  intro _
  clear_value x38
  apply State.detach_ok
  assumption

theorem execStage_ok (h : Ok p κ s) [MayMem κ] [MayFlips κ] [MaySys κ] [MayTrs κ] [MayChs κ] [MayBnk κ] [MayCrn κ] [MayBly κ] {a1} : OkR p κ (execStage a1 s) := by
  unfold execStage
  apply State.runCmd_ok
  assumption
  intro _ _ _
  refine ok_ite ?_ ?_
  assumption
  extract_lets x25 x26 x27 x28
  clear_value x25
  clear_value x26
  refine @use_ok p κ x27 _ ?_ ?_
  unfold x27
  apply State.beginStage_ok
  apply State.unstage_ok
  assumption
  intro _
  clear_value x27
  refine @use_ok p κ x28 _ ?_ ?_
  unfold x28
  apply State.onCrn_ok
  apply State.wrN_ok
  assumption
  intro _
  clear_value x28
  split
  refine ok_ite ?_ ?_
  apply State.endStage_ok
  assumption
  split
  apply State.endStage_ok
  refine ok_of_pair ?_ (by assumption)
  apply State.stageSteps_ok
  assumption

theorem execStageDigest_ok (h : Ok p κ s) [MayMem κ] [MayFlips κ] [MaySys κ] [MayTrs κ] [MayChs κ] [MayBnk κ] [MayCrn κ] [MayBly κ] {a1 a2 a3} : OkR p κ (execStageDigest a1 a2 a3 s) := by
  unfold execStageDigest
  extract_lets x24 x25
  refine @use_ok p κ x24 _ ?_ ?_
  unfold x24
  apply State.gotFrame_ok
  assumption
  intro _
  clear_value x24
  refine @use_ok p κ x25 _ ?_ ?_
  unfold x25
  apply State.onCrn_ok
  assumption
  intro _
  clear_value x25
  refine ok_ite ?_ ?_
  refine okR_next ?_
  assumption
  split
  refine okR_next ?_
  apply State.pumpAll_ok
  apply State.compareDigest_ok
  assumption
  refine okR_next ?_
  refine ok_ite ?_ ?_
  apply State.followDigest_ok
  assumption
  assumption

theorem execStageDigestTimeout_ok (h : Ok p κ s) [MayMem κ] [MayFlips κ] [MaySys κ] [MayTrs κ] [MayChs κ] [MayBnk κ] [MayCrn κ] [MayBly κ] : OkR p κ (execStageDigestTimeout s) := by
  unfold execStageDigestTimeout
  split
  refine okR_next ?_
  apply State.pumpAll_ok
  apply State.disagree_ok
  assumption
  refine okR_next ?_
  assumption

/-! ### Modes -/

theorem State.takeRing_ok (h : Ok p κ s) [MayMem κ] [MayFlips κ] [MayBnk κ] [MayCrn κ] [MayBly κ] {a1} : Ok p κ (State.takeRing a1 s) := by
  induction a1 generalizing s
  unfold State.takeRing
  assumption
  rename_i ih
  unfold State.takeRing
  refine ok_ite ?_ ?_
  apply ih
  apply State.takeEntry_ok
  assumption
  assumption

theorem State.abortRing_ok (h : Ok p κ s) [MayMem κ] [MayFlips κ] [MayBnk κ] [MayCrn κ] [MayBly κ] : Ok p κ (State.abortRing s) := by
  unfold State.abortRing
  extract_lets x21 x22 x23
  refine @use_ok p κ x21 _ ?_ ?_
  unfold x21
  apply State.takeRing_ok
  assumption
  intro _
  clear_value x21
  clear_value x22
  refine @use_ok p κ x23 _ ?_ ?_
  unfold x23
  apply State.onCrn_ok
  assumption
  intro _
  clear_value x23
  refine ok_foldl ?_ ?_
  assumption
  intro _ _ _
  apply State.completeCmd_ok
  assumption

theorem State.cancelInj_ok (h : Ok p κ s) [MayChs κ] [MayPrt κ] {a1} : Ok p κ (State.cancelInj s a1) := by
  unfold State.cancelInj
  extract_lets x22 x23 x24 x25
  clear_value x22
  refine @use_ok p κ x23 _ ?_ ?_
  unfold x23
  refine ok_mk ?_
  assumption
  intro _
  clear_value x23
  clear_value x24
  clear_value x25
  apply State.onChs_ok
  apply State.onPrt_ok
  assumption

theorem State.setActOut_ok (h : Ok p κ s) [MayBly κ] {a1} : Ok p κ (State.setActOut s a1) := by
  unfold State.setActOut
  refine ok_ite ?_ ?_
  assumption
  extract_lets x22
  refine @use_ok p κ x22 _ ?_ ?_
  unfold x22
  apply State.emit_ok
  apply State.setFld_ok
  assumption
  intro _
  clear_value x22
  refine ok_ite ?_ ?_
  apply State.onBly_ok
  assumption
  assumption

theorem State.changeMode_ok (h : Ok p κ s) [MayMode κ] [MaySys κ] [MayChs κ] [MayPrt κ] [MayPlb κ] [MayNet κ] [MayMlt κ] [MayBly κ] {a1 a2} : Ok p κ (State.changeMode s a1 a2) := by
  unfold State.changeMode
  refine ok_ite ?_ ?_
  assumption
  extract_lets x23 x24 x25 x26 x27 x28 x29 x30 x31 x32 x33
  clear_value x23
  clear_value x24
  clear_value x25
  clear_value x26
  refine @use_ok p κ x27 _ ?_ ?_
  unfold x27
  refine ok_ite ?_ ?_
  apply State.cancelInj_ok
  assumption
  assumption
  intro _
  clear_value x27
  refine @use_ok p κ x28 _ ?_ ?_
  unfold x28
  refine ok_ite ?_ ?_
  refine ok_mk ?_
  assumption
  assumption
  intro _
  clear_value x28
  refine @use_ok p κ x29 _ ?_ ?_
  unfold x29
  refine ok_ite ?_ ?_
  apply State.setFld_ok
  assumption
  assumption
  intro _
  clear_value x29
  refine @use_ok p κ x30 _ ?_ ?_
  unfold x30
  refine ok_ite ?_ ?_
  apply State.autoRepair_ok
  assumption
  assumption
  intro _
  clear_value x30
  refine @use_ok p κ x31 _ ?_ ?_
  unfold x31
  apply State.setMode_ok
  assumption
  intro _
  clear_value x31
  refine @use_ok p κ x32 _ ?_ ?_
  unfold x32
  refine ok_ite ?_ ?_
  apply State.setActOut_ok
  apply State.mltAllOff_ok
  assumption
  assumption
  intro _
  clear_value x32
  refine @use_ok p κ x33 _ ?_ ?_
  unfold x33
  refine ok_ite ?_ ?_
  apply State.clearHistory_ok
  assumption
  assumption
  intro _
  clear_value x33
  apply State.refreshSource_ok
  refine ok_ite ?_ ?_
  assumption
  apply State.ptpDemote_ok
  apply State.dropPulses_ok
  assumption

end Sys2Proof.Machine
end

