-- ==== Sys2Proof/Laws/KeepTyd.lean ====
section
/-! SUPPORT. What the operations of Timberyard keep: the queue and the invariant of every step. -/

set_option Elab.async false

namespace Sys2Proof.Machine

open Sys2Proof

variable {p : List Instr} {κ : Kept} {s t : State}

/-! ### Timberyard -/

theorem State.captureInflight_ok (h : Ok p κ s) : Ok p κ (State.captureInflight s) := by
  unfold State.captureInflight
  split
  assumption
  apply State.wrN_ok
  apply State.wrN_ok
  assumption

theorem State.onTyd_ok (h : Ok p κ s) [MayTyd κ] {a1} : Ok p κ (State.onTyd s a1) := by
  unfold State.onTyd
  refine ok_mk ?_
  assumption

theorem State.onVol_ok (h : Ok p κ s) [MayTyd κ] {a1} : Ok p κ (State.onVol s a1) := by
  unfold State.onVol
  apply State.onTyd_ok
  assumption

theorem State.putSeg_ok (h : Ok p κ s) [MayTyd κ] {a1} : Ok p κ (State.putSeg s a1) := by
  unfold State.putSeg
  apply State.onVol_ok
  assumption

theorem State.refreshSpare_ok (h : Ok p κ s) {a1} : Ok p κ (State.refreshSpare s a1) := by
  unfold State.refreshSpare
  split
  apply State.wrN_ok
  assumption
  assumption

theorem State.retire_ok (h : Ok p κ s) [MayTyd κ] {a1 a2} : OkP p κ (State.retire s a1 a2) := by
  unfold State.retire
  extract_lets x23 x24 x25 x26
  clear_value x23
  refine @use_ok p κ x24 _ ?_ ?_
  unfold x24
  apply State.onVol_ok
  apply State.evt_ok
  assumption
  intro _
  clear_value x24
  refine @use_ok p κ x25 _ ?_ ?_
  unfold x25
  apply State.wrN_ok
  assumption
  intro _
  clear_value x25
  refine @use_ok p κ x26 _ ?_ ?_
  unfold x26
  apply State.onVol_ok
  assumption
  intro _
  clear_value x26
  split
  extract_lets x35
  refine @use_ok p κ x35 _ ?_ ?_
  unfold x35
  apply State.refreshSpare_ok
  apply State.onVol_ok
  assumption
  intro _
  clear_value x35
  refine okP_mk ?_
  apply State.sprLog_ok
  assumption
  refine okP_mk ?_
  apply State.degrade_ok
  apply State.sprLog_ok
  apply State.wrN_ok
  assumption

theorem State.emitPage_ok (h : Ok p κ s) {a1 a2 a3 a4 a5 a6} : Ok p κ (State.emitPage s a1 a2 a3 a4 a5 a6) := by
  unfold State.emitPage
  extract_lets x27 x28
  clear_value x27
  clear_value x28
  apply State.emit_ok
  assumption

theorem State.emitParity_ok (h : Ok p κ s) {a1 a2 a3 a4} : Ok p κ (State.emitParity s a1 a2 a3 a4) := by
  unfold State.emitParity
  apply State.emitPage_ok
  assumption

theorem State.emitData_ok (h : Ok p κ s) {a1 a2 a3 a4 a5} : Ok p κ (State.emitData s a1 a2 a3 a4 a5) := by
  unfold State.emitData
  apply State.emitPage_ok
  assumption

theorem State.spareIn_ok (h : Ok p κ s) {a1 a2 a3 a4} : OkP p κ (State.spareIn s a1 a2 a3 a4) := by
  unfold State.spareIn
  extract_lets x25
  clear_value x25
  refine okP_mk ?_
  refine ok_foldl ?_ ?_
  assumption
  intro _ _ _
  refine ok_ite ?_ ?_
  apply State.emitParity_ok
  assumption
  split
  apply State.emitData_ok
  assumption
  assumption

theorem State.closeStripe_ok (h : Ok p κ s) [MayTyd κ] {a1 a2 a3} : Ok p κ (State.closeStripe s a1 a2 a3) := by
  unfold State.closeStripe
  refine ok_ite ?_ ?_
  apply State.putSeg_ok
  assumption
  extract_lets x24 x25 x26 x27
  clear_value x24
  clear_value x25
  clear_value x26
  clear_value x27
  refine ok_ite ?_ ?_
  split
  apply State.putSeg_ok
  refine ok_of_pair ?_ (by assumption)
  apply State.retire_ok
  assumption
  split
  apply State.putSeg_ok
  apply State.emitParity_ok
  refine ok_of_pair ?_ (by assumption)
  apply State.spareIn_ok
  refine ok_of_pair ?_ (by assumption)
  apply State.retire_ok
  assumption
  apply State.putSeg_ok
  apply State.emitParity_ok
  assumption

theorem State.ownRecord_ok (h : Ok p κ s) {a1} : OkP p κ (State.ownRecord s a1) := by
  unfold State.ownRecord
  split
  refine okP_mk ?_
  refine ok_of_pair ?_ (by assumption)
  apply State.free_ok
  assumption

theorem State.padPage_ok (h : Ok p κ s) : OkP p κ (State.padPage s) := by
  unfold State.padPage
  refine ok_foldlP ?_ ?_
  refine okP_mk ?_
  assumption
  intro _ _ _
  split
  refine okP_mk ?_
  refine ok_of_pair ?_ (by assumption)
  apply State.ownRecord_ok
  refine ok_snd ?_
  assumption

theorem State.padStripe_ok (h : Ok p κ s) {a1 a2 a3} : OkP p κ (State.padStripe s a1 a2 a3) := by
  induction a2 generalizing s a3
  unfold State.padStripe
  refine okP_mk ?_
  assumption
  rename_i ih
  unfold State.padStripe
  refine ok_ite ?_ ?_
  refine okP_mk ?_
  assumption
  split
  extract_lets x29
  clear_value x29
  refine okP_mk ?_
  apply State.emitParity_ok
  assumption
  split
  apply ih
  apply State.emitData_ok
  refine ok_of_pair ?_ (by assumption)
  apply State.padPage_ok
  assumption

theorem State.completeStripe_ok (h : Ok p κ s) [MayTyd κ] {a1 a2} : Ok p κ (State.completeStripe s a1 a2) := by
  unfold State.completeStripe
  split
  assumption
  split
  apply State.putSeg_ok
  refine ok_of_pair ?_ (by assumption)
  apply State.padStripe_ok
  assumption

theorem State.dropSeg_ok (h : Ok p κ s) [MayTyd κ] {a1} : Ok p κ (State.dropSeg s a1) := by
  unfold State.dropSeg
  apply State.onVol_ok
  assumption

theorem State.emitStripe_ok (h : Ok p κ s) {a1 a2 a3 a4} : Ok p κ (State.emitStripe s a1 a2 a3 a4) := by
  unfold State.emitStripe
  apply State.emitParity_ok
  refine ok_foldl ?_ ?_
  assumption
  intro _ _ _
  apply State.emitData_ok
  assumption

theorem State.putStep_ok (h : Ok p κ s) {a1} : Ok p κ (State.putStep s a1) := by
  unfold State.putStep
  apply State.degrade_ok
  apply State.setFld_ok
  assumption

theorem State.liftStep_ok (h : Ok p κ s) : Ok p κ (State.liftStep s) := by
  unfold State.liftStep
  split
  assumption
  refine ok_ite ?_ ?_
  apply State.putStep_ok
  assumption
  assumption

theorem State.levelWear_ok (h : Ok p κ s) [MayTyd κ] {a1} : Ok p κ (State.levelWear s a1) := by
  unfold State.levelWear
  split
  assumption
  extract_lets x27 x28
  clear_value x27
  clear_value x28
  split
  assumption
  refine ok_ite ?_ ?_
  apply State.onVol_ok
  assumption
  assumption

theorem State.eraseDone_ok (h : Ok p κ s) [MayTyd κ] {a1 a2} : Ok p κ (State.eraseDone s a1 a2) := by
  unfold State.eraseDone
  split
  assumption
  extract_lets x28 x29 x30 x31
  clear_value x28
  refine @use_ok p κ x29 _ ?_ ?_
  unfold x29
  apply State.onVol_ok
  assumption
  intro _
  clear_value x29
  refine @use_ok p κ x30 _ ?_ ?_
  unfold x30
  apply State.emit_ok
  assumption
  intro _
  clear_value x30
  refine @use_ok p κ x31 _ ?_ ?_
  unfold x31
  split
  refine ok_ite ?_ ?_
  apply State.liftStep_ok
  assumption
  assumption
  assumption
  intro _
  clear_value x31
  refine ok_ite ?_ ?_
  assumption
  refine ok_ite ?_ ?_
  split
  split
  apply State.onVol_ok
  refine ok_of_pair ?_ (by assumption)
  apply State.retire_ok
  assumption
  refine ok_of_pair ?_ (by assumption)
  apply State.retire_ok
  assumption
  apply State.levelWear_ok
  assumption

theorem State.reclaim_ok (h : Ok p κ s) [MayTyd κ] {a1 a2} : OkP p κ (State.reclaim a1 a2 s) := by
  induction a1 generalizing s
  unfold State.reclaim
  refine okP_mk ?_
  assumption
  rename_i ih
  unfold State.reclaim
  split
  refine okP_mk ?_
  apply State.dropSeg_ok
  assumption
  refine ok_ite ?_ ?_
  extract_lets x26 x27
  clear_value x26
  refine @use_ok p κ x27 _ ?_ ?_
  unfold x27
  apply State.evt_ok
  apply State.putStep_ok
  assumption
  intro _
  clear_value x27
  apply ih
  refine ok_ite ?_ ?_
  apply State.evt_ok
  assumption
  assumption
  refine okP_mk ?_
  assumption

theorem State.haveSeg_ok (h : Ok p κ s) [MayTyd κ] {a1 a2} : OkP p κ (State.haveSeg s a1 a2) := by
  unfold State.haveSeg
  split
  refine okP_mk ?_
  assumption
  refine ok_ite ?_ ?_
  refine okP_mk ?_
  assumption
  split
  refine ok_ite ?_ ?_
  split
  refine okP_mk ?_
  apply State.onTyd_ok
  refine ok_of_pair ?_ (by assumption)
  refine ok_ite ?_ ?_
  refine okP_mk ?_
  assumption
  apply State.reclaim_ok
  assumption
  refine okP_mk ?_
  refine ok_of_pair ?_ (by assumption)
  refine ok_ite ?_ ?_
  refine okP_mk ?_
  assumption
  apply State.reclaim_ok
  assumption
  refine okP_mk ?_
  refine ok_of_pair ?_ (by assumption)
  refine ok_ite ?_ ?_
  refine okP_mk ?_
  assumption
  apply State.reclaim_ok
  assumption

theorem State.losePages_ok (h : Ok p κ s) [MayTyd κ] {a1 a2 a3} : Ok p κ (State.losePages s a1 a2 a3) := by
  unfold State.losePages
  extract_lets x24 x25
  clear_value x24
  refine @use_ok p κ x25 _ ?_ ?_
  unfold x25
  apply State.putSeg_ok
  assumption
  intro _
  clear_value x25
  refine ok_ite ?_ ?_
  assumption
  apply State.evt_ok
  apply State.bump_ok
  assumption

theorem State.showChan_ok (h : Ok p κ s) {a1 a2} : Ok p κ (State.showChan s a1 a2) := by
  unfold State.showChan
  extract_lets x23
  clear_value x23
  split
  assumption
  extract_lets x29 x30
  clear_value x29
  refine @use_ok p κ x30 _ ?_ ?_
  unfold x30
  apply State.wrN_ok
  assumption
  intro _
  clear_value x30
  apply State.wrN_ok
  assumption

theorem State.mount_ok (h : Ok p κ s) [MayTyd κ] {a1} : Ok p κ (State.mount s a1) := by
  unfold State.mount
  extract_lets x22 x23
  refine @use_ok p κ x22 _ ?_ ?_
  unfold x22
  refine ok_foldl ?_ ?_
  assumption
  intro _ _ _
  apply State.showChan_ok
  assumption
  intro _
  refine @use_ok p κ x23 _ ?_ ?_
  unfold x23
  apply State.wrN_ok
  assumption
  intro _
  split
  extract_lets x32 x33 x34 x35 x36 x37 x38
  refine @use_ok p κ x32 _ ?_ ?_
  unfold x32
  apply State.wr_ok
  refine ok_of_pair ?_ (by assumption)
  apply State.free_ok
  assumption
  intro _
  refine @use_ok p κ x33 _ ?_ ?_
  unfold x33
  refine ok_ite ?_ ?_
  assumption
  apply State.onTyd_ok
  assumption
  intro _
  refine @use_ok p κ x34 _ ?_ ?_
  unfold x34
  apply State.captureInflight_ok
  assumption
  intro _
  refine @use_ok p κ x35 _ ?_ ?_
  unfold x35
  split
  assumption
  refine ok_foldl ?_ ?_
  assumption
  intro _ _ _
  apply State.completeStripe_ok
  assumption
  intro _
  refine @use_ok p κ x36 _ ?_ ?_
  unfold x36
  split
  assumption
  extract_lets x46 x47
  refine @use_ok p κ x47 _ ?_ ?_
  unfold x47
  refine ok_foldl ?_ ?_
  apply State.wrN_ok
  assumption
  intro _ _ _
  apply State.refreshSpare_ok
  assumption
  intro _
  refine ok_ite ?_ ?_
  apply State.degrade_ok
  assumption
  assumption
  intro _
  refine @use_ok p κ x37 _ ?_ ?_
  unfold x37
  refine ok_ite ?_ ?_
  apply State.setFld_ok
  assumption
  assumption
  intro _
  refine @use_ok p κ x38 _ ?_ ?_
  unfold x38
  apply State.setFld_ok
  assumption
  intro _
  refine ok_ite ?_ ?_
  apply State.setFld_ok
  assumption
  apply State.evt_ok
  apply State.setFld_ok
  assumption

theorem State.pageRead_ok (h : Ok p κ s) [MayTyd κ] {a1 a2} : Ok p κ (State.pageRead s a1 a2) := by
  unfold State.pageRead
  extract_lets x23 x24 x25 x26 x27 x28 x29 x30
  clear_value x23
  clear_value x24
  refine @use_ok p κ x25 _ ?_ ?_
  unfold x25
  apply State.onVol_ok
  assumption
  intro _
  clear_value x25
  clear_value x26
  clear_value x27
  clear_value x28
  clear_value x29
  clear_value x30
  split
  split
  refine ok_ite ?_ ?_
  apply State.putSeg_ok
  refine ok_of_pair ?_ (by assumption)
  refine ok_ite ?_ ?_
  apply State.takeInj_ok
  refine ok_of_pair ?_ (by assumption)
  apply State.takeInj_ok
  assumption
  refine okP_mk ?_
  refine ok_of_pair ?_ (by assumption)
  apply State.takeInj_ok
  assumption
  extract_lets x40 x41
  clear_value x40
  clear_value x41
  refine ok_ite ?_ ?_
  apply State.evt_ok
  apply State.bump_ok
  apply State.putSeg_ok
  refine ok_of_pair ?_ (by assumption)
  refine ok_ite ?_ ?_
  apply State.takeInj_ok
  refine ok_of_pair ?_ (by assumption)
  apply State.takeInj_ok
  assumption
  refine okP_mk ?_
  refine ok_of_pair ?_ (by assumption)
  apply State.takeInj_ok
  assumption
  apply State.losePages_ok
  refine ok_of_pair ?_ (by assumption)
  refine ok_ite ?_ ?_
  apply State.takeInj_ok
  refine ok_of_pair ?_ (by assumption)
  apply State.takeInj_ok
  assumption
  refine okP_mk ?_
  refine ok_of_pair ?_ (by assumption)
  apply State.takeInj_ok
  assumption

theorem State.program_ok (h : Ok p κ s) [MayTyd κ] {a1 a2 a3 a4 a5} : OkP p κ (State.program s a1 a2 a3 a4 a5) := by
  unfold State.program
  split
  split
  extract_lets x41
  clear_value x41
  split
  refine okP_mk ?_
  refine ok_of_pair ?_ (by assumption)
  apply State.haveSeg_ok
  assumption
  split
  refine ok_ite ?_ ?_
  extract_lets x42
  clear_value x42
  split
  refine okP_mk ?_
  apply State.completeStripe_ok
  refine ok_of_pair ?_ (by assumption)
  apply State.retire_ok
  refine ok_of_pair ?_ (by assumption)
  apply State.takeInj_ok
  refine ok_of_pair ?_ (by assumption)
  apply State.haveSeg_ok
  assumption
  split
  extract_lets x53
  refine @use_ok p κ x53 _ ?_ ?_
  unfold x53
  refine ok_foldl ?_ ?_
  refine ok_of_pair ?_ (by assumption)
  apply State.spareIn_ok
  refine ok_of_pair ?_ (by assumption)
  apply State.retire_ok
  refine ok_of_pair ?_ (by assumption)
  apply State.takeInj_ok
  refine ok_of_pair ?_ (by assumption)
  apply State.haveSeg_ok
  assumption
  intro _ _ _
  refine ok_ite ?_ ?_
  apply State.emitData_ok
  assumption
  assumption
  intro _
  clear_value x53
  refine okP_mk ?_
  apply State.closeStripe_ok
  apply State.emitData_ok
  assumption
  refine okP_mk ?_
  apply State.closeStripe_ok
  apply State.emitData_ok
  refine ok_of_pair ?_ (by assumption)
  apply State.takeInj_ok
  refine ok_of_pair ?_ (by assumption)
  apply State.haveSeg_ok
  assumption
  refine okP_mk ?_
  refine ok_of_pair ?_ (by assumption)
  apply State.haveSeg_ok
  assumption

theorem State.startMount_ok (h : Ok p κ s) : Ok p κ (State.startMount s) := by
  unfold State.startMount
  refine ok_ite ?_ ?_
  apply State.setFld_ok
  assumption
  assumption

theorem execCheckpoint_ok (h : Ok p κ s) [MayTyd κ] : OkR p κ (execCheckpoint s) := by
  unfold execCheckpoint
  refine okR_next ?_
  refine ok_ite ?_ ?_
  split
  split
  refine ok_ite ?_ ?_
  extract_lets x29
  refine @use_ok p κ x29 _ ?_ ?_
  unfold x29
  split
  apply State.completeStripe_ok
  refine ok_of_pair ?_ (by assumption)
  apply State.program_ok
  refine ok_of_pair ?_ (by assumption)
  refine ok_foldlP ?_ ?_
  refine okP_mk ?_
  assumption
  intro _ _ _
  split
  refine okP_mk ?_
  refine ok_of_pair ?_ (by assumption)
  apply State.ownRecord_ok
  refine ok_snd ?_
  assumption
  refine ok_of_pair ?_ (by assumption)
  apply State.program_ok
  refine ok_of_pair ?_ (by assumption)
  refine ok_foldlP ?_ ?_
  refine okP_mk ?_
  assumption
  intro _ _ _
  split
  refine okP_mk ?_
  refine ok_of_pair ?_ (by assumption)
  apply State.ownRecord_ok
  refine ok_snd ?_
  assumption
  intro _
  clear_value x29
  apply State.onTyd_ok
  assumption
  refine ok_of_pair ?_ (by assumption)
  apply State.program_ok
  refine ok_of_pair ?_ (by assumption)
  refine ok_foldlP ?_ ?_
  refine okP_mk ?_
  assumption
  intro _ _ _
  split
  refine okP_mk ?_
  refine ok_of_pair ?_ (by assumption)
  apply State.ownRecord_ok
  refine ok_snd ?_
  assumption
  assumption

theorem execFormat_ok (h : Ok p κ s) [MayMem κ] [MayFlips κ] [MayBnk κ] [MayCrn κ] [MayTyd κ] [MayBly κ] {a1 a2} : OkR p κ (execFormat a1 a2 s) := by
  unfold execFormat
  apply State.runCmd_ok
  assumption
  intro _ _ _
  refine ok_ite ?_ ?_
  apply State.completeCmd_ok
  assumption
  extract_lets x26 x27 x28 x29
  clear_value x26
  refine @use_ok p κ x27 _ ?_ ?_
  unfold x27
  apply State.onTyd_ok
  assumption
  intro _
  clear_value x27
  refine @use_ok p κ x28 _ ?_ ?_
  unfold x28
  refine ok_foldl ?_ ?_
  assumption
  intro _ _ _
  apply State.emit_ok
  assumption
  intro _
  clear_value x28
  refine @use_ok p κ x29 _ ?_ ?_
  unfold x29
  apply State.putStep_ok
  apply State.degrade_ok
  assumption
  intro _
  clear_value x29
  apply State.completeCmd_ok
  apply State.mount_ok
  assumption

theorem execMounted_ok (h : Ok p κ s) [MayTyd κ] {a1} : OkR p κ (execMounted a1 s) := by
  unfold execMounted
  refine okR_next ?_
  refine ok_ite ?_ ?_
  apply State.mount_ok
  assumption
  assumption

theorem execPageProgramDone_ok (h : Ok p κ s) [MayTyd κ] {a1 a2} : OkR p κ (execPageProgramDone a1 a2 s) := by
  unfold execPageProgramDone
  refine okR_next ?_
  refine ok_ite ?_ ?_
  split
  apply State.eraseDone_ok
  assumption
  split
  refine ok_ite ?_ ?_
  assumption
  split
  refine ok_ite ?_ ?_
  apply State.onTyd_ok
  refine ok_of_pair ?_ (by assumption)
  apply State.program_ok
  assumption
  refine ok_of_pair ?_ (by assumption)
  apply State.program_ok
  assumption
  assumption

theorem execPageReadDone_ok (h : Ok p κ s) [MayTyd κ] {a1} : OkR p κ (execPageReadDone a1 s) := by
  unfold execPageReadDone
  refine okR_next ?_
  refine ok_ite ?_ ?_
  split
  assumption
  refine ok_ite ?_ ?_
  apply State.pageRead_ok
  assumption
  assumption
  assumption

theorem execRelocationDone_ok (h : Ok p κ s) [MayTyd κ] : OkR p κ (execRelocationDone s) := by
  unfold execRelocationDone
  refine okR_next ?_
  refine ok_ite ?_ ?_
  split
  assumption
  split
  assumption
  split
  assumption
  split
  assumption
  extract_lets x35 x36 x37 x38
  clear_value x35
  clear_value x36
  clear_value x37
  refine @use_ok p κ x38 _ ?_ ?_
  unfold x38
  apply State.onTyd_ok
  assumption
  intro _
  clear_value x38
  refine ok_foldl ?_ ?_
  assumption
  intro _ _ _
  apply State.emitStripe_ok
  assumption
  assumption

theorem execSegmentRefresh_ok (h : Ok p κ s) [MayTyd κ] {a1} : OkR p κ (execSegmentRefresh a1 s) := by
  unfold execSegmentRefresh
  refine okR_next ?_
  refine ok_ite ?_ ?_
  apply State.onVol_ok
  apply State.onTime_ok
  assumption
  assumption

/-! ### Recorder -/

theorem State.dropChunk_ok (h : Ok p κ s) {a1} : Ok p κ (State.dropChunk s a1) := by
  unfold State.dropChunk
  apply State.evt_ok
  apply State.bump_ok
  assumption

theorem State.bufferChunk_ok (h : Ok p κ s) [MayTyd κ] {a1 a2} : Ok p κ (State.bufferChunk s a1 a2) := by
  unfold State.bufferChunk
  extract_lets x23
  clear_value x23
  refine ok_ite ?_ ?_
  apply State.dropChunk_ok
  assumption
  apply State.onTyd_ok
  assumption

theorem State.closeChunk_ok (h : Ok p κ s) [MayTyd κ] {a1} : Ok p κ (State.closeChunk s a1) := by
  unfold State.closeChunk
  split
  apply State.bufferChunk_ok
  apply State.onTyd_ok
  assumption
  assumption

theorem State.putPlayback_ok (h : Ok p κ s) [MayTyd κ] {a1 a2} : Ok p κ (State.putPlayback s a1 a2) := by
  unfold State.putPlayback
  extract_lets x23 x24
  refine @use_ok p κ x23 _ ?_ ?_
  unfold x23
  apply State.onTyd_ok
  assumption
  intro _
  clear_value x23
  clear_value x24
  apply State.setFld_ok
  apply State.setFld_ok
  assumption

theorem State.firePlayback_ok (h : Ok p κ s) [MayTyd κ] {a1} : Ok p κ (State.firePlayback s a1) := by
  unfold State.firePlayback
  refine ok_foldl ?_ ?_
  assumption
  intro _ _ _
  split
  refine ok_ite ?_ ?_
  apply State.putPlayback_ok
  assumption
  assumption
  assumption

theorem State.logChunk_ok (h : Ok p κ s) [MayTyd κ] : Ok p κ (State.logChunk s) := by
  unfold State.logChunk
  extract_lets x21 x22
  clear_value x21
  refine @use_ok p κ x22 _ ?_ ?_
  unfold x22
  refine ok_mk ?_
  assumption
  intro _
  split
  assumption
  extract_lets x27
  clear_value x27
  refine ok_ite ?_ ?_
  apply State.onTyd_ok
  assumption
  assumption

theorem State.pbEnd_ok (h : Ok p κ s) [MayTyd κ] [MayBly κ] {a1} : Ok p κ (State.pbEnd s a1) := by
  unfold State.pbEnd
  extract_lets x22 x23
  clear_value x22
  refine @use_ok p κ x23 _ ?_ ?_
  unfold x23
  apply State.tell_ok
  apply State.putPlayback_ok
  assumption
  intro _
  clear_value x23
  refine ok_ite ?_ ?_
  assumption
  apply State.evt_ok
  assumption

theorem State.pbDecision_ok (h : Ok p κ s) [MayTyd κ] [MayBly κ] {a1 a2} : Ok p κ (State.pbDecision s a1 a2) := by
  unfold State.pbDecision
  extract_lets x23
  clear_value x23
  refine ok_ite ?_ ?_
  refine ok_ite ?_ ?_
  apply State.pbEnd_ok
  assumption
  assumption
  refine ok_ite ?_ ?_
  assumption
  apply State.putPlayback_ok
  assumption

theorem State.pbUnder_ok (h : Ok p κ s) [MayMem κ] [MayFlips κ] [MayTrs κ] [MayBly κ] {a1} : Ok p κ (State.pbUnder s a1) := by
  unfold State.pbUnder
  apply State.deliver_ok
  apply State.evt_ok
  apply State.bump_ok
  assumption

theorem State.pbPlay_ok (h : Ok p κ s) [MayMem κ] [MayFlips κ] [MayTrs κ] [MayTyd κ] [MayBly κ] {a1 a2} : Ok p κ (State.pbPlay s a1 a2) := by
  unfold State.pbPlay
  split
  refine ok_ite ?_ ?_
  assumption
  apply State.pbEnd_ok
  apply State.pbUnder_ok
  assumption
  extract_lets x29 x30 x31
  clear_value x29
  clear_value x30
  clear_value x31
  split
  extract_lets x36 x37 x38 x39 x40
  refine @use_ok p κ x36 _ ?_ ?_
  unfold x36
  refine ok_ite ?_ ?_
  apply State.pbUnder_ok
  refine ok_of_pair ?_ (by assumption)
  refine ok_ite ?_ ?_
  apply State.takeInj_ok
  assumption
  refine okP_mk ?_
  assumption
  refine ok_ite ?_ ?_
  split
  apply State.deliver_ok
  refine ok_of_pair ?_ (by assumption)
  refine ok_ite ?_ ?_
  apply State.takeInj_ok
  assumption
  refine okP_mk ?_
  assumption
  apply State.pbUnder_ok
  refine ok_of_pair ?_ (by assumption)
  refine ok_ite ?_ ?_
  apply State.takeInj_ok
  assumption
  refine okP_mk ?_
  assumption
  split
  apply State.deliver_ok
  refine ok_of_pair ?_ (by assumption)
  apply State.free_ok
  refine ok_of_pair ?_ (by assumption)
  refine ok_ite ?_ ?_
  apply State.takeInj_ok
  assumption
  refine okP_mk ?_
  assumption
  intro _
  clear_value x36
  clear_value x37
  refine @use_ok p κ x38 _ ?_ ?_
  unfold x38
  apply State.putPlayback_ok
  apply State.wrN_ok
  assumption
  intro _
  clear_value x38
  refine @use_ok p κ x39 _ ?_ ?_
  unfold x39
  apply State.setFld_ok
  assumption
  intro _
  clear_value x39
  clear_value x40
  refine ok_ite ?_ ?_
  apply State.pbEnd_ok
  assumption
  assumption

theorem State.pbStream_ok (h : Ok p κ s) [MayMem κ] [MayFlips κ] [MayTrs κ] [MayTyd κ] [MayBly κ] {a1} : Ok p κ (State.pbStream s a1) := by
  unfold State.pbStream
  extract_lets x22 x23
  clear_value x22
  clear_value x23
  refine ok_ite ?_ ?_
  refine ok_ite ?_ ?_
  apply State.putPlayback_ok
  assumption
  assumption
  split
  apply State.pbPlay_ok
  assumption
  apply State.deliver_ok
  assumption

theorem State.pbTick_ok (h : Ok p κ s) [MayMem κ] [MayFlips κ] [MayTrs κ] [MayTyd κ] [MayBly κ] : Ok p κ (State.pbTick s) := by
  unfold State.pbTick
  refine ok_ite ?_ ?_
  refine ok_foldl ?_ ?_
  assumption
  intro _ _ _
  apply State.pbStream_ok
  assumption
  assumption

theorem State.recordSample_ok (h : Ok p κ s) [MayTyd κ] {a1} : Ok p κ (State.recordSample s a1) := by
  unfold State.recordSample
  extract_lets x22
  clear_value x22
  split
  extract_lets x29 x30 x31
  clear_value x29
  clear_value x30
  refine @use_ok p κ x31 _ ?_ ?_
  unfold x31
  apply State.onTyd_ok
  refine ok_of_pair ?_ (by assumption)
  refine ok_ite ?_ ?_
  split
  refine okP_mk ?_
  refine ok_of_pair ?_ (by assumption)
  apply State.free_ok
  assumption
  refine okP_mk ?_
  assumption
  intro _
  clear_value x31
  refine ok_ite ?_ ?_
  apply State.closeChunk_ok
  assumption
  assumption

theorem State.recChannel_ok (h : Ok p κ s) [MayTyd κ] {a1 a2} : Ok p κ (State.recChannel s a1 a2) := by
  unfold State.recChannel
  extract_lets x23 x24
  clear_value x23
  refine @use_ok p κ x24 _ ?_ ?_
  unfold x24
  refine ok_ite ?_ ?_
  apply State.closeChunk_ok
  assumption
  assumption
  intro _
  clear_value x24
  refine ok_ite ?_ ?_
  apply State.onTyd_ok
  assumption
  refine ok_ite ?_ ?_
  apply State.recordSample_ok
  assumption
  assumption

theorem State.recTick_ok (h : Ok p κ s) [MayTyd κ] : Ok p κ (State.recTick s) := by
  unfold State.recTick
  extract_lets x21 x22
  clear_value x21
  refine @use_ok p κ x22 _ ?_ ?_
  unfold x22
  refine ok_foldl ?_ ?_
  assumption
  intro _ _ _
  apply State.recChannel_ok
  assumption
  intro _
  clear_value x22
  refine ok_ite ?_ ?_
  apply State.logChunk_ok
  assumption
  assumption

theorem State.writePbCtrl_ok (h : Ok p κ s) [MayTyd κ] {a1 a2} : Ok p κ (State.writePbCtrl s a1 a2) := by
  unfold State.writePbCtrl
  extract_lets x23 x24 x25 x26 x27 x28 x29 x30
  refine @use_ok p κ x23 _ ?_ ?_
  unfold x23
  apply State.setFld_ok
  apply State.setFld_ok
  assumption
  intro _
  clear_value x23
  clear_value x24
  refine @use_ok p κ x25 _ ?_ ?_
  unfold x25
  refine ok_ite ?_ ?_
  apply State.evt_ok
  apply State.putPlayback_ok
  assumption
  assumption
  intro _
  clear_value x25
  clear_value x26
  clear_value x27
  refine @use_ok p κ x28 _ ?_ ?_
  unfold x28
  apply State.setFld_ok
  assumption
  intro _
  clear_value x28
  clear_value x29
  clear_value x30
  refine ok_ite ?_ ?_
  refine ok_ite ?_ ?_
  apply State.evt_ok
  apply State.setFld_ok
  assumption
  apply State.putPlayback_ok
  assumption
  assumption

theorem execPlaybackStart_ok (h : Ok p κ s) [MayMem κ] [MayFlips κ] [MayTrs κ] [MayTyd κ] [MayBly κ] {a1} : OkR p κ (execPlaybackStart a1 s) := by
  unfold execPlaybackStart
  refine okR_next ?_
  split
  refine ok_ite ?_ ?_
  extract_lets x26 x27
  clear_value x26
  refine @use_ok p κ x27 _ ?_ ?_
  unfold x27
  apply State.tell_ok
  apply State.putPlayback_ok
  assumption
  intro _
  clear_value x27
  apply State.pbPlay_ok
  apply State.onTick_ok
  assumption
  assumption
  assumption

/-! ### TydCmds -/

theorem State.archiveWords_ok (h : Ok p κ s) {a1} : OkP p κ (State.archiveWords s a1) := by
  induction a1 generalizing s
  unfold State.archiveWords
  refine okP_mk ?_
  assumption
  rename_i ih
  unfold State.archiveWords
  split
  split
  refine okP_mk ?_
  refine ok_of_pair ?_ (by assumption)
  apply ih
  refine ok_of_pair ?_ (by assumption)
  refine ok_ite ?_ ?_
  split
  refine okP_mk ?_
  refine ok_of_pair ?_ (by assumption)
  apply State.free_ok
  assumption
  refine okP_mk ?_
  assumption

theorem State.deleteChunks_ok (h : Ok p κ s) [MayTyd κ] {a1 a2} : Ok p κ (State.deleteChunks s a1 a2) := by
  unfold State.deleteChunks
  extract_lets x23
  clear_value x23
  apply State.onVol_ok
  assumption

theorem State.putRecord_ok (h : Ok p κ s) {a1 a2 a3} : Ok p κ (State.putRecord s a1 a2 a3) := by
  unfold State.putRecord
  apply State.emit_ok
  assumption

theorem State.finishExport_ok (h : Ok p κ s) [MayTyd κ] {a1 a2} : OkT p κ (State.finishExport s a1 a2) := by
  unfold State.finishExport
  extract_lets x23 x24 x25 x26 x27 x28 x29 x30
  clear_value x23
  clear_value x24
  clear_value x25
  clear_value x26
  clear_value x27
  clear_value x28
  clear_value x29
  refine @use_ok p κ x30 _ ?_ ?_
  unfold x30
  refine ok_foldl ?_ ?_
  assumption
  intro _ _ _
  apply State.putRecord_ok
  assumption
  intro _
  clear_value x30
  refine okT_mk ?_
  apply State.onTyd_ok
  apply State.putRecord_ok
  assumption

theorem State.pages_ok (h : Ok p κ s) {a1 a2} : OkP p κ (State.pages s a1 a2) := by
  induction a1 generalizing s a2
  unfold State.pages
  refine okP_mk ?_
  assumption
  rename_i ih
  unfold State.pages
  refine ok_ite ?_ ?_
  refine okP_mk ?_
  assumption
  split
  extract_lets x30
  clear_value x30
  split
  refine okP_mk ?_
  refine ok_of_pair ?_ (by assumption)
  apply ih
  refine ok_of_pair ?_ (by assumption)
  apply State.padPage_ok
  assumption

theorem State.flushBuffer_ok (h : Ok p κ s) [MayTyd κ] {a1 a2} : Ok p κ (State.flushBuffer s a1 a2) := by
  unfold State.flushBuffer
  extract_lets x23 x24
  clear_value x23
  clear_value x24
  split
  extract_lets x31
  refine @use_ok p κ x31 _ ?_ ?_
  unfold x31
  refine ok_foldl ?_ ?_
  refine ok_of_pair ?_ (by assumption)
  apply State.pages_ok
  assumption
  intro _ _ _
  split
  refine ok_ite ?_ ?_
  refine ok_of_pair ?_ (by assumption)
  apply State.program_ok
  assumption
  refine ok_snd ?_
  apply State.program_ok
  refine ok_of_pair ?_ (by assumption)
  apply State.program_ok
  assumption
  intro _
  clear_value x31
  apply State.onTyd_ok
  assumption

theorem State.programPages_ok (h : Ok p κ s) [MayTyd κ] {a1 a2} : OkP p κ (State.programPages s a1 a2) := by
  induction a2 generalizing s
  unfold State.programPages
  refine okP_mk ?_
  assumption
  rename_i ih
  unfold State.programPages
  split
  split
  refine ok_ite ?_ ?_
  apply ih
  refine ok_of_pair ?_ (by assumption)
  refine ok_ite ?_ ?_
  refine okP_mk ?_
  refine ok_of_pair ?_ (by assumption)
  apply State.program_ok
  assumption
  apply State.program_ok
  refine ok_of_pair ?_ (by assumption)
  apply State.program_ok
  assumption
  refine okP_mk ?_
  refine ok_of_pair ?_ (by assumption)
  refine ok_ite ?_ ?_
  refine okP_mk ?_
  refine ok_of_pair ?_ (by assumption)
  apply State.program_ok
  assumption
  apply State.program_ok
  refine ok_of_pair ?_ (by assumption)
  apply State.program_ok
  assumption

theorem State.storeChunks_ok (h : Ok p κ s) [MayTyd κ] {a1 a2} : OkP p κ (State.storeChunks s a1 a2) := by
  unfold State.storeChunks
  split
  split
  extract_lets x33
  refine @use_ok p κ x33 _ ?_ ?_
  unfold x33
  split
  apply State.completeStripe_ok
  refine ok_of_pair ?_ (by assumption)
  apply State.programPages_ok
  refine ok_of_pair ?_ (by assumption)
  apply State.pages_ok
  assumption
  refine ok_of_pair ?_ (by assumption)
  apply State.programPages_ok
  refine ok_of_pair ?_ (by assumption)
  apply State.pages_ok
  assumption
  intro _
  clear_value x33
  refine okP_mk ?_
  refine ok_ite ?_ ?_
  assumption
  apply State.deleteChunks_ok
  assumption

theorem State.tydCmd_ok (h : Ok p κ s) [MayMem κ] [MayFlips κ] [MayBnk κ] [MayCrn κ] [MayBly κ] {a1} {k : Cmd → State → State} (hk : ∀ c t, Ok p κ t → Ok p κ (k c t)) : OkR p κ (State.tydCmd s a1 k) := by
  unfold State.tydCmd
  apply State.runCmd_ok
  assumption
  intro _ _ _
  refine ok_ite ?_ ?_
  apply hk
  assumption
  apply State.completeCmd_ok
  assumption

theorem State.tydFreeze_ok (h : Ok p κ s) [MayTyd κ] : Ok p κ (State.tydFreeze s) := by
  unfold State.tydFreeze
  refine ok_ite ?_ ?_
  extract_lets x21 x22 x23
  refine @use_ok p κ x21 _ ?_ ?_
  unfold x21
  refine ok_foldl ?_ ?_
  assumption
  intro _ _ _
  apply State.closeChunk_ok
  assumption
  intro _
  clear_value x21
  refine @use_ok p κ x22 _ ?_ ?_
  unfold x22
  refine ok_foldl ?_ ?_
  assumption
  intro _ _ _
  apply State.logChunk_ok
  assumption
  intro _
  clear_value x22
  refine @use_ok p κ x23 _ ?_ ?_
  unfold x23
  apply State.onTyd_ok
  assumption
  intro _
  clear_value x23
  apply State.flushBuffer_ok
  apply State.flushBuffer_ok
  apply State.flushBuffer_ok
  apply State.flushBuffer_ok
  assumption
  assumption

theorem State.tydJournal_ok (h : Ok p κ s) : Ok p κ (State.tydJournal s) := by
  unfold State.tydJournal
  refine ok_ite ?_ ?_
  extract_lets x21 x22
  refine @use_ok p κ x21 _ ?_ ?_
  unfold x21
  apply State.captureInflight_ok
  assumption
  intro _
  clear_value x21
  refine @use_ok p κ x22 _ ?_ ?_
  unfold x22
  split
  assumption
  refine ok_foldl ?_ ?_
  assumption
  intro _ _ _
  split
  split
  apply State.emitPage_ok
  refine ok_of_pair ?_ (by assumption)
  apply State.ownRecord_ok
  refine ok_of_pair ?_ (by assumption)
  apply State.free_ok
  assumption
  intro _
  clear_value x22
  apply State.evt_ok
  apply State.setFld_ok
  assumption
  assumption

theorem State.writeCfgOnly_ok (h : Ok p κ s) {a1 a2 a3 a4} : Ok p κ (State.writeCfgOnly s a1 a2 a3 a4) := by
  unfold State.writeCfgOnly
  extract_lets x25
  clear_value x25
  refine ok_ite ?_ ?_
  assumption
  refine ok_ite ?_ ?_
  apply State.wr_ok
  assumption
  apply State.refusedField_ok
  assumption

theorem State.writeTydCtrl_ok (h : Ok p κ s) {a1 a2} : Ok p κ (State.writeTydCtrl s a1 a2) := by
  unfold State.writeTydCtrl
  extract_lets x23 x24 x25 x26 x27 x28 x29 x30
  clear_value x23
  clear_value x24
  clear_value x25
  clear_value x26
  refine @use_ok p κ x27 _ ?_ ?_
  unfold x27
  apply State.setFld_ok
  apply State.setFld_ok
  apply State.setFld_ok
  assumption
  intro _
  clear_value x27
  refine @use_ok p κ x28 _ ?_ ?_
  unfold x28
  refine ok_ite ?_ ?_
  apply State.setFld_ok
  assumption
  assumption
  intro _
  clear_value x28
  refine @use_ok p κ x29 _ ?_ ?_
  unfold x29
  refine ok_ite ?_ ?_
  apply State.setFld_ok
  assumption
  assumption
  intro _
  clear_value x29
  refine @use_ok p κ x30 _ ?_ ?_
  unfold x30
  refine ok_ite ?_ ?_
  apply State.startMount_ok
  assumption
  assumption
  intro _
  clear_value x30
  refine ok_ite ?_ ?_
  assumption
  apply State.refusedField_ok
  assumption

theorem execArchiveGet_ok (h : Ok p κ s) [MayMem κ] [MayFlips κ] [MayBnk κ] [MayCrn κ] [MayBly κ] : OkR p κ (execArchiveGet s) := by
  unfold execArchiveGet
  apply State.tydCmd_ok
  assumption
  intro _ _ _
  split
  apply State.completeCmd_ok
  assumption
  split
  extract_lets x32
  clear_value x32
  split
  apply State.completeCmd_ok
  refine ok_of_pair ?_ (by assumption)
  apply State.burstWrite_ok
  refine ok_of_pair ?_ (by assumption)
  apply State.archiveWords_ok
  assumption

theorem execArchivePut_ok (h : Ok p κ s) [MayMem κ] [MayFlips κ] [MayBnk κ] [MayCrn κ] [MayTyd κ] [MayBly κ] : OkR p κ (execArchivePut s) := by
  unfold execArchivePut
  apply State.tydCmd_ok
  assumption
  intro _ _ _
  extract_lets x24
  clear_value x24
  split
  apply State.completeCmd_ok
  refine ok_of_pair ?_ (by assumption)
  apply State.burstRead_ok
  assumption
  extract_lets x31 x32 x33 x34
  clear_value x31
  clear_value x32
  clear_value x33
  clear_value x34
  split
  refine ok_ite ?_ ?_
  apply State.completeCmd_ok
  apply State.deleteChunks_ok
  refine ok_of_pair ?_ (by assumption)
  apply State.storeChunks_ok
  refine ok_of_pair ?_ (by assumption)
  apply State.burstRead_ok
  assumption
  apply State.completeCmd_ok
  refine ok_of_pair ?_ (by assumption)
  apply State.storeChunks_ok
  refine ok_of_pair ?_ (by assumption)
  apply State.burstRead_ok
  assumption

theorem execExportAbort_ok (h : Ok p κ s) [MayMem κ] [MayFlips κ] [MayBnk κ] [MayCrn κ] [MayTyd κ] [MayBly κ] : OkR p κ (execExportAbort s) := by
  unfold execExportAbort
  apply State.tydCmd_ok
  assumption
  intro _ _ _
  extract_lets x24
  refine @use_ok p κ x24 _ ?_ ?_
  unfold x24
  split
  assumption
  split
  split
  apply State.completeCmd_ok
  refine ok_of_triple ?_ (by assumption)
  apply State.finishExport_ok
  refine ok_of_pair ?_ (by assumption)
  apply State.free_ok
  assumption
  intro _
  clear_value x24
  apply State.completeCmd_ok
  assumption

theorem execExportDone_ok (h : Ok p κ s) [MayMem κ] [MayFlips κ] [MayCrn κ] [MayTyd κ] {a1} : OkR p κ (execExportDone a1 s) := by
  unfold execExportDone
  refine okR_next ?_
  split
  assumption
  refine ok_ite ?_ ?_
  split
  extract_lets x31 x32
  clear_value x31
  refine @use_ok p κ x32 _ ?_ ?_
  unfold x32
  refine ok_foldl ?_ ?_
  refine ok_of_pair ?_ (by assumption)
  apply State.free_ok
  assumption
  intro _ _ _
  apply State.putRecord_ok
  assumption
  intro _
  clear_value x32
  apply State.completeCmd_ok
  apply State.onTyd_ok
  assumption
  split
  apply State.completeCmd_ok
  refine ok_of_triple ?_ (by assumption)
  apply State.finishExport_ok
  assumption

theorem execExportStart_ok (h : Ok p κ s) [MayMem κ] [MayFlips κ] [MayBnk κ] [MayCrn κ] [MayTyd κ] [MayBly κ] : OkR p κ (execExportStart s) := by
  unfold execExportStart
  apply State.tydCmd_ok
  assumption
  intro _ _ _
  refine ok_ite ?_ ?_
  apply State.completeCmd_ok
  assumption
  split
  apply State.completeCmd_ok
  refine ok_of_pair ?_ (by assumption)
  apply State.burstRead_ok
  assumption
  extract_lets x30 x31
  clear_value x30
  clear_value x31
  refine ok_ite ?_ ?_
  apply State.completeCmd_ok
  refine ok_of_pair ?_ (by assumption)
  apply State.burstRead_ok
  assumption
  apply State.detach_ok
  apply State.putRecord_ok
  apply State.onTyd_ok
  refine ok_of_pair ?_ (by assumption)
  apply State.burstRead_ok
  assumption

theorem execLibDelete_ok (h : Ok p κ s) [MayMem κ] [MayFlips κ] [MayBnk κ] [MayCrn κ] [MayTyd κ] [MayBly κ] : OkR p κ (execLibDelete s) := by
  unfold execLibDelete
  apply State.tydCmd_ok
  assumption
  intro _ _ _
  extract_lets x24
  clear_value x24
  refine ok_ite ?_ ?_
  apply State.completeCmd_ok
  assumption
  apply State.completeCmd_ok
  apply State.deleteChunks_ok
  assumption

theorem execLibImport_ok (h : Ok p κ s) [MayMem κ] [MayFlips κ] [MayBnk κ] [MayCrn κ] [MayTyd κ] [MayBly κ] : OkR p κ (execLibImport s) := by
  unfold execLibImport
  apply State.tydCmd_ok
  assumption
  intro _ _ _
  extract_lets x24 x25 x26 x27 x28
  clear_value x24
  clear_value x25
  clear_value x26
  clear_value x27
  clear_value x28
  refine ok_ite ?_ ?_
  apply State.completeCmd_ok
  assumption
  split
  apply State.completeCmd_ok
  refine ok_of_pair ?_ (by assumption)
  apply State.burstRead_ok
  assumption
  extract_lets x35 x36 x37
  clear_value x35
  clear_value x36
  clear_value x37
  split
  apply State.completeCmd_ok
  refine ok_of_pair ?_ (by assumption)
  apply State.storeChunks_ok
  refine ok_of_pair ?_ (by assumption)
  apply State.burstRead_ok
  assumption

end Sys2Proof.Machine
end

