-- ==== Sys2Proof/Laws/KeepBelay.lean ====
section
/-! SUPPORT. What the operations of Belay, booting, the flip and the lanes keep: the queue and the invariant of every step. -/

set_option Elab.async false

namespace Sys2Proof.Machine

open Sys2Proof

variable {p : List Instr} {κ : Kept} {s t : State}

/-! ### BelayPeer -/

theorem State.aheadIdx_ok (h : Ok p κ s) : OkP p κ (State.aheadIdx s) := by
  unfold State.aheadIdx
  split
  refine okP_mk ?_
  refine ok_of_pair ?_ (by assumption)
  apply State.free_ok
  assumption

theorem State.autoResync_ok (h : Ok p κ s) [MayBly κ] : Ok p κ (State.autoResync s) := by
  unfold State.autoResync
  refine ok_ite ?_ ?_
  apply State.startJoin_ok
  assumption
  assumption

theorem State.decideOwn_ok (h : Ok p κ s) [MayMem κ] [MayFlips κ] [MayTrs κ] [MayBly κ] : Ok p κ (State.decideOwn s) := by
  unfold State.decideOwn
  refine ok_foldl ?_ ?_
  assumption
  intro _ _ _
  refine ok_ite ?_ ?_
  extract_lets x24
  clear_value x24
  apply State.settle_ok
  apply State.onBly_ok
  assumption
  assumption

theorem State.endHold_ok (h : Ok p κ s) [MayMode κ] [MayMem κ] [MayFlips κ] [MaySys κ] [MayChs κ] [MayBnk κ] [MayCrn κ] [MayPrt κ] [MayPlb κ] [MayNet κ] [MayMlt κ] [MayBly κ] {a1} : Ok p κ (State.endHold s a1) := by
  unfold State.endHold
  refine ok_ite ?_ ?_
  extract_lets x22
  refine @use_ok p κ x22 _ ?_ ?_
  unfold x22
  apply State.setFld_ok
  apply State.onBly_ok
  assumption
  intro _
  clear_value x22
  apply State.abortRing_ok
  apply State.changeMode_ok
  apply State.setActOut_ok
  assumption
  assumption

theorem State.endJoin_ok (h : Ok p κ s) [MayMem κ] [MayFlips κ] [MaySys κ] [MayCrn κ] [MayBly κ] {a1 a2 a3 a4} : Ok p κ (State.endJoin s a1 a2 a3 a4) := by
  unfold State.endJoin
  refine ok_ite ?_ ?_
  extract_lets x25 x26 x27
  refine @use_ok p κ x25 _ ?_ ?_
  unfold x25
  apply State.onBly_ok
  assumption
  intro _
  refine @use_ok p κ x26 _ ?_ ?_
  unfold x26
  apply State.setFld_ok
  apply State.setFld_ok
  assumption
  intro _
  refine @use_ok p κ x27 _ ?_ ?_
  unfold x27
  split
  apply State.completeCmd_ok
  assumption
  assumption
  intro _
  refine ok_ite ?_ ?_
  apply State.finishReq_ok
  assumption
  assumption
  assumption

theorem State.mltHold_ok (h : Ok p κ s) [MayMlt κ] [MayBly κ] : Ok p κ (State.mltHold s) := by
  unfold State.mltHold
  refine ok_foldl ?_ ?_
  assumption
  intro _ _ _
  refine ok_ite ?_ ?_
  apply State.setChan_ok
  assumption
  assumption

theorem State.peerFail_ok (h : Ok p κ s) [MayMem κ] [MayFlips κ] [MaySys κ] [MayTrs κ] [MayCrn κ] [MayBly κ] : Ok p κ (State.peerFail s) := by
  unfold State.peerFail
  refine ok_ite ?_ ?_
  assumption
  extract_lets x21 x22
  refine @use_ok p κ x21 _ ?_ ?_
  unfold x21
  apply State.evt_ok
  apply State.setFld_ok
  assumption
  intro _
  clear_value x21
  refine @use_ok p κ x22 _ ?_ ?_
  unfold x22
  refine ok_ite ?_ ?_
  apply State.decideOwn_ok
  assumption
  assumption
  intro _
  clear_value x22
  apply State.onBly_ok
  apply State.endJoin_ok
  apply State.leaveLockstep_ok
  assumption

theorem State.pathSilent_ok (h : Ok p κ s) [MayMem κ] [MayFlips κ] [MaySys κ] [MayTrs κ] [MayCrn κ] [MayBly κ] {a1} : Ok p κ (State.pathSilent s a1) := by
  unfold State.pathSilent
  extract_lets x22 x23
  refine @use_ok p κ x22 _ ?_ ?_
  unfold x22
  apply State.setFld_ok
  assumption
  intro _
  clear_value x22
  refine @use_ok p κ x23 _ ?_ ?_
  unfold x23
  apply State.evt_ok
  assumption
  intro _
  clear_value x23
  refine ok_ite ?_ ?_
  apply State.peerFail_ok
  assumption
  refine ok_ite ?_ ?_
  apply State.leaveLockstep_ok
  assumption
  assumption

theorem State.planSwap_ok (h : Ok p κ s) [MayBly κ] {a1 a2} : Ok p κ (State.planSwap s a1 a2) := by
  unfold State.planSwap
  apply State.sendBelay_ok
  apply State.onBly_ok
  assumption

theorem State.refuseJoin_ok (h : Ok p κ s) [MayMem κ] [MayFlips κ] [MaySys κ] [MayCrn κ] [MayBly κ] {a1 a2} : Ok p κ (State.refuseJoin s a1 a2) := by
  unfold State.refuseJoin
  refine ok_ite ?_ ?_
  apply State.evt_ok
  apply State.endJoin_ok
  assumption
  assumption

theorem State.sendResign_ok (h : Ok p κ s) [MayBly κ] {a1} : Ok p κ (State.sendResign s a1) := by
  unfold State.sendResign
  extract_lets x22 x23
  clear_value x22
  clear_value x23
  refine ok_foldl ?_ ?_
  apply State.onBly_ok
  assumption
  intro _ _ _
  apply State.emit_ok
  assumption

theorem State.resign_ok (h : Ok p κ s) [MayMode κ] [MayMem κ] [MayFlips κ] [MaySys κ] [MayTrs κ] [MayChs κ] [MayCrn κ] [MayPrt κ] [MayPlb κ] [MayNet κ] [MayMlt κ] [MayBly κ] {a1} : Ok p κ (State.resign s a1) := by
  unfold State.resign
  refine ok_ite ?_ ?_
  extract_lets x22 x23 x24 x25
  refine @use_ok p κ x22 _ ?_ ?_
  unfold x22
  apply State.sendResign_ok
  apply State.leaveLockstep_ok
  assumption
  intro _
  clear_value x22
  refine @use_ok p κ x23 _ ?_ ?_
  unfold x23
  apply State.onBly_ok
  assumption
  intro _
  clear_value x23
  refine @use_ok p κ x24 _ ?_ ?_
  unfold x24
  apply State.setFld_ok
  apply State.setFld_ok
  assumption
  intro _
  clear_value x24
  refine @use_ok p κ x25 _ ?_ ?_
  unfold x25
  apply State.ptpDemote_ok
  apply State.dropPulses_ok
  apply State.mltHold_ok
  assumption
  intro _
  clear_value x25
  apply State.evt_ok
  apply State.finishReq_ok
  assumption
  refine ok_ite ?_ ?_
  extract_lets x22
  refine @use_ok p κ x22 _ ?_ ?_
  unfold x22
  apply State.sendResign_ok
  apply State.endJoin_ok
  apply State.leaveLockstep_ok
  assumption
  intro _
  clear_value x22
  apply State.changeMode_ok
  apply State.finishReq_ok
  apply State.setFld_ok
  assumption
  assumption

theorem State.swapFrame_ok (h : Ok p κ s) [MayBly κ] {a1} : Ok p κ (State.swapFrame s a1) := by
  unfold State.swapFrame
  refine ok_ite ?_ ?_
  apply State.onBly_ok
  assumption
  assumption

theorem State.trussUe_ok (h : Ok p κ s) [MayMode κ] [MayMem κ] [MayFlips κ] [MaySys κ] [MayTrs κ] [MayChs κ] [MayCrn κ] [MayPrt κ] [MayPlb κ] [MayNet κ] [MayMlt κ] [MayBly κ] {a1} : Ok p κ (State.trussUe s a1) := by
  unfold State.trussUe
  refine ok_ite ?_ ?_
  apply State.resign_ok
  assumption
  assumption

theorem State.yieldField_ok (h : Ok p κ s) [MayMode κ] [MayMem κ] [MayFlips κ] [MaySys κ] [MayTrs κ] [MayChs κ] [MayBnk κ] [MayCrn κ] [MayPrt κ] [MayPlb κ] [MayNet κ] [MayMlt κ] [MayBly κ] {a1} : Ok p κ (State.yieldField s a1) := by
  unfold State.yieldField
  refine ok_ite ?_ ?_
  apply State.endHold_ok
  assumption
  extract_lets x22
  refine @use_ok p κ x22 _ ?_ ?_
  unfold x22
  apply State.setActOut_ok
  apply State.leaveLockstep_ok
  assumption
  intro _
  clear_value x22
  refine ok_ite ?_ ?_
  apply State.autoResync_ok
  apply State.abortRing_ok
  apply State.changeMode_ok
  apply State.finishReq_ok
  assumption
  assumption

theorem execActInFall_ok (h : Ok p κ s) [MayMode κ] [MaySys κ] [MayChs κ] [MayPrt κ] [MayPlb κ] [MayNet κ] [MayMlt κ] [MayBly κ] : OkR p κ (execActInFall s) := by
  unfold execActInFall
  extract_lets x21 x22
  refine @use_ok p κ x21 _ ?_ ?_
  unfold x21
  apply State.setFld_ok
  assumption
  intro _
  clear_value x21
  refine @use_ok p κ x22 _ ?_ ?_
  unfold x22
  apply State.changeMode_ok
  apply State.onBly_ok
  assumption
  intro _
  clear_value x22
  refine okR_next ?_
  split
  refine ok_ite ?_ ?_
  extract_lets x29
  refine @use_ok p κ x29 _ ?_ ?_
  unfold x29
  apply State.wr_ok
  apply State.wrIdx_ok
  apply State.setActOut_ok
  assumption
  intro _
  clear_value x29
  apply State.evt_ok
  assumption
  assumption
  assumption

theorem execHbInEdge_ok (h : Ok p κ s) [MayTime κ] [MayPlb κ] [MayBly κ] {a1 a2} : OkR p κ (execHbInEdge a1 a2 s) := by
  unfold execHbInEdge
  extract_lets x23
  refine @use_ok p κ x23 _ ?_ ?_
  unfold x23
  apply State.captureOn_ok
  apply State.advance_ok
  assumption
  intro _
  clear_value x23
  refine okR_next ?_
  refine ok_ite ?_ ?_
  assumption
  refine ok_ite ?_ ?_
  apply State.onBly_ok
  assumption
  apply State.setFld_ok
  assumption

theorem execHbOutToggle_ok (h : Ok p κ s) [MayBly κ] : OkR p κ (execHbOutToggle s) := by
  unfold execHbOutToggle
  refine okR_next ?_
  refine ok_ite ?_ ?_
  apply State.emit_ok
  apply State.onBly_ok
  assumption
  assumption

theorem execPathFault_ok (h : Ok p κ s) [MayMem κ] [MayFlips κ] [MaySys κ] [MayTrs κ] [MayCrn κ] [MayBly κ] {a1} : OkR p κ (execPathFault a1 s) := by
  unfold execPathFault
  refine okR_next ?_
  refine ok_ite ?_ ?_
  assumption
  apply State.pathSilent_ok
  assumption

theorem execPeerReturn_ok (h : Ok p κ s) [MayBly κ] : OkR p κ (execPeerReturn s) := by
  unfold execPeerReturn
  refine okR_next ?_
  refine ok_ite ?_ ?_
  apply State.autoResync_ok
  apply State.setFld_ok
  assumption
  assumption

theorem execResignation_ok (h : Ok p κ s) [MayMode κ] [MayMem κ] [MayFlips κ] [MaySys κ] [MayTrs κ] [MayChs κ] [MayCrn κ] [MayPrt κ] [MayPlb κ] [MayNet κ] [MayMlt κ] [MayBly κ] {a1} : OkR p κ (execResignation a1 s) := by
  unfold execResignation
  refine okR_next ?_
  refine ok_ite ?_ ?_
  apply State.resign_ok
  assumption
  assumption

theorem execSeniorReassert_ok (h : Ok p κ s) [MayBly κ] : OkR p κ (execSeniorReassert s) := by
  unfold execSeniorReassert
  refine okR_next ?_
  refine ok_ite ?_ ?_
  apply State.onBly_ok
  apply State.setActOut_ok
  apply State.setActOut_ok
  assumption
  assumption

theorem execSwap_ok (h : Ok p κ s) [MayMem κ] [MayFlips κ] [MayBnk κ] [MayCrn κ] [MayBly κ] : OkR p κ (execSwap s) := by
  unfold execSwap
  apply State.runCmd_ok
  assumption
  intro _ _ _
  refine ok_ite ?_ ?_
  apply State.completeCmd_ok
  assumption
  extract_lets x24
  clear_value x24
  split
  split
  apply State.detach_ok
  apply State.planSwap_ok
  refine ok_of_pair ?_ (by assumption)
  apply State.aheadIdx_ok
  assumption
  extract_lets x29
  clear_value x29
  apply State.detach_ok
  apply State.planSwap_ok
  assumption

theorem execSwapExecute_ok (h : Ok p κ s) [MayMode κ] [MayMem κ] [MayFlips κ] [MaySys κ] [MayChs κ] [MayBnk κ] [MayCrn κ] [MayPrt κ] [MayPlb κ] [MayNet κ] [MayMlt κ] [MayBly κ] : OkR p κ (execSwapExecute s) := by
  unfold execSwapExecute
  refine okR_next ?_
  split
  refine ok_ite ?_ ?_
  extract_lets x25 x26 x27 x28
  refine @use_ok p κ x25 _ ?_ ?_
  unfold x25
  apply State.setActOut_ok
  apply State.onBly_ok
  assumption
  intro _
  clear_value x25
  refine @use_ok p κ x26 _ ?_ ?_
  unfold x26
  apply State.changeMode_ok
  assumption
  intro _
  clear_value x26
  refine @use_ok p κ x27 _ ?_ ?_
  unfold x27
  apply State.wr_ok
  apply State.wrIdx_ok
  assumption
  intro _
  clear_value x27
  refine @use_ok p κ x28 _ ?_ ?_
  unfold x28
  split
  apply State.completeCmd_ok
  assumption
  assumption
  intro _
  clear_value x28
  apply State.evt_ok
  apply State.abortRing_ok
  assumption
  assumption
  assumption

theorem execSwapSkipped_ok (h : Ok p κ s) : OkR p κ (execSwapSkipped s) := by
  unfold execSwapSkipped
  refine okR_next ?_
  refine ok_ite ?_ ?_
  apply State.evt_ok
  assumption
  assumption

theorem execSwapStart_ok (h : Ok p κ s) [MayBly κ] : OkR p κ (execSwapStart s) := by
  unfold execSwapStart
  refine okR_next ?_
  refine ok_ite ?_ ?_
  split
  apply State.planSwap_ok
  refine ok_of_pair ?_ (by assumption)
  apply State.aheadIdx_ok
  assumption
  assumption

theorem execTakeover_ok (h : Ok p κ s) [MayMode κ] [MayMem κ] [MayFlips κ] [MaySys κ] [MayChs κ] [MayBnk κ] [MayCrn κ] [MayPrt κ] [MayPlb κ] [MayNet κ] [MayMlt κ] [MayBly κ] {a1} : OkR p κ (execTakeover a1 s) := by
  unfold execTakeover
  refine okR_next ?_
  refine ok_ite ?_ ?_
  extract_lets x22 x23 x24 x25
  refine @use_ok p κ x22 _ ?_ ?_
  unfold x22
  apply State.setActOut_ok
  apply State.changeMode_ok
  assumption
  intro _
  clear_value x22
  refine @use_ok p κ x23 _ ?_ ?_
  unfold x23
  apply State.wrN_ok
  apply State.wrIdx_ok
  assumption
  intro _
  clear_value x23
  refine @use_ok p κ x24 _ ?_ ?_
  unfold x24
  apply State.sweepTakeover_ok
  apply State.jTakeover_ok
  assumption
  intro _
  clear_value x24
  refine @use_ok p κ x25 _ ?_ ?_
  unfold x25
  refine ok_ite ?_ ?_
  apply State.finishReq_ok
  assumption
  assumption
  intro _
  clear_value x25
  apply State.pumpAll_ok
  apply State.evt_ok
  assumption
  assumption

/-! ### BelayJoin -/

theorem State.beginLockstep_ok (h : Ok p κ s) [MayBly κ] {a1} : Ok p κ (State.beginLockstep s a1) := by
  unfold State.beginLockstep
  extract_lets x22
  refine @use_ok p κ x22 _ ?_ ?_
  unfold x22
  apply State.onBly_ok
  apply State.setFld_ok
  apply State.setFld_ok
  assumption
  intro _
  clear_value x22
  apply State.refreshBelay_ok
  assumption

theorem State.joinAck_ok (h : Ok p κ s) [MayBly κ] {a1 a2 a3} : Ok p κ (State.joinAck s a1 a2 a3) := by
  unfold State.joinAck
  apply State.sendBelay_ok
  assumption

theorem State.putSnap_ok (h : Ok p κ s) [MayMem κ] [MayFlips κ] {a1 a2 a3} : Ok p κ (State.putSnap s a1 a2 a3) := by
  unfold State.putSnap
  split
  refine ok_ite ?_ ?_
  apply State.setWord_ok
  assumption
  assumption
  refine ok_ite ?_ ?_
  apply State.setWord_ok
  assumption
  assumption
  split
  refine ok_ite ?_ ?_
  apply State.setWord_ok
  assumption
  assumption
  assumption
  refine ok_ite ?_ ?_
  extract_lets x24 x25
  clear_value x24
  refine @use_ok p κ x25 _ ?_ ?_
  unfold x25
  apply State.wr_ok
  assumption
  intro _
  clear_value x25
  refine ok_ite ?_ ?_
  assumption
  apply State.evt_ok
  apply State.wrIdx_ok
  assumption
  assumption
  assumption

theorem State.putSnaps_ok (h : Ok p κ s) [MayMem κ] [MayFlips κ] {a1 a2 a3 a4} : Ok p κ (State.putSnaps s a1 a2 a3 a4) := by
  induction a4 generalizing s a2
  unfold State.putSnaps
  assumption
  rename_i ih
  unfold State.putSnaps
  apply ih
  apply State.putSnap_ok
  assumption

theorem State.sendSnap_ok (h : Ok p κ s) [MayBly κ] {a1 a2 a3} : Ok p κ (State.sendSnap s a1 a2 a3) := by
  unfold State.sendSnap
  apply State.sendBelay_ok
  assumption

theorem State.sendUnits_ok (h : Ok p κ s) [MayBly κ] : Ok p κ (State.sendUnits s) := by
  unfold State.sendUnits
  split
  apply State.sendSnap_ok
  refine ok_of_pair ?_ (by assumption)
  apply State.free_ok
  assumption

theorem State.showGraph_ok (h : Ok p κ s) : Ok p κ (State.showGraph s) := by
  unfold State.showGraph
  apply State.refreshXfade_ok
  apply State.setFld_ok
  assumption

theorem State.snapLost_ok {a1} (h : OkP p κ a1) : OkP p κ (State.snapLost a1) := by
  unfold State.snapLost
  split
  refine okP_mk ?_
  assumption
  apply State.free_ok
  assumption

theorem State.snapBank_ok (h : Ok p κ s) [MayBnk κ] {a1 a2 a3 a4} : OkP p κ (State.snapBank a1 a2 a3 a4 s) := by
  induction a1 generalizing s a2 a3 a4
  unfold State.snapBank
  refine okP_mk ?_
  assumption
  rename_i ih
  unfold State.snapBank
  extract_lets x26 x27
  clear_value x26
  refine @use_okP p κ _ x27 _ ?_ ?_
  unfold x27
  refine ok_ite ?_ ?_
  refine okP_mk ?_
  assumption
  split
  refine okP_mk ?_
  refine ok_of_pair ?_ (by assumption)
  apply State.bankRead_ok
  assumption
  refine okP_mk ?_
  apply State.dmaErr_ok
  refine ok_of_pair ?_ (by assumption)
  apply State.bankRead_ok
  assumption
  intro _
  clear_value x27
  split
  split
  refine okP_mk ?_
  refine ok_of_pair ?_ (by assumption)
  apply ih
  refine ok_of_pair ?_ (by assumption)
  apply State.snapLost_ok
  assumption

theorem State.snapWords_ok (h : Ok p κ s) [MayMode κ] [MayMem κ] [MayFlips κ] [MaySys κ] [MayTrs κ] [MayChs κ] [MayBnk κ] [MayCrn κ] [MayPrt κ] [MayPlb κ] [MayNet κ] [MayMlt κ] [MayBly κ] {a1 a2 a3} : OkP p κ (State.snapWords s a1 a2 a3) := by
  unfold State.snapWords
  refine ok_ite ?_ ?_
  apply State.snapBank_ok
  assumption
  refine ok_foldlP ?_ ?_
  refine okP_mk ?_
  assumption
  intro _ _ _
  extract_lets x27
  refine @use_ok p κ x27 _ ?_ ?_
  unfold x27
  refine ok_snd ?_
  assumption
  intro _
  clear_value x27
  split
  refine okP_mk ?_
  refine ok_of_pair ?_ (by assumption)
  split
  split
  apply State.snapLost_ok
  refine okP_mk ?_
  assumption
  refine okP_mk ?_
  assumption
  refine okP_mk ?_
  assumption
  split
  refine okP_mk ?_
  assumption
  apply State.snapLost_ok
  refine okP_mk ?_
  apply State.trussUe_ok
  assumption

theorem State.standBefore_ok (h : Ok p κ s) [MayIdx κ] {a1} : Ok p κ (State.standBefore s a1) :=
  ok_change h rfl id id (fun _ => Nat.mod_lt _ (Nat.two_pow_pos 48)) (ki := .inl MayIdx.free)

theorem State.takeUnits_ok (h : Ok p κ s) [MayTrs κ] [MayChs κ] [MayCrn κ] [MayPrt κ] [MayNet κ] [MayMlt κ] [MayTyd κ] {a1} : Ok p κ (State.takeUnits s a1) := by
  unfold State.takeUnits
  extract_lets x22 x23 x24 x25 x26 x27 x28
  refine @use_ok p κ x22 _ ?_ ?_
  unfold x22
  split
  apply State.onTrs_ok
  assumption
  assumption
  intro _
  clear_value x22
  refine @use_ok p κ x23 _ ?_ ?_
  unfold x23
  split
  extract_lets x35
  clear_value x35
  refine ok_mk ?_
  assumption
  assumption
  intro _
  clear_value x23
  refine @use_ok p κ x24 _ ?_ ?_
  unfold x24
  split
  apply State.onCrn_ok
  assumption
  assumption
  intro _
  clear_value x24
  refine @use_ok p κ x25 _ ?_ ?_
  unfold x25
  split
  refine ok_mk ?_
  assumption
  assumption
  intro _
  clear_value x25
  refine @use_ok p κ x26 _ ?_ ?_
  unfold x26
  split
  apply State.onNet_ok
  assumption
  assumption
  intro _
  clear_value x26
  refine @use_ok p κ x27 _ ?_ ?_
  unfold x27
  split
  apply State.onTyd_ok
  assumption
  assumption
  intro _
  clear_value x27
  refine @use_ok p κ x28 _ ?_ ?_
  unfold x28
  split
  refine ok_mk ?_
  assumption
  assumption
  intro _
  clear_value x28
  apply State.showGraph_ok
  assumption

theorem execDescentAutoJoin_ok (h : Ok p κ s) [MayBly κ] : OkR p κ (execDescentAutoJoin s) := by
  unfold execDescentAutoJoin
  refine okR_next ?_
  refine ok_ite ?_ ?_
  apply State.startJoin_ok
  assumption
  assumption

theorem execJoin_ok (h : Ok p κ s) [MayMem κ] [MayFlips κ] [MayBnk κ] [MayCrn κ] [MayBly κ] : OkR p κ (execJoin s) := by
  unfold execJoin
  apply State.runCmd_ok
  assumption
  intro _ _ _
  refine ok_ite ?_ ?_
  apply State.detach_ok
  apply State.startJoin_ok
  assumption
  apply State.completeCmd_ok
  assumption

theorem execJoinAck_ok (h : Ok p κ s) [MayMem κ] [MayFlips κ] [MaySys κ] [MayCrn κ] [MayBly κ] {a1 a2 a3} : OkR p κ (execJoinAck a1 a2 a3 s) := by
  unfold execJoinAck
  extract_lets x24 x25
  refine @use_ok p κ x24 _ ?_ ?_
  unfold x24
  apply State.gotFrame_ok
  assumption
  intro _
  clear_value x24
  refine @use_ok p κ x25 _ ?_ ?_
  unfold x25
  refine ok_ite ?_ ?_
  apply State.wrIdx_ok
  apply State.onBly_ok
  assumption
  assumption
  intro _
  clear_value x25
  refine okR_next ?_
  refine ok_ite ?_ ?_
  assumption
  refine ok_ite ?_ ?_
  apply State.refuseJoin_ok
  assumption
  refine ok_ite ?_ ?_
  assumption
  apply State.onBly_ok
  assumption

theorem execJoinDone_ok (h : Ok p κ s) [MayMode κ] [MayMem κ] [MayFlips κ] [MaySys κ] [MayTrs κ] [MayChs κ] [MayCrn κ] [MayPrt κ] [MayPlb κ] [MayNet κ] [MayMlt κ] [MayBly κ] {a1} : OkR p κ (execJoinDone a1 s) := by
  unfold execJoinDone
  refine okR_next ?_
  refine ok_ite ?_ ?_
  assumption
  refine ok_ite ?_ ?_
  extract_lets x22 x23 x24
  refine @use_ok p κ x22 _ ?_ ?_
  unfold x22
  apply State.onBly_ok
  apply State.sendUnits_ok
  assumption
  intro _
  clear_value x22
  refine @use_ok p κ x23 _ ?_ ?_
  unfold x23
  apply State.wrN_ok
  apply State.setFld_ok
  apply State.setFld_ok
  assumption
  intro _
  clear_value x23
  clear_value x24
  apply State.evt_ok
  apply State.chooseLanes_ok
  apply State.setFld_ok
  apply State.beginLockstep_ok
  assumption
  refine ok_ite ?_ ?_
  extract_lets x22 x23
  refine @use_ok p κ x22 _ ?_ ?_
  unfold x22
  refine ok_ite ?_ ?_
  apply State.changeMode_ok
  assumption
  assumption
  intro _
  clear_value x22
  refine @use_ok p κ x23 _ ?_ ?_
  unfold x23
  apply State.wrN_ok
  apply State.wrN_ok
  apply State.beginLockstep_ok
  assumption
  intro _
  clear_value x23
  apply State.evt_ok
  apply State.endJoin_ok
  assumption
  assumption

theorem execJoinLockTimeout_ok (h : Ok p κ s) [MayMem κ] [MayFlips κ] [MaySys κ] [MayCrn κ] [MayBly κ] : OkR p κ (execJoinLockTimeout s) := by
  unfold execJoinLockTimeout
  refine okR_next ?_
  refine ok_ite ?_ ?_
  apply State.refuseJoin_ok
  assumption
  assumption

theorem execJoinReq_ok (h : Ok p κ s) [MayBly κ] {a1} : OkR p κ (execJoinReq a1 s) := by
  unfold execJoinReq
  extract_lets x22 x23
  refine @use_ok p κ x22 _ ?_ ?_
  unfold x22
  apply State.gotFrame_ok
  assumption
  intro _
  clear_value x22
  clear_value x23
  refine okR_next ?_
  refine ok_ite ?_ ?_
  assumption
  refine ok_ite ?_ ?_
  apply State.joinAck_ok
  assumption
  split
  extract_lets x31
  refine @use_ok p κ x31 _ ?_ ?_
  unfold x31
  apply State.wrIdx_ok
  apply State.onBly_ok
  refine ok_of_pair ?_ (by assumption)
  apply State.aheadIdx_ok
  assumption
  intro _
  clear_value x31
  apply State.joinAck_ok
  apply State.setFld_ok
  assumption

theorem execResyncStart_ok (h : Ok p κ s) [MayMode κ] [MayIdx κ] [MayMem κ] [MayFlips κ] [MaySys κ] [MayTrs κ] [MayChs κ] [MayBnk κ] [MayCrn κ] [MayPrt κ] [MayPlb κ] [MayNet κ] [MayMlt κ] [MayBly κ] : OkR p κ (execResyncStart s) := by
  unfold execResyncStart
  refine okR_next ?_
  split
  assumption
  refine ok_ite ?_ ?_
  extract_lets x24 x25 x26 x27
  clear_value x24
  clear_value x25
  refine @use_ok p κ x26 _ ?_ ?_
  unfold x26
  apply State.setFld_ok
  apply State.onBly_ok
  assumption
  intro _
  clear_value x26
  refine @use_ok p κ x27 _ ?_ ?_
  unfold x27
  refine ok_foldl ?_ ?_
  assumption
  intro _ _ _
  split
  apply State.sendSnap_ok
  refine ok_of_pair ?_ (by assumption)
  apply State.snapWords_ok
  assumption
  intro _
  clear_value x27
  apply State.wrN_ok
  apply State.wrN_ok
  apply State.sendUnits_ok
  assumption
  refine ok_ite ?_ ?_
  extract_lets x24 x25 x26
  refine @use_ok p κ x24 _ ?_ ?_
  unfold x24
  apply State.standBefore_ok
  assumption
  intro _
  clear_value x24
  refine @use_ok p κ x25 _ ?_ ?_
  unfold x25
  apply State.onBly_ok
  assumption
  intro _
  clear_value x25
  refine @use_ok p κ x26 _ ?_ ?_
  unfold x26
  apply State.setFld_ok
  apply State.onTrs_ok
  assumption
  intro _
  clear_value x26
  apply State.wrN_ok
  apply State.wrIdx_ok
  assumption
  assumption

theorem execSnap_ok (h : Ok p κ s) [MayMem κ] [MayFlips κ] [MayTrs κ] [MayChs κ] [MayCrn κ] [MayPrt κ] [MayNet κ] [MayMlt κ] [MayTyd κ] [MayBly κ] {a1 a2 a3 a4} : OkR p κ (execSnap a1 a2 a3 a4 s) := by
  unfold execSnap
  extract_lets x25 x26
  refine @use_ok p κ x25 _ ?_ ?_
  unfold x25
  apply State.gotFrame_ok
  assumption
  intro _
  clear_value x25
  clear_value x26
  refine okR_next ?_
  refine ok_ite ?_ ?_
  refine ok_ite ?_ ?_
  split
  apply State.takeUnits_ok
  assumption
  assumption
  apply State.wrN_ok
  apply State.putSnaps_ok
  assumption
  assumption

theorem execSnapshotDone_ok (h : Ok p κ s) [MayIdx κ] [MayMem κ] [MayFlips κ] [MayTrs κ] [MayBnk κ] [MayBly κ] : OkR p κ (execSnapshotDone s) := by
  unfold execSnapshotDone
  refine okR_next ?_
  refine ok_ite ?_ ?_
  assumption
  refine ok_ite ?_ ?_
  split
  extract_lets x27
  clear_value x27
  apply State.joinAck_ok
  apply State.onBly_ok
  apply State.setFld_ok
  refine ok_of_pair ?_ (by assumption)
  apply State.aheadIdx_ok
  assumption
  refine ok_ite ?_ ?_
  extract_lets x21 x22 x23
  refine @use_ok p κ x21 _ ?_ ?_
  unfold x21
  apply State.setFld_ok
  assumption
  intro _
  clear_value x21
  refine @use_ok p κ x22 _ ?_ ?_
  unfold x22
  apply State.openLive_ok
  refine ok_idx ?_ ?_
  assumption
  exact nextIdx_lt _
  intro _
  clear_value x22
  refine @use_ok p κ x23 _ ?_ ?_
  unfold x23
  apply State.onBly_ok
  apply State.showGraph_ok
  assumption
  intro _
  clear_value x23
  apply State.settle_ok
  apply State.wrN_ok
  assumption
  assumption

/-! ### BelayFrames -/

theorem State.diverge_ok (h : Ok p κ s) [MayMem κ] [MayFlips κ] [MaySys κ] [MayTrs κ] [MayCrn κ] [MayBly κ] {a1} : Ok p κ (State.diverge s a1) := by
  unfold State.diverge
  extract_lets x22
  refine @use_ok p κ x22 _ ?_ ?_
  unfold x22
  apply State.evt_ok
  apply State.wrIdx_ok
  assumption
  intro _
  clear_value x22
  refine ok_ite ?_ ?_
  apply State.leaveLockstep_ok
  assumption
  assumption

theorem State.compareDigests_ok (h : Ok p κ s) [MayMem κ] [MayFlips κ] [MaySys κ] [MayTrs κ] [MayCrn κ] [MayBly κ] {a1 a2} : Ok p κ (State.compareDigests s a1 a2) := by
  unfold State.compareDigests
  split
  assumption
  refine ok_ite ?_ ?_
  assumption
  split
  extract_lets x32
  refine @use_ok p κ x32 _ ?_ ?_
  unfold x32
  apply State.onBly_ok
  apply State.onTime_ok
  refine ok_of_pair ?_ (by assumption)
  apply State.takeInj_ok
  assumption
  intro _
  clear_value x32
  refine ok_ite ?_ ?_
  apply State.diverge_ok
  assumption
  assumption

theorem State.decide'_ok (h : Ok p κ s) [MayBly κ] {a1 a2 a3} : Ok p κ (State.decide' s a1 a2 a3) := by
  unfold State.decide'
  refine ok_ite ?_ ?_
  assumption
  apply State.onBly_ok
  assumption

theorem State.tryFinal_ok (h : Ok p κ s) [MayMem κ] [MayFlips κ] [MayTrs κ] {a1} : Ok p κ (State.tryFinal s a1) := by
  unfold State.tryFinal
  refine ok_ite ?_ ?_
  extract_lets x22 x23
  clear_value x22
  refine @use_ok p κ x23 _ ?_ ?_
  unfold x23
  refine ok_foldl ?_ ?_
  assumption
  intro _ _ _
  apply State.arrive_ok
  assumption
  intro _
  clear_value x23
  refine ok_ite ?_ ?_
  assumption
  apply State.deadline_ok
  assumption
  assumption

theorem State.lapse_ok (h : Ok p κ s) [MayMem κ] [MayFlips κ] [MayTrs κ] : Ok p κ (State.lapse s) := by
  unfold State.lapse
  extract_lets x21 x22
  clear_value x21
  clear_value x22
  refine ok_ite ?_ ?_
  apply State.tryFinal_ok
  refine ok_foldl ?_ ?_
  assumption
  intro _ _ _
  apply State.arrive_ok
  assumption
  assumption

theorem State.patchIn_ok (h : Ok p κ s) [MayMem κ] [MayFlips κ] [MayTrs κ] [MayBly κ] {a1 a2 a3} : Ok p κ (State.patchIn s a1 a2 a3) := by
  unfold State.patchIn
  refine ok_ite ?_ ?_
  refine ok_ite ?_ ?_
  assumption
  apply State.evt_ok
  apply State.bump_ok
  assumption
  refine ok_ite ?_ ?_
  assumption
  apply State.settle_ok
  apply State.onBly_ok
  assumption

theorem State.peerJournal_ok (h : Ok p κ s) {a1 a2 a3} : Ok p κ (State.peerJournal s a1 a2 a3) := by
  unfold State.peerJournal
  extract_lets x24
  clear_value x24
  refine ok_ite ?_ ?_
  apply State.setFld_ok
  apply State.wrN_ok
  apply State.wrN_ok
  assumption
  assumption

theorem State.peerTime_ok (h : Ok p κ s) [MayTime κ] [MayBly κ] {a1 a2} : Ok p κ (State.peerTime s a1 a2) := by
  unfold State.peerTime
  refine ok_ite ?_ ?_
  apply State.timeOffset_ok
  assumption
  assumption

theorem State.sendTick_ok (h : Ok p κ s) [MayBly κ] : Ok p κ (State.sendTick s) := by
  unfold State.sendTick
  split
  extract_lets x27 x28 x29 x30 x31 x32 x33 x34
  clear_value x27
  clear_value x28
  clear_value x29
  clear_value x30
  clear_value x31
  clear_value x32
  clear_value x33
  clear_value x34
  apply State.sendBelay_ok
  refine ok_of_pair ?_ (by assumption)
  apply State.free_ok
  assumption

theorem execBelayCrcError_ok (h : Ok p κ s) [MayBly κ] {a1} : OkR p κ (execBelayCrcError a1 s) := by
  unfold execBelayCrcError
  refine okR_next ?_
  apply State.sendBelay_ok
  apply State.bump_ok
  assumption

theorem execCommandFrame_ok (h : Ok p κ s) [MayMem κ] [MayFlips κ] [MayBnk κ] [MayCrn κ] [MayBly κ] {a1 a2} : OkR p κ (execCommandFrame a1 a2 s) := by
  unfold execCommandFrame
  extract_lets x23
  refine @use_ok p κ x23 _ ?_ ?_
  unfold x23
  apply State.gotFrame_ok
  assumption
  intro _
  clear_value x23
  refine okR_next ?_
  refine ok_ite ?_ ?_
  apply State.pumpAll_ok
  apply State.onCrn_ok
  assumption
  assumption

theorem execFallback_ok (h : Ok p κ s) [MayMem κ] [MayFlips κ] [MayTrs κ] [MayBly κ] : OkR p κ (execFallback s) := by
  unfold execFallback
  extract_lets x21 x22 x23 x24
  clear_value x21
  refine @use_ok p κ x22 _ ?_ ?_
  unfold x22
  apply State.bump_ok
  assumption
  intro _
  clear_value x22
  clear_value x23
  refine @use_ok p κ x24 _ ?_ ?_
  unfold x24
  apply State.onBly_ok
  assumption
  intro _
  clear_value x24
  refine okR_next ?_
  refine ok_ite ?_ ?_
  apply State.tryFinal_ok
  apply State.settle_ok
  assumption
  assumption

theorem execNak_ok (h : Ok p κ s) [MayBly κ] {a1} : OkR p κ (execNak a1 s) := by
  unfold execNak
  extract_lets x22
  refine @use_ok p κ x22 _ ?_ ?_
  unfold x22
  apply State.gotFrame_ok
  assumption
  intro _
  clear_value x22
  refine okR_next ?_
  refine ok_foldl ?_ ?_
  assumption
  intro _ _ _
  apply State.deal_ok
  assumption

theorem execPatch_ok (h : Ok p κ s) [MayMem κ] [MayFlips κ] [MayTrs κ] [MayBly κ] {a1 a2} : OkR p κ (execPatch a1 a2 s) := by
  unfold execPatch
  extract_lets x23 x24 x25 x26 x27
  refine @use_ok p κ x23 _ ?_ ?_
  unfold x23
  apply State.gotFrame_ok
  assumption
  intro _
  clear_value x23
  clear_value x24
  clear_value x25
  clear_value x26
  refine @use_ok p κ x27 _ ?_ ?_
  unfold x27
  refine ok_ite ?_ ?_
  assumption
  apply State.bump_ok
  assumption
  intro _
  clear_value x27
  refine okR_next ?_
  refine ok_ite ?_ ?_
  assumption
  apply State.tryFinal_ok
  refine ok_foldl ?_ ?_
  assumption
  intro _ _ _
  apply State.patchIn_ok
  assumption

theorem execPatchReq_ok (h : Ok p κ s) [MayBly κ] {a1 a2} : OkR p κ (execPatchReq a1 a2 s) := by
  unfold execPatchReq
  extract_lets x23 x24 x25
  refine @use_ok p κ x23 _ ?_ ?_
  unfold x23
  apply State.gotFrame_ok
  assumption
  intro _
  clear_value x23
  clear_value x24
  clear_value x25
  refine okR_next ?_
  refine ok_ite ?_ ?_
  assumption
  apply State.sendBelay_ok
  apply State.bump_ok
  assumption

theorem execPresence_ok (h : Ok p κ s) [MayMem κ] [MayFlips κ] [MayTrs κ] [MayBly κ] {a1 a2 a3} : OkR p κ (execPresence a1 a2 a3 s) := by
  unfold execPresence
  extract_lets x24 x25 x26 x27 x28 x29 x30
  refine @use_ok p κ x24 _ ?_ ?_
  unfold x24
  apply State.gotFrame_ok
  assumption
  intro _
  clear_value x24
  clear_value x25
  clear_value x26
  refine @use_ok p κ x27 _ ?_ ?_
  unfold x27
  refine ok_foldl ?_ ?_
  assumption
  intro _ _ _
  apply State.decide'_ok
  assumption
  intro _
  clear_value x27
  clear_value x28
  refine @use_ok p κ x29 _ ?_ ?_
  unfold x29
  refine ok_ite ?_ ?_
  assumption
  apply State.sendBelay_ok
  assumption
  intro _
  clear_value x29
  refine @use_ok p κ x30 _ ?_ ?_
  unfold x30
  refine ok_ite ?_ ?_
  apply State.onBly_ok
  assumption
  assumption
  intro _
  clear_value x30
  refine okR_next ?_
  refine ok_ite ?_ ?_
  assumption
  apply State.tryFinal_ok
  apply State.settle_ok
  assumption

theorem execResign_ok (h : Ok p κ s) [MayMem κ] [MayFlips κ] [MaySys κ] [MayTrs κ] [MayCrn κ] [MayBly κ] {a1} : OkR p κ (execResign a1 s) := by
  unfold execResign
  extract_lets x22
  refine @use_ok p κ x22 _ ?_ ?_
  unfold x22
  apply State.gotFrame_ok
  assumption
  intro _
  clear_value x22
  refine okR_next ?_
  apply State.peerFail_ok
  apply State.finishReq_ok
  apply State.evt_ok
  apply State.setFld_ok
  assumption

theorem execRetransmit_ok (h : Ok p κ s) [MayBly κ] : OkR p κ (execRetransmit s) := by
  unfold execRetransmit
  refine okR_next ?_
  split
  apply State.deal_ok
  assumption
  assumption

theorem execSwapFrame_ok (h : Ok p κ s) [MayBly κ] {a1 a2} : OkR p κ (execSwapFrame a1 a2 s) := by
  unfold execSwapFrame
  refine okR_next ?_
  apply State.swapFrame_ok
  apply State.gotFrame_ok
  assumption

theorem execTickFrame_ok (h : Ok p κ s) [MayMem κ] [MayFlips κ] [MayTime κ] [MaySys κ] [MayTrs κ] [MayCrn κ] [MayBly κ] {a1} : OkR p κ (execTickFrame a1 s) := by
  unfold execTickFrame
  extract_lets x22 x23 x24 x25 x26
  refine @use_ok p κ x22 _ ?_ ?_
  unfold x22
  apply State.gotFrame_ok
  assumption
  intro _
  clear_value x22
  refine @use_ok p κ x23 _ ?_ ?_
  unfold x23
  apply State.onBly_ok
  assumption
  intro _
  clear_value x23
  clear_value x24
  refine @use_ok p κ x25 _ ?_ ?_
  unfold x25
  refine ok_ite ?_ ?_
  assumption
  apply State.wrN_ok
  assumption
  intro _
  clear_value x25
  refine @use_ok p κ x26 _ ?_ ?_
  unfold x26
  apply State.setFld_ok
  assumption
  intro _
  clear_value x26
  split
  extract_lets x37 x38 x39 x40 x41
  refine @use_ok p κ x37 _ ?_ ?_
  unfold x37
  apply State.setQuality_ok
  refine ok_of_pair ?_ (by assumption)
  refine ok_ite ?_ ?_
  refine okP_mk ?_
  assumption
  split
  refine okP_mk ?_
  refine ok_of_pair ?_ (by assumption)
  apply State.free_ok
  assumption
  intro _
  clear_value x37
  refine @use_ok p κ x38 _ ?_ ?_
  unfold x38
  apply State.peerTime_ok
  assumption
  intro _
  clear_value x38
  refine @use_ok p κ x39 _ ?_ ?_
  unfold x39
  split
  apply State.peerJournal_ok
  assumption
  assumption
  intro _
  clear_value x39
  refine @use_ok p κ x40 _ ?_ ?_
  unfold x40
  refine ok_ite ?_ ?_
  assumption
  apply State.lanesChanged_ok
  apply State.onTrs_ok
  assumption
  intro _
  clear_value x40
  refine @use_ok p κ x41 _ ?_ ?_
  unfold x41
  apply State.compareDigests_ok
  assumption
  intro _
  clear_value x41
  refine okR_next ?_
  refine ok_ite ?_ ?_
  apply State.peerFail_ok
  assumption
  refine ok_ite ?_ ?_
  apply State.autoResync_ok
  assumption
  refine ok_ite ?_ ?_
  apply State.leaveLockstep_ok
  assumption
  assumption

/-! ### Fire -/

theorem State.tickConsumers_ok (h : Ok p κ s) [MayPrt κ] [MayMlt κ] [MayTyd κ] [MayBly κ] {a1} : Ok p κ (State.tickConsumers s a1) := by
  unfold State.tickConsumers
  apply State.firePlayback_ok
  apply State.fireMallet_ok
  apply State.firePorts_ok
  assumption

theorem State.fire_ok (h : Ok p κ s) [MayMem κ] [MayFlips κ] [MayBnk κ] [MayCrn κ] [MayPrt κ] [MayPlb κ] [MayNet κ] [MayMlt κ] [MayTyd κ] [MayBly κ] {a1} : Ok p κ (State.fire s a1) := by
  unfold State.fire
  extract_lets x22 x23 x24 x25 x26
  clear_value x22
  refine @use_ok p κ x23 _ ?_ ?_
  unfold x23
  refine ok_ite ?_ ?_
  apply State.tell_ok
  apply State.wrN_ok
  assumption
  assumption
  intro _
  clear_value x23
  refine @use_ok p κ x24 _ ?_ ?_
  unfold x24
  apply State.evt_ok
  apply State.wr_ok
  assumption
  intro _
  clear_value x24
  refine @use_ok p κ x25 _ ?_ ?_
  unfold x25
  apply State.captureOn_ok
  apply State.rearm_ok
  apply State.pulse_ok
  assumption
  intro _
  clear_value x25
  refine @use_ok p κ x26 _ ?_ ?_
  unfold x26
  refine ok_ite ?_ ?_
  apply State.tickConsumers_ok
  assumption
  refine ok_ite ?_ ?_
  assumption
  apply State.onPlb_ok
  assumption
  intro _
  clear_value x26
  refine ok_ite ?_ ?_
  apply State.tetherFire_ok
  assumption
  assumption

theorem State.applyDecision_ok (h : Ok p κ s) [MayMem κ] [MayFlips κ] [MayTime κ] [MayBnk κ] [MayCrn κ] [MayPrt κ] [MayPlb κ] [MayNet κ] [MayMlt κ] [MayTyd κ] [MayBly κ] {a1 a2 a3} : Ok p κ (State.applyDecision s a1 a2 a3) := by
  unfold State.applyDecision
  split
  split
  extract_lets x29
  refine @use_ok p κ x29 _ ?_ ?_
  unfold x29
  apply State.wrIdx_ok
  apply State.onCrn_ok
  assumption
  intro _
  clear_value x29
  apply State.wrIdx_ok
  assumption
  assumption
  refine ok_ite ?_ ?_
  refine ok_ite ?_ ?_
  apply State.fire_ok
  assumption
  assumption
  apply State.stepTime_ok
  assumption
  apply State.netDecision_ok
  assumption
  apply State.mltDecision_ok
  assumption
  apply State.pbDecision_ok
  assumption
  assumption

theorem State.dueDecisions_ok (h : Ok p κ s) [MayMem κ] [MayFlips κ] [MayTime κ] [MayBnk κ] [MayCrn κ] [MayPrt κ] [MayPlb κ] [MayNet κ] [MayMlt κ] [MayTyd κ] [MayBly κ] : Ok p κ (State.dueDecisions s) := by
  unfold State.dueDecisions
  split
  refine ok_foldl ?_ ?_
  apply State.onBly_ok
  assumption
  intro _ _ _
  apply State.applyDecision_ok
  assumption

theorem execDecision_ok (h : Ok p κ s) [MayMem κ] [MayFlips κ] [MayTime κ] [MayTrs κ] [MayBnk κ] [MayCrn κ] [MayPrt κ] [MayPlb κ] [MayNet κ] [MayMlt κ] [MayTyd κ] [MayBly κ] {a1 a2 a3 a4} : OkR p κ (execDecision a1 a2 a3 a4 s) := by
  unfold execDecision
  extract_lets x25 x26
  refine @use_ok p κ x25 _ ?_ ?_
  unfold x25
  apply State.gotFrame_ok
  assumption
  intro _
  clear_value x25
  clear_value x26
  refine okR_next ?_
  refine ok_ite ?_ ?_
  assumption
  refine ok_ite ?_ ?_
  apply State.onTrs_ok
  assumption
  refine ok_ite ?_ ?_
  apply State.applyDecision_ok
  assumption
  apply State.dueDecisions_ok
  apply State.onBly_ok
  assumption

theorem execFired_ok (h : Ok p κ s) [MayMem κ] [MayFlips κ] [MayTime κ] [MayBnk κ] [MayCrn κ] [MayPrt κ] [MayPlb κ] [MayNet κ] [MayMlt κ] [MayTyd κ] [MayBly κ] {a1 a2} : OkR p κ (execFired a1 a2 s) := by
  unfold execFired
  extract_lets x23
  refine @use_ok p κ x23 _ ?_ ?_
  unfold x23
  apply State.advance_ok
  assumption
  intro _
  clear_value x23
  refine okR_next ?_
  refine ok_ite ?_ ?_
  apply State.fire_ok
  assumption
  assumption

/-! ### Boot -/

theorem State.selftestCause_ok (h : Ok p κ s) {a1} : Ok p κ (State.selftestCause s a1) := by
  unfold State.selftestCause
  apply State.setFld_ok
  apply State.setFld_ok
  assumption

theorem State.putRun_ok (h : Ok p κ s) [MayMem κ] [MayFlips κ] {a1 a2} : Ok p κ (State.putRun s a1 a2) := by
  induction a2 generalizing s a1
  unfold State.putRun
  assumption
  rename_i ih
  unfold State.putRun
  apply ih
  apply State.setWord_ok
  assumption

theorem State.loadImage_ok (h : Ok p κ s) [MayMem κ] [MayFlips κ] {a1} : Ok p κ (State.loadImage s a1) := by
  unfold State.loadImage
  refine ok_foldl ?_ ?_
  assumption
  intro _ _ _
  apply State.putRun_ok
  assumption

theorem State.accept_ok (h : Ok p κ s) [MayMem κ] [MayFlips κ] [MaySys κ] {a1 a2} : Ok p κ (State.accept s a1 a2) := by
  unfold State.accept
  extract_lets x23 x24
  refine @use_ok p κ x23 _ ?_ ?_
  unfold x23
  apply State.selftestCause_ok
  apply State.loadImage_ok
  assumption
  intro _
  clear_value x23
  refine @use_ok p κ x24 _ ?_ ?_
  unfold x24
  apply State.onSys_ok
  assumption
  intro _
  clear_value x24
  refine ok_ite ?_ ?_
  apply State.setFld_ok
  assumption
  apply State.setFld_ok
  assumption

theorem State.fuseColumn_ok (h : Ok p κ s) {a1 a2} : Ok p κ (State.fuseColumn s a1 a2) := by
  unfold State.fuseColumn
  extract_lets x23 x24
  clear_value x23
  clear_value x24
  refine ok_ite ?_ ?_
  assumption
  apply State.wrN_ok
  assumption

theorem State.fusedRepairs_ok (h : Ok p κ s) [MayChs κ] : Ok p κ (State.fusedRepairs s) := by
  unfold State.fusedRepairs
  extract_lets x21 x22 x23 x24 x25 x26 x27 x28 x29 x30 x31
  refine @use_ok p κ x21 _ ?_ ?_
  unfold x21
  refine ok_foldl ?_ ?_
  assumption
  intro _ _ _
  apply State.fuseColumn_ok
  assumption
  intro _
  clear_value x21
  refine @use_ok p κ x22 _ ?_ ?_
  unfold x22
  refine ok_foldl ?_ ?_
  assumption
  intro _ _ _
  extract_lets x36
  refine ok_ite ?_ ?_
  apply State.wrN_ok
  assumption
  assumption
  intro _
  clear_value x22
  refine @use_ok p κ x23 _ ?_ ?_
  unfold x23
  apply State.refreshSpares_ok
  assumption
  intro _
  clear_value x23
  refine @use_ok p κ x24 _ ?_ ?_
  unfold x24
  apply State.setFld_ok
  assumption
  intro _
  clear_value x24
  refine @use_ok p κ x25 _ ?_ ?_
  unfold x25
  refine ok_ite ?_ ?_
  apply State.setFld_ok
  apply State.setFld_ok
  assumption
  assumption
  intro _
  clear_value x25
  clear_value x26
  refine @use_ok p κ x27 _ ?_ ?_
  unfold x27
  apply State.wrN_ok
  apply State.setFld_ok
  apply State.setFld_ok
  assumption
  intro _
  clear_value x27
  refine @use_ok p κ x28 _ ?_ ?_
  unfold x28
  apply State.wrN_ok
  apply State.degrade_ok
  assumption
  intro _
  clear_value x28
  clear_value x29
  refine @use_ok p κ x30 _ ?_ ?_
  unfold x30
  refine ok_ite ?_ ?_
  apply State.setLmap_ok
  apply State.setFld_ok
  apply State.setFld_ok
  assumption
  assumption
  intro _
  clear_value x30
  clear_value x31
  apply State.fusePend_ok
  refine ok_foldl ?_ ?_
  assumption
  intro _ _ _
  apply State.goDark_ok
  assumption

theorem State.tryCopies_ok (h : Ok p κ s) [MayMem κ] [MayFlips κ] [MaySys κ] {a1 a2} : Ok p κ (State.tryCopies s a1 a2) := by
  induction a2 generalizing s a1
  unfold State.tryCopies
  assumption
  rename_i ih
  unfold State.tryCopies
  split
  apply State.setFld_ok
  apply State.accept_ok
  assumption
  apply ih
  apply State.selftestCause_ok
  assumption

theorem State.writeBootCtrl_ok (h : Ok p κ s) [MayMem κ] [MayFlips κ] [MaySys κ] {a1 a2} : Ok p κ (State.writeBootCtrl s a1 a2) := by
  unfold State.writeBootCtrl
  extract_lets x23 x24 x25 x26
  refine @use_ok p κ x23 _ ?_ ?_
  unfold x23
  apply State.wr_ok
  assumption
  intro _
  clear_value x23
  clear_value x24
  clear_value x25
  refine @use_ok p κ x26 _ ?_ ?_
  unfold x26
  apply State.setFld_ok
  assumption
  intro _
  clear_value x26
  refine ok_ite ?_ ?_
  assumption
  refine ok_ite ?_ ?_
  apply State.refusedField_ok
  assumption
  refine ok_ite ?_ ?_
  assumption
  split
  apply State.accept_ok
  assumption
  apply State.selftestCause_ok
  assumption

theorem execBootDone_ok (h : Ok p κ s) [MayMode κ] [MaySys κ] [MayChs κ] [MayPrt κ] [MayPlb κ] [MayNet κ] [MayMlt κ] [MayBly κ] {a1} : OkR p κ (execBootDone a1 s) := by
  unfold execBootDone
  refine okR_next ?_
  refine ok_ite ?_ ?_
  extract_lets x22
  refine @use_ok p κ x22 _ ?_ ?_
  unfold x22
  apply State.changeMode_ok
  apply State.setFld_ok
  assumption
  intro _
  clear_value x22
  refine ok_ite ?_ ?_
  apply State.startMount_ok
  assumption
  assumption
  assumption

theorem execResetExit_ok (h : Ok p κ s) [MayMode κ] [MayMem κ] [MayFlips κ] [MaySys κ] [MayChs κ] {a1} : OkR p κ (execResetExit a1 s) := by
  unfold execResetExit
  refine okR_next ?_
  refine ok_ite ?_ ?_
  extract_lets x22 x23 x24 x25 x26
  refine @use_ok p κ x22 _ ?_ ?_
  unfold x22
  apply State.setMode_ok
  assumption
  intro _
  clear_value x22
  refine @use_ok p κ x23 _ ?_ ?_
  unfold x23
  apply State.setFld_ok
  apply State.setFld_ok
  assumption
  intro _
  clear_value x23
  refine @use_ok p κ x24 _ ?_ ?_
  unfold x24
  apply State.setFld_ok
  assumption
  intro _
  clear_value x24
  refine @use_ok p κ x25 _ ?_ ?_
  unfold x25
  refine ok_ite ?_ ?_
  apply State.evt_ok
  assumption
  assumption
  intro _
  clear_value x25
  refine @use_ok p κ x26 _ ?_ ?_
  unfold x26
  apply State.fusedRepairs_ok
  assumption
  intro _
  clear_value x26
  refine ok_ite ?_ ?_
  apply State.selftestCause_ok
  assumption
  refine ok_ite ?_ ?_
  apply State.tryCopies_ok
  apply State.selftestCause_ok
  assumption
  assumption
  assumption

/-! ### Flip -/

theorem State.beginStep_ok (h : Ok p κ s) [MayTrs κ] {a1 a2 a3 a4 a5} : Ok p κ (State.beginStep s a1 a2 a3 a4 a5) := by
  unfold State.beginStep
  refine ok_ite ?_ ?_
  apply State.onTrs_ok
  assumption
  assumption

theorem State.carryStates_ok (h : Ok p κ s) [MayMem κ] [MayFlips κ] {a1 a2 a3} : Ok p κ (State.carryStates s a1 a2 a3) := by
  unfold State.carryStates
  exact ok_mem h (foldl_mset_wf (mwf_mkeep (α := Byte) (d := 0) h.inv.1 _))

theorem State.flipStrip_ok (h : Ok p κ s) [MayTrs κ] {a1 a2 a3 a4} : Ok p κ (State.flipStrip s a1 a2 a3 a4) := by
  unfold State.flipStrip
  extract_lets x25 x26 x27 x28 x29 x30 x31
  clear_value x25
  clear_value x26
  clear_value x27
  clear_value x28
  refine @use_ok p κ x29 _ ?_ ?_
  unfold x29
  apply State.beginStep_ok
  assumption
  intro _
  clear_value x29
  clear_value x30
  refine @use_ok p κ x31 _ ?_ ?_
  unfold x31
  apply State.onTrs_ok
  assumption
  intro _
  clear_value x31
  refine ok_ite ?_ ?_
  refine ok_ite ?_ ?_
  apply State.dropStep_ok
  assumption
  apply State.onTrs_ok
  assumption
  apply State.beginStep_ok
  assumption

theorem State.restartStep_ok (h : Ok p κ s) [MayTrs κ] {a1 a2 a3} : Ok p κ (State.restartStep s a1 a2 a3) := by
  unfold State.restartStep
  split
  apply State.onTrs_ok
  assumption
  assumption

theorem State.stopStrip_ok (h : Ok p κ s) [MayTrs κ] {a1 a2 a3} : Ok p κ (State.stopStrip s a1 a2 a3) := by
  unfold State.stopStrip
  extract_lets x24 x25 x26 x27
  clear_value x24
  clear_value x25
  refine @use_ok p κ x26 _ ?_ ?_
  unfold x26
  apply State.restartStep_ok
  assumption
  intro _
  clear_value x26
  refine @use_ok p κ x27 _ ?_ ?_
  unfold x27
  refine ok_ite ?_ ?_
  apply State.beginStep_ok
  assumption
  apply State.restartStep_ok
  assumption
  intro _
  clear_value x27
  apply State.onTrs_ok
  assumption

theorem State.flipEdges_ok (h : Ok p κ s) [MayTrs κ] {a1 a2 a3 a4 a5} : Ok p κ (State.flipEdges s a1 a2 a3 a4 a5) := by
  unfold State.flipEdges
  extract_lets x26
  refine @use_ok p κ x26 _ ?_ ?_
  unfold x26
  refine ok_foldl ?_ ?_
  assumption
  intro _ _ _
  apply State.dropStep_ok
  assumption
  intro _
  clear_value x26
  refine ok_foldl ?_ ?_
  assumption
  intro _ _ _
  extract_lets x31
  clear_value x31
  apply State.beginStep_ok
  assumption

theorem State.flipMaps_ok (h : Ok p κ s) [MayTrs κ] {a1 a2 a3} : Ok p κ (State.flipMaps s a1 a2 a3) := by
  unfold State.flipMaps
  extract_lets x24 x25 x26 x27
  clear_value x24
  clear_value x25
  clear_value x26
  clear_value x27
  apply State.onTrs_ok
  assumption

theorem State.startStrip_ok (h : Ok p κ s) [MayMem κ] [MayFlips κ] [MayTrs κ] {a1 a2 a3} : Ok p κ (State.startStrip s a1 a2 a3) := by
  unfold State.startStrip
  extract_lets x24 x25 x26 x27 x28
  clear_value x24
  subst x25
  refine @use_ok p κ x26 _ ?_ ?_
  unfold x26
  refine ok_ite ?_ ?_
  dsimp -zeta only
  apply State.setWord_ok
  apply State.setWord_ok
  assumption
  assumption
  intro _
  clear_value x26
  refine @use_ok p κ x27 _ ?_ ?_
  unfold x27
  refine ok_ite ?_ ?_
  dsimp -zeta only
  apply State.setWord_ok
  apply State.setWord_ok
  assumption
  assumption
  intro _
  clear_value x27
  refine @use_ok p κ x28 _ ?_ ?_
  unfold x28
  apply State.dropStep_ok
  apply State.dropStep_ok
  assumption
  intro _
  clear_value x28
  apply State.onTrs_ok
  assumption

theorem State.flipTruss_ok (h : Ok p κ s) [MayMem κ] [MayFlips κ] [MayTrs κ] {a1 a2} : Ok p κ (State.flipTruss s a1 a2) := by
  unfold State.flipTruss
  extract_lets x23 x24 x25 x26 x27 x28 x29 x30 x31 x32 x33 x34 x35 x36 x37 x38 x39 x40 x41 x42 x43 x44 x45 x46 x47
  refine @use_ok p κ x23 _ ?_ ?_
  unfold x23
  assumption
  intro _
  clear_value x23
  clear_value x24
  clear_value x25
  clear_value x26
  clear_value x27
  clear_value x28
  clear_value x29
  clear_value x30
  clear_value x31
  clear_value x32
  refine @use_ok p κ x33 _ ?_ ?_
  unfold x33
  apply State.carryStates_ok
  assumption
  intro _
  clear_value x33
  refine @use_ok p κ x34 _ ?_ ?_
  unfold x34
  refine ok_foldl ?_ ?_
  assumption
  intro _ _ _
  apply State.flipStrip_ok
  assumption
  intro _
  clear_value x34
  refine @use_ok p κ x35 _ ?_ ?_
  unfold x35
  refine ok_foldl ?_ ?_
  assumption
  intro _ _ _
  apply State.stopStrip_ok
  assumption
  intro _
  clear_value x35
  clear_value x36
  refine @use_ok p κ x37 _ ?_ ?_
  unfold x37
  apply State.flipEdges_ok
  assumption
  intro _
  clear_value x37
  refine @use_ok p κ x38 _ ?_ ?_
  unfold x38
  apply State.flipMaps_ok
  assumption
  intro _
  clear_value x38
  refine @use_ok p κ x39 _ ?_ ?_
  unfold x39
  refine ok_foldl ?_ ?_
  assumption
  intro _ _ _
  apply State.startStrip_ok
  assumption
  intro _
  clear_value x39
  clear_value x40
  refine @use_ok p κ x41 _ ?_ ?_
  unfold x41
  apply State.onTrs_ok
  assumption
  intro _
  clear_value x41
  refine @use_ok p κ x42 _ ?_ ?_
  unfold x42
  apply State.evt_ok
  apply State.wrIdx_ok
  apply State.setFld_ok
  assumption
  intro _
  clear_value x42
  refine @use_ok p κ x43 _ ?_ ?_
  unfold x43
  refine ok_foldl ?_ ?_
  assumption
  intro _ _ _
  split
  apply State.switchOver_ok
  assumption
  assumption
  intro _
  clear_value x43
  refine @use_ok p κ x44 _ ?_ ?_
  unfold x44
  apply State.onTrs_ok
  assumption
  intro _
  clear_value x44
  refine @use_ok p κ x45 _ ?_ ?_
  unfold x45
  apply State.setFld_ok
  assumption
  intro _
  clear_value x45
  refine @use_ok p κ x46 _ ?_ ?_
  unfold x46
  apply State.wrN_ok
  assumption
  intro _
  clear_value x46
  refine @use_ok p κ x47 _ ?_ ?_
  unfold x47
  refine ok_ite ?_ ?_
  apply State.evt_ok
  assumption
  assumption
  intro _
  clear_value x47
  apply State.reopen_ok
  apply State.reshed_ok
  apply State.trussDone_ok
  apply State.checkStepsDone_ok
  apply State.refreshXfade_ok
  assumption

theorem State.flipRegs_ok (h : Ok p κ s) {a1 a2} : Ok p κ (State.flipRegs s a1 a2) := by
  unfold State.flipRegs
  refine ok_foldl ?_ ?_
  assumption
  intro _ _ _
  extract_lets x26
  clear_value x26
  apply State.wr_ok
  assumption

theorem State.keepSide_ok (h : Ok p κ s) [MayPrt κ] {s2 a1} : Ok p κ (State.keepSide s s2 a1) := by
  unfold State.keepSide
  extract_lets x23
  clear_value x23
  refine ok_ite ?_ ?_
  assumption
  apply State.onSide_ok
  assumption

theorem State.flipSide_ok (h : Ok p κ s) [MayPrt κ] {s2 a1} : OkP p κ (State.flipSide s s2 a1) := by
  unfold State.flipSide
  extract_lets x23 x24 x25 x26 x27 x28
  clear_value x23
  refine @use_ok p κ x24 _ ?_ ?_
  unfold x24
  refine ok_ite ?_ ?_
  apply State.keepSide_ok
  assumption
  assumption
  intro _
  clear_value x24
  clear_value x25
  clear_value x26
  clear_value x27
  clear_value x28
  refine ok_ite ?_ ?_
  refine okP_mk ?_
  apply State.sideEnabled_ok
  assumption
  refine ok_ite ?_ ?_
  refine okP_mk ?_
  assumption
  refine ok_ite ?_ ?_
  refine okP_mk ?_
  apply State.startSide_ok
  apply State.setSide_ok
  assumption
  refine ok_ite ?_ ?_
  refine okP_mk ?_
  assumption
  refine okP_mk ?_
  apply State.stopSide_ok
  apply State.onSide_ok
  assumption

theorem State.flipPorts_ok (h : Ok p κ s) [MayPrt κ] {a1} : Ok p κ (State.flipPorts s a1) := by
  unfold State.flipPorts
  extract_lets x22 x23 x24 x25 x26
  refine @use_ok p κ x22 _ ?_ ?_
  unfold x22
  assumption
  intro _
  clear_value x22
  refine @use_ok p κ x23 _ ?_ ?_
  unfold x23
  apply State.flipRegs_ok
  assumption
  intro _
  clear_value x23
  refine @use_ok p κ x24 _ ?_ ?_
  unfold x24
  refine ok_foldl ?_ ?_
  assumption
  intro _ _ _
  apply State.grpWritten_ok
  assumption
  intro _
  clear_value x24
  refine @use_ok p κ x25 _ ?_ ?_
  unfold x25
  refine ok_foldl ?_ ?_
  assumption
  intro _ _ _
  refine ok_ite ?_ ?_
  assumption
  apply State.onAesRx_ok
  assumption
  intro _
  clear_value x25
  clear_value x26
  split
  extract_lets x37 x38 x39 x40 x41 x42 x43 x44
  clear_value x37
  clear_value x38
  clear_value x39
  refine @use_ok p κ x40 _ ?_ ?_
  unfold x40
  refine ok_foldl ?_ ?_
  refine ok_of_pair ?_ (by assumption)
  refine ok_foldlP ?_ ?_
  refine okP_mk ?_
  assumption
  intro _ _ _
  split
  refine okP_mk ?_
  refine ok_of_pair ?_ (by assumption)
  apply State.flipSide_ok
  refine ok_snd ?_
  assumption
  intro _ _ _
  apply State.setFld_ok
  assumption
  intro _
  clear_value x40
  refine @use_ok p κ x41 _ ?_ ?_
  unfold x41
  refine ok_foldl ?_ ?_
  assumption
  intro _ _ _
  apply State.setFld_ok
  assumption
  intro _
  clear_value x41
  clear_value x42
  refine @use_ok p κ x43 _ ?_ ?_
  unfold x43
  apply State.onPrt_ok
  assumption
  intro _
  clear_value x43
  refine @use_ok p κ x44 _ ?_ ?_
  unfold x44
  refine ok_foldl ?_ ?_
  assumption
  intro _ _ _
  apply State.showPins_ok
  assumption
  intro _
  clear_value x44
  refine ok_ite ?_ ?_
  apply State.unitDone_ok
  assumption
  apply State.checkPortsDone_ok
  assumption

theorem State.flipNet_ok (h : Ok p κ s) [MayNet κ] {a1} : Ok p κ (State.flipNet s a1) := by
  unfold State.flipNet
  extract_lets x22 x23
  clear_value x22
  refine @use_ok p κ x23 _ ?_ ?_
  unfold x23
  refine ok_foldl ?_ ?_
  assumption
  intro _ _ _
  extract_lets x27 x28
  clear_value x27
  clear_value x28
  refine ok_ite ?_ ?_
  apply State.wr_ok
  assumption
  apply State.flipTt_ok
  assumption
  intro _
  clear_value x23
  refine ok_ite ?_ ?_
  apply State.onNet_ok
  assumption
  apply State.unitDone_ok
  assumption

theorem State.flipMallet_ok (h : Ok p κ s) [MayMlt κ] {a1} : Ok p κ (State.flipMallet s a1) := by
  unfold State.flipMallet
  extract_lets x22 x23 x24 x25
  refine @use_ok p κ x22 _ ?_ ?_
  unfold x22
  assumption
  intro _
  clear_value x22
  refine @use_ok p κ x23 _ ?_ ?_
  unfold x23
  apply State.flipRegs_ok
  assumption
  intro _
  clear_value x23
  clear_value x24
  refine @use_ok p κ x25 _ ?_ ?_
  unfold x25
  apply State.onMlt_ok
  assumption
  intro _
  clear_value x25
  refine ok_ite ?_ ?_
  apply State.unitDone_ok
  assumption
  apply State.checkMltDone_ok
  assumption

theorem State.flipCore_ok (h : Ok p κ s) [MayMem κ] [MayFlips κ] [MayChs κ] {a1 a2 a3} : Ok p κ (State.flipCore s a1 a2 a3) := by
  unfold State.flipCore
  extract_lets x24 x25 x26 x27 x28 x29 x30
  clear_value x24
  clear_value x25
  clear_value x26
  refine @use_ok p κ x27 _ ?_ ?_
  unfold x27
  split
  assumption
  apply State.onChs_ok
  assumption
  refine ok_ite ?_ ?_
  assumption
  apply State.onChs_ok
  assumption
  intro _
  clear_value x27
  clear_value x28
  refine @use_ok p κ x29 _ ?_ ?_
  unfold x29
  apply State.onChs_ok
  assumption
  intro _
  clear_value x29
  refine @use_ok p κ x30 _ ?_ ?_
  unfold x30
  split
  refine ok_snd ?_
  apply State.applyPatches_ok
  assumption
  assumption
  intro _
  clear_value x30
  refine ok_ite ?_ ?_
  assumption
  apply State.unitDone_ok
  assumption

theorem State.flip_ok (h : Ok p κ s) [MayMem κ] [MayFlips κ] [MayTrs κ] [MayChs κ] [MayCrn κ] [MayPrt κ] [MayNet κ] [MayMlt κ] {a1 a2} : Ok p κ (State.flip s a1 a2) := by
  unfold State.flip
  extract_lets x23 x24 x25 x26 x27 x28 x29 x30 x31 x32 x33 x34 x35 x36
  clear_value x23
  refine @use_ok p κ x24 _ ?_ ?_
  unfold x24
  apply State.wrN_ok
  assumption
  intro _
  clear_value x24
  refine @use_ok p κ x25 _ ?_ ?_
  unfold x25
  apply State.setFld_ok
  assumption
  intro _
  clear_value x25
  refine @use_ok p κ x26 _ ?_ ?_
  unfold x26
  apply State.evt_ok
  apply State.setJState_ok
  assumption
  intro _
  clear_value x26
  refine @use_ok p κ x27 _ ?_ ?_
  unfold x27
  apply State.setFld_ok
  assumption
  intro _
  clear_value x27
  refine @use_ok p κ x28 _ ?_ ?_
  unfold x28
  refine ok_ite ?_ ?_
  apply State.jDone_ok
  assumption
  assumption
  intro _
  clear_value x28
  clear_value x29
  refine @use_ok p κ x30 _ ?_ ?_
  unfold x30
  refine ok_ite ?_ ?_
  apply State.flipTruss_ok
  assumption
  assumption
  intro _
  clear_value x30
  refine @use_ok p κ x31 _ ?_ ?_
  unfold x31
  refine ok_ite ?_ ?_
  apply State.flipPorts_ok
  assumption
  assumption
  intro _
  clear_value x31
  refine @use_ok p κ x32 _ ?_ ?_
  unfold x32
  refine ok_ite ?_ ?_
  apply State.flipNet_ok
  assumption
  assumption
  intro _
  clear_value x32
  refine @use_ok p κ x33 _ ?_ ?_
  unfold x33
  refine ok_ite ?_ ?_
  apply State.flipMallet_ok
  assumption
  assumption
  intro _
  clear_value x33
  refine @use_ok p κ x34 _ ?_ ?_
  unfold x34
  refine ok_ite ?_ ?_
  apply State.unitDone_ok
  apply State.flipRegs_ok
  assumption
  assumption
  intro _
  clear_value x34
  refine @use_ok p κ x35 _ ?_ ?_
  unfold x35
  refine ok_foldl ?_ ?_
  assumption
  intro _ _ _
  apply State.flipCore_ok
  assumption
  intro _
  clear_value x35
  refine @use_ok p κ x36 _ ?_ ?_
  unfold x36
  apply State.onCrn_ok
  apply State.onChs_ok
  assumption
  intro _
  clear_value x36
  refine ok_ite ?_ ?_
  apply State.completeCommit_ok
  assumption
  apply State.completeCommit_ok
  assumption

theorem execCommitFlip_ok (h : Ok p κ s) [MayMem κ] [MayFlips κ] [MayTrs κ] [MayChs κ] [MayBnk κ] [MayCrn κ] [MayPrt κ] [MayNet κ] [MayMlt κ] [MayBly κ] : OkR p κ (execCommitFlip s) := by
  unfold execCommitFlip
  refine okR_next ?_
  split
  refine ok_ite ?_ ?_
  apply State.pumpAll_ok
  apply State.flip_ok
  assumption
  assumption
  assumption

/-! ### Lanes -/

theorem State.belayDown_ok (h : Ok p κ s) [MayBly κ] {a1} : Ok p κ (State.belayDown s a1) := by
  unfold State.belayDown
  extract_lets x22 x23 x24 x25 x26
  clear_value x22
  refine @use_ok p κ x23 _ ?_ ?_
  unfold x23
  apply State.bump_ok
  apply State.setFld_ok
  assumption
  intro _
  clear_value x23
  refine @use_ok p κ x24 _ ?_ ?_
  unfold x24
  apply State.evt_ok
  assumption
  intro _
  clear_value x24
  clear_value x25
  refine @use_ok p κ x26 _ ?_ ?_
  unfold x26
  apply State.refreshBelay_ok
  apply State.sprLog_ok
  assumption
  intro _
  clear_value x26
  refine ok_ite ?_ ?_
  refine ok_foldl ?_ ?_
  assumption
  intro _ _ _
  apply State.deal_ok
  assumption
  assumption

theorem State.belayUp_ok (h : Ok p κ s) [MayBly κ] {a1} : Ok p κ (State.belayUp s a1) := by
  unfold State.belayUp
  extract_lets x22 x23
  clear_value x22
  refine @use_ok p κ x23 _ ?_ ?_
  unfold x23
  refine ok_ite ?_ ?_
  apply State.onBly_ok
  assumption
  assumption
  intro _
  clear_value x23
  apply State.refreshBelay_ok
  apply State.setFld_ok
  assumption

theorem State.pcieDown_ok (h : Ok p κ s) : Ok p κ (State.pcieDown s) := by
  unfold State.pcieDown
  refine ok_ite ?_ ?_
  assumption
  extract_lets x21
  refine @use_ok p κ x21 _ ?_ ?_
  unfold x21
  apply State.evt_ok
  apply State.bump_ok
  apply State.wrN_ok
  assumption
  intro _
  clear_value x21
  refine ok_foldl ?_ ?_
  assumption
  intro _ _ _
  refine ok_ite ?_ ?_
  apply State.evt_ok
  apply State.bump_ok
  apply State.setFld_ok
  apply State.setFld_ok
  assumption
  assumption

theorem State.pcieWidth_ok (h : Ok p κ s) {a1 a2} : Ok p κ (State.pcieWidth s a1 a2) := by
  unfold State.pcieWidth
  extract_lets x23
  refine @use_ok p κ x23 _ ?_ ?_
  unfold x23
  apply State.setFld_ok
  assumption
  intro _
  clear_value x23
  refine ok_ite ?_ ?_
  apply State.degrade_ok
  assumption
  apply State.degrade_ok
  apply State.sprLog_ok
  apply State.evt_ok
  assumption

theorem State.pcieOut_ok (h : Ok p κ s) {a1} : Ok p κ (State.pcieOut s a1) := by
  unfold State.pcieOut
  refine ok_ite ?_ ?_
  assumption
  refine ok_ite ?_ ?_
  apply State.pcieDown_ok
  assumption
  extract_lets x22
  clear_value x22
  refine ok_ite ?_ ?_
  apply State.pcieWidth_ok
  assumption
  assumption

theorem State.lineLoss_ok (h : Ok p κ s) {a1} : Ok p κ (State.lineLoss s a1) := by
  unfold State.lineLoss
  refine ok_foldl ?_ ?_
  assumption
  intro _ _ _
  refine ok_ite ?_ ?_
  apply State.refLoss_ok
  assumption
  assumption

theorem State.portDown_ok (h : Ok p κ s) {a1} : Ok p κ (State.portDown s a1) := by
  unfold State.portDown
  extract_lets x22 x23
  refine @use_ok p κ x22 _ ?_ ?_
  unfold x22
  apply State.setFld_ok
  apply State.setFld_ok
  apply State.setFld_ok
  assumption
  intro _
  clear_value x22
  clear_value x23
  apply State.lineLoss_ok
  apply State.setFld_ok
  assumption

theorem State.laneOut_ok (h : Ok p κ s) [MayBly κ] {a1 a2} : Ok p κ (State.laneOut s a1 a2) := by
  unfold State.laneOut
  refine ok_ite ?_ ?_
  extract_lets x23 x24
  clear_value x23
  refine @use_ok p κ x24 _ ?_ ?_
  unfold x24
  apply State.evt_ok
  apply State.bump_ok
  apply State.setFld_ok
  apply State.setFld_ok
  assumption
  intro _
  clear_value x24
  split
  apply State.pcieOut_ok
  assumption
  refine ok_ite ?_ ?_
  apply State.portDown_ok
  assumption
  apply State.portDown_ok
  assumption
  apply State.belayDown_ok
  assumption
  assumption
  apply State.setFld_ok
  assumption

theorem State.pcieForm_ok (h : Ok p κ s) : Ok p κ (State.pcieForm s) := by
  unfold State.pcieForm
  extract_lets x21 x22 x23 x24 x25 x26 x27 x28
  clear_value x21
  clear_value x22
  clear_value x23
  clear_value x24
  clear_value x25
  clear_value x26
  clear_value x27
  refine @use_ok p κ x28 _ ?_ ?_
  unfold x28
  apply State.wrN_ok
  assumption
  intro _
  clear_value x28
  refine ok_ite ?_ ?_
  assumption
  apply State.pcieWidth_ok
  assumption

theorem State.portUp_ok (h : Ok p κ s) {a1} : Ok p κ (State.portUp s a1) := by
  unfold State.portUp
  extract_lets x22 x23 x24 x25
  clear_value x22
  clear_value x23
  refine @use_ok p κ x24 _ ?_ ?_
  unfold x24
  apply State.setFld_ok
  assumption
  intro _
  clear_value x24
  refine @use_ok p κ x25 _ ?_ ?_
  unfold x25
  apply State.setFld_ok
  assumption
  intro _
  clear_value x25
  apply State.setFld_ok
  assumption

theorem State.laneUp_ok (h : Ok p κ s) [MayBly κ] {a1} : Ok p κ (State.laneUp s a1) := by
  unfold State.laneUp
  extract_lets x22
  refine @use_ok p κ x22 _ ?_ ?_
  unfold x22
  apply State.evt_ok
  apply State.setFld_ok
  apply State.setFld_ok
  assumption
  intro _
  clear_value x22
  split
  apply State.pcieForm_ok
  assumption
  split
  apply State.portUp_ok
  assumption
  assumption
  apply State.belayUp_ok
  assumption
  assumption

theorem State.refreshLanes_ok (h : Ok p κ s) [MayBly κ] : Ok p κ (State.refreshLanes s) := by
  unfold State.refreshLanes
  refine ok_foldl ?_ ?_
  assumption
  intro _ _ _
  extract_lets x24
  refine ok_ite ?_ ?_
  refine ok_ite ?_ ?_
  apply State.setFld_ok
  assumption
  refine ok_ite ?_ ?_
  apply State.setFld_ok
  assumption
  assumption
  apply State.laneOut_ok
  assumption

theorem State.setTaps_ok (h : Ok p κ s) {a1 a2} : Ok p κ (State.setTaps s a1 a2) := by
  unfold State.setTaps
  refine ok_ite ?_ ?_
  apply State.wr_ok
  assumption
  assumption

theorem State.writeComCtrl_ok (h : Ok p κ s) [MayBly κ] {a1 a2} : Ok p κ (State.writeComCtrl s a1 a2) := by
  unfold State.writeComCtrl
  extract_lets x23 x24 x25 x26
  clear_value x23
  refine @use_ok p κ x24 _ ?_ ?_
  unfold x24
  apply State.laneOut_ok
  apply State.laneOut_ok
  assumption
  intro _
  clear_value x24
  refine @use_ok p κ x25 _ ?_ ?_
  unfold x25
  apply State.setFld_ok
  assumption
  intro _
  clear_value x25
  refine @use_ok p κ x26 _ ?_ ?_
  unfold x26
  refine ok_foldl ?_ ?_
  assumption
  intro _ _ _
  extract_lets x32
  refine @use_ok p κ x32 _ ?_ ?_
  unfold x32
  apply State.setFld_ok
  assumption
  intro _
  clear_value x32
  refine ok_ite ?_ ?_
  apply State.setFld_ok
  assumption
  assumption
  intro _
  clear_value x26
  refine ok_ite ?_ ?_
  assumption
  refine ok_ite ?_ ?_
  apply State.refusedField_ok
  assumption
  apply State.refreshBelay_ok
  assumption

theorem State.writeLneCtrl_ok (h : Ok p κ s) [MayBly κ] {a1 a2} : Ok p κ (State.writeLneCtrl s a1 a2) := by
  unfold State.writeLneCtrl
  refine ok_ite ?_ ?_
  assumption
  apply State.refreshLanes_ok
  apply State.wr_ok
  assumption

theorem State.writeLneTest_ok (h : Ok p κ s) [MayBly κ] {a1 a2 a3} : Ok p κ (State.writeLneTest s a1 a2 a3) := by
  unfold State.writeLneTest
  extract_lets x24 x25 x26 x27 x28 x29
  clear_value x24
  clear_value x25
  clear_value x26
  clear_value x27
  refine @use_ok p κ x28 _ ?_ ?_
  unfold x28
  apply State.wr_ok
  assumption
  intro _
  clear_value x28
  refine @use_ok p κ x29 _ ?_ ?_
  unfold x29
  refine ok_ite ?_ ?_
  assumption
  apply State.refusedField_ok
  assumption
  intro _
  clear_value x29
  refine ok_ite ?_ ?_
  apply State.laneOut_ok
  assumption
  refine ok_ite ?_ ?_
  apply State.setFld_ok
  assumption
  assumption

theorem State.writeTaps_ok (h : Ok p κ s) {a1 a2} : Ok p κ (State.writeTaps s a1 a2) := by
  unfold State.writeTaps
  refine ok_ite ?_ ?_
  assumption
  apply State.setTaps_ok
  assumption

theorem execFastExit_ok (h : Ok p κ s) [MayBly κ] {a1 a2} : OkR p κ (execFastExit a1 a2 s) := by
  unfold execFastExit
  refine okR_next ?_
  refine ok_ite ?_ ?_
  assumption
  split
  refine ok_ite ?_ ?_
  apply State.laneUp_ok
  apply State.bump_ok
  apply State.setFld_ok
  refine ok_of_pair ?_ (by assumption)
  apply State.takeInj_ok
  assumption
  apply State.evt_ok
  apply State.setFld_ok
  apply State.bump_ok
  refine ok_of_pair ?_ (by assumption)
  apply State.takeInj_ok
  assumption

theorem execLaneChange_ok (h : Ok p κ s) [MayBly κ] {a1 a2 a3 a4 a5 a6 a7} : OkR p κ (execLaneChange a1 a2 a3 a4 a5 a6 a7 s) := by
  unfold execLaneChange
  extract_lets x28
  clear_value x28
  refine okR_next ?_
  refine ok_ite ?_ ?_
  assumption
  split
  refine ok_ite ?_ ?_
  extract_lets x33 x34 x35 x36
  refine @use_ok p κ x33 _ ?_ ?_
  unfold x33
  apply State.setFld_ok
  apply State.setFld_ok
  refine ok_of_pair ?_ (by assumption)
  apply State.takeInj_ok
  assumption
  intro _
  clear_value x33
  refine @use_ok p κ x34 _ ?_ ?_
  unfold x34
  apply State.setFld_ok
  assumption
  intro _
  clear_value x34
  refine @use_ok p κ x35 _ ?_ ?_
  unfold x35
  apply State.wr_ok
  assumption
  intro _
  clear_value x35
  refine @use_ok p κ x36 _ ?_ ?_
  unfold x36
  refine ok_ite ?_ ?_
  apply State.setTaps_ok
  assumption
  assumption
  intro _
  clear_value x36
  apply State.laneUp_ok
  assumption
  extract_lets x33 x34
  refine @use_ok p κ x33 _ ?_ ?_
  unfold x33
  apply State.bump_ok
  apply State.setFld_ok
  refine ok_of_pair ?_ (by assumption)
  apply State.takeInj_ok
  assumption
  intro _
  clear_value x33
  refine @use_ok p κ x34 _ ?_ ?_
  unfold x34
  apply State.evt_ok
  assumption
  intro _
  clear_value x34
  refine ok_ite ?_ ?_
  apply State.pcieForm_ok
  assumption
  assumption

theorem execLaneDown_ok (h : Ok p κ s) [MayBly κ] {a1} : OkR p κ (execLaneDown a1 s) := by
  unfold execLaneDown
  refine okR_next ?_
  refine ok_ite ?_ ?_
  apply State.laneOut_ok
  assumption
  assumption

theorem execLinkDown_ok (h : Ok p κ s) : OkR p κ (execLinkDown s) := by
  unfold execLinkDown
  refine okR_next ?_
  apply State.pcieDown_ok
  assumption

theorem execTrainFail_ok (h : Ok p κ s) {a1} : OkR p κ (execTrainFail a1 s) := by
  unfold execTrainFail
  refine okR_next ?_
  refine ok_ite ?_ ?_
  apply State.setFld_ok
  assumption
  assumption

end Sys2Proof.Machine
end

