-- ==== Sys2Proof/Laws/KeepPower.lean ====
section
/-! SUPPORT. What the operations of resets, power, the services and the registers keep: the queue and the invariant of every step. -/

set_option Elab.async false

namespace Sys2Proof.Machine

open Sys2Proof

variable {p : List Instr} {κ : Kept} {s t : State}

/-! ### Services -/

theorem State.scrubRound_ok (h : Ok p κ s) {a1} : Ok p κ (State.scrubRound s a1) := by
  unfold State.scrubRound
  refine ok_ite ?_ ?_
  extract_lets x22 x23
  clear_value x22
  refine @use_ok p κ x23 _ ?_ ?_
  unfold x23
  apply State.onSvc_ok
  apply State.setFld_ok
  assumption
  intro _
  clear_value x23
  refine ok_ite ?_ ?_
  apply State.onTime_ok
  assumption
  assumption
  refine ok_ite ?_ ?_
  extract_lets x22 x23
  clear_value x22
  refine @use_ok p κ x23 _ ?_ ?_
  unfold x23
  apply State.onSvc_ok
  apply State.setFld_ok
  assumption
  intro _
  clear_value x23
  refine ok_ite ?_ ?_
  apply State.onTime_ok
  assumption
  assumption
  assumption

theorem State.scrubUe_ok (h : Ok p κ s) [MayMode κ] [MayMem κ] [MayFlips κ] [MaySys κ] [MayTrs κ] [MayChs κ] [MayCrn κ] [MayPrt κ] [MayPlb κ] [MayNet κ] [MayMlt κ] [MayBly κ] {a1 a2 a3} : Ok p κ (State.scrubUe s a1 a2 a3) := by
  unfold State.scrubUe
  extract_lets x24 x25 x26
  refine @use_ok p κ x24 _ ?_ ?_
  unfold x24
  refine ok_ite ?_ ?_
  assumption
  apply State.evt_ok
  apply State.wrN_ok
  assumption
  intro _
  clear_value x24
  clear_value x25
  clear_value x26
  split
  apply State.resign_ok
  assumption
  apply State.setWord_ok
  assumption
  refine ok_ite ?_ ?_
  apply State.onCore_ok
  assumption
  apply State.coreFault_ok
  assumption
  assumption

theorem State.writeSvcCtrl_ok (h : Ok p κ s) {a1 a2} : Ok p κ (State.writeSvcCtrl s a1 a2) := by
  unfold State.writeSvcCtrl
  extract_lets x23
  clear_value x23
  refine ok_ite ?_ ?_
  assumption
  refine ok_ite ?_ ?_
  apply State.setFld_ok
  assumption
  apply State.refusedField_ok
  assumption

theorem State.writeTelCtrl_ok (h : Ok p κ s) {a1} : Ok p κ (State.writeTelCtrl s a1) := by
  unfold State.writeTelCtrl
  extract_lets x22 x23
  clear_value x22
  refine @use_ok p κ x23 _ ?_ ?_
  unfold x23
  apply State.wr_ok
  assumption
  intro _
  clear_value x23
  refine ok_ite ?_ ?_
  apply State.onSvc_ok
  apply State.wr_ok
  assumption
  assumption

theorem execScrubAccess_ok (h : Ok p κ s) [MayMode κ] [MayMem κ] [MayFlips κ] [MaySys κ] [MayTrs κ] [MayChs κ] [MayBnk κ] [MayCrn κ] [MayPrt κ] [MayPlb κ] [MayNet κ] [MayMlt κ] [MayBly κ] {a1 a2} : OkR p κ (execScrubAccess a1 a2 s) := by
  unfold execScrubAccess
  refine ok_ite ?_ ?_
  refine okR_next ?_
  assumption
  split
  refine okR_next ?_
  refine ok_ite ?_ ?_
  apply State.upset_ok
  assumption
  assumption
  extract_lets x29 x30
  refine @use_ok p κ x29 _ ?_ ?_
  unfold x29
  apply State.upset_ok
  assumption
  intro _
  clear_value x29
  clear_value x30
  split
  extract_lets x36 x37
  clear_value x36
  refine @use_ok p κ x37 _ ?_ ?_
  unfold x37
  refine ok_ite ?_ ?_
  apply State.scrubUe_ok
  apply State.noteEcc_ok
  refine ok_of_pair ?_ (by assumption)
  refine ok_ite ?_ ?_
  apply State.takeInj_ok
  assumption
  refine okP_mk ?_
  assumption
  refine ok_ite ?_ ?_
  split
  apply State.scrubUe_ok
  refine ok_of_pair ?_ (by assumption)
  apply State.checkedRead_ok
  refine ok_of_pair ?_ (by assumption)
  refine ok_ite ?_ ?_
  apply State.takeInj_ok
  assumption
  refine okP_mk ?_
  assumption
  refine ok_ite ?_ ?_
  apply State.bump_ok
  refine ok_of_pair ?_ (by assumption)
  apply State.checkedRead_ok
  refine ok_of_pair ?_ (by assumption)
  refine ok_ite ?_ ?_
  apply State.takeInj_ok
  assumption
  refine okP_mk ?_
  assumption
  refine ok_of_pair ?_ (by assumption)
  apply State.checkedRead_ok
  refine ok_of_pair ?_ (by assumption)
  refine ok_ite ?_ ?_
  apply State.takeInj_ok
  assumption
  refine okP_mk ?_
  assumption
  refine ok_ite ?_ ?_
  apply State.scrubUe_ok
  refine ok_of_pair ?_ (by assumption)
  refine ok_ite ?_ ?_
  apply State.takeInj_ok
  assumption
  refine okP_mk ?_
  assumption
  refine ok_ite ?_ ?_
  apply State.queueBack_ok
  apply State.bump_ok
  refine ok_of_pair ?_ (by assumption)
  refine ok_ite ?_ ?_
  apply State.takeInj_ok
  assumption
  refine okP_mk ?_
  assumption
  refine ok_of_pair ?_ (by assumption)
  refine ok_ite ?_ ?_
  apply State.takeInj_ok
  assumption
  refine okP_mk ?_
  assumption
  intro _
  clear_value x37
  refine okR_next ?_
  apply State.scrubRound_ok
  assumption

theorem execSensorUpdate_ok (h : Ok p κ s) {a1 a2 a3 a4} : OkR p κ (execSensorUpdate a1 a2 a3 a4 s) := by
  unfold execSensorUpdate
  refine ok_ite ?_ ?_
  refine okR_next ?_
  assumption
  extract_lets x25 x26 x27 x28 x29 x30 x31 x32 x33 x34 x35 x36 x37
  clear_value x25
  clear_value x26
  clear_value x27
  clear_value x28
  refine @use_ok p κ x29 _ ?_ ?_
  unfold x29
  apply State.wrN_ok
  assumption
  intro _
  clear_value x29
  refine @use_ok p κ x30 _ ?_ ?_
  unfold x30
  apply State.wrN_ok
  apply State.wrN_ok
  assumption
  intro _
  clear_value x30
  clear_value x31
  clear_value x32
  clear_value x33
  refine @use_ok p κ x34 _ ?_ ?_
  unfold x34
  refine ok_ite ?_ ?_
  apply State.evt_ok
  assumption
  assumption
  intro _
  clear_value x34
  refine @use_ok p κ x35 _ ?_ ?_
  unfold x35
  refine ok_ite ?_ ?_
  apply State.evt_ok
  assumption
  assumption
  intro _
  clear_value x35
  clear_value x36
  refine @use_ok p κ x37 _ ?_ ?_
  unfold x37
  refine ok_ite ?_ ?_
  apply State.evt_ok
  assumption
  assumption
  intro _
  clear_value x37
  refine okR_next ?_
  apply State.onSvc_ok
  assumption

theorem execSvcLate_ok (h : Ok p κ s) {a1} : OkR p κ (execSvcLate a1 s) := by
  unfold execSvcLate
  refine okR_next ?_
  refine ok_ite ?_ ?_
  apply State.evt_ok
  apply State.bump_ok
  apply State.setFld_ok
  assumption
  assumption

theorem execSynthCal_ok (h : Ok p κ s) : OkR p κ (execSynthCal s) := by
  unfold execSynthCal
  refine okR_next ?_
  refine ok_ite ?_ ?_
  apply State.onTime_ok
  assumption
  assumption

theorem execTelRec_ok (h : Ok p κ s) [MayTrs κ] : OkR p κ (execTelRec s) := by
  unfold execTelRec
  refine okR_next ?_
  refine ok_ite ?_ ?_
  assumption
  extract_lets x21 x22 x23 x24 x25
  clear_value x21
  clear_value x22
  refine @use_ok p κ x23 _ ?_ ?_
  unfold x23
  apply State.onSvc_ok
  apply State.onTime_ok
  assumption
  intro _
  clear_value x23
  refine @use_ok p κ x24 _ ?_ ?_
  unfold x24
  apply State.onTrs_ok
  assumption
  intro _
  clear_value x24
  refine @use_ok p κ x25 _ ?_ ?_
  unfold x25
  apply State.emit_ok
  assumption
  intro _
  clear_value x25
  refine ok_ite ?_ ?_
  apply State.bump_ok
  assumption
  apply State.evt_ok
  apply State.wr_ok
  assumption

/-! ### Reset -/

theorem State.enterReset_ok (h : Ok p κ s) [MayMode κ] [MayIdx κ] [MayMem κ] [MayFlips κ] [MayTime κ] [MayFwd κ] [MaySys κ] [MayTrs κ] [MayChs κ] [MayBnk κ] [MayCrn κ] [MayPrt κ] [MayPlb κ] [MayNet κ] [MayMlt κ] [MayTyd κ] [MayBly κ] {a1 a2} : Ok p κ (State.enterReset s a1 a2) := by
  have h1 : Ok p κ ((s.changeMode .reset []).setActOut false).dropPulses :=
    State.dropPulses_ok (State.setActOut_ok (State.changeMode_ok h))
  unfold State.enterReset
  generalize ((s.changeMode .reset []).setActOut false).dropPulses = u at h1 ⊢
  extract_lets x1 x2 x3 x4 x5 x6 y2 y3 y4 y5 y6
  have hm : Memory.wf (if a2 then [] else mkeep warmMemory u.mem) = true := by
    split
    · rfl
    · exact mwf_mkeep (α := Byte) (d := 0) h1.inv.1 _
  have h2 : Ok p κ y2 := ok_reset h1 (Nat.two_pow_pos 48) hm rfl
  clear_value y2
  have h6 : Ok p κ y3 := ok_ite h2 (ok_foldl h2 fun _ _ hb => ok_ite hb (State.wr_ok hb))
  clear_value y3
  have h3 : Ok p κ y4 := State.setFld_ok h6
  clear_value y4
  have h4 : Ok p κ y5 := ok_ite h3 (State.wr_ok h3)
  clear_value y5
  have h5 : Ok p κ y6 := State.setFld_ok h4
  clear_value y6
  exact ok_ite h5 (State.setFld_ok h5)

theorem State.endDescent_ok (h : Ok p κ s) [MayMode κ] [MayIdx κ] [MayMem κ] [MayFlips κ] [MayTime κ] [MayFwd κ] [MaySys κ] [MayTrs κ] [MayChs κ] [MayBnk κ] [MayCrn κ] [MayPrt κ] [MayPlb κ] [MayNet κ] [MayMlt κ] [MayTyd κ] [MayBly κ] {a1 a2} : Ok p κ (State.endDescent s a1 a2) := by
  unfold State.endDescent
  extract_lets x23
  clear_value x23
  apply State.enterReset_ok
  apply State.wrN_ok
  assumption

theorem State.holdOver_ok (h : Ok p κ s) [MayMode κ] [MayIdx κ] [MayMem κ] [MayFlips κ] [MayTime κ] [MayFwd κ] [MaySys κ] [MayTrs κ] [MayChs κ] [MayBnk κ] [MayCrn κ] [MayPrt κ] [MayPlb κ] [MayNet κ] [MayMlt κ] [MayTyd κ] [MayBly κ] {a1 a2} : Ok p κ (State.holdOver s a1 a2) := by
  unfold State.holdOver
  split
  split
  apply State.endDescent_ok
  refine ok_of_pair ?_ (by assumption)
  apply State.free_ok
  assumption
  apply State.endHold_ok
  assumption
  apply State.endHold_ok
  assumption

theorem State.supplyBack_ok (h : Ok p κ s) [MaySys κ] {a1} : Ok p κ (State.supplyBack s a1) := by
  unfold State.supplyBack
  extract_lets x22
  refine @use_ok p κ x22 _ ?_ ?_
  unfold x22
  apply State.setFld_ok
  assumption
  intro _
  clear_value x22
  refine ok_ite ?_ ?_
  apply State.onSys_ok
  assumption
  assumption

theorem State.supplyFault_ok (h : Ok p κ s) [MayMode κ] [MayMem κ] [MayFlips κ] [MaySys κ] [MayTrs κ] [MayChs κ] [MayCrn κ] [MayPrt κ] [MayPlb κ] [MayNet κ] [MayMlt κ] [MayBly κ] {a1} : Ok p κ (State.supplyFault s a1) := by
  unfold State.supplyFault
  extract_lets x22 x23 x24 x25
  clear_value x22
  refine @use_ok p κ x23 _ ?_ ?_
  unfold x23
  apply State.setFld_ok
  assumption
  intro _
  clear_value x23
  refine @use_ok p κ x24 _ ?_ ?_
  unfold x24
  refine ok_ite ?_ ?_
  apply State.setFld_ok
  assumption
  assumption
  intro _
  clear_value x24
  refine @use_ok p κ x25 _ ?_ ?_
  unfold x25
  apply State.evt_ok
  assumption
  intro _
  clear_value x25
  refine ok_ite ?_ ?_
  apply State.resign_ok
  assumption
  assumption

theorem State.writeSysCtrl_ok (h : Ok p κ s) [MayMode κ] [MayIdx κ] [MayMem κ] [MayFlips κ] [MayTime κ] [MayFwd κ] [MaySys κ] [MayTrs κ] [MayChs κ] [MayBnk κ] [MayCrn κ] [MayPrt κ] [MayPlb κ] [MayNet κ] [MayMlt κ] [MayTyd κ] [MayBly κ] {a1} : Ok p κ (State.writeSysCtrl s a1) := by
  unfold State.writeSysCtrl
  extract_lets x22
  refine @use_ok p κ x22 _ ?_ ?_
  unfold x22
  apply State.wr_ok
  assumption
  intro _
  clear_value x22
  refine ok_ite ?_ ?_
  apply State.enterReset_ok
  assumption
  assumption

theorem execActInRise_ok (h : Ok p κ s) [MayMode κ] [MayIdx κ] [MayMem κ] [MayFlips κ] [MayTime κ] [MayFwd κ] [MaySys κ] [MayTrs κ] [MayChs κ] [MayBnk κ] [MayCrn κ] [MayPrt κ] [MayPlb κ] [MayNet κ] [MayMlt κ] [MayTyd κ] [MayBly κ] {a1} : OkR p κ (execActInRise a1 s) := by
  unfold execActInRise
  extract_lets x22
  refine @use_ok p κ x22 _ ?_ ?_
  unfold x22
  apply State.setFld_ok
  assumption
  intro _
  clear_value x22
  refine okR_next ?_
  refine ok_ite ?_ ?_
  refine ok_ite ?_ ?_
  apply State.holdOver_ok
  apply State.jTakeover_ok
  assumption
  refine ok_ite ?_ ?_
  apply State.onBly_ok
  assumption
  apply State.yieldField_ok
  apply State.jTakeover_ok
  assumption
  refine ok_ite ?_ ?_
  apply State.finishReq_ok
  assumption
  assumption

theorem execDescent_ok (h : Ok p κ s) [MayMode κ] [MayIdx κ] [MayMem κ] [MayFlips κ] [MayTime κ] [MayFwd κ] [MaySys κ] [MayTrs κ] [MayChs κ] [MayBnk κ] [MayCrn κ] [MayPrt κ] [MayPlb κ] [MayNet κ] [MayMlt κ] [MayTyd κ] [MayBly κ] : OkR p κ (execDescent s) := by
  unfold execDescent
  refine okR_next ?_
  refine ok_ite ?_ ?_
  assumption
  extract_lets x21
  refine @use_ok p κ x21 _ ?_ ?_
  unfold x21
  apply State.onSys_ok
  assumption
  intro _
  clear_value x21
  refine ok_ite ?_ ?_
  split
  apply State.endDescent_ok
  refine ok_of_pair ?_ (by assumption)
  apply State.free_ok
  assumption
  apply State.tydFreeze_ok
  apply State.dropSwap_ok
  assumption

theorem execDescentFlushDone_ok (h : Ok p κ s) [MayMode κ] [MayIdx κ] [MayMem κ] [MayFlips κ] [MayTime κ] [MayFwd κ] [MaySys κ] [MayTrs κ] [MayChs κ] [MayBnk κ] [MayCrn κ] [MayPrt κ] [MayPlb κ] [MayNet κ] [MayMlt κ] [MayTyd κ] [MayBly κ] {a1} : OkR p κ (execDescentFlushDone a1 s) := by
  unfold execDescentFlushDone
  refine okR_next ?_
  split
  extract_lets x26
  refine @use_ok p κ x26 _ ?_ ?_
  unfold x26
  apply State.mltAllOff_ok
  apply State.tydJournal_ok
  assumption
  intro _
  clear_value x26
  refine ok_ite ?_ ?_
  apply State.onSys_ok
  assumption
  refine ok_ite ?_ ?_
  apply State.onSys_ok
  apply State.resign_ok
  assumption
  refine ok_ite ?_ ?_
  apply State.endDescent_ok
  apply State.onSys_ok
  apply State.sendResign_ok
  assumption
  apply State.endDescent_ok
  assumption
  assumption

theorem execHoldEnd_ok (h : Ok p κ s) [MayMode κ] [MayIdx κ] [MayMem κ] [MayFlips κ] [MayTime κ] [MayFwd κ] [MaySys κ] [MayTrs κ] [MayChs κ] [MayBnk κ] [MayCrn κ] [MayPrt κ] [MayPlb κ] [MayNet κ] [MayMlt κ] [MayTyd κ] [MayBly κ] {a1} : OkR p κ (execHoldEnd a1 s) := by
  unfold execHoldEnd
  refine okR_next ?_
  refine ok_ite ?_ ?_
  apply State.holdOver_ok
  assumption
  assumption

theorem execPerstReset_ok (h : Ok p κ s) [MayMode κ] [MayIdx κ] [MayMem κ] [MayFlips κ] [MayTime κ] [MayFwd κ] [MaySys κ] [MayTrs κ] [MayChs κ] [MayBnk κ] [MayCrn κ] [MayPrt κ] [MayPlb κ] [MayNet κ] [MayMlt κ] [MayTyd κ] [MayBly κ] : OkR p κ (execPerstReset s) := by
  unfold execPerstReset
  refine okR_next ?_
  refine ok_ite ?_ ?_
  assumption
  apply State.enterReset_ok
  assumption

theorem execPowerFailDeassert_ok (h : Ok p κ s) [MaySys κ] : OkR p κ (execPowerFailDeassert s) := by
  unfold execPowerFailDeassert
  refine okR_next ?_
  refine ok_ite ?_ ?_
  apply State.onSys_ok
  assumption
  assumption

theorem execPowerOnReset_ok (h : Ok p κ s) [MayMode κ] [MayIdx κ] [MayMem κ] [MayFlips κ] [MayTime κ] [MayFwd κ] [MaySys κ] [MayTrs κ] [MayChs κ] [MayBnk κ] [MayCrn κ] [MayPrt κ] [MayPlb κ] [MayNet κ] [MayMlt κ] [MayTyd κ] [MayBly κ] : OkR p κ (execPowerOnReset s) := by
  unfold execPowerOnReset
  refine okR_next ?_
  apply State.setFld_ok
  apply State.enterReset_ok
  assumption

theorem execSupplyFault_ok (h : Ok p κ s) [MayMode κ] [MayMem κ] [MayFlips κ] [MaySys κ] [MayTrs κ] [MayChs κ] [MayCrn κ] [MayPrt κ] [MayPlb κ] [MayNet κ] [MayMlt κ] [MayBly κ] {a1} : OkR p κ (execSupplyFault a1 s) := by
  unfold execSupplyFault
  refine okR_next ?_
  apply State.supplyFault_ok
  assumption

theorem execSupplyInRange_ok (h : Ok p κ s) [MaySys κ] {a1} : OkR p κ (execSupplyInRange a1 s) := by
  unfold execSupplyInRange
  refine okR_next ?_
  apply State.supplyBack_ok
  assumption

theorem execSysReset_ok (h : Ok p κ s) [MayMode κ] [MayIdx κ] [MayMem κ] [MayFlips κ] [MayTime κ] [MayFwd κ] [MaySys κ] [MayTrs κ] [MayChs κ] [MayBnk κ] [MayCrn κ] [MayPrt κ] [MayPlb κ] [MayNet κ] [MayMlt κ] [MayTyd κ] [MayBly κ] : OkR p κ (execSysReset s) := by
  unfold execSysReset
  refine okR_next ?_
  refine ok_ite ?_ ?_
  assumption
  apply State.enterReset_ok
  assumption

theorem execWatchdogExpiry_ok (h : Ok p κ s) [MayMode κ] [MayIdx κ] [MayMem κ] [MayFlips κ] [MayTime κ] [MayFwd κ] [MaySys κ] [MayTrs κ] [MayChs κ] [MayBnk κ] [MayCrn κ] [MayPrt κ] [MayPlb κ] [MayNet κ] [MayMlt κ] [MayTyd κ] [MayBly κ] : OkR p κ (execWatchdogExpiry s) := by
  unfold execWatchdogExpiry
  refine okR_next ?_
  refine ok_ite ?_ ?_
  apply State.enterReset_ok
  assumption
  assumption

theorem execWdtWarn_ok (h : Ok p κ s) : OkR p κ (execWdtWarn s) := by
  unfold execWdtWarn
  refine okR_next ?_
  refine ok_ite ?_ ?_
  apply State.evt_ok
  assumption
  assumption

/-! ### Power -/

theorem State.beginReq_ok (h : Ok p κ s) {a1} : Ok p κ (State.beginReq s a1) := by
  unfold State.beginReq
  apply State.setFld_ok
  apply State.setFld_ok
  assumption

theorem State.clearIsland_ok (h : Ok p κ s) [MayMem κ] [MayFlips κ] [MayChs κ] [MayPrt κ] [MayNet κ] [MayMlt κ] [MayTyd κ] [MayBly κ] {a1} : Ok p κ (State.clearIsland s a1) := by
  unfold State.clearIsland
  extract_lets x22 x23 x24 x25
  refine @use_ok p κ x22 _ ?_ ?_
  unfold x22
  refine ok_regsKeep ?_
  assumption
  intro _
  clear_value x22
  subst x23
  subst x24
  clear_value x25
  split
  dsimp -zeta only
  extract_lets x25 x26 x27 x28
  refine @use_ok p κ x25 _ ?_ ?_
  unfold x25
  apply State.onChs_ok
  assumption
  intro _
  clear_value x25
  clear_value x26
  clear_value x27
  refine @use_ok p κ x28 _ ?_ ?_
  unfold x28
  apply State.clearMem_ok
  assumption
  intro _
  clear_value x28
  refine ok_mk ?_
  assumption
  dsimp -zeta only
  extract_lets x25 x26 x27 x28
  refine @use_ok p κ x25 _ ?_ ?_
  unfold x25
  apply State.onChs_ok
  assumption
  intro _
  clear_value x25
  clear_value x26
  clear_value x27
  refine @use_ok p κ x28 _ ?_ ?_
  unfold x28
  apply State.clearMem_ok
  assumption
  intro _
  clear_value x28
  refine ok_mk ?_
  assumption
  dsimp -zeta only
  extract_lets x25 x26 x27 x28
  refine @use_ok p κ x25 _ ?_ ?_
  unfold x25
  apply State.onChs_ok
  assumption
  intro _
  clear_value x25
  clear_value x26
  clear_value x27
  refine @use_ok p κ x28 _ ?_ ?_
  unfold x28
  apply State.clearMem_ok
  assumption
  intro _
  clear_value x28
  refine ok_mk ?_
  assumption
  dsimp -zeta only
  extract_lets x25 x26 x27 x28
  refine @use_ok p κ x25 _ ?_ ?_
  unfold x25
  apply State.onChs_ok
  assumption
  intro _
  clear_value x25
  clear_value x26
  clear_value x27
  refine @use_ok p κ x28 _ ?_ ?_
  unfold x28
  apply State.clearMem_ok
  assumption
  intro _
  clear_value x28
  refine ok_mk ?_
  assumption
  dsimp -zeta only
  extract_lets x25 x26 x27 x28
  refine @use_ok p κ x25 _ ?_ ?_
  unfold x25
  apply State.onChs_ok
  assumption
  intro _
  clear_value x25
  clear_value x26
  clear_value x27
  refine @use_ok p κ x28 _ ?_ ?_
  unfold x28
  apply State.clearMem_ok
  assumption
  intro _
  clear_value x28
  refine ok_mk ?_
  assumption
  refine ok_mk ?_
  assumption
  dsimp -zeta only
  apply State.onPrt_ok
  assumption
  dsimp -zeta only
  apply State.onPrt_ok
  assumption
  apply State.onPrt_ok
  dsimp -zeta only
  apply State.onPrt_ok
  assumption
  refine ok_mk ?_
  assumption
  refine ok_mk ?_
  assumption
  apply State.setFld_ok
  refine ok_mk ?_
  assumption
  assumption

theorem State.enterRequested_ok (h : Ok p κ s) [MayMode κ] [MayMem κ] [MayFlips κ] [MaySys κ] [MayTrs κ] [MayChs κ] [MayBnk κ] [MayCrn κ] [MayPrt κ] [MayPlb κ] [MayNet κ] [MayMlt κ] [MayBly κ] {a1} : Ok p κ (State.enterRequested s a1) := by
  unfold State.enterRequested
  extract_lets x22 x23 x24 x25
  clear_value x22
  clear_value x23
  refine @use_ok p κ x24 _ ?_ ?_
  unfold x24
  apply State.leaveLockstep_ok
  apply State.endJoin_ok
  apply State.changeMode_ok
  assumption
  intro _
  clear_value x24
  refine @use_ok p κ x25 _ ?_ ?_
  unfold x25
  refine ok_ite ?_ ?_
  apply State.abortRing_ok
  assumption
  assumption
  intro _
  clear_value x25
  apply State.finishReq_ok
  assumption

theorem State.writeIslReq_ok (h : Ok p κ s) [MaySys κ] {a1 a2} : Ok p κ (State.writeIslReq s a1 a2) := by
  unfold State.writeIslReq
  extract_lets x23 x24 x25 x26 x27 x28 x29 x30 x31 x32 x33
  clear_value x23
  clear_value x24
  clear_value x25
  clear_value x26
  clear_value x27
  clear_value x28
  clear_value x29
  clear_value x30
  clear_value x31
  clear_value x32
  refine @use_ok p κ x33 _ ?_ ?_
  unfold x33
  apply State.onSys_ok
  apply State.wrN_ok
  assumption
  intro _
  clear_value x33
  refine ok_ite ?_ ?_
  refine ok_ite ?_ ?_
  assumption
  apply State.refusedField_ok
  assumption
  refine ok_ite ?_ ?_
  assumption
  apply State.evt_ok
  apply State.wr_ok
  assumption

theorem State.writeModeReq_ok (h : Ok p κ s) [MayMem κ] [MayFlips κ] [MaySys κ] [MayTrs κ] [MayCrn κ] [MayPlb κ] [MayMlt κ] [MayBly κ] {a1} : Ok p κ (State.writeModeReq s a1) := by
  unfold State.writeModeReq
  extract_lets x22 x23 x24 x25 x26
  clear_value x22
  clear_value x23
  refine @use_ok p κ x24 _ ?_ ?_
  unfold x24
  apply State.beginReq_ok
  assumption
  intro _
  clear_value x24
  clear_value x25
  refine @use_ok p κ x26 _ ?_ ?_
  unfold x26
  apply State.onSys_ok
  assumption
  intro _
  clear_value x26
  refine ok_ite ?_ ?_
  assumption
  refine ok_ite ?_ ?_
  apply State.bump_ok
  assumption
  split
  refine ok_ite ?_ ?_
  assumption
  refine ok_ite ?_ ?_
  refine ok_ite ?_ ?_
  apply State.startJoin_ok
  assumption
  apply State.finishReq_ok
  assumption
  apply State.finishReq_ok
  assumption
  refine ok_ite ?_ ?_
  apply State.finishReq_ok
  assumption
  refine ok_ite ?_ ?_
  apply State.dropPulses_ok
  apply State.mltAllOff_ok
  apply State.setActOut_ok
  apply State.leaveLockstep_ok
  assumption
  refine ok_ite ?_ ?_
  refine ok_ite ?_ ?_
  assumption
  apply State.planSwap_ok
  assumption
  apply State.finishReq_ok
  assumption
  refine ok_ite ?_ ?_
  assumption
  apply State.finishReq_ok
  assumption
  refine ok_ite ?_ ?_
  assumption
  apply State.finishReq_ok
  assumption
  apply State.finishReq_ok
  assumption

theorem execIslDone_ok (h : Ok p κ s) [MayMem κ] [MayFlips κ] [MaySys κ] [MayChs κ] [MayPrt κ] [MayNet κ] [MayMlt κ] [MayTyd κ] [MayBly κ] : OkR p κ (execIslDone s) := by
  unfold execIslDone
  refine okR_next ?_
  split
  assumption
  extract_lets x26 x27 x28 x29
  clear_value x26
  clear_value x27
  refine @use_ok p κ x28 _ ?_ ?_
  unfold x28
  apply State.onSys_ok
  apply State.wrN_ok
  assumption
  intro _
  clear_value x28
  refine @use_ok p κ x29 _ ?_ ?_
  unfold x29
  refine ok_foldl ?_ ?_
  apply State.refreshLanes_ok
  assumption
  intro _ _ _
  apply State.clearIsland_ok
  assumption
  intro _
  clear_value x29
  apply State.evt_ok
  apply State.refreshLanes_ok
  assumption

theorem execReqDone_ok (h : Ok p κ s) [MayMode κ] [MayMem κ] [MayFlips κ] [MaySys κ] [MayTrs κ] [MayChs κ] [MayBnk κ] [MayCrn κ] [MayPrt κ] [MayPlb κ] [MayNet κ] [MayMlt κ] [MayBly κ] {a1} : OkR p κ (execReqDone a1 s) := by
  unfold execReqDone
  extract_lets x22 x23
  clear_value x22
  refine @use_ok p κ x23 _ ?_ ?_
  unfold x23
  apply State.changeMode_ok
  apply State.endJoin_ok
  assumption
  intro _
  clear_value x23
  refine okR_next ?_
  refine ok_ite ?_ ?_
  assumption
  split
  refine ok_ite ?_ ?_
  refine ok_ite ?_ ?_
  apply State.finishReq_ok
  assumption
  apply State.finishReq_ok
  refine ok_ite ?_ ?_
  apply State.setActOut_ok
  assumption
  assumption
  refine ok_ite ?_ ?_
  apply State.enterRequested_ok
  assumption
  assumption
  refine ok_ite ?_ ?_
  assumption
  apply State.enterRequested_ok
  assumption
  refine ok_ite ?_ ?_
  apply State.enterRequested_ok
  assumption
  assumption
  apply State.enterRequested_ok
  assumption
  assumption

/-! ### Derived -/

theorem State.present_ok (h : Ok p κ s) [MayPlb κ] {a1} : OkP p κ (State.present s a1) := by
  unfold State.present
  split
  refine okP_mk ?_
  assumption
  refine ok_ite ?_ ?_
  refine okP_mk ?_
  assumption
  refine ok_ite ?_ ?_
  split
  refine okP_mk ?_
  refine ok_of_pair ?_ (by assumption)
  apply State.control_ok
  assumption
  refine ok_ite ?_ ?_
  extract_lets x25
  refine @use_ok p κ x25 _ ?_ ?_
  unfold x25
  apply State.rateCorr_ok
  assumption
  intro _
  clear_value x25
  refine okP_mk ?_
  assumption
  refine ok_ite ?_ ?_
  refine okP_mk ?_
  assumption
  split
  refine okP_mk ?_
  assumption
  refine okP_mk ?_
  assumption

/-! ### Regs -/

theorem State.clearBits_ok (h : Ok p κ s) {a1 a2} : Ok p κ (State.clearBits s a1 a2) := by
  unfold State.clearBits
  refine ok_foldl ?_ ?_
  assumption
  intro _ _ _
  apply State.wr_ok
  assumption

theorem State.clearPage_ok (h : Ok p κ s) {a1 a2 a3} : Ok p κ (State.clearPage s a1 a2 a3) := by
  unfold State.clearPage
  refine ok_foldl ?_ ?_
  assumption
  intro _ _ _
  split
  assumption
  extract_lets x32
  clear_value x32
  refine ok_ite ?_ ?_
  assumption
  apply State.wr_ok
  assumption

theorem State.countFence_ok (h : Ok p κ s) {a1} : Ok p κ (State.countFence s a1) := by
  unfold State.countFence
  apply State.wr_ok
  assumption

theorem State.snapshot_ok (h : Ok p κ s) [MayPlb κ] {a1} : OkP p κ (State.snapshot s a1) := by
  unfold State.snapshot
  refine ok_foldlP ?_ ?_
  refine okP_mk ?_
  assumption
  intro _ _ _
  split
  refine okP_mk ?_
  refine ok_of_pair ?_ (by assumption)
  apply State.present_ok
  refine ok_snd ?_
  assumption

theorem State.freeze_ok (h : Ok p κ s) [MayPlb κ] {a1} : Ok p κ (State.freeze s a1) := by
  unfold State.freeze
  split
  extract_lets x28
  refine @use_ok p κ x28 _ ?_ ?_
  unfold x28
  refine ok_foldl ?_ ?_
  refine ok_of_pair ?_ (by assumption)
  apply State.snapshot_ok
  assumption
  intro _ _ _
  refine ok_ite ?_ ?_
  assumption
  apply State.wr_ok
  assumption
  intro _
  clear_value x28
  refine ok_mk ?_
  assumption

theorem State.putMsix_ok (h : Ok p κ s) {a1 a2} : Ok p κ (State.putMsix s a1 a2) := by
  unfold State.putMsix
  extract_lets x23 x24 x25 x26
  clear_value x23
  clear_value x24
  refine @use_ok p κ x25 _ ?_ ?_
  unfold x25
  apply State.wr_ok
  assumption
  intro _
  clear_value x25
  clear_value x26
  refine ok_ite ?_ ?_
  apply State.requestVector_ok
  apply State.wr_ok
  assumption
  assumption

theorem State.putSystem_ok (h : Ok p κ s) [MayMode κ] [MayIdx κ] [MayMem κ] [MayFlips κ] [MayTime κ] [MayFwd κ] [MaySys κ] [MayTrs κ] [MayChs κ] [MayBnk κ] [MayCrn κ] [MayPrt κ] [MayPlb κ] [MayNet κ] [MayMlt κ] [MayTyd κ] [MayBly κ] {a1 a2 a3} : OkO p κ (State.putSystem s a1 a2 a3) := by
  unfold State.putSystem
  refine ok_ite ?_ ?_
  refine okO_some ?_
  apply State.writeSysCtrl_ok
  assumption
  refine ok_ite ?_ ?_
  refine okO_some ?_
  apply State.putMsix_ok
  assumption
  refine ok_ite ?_ ?_
  refine okO_some ?_
  apply State.writeFusCtrl_ok
  assumption
  refine ok_ite ?_ ?_
  refine okO_some ?_
  apply State.writeModeReq_ok
  assumption
  refine ok_ite ?_ ?_
  refine okO_some ?_
  apply State.writeIslReq_ok
  assumption
  refine ok_ite ?_ ?_
  refine okO_some ?_
  apply State.writeBootCtrl_ok
  assumption
  refine ok_ite ?_ ?_
  refine okO_some ?_
  assumption
  refine ok_ite ?_ ?_
  refine okO_some ?_
  apply State.writeSvcCtrl_ok
  assumption
  refine ok_ite ?_ ?_
  refine okO_some ?_
  apply State.writeTelCtrl_ok
  assumption
  exact okO_none

theorem State.putPlumb_ok (h : Ok p κ s) [MayTime κ] [MayPlb κ] [MayBly κ] {a1 a2 a3} : OkO p κ (State.putPlumb s a1 a2 a3) := by
  unfold State.putPlumb
  extract_lets x24
  clear_value x24
  refine ok_ite ?_ ?_
  refine okO_some ?_
  apply State.writePlbCtrl_ok
  assumption
  refine ok_ite ?_ ?_
  refine okO_some ?_
  apply State.writeLoopCtrl_ok
  assumption
  refine ok_ite ?_ ?_
  refine okO_some ?_
  apply State.writeSynFreq_ok
  assumption
  refine ok_ite ?_ ?_
  refine okO_some ?_
  apply State.refreshHold_ok
  apply State.wr_ok
  assumption
  refine ok_ite ?_ ?_
  refine okO_some ?_
  apply State.refEnabled_ok
  apply State.wr_ok
  assumption
  refine ok_ite ?_ ?_
  refine okO_some ?_
  apply State.writeTimeCtrl_ok
  assumption
  refine ok_ite ?_ ?_
  refine okO_some ?_
  apply State.writeCmpCtrl_ok
  assumption
  exact okO_none

theorem State.putTwin_ok (h : Ok p κ s) [MayMode κ] [MayMem κ] [MayFlips κ] [MaySys κ] [MayTrs κ] [MayChs κ] [MayCrn κ] [MayPrt κ] [MayPlb κ] [MayNet κ] [MayMlt κ] [MayTyd κ] [MayBly κ] {a1 a2 a3} : OkO p κ (State.putTwin s a1 a2 a3) := by
  unfold State.putTwin
  extract_lets x24 x25 x26
  clear_value x24
  clear_value x25
  refine @use_ok p κ x26 _ ?_ ?_
  unfold x26
  apply State.setFld_ok
  assumption
  intro _
  clear_value x26
  refine ok_ite ?_ ?_
  refine okO_some ?_
  refine ok_ite ?_ ?_
  apply State.resign_ok
  assumption
  assumption
  refine ok_ite ?_ ?_
  refine okO_some ?_
  apply State.writeTydCtrl_ok
  assumption
  refine ok_ite ?_ ?_
  refine okO_some ?_
  apply State.writeCfgOnly_ok
  assumption
  refine ok_ite ?_ ?_
  refine okO_some ?_
  apply State.writeCfgOnly_ok
  assumption
  refine ok_ite ?_ ?_
  refine okO_some ?_
  apply State.writePbCtrl_ok
  assumption
  exact okO_none

theorem State.putLimited_ok (h : Ok p κ s) {a1 a2 a3 a4} : Ok p κ (State.putLimited s a1 a2 a3 a4) := by
  unfold State.putLimited
  extract_lets x25
  clear_value x25
  refine ok_ite ?_ ?_
  apply State.wr_ok
  assumption
  apply State.refusedField_ok
  apply State.wr_ok
  assumption

theorem State.putFabric_ok (h : Ok p κ s) [MayMem κ] [MayFlips κ] [MayTrs κ] [MayChs κ] [MayBnk κ] [MayCrn κ] [MayBly κ] {a1 a2 a3} : OkO p κ (State.putFabric s a1 a2 a3) := by
  unfold State.putFabric
  refine ok_ite ?_ ?_
  refine okO_some ?_
  apply State.writeCheckCtrl_ok
  assumption
  refine ok_ite ?_ ?_
  refine okO_some ?_
  apply State.ringDoorbell_ok
  assumption
  refine ok_ite ?_ ?_
  refine okO_some ?_
  apply State.writeStoreCtrl_ok
  assumption
  refine ok_ite ?_ ?_
  refine okO_some ?_
  apply State.writeChsReset_ok
  assumption
  refine ok_ite ?_ ?_
  refine okO_some ?_
  apply State.writeChsDoorbell_ok
  assumption
  refine ok_ite ?_ ?_
  refine okO_some ?_
  apply State.putLimited_ok
  assumption
  refine ok_ite ?_ ?_
  refine okO_some ?_
  apply State.writeBankState_ok
  assumption
  exact okO_none

theorem State.putEnables_ok (h : Ok p κ s) [MayPrt κ] {a1 a2} : Ok p κ (State.putEnables s a1 a2) := by
  unfold State.putEnables
  apply State.writeEnable_ok
  apply State.writeEnable_ok
  assumption

theorem State.putOuter_ok (h : Ok p κ s) [MayPrt κ] [MayNet κ] [MayMlt κ] [MayBly κ] {a1 a2 a3} : OkO p κ (State.putOuter s a1 a2 a3) := by
  unfold State.putOuter
  extract_lets x24 x25
  clear_value x24
  clear_value x25
  refine ok_ite ?_ ?_
  refine okO_some ?_
  apply State.grpWritten_ok
  apply State.wr_ok
  assumption
  refine ok_ite ?_ ?_
  refine okO_some ?_
  apply State.putEnables_ok
  apply State.wr_ok
  assumption
  refine ok_ite ?_ ?_
  refine okO_some ?_
  apply State.putEnables_ok
  apply State.wr_ok
  assumption
  refine ok_ite ?_ ?_
  refine okO_some ?_
  apply State.writeTxUpd_ok
  assumption
  refine ok_ite ?_ ?_
  refine okO_some ?_
  apply State.writeLneCtrl_ok
  assumption
  refine ok_ite ?_ ?_
  refine okO_some ?_
  apply State.writeTaps_ok
  assumption
  refine ok_ite ?_ ?_
  refine okO_some ?_
  apply State.writeLneTest_ok
  assumption
  refine ok_ite ?_ ?_
  refine okO_some ?_
  apply State.writeComCtrl_ok
  assumption
  refine ok_ite ?_ ?_
  refine okO_some ?_
  apply State.refreshLanes_ok
  apply State.putLimited_ok
  assumption
  refine ok_ite ?_ ?_
  refine okO_some ?_
  apply State.writePtpCtrl_ok
  assumption
  refine ok_ite ?_ ?_
  refine okO_some ?_
  apply State.writeTt_ok
  assumption
  refine ok_ite ?_ ?_
  refine okO_some ?_
  refine ok_foldl ?_ ?_
  apply State.putLimited_ok
  assumption
  intro _ _ _
  apply State.refreshSense_ok
  assumption
  refine ok_ite ?_ ?_
  refine okO_some ?_
  apply State.writeDiagCmd_ok
  assumption
  refine ok_ite ?_ ?_
  refine okO_some ?_
  apply State.writeMltCmd_ok
  assumption
  refine ok_ite ?_ ?_
  refine okO_some ?_
  apply State.writeSweep_ok
  assumption
  exact okO_none

theorem State.putPlain_ok (h : Ok p κ s) {a1 a2 a3} : Ok p κ (State.putPlain s a1 a2 a3) := by
  unfold State.putPlain
  extract_lets x24 x25
  clear_value x24
  clear_value x25
  apply State.wr_ok
  assumption

theorem State.putBody_ok (h : Ok p κ s) [MayMode κ] [MayIdx κ] [MayMem κ] [MayFlips κ] [MayTime κ] [MayFwd κ] [MaySys κ] [MayTrs κ] [MayChs κ] [MayBnk κ] [MayCrn κ] [MayPrt κ] [MayPlb κ] [MayNet κ] [MayMlt κ] [MayTyd κ] [MayBly κ] {a1 a2 a3 a4} : Ok p κ (State.putBody s a1 a2 a3 a4) := by
  unfold State.putBody
  extract_lets x25 x26 x27
  clear_value x25
  clear_value x26
  refine @use_okO p κ x27 _ ?_ ?_
  unfold x27
  refine ok_ite ?_ ?_
  apply State.putSystem_ok
  assumption
  refine ok_ite ?_ ?_
  apply State.putPlumb_ok
  assumption
  refine ok_ite ?_ ?_
  apply State.putTwin_ok
  assumption
  refine ok_ite ?_ ?_
  apply State.putFabric_ok
  assumption
  apply State.putOuter_ok
  assumption
  intro _
  clear_value x27
  refine ok_getD ?_ ?_
  apply State.putPlain_ok
  assumption
  assumption

theorem State.thaw_ok (h : Ok p κ s) {a1} : Ok p κ (State.thaw s a1) := by
  unfold State.thaw
  split
  assumption
  extract_lets x27
  refine @use_ok p κ x27 _ ?_ ?_
  unfold x27
  refine ok_foldl ?_ ?_
  assumption
  intro _ _ _
  refine ok_ite ?_ ?_
  assumption
  apply State.wr_ok
  assumption
  intro _
  clear_value x27
  refine ok_mk ?_
  assumption

theorem State.toReset_ok (h : Ok p κ s) {a1} : Ok p κ (State.toReset s a1) := by
  unfold State.toReset
  refine ok_foldl ?_ ?_
  assumption
  intro _ _ _
  apply State.wr_ok
  assumption

theorem State.softEffect_ok (h : Ok p κ s) [MayTrs κ] [MayNet κ] {a1} : Ok p κ (State.softEffect s a1) := by
  unfold State.softEffect
  refine ok_ite ?_ ?_
  assumption
  refine ok_ite ?_ ?_
  apply State.clearPage_ok
  apply State.toReset_ok
  assumption
  refine ok_ite ?_ ?_
  apply State.clearPage_ok
  apply State.toReset_ok
  assumption
  refine ok_ite ?_ ?_
  apply State.onTrs_ok
  apply State.toReset_ok
  assumption
  refine ok_ite ?_ ?_
  apply State.wr_ok
  assumption
  refine ok_ite ?_ ?_
  apply State.toReset_ok
  assumption
  refine ok_ite ?_ ?_
  apply State.clearPage_ok
  apply State.toReset_ok
  assumption
  refine ok_ite ?_ ?_
  apply State.clearPage_ok
  apply State.toReset_ok
  assumption
  refine ok_ite ?_ ?_
  refine ok_foldl ?_ ?_
  assumption
  intro _ _ _
  apply State.setFld_ok
  assumption
  refine ok_ite ?_ ?_
  apply State.clearPage_ok
  apply State.toReset_ok
  assumption
  refine ok_ite ?_ ?_
  apply State.toReset_ok
  assumption
  refine ok_ite ?_ ?_
  apply State.clearPage_ok
  apply State.toReset_ok
  assumption
  refine ok_ite ?_ ?_
  apply State.clearPage_ok
  apply State.toReset_ok
  assumption
  refine ok_ite ?_ ?_
  apply State.clearPage_ok
  apply State.toReset_ok
  assumption
  refine ok_ite ?_ ?_
  apply State.clearPage_ok
  apply State.clearBits_ok
  assumption
  refine ok_ite ?_ ?_
  apply State.ptpRestart_ok
  apply State.ptpRestart_ok
  assumption
  refine ok_ite ?_ ?_
  apply State.clearPage_ok
  apply State.toReset_ok
  assumption
  refine ok_ite ?_ ?_
  apply State.clearPage_ok
  apply State.toReset_ok
  assumption
  refine ok_ite ?_ ?_
  apply State.clearPage_ok
  assumption
  apply State.clearPage_ok
  assumption

theorem State.softReset_ok (h : Ok p κ s) [MayTrs κ] [MayNet κ] {a1} : Ok p κ (State.softReset s a1) := by
  unfold State.softReset
  extract_lets x22 x23 x24 x25 x26
  refine @use_ok p κ x22 _ ?_ ?_
  unfold x22
  apply State.softEffect_ok
  assumption
  intro _
  clear_value x22
  refine @use_ok p κ x23 _ ?_ ?_
  unfold x23
  refine ok_foldl ?_ ?_
  assumption
  intro _ _ _
  refine ok_ite ?_ ?_
  assumption
  apply State.wr_ok
  assumption
  intro _
  clear_value x23
  refine @use_ok p κ x24 _ ?_ ?_
  unfold x24
  apply State.softEffect_ok
  assumption
  intro _
  clear_value x24
  clear_value x25
  refine @use_ok p κ x26 _ ?_ ?_
  unfold x26
  refine ok_mk ?_
  assumption
  intro _
  clear_value x26
  apply State.setFld_ok
  assumption

theorem State.putCtrl_ok (h : Ok p κ s) [MayTrs κ] [MayPlb κ] [MayNet κ] {a1 a2 a3} : Ok p κ (State.putCtrl s a1 a2 a3) := by
  unfold State.putCtrl
  extract_lets x24 x25 x26 x27 x28 x29
  clear_value x24
  clear_value x25
  clear_value x26
  refine @use_ok p κ x27 _ ?_ ?_
  unfold x27
  refine ok_ite ?_ ?_
  apply State.freeze_ok
  assumption
  refine ok_ite ?_ ?_
  apply State.thaw_ok
  assumption
  assumption
  intro _
  clear_value x27
  refine @use_ok p κ x28 _ ?_ ?_
  unfold x28
  apply State.setFld_ok
  assumption
  intro _
  clear_value x28
  refine @use_ok p κ x29 _ ?_ ?_
  unfold x29
  refine ok_ite ?_ ?_
  apply State.setFld_ok
  assumption
  assumption
  intro _
  clear_value x29
  refine ok_ite ?_ ?_
  assumption
  refine ok_ite ?_ ?_
  apply State.softReset_ok
  assumption
  apply State.refusedField_ok
  assumption

theorem State.putEvtEn_ok (h : Ok p κ s) {a1 a2} : Ok p κ (State.putEvtEn s a1 a2) := by
  unfold State.putEvtEn
  extract_lets x23 x24 x25 x26
  clear_value x23
  clear_value x24
  clear_value x25
  refine @use_ok p κ x26 _ ?_ ?_
  unfold x26
  apply State.wr_ok
  assumption
  intro _
  clear_value x26
  refine ok_ite ?_ ?_
  assumption
  apply State.requestVector_ok
  assumption

theorem State.readReg_ok (h : Ok p κ s) [MayPlb κ] {a1} : OkP p κ (State.readReg s a1) := by
  unfold State.readReg
  split
  extract_lets x28 x29 x30 x31
  clear_value x28
  clear_value x29
  clear_value x30
  clear_value x31
  split
  refine okP_mk ?_
  refine ok_ite ?_ ?_
  refine ok_of_pair ?_ (by assumption)
  refine ok_ite ?_ ?_
  apply State.readTick_ok
  assumption
  refine ok_ite ?_ ?_
  apply State.readTime_ok
  assumption
  apply State.present_ok
  assumption
  refine ok_mk ?_
  refine ok_of_pair ?_ (by assumption)
  refine ok_ite ?_ ?_
  apply State.readTick_ok
  assumption
  refine ok_ite ?_ ?_
  apply State.readTime_ok
  assumption
  apply State.present_ok
  assumption
  refine okP_mk ?_
  refine ok_ite ?_ ?_
  refine ok_of_pair ?_ (by assumption)
  refine ok_ite ?_ ?_
  apply State.readTick_ok
  assumption
  refine ok_ite ?_ ?_
  apply State.readTime_ok
  assumption
  apply State.present_ok
  assumption
  apply State.wr_ok
  refine ok_of_pair ?_ (by assumption)
  refine ok_ite ?_ ?_
  apply State.readTick_ok
  assumption
  refine ok_ite ?_ ?_
  apply State.readTime_ok
  assumption
  apply State.present_ok
  assumption

/-! ### Inject -/

theorem State.injCore_ok (h : Ok p κ s) [MayChs κ] [MayPlb κ] {a1 a2} : OkO p κ (State.injCore s a1 a2) := by
  unfold State.injCore
  refine ok_ite ?_ ?_
  refine ok_ite ?_ ?_
  exact okO_none
  refine okO_some ?_
  apply State.coreFault_ok
  assumption
  refine ok_ite ?_ ?_
  refine okO_some ?_
  apply State.evt_ok
  apply State.bump_ok
  assumption
  refine ok_ite ?_ ?_
  extract_lets x23
  refine @use_ok p κ x23 _ ?_ ?_
  unfold x23
  refine ok_ite ?_ ?_
  assumption
  apply State.wrN_ok
  assumption
  intro _
  clear_value x23
  refine okO_some ?_
  apply State.evt_ok
  assumption
  refine ok_ite ?_ ?_
  refine ok_map ?_
  intro _
  apply State.refLoss_ok
  assumption
  refine ok_ite ?_ ?_
  refine ok_ite ?_ ?_
  refine okO_some ?_
  apply State.evt_ok
  apply State.onPlb_ok
  apply State.wrN_ok
  apply State.setFld_ok
  assumption
  exact okO_none
  refine ok_ite ?_ ?_
  refine ok_map ?_
  intro _
  apply State.refLoss_ok
  assumption
  refine ok_ite ?_ ?_
  refine okO_some ?_
  apply State.evt_ok
  apply State.setFld_ok
  assumption
  refine ok_ite ?_ ?_
  refine okO_some ?_
  refine ok_foldl ?_ ?_
  assumption
  intro _ _ _
  apply State.capture_ok
  assumption
  exact okO_none

theorem State.injOuter_ok (h : Ok p κ s) [MayMem κ] [MayFlips κ] [MaySys κ] [MayTrs κ] [MayCrn κ] [MayPrt κ] [MayMlt κ] [MayBly κ] {a1 a2} : OkO p κ (State.injOuter s a1 a2) := by
  unfold State.injOuter
  refine ok_ite ?_ ?_
  refine ok_ite ?_ ?_
  split
  exact okO_none
  refine okO_some ?_
  apply State.evt_ok
  refine ok_foldl ?_ ?_
  assumption
  intro _ _ _
  apply State.clkLoss_ok
  assumption
  refine ok_ite ?_ ?_
  split
  exact okO_none
  refine okO_some ?_
  refine ok_foldl ?_ ?_
  assumption
  intro _ _ _
  apply State.onSide_ok
  assumption
  refine ok_ite ?_ ?_
  refine okO_some ?_
  apply State.evt_ok
  apply State.bump_ok
  assumption
  refine ok_ite ?_ ?_
  refine okO_some ?_
  apply State.evt_ok
  apply State.bump_ok
  assumption
  exact okO_none
  refine ok_ite ?_ ?_
  refine ok_ite ?_ ?_
  refine okO_some ?_
  apply State.evt_ok
  apply State.bump_ok
  assumption
  refine ok_ite ?_ ?_
  refine okO_some ?_
  apply State.evt_ok
  apply State.bump_ok
  assumption
  exact okO_none
  refine ok_ite ?_ ?_
  refine okO_some ?_
  apply State.rxDrop_ok
  assumption
  refine ok_ite ?_ ?_
  refine ok_ite ?_ ?_
  refine okO_some ?_
  apply State.shutDown_ok
  assumption
  refine ok_ite ?_ ?_
  refine okO_some ?_
  apply State.fltN_ok
  assumption
  refine ok_ite ?_ ?_
  refine okO_some ?_
  apply State.loseSense_ok
  apply State.onChan_ok
  assumption
  exact okO_none
  refine ok_ite ?_ ?_
  refine okO_some ?_
  apply State.dropChunk_ok
  assumption
  refine ok_ite ?_ ?_
  extract_lets x23
  refine @use_ok p κ x23 _ ?_ ?_
  unfold x23
  apply State.onBly_ok
  assumption
  intro _
  clear_value x23
  refine okO_some ?_
  refine ok_ite ?_ ?_
  apply State.evt_ok
  assumption
  apply State.pathSilent_ok
  assumption
  refine ok_ite ?_ ?_
  refine okO_some ?_
  apply State.evt_ok
  apply State.bump_ok
  assumption
  refine ok_ite ?_ ?_
  refine okO_some ?_
  refine ok_ite ?_ ?_
  apply State.laneOut_ok
  assumption
  apply State.evt_ok
  assumption
  exact okO_none

theorem State.injSystem_ok (h : Ok p κ s) [MayMode κ] [MayMem κ] [MayFlips κ] [MaySys κ] [MayTrs κ] [MayChs κ] [MayCrn κ] [MayPrt κ] [MayPlb κ] [MayNet κ] [MayMlt κ] [MayBly κ] {a1 a2} : OkO p κ (State.injSystem s a1 a2) := by
  unfold State.injSystem
  refine ok_ite ?_ ?_
  extract_lets x23 x24
  refine @use_ok p κ x23 _ ?_ ?_
  unfold x23
  apply State.bump_ok
  assumption
  intro _
  clear_value x23
  refine @use_ok p κ x24 _ ?_ ?_
  unfold x24
  refine ok_ite ?_ ?_
  assumption
  apply State.wrN_ok
  apply State.wrN_ok
  assumption
  intro _
  clear_value x24
  refine okO_some ?_
  apply State.evt_ok
  assumption
  refine ok_ite ?_ ?_
  refine okO_some ?_
  apply State.evt_ok
  apply State.setFld_ok
  assumption
  refine ok_ite ?_ ?_
  refine okO_some ?_
  apply State.evt_ok
  apply State.bump_ok
  assumption
  refine ok_ite ?_ ?_
  refine okO_some ?_
  apply State.evt_ok
  apply State.bump_ok
  assumption
  refine ok_ite ?_ ?_
  refine okO_some ?_
  apply State.supplyBack_ok
  apply State.supplyFault_ok
  assumption
  refine ok_ite ?_ ?_
  refine okO_some ?_
  apply State.evt_ok
  apply State.bump_ok
  assumption
  refine ok_ite ?_ ?_
  refine okO_some ?_
  apply State.evt_ok
  apply State.setFld_ok
  assumption
  refine ok_ite ?_ ?_
  refine ok_map ?_
  intro _
  apply State.laneFault_ok
  assumption
  refine ok_ite ?_ ?_
  refine okO_some ?_
  apply State.evt_ok
  apply State.bump_ok
  assumption
  refine ok_ite ?_ ?_
  refine okO_some ?_
  apply State.evt_ok
  apply State.bump_ok
  assumption
  refine ok_ite ?_ ?_
  refine okO_some ?_
  apply State.evt_ok
  apply State.bump_ok
  assumption
  refine ok_ite ?_ ?_
  refine okO_some ?_
  apply State.evt_ok
  apply State.bump_ok
  assumption
  refine ok_ite ?_ ?_
  refine okO_some ?_
  apply State.countForced_ok
  assumption
  refine ok_ite ?_ ?_
  refine okO_some ?_
  apply State.evt_ok
  apply State.bump_ok
  assumption
  exact okO_none

theorem State.injectBit_ok (h : Ok p κ s) [MayMode κ] [MayMem κ] [MayFlips κ] [MaySys κ] [MayTrs κ] [MayChs κ] [MayCrn κ] [MayPrt κ] [MayPlb κ] [MayNet κ] [MayMlt κ] [MayBly κ] {a1 a2} : Ok p κ (State.injectBit s a1 a2) := by
  unfold State.injectBit
  refine ok_ite ?_ ?_
  apply State.addInj_ok
  assumption
  extract_lets x23
  refine @use_okO p κ x23 _ ?_ ?_
  unfold x23
  refine ok_ite ?_ ?_
  apply State.injSystem_ok
  assumption
  refine ok_ite ?_ ?_
  apply State.injCore_ok
  assumption
  apply State.injOuter_ok
  assumption
  intro _
  clear_value x23
  refine ok_getD ?_ ?_
  apply State.evt_ok
  assumption
  assumption

theorem State.putBodyLive_ok (h : Ok p κ s) [MayMode κ] [MayIdx κ] [MayMem κ] [MayFlips κ] [MayTime κ] [MayFwd κ] [MaySys κ] [MayTrs κ] [MayChs κ] [MayBnk κ] [MayCrn κ] [MayPrt κ] [MayPlb κ] [MayNet κ] [MayMlt κ] [MayTyd κ] [MayBly κ] {a1 a2 a3 a4} : Ok p κ (State.putBodyLive s a1 a2 a3 a4) := by
  unfold State.putBodyLive
  extract_lets x25 x26
  clear_value x25
  refine @use_ok p κ x26 _ ?_ ?_
  unfold x26
  refine ok_ite ?_ ?_
  assumption
  apply State.putBody_ok
  assumption
  intro _
  clear_value x26
  refine ok_ite ?_ ?_
  apply State.putBody_ok
  assumption
  apply State.onCrn_ok
  assumption

theorem State.putInj_ok (h : Ok p κ s) [MayMode κ] [MayMem κ] [MayFlips κ] [MaySys κ] [MayTrs κ] [MayChs κ] [MayCrn κ] [MayPrt κ] [MayPlb κ] [MayNet κ] [MayMlt κ] [MayBly κ] {a1 a2} : Ok p κ (State.putInj s a1 a2) := by
  unfold State.putInj
  extract_lets x23 x24
  clear_value x23
  refine @use_ok p κ x24 _ ?_ ?_
  unfold x24
  refine ok_ite ?_ ?_
  assumption
  apply State.evt_ok
  apply State.bump_ok
  assumption
  intro _
  clear_value x24
  refine ok_foldl ?_ ?_
  assumption
  intro _ _ _
  apply State.injectBit_ok
  assumption

theorem State.putHeader_ok (h : Ok p κ s) [MayMode κ] [MayMem κ] [MayFlips κ] [MaySys κ] [MayTrs κ] [MayChs κ] [MayCrn κ] [MayPrt κ] [MayPlb κ] [MayNet κ] [MayMlt κ] [MayBly κ] {a1 a2 a3 a4} : Ok p κ (State.putHeader s a1 a2 a3 a4) := by
  unfold State.putHeader
  refine ok_ite ?_ ?_
  apply State.putCtrl_ok
  assumption
  refine ok_ite ?_ ?_
  apply State.wr_ok
  assumption
  refine ok_ite ?_ ?_
  apply State.putEvtEn_ok
  assumption
  refine ok_ite ?_ ?_
  apply State.wr_ok
  assumption
  refine ok_ite ?_ ?_
  apply State.putInj_ok
  assumption
  refine ok_ite ?_ ?_
  apply State.countFence_ok
  assumption
  assumption

theorem State.putReg_ok (h : Ok p κ s) [MayMode κ] [MayIdx κ] [MayMem κ] [MayFlips κ] [MayTime κ] [MayFwd κ] [MaySys κ] [MayTrs κ] [MayChs κ] [MayBnk κ] [MayCrn κ] [MayPrt κ] [MayPlb κ] [MayNet κ] [MayMlt κ] [MayTyd κ] [MayBly κ] {a1 a2 a3} : Ok p κ (State.putReg s a1 a2 a3) := by
  unfold State.putReg
  extract_lets x24 x25
  clear_value x24
  clear_value x25
  refine ok_ite ?_ ?_
  apply State.errResp_ok
  assumption
  refine ok_ite ?_ ?_
  apply State.errResp_ok
  assumption
  refine ok_ite ?_ ?_
  assumption
  refine ok_ite ?_ ?_
  apply State.putHeader_ok
  assumption
  split
  assumption
  apply State.putBodyLive_ok
  assumption

theorem State.takeLive_ok (h : Ok p κ s) [MayMode κ] [MayIdx κ] [MayMem κ] [MayFlips κ] [MayTime κ] [MayFwd κ] [MaySys κ] [MayTrs κ] [MayChs κ] [MayBnk κ] [MayCrn κ] [MayPrt κ] [MayPlb κ] [MayNet κ] [MayMlt κ] [MayTyd κ] [MayBly κ] : Ok p κ (State.takeLive s) := by
  unfold State.takeLive
  refine ok_foldl ?_ ?_
  apply State.onCrn_ok
  assumption
  intro _ _ _
  split
  refine ok_ite ?_ ?_
  assumption
  apply State.putBody_ok
  assumption
  assumption

theorem execSoftResetDone_ok (h : Ok p κ s) {a1} : OkR p κ (execSoftResetDone a1 s) := by
  unfold execSoftResetDone
  refine okR_next ?_
  refine ok_ite ?_ ?_
  apply State.setFld_ok
  assumption
  assumption

end Sys2Proof.Machine
end

