-- ==== Sys2Proof/Laws/KeepRows.lean ====
section
/-! SUPPORT. What the operations of the bus, the host and the sample tick keep: the queue and the invariant of every step. -/

set_option Elab.async false

namespace Sys2Proof.Machine

open Sys2Proof

variable {p : List Instr} {κ : Kept} {s t : State}

/-! ### Bus -/

theorem State.freeBytes_ok (h : Ok p κ s) {a1} : OkP p κ (State.freeBytes s a1) := by
  unfold State.freeBytes
  split
  refine okP_mk ?_
  refine ok_of_pair ?_ (by assumption)
  apply State.free_ok
  assumption

theorem State.settleRegs_ok (h : Ok p κ s) {a1 a2 a3} : OkP p κ (State.settleRegs s a1 a2 a3) := by
  unfold State.settleRegs
  extract_lets x24
  subst x24
  split
  refine ok_ite ?_ ?_
  split
  refine okP_mk ?_
  refine ok_of_pair ?_ (by assumption)
  dsimp -zeta only
  refine ok_ite ?_ ?_
  apply State.freeBytes_ok
  refine ok_of_pair ?_ (by assumption)
  dsimp -zeta only
  refine ok_ite ?_ ?_
  apply State.freeBytes_ok
  assumption
  refine okP_mk ?_
  assumption
  refine okP_mk ?_
  refine ok_of_pair ?_ (by assumption)
  dsimp -zeta only
  refine ok_ite ?_ ?_
  apply State.freeBytes_ok
  assumption
  refine okP_mk ?_
  assumption
  refine okP_mk ?_
  refine ok_of_pair ?_ (by assumption)
  dsimp -zeta only
  refine ok_ite ?_ ?_
  apply State.freeBytes_ok
  assumption
  refine okP_mk ?_
  assumption

theorem State.settleSlots_ok (h : Ok p κ s) {a1 a2 a3 a4} : OkP p κ (State.settleSlots a1 a2 a3 a4 s) := by
  induction a2 generalizing s a3 a4
  unfold State.settleSlots
  refine okP_mk ?_
  assumption
  rename_i ih
  unfold State.settleSlots
  extract_lets x26 x27
  clear_value x26
  clear_value x27
  split
  split
  refine okP_mk ?_
  refine ok_of_pair ?_ (by assumption)
  apply ih
  refine ok_of_pair ?_ (by assumption)
  refine ok_ite ?_ ?_
  apply State.freeBytes_ok
  assumption
  refine okP_mk ?_
  assumption

theorem State.asPerformed_ok (h : Ok p κ s) {a1 a2 a3} : OkP p κ (State.asPerformed s a1 a2 a3) := by
  unfold State.asPerformed
  refine ok_ite ?_ ?_
  refine okP_mk ?_
  assumption
  refine ok_ite ?_ ?_
  apply State.settleRegs_ok
  assumption
  refine ok_ite ?_ ?_
  apply State.freeBytes_ok
  assumption
  apply State.settleSlots_ok
  assumption

theorem State.chiselWrite_ok (h : Ok p κ s) [MayMem κ] [MayFlips κ] [MayChs κ] {a1 a2 a3 a4 a5 a6} : OkP p κ (State.chiselWrite s a1 a2 a3 a4 a5 a6) := by
  unfold State.chiselWrite
  refine ok_ite ?_ ?_
  refine okP_mk ?_
  apply State.errResp_ok
  assumption
  refine ok_ite ?_ ?_
  extract_lets x27
  clear_value x27
  refine okP_mk ?_
  apply State.onChs_ok
  assumption
  apply State.codedWriteBytes_ok
  assumption

theorem State.liveWrote_ok (h : Ok p κ s) [MayTrs κ] {a1} : Ok p κ (State.liveWrote s a1) := by
  unfold State.liveWrote
  apply State.onTrs_ok
  assumption

theorem State.holdWord_ok (h : Ok p κ s) [MayTrs κ] {a1 a2} : Ok p κ (State.holdWord s a1 a2) := by
  unfold State.holdWord
  apply State.onTrs_ok
  assumption

theorem State.trussWrite_ok (h : Ok p κ s) [MayMode κ] [MayMem κ] [MayFlips κ] [MaySys κ] [MayTrs κ] [MayChs κ] [MayCrn κ] [MayPrt κ] [MayPlb κ] [MayNet κ] [MayMlt κ] [MayBly κ] {a1 a2 a3 a4 a5} : OkP p κ (State.trussWrite s a1 a2 a3 a4 a5) := by
  unfold State.trussWrite
  refine ok_ite ?_ ?_
  refine okP_mk ?_
  assumption
  extract_lets x26 x27 x28
  clear_value x26
  clear_value x27
  clear_value x28
  split
  refine okP_mk ?_
  apply State.trussUe_ok
  apply State.errResp_ok
  assumption
  extract_lets x31 x32 x33 x34 x35
  clear_value x31
  refine @use_ok p κ x32 _ ?_ ?_
  unfold x32
  apply State.setWord_ok
  assumption
  intro _
  clear_value x32
  refine @use_ok p κ x33 _ ?_ ?_
  unfold x33
  apply State.liveWrote_ok
  apply State.holdWord_ok
  assumption
  intro _
  clear_value x33
  refine @use_ok p κ x34 _ ?_ ?_
  unfold x34
  refine ok_ite ?_ ?_
  apply State.liveWrote_ok
  assumption
  assumption
  intro _
  clear_value x34
  clear_value x35
  refine ok_ite ?_ ?_
  refine okP_mk ?_
  assumption
  refine okP_mk ?_
  refine ok_ite ?_ ?_
  apply State.setWord_ok
  assumption
  assumption

theorem State.putSlot_ok (h : Ok p κ s) [MayMode κ] [MayMem κ] [MayFlips κ] [MaySys κ] [MayTrs κ] [MayChs κ] [MayBnk κ] [MayCrn κ] [MayPrt κ] [MayPlb κ] [MayNet κ] [MayMlt κ] [MayBly κ] {a1 a2 a3 a4 a5} : OkP p κ (State.putSlot s a1 a2 a3 a4 a5) := by
  unfold State.putSlot
  extract_lets x26
  clear_value x26
  refine ok_ite ?_ ?_
  refine okP_mk ?_
  apply State.errResp_ok
  assumption
  split
  refine okP_mk ?_
  assumption
  refine okP_mk ?_
  assumption
  refine ok_ite ?_ ?_
  refine okP_mk ?_
  apply State.errResp_ok
  assumption
  refine ok_ite ?_ ?_
  refine okP_mk ?_
  apply State.setWord_ok
  assumption
  split
  refine okP_mk ?_
  apply State.errResp_ok
  refine ok_of_pair ?_ (by assumption)
  apply State.checkedRead_ok
  assumption
  refine okP_mk ?_
  apply State.setWord_ok
  refine ok_of_pair ?_ (by assumption)
  apply State.checkedRead_ok
  assumption
  apply State.aliasWriteBytes_ok
  assumption
  apply State.aliasWriteBytes_ok
  assumption
  apply State.trussWrite_ok
  assumption
  apply State.chiselWrite_ok
  assumption
  apply State.mailboxWriteBytes_ok
  assumption
  refine okP_mk ?_
  apply State.errResp_ok
  assumption

theorem State.putSlots_ok (h : Ok p κ s) [MayMode κ] [MayMem κ] [MayFlips κ] [MaySys κ] [MayTrs κ] [MayChs κ] [MayBnk κ] [MayCrn κ] [MayPrt κ] [MayPlb κ] [MayNet κ] [MayMlt κ] [MayBly κ] {a1 a2 a3 a4 a5} : Ok p κ (State.putSlots a1 a2 a3 a4 a5 s) := by
  induction a3 generalizing s a4 a5
  unfold State.putSlots
  assumption
  rename_i ih
  unfold State.putSlots
  refine ok_ite ?_ ?_
  assumption
  extract_lets x27
  clear_value x27
  split
  refine ok_of_pair ?_ (by assumption)
  apply State.putSlot_ok
  assumption
  apply ih
  refine ok_of_pair ?_ (by assumption)
  apply State.putSlot_ok
  assumption

theorem State.putAccess_ok (h : Ok p κ s) [MayMode κ] [MayIdx κ] [MayMem κ] [MayFlips κ] [MayTime κ] [MayFwd κ] [MaySys κ] [MayTrs κ] [MayChs κ] [MayBnk κ] [MayCrn κ] [MayPrt κ] [MayPlb κ] [MayNet κ] [MayMlt κ] [MayTyd κ] [MayBly κ] {a1 a2 a3} : Ok p κ (State.putAccess s a1 a2 a3) := by
  unfold State.putAccess
  extract_lets x24 x25 x26
  clear_value x24
  clear_value x25
  refine @use_ok p κ x26 _ ?_ ?_
  unfold x26
  apply State.putReg_ok
  assumption
  intro _
  clear_value x26
  refine ok_ite ?_ ?_
  refine ok_ite ?_ ?_
  apply State.errResp_ok
  assumption
  refine ok_ite ?_ ?_
  apply State.errResp_ok
  assumption
  refine ok_ite ?_ ?_
  apply State.putReg_ok
  assumption
  assumption
  refine ok_ite ?_ ?_
  apply State.errResp_ok
  assumption
  refine ok_ite ?_ ?_
  apply State.errResp_ok
  assumption
  apply State.putSlots_ok
  assumption

theorem State.getReg_ok (h : Ok p κ s) [MayPlb κ] {a1 a2} : OkP p κ (State.getReg s a1 a2) := by
  unfold State.getReg
  refine ok_ite ?_ ?_
  refine okP_mk ?_
  apply State.errResp_ok
  assumption
  refine ok_ite ?_ ?_
  refine okP_mk ?_
  apply State.errResp_ok
  assumption
  split
  refine okP_mk ?_
  refine ok_of_pair ?_ (by assumption)
  apply State.readReg_ok
  assumption

theorem State.readNow_ok (h : Ok p κ s) [MayPlb κ] {a1 a2} : Ok p κ (State.readNow s a1 a2) := by
  unfold State.readNow
  refine ok_ite ?_ ?_
  apply State.errResp_ok
  assumption
  split
  apply State.emit_ok
  refine ok_of_pair ?_ (by assumption)
  apply State.getReg_ok
  assumption
  refine ok_of_pair ?_ (by assumption)
  apply State.getReg_ok
  assumption

theorem State.getSlot_ok (h : Ok p κ s) [MayMode κ] [MayMem κ] [MayFlips κ] [MaySys κ] [MayTrs κ] [MayChs κ] [MayBnk κ] [MayCrn κ] [MayPrt κ] [MayPlb κ] [MayNet κ] [MayMlt κ] [MayBly κ] {a1 a2 a3 a4} : OkP p κ (State.getSlot s a1 a2 a3 a4) := by
  unfold State.getSlot
  extract_lets x25 x26 x27
  clear_value x25
  subst x26
  subst x27
  refine ok_ite ?_ ?_
  refine okP_mk ?_
  apply State.errResp_ok
  assumption
  split
  refine okP_mk ?_
  assumption
  refine okP_mk ?_
  assumption
  dsimp -zeta only
  refine ok_ite ?_ ?_
  refine okP_mk ?_
  apply State.errResp_ok
  assumption
  split
  refine okP_mk ?_
  apply State.errResp_ok
  refine ok_of_pair ?_ (by assumption)
  apply State.checkedRead_ok
  assumption
  apply State.checkedRead_ok
  assumption
  dsimp -zeta only
  refine ok_ite ?_ ?_
  refine okP_mk ?_
  apply State.errResp_ok
  assumption
  split
  refine okP_mk ?_
  apply State.errResp_ok
  refine ok_of_pair ?_ (by assumption)
  apply State.checkedRead_ok
  assumption
  apply State.checkedRead_ok
  assumption
  dsimp -zeta only
  refine ok_ite ?_ ?_
  refine okP_mk ?_
  apply State.errResp_ok
  assumption
  split
  refine okP_mk ?_
  apply State.errResp_ok
  refine ok_of_pair ?_ (by assumption)
  apply State.checkedRead_ok
  assumption
  apply State.checkedRead_ok
  assumption
  split
  refine okP_mk ?_
  assumption
  refine okP_mk ?_
  apply State.trussUe_ok
  apply State.errResp_ok
  assumption
  refine ok_ite ?_ ?_
  refine okP_mk ?_
  apply State.errResp_ok
  assumption
  dsimp -zeta only
  split
  refine okP_mk ?_
  assumption
  refine okP_mk ?_
  apply State.errResp_ok
  assumption
  split
  refine okP_mk ?_
  apply State.errResp_ok
  refine ok_of_pair ?_ (by assumption)
  apply State.checkedRead_ok
  assumption
  apply State.checkedRead_ok
  assumption
  refine okP_mk ?_
  apply State.errResp_ok
  assumption

theorem State.getSlots_ok (h : Ok p κ s) [MayMode κ] [MayMem κ] [MayFlips κ] [MaySys κ] [MayTrs κ] [MayChs κ] [MayBnk κ] [MayCrn κ] [MayPrt κ] [MayPlb κ] [MayNet κ] [MayMlt κ] [MayBly κ] {a1 a2 a3 a4 a5} : OkP p κ (State.getSlots a1 a2 a3 a4 a5 s) := by
  induction a3 generalizing s a4 a5
  unfold State.getSlots
  refine okP_mk ?_
  assumption
  rename_i ih
  unfold State.getSlots
  refine ok_ite ?_ ?_
  refine okP_mk ?_
  assumption
  extract_lets x27
  clear_value x27
  split
  refine okP_mk ?_
  refine ok_of_pair ?_ (by assumption)
  apply State.getSlot_ok
  assumption
  extract_lets x34
  clear_value x34
  split
  refine okP_mk ?_
  refine ok_of_pair ?_ (by assumption)
  apply ih
  refine ok_of_pair ?_ (by assumption)
  apply State.getSlot_ok
  assumption
  refine okP_mk ?_
  refine ok_of_pair ?_ (by assumption)
  apply ih
  refine ok_of_pair ?_ (by assumption)
  apply State.getSlot_ok
  assumption

theorem State.getAccess_ok (h : Ok p κ s) [MayMode κ] [MayMem κ] [MayFlips κ] [MaySys κ] [MayTrs κ] [MayChs κ] [MayBnk κ] [MayCrn κ] [MayPrt κ] [MayPlb κ] [MayNet κ] [MayMlt κ] [MayBly κ] {a1 a2 a3} : OkP p κ (State.getAccess s a1 a2 a3) := by
  unfold State.getAccess
  refine ok_ite ?_ ?_
  extract_lets x24
  clear_value x24
  refine ok_ite ?_ ?_
  refine okP_mk ?_
  apply State.errResp_ok
  assumption
  refine ok_ite ?_ ?_
  refine okP_mk ?_
  apply State.errResp_ok
  assumption
  split
  refine okP_mk ?_
  refine ok_of_pair ?_ (by assumption)
  apply State.getReg_ok
  assumption
  refine ok_ite ?_ ?_
  split
  refine okP_mk ?_
  refine ok_of_pair ?_ (by assumption)
  apply State.getReg_ok
  refine ok_of_pair ?_ (by assumption)
  apply State.getReg_ok
  assumption
  refine okP_mk ?_
  refine ok_of_pair ?_ (by assumption)
  apply State.getReg_ok
  refine ok_of_pair ?_ (by assumption)
  apply State.getReg_ok
  assumption
  refine okP_mk ?_
  refine ok_of_pair ?_ (by assumption)
  apply State.getReg_ok
  assumption
  refine ok_ite ?_ ?_
  refine okP_mk ?_
  apply State.errResp_ok
  assumption
  refine ok_ite ?_ ?_
  refine okP_mk ?_
  apply State.errResp_ok
  assumption
  apply State.getSlots_ok
  assumption

theorem State.statusSent_ok (h : Ok p κ s) [MaySys κ] : Ok p κ (State.statusSent s) := by
  unfold State.statusSent
  refine ok_mk ?_
  assumption

theorem State.spiNow_ok (h : Ok p κ s) [MayMode κ] [MayMem κ] [MayFlips κ] [MaySys κ] [MayTrs κ] [MayChs κ] [MayBnk κ] [MayCrn κ] [MayPrt κ] [MayPlb κ] [MayNet κ] [MayMlt κ] [MayBly κ] {a1 a2 a3} : Ok p κ (State.spiNow s a1 a2 a3) := by
  unfold State.spiNow
  split
  apply State.emit_ok
  refine ok_of_pair ?_ (by assumption)
  apply State.getAccess_ok
  assumption
  refine ok_ite ?_ ?_
  apply State.statusSent_ok
  apply State.emit_ok
  refine ok_of_pair ?_ (by assumption)
  apply State.getAccess_ok
  assumption
  apply State.emit_ok
  refine ok_of_pair ?_ (by assumption)
  apply State.getAccess_ok
  assumption

theorem State.performFwd_ok (h : Ok p κ s) [MayMode κ] [MayIdx κ] [MayMem κ] [MayFlips κ] [MayTime κ] [MayFwd κ] [MaySys κ] [MayTrs κ] [MayChs κ] [MayBnk κ] [MayCrn κ] [MayPrt κ] [MayPlb κ] [MayNet κ] [MayMlt κ] [MayTyd κ] [MayBly κ] {a1} : Ok p κ (State.performFwd s a1) := by
  unfold State.performFwd
  split
  apply State.noteWrite_ok
  apply State.putReg_ok
  assumption
  apply State.noteWrite_ok
  apply State.putAccess_ok
  assumption
  apply State.readNow_ok
  assumption
  apply State.spiNow_ok
  assumption

theorem State.drainFrom_ok (h : Ok p κ s) [MayMode κ] [MayIdx κ] [MayMem κ] [MayFlips κ] [MayTime κ] [MayFwd κ] [MaySys κ] [MayTrs κ] [MayChs κ] [MayBnk κ] [MayCrn κ] [MayPrt κ] [MayPlb κ] [MayNet κ] [MayMlt κ] [MayTyd κ] [MayBly κ] {a1 a2} : Ok p κ (State.drainFrom a1 a2 s) := by
  induction a2 generalizing s a1
  unfold State.drainFrom
  assumption
  rename_i ih
  unfold State.drainFrom
  refine ok_ite ?_ ?_
  assumption
  refine ok_ite ?_ ?_
  apply ih
  apply State.performFwd_ok
  refine ok_mk ?_
  assumption
  apply ih
  assumption

theorem State.drain_ok (h : Ok p κ s) [MayMode κ] [MayIdx κ] [MayMem κ] [MayFlips κ] [MayTime κ] [MayFwd κ] [MaySys κ] [MayTrs κ] [MayChs κ] [MayBnk κ] [MayCrn κ] [MayPrt κ] [MayPlb κ] [MayNet κ] [MayMlt κ] [MayTyd κ] [MayBly κ] : Ok p κ (State.drain s) := by
  unfold State.drain
  apply State.drainFrom_ok
  assumption

theorem State.turn_ok (h : Ok p κ s) [MayMode κ] [MayIdx κ] [MayMem κ] [MayFlips κ] [MayTime κ] [MayFwd κ] [MaySys κ] [MayTrs κ] [MayChs κ] [MayBnk κ] [MayCrn κ] [MayPrt κ] [MayPlb κ] [MayNet κ] [MayMlt κ] [MayTyd κ] [MayBly κ] {a1} : Ok p κ (State.turn s a1) := by
  unfold State.turn
  refine ok_ite ?_ ?_
  apply State.performFwd_ok
  assumption
  refine ok_mk ?_
  assumption

theorem State.writeAccess_ok (h : Ok p κ s) [MayMode κ] [MayIdx κ] [MayMem κ] [MayFlips κ] [MayTime κ] [MayFwd κ] [MaySys κ] [MayTrs κ] [MayChs κ] [MayBnk κ] [MayCrn κ] [MayPrt κ] [MayPlb κ] [MayNet κ] [MayMlt κ] [MayTyd κ] [MayBly κ] {a1 a2 a3} : Ok p κ (State.writeAccess s a1 a2 a3) := by
  unfold State.writeAccess
  extract_lets x24
  clear_value x24
  refine ok_ite ?_ ?_
  split
  apply State.sendBelay_ok
  refine ok_mk ?_
  refine ok_of_pair ?_ (by assumption)
  apply State.newTag_ok
  assumption
  apply State.turn_ok
  assumption

theorem State.hostBytes_ok (h : Ok p κ s) [MayMode κ] [MayIdx κ] [MayMem κ] [MayFlips κ] [MayTime κ] [MayFwd κ] [MaySys κ] [MayTrs κ] [MayChs κ] [MayBnk κ] [MayCrn κ] [MayPrt κ] [MayPlb κ] [MayNet κ] [MayMlt κ] [MayTyd κ] [MayBly κ] {a1 a2 a3} : Ok p κ (State.hostBytes s a1 a2 a3) := by
  unfold State.hostBytes
  refine ok_ite ?_ ?_
  assumption
  split
  apply State.writeAccess_ok
  refine ok_of_pair ?_ (by assumption)
  apply State.asPerformed_ok
  assumption

theorem State.hostRead_ok (h : Ok p κ s) [MayFwd κ] [MayPlb κ] {a1 a2} : Ok p κ (State.hostRead s a1 a2) := by
  unfold State.hostRead
  refine ok_ite ?_ ?_
  assumption
  refine ok_ite ?_ ?_
  apply State.readNow_ok
  assumption
  refine ok_mk ?_
  assumption

theorem State.hostWrite_ok (h : Ok p κ s) [MayMode κ] [MayIdx κ] [MayMem κ] [MayFlips κ] [MayTime κ] [MayFwd κ] [MaySys κ] [MayTrs κ] [MayChs κ] [MayBnk κ] [MayCrn κ] [MayPrt κ] [MayPlb κ] [MayNet κ] [MayMlt κ] [MayTyd κ] [MayBly κ] {a1 a2 a3} : OkR p κ (State.hostWrite s a1 a2 a3) := by
  unfold State.hostWrite
  refine okR_next ?_
  apply State.hostBytes_ok
  assumption

/-! ### HostRows -/

theorem State.collide_ok (h : Ok p κ s) {a1 a2} : Ok p κ (State.collide s a1 a2) := by
  unfold State.collide
  extract_lets x23
  refine @use_ok p κ x23 _ ?_ ?_
  unfold x23
  refine ok_ite ?_ ?_
  assumption
  apply State.setFld_ok
  apply State.setFld_ok
  apply State.setFld_ok
  assumption
  intro _
  clear_value x23
  apply State.evt_ok
  apply State.bump_ok
  assumption

theorem State.enableWrite_ok (h : Ok p κ s) [MayMode κ] [MayIdx κ] [MayMem κ] [MayFlips κ] [MayTime κ] [MayFwd κ] [MaySys κ] [MayTrs κ] [MayChs κ] [MayBnk κ] [MayCrn κ] [MayPrt κ] [MayPlb κ] [MayNet κ] [MayMlt κ] [MayTyd κ] [MayBly κ] {a1 a2} : OkR p κ (State.enableWrite s a1 a2) := by
  unfold State.enableWrite
  extract_lets x23
  clear_value x23
  apply State.hostWrite_ok
  assumption

theorem State.frameErr_ok (h : Ok p κ s) [MaySys κ] : Ok p κ (State.frameErr s) := by
  unfold State.frameErr
  refine ok_mk ?_
  assumption

theorem State.wordWrite_ok (h : Ok p κ s) [MayMode κ] [MayIdx κ] [MayMem κ] [MayFlips κ] [MayTime κ] [MayFwd κ] [MaySys κ] [MayTrs κ] [MayChs κ] [MayBnk κ] [MayCrn κ] [MayPrt κ] [MayPlb κ] [MayNet κ] [MayMlt κ] [MayTyd κ] [MayBly κ] {a1 a2 a3 a4} : Ok p κ (State.wordWrite s a1 a2 a3 a4) := by
  unfold State.wordWrite
  split
  apply State.hostBytes_ok
  assumption
  refine ok_ite ?_ ?_
  apply State.hostBytes_ok
  assumption
  extract_lets x26 x27 x28
  refine @use_ok p κ x26 _ ?_ ?_
  unfold x26
  refine ok_ite ?_ ?_
  assumption
  apply State.hostBytes_ok
  assumption
  intro _
  clear_value x26
  refine @use_ok p κ x27 _ ?_ ?_
  unfold x27
  apply State.collide_ok
  assumption
  intro _
  clear_value x27
  clear_value x28
  refine ok_ite ?_ ?_
  assumption
  apply State.hostBytes_ok
  assumption

theorem execAliasClearWrite_ok (h : Ok p κ s) [MayMode κ] [MayIdx κ] [MayMem κ] [MayFlips κ] [MayTime κ] [MayFwd κ] [MaySys κ] [MayTrs κ] [MayChs κ] [MayBnk κ] [MayCrn κ] [MayPrt κ] [MayPlb κ] [MayNet κ] [MayMlt κ] [MayTyd κ] [MayBly κ] {a1 a2 a3} : OkR p κ (execAliasClearWrite a1 a2 a3 s) := by
  unfold execAliasClearWrite
  refine okR_next ?_
  apply State.hostBytes_ok
  assumption

theorem execAliasSetWrite_ok (h : Ok p κ s) [MayMode κ] [MayIdx κ] [MayMem κ] [MayFlips κ] [MayTime κ] [MayFwd κ] [MaySys κ] [MayTrs κ] [MayChs κ] [MayBnk κ] [MayCrn κ] [MayPrt κ] [MayPlb κ] [MayNet κ] [MayMlt κ] [MayTyd κ] [MayBly κ] {a1 a2 a3} : OkR p κ (execAliasSetWrite a1 a2 a3 s) := by
  unfold execAliasSetWrite
  refine okR_next ?_
  apply State.hostBytes_ok
  assumption

theorem execArm_ok (h : Ok p κ s) [MayMode κ] [MayIdx κ] [MayMem κ] [MayFlips κ] [MayTime κ] [MayFwd κ] [MaySys κ] [MayTrs κ] [MayChs κ] [MayBnk κ] [MayCrn κ] [MayPrt κ] [MayPlb κ] [MayNet κ] [MayMlt κ] [MayTyd κ] [MayBly κ] {a1 a2 a3} : OkR p κ (execArm a1 a2 a3 s) := by
  unfold execArm
  apply State.hostWrite_ok
  assumption

theorem execBlow_ok (h : Ok p κ s) [MayMode κ] [MayIdx κ] [MayMem κ] [MayFlips κ] [MayTime κ] [MayFwd κ] [MaySys κ] [MayTrs κ] [MayChs κ] [MayBnk κ] [MayCrn κ] [MayPrt κ] [MayPlb κ] [MayNet κ] [MayMlt κ] [MayTyd κ] [MayBly κ] {a1 a2} : OkR p κ (execBlow a1 a2 s) := by
  unfold execBlow
  apply State.hostWrite_ok
  assumption

theorem execBootGo_ok (h : Ok p κ s) [MayMode κ] [MayIdx κ] [MayMem κ] [MayFlips κ] [MayTime κ] [MayFwd κ] [MaySys κ] [MayTrs κ] [MayChs κ] [MayBnk κ] [MayCrn κ] [MayPrt κ] [MayPlb κ] [MayNet κ] [MayMlt κ] [MayTyd κ] [MayBly κ] {a1 a2} : OkR p κ (execBootGo a1 a2 s) := by
  unfold execBootGo
  apply State.hostWrite_ok
  assumption

theorem execCheckStart_ok (h : Ok p κ s) [MayMode κ] [MayIdx κ] [MayMem κ] [MayFlips κ] [MayTime κ] [MayFwd κ] [MaySys κ] [MayTrs κ] [MayChs κ] [MayBnk κ] [MayCrn κ] [MayPrt κ] [MayPlb κ] [MayNet κ] [MayMlt κ] [MayTyd κ] [MayBly κ] {a1 a2} : OkR p κ (execCheckStart a1 a2 s) := by
  unfold execCheckStart
  apply State.hostWrite_ok
  assumption

theorem execChsDoorbell_ok (h : Ok p κ s) [MayMode κ] [MayIdx κ] [MayMem κ] [MayFlips κ] [MayTime κ] [MayFwd κ] [MaySys κ] [MayTrs κ] [MayChs κ] [MayBnk κ] [MayCrn κ] [MayPrt κ] [MayPlb κ] [MayNet κ] [MayMlt κ] [MayTyd κ] [MayBly κ] {a1 a2 a3} : OkR p κ (execChsDoorbell a1 a2 a3 s) := by
  unfold execChsDoorbell
  apply State.hostWrite_ok
  assumption

theorem execChsReset_ok (h : Ok p κ s) [MayMode κ] [MayIdx κ] [MayMem κ] [MayFlips κ] [MayTime κ] [MayFwd κ] [MaySys κ] [MayTrs κ] [MayChs κ] [MayBnk κ] [MayCrn κ] [MayPrt κ] [MayPlb κ] [MayNet κ] [MayMlt κ] [MayTyd κ] [MayBly κ] {a1 a2} : OkR p κ (execChsReset a1 a2 s) := by
  unfold execChsReset
  apply State.hostWrite_ok
  assumption

theorem execClear_ok (h : Ok p κ s) [MayMode κ] [MayIdx κ] [MayMem κ] [MayFlips κ] [MayTime κ] [MayFwd κ] [MaySys κ] [MayTrs κ] [MayChs κ] [MayBnk κ] [MayCrn κ] [MayPrt κ] [MayPlb κ] [MayNet κ] [MayMlt κ] [MayTyd κ] [MayBly κ] {a1 a2 a3} : OkR p κ (execClear a1 a2 a3 s) := by
  unfold execClear
  apply State.hostWrite_ok
  assumption

theorem execCrnDoorbell_ok (h : Ok p κ s) [MayMode κ] [MayIdx κ] [MayMem κ] [MayFlips κ] [MayTime κ] [MayFwd κ] [MaySys κ] [MayTrs κ] [MayChs κ] [MayBnk κ] [MayCrn κ] [MayPrt κ] [MayPlb κ] [MayNet κ] [MayMlt κ] [MayTyd κ] [MayBly κ] {a1 a2} : OkR p κ (execCrnDoorbell a1 a2 s) := by
  unfold execCrnDoorbell
  apply State.hostWrite_ok
  assumption

theorem execCrnStoreCtrl_ok (h : Ok p κ s) [MayMode κ] [MayIdx κ] [MayMem κ] [MayFlips κ] [MayTime κ] [MayFwd κ] [MaySys κ] [MayTrs κ] [MayChs κ] [MayBnk κ] [MayCrn κ] [MayPrt κ] [MayPlb κ] [MayNet κ] [MayMlt κ] [MayTyd κ] [MayBly κ] {a1 a2} : OkR p κ (execCrnStoreCtrl a1 a2 s) := by
  unfold execCrnStoreCtrl
  apply State.hostWrite_ok
  assumption

theorem execCsLoad_ok (h : Ok p κ s) [MayMode κ] [MayIdx κ] [MayMem κ] [MayFlips κ] [MayTime κ] [MayFwd κ] [MaySys κ] [MayTrs κ] [MayChs κ] [MayBnk κ] [MayCrn κ] [MayPrt κ] [MayPlb κ] [MayNet κ] [MayMlt κ] [MayTyd κ] [MayBly κ] {a1 a2} : OkR p κ (execCsLoad a1 a2 s) := by
  unfold execCsLoad
  apply State.hostWrite_ok
  assumption

theorem execDiagCmdStart_ok (h : Ok p κ s) [MayMode κ] [MayIdx κ] [MayMem κ] [MayFlips κ] [MayTime κ] [MayFwd κ] [MaySys κ] [MayTrs κ] [MayChs κ] [MayBnk κ] [MayCrn κ] [MayPrt κ] [MayPlb κ] [MayNet κ] [MayMlt κ] [MayTyd κ] [MayBly κ] {a1 a2} : OkR p κ (execDiagCmdStart a1 a2 s) := by
  unfold execDiagCmdStart
  apply State.hostWrite_ok
  assumption

theorem execGo_ok (h : Ok p κ s) [MayMode κ] [MayIdx κ] [MayMem κ] [MayFlips κ] [MayTime κ] [MayFwd κ] [MaySys κ] [MayTrs κ] [MayChs κ] [MayBnk κ] [MayCrn κ] [MayPrt κ] [MayPlb κ] [MayNet κ] [MayMlt κ] [MayTyd κ] [MayBly κ] {a1 a2 a3} : OkR p κ (execGo a1 a2 a3 s) := by
  unfold execGo
  apply State.hostWrite_ok
  assumption

theorem execHostSet_ok (h : Ok p κ s) [MayMode κ] [MayIdx κ] [MayMem κ] [MayFlips κ] [MayTime κ] [MayFwd κ] [MaySys κ] [MayTrs κ] [MayChs κ] [MayBnk κ] [MayCrn κ] [MayPrt κ] [MayPlb κ] [MayNet κ] [MayMlt κ] [MayTyd κ] [MayBly κ] {a1 a2} : OkR p κ (execHostSet a1 a2 s) := by
  unfold execHostSet
  apply State.hostWrite_ok
  assumption

theorem execImpedanceSweepStart_ok (h : Ok p κ s) [MayMode κ] [MayIdx κ] [MayMem κ] [MayFlips κ] [MayTime κ] [MayFwd κ] [MaySys κ] [MayTrs κ] [MayChs κ] [MayBnk κ] [MayCrn κ] [MayPrt κ] [MayPlb κ] [MayNet κ] [MayMlt κ] [MayTyd κ] [MayBly κ] {a1 a2 a3} : OkR p κ (execImpedanceSweepStart a1 a2 a3 s) := by
  unfold execImpedanceSweepStart
  apply State.hostWrite_ok
  assumption

theorem execLaneTest_ok (h : Ok p κ s) [MayMode κ] [MayIdx κ] [MayMem κ] [MayFlips κ] [MayTime κ] [MayFwd κ] [MaySys κ] [MayTrs κ] [MayChs κ] [MayBnk κ] [MayCrn κ] [MayPrt κ] [MayPlb κ] [MayNet κ] [MayMlt κ] [MayTyd κ] [MayBly κ] {a1 a2 a3} : OkR p κ (execLaneTest a1 a2 a3 s) := by
  unfold execLaneTest
  apply State.hostWrite_ok
  assumption

theorem execLoopOpen_ok (h : Ok p κ s) [MayMode κ] [MayIdx κ] [MayMem κ] [MayFlips κ] [MayTime κ] [MayFwd κ] [MaySys κ] [MayTrs κ] [MayChs κ] [MayBnk κ] [MayCrn κ] [MayPrt κ] [MayPlb κ] [MayNet κ] [MayMlt κ] [MayTyd κ] [MayBly κ] {a1 a2} : OkR p κ (execLoopOpen a1 a2 s) := by
  unfold execLoopOpen
  apply State.hostWrite_ok
  assumption

theorem execMemBankState_ok (h : Ok p κ s) [MayMode κ] [MayIdx κ] [MayMem κ] [MayFlips κ] [MayTime κ] [MayFwd κ] [MaySys κ] [MayTrs κ] [MayChs κ] [MayBnk κ] [MayCrn κ] [MayPrt κ] [MayPlb κ] [MayNet κ] [MayMlt κ] [MayTyd κ] [MayBly κ] {a1 a2 a3} : OkR p κ (execMemBankState a1 a2 a3 s) := by
  unfold execMemBankState
  apply State.hostWrite_ok
  assumption

theorem execModeReqActive_ok (h : Ok p κ s) [MayMode κ] [MayIdx κ] [MayMem κ] [MayFlips κ] [MayTime κ] [MayFwd κ] [MaySys κ] [MayTrs κ] [MayChs κ] [MayBnk κ] [MayCrn κ] [MayPrt κ] [MayPlb κ] [MayNet κ] [MayMlt κ] [MayTyd κ] [MayBly κ] {a1 a2} : OkR p κ (execModeReqActive a1 a2 s) := by
  unfold execModeReqActive
  apply State.hostWrite_ok
  assumption

theorem execModeReqConfig_ok (h : Ok p κ s) [MayMode κ] [MayIdx κ] [MayMem κ] [MayFlips κ] [MayTime κ] [MayFwd κ] [MaySys κ] [MayTrs κ] [MayChs κ] [MayBnk κ] [MayCrn κ] [MayPrt κ] [MayPlb κ] [MayNet κ] [MayMlt κ] [MayTyd κ] [MayBly κ] {a1 a2} : OkR p κ (execModeReqConfig a1 a2 s) := by
  unfold execModeReqConfig
  apply State.hostWrite_ok
  assumption

theorem execModeReqService_ok (h : Ok p κ s) [MayMode κ] [MayIdx κ] [MayMem κ] [MayFlips κ] [MayTime κ] [MayFwd κ] [MaySys κ] [MayTrs κ] [MayChs κ] [MayBnk κ] [MayCrn κ] [MayPrt κ] [MayPlb κ] [MayNet κ] [MayMlt κ] [MayTyd κ] [MayBly κ] {a1 a2} : OkR p κ (execModeReqService a1 a2 s) := by
  unfold execModeReqService
  apply State.hostWrite_ok
  assumption

theorem execModeReqStandby_ok (h : Ok p κ s) [MayMode κ] [MayIdx κ] [MayMem κ] [MayFlips κ] [MayTime κ] [MayFwd κ] [MaySys κ] [MayTrs κ] [MayChs κ] [MayBnk κ] [MayCrn κ] [MayPrt κ] [MayPlb κ] [MayNet κ] [MayMlt κ] [MayTyd κ] [MayBly κ] {a1 a2} : OkR p κ (execModeReqStandby a1 a2 s) := by
  unfold execModeReqStandby
  apply State.hostWrite_ok
  assumption

theorem execMount_ok (h : Ok p κ s) [MayMode κ] [MayIdx κ] [MayMem κ] [MayFlips κ] [MayTime κ] [MayFwd κ] [MaySys κ] [MayTrs κ] [MayChs κ] [MayBnk κ] [MayCrn κ] [MayPrt κ] [MayPlb κ] [MayNet κ] [MayMlt κ] [MayTyd κ] [MayBly κ] {a1 a2} : OkR p κ (execMount a1 a2 s) := by
  unfold execMount
  apply State.hostWrite_ok
  assumption

theorem execMspiRead_ok (h : Ok p κ s) [MayMode κ] [MayIdx κ] [MayMem κ] [MayFlips κ] [MayTime κ] [MayFwd κ] [MaySys κ] [MayTrs κ] [MayChs κ] [MayBnk κ] [MayCrn κ] [MayPrt κ] [MayPlb κ] [MayNet κ] [MayMlt κ] [MayTyd κ] [MayBly κ] {a1 a2} : OkR p κ (execMspiRead a1 a2 s) := by
  unfold execMspiRead
  refine okR_next ?_
  refine ok_ite ?_ ?_
  assumption
  split
  refine ok_ite ?_ ?_
  assumption
  refine ok_ite ?_ ?_
  apply State.emit_ok
  apply State.frameErr_ok
  assumption
  apply State.turn_ok
  assumption
  assumption

theorem execMspiStatus_ok (h : Ok p κ s) [MaySys κ] {a1} : OkR p κ (execMspiStatus a1 s) := by
  unfold execMspiStatus
  refine okR_next ?_
  refine ok_ite ?_ ?_
  assumption
  apply State.statusSent_ok
  apply State.emit_ok
  assumption

theorem execMspiWrite_ok (h : Ok p κ s) [MayMode κ] [MayIdx κ] [MayMem κ] [MayFlips κ] [MayTime κ] [MayFwd κ] [MaySys κ] [MayTrs κ] [MayChs κ] [MayBnk κ] [MayCrn κ] [MayPrt κ] [MayPlb κ] [MayNet κ] [MayMlt κ] [MayTyd κ] [MayBly κ] {a1 a2 a3} : OkR p κ (execMspiWrite a1 a2 a3 s) := by
  unfold execMspiWrite
  refine okR_next ?_
  refine ok_ite ?_ ?_
  assumption
  split
  assumption
  refine ok_ite ?_ ?_
  apply State.frameErr_ok
  assumption
  refine ok_ite ?_ ?_
  assumption
  split
  refine ok_ite ?_ ?_
  apply State.frameErr_ok
  assumption
  apply State.wordWrite_ok
  assumption
  apply State.frameErr_ok
  assumption

theorem execPairPers_ok (h : Ok p κ s) [MayMode κ] [MayIdx κ] [MayMem κ] [MayFlips κ] [MayTime κ] [MayFwd κ] [MaySys κ] [MayTrs κ] [MayChs κ] [MayBnk κ] [MayCrn κ] [MayPrt κ] [MayPlb κ] [MayNet κ] [MayMlt κ] [MayTyd κ] [MayBly κ] {a1 a2} : OkR p κ (execPairPers a1 a2 s) := by
  unfold execPairPers
  apply State.hostWrite_ok
  assumption

theorem execPgFence_ok (h : Ok p κ s) [MayMode κ] [MayIdx κ] [MayMem κ] [MayFlips κ] [MayTime κ] [MayFwd κ] [MaySys κ] [MayTrs κ] [MayChs κ] [MayBnk κ] [MayCrn κ] [MayPrt κ] [MayPlb κ] [MayNet κ] [MayMlt κ] [MayTyd κ] [MayBly κ] {a1 a2 a3} : OkR p κ (execPgFence a1 a2 a3 s) := by
  unfold execPgFence
  apply State.hostWrite_ok
  assumption

theorem execPgInj_ok (h : Ok p κ s) [MayMode κ] [MayIdx κ] [MayMem κ] [MayFlips κ] [MayTime κ] [MayFwd κ] [MaySys κ] [MayTrs κ] [MayChs κ] [MayBnk κ] [MayCrn κ] [MayPrt κ] [MayPlb κ] [MayNet κ] [MayMlt κ] [MayTyd κ] [MayBly κ] {a1 a2 a3} : OkR p κ (execPgInj a1 a2 a3 s) := by
  unfold execPgInj
  apply State.hostWrite_ok
  assumption

theorem execPlaybackStop_ok (h : Ok p κ s) [MayMode κ] [MayIdx κ] [MayMem κ] [MayFlips κ] [MayTime κ] [MayFwd κ] [MaySys κ] [MayTrs κ] [MayChs κ] [MayBnk κ] [MayCrn κ] [MayPrt κ] [MayPlb κ] [MayNet κ] [MayMlt κ] [MayTyd κ] [MayBly κ] {a1 a2 a3} : OkR p κ (execPlaybackStop a1 a2 a3 s) := by
  unfold execPlaybackStop
  apply State.hostWrite_ok
  assumption

theorem execPlbSynFreq_ok (h : Ok p κ s) [MayMode κ] [MayIdx κ] [MayMem κ] [MayFlips κ] [MayTime κ] [MayFwd κ] [MaySys κ] [MayTrs κ] [MayChs κ] [MayBnk κ] [MayCrn κ] [MayPrt κ] [MayPlb κ] [MayNet κ] [MayMlt κ] [MayTyd κ] [MayBly κ] {a1 a2} : OkR p κ (execPlbSynFreq a1 a2 s) := by
  unfold execPlbSynFreq
  apply State.hostWrite_ok
  assumption

theorem execPortSideDisable_ok (h : Ok p κ s) [MayMode κ] [MayIdx κ] [MayMem κ] [MayFlips κ] [MayTime κ] [MayFwd κ] [MaySys κ] [MayTrs κ] [MayChs κ] [MayBnk κ] [MayCrn κ] [MayPrt κ] [MayPlb κ] [MayNet κ] [MayMlt κ] [MayTyd κ] [MayBly κ] {a1} : OkR p κ (execPortSideDisable a1 s) := by
  unfold execPortSideDisable
  apply State.enableWrite_ok
  assumption

theorem execPortSideEnable_ok (h : Ok p κ s) [MayMode κ] [MayIdx κ] [MayMem κ] [MayFlips κ] [MayTime κ] [MayFwd κ] [MaySys κ] [MayTrs κ] [MayChs κ] [MayBnk κ] [MayCrn κ] [MayPrt κ] [MayPlb κ] [MayNet κ] [MayMlt κ] [MayTyd κ] [MayBly κ] {a1} : OkR p κ (execPortSideEnable a1 s) := by
  unfold execPortSideEnable
  apply State.enableWrite_ok
  assumption

theorem execPwrIslReq_ok (h : Ok p κ s) [MayMode κ] [MayIdx κ] [MayMem κ] [MayFlips κ] [MayTime κ] [MayFwd κ] [MaySys κ] [MayTrs κ] [MayChs κ] [MayBnk κ] [MayCrn κ] [MayPrt κ] [MayPlb κ] [MayNet κ] [MayMlt κ] [MayTyd κ] [MayBly κ] {a1 a2} : OkR p κ (execPwrIslReq a1 a2 s) := by
  unfold execPwrIslReq
  apply State.hostWrite_ok
  assumption

theorem execRate_ok (h : Ok p κ s) [MayMode κ] [MayIdx κ] [MayMem κ] [MayFlips κ] [MayTime κ] [MayFwd κ] [MaySys κ] [MayTrs κ] [MayChs κ] [MayBnk κ] [MayCrn κ] [MayPrt κ] [MayPlb κ] [MayNet κ] [MayMlt κ] [MayTyd κ] [MayBly κ] {a1 a2} : OkR p κ (execRate a1 a2 s) := by
  unfold execRate
  apply State.hostWrite_ok
  assumption

theorem execRcRead_ok (h : Ok p κ s) [MayFwd κ] [MayPlb κ] {a1 a2} : OkR p κ (execRcRead a1 a2 s) := by
  unfold execRcRead
  refine okR_next ?_
  apply State.hostRead_ok
  assumption

theorem execRearm_ok (h : Ok p κ s) [MayMode κ] [MayIdx κ] [MayMem κ] [MayFlips κ] [MayTime κ] [MayFwd κ] [MaySys κ] [MayTrs κ] [MayChs κ] [MayBnk κ] [MayCrn κ] [MayPrt κ] [MayPlb κ] [MayNet κ] [MayMlt κ] [MayTyd κ] [MayBly κ] {a1 a2} : OkR p κ (execRearm a1 a2 s) := by
  unfold execRearm
  apply State.hostWrite_ok
  assumption

theorem execRegWrite_ok (h : Ok p κ s) [MayMode κ] [MayIdx κ] [MayMem κ] [MayFlips κ] [MayTime κ] [MayFwd κ] [MaySys κ] [MayTrs κ] [MayChs κ] [MayBnk κ] [MayCrn κ] [MayPrt κ] [MayPlb κ] [MayNet κ] [MayMlt κ] [MayTyd κ] [MayBly κ] {a1 a2 a3} : OkR p κ (execRegWrite a1 a2 a3 s) := by
  unfold execRegWrite
  apply State.hostWrite_ok
  assumption

theorem execRemap_ok (h : Ok p κ s) [MayMode κ] [MayIdx κ] [MayMem κ] [MayFlips κ] [MayTime κ] [MayFwd κ] [MaySys κ] [MayTrs κ] [MayChs κ] [MayBnk κ] [MayCrn κ] [MayPrt κ] [MayPlb κ] [MayNet κ] [MayMlt κ] [MayTyd κ] [MayBly κ] {a1 a2} : OkR p κ (execRemap a1 a2 s) := by
  unfold execRemap
  apply State.hostWrite_ok
  assumption

theorem execResignWrite_ok (h : Ok p κ s) [MayMode κ] [MayIdx κ] [MayMem κ] [MayFlips κ] [MayTime κ] [MayFwd κ] [MaySys κ] [MayTrs κ] [MayChs κ] [MayBnk κ] [MayCrn κ] [MayPrt κ] [MayPlb κ] [MayNet κ] [MayMlt κ] [MayTyd κ] [MayBly κ] {a1 a2} : OkR p κ (execResignWrite a1 a2 s) := by
  unfold execResignWrite
  apply State.hostWrite_ok
  assumption

theorem execSense_ok (h : Ok p κ s) [MayMode κ] [MayIdx κ] [MayMem κ] [MayFlips κ] [MayTime κ] [MayFwd κ] [MaySys κ] [MayTrs κ] [MayChs κ] [MayBnk κ] [MayCrn κ] [MayPrt κ] [MayPlb κ] [MayNet κ] [MayMlt κ] [MayTyd κ] [MayBly κ] {a1 a2} : OkR p κ (execSense a1 a2 s) := by
  unfold execSense
  apply State.hostWrite_ok
  assumption

theorem execSoftReset_ok (h : Ok p κ s) [MayMode κ] [MayIdx κ] [MayMem κ] [MayFlips κ] [MayTime κ] [MayFwd κ] [MaySys κ] [MayTrs κ] [MayChs κ] [MayBnk κ] [MayCrn κ] [MayPrt κ] [MayPlb κ] [MayNet κ] [MayMlt κ] [MayTyd κ] [MayBly κ] {a1 a2 a3} : OkR p κ (execSoftReset a1 a2 a3 s) := by
  unfold execSoftReset
  apply State.hostWrite_ok
  assumption

theorem execStop_ok (h : Ok p κ s) [MayMode κ] [MayIdx κ] [MayMem κ] [MayFlips κ] [MayTime κ] [MayFwd κ] [MaySys κ] [MayTrs κ] [MayChs κ] [MayBnk κ] [MayCrn κ] [MayPrt κ] [MayPlb κ] [MayNet κ] [MayMlt κ] [MayTyd κ] [MayBly κ] {a1 a2 a3} : OkR p κ (execStop a1 a2 a3 s) := by
  unfold execStop
  apply State.hostWrite_ok
  assumption

theorem execTickLatchRead_ok (h : Ok p κ s) [MayFwd κ] [MayPlb κ] {a1} : OkR p κ (execTickLatchRead a1 s) := by
  unfold execTickLatchRead
  refine okR_next ?_
  apply State.hostRead_ok
  assumption

theorem execTimeRead_ok (h : Ok p κ s) [MayTime κ] [MayFwd κ] [MayPlb κ] {a1 a2} : OkR p κ (execTimeRead a1 a2 s) := by
  unfold execTimeRead
  refine okR_next ?_
  refine ok_ite ?_ ?_
  assumption
  apply State.hostRead_ok
  apply State.advance_ok
  assumption

theorem execTrussLiveWrite_ok (h : Ok p κ s) [MayMode κ] [MayIdx κ] [MayMem κ] [MayFlips κ] [MayTime κ] [MayFwd κ] [MaySys κ] [MayTrs κ] [MayChs κ] [MayBnk κ] [MayCrn κ] [MayPrt κ] [MayPlb κ] [MayNet κ] [MayMlt κ] [MayTyd κ] [MayBly κ] {a1 a2 a3} : OkR p κ (execTrussLiveWrite a1 a2 a3 s) := by
  unfold execTrussLiveWrite
  refine okR_next ?_
  apply State.hostBytes_ok
  assumption

theorem execUsLoad_ok (h : Ok p κ s) [MayMode κ] [MayIdx κ] [MayMem κ] [MayFlips κ] [MayTime κ] [MayFwd κ] [MaySys κ] [MayTrs κ] [MayChs κ] [MayBnk κ] [MayCrn κ] [MayPrt κ] [MayPlb κ] [MayNet κ] [MayMlt κ] [MayTyd κ] [MayBly κ] {a1 a2} : OkR p κ (execUsLoad a1 a2 s) := by
  unfold execUsLoad
  apply State.hostWrite_ok
  assumption

theorem execWarmReset_ok (h : Ok p κ s) [MayMode κ] [MayIdx κ] [MayMem κ] [MayFlips κ] [MayTime κ] [MayFwd κ] [MaySys κ] [MayTrs κ] [MayChs κ] [MayBnk κ] [MayCrn κ] [MayPrt κ] [MayPlb κ] [MayNet κ] [MayMlt κ] [MayTyd κ] [MayBly κ] {a1 a2} : OkR p κ (execWarmReset a1 a2 s) := by
  unfold execWarmReset
  apply State.hostWrite_ok
  assumption

theorem execWdtCtrl_ok (h : Ok p κ s) [MayMode κ] [MayIdx κ] [MayMem κ] [MayFlips κ] [MayTime κ] [MayFwd κ] [MaySys κ] [MayTrs κ] [MayChs κ] [MayBnk κ] [MayCrn κ] [MayPrt κ] [MayPlb κ] [MayNet κ] [MayMlt κ] [MayTyd κ] [MayBly κ] {a1 a2} : OkR p κ (execWdtCtrl a1 a2 s) := by
  unfold execWdtCtrl
  apply State.hostWrite_ok
  assumption

theorem execWdtKick_ok (h : Ok p κ s) [MayMode κ] [MayIdx κ] [MayMem κ] [MayFlips κ] [MayTime κ] [MayFwd κ] [MaySys κ] [MayTrs κ] [MayChs κ] [MayBnk κ] [MayCrn κ] [MayPrt κ] [MayPlb κ] [MayNet κ] [MayMlt κ] [MayTyd κ] [MayBly κ] {a1 a2} : OkR p κ (execWdtKick a1 a2 s) := by
  unfold execWdtKick
  apply State.hostWrite_ok
  assumption

theorem execWordWrite_ok (h : Ok p κ s) [MayMode κ] [MayIdx κ] [MayMem κ] [MayFlips κ] [MayTime κ] [MayFwd κ] [MaySys κ] [MayTrs κ] [MayChs κ] [MayBnk κ] [MayCrn κ] [MayPrt κ] [MayPlb κ] [MayNet κ] [MayMlt κ] [MayTyd κ] [MayBly κ] {a1 a2 a3 a4 a5} : OkR p κ (execWordWrite a1 a2 a3 a4 a5 s) := by
  unfold execWordWrite
  refine okR_next ?_
  apply State.wordWrite_ok
  refine ok_ite ?_ ?_
  assumption
  apply State.waited_ok
  assumption

theorem execWriteFrame_ok (h : Ok p κ s) [MayMode κ] [MayIdx κ] [MayMem κ] [MayFlips κ] [MayTime κ] [MayFwd κ] [MaySys κ] [MayTrs κ] [MayChs κ] [MayBnk κ] [MayCrn κ] [MayPrt κ] [MayPlb κ] [MayNet κ] [MayMlt κ] [MayTyd κ] [MayBly κ] {a1 a2 a3 a4} : OkR p κ (execWriteFrame a1 a2 a3 a4 s) := by
  unfold execWriteFrame
  extract_lets x25
  refine @use_ok p κ x25 _ ?_ ?_
  unfold x25
  apply State.gotFrame_ok
  assumption
  intro _
  clear_value x25
  refine okR_next ?_
  refine ok_ite ?_ ?_
  assumption
  apply State.drain_ok
  refine ok_mk ?_
  assumption

/-! ### Tick -/

theorem State.beginIndex_ok (h : Ok p κ s) [MayMode κ] [MayIdx κ] [MayMem κ] [MayFlips κ] [MayTime κ] [MayFwd κ] [MaySys κ] [MayTrs κ] [MayChs κ] [MayBnk κ] [MayCrn κ] [MayPrt κ] [MayPlb κ] [MayNet κ] [MayMlt κ] [MayTyd κ] [MayBly κ] : Ok p κ (State.beginIndex s) := by
  unfold State.beginIndex
  extract_lets x21
  refine @use_ok p κ x21 _ ?_ ?_
  unfold x21
  apply State.openLive_ok
  apply State.takeLive_ok
  apply State.drain_ok
  assumption
  intro _
  clear_value x21
  apply State.tryFinal_ok
  apply State.settle_ok
  assumption

theorem State.showBehind_ok (h : Ok p κ s) : Ok p κ (State.showBehind s) := by
  unfold State.showBehind
  apply State.wrN_ok
  assumption

theorem State.catchUp_ok (h : Ok p κ s) [MayMode κ] [MayIdx κ] [MayMem κ] [MayFlips κ] [MayTime κ] [MayFwd κ] [MaySys κ] [MayTrs κ] [MayChs κ] [MayBnk κ] [MayCrn κ] [MayPrt κ] [MayPlb κ] [MayNet κ] [MayMlt κ] [MayTyd κ] [MayBly κ] : Ok p κ (State.catchUp s) := by
  unfold State.catchUp
  refine ok_ite ?_ ?_
  assumption
  extract_lets x21 x22
  refine @use_ok p κ x21 _ ?_ ?_
  unfold x21
  apply State.closeIndex_ok
  apply State.lapse_ok
  apply State.keepPasses_ok
  assumption
  intro _
  clear_value x21
  refine @use_ok p κ x22 _ ?_ ?_
  unfold x22
  apply State.beginIndex_ok
  refine ok_idx ?_ ?_
  assumption
  exact nextIdx_lt _
  intro _
  clear_value x22
  apply State.showBehind_ok
  apply State.trimPresence_ok
  apply State.pumpAll_ok
  apply State.dueDecisions_ok
  assumption

theorem State.endIndex_ok (h : Ok p κ s) [MayMem κ] [MayFlips κ] [MayTrs κ] [MayChs κ] [MayTyd κ] [MayBly κ] : Ok p κ (State.endIndex s) := by
  unfold State.endIndex
  extract_lets x21 x22
  refine @use_ok p κ x21 _ ?_ ?_
  unfold x21
  apply State.recTick_ok
  assumption
  intro _
  clear_value x21
  refine @use_ok p κ x22 _ ?_ ?_
  unfold x22
  refine ok_ite ?_ ?_
  apply State.onBly_ok
  assumption
  assumption
  intro _
  clear_value x22
  apply State.closeIndex_ok
  apply State.lapse_ok
  apply State.keepPasses_ok
  assumption

theorem State.firedTick_ok (h : Ok p κ s) [MayPrt κ] [MayPlb κ] [MayMlt κ] [MayTyd κ] [MayBly κ] : Ok p κ (State.firedTick s) := by
  unfold State.firedTick
  extract_lets x21
  clear_value x21
  refine ok_foldl ?_ ?_
  apply State.onPlb_ok
  assumption
  intro _ _ _
  apply State.tickConsumers_ok
  assumption

theorem State.rateTick_ok (h : Ok p κ s) [MayMem κ] [MayFlips κ] [MayTrs κ] [MayPlb κ] : Ok p κ (State.rateTick s) := by
  unfold State.rateTick
  extract_lets x21 x22
  clear_value x21
  refine @use_ok p κ x22 _ ?_ ?_
  unfold x22
  apply State.onPlb_ok
  assumption
  intro _
  clear_value x22
  refine ok_ite ?_ ?_
  assumption
  apply State.reshed_ok
  apply State.wrN_ok
  assumption

theorem State.resignLost_ok (h : Ok p κ s) [MayMode κ] [MayMem κ] [MayFlips κ] [MaySys κ] [MayTrs κ] [MayChs κ] [MayCrn κ] [MayPrt κ] [MayPlb κ] [MayNet κ] [MayMlt κ] [MayBly κ] : Ok p κ (State.resignLost s) := by
  unfold State.resignLost
  refine ok_ite ?_ ?_
  apply State.resign_ok
  assumption
  assumption

theorem State.phaseTick_ok (h : Ok p κ s) [MayPlb κ] : Ok p κ (State.phaseTick s) := by
  unfold State.phaseTick
  split
  assumption
  refine ok_ite ?_ ?_
  apply State.setFld_ok
  assumption
  refine ok_ite ?_ ?_
  split
  extract_lets x30
  refine @use_ok p κ x30 _ ?_ ?_
  unfold x30
  apply State.setFld_ok
  refine ok_of_pair ?_ (by assumption)
  apply State.free_ok
  assumption
  intro _
  clear_value x30
  refine ok_ite ?_ ?_
  apply State.setSyn_ok
  assumption
  assumption
  assumption

theorem State.produce_ok (h : Ok p κ s) [MayMem κ] [MayFlips κ] [MayTrs κ] [MayPrt κ] [MayNet κ] [MayBly κ] : Ok p κ (State.produce s) := by
  unfold State.produce
  extract_lets x21 x22 x23
  refine @use_ok p κ x21 _ ?_ ?_
  unfold x21
  apply State.deliverHeld_ok
  apply State.startTick_ok
  assumption
  intro _
  clear_value x21
  refine @use_ok p κ x22 _ ?_ ?_
  unfold x22
  refine ok_foldl ?_ ?_
  assumption
  intro _ _ _
  refine ok_ite ?_ ?_
  assumption
  apply State.rxTick_ok
  assumption
  intro _
  clear_value x22
  refine @use_ok p κ x23 _ ?_ ?_
  unfold x23
  refine ok_foldl ?_ ?_
  assumption
  intro _ _ _
  apply State.aesTick_ok
  assumption
  intro _
  clear_value x23
  apply State.netRxTick_ok
  assumption

theorem State.unitTick_ok (h : Ok p κ s) [MayMem κ] [MayFlips κ] [MayTime κ] [MayTrs κ] [MayBnk κ] [MayCrn κ] [MayPrt κ] [MayPlb κ] [MayNet κ] [MayMlt κ] [MayTyd κ] [MayBly κ] : Ok p κ (State.unitTick s) := by
  unfold State.unitTick
  extract_lets x21 x22 x23
  refine @use_ok p κ x21 _ ?_ ?_
  unfold x21
  apply State.phaseTick_ok
  apply State.firedTick_ok
  apply State.produce_ok
  assumption
  intro _
  clear_value x21
  refine @use_ok p κ x22 _ ?_ ?_
  unfold x22
  apply State.dueDecisions_ok
  apply State.pbTick_ok
  apply State.mltTick_ok
  assumption
  intro _
  clear_value x22
  refine @use_ok p κ x23 _ ?_ ?_
  unfold x23
  refine ok_ite ?_ ?_
  apply State.sendTick_ok
  assumption
  assumption
  intro _
  clear_value x23
  apply State.onBly_ok
  apply State.trimPresence_ok
  apply State.pumpAll_ok
  assumption

theorem State.fullTick_ok (h : Ok p κ s) [MayMode κ] [MayIdx κ] [MayMem κ] [MayFlips κ] [MayTime κ] [MayFwd κ] [MaySys κ] [MayTrs κ] [MayChs κ] [MayBnk κ] [MayCrn κ] [MayPrt κ] [MayPlb κ] [MayNet κ] [MayMlt κ] [MayTyd κ] [MayBly κ] : Ok p κ (State.fullTick s) := by
  unfold State.fullTick
  extract_lets x21 x22
  refine @use_ok p κ x21 _ ?_ ?_
  unfold x21
  apply State.endIndex_ok
  assumption
  intro _
  clear_value x21
  refine @use_ok p κ x22 _ ?_ ?_
  unfold x22
  apply State.beginIndex_ok
  apply State.rateTick_ok
  refine ok_idx ?_ ?_
  assumption
  exact nextIdx_lt _
  intro _
  clear_value x22
  apply State.resignLost_ok
  apply State.unitTick_ok
  apply State.captureOn_ok
  apply State.latchTick_ok
  assumption

theorem State.realTick_ok (h : Ok p κ s) [MayIdx κ] [MayPlb κ] [MayBly κ] : Ok p κ (State.realTick s) := by
  unfold State.realTick
  exact ok_idx (State.captureOn_ok (State.latchTick_ok (ok_idx (State.onBly_ok h) (nextIdx_lt _)))) h.inv.2.2

theorem execConsumerTake_ok (h : Ok p κ s) [MayMem κ] [MayFlips κ] [MayPrt κ] [MayNet κ] [MayMlt κ] {a1 a2} : OkR p κ (execConsumerTake a1 a2 s) := by
  unfold execConsumerTake
  extract_lets x23
  clear_value x23
  refine okR_next ?_
  refine ok_ite ?_ ?_
  apply State.portTake_ok
  assumption
  refine ok_ite ?_ ?_
  apply State.aesTake_ok
  assumption
  refine ok_ite ?_ ?_
  apply State.netTake_ok
  assumption
  refine ok_ite ?_ ?_
  apply State.mltTake_ok
  assumption
  assumption

theorem execDeferredMemWrite_ok (h : Ok p κ s) [MayMode κ] [MayIdx κ] [MayMem κ] [MayFlips κ] [MayTime κ] [MayFwd κ] [MaySys κ] [MayTrs κ] [MayChs κ] [MayBnk κ] [MayCrn κ] [MayPrt κ] [MayPlb κ] [MayNet κ] [MayMlt κ] [MayTyd κ] [MayBly κ] {a1} : OkR p κ (execDeferredMemWrite a1 s) := by
  unfold execDeferredMemWrite
  split
  refine okR_next ?_
  assumption
  extract_lets x27
  clear_value x27
  refine ok_ite ?_ ?_
  refine okR_next ?_
  assumption
  refine okR_next ?_
  apply State.drain_ok
  apply State.performDeferred_ok
  assumption

theorem execMigrateDone_ok (h : Ok p κ s) [MayMode κ] [MayIdx κ] [MayMem κ] [MayFlips κ] [MayTime κ] [MayFwd κ] [MaySys κ] [MayTrs κ] [MayChs κ] [MayBnk κ] [MayCrn κ] [MayPrt κ] [MayPlb κ] [MayNet κ] [MayMlt κ] [MayTyd κ] [MayBly κ] {a1} : OkR p κ (execMigrateDone a1 s) := by
  unfold execMigrateDone
  refine okR_next ?_
  apply State.drain_ok
  apply State.migrated_ok
  assumption

theorem execPassStart_ok (h : Ok p κ s) [MayMode κ] [MayIdx κ] [MayMem κ] [MayFlips κ] [MayTime κ] [MayFwd κ] [MaySys κ] [MayTrs κ] [MayChs κ] [MayBnk κ] [MayCrn κ] [MayPrt κ] [MayPlb κ] [MayNet κ] [MayMlt κ] [MayTyd κ] [MayBly κ] {a1} : OkR p κ (execPassStart a1 s) := by
  unfold execPassStart
  refine okR_next ?_
  apply State.drain_ok
  apply State.startPass_ok
  assumption

theorem execPresenceDeadline_ok (h : Ok p κ s) [MayMem κ] [MayFlips κ] [MayTrs κ] [MayBly κ] {a1} : OkR p κ (execPresenceDeadline a1 s) := by
  unfold execPresenceDeadline
  extract_lets x22 x23
  clear_value x22
  refine @use_ok p κ x23 _ ?_ ?_
  unfold x23
  apply State.deadline_ok
  assumption
  intro _
  clear_value x23
  refine okR_next ?_
  split
  assumption
  refine ok_ite ?_ ?_
  assumption
  refine ok_ite ?_ ?_
  apply State.sendBelay_ok
  assumption
  assumption

theorem execSamplePresent_ok (h : Ok p κ s) [MayMem κ] [MayFlips κ] [MayTrs κ] [MayBly κ] {a1 a2 a3 a4} : OkR p κ (execSamplePresent a1 a2 a3 a4 s) := by
  unfold execSamplePresent
  refine okR_next ?_
  refine ok_ite ?_ ?_
  apply State.deliver_ok
  assumption
  assumption

theorem execSampleTick_ok (h : Ok p κ s) [MayMode κ] [MayIdx κ] [MayMem κ] [MayFlips κ] [MayTime κ] [MayFwd κ] [MaySys κ] [MayTrs κ] [MayChs κ] [MayBnk κ] [MayCrn κ] [MayPrt κ] [MayPlb κ] [MayNet κ] [MayMlt κ] [MayTyd κ] [MayBly κ] {a1} : OkR p κ (execSampleTick a1 s) := by
  unfold execSampleTick
  extract_lets x22
  refine @use_ok p κ x22 _ ?_ ?_
  unfold x22
  refine ok_ite ?_ ?_
  assumption
  apply State.advance_ok
  assumption
  intro _
  clear_value x22
  refine okR_next ?_
  refine ok_ite ?_ ?_
  assumption
  refine ok_ite ?_ ?_
  refine ok_ite ?_ ?_
  apply State.catchUp_ok
  assumption
  apply State.showBehind_ok
  apply State.realTick_ok
  assumption
  apply State.fullTick_ok
  assumption

end Sys2Proof.Machine
end

