-- ==== Sys2Proof/Laws/State.lean ====
section
/-! SUPPORT. What each named update of the state does to each field: one field takes its new value, the others stay. -/

namespace Sys2Proof.Machine

open Sys2Proof

variable (s : State)

/-! ### `wr` -/

@[simp] theorem State.wr_pending (a : Nat) (v : Reg32) : (s.wr a v).pending = s.pending := rfl
@[simp] theorem State.wr_mode (a : Nat) (v : Reg32) : (s.wr a v).mode = s.mode := rfl
@[simp] theorem State.wr_idx (a : Nat) (v : Reg32) : (s.wr a v).idx = s.idx := rfl
@[simp] theorem State.wr_regs (a : Nat) (v : Reg32) : (s.wr a v).regs = mset (regReset a) s.regs a v := rfl
@[simp] theorem State.wr_mem (a : Nat) (v : Reg32) : (s.wr a v).mem = s.mem := rfl
@[simp] theorem State.wr_flips (a : Nat) (v : Reg32) : (s.wr a v).flips = s.flips := rfl
@[simp] theorem State.wr_frozen (a : Nat) (v : Reg32) : (s.wr a v).frozen = s.frozen := rfl
@[simp] theorem State.wr_out (a : Nat) (v : Reg32) : (s.wr a v).out = s.out := rfl
@[simp] theorem State.wr_evlog (a : Nat) (v : Reg32) : (s.wr a v).evlog = s.evlog := rfl
@[simp] theorem State.wr_time (a : Nat) (v : Reg32) : (s.wr a v).time = s.time := rfl
@[simp] theorem State.wr_timeFrac (a : Nat) (v : Reg32) : (s.wr a v).timeFrac = s.timeFrac := rfl
@[simp] theorem State.wr_freeCtr (a : Nat) (v : Reg32) : (s.wr a v).freeCtr = s.freeCtr := rfl
@[simp] theorem State.wr_inj (a : Nat) (v : Reg32) : (s.wr a v).inj = s.inj := rfl
@[simp] theorem State.wr_injUnits (a : Nat) (v : Reg32) : (s.wr a v).injUnits = s.injUnits := rfl
@[simp] theorem State.wr_fwd (a : Nat) (v : Reg32) : (s.wr a v).fwd = s.fwd := rfl
@[simp] theorem State.wr_sys (a : Nat) (v : Reg32) : (s.wr a v).sys = s.sys := rfl
@[simp] theorem State.wr_trs (a : Nat) (v : Reg32) : (s.wr a v).trs = s.trs := rfl
@[simp] theorem State.wr_chs (a : Nat) (v : Reg32) : (s.wr a v).chs = s.chs := rfl
@[simp] theorem State.wr_bnk (a : Nat) (v : Reg32) : (s.wr a v).bnk = s.bnk := rfl
@[simp] theorem State.wr_crn (a : Nat) (v : Reg32) : (s.wr a v).crn = s.crn := rfl
@[simp] theorem State.wr_prt (a : Nat) (v : Reg32) : (s.wr a v).prt = s.prt := rfl
@[simp] theorem State.wr_plb (a : Nat) (v : Reg32) : (s.wr a v).plb = s.plb := rfl
@[simp] theorem State.wr_net (a : Nat) (v : Reg32) : (s.wr a v).net = s.net := rfl
@[simp] theorem State.wr_mlt (a : Nat) (v : Reg32) : (s.wr a v).mlt = s.mlt := rfl
@[simp] theorem State.wr_tyd (a : Nat) (v : Reg32) : (s.wr a v).tyd = s.tyd := rfl
@[simp] theorem State.wr_bly (a : Nat) (v : Reg32) : (s.wr a v).bly = s.bly := rfl
@[simp] theorem State.wr_svc (a : Nat) (v : Reg32) : (s.wr a v).svc = s.svc := rfl

/-! ### `setFld` -/

@[simp] theorem State.setFld_pending (f : Fld) (v : Nat) : (s.setFld f v).pending = s.pending := rfl
@[simp] theorem State.setFld_mode (f : Fld) (v : Nat) : (s.setFld f v).mode = s.mode := rfl
@[simp] theorem State.setFld_idx (f : Fld) (v : Nat) : (s.setFld f v).idx = s.idx := rfl
@[simp] theorem State.setFld_mem (f : Fld) (v : Nat) : (s.setFld f v).mem = s.mem := rfl
@[simp] theorem State.setFld_flips (f : Fld) (v : Nat) : (s.setFld f v).flips = s.flips := rfl
@[simp] theorem State.setFld_frozen (f : Fld) (v : Nat) : (s.setFld f v).frozen = s.frozen := rfl
@[simp] theorem State.setFld_out (f : Fld) (v : Nat) : (s.setFld f v).out = s.out := rfl
@[simp] theorem State.setFld_evlog (f : Fld) (v : Nat) : (s.setFld f v).evlog = s.evlog := rfl
@[simp] theorem State.setFld_time (f : Fld) (v : Nat) : (s.setFld f v).time = s.time := rfl
@[simp] theorem State.setFld_timeFrac (f : Fld) (v : Nat) : (s.setFld f v).timeFrac = s.timeFrac := rfl
@[simp] theorem State.setFld_freeCtr (f : Fld) (v : Nat) : (s.setFld f v).freeCtr = s.freeCtr := rfl
@[simp] theorem State.setFld_inj (f : Fld) (v : Nat) : (s.setFld f v).inj = s.inj := rfl
@[simp] theorem State.setFld_injUnits (f : Fld) (v : Nat) : (s.setFld f v).injUnits = s.injUnits := rfl
@[simp] theorem State.setFld_fwd (f : Fld) (v : Nat) : (s.setFld f v).fwd = s.fwd := rfl
@[simp] theorem State.setFld_sys (f : Fld) (v : Nat) : (s.setFld f v).sys = s.sys := rfl
@[simp] theorem State.setFld_trs (f : Fld) (v : Nat) : (s.setFld f v).trs = s.trs := rfl
@[simp] theorem State.setFld_chs (f : Fld) (v : Nat) : (s.setFld f v).chs = s.chs := rfl
@[simp] theorem State.setFld_bnk (f : Fld) (v : Nat) : (s.setFld f v).bnk = s.bnk := rfl
@[simp] theorem State.setFld_crn (f : Fld) (v : Nat) : (s.setFld f v).crn = s.crn := rfl
@[simp] theorem State.setFld_prt (f : Fld) (v : Nat) : (s.setFld f v).prt = s.prt := rfl
@[simp] theorem State.setFld_plb (f : Fld) (v : Nat) : (s.setFld f v).plb = s.plb := rfl
@[simp] theorem State.setFld_net (f : Fld) (v : Nat) : (s.setFld f v).net = s.net := rfl
@[simp] theorem State.setFld_mlt (f : Fld) (v : Nat) : (s.setFld f v).mlt = s.mlt := rfl
@[simp] theorem State.setFld_tyd (f : Fld) (v : Nat) : (s.setFld f v).tyd = s.tyd := rfl
@[simp] theorem State.setFld_bly (f : Fld) (v : Nat) : (s.setFld f v).bly = s.bly := rfl
@[simp] theorem State.setFld_svc (f : Fld) (v : Nat) : (s.setFld f v).svc = s.svc := rfl

/-! ### `emit` -/

@[simp] theorem State.emit_pending (o : Out) : (s.emit o).pending = s.pending := rfl
@[simp] theorem State.emit_mode (o : Out) : (s.emit o).mode = s.mode := rfl
@[simp] theorem State.emit_idx (o : Out) : (s.emit o).idx = s.idx := rfl
@[simp] theorem State.emit_regs (o : Out) : (s.emit o).regs = s.regs := rfl
@[simp] theorem State.emit_mem (o : Out) : (s.emit o).mem = s.mem := rfl
@[simp] theorem State.emit_flips (o : Out) : (s.emit o).flips = s.flips := rfl
@[simp] theorem State.emit_frozen (o : Out) : (s.emit o).frozen = s.frozen := rfl
@[simp] theorem State.emit_out (o : Out) : (s.emit o).out = o :: s.out := rfl
@[simp] theorem State.emit_evlog (o : Out) : (s.emit o).evlog = s.evlog := rfl
@[simp] theorem State.emit_time (o : Out) : (s.emit o).time = s.time := rfl
@[simp] theorem State.emit_timeFrac (o : Out) : (s.emit o).timeFrac = s.timeFrac := rfl
@[simp] theorem State.emit_freeCtr (o : Out) : (s.emit o).freeCtr = s.freeCtr := rfl
@[simp] theorem State.emit_inj (o : Out) : (s.emit o).inj = s.inj := rfl
@[simp] theorem State.emit_injUnits (o : Out) : (s.emit o).injUnits = s.injUnits := rfl
@[simp] theorem State.emit_fwd (o : Out) : (s.emit o).fwd = s.fwd := rfl
@[simp] theorem State.emit_sys (o : Out) : (s.emit o).sys = s.sys := rfl
@[simp] theorem State.emit_trs (o : Out) : (s.emit o).trs = s.trs := rfl
@[simp] theorem State.emit_chs (o : Out) : (s.emit o).chs = s.chs := rfl
@[simp] theorem State.emit_bnk (o : Out) : (s.emit o).bnk = s.bnk := rfl
@[simp] theorem State.emit_crn (o : Out) : (s.emit o).crn = s.crn := rfl
@[simp] theorem State.emit_prt (o : Out) : (s.emit o).prt = s.prt := rfl
@[simp] theorem State.emit_plb (o : Out) : (s.emit o).plb = s.plb := rfl
@[simp] theorem State.emit_net (o : Out) : (s.emit o).net = s.net := rfl
@[simp] theorem State.emit_mlt (o : Out) : (s.emit o).mlt = s.mlt := rfl
@[simp] theorem State.emit_tyd (o : Out) : (s.emit o).tyd = s.tyd := rfl
@[simp] theorem State.emit_bly (o : Out) : (s.emit o).bly = s.bly := rfl
@[simp] theorem State.emit_svc (o : Out) : (s.emit o).svc = s.svc := rfl

/-! ### `setWord` -/

@[simp] theorem State.setWord_pending (a : Nat) (w : Word) : (s.setWord a w).pending = s.pending := rfl
@[simp] theorem State.setWord_mode (a : Nat) (w : Word) : (s.setWord a w).mode = s.mode := rfl
@[simp] theorem State.setWord_idx (a : Nat) (w : Word) : (s.setWord a w).idx = s.idx := rfl
@[simp] theorem State.setWord_regs (a : Nat) (w : Word) : (s.setWord a w).regs = s.regs := rfl
@[simp] theorem State.setWord_frozen (a : Nat) (w : Word) : (s.setWord a w).frozen = s.frozen := rfl
@[simp] theorem State.setWord_out (a : Nat) (w : Word) : (s.setWord a w).out = s.out := rfl
@[simp] theorem State.setWord_evlog (a : Nat) (w : Word) : (s.setWord a w).evlog = s.evlog := rfl
@[simp] theorem State.setWord_time (a : Nat) (w : Word) : (s.setWord a w).time = s.time := rfl
@[simp] theorem State.setWord_timeFrac (a : Nat) (w : Word) : (s.setWord a w).timeFrac = s.timeFrac := rfl
@[simp] theorem State.setWord_freeCtr (a : Nat) (w : Word) : (s.setWord a w).freeCtr = s.freeCtr := rfl
@[simp] theorem State.setWord_inj (a : Nat) (w : Word) : (s.setWord a w).inj = s.inj := rfl
@[simp] theorem State.setWord_injUnits (a : Nat) (w : Word) : (s.setWord a w).injUnits = s.injUnits := rfl
@[simp] theorem State.setWord_fwd (a : Nat) (w : Word) : (s.setWord a w).fwd = s.fwd := rfl
@[simp] theorem State.setWord_sys (a : Nat) (w : Word) : (s.setWord a w).sys = s.sys := rfl
@[simp] theorem State.setWord_trs (a : Nat) (w : Word) : (s.setWord a w).trs = s.trs := rfl
@[simp] theorem State.setWord_chs (a : Nat) (w : Word) : (s.setWord a w).chs = s.chs := rfl
@[simp] theorem State.setWord_bnk (a : Nat) (w : Word) : (s.setWord a w).bnk = s.bnk := rfl
@[simp] theorem State.setWord_crn (a : Nat) (w : Word) : (s.setWord a w).crn = s.crn := rfl
@[simp] theorem State.setWord_prt (a : Nat) (w : Word) : (s.setWord a w).prt = s.prt := rfl
@[simp] theorem State.setWord_plb (a : Nat) (w : Word) : (s.setWord a w).plb = s.plb := rfl
@[simp] theorem State.setWord_net (a : Nat) (w : Word) : (s.setWord a w).net = s.net := rfl
@[simp] theorem State.setWord_mlt (a : Nat) (w : Word) : (s.setWord a w).mlt = s.mlt := rfl
@[simp] theorem State.setWord_tyd (a : Nat) (w : Word) : (s.setWord a w).tyd = s.tyd := rfl
@[simp] theorem State.setWord_bly (a : Nat) (w : Word) : (s.setWord a w).bly = s.bly := rfl
@[simp] theorem State.setWord_svc (a : Nat) (w : Word) : (s.setWord a w).svc = s.svc := rfl

/-! ### `onSys` -/

@[simp] theorem State.onSys_pending (f : Sys → Sys) : (s.onSys f).pending = s.pending := rfl
@[simp] theorem State.onSys_mode (f : Sys → Sys) : (s.onSys f).mode = s.mode := rfl
@[simp] theorem State.onSys_idx (f : Sys → Sys) : (s.onSys f).idx = s.idx := rfl
@[simp] theorem State.onSys_regs (f : Sys → Sys) : (s.onSys f).regs = s.regs := rfl
@[simp] theorem State.onSys_mem (f : Sys → Sys) : (s.onSys f).mem = s.mem := rfl
@[simp] theorem State.onSys_flips (f : Sys → Sys) : (s.onSys f).flips = s.flips := rfl
@[simp] theorem State.onSys_frozen (f : Sys → Sys) : (s.onSys f).frozen = s.frozen := rfl
@[simp] theorem State.onSys_out (f : Sys → Sys) : (s.onSys f).out = s.out := rfl
@[simp] theorem State.onSys_evlog (f : Sys → Sys) : (s.onSys f).evlog = s.evlog := rfl
@[simp] theorem State.onSys_time (f : Sys → Sys) : (s.onSys f).time = s.time := rfl
@[simp] theorem State.onSys_timeFrac (f : Sys → Sys) : (s.onSys f).timeFrac = s.timeFrac := rfl
@[simp] theorem State.onSys_freeCtr (f : Sys → Sys) : (s.onSys f).freeCtr = s.freeCtr := rfl
@[simp] theorem State.onSys_inj (f : Sys → Sys) : (s.onSys f).inj = s.inj := rfl
@[simp] theorem State.onSys_injUnits (f : Sys → Sys) : (s.onSys f).injUnits = s.injUnits := rfl
@[simp] theorem State.onSys_fwd (f : Sys → Sys) : (s.onSys f).fwd = s.fwd := rfl
@[simp] theorem State.onSys_sys (f : Sys → Sys) : (s.onSys f).sys = f s.sys := rfl
@[simp] theorem State.onSys_trs (f : Sys → Sys) : (s.onSys f).trs = s.trs := rfl
@[simp] theorem State.onSys_chs (f : Sys → Sys) : (s.onSys f).chs = s.chs := rfl
@[simp] theorem State.onSys_bnk (f : Sys → Sys) : (s.onSys f).bnk = s.bnk := rfl
@[simp] theorem State.onSys_crn (f : Sys → Sys) : (s.onSys f).crn = s.crn := rfl
@[simp] theorem State.onSys_prt (f : Sys → Sys) : (s.onSys f).prt = s.prt := rfl
@[simp] theorem State.onSys_plb (f : Sys → Sys) : (s.onSys f).plb = s.plb := rfl
@[simp] theorem State.onSys_net (f : Sys → Sys) : (s.onSys f).net = s.net := rfl
@[simp] theorem State.onSys_mlt (f : Sys → Sys) : (s.onSys f).mlt = s.mlt := rfl
@[simp] theorem State.onSys_tyd (f : Sys → Sys) : (s.onSys f).tyd = s.tyd := rfl
@[simp] theorem State.onSys_bly (f : Sys → Sys) : (s.onSys f).bly = s.bly := rfl
@[simp] theorem State.onSys_svc (f : Sys → Sys) : (s.onSys f).svc = s.svc := rfl

/-! ### `onTrs` -/

@[simp] theorem State.onTrs_pending (f : Truss → Truss) : (s.onTrs f).pending = s.pending := rfl
@[simp] theorem State.onTrs_mode (f : Truss → Truss) : (s.onTrs f).mode = s.mode := rfl
@[simp] theorem State.onTrs_idx (f : Truss → Truss) : (s.onTrs f).idx = s.idx := rfl
@[simp] theorem State.onTrs_regs (f : Truss → Truss) : (s.onTrs f).regs = s.regs := rfl
@[simp] theorem State.onTrs_mem (f : Truss → Truss) : (s.onTrs f).mem = s.mem := rfl
@[simp] theorem State.onTrs_flips (f : Truss → Truss) : (s.onTrs f).flips = s.flips := rfl
@[simp] theorem State.onTrs_frozen (f : Truss → Truss) : (s.onTrs f).frozen = s.frozen := rfl
@[simp] theorem State.onTrs_out (f : Truss → Truss) : (s.onTrs f).out = s.out := rfl
@[simp] theorem State.onTrs_evlog (f : Truss → Truss) : (s.onTrs f).evlog = s.evlog := rfl
@[simp] theorem State.onTrs_time (f : Truss → Truss) : (s.onTrs f).time = s.time := rfl
@[simp] theorem State.onTrs_timeFrac (f : Truss → Truss) : (s.onTrs f).timeFrac = s.timeFrac := rfl
@[simp] theorem State.onTrs_freeCtr (f : Truss → Truss) : (s.onTrs f).freeCtr = s.freeCtr := rfl
@[simp] theorem State.onTrs_inj (f : Truss → Truss) : (s.onTrs f).inj = s.inj := rfl
@[simp] theorem State.onTrs_injUnits (f : Truss → Truss) : (s.onTrs f).injUnits = s.injUnits := rfl
@[simp] theorem State.onTrs_fwd (f : Truss → Truss) : (s.onTrs f).fwd = s.fwd := rfl
@[simp] theorem State.onTrs_sys (f : Truss → Truss) : (s.onTrs f).sys = s.sys := rfl
@[simp] theorem State.onTrs_trs (f : Truss → Truss) : (s.onTrs f).trs = f s.trs := rfl
@[simp] theorem State.onTrs_chs (f : Truss → Truss) : (s.onTrs f).chs = s.chs := rfl
@[simp] theorem State.onTrs_bnk (f : Truss → Truss) : (s.onTrs f).bnk = s.bnk := rfl
@[simp] theorem State.onTrs_crn (f : Truss → Truss) : (s.onTrs f).crn = s.crn := rfl
@[simp] theorem State.onTrs_prt (f : Truss → Truss) : (s.onTrs f).prt = s.prt := rfl
@[simp] theorem State.onTrs_plb (f : Truss → Truss) : (s.onTrs f).plb = s.plb := rfl
@[simp] theorem State.onTrs_net (f : Truss → Truss) : (s.onTrs f).net = s.net := rfl
@[simp] theorem State.onTrs_mlt (f : Truss → Truss) : (s.onTrs f).mlt = s.mlt := rfl
@[simp] theorem State.onTrs_tyd (f : Truss → Truss) : (s.onTrs f).tyd = s.tyd := rfl
@[simp] theorem State.onTrs_bly (f : Truss → Truss) : (s.onTrs f).bly = s.bly := rfl
@[simp] theorem State.onTrs_svc (f : Truss → Truss) : (s.onTrs f).svc = s.svc := rfl

/-! ### `onChs` -/

@[simp] theorem State.onChs_pending (f : Chisel → Chisel) : (s.onChs f).pending = s.pending := rfl
@[simp] theorem State.onChs_mode (f : Chisel → Chisel) : (s.onChs f).mode = s.mode := rfl
@[simp] theorem State.onChs_idx (f : Chisel → Chisel) : (s.onChs f).idx = s.idx := rfl
@[simp] theorem State.onChs_regs (f : Chisel → Chisel) : (s.onChs f).regs = s.regs := rfl
@[simp] theorem State.onChs_mem (f : Chisel → Chisel) : (s.onChs f).mem = s.mem := rfl
@[simp] theorem State.onChs_flips (f : Chisel → Chisel) : (s.onChs f).flips = s.flips := rfl
@[simp] theorem State.onChs_frozen (f : Chisel → Chisel) : (s.onChs f).frozen = s.frozen := rfl
@[simp] theorem State.onChs_out (f : Chisel → Chisel) : (s.onChs f).out = s.out := rfl
@[simp] theorem State.onChs_evlog (f : Chisel → Chisel) : (s.onChs f).evlog = s.evlog := rfl
@[simp] theorem State.onChs_time (f : Chisel → Chisel) : (s.onChs f).time = s.time := rfl
@[simp] theorem State.onChs_timeFrac (f : Chisel → Chisel) : (s.onChs f).timeFrac = s.timeFrac := rfl
@[simp] theorem State.onChs_freeCtr (f : Chisel → Chisel) : (s.onChs f).freeCtr = s.freeCtr := rfl
@[simp] theorem State.onChs_inj (f : Chisel → Chisel) : (s.onChs f).inj = s.inj := rfl
@[simp] theorem State.onChs_injUnits (f : Chisel → Chisel) : (s.onChs f).injUnits = s.injUnits := rfl
@[simp] theorem State.onChs_fwd (f : Chisel → Chisel) : (s.onChs f).fwd = s.fwd := rfl
@[simp] theorem State.onChs_sys (f : Chisel → Chisel) : (s.onChs f).sys = s.sys := rfl
@[simp] theorem State.onChs_trs (f : Chisel → Chisel) : (s.onChs f).trs = s.trs := rfl
@[simp] theorem State.onChs_chs (f : Chisel → Chisel) : (s.onChs f).chs = f s.chs := rfl
@[simp] theorem State.onChs_bnk (f : Chisel → Chisel) : (s.onChs f).bnk = s.bnk := rfl
@[simp] theorem State.onChs_crn (f : Chisel → Chisel) : (s.onChs f).crn = s.crn := rfl
@[simp] theorem State.onChs_prt (f : Chisel → Chisel) : (s.onChs f).prt = s.prt := rfl
@[simp] theorem State.onChs_plb (f : Chisel → Chisel) : (s.onChs f).plb = s.plb := rfl
@[simp] theorem State.onChs_net (f : Chisel → Chisel) : (s.onChs f).net = s.net := rfl
@[simp] theorem State.onChs_mlt (f : Chisel → Chisel) : (s.onChs f).mlt = s.mlt := rfl
@[simp] theorem State.onChs_tyd (f : Chisel → Chisel) : (s.onChs f).tyd = s.tyd := rfl
@[simp] theorem State.onChs_bly (f : Chisel → Chisel) : (s.onChs f).bly = s.bly := rfl
@[simp] theorem State.onChs_svc (f : Chisel → Chisel) : (s.onChs f).svc = s.svc := rfl

/-! ### `onCrn` -/

@[simp] theorem State.onCrn_pending (f : Cairn → Cairn) : (s.onCrn f).pending = s.pending := rfl
@[simp] theorem State.onCrn_mode (f : Cairn → Cairn) : (s.onCrn f).mode = s.mode := rfl
@[simp] theorem State.onCrn_idx (f : Cairn → Cairn) : (s.onCrn f).idx = s.idx := rfl
@[simp] theorem State.onCrn_regs (f : Cairn → Cairn) : (s.onCrn f).regs = s.regs := rfl
@[simp] theorem State.onCrn_mem (f : Cairn → Cairn) : (s.onCrn f).mem = s.mem := rfl
@[simp] theorem State.onCrn_flips (f : Cairn → Cairn) : (s.onCrn f).flips = s.flips := rfl
@[simp] theorem State.onCrn_frozen (f : Cairn → Cairn) : (s.onCrn f).frozen = s.frozen := rfl
@[simp] theorem State.onCrn_out (f : Cairn → Cairn) : (s.onCrn f).out = s.out := rfl
@[simp] theorem State.onCrn_evlog (f : Cairn → Cairn) : (s.onCrn f).evlog = s.evlog := rfl
@[simp] theorem State.onCrn_time (f : Cairn → Cairn) : (s.onCrn f).time = s.time := rfl
@[simp] theorem State.onCrn_timeFrac (f : Cairn → Cairn) : (s.onCrn f).timeFrac = s.timeFrac := rfl
@[simp] theorem State.onCrn_freeCtr (f : Cairn → Cairn) : (s.onCrn f).freeCtr = s.freeCtr := rfl
@[simp] theorem State.onCrn_inj (f : Cairn → Cairn) : (s.onCrn f).inj = s.inj := rfl
@[simp] theorem State.onCrn_injUnits (f : Cairn → Cairn) : (s.onCrn f).injUnits = s.injUnits := rfl
@[simp] theorem State.onCrn_fwd (f : Cairn → Cairn) : (s.onCrn f).fwd = s.fwd := rfl
@[simp] theorem State.onCrn_sys (f : Cairn → Cairn) : (s.onCrn f).sys = s.sys := rfl
@[simp] theorem State.onCrn_trs (f : Cairn → Cairn) : (s.onCrn f).trs = s.trs := rfl
@[simp] theorem State.onCrn_chs (f : Cairn → Cairn) : (s.onCrn f).chs = s.chs := rfl
@[simp] theorem State.onCrn_bnk (f : Cairn → Cairn) : (s.onCrn f).bnk = s.bnk := rfl
@[simp] theorem State.onCrn_crn (f : Cairn → Cairn) : (s.onCrn f).crn = f s.crn := rfl
@[simp] theorem State.onCrn_prt (f : Cairn → Cairn) : (s.onCrn f).prt = s.prt := rfl
@[simp] theorem State.onCrn_plb (f : Cairn → Cairn) : (s.onCrn f).plb = s.plb := rfl
@[simp] theorem State.onCrn_net (f : Cairn → Cairn) : (s.onCrn f).net = s.net := rfl
@[simp] theorem State.onCrn_mlt (f : Cairn → Cairn) : (s.onCrn f).mlt = s.mlt := rfl
@[simp] theorem State.onCrn_tyd (f : Cairn → Cairn) : (s.onCrn f).tyd = s.tyd := rfl
@[simp] theorem State.onCrn_bly (f : Cairn → Cairn) : (s.onCrn f).bly = s.bly := rfl
@[simp] theorem State.onCrn_svc (f : Cairn → Cairn) : (s.onCrn f).svc = s.svc := rfl

/-! ### `onPrt` -/

@[simp] theorem State.onPrt_pending (f : Ports → Ports) : (s.onPrt f).pending = s.pending := rfl
@[simp] theorem State.onPrt_mode (f : Ports → Ports) : (s.onPrt f).mode = s.mode := rfl
@[simp] theorem State.onPrt_idx (f : Ports → Ports) : (s.onPrt f).idx = s.idx := rfl
@[simp] theorem State.onPrt_regs (f : Ports → Ports) : (s.onPrt f).regs = s.regs := rfl
@[simp] theorem State.onPrt_mem (f : Ports → Ports) : (s.onPrt f).mem = s.mem := rfl
@[simp] theorem State.onPrt_flips (f : Ports → Ports) : (s.onPrt f).flips = s.flips := rfl
@[simp] theorem State.onPrt_frozen (f : Ports → Ports) : (s.onPrt f).frozen = s.frozen := rfl
@[simp] theorem State.onPrt_out (f : Ports → Ports) : (s.onPrt f).out = s.out := rfl
@[simp] theorem State.onPrt_evlog (f : Ports → Ports) : (s.onPrt f).evlog = s.evlog := rfl
@[simp] theorem State.onPrt_time (f : Ports → Ports) : (s.onPrt f).time = s.time := rfl
@[simp] theorem State.onPrt_timeFrac (f : Ports → Ports) : (s.onPrt f).timeFrac = s.timeFrac := rfl
@[simp] theorem State.onPrt_freeCtr (f : Ports → Ports) : (s.onPrt f).freeCtr = s.freeCtr := rfl
@[simp] theorem State.onPrt_inj (f : Ports → Ports) : (s.onPrt f).inj = s.inj := rfl
@[simp] theorem State.onPrt_injUnits (f : Ports → Ports) : (s.onPrt f).injUnits = s.injUnits := rfl
@[simp] theorem State.onPrt_fwd (f : Ports → Ports) : (s.onPrt f).fwd = s.fwd := rfl
@[simp] theorem State.onPrt_sys (f : Ports → Ports) : (s.onPrt f).sys = s.sys := rfl
@[simp] theorem State.onPrt_trs (f : Ports → Ports) : (s.onPrt f).trs = s.trs := rfl
@[simp] theorem State.onPrt_chs (f : Ports → Ports) : (s.onPrt f).chs = s.chs := rfl
@[simp] theorem State.onPrt_bnk (f : Ports → Ports) : (s.onPrt f).bnk = s.bnk := rfl
@[simp] theorem State.onPrt_crn (f : Ports → Ports) : (s.onPrt f).crn = s.crn := rfl
@[simp] theorem State.onPrt_prt (f : Ports → Ports) : (s.onPrt f).prt = f s.prt := rfl
@[simp] theorem State.onPrt_plb (f : Ports → Ports) : (s.onPrt f).plb = s.plb := rfl
@[simp] theorem State.onPrt_net (f : Ports → Ports) : (s.onPrt f).net = s.net := rfl
@[simp] theorem State.onPrt_mlt (f : Ports → Ports) : (s.onPrt f).mlt = s.mlt := rfl
@[simp] theorem State.onPrt_tyd (f : Ports → Ports) : (s.onPrt f).tyd = s.tyd := rfl
@[simp] theorem State.onPrt_bly (f : Ports → Ports) : (s.onPrt f).bly = s.bly := rfl
@[simp] theorem State.onPrt_svc (f : Ports → Ports) : (s.onPrt f).svc = s.svc := rfl

/-! ### `onPlb` -/

@[simp] theorem State.onPlb_pending (f : Plumb → Plumb) : (s.onPlb f).pending = s.pending := rfl
@[simp] theorem State.onPlb_mode (f : Plumb → Plumb) : (s.onPlb f).mode = s.mode := rfl
@[simp] theorem State.onPlb_idx (f : Plumb → Plumb) : (s.onPlb f).idx = s.idx := rfl
@[simp] theorem State.onPlb_regs (f : Plumb → Plumb) : (s.onPlb f).regs = s.regs := rfl
@[simp] theorem State.onPlb_mem (f : Plumb → Plumb) : (s.onPlb f).mem = s.mem := rfl
@[simp] theorem State.onPlb_flips (f : Plumb → Plumb) : (s.onPlb f).flips = s.flips := rfl
@[simp] theorem State.onPlb_frozen (f : Plumb → Plumb) : (s.onPlb f).frozen = s.frozen := rfl
@[simp] theorem State.onPlb_out (f : Plumb → Plumb) : (s.onPlb f).out = s.out := rfl
@[simp] theorem State.onPlb_evlog (f : Plumb → Plumb) : (s.onPlb f).evlog = s.evlog := rfl
@[simp] theorem State.onPlb_time (f : Plumb → Plumb) : (s.onPlb f).time = s.time := rfl
@[simp] theorem State.onPlb_timeFrac (f : Plumb → Plumb) : (s.onPlb f).timeFrac = s.timeFrac := rfl
@[simp] theorem State.onPlb_freeCtr (f : Plumb → Plumb) : (s.onPlb f).freeCtr = s.freeCtr := rfl
@[simp] theorem State.onPlb_inj (f : Plumb → Plumb) : (s.onPlb f).inj = s.inj := rfl
@[simp] theorem State.onPlb_injUnits (f : Plumb → Plumb) : (s.onPlb f).injUnits = s.injUnits := rfl
@[simp] theorem State.onPlb_fwd (f : Plumb → Plumb) : (s.onPlb f).fwd = s.fwd := rfl
@[simp] theorem State.onPlb_sys (f : Plumb → Plumb) : (s.onPlb f).sys = s.sys := rfl
@[simp] theorem State.onPlb_trs (f : Plumb → Plumb) : (s.onPlb f).trs = s.trs := rfl
@[simp] theorem State.onPlb_chs (f : Plumb → Plumb) : (s.onPlb f).chs = s.chs := rfl
@[simp] theorem State.onPlb_bnk (f : Plumb → Plumb) : (s.onPlb f).bnk = s.bnk := rfl
@[simp] theorem State.onPlb_crn (f : Plumb → Plumb) : (s.onPlb f).crn = s.crn := rfl
@[simp] theorem State.onPlb_prt (f : Plumb → Plumb) : (s.onPlb f).prt = s.prt := rfl
@[simp] theorem State.onPlb_plb (f : Plumb → Plumb) : (s.onPlb f).plb = f s.plb := rfl
@[simp] theorem State.onPlb_net (f : Plumb → Plumb) : (s.onPlb f).net = s.net := rfl
@[simp] theorem State.onPlb_mlt (f : Plumb → Plumb) : (s.onPlb f).mlt = s.mlt := rfl
@[simp] theorem State.onPlb_tyd (f : Plumb → Plumb) : (s.onPlb f).tyd = s.tyd := rfl
@[simp] theorem State.onPlb_bly (f : Plumb → Plumb) : (s.onPlb f).bly = s.bly := rfl
@[simp] theorem State.onPlb_svc (f : Plumb → Plumb) : (s.onPlb f).svc = s.svc := rfl

/-! ### `onNet` -/

@[simp] theorem State.onNet_pending (f : Net → Net) : (s.onNet f).pending = s.pending := rfl
@[simp] theorem State.onNet_mode (f : Net → Net) : (s.onNet f).mode = s.mode := rfl
@[simp] theorem State.onNet_idx (f : Net → Net) : (s.onNet f).idx = s.idx := rfl
@[simp] theorem State.onNet_regs (f : Net → Net) : (s.onNet f).regs = s.regs := rfl
@[simp] theorem State.onNet_mem (f : Net → Net) : (s.onNet f).mem = s.mem := rfl
@[simp] theorem State.onNet_flips (f : Net → Net) : (s.onNet f).flips = s.flips := rfl
@[simp] theorem State.onNet_frozen (f : Net → Net) : (s.onNet f).frozen = s.frozen := rfl
@[simp] theorem State.onNet_out (f : Net → Net) : (s.onNet f).out = s.out := rfl
@[simp] theorem State.onNet_evlog (f : Net → Net) : (s.onNet f).evlog = s.evlog := rfl
@[simp] theorem State.onNet_time (f : Net → Net) : (s.onNet f).time = s.time := rfl
@[simp] theorem State.onNet_timeFrac (f : Net → Net) : (s.onNet f).timeFrac = s.timeFrac := rfl
@[simp] theorem State.onNet_freeCtr (f : Net → Net) : (s.onNet f).freeCtr = s.freeCtr := rfl
@[simp] theorem State.onNet_inj (f : Net → Net) : (s.onNet f).inj = s.inj := rfl
@[simp] theorem State.onNet_injUnits (f : Net → Net) : (s.onNet f).injUnits = s.injUnits := rfl
@[simp] theorem State.onNet_fwd (f : Net → Net) : (s.onNet f).fwd = s.fwd := rfl
@[simp] theorem State.onNet_sys (f : Net → Net) : (s.onNet f).sys = s.sys := rfl
@[simp] theorem State.onNet_trs (f : Net → Net) : (s.onNet f).trs = s.trs := rfl
@[simp] theorem State.onNet_chs (f : Net → Net) : (s.onNet f).chs = s.chs := rfl
@[simp] theorem State.onNet_bnk (f : Net → Net) : (s.onNet f).bnk = s.bnk := rfl
@[simp] theorem State.onNet_crn (f : Net → Net) : (s.onNet f).crn = s.crn := rfl
@[simp] theorem State.onNet_prt (f : Net → Net) : (s.onNet f).prt = s.prt := rfl
@[simp] theorem State.onNet_plb (f : Net → Net) : (s.onNet f).plb = s.plb := rfl
@[simp] theorem State.onNet_net (f : Net → Net) : (s.onNet f).net = f s.net := rfl
@[simp] theorem State.onNet_mlt (f : Net → Net) : (s.onNet f).mlt = s.mlt := rfl
@[simp] theorem State.onNet_tyd (f : Net → Net) : (s.onNet f).tyd = s.tyd := rfl
@[simp] theorem State.onNet_bly (f : Net → Net) : (s.onNet f).bly = s.bly := rfl
@[simp] theorem State.onNet_svc (f : Net → Net) : (s.onNet f).svc = s.svc := rfl

/-! ### `onMlt` -/

@[simp] theorem State.onMlt_pending (f : Mallet → Mallet) : (s.onMlt f).pending = s.pending := rfl
@[simp] theorem State.onMlt_mode (f : Mallet → Mallet) : (s.onMlt f).mode = s.mode := rfl
@[simp] theorem State.onMlt_idx (f : Mallet → Mallet) : (s.onMlt f).idx = s.idx := rfl
@[simp] theorem State.onMlt_regs (f : Mallet → Mallet) : (s.onMlt f).regs = s.regs := rfl
@[simp] theorem State.onMlt_mem (f : Mallet → Mallet) : (s.onMlt f).mem = s.mem := rfl
@[simp] theorem State.onMlt_flips (f : Mallet → Mallet) : (s.onMlt f).flips = s.flips := rfl
@[simp] theorem State.onMlt_frozen (f : Mallet → Mallet) : (s.onMlt f).frozen = s.frozen := rfl
@[simp] theorem State.onMlt_out (f : Mallet → Mallet) : (s.onMlt f).out = s.out := rfl
@[simp] theorem State.onMlt_evlog (f : Mallet → Mallet) : (s.onMlt f).evlog = s.evlog := rfl
@[simp] theorem State.onMlt_time (f : Mallet → Mallet) : (s.onMlt f).time = s.time := rfl
@[simp] theorem State.onMlt_timeFrac (f : Mallet → Mallet) : (s.onMlt f).timeFrac = s.timeFrac := rfl
@[simp] theorem State.onMlt_freeCtr (f : Mallet → Mallet) : (s.onMlt f).freeCtr = s.freeCtr := rfl
@[simp] theorem State.onMlt_inj (f : Mallet → Mallet) : (s.onMlt f).inj = s.inj := rfl
@[simp] theorem State.onMlt_injUnits (f : Mallet → Mallet) : (s.onMlt f).injUnits = s.injUnits := rfl
@[simp] theorem State.onMlt_fwd (f : Mallet → Mallet) : (s.onMlt f).fwd = s.fwd := rfl
@[simp] theorem State.onMlt_sys (f : Mallet → Mallet) : (s.onMlt f).sys = s.sys := rfl
@[simp] theorem State.onMlt_trs (f : Mallet → Mallet) : (s.onMlt f).trs = s.trs := rfl
@[simp] theorem State.onMlt_chs (f : Mallet → Mallet) : (s.onMlt f).chs = s.chs := rfl
@[simp] theorem State.onMlt_bnk (f : Mallet → Mallet) : (s.onMlt f).bnk = s.bnk := rfl
@[simp] theorem State.onMlt_crn (f : Mallet → Mallet) : (s.onMlt f).crn = s.crn := rfl
@[simp] theorem State.onMlt_prt (f : Mallet → Mallet) : (s.onMlt f).prt = s.prt := rfl
@[simp] theorem State.onMlt_plb (f : Mallet → Mallet) : (s.onMlt f).plb = s.plb := rfl
@[simp] theorem State.onMlt_net (f : Mallet → Mallet) : (s.onMlt f).net = s.net := rfl
@[simp] theorem State.onMlt_mlt (f : Mallet → Mallet) : (s.onMlt f).mlt = f s.mlt := rfl
@[simp] theorem State.onMlt_tyd (f : Mallet → Mallet) : (s.onMlt f).tyd = s.tyd := rfl
@[simp] theorem State.onMlt_bly (f : Mallet → Mallet) : (s.onMlt f).bly = s.bly := rfl
@[simp] theorem State.onMlt_svc (f : Mallet → Mallet) : (s.onMlt f).svc = s.svc := rfl

/-! ### `onTyd` -/

@[simp] theorem State.onTyd_pending (f : Tyd → Tyd) : (s.onTyd f).pending = s.pending := rfl
@[simp] theorem State.onTyd_mode (f : Tyd → Tyd) : (s.onTyd f).mode = s.mode := rfl
@[simp] theorem State.onTyd_idx (f : Tyd → Tyd) : (s.onTyd f).idx = s.idx := rfl
@[simp] theorem State.onTyd_regs (f : Tyd → Tyd) : (s.onTyd f).regs = s.regs := rfl
@[simp] theorem State.onTyd_mem (f : Tyd → Tyd) : (s.onTyd f).mem = s.mem := rfl
@[simp] theorem State.onTyd_flips (f : Tyd → Tyd) : (s.onTyd f).flips = s.flips := rfl
@[simp] theorem State.onTyd_frozen (f : Tyd → Tyd) : (s.onTyd f).frozen = s.frozen := rfl
@[simp] theorem State.onTyd_out (f : Tyd → Tyd) : (s.onTyd f).out = s.out := rfl
@[simp] theorem State.onTyd_evlog (f : Tyd → Tyd) : (s.onTyd f).evlog = s.evlog := rfl
@[simp] theorem State.onTyd_time (f : Tyd → Tyd) : (s.onTyd f).time = s.time := rfl
@[simp] theorem State.onTyd_timeFrac (f : Tyd → Tyd) : (s.onTyd f).timeFrac = s.timeFrac := rfl
@[simp] theorem State.onTyd_freeCtr (f : Tyd → Tyd) : (s.onTyd f).freeCtr = s.freeCtr := rfl
@[simp] theorem State.onTyd_inj (f : Tyd → Tyd) : (s.onTyd f).inj = s.inj := rfl
@[simp] theorem State.onTyd_injUnits (f : Tyd → Tyd) : (s.onTyd f).injUnits = s.injUnits := rfl
@[simp] theorem State.onTyd_fwd (f : Tyd → Tyd) : (s.onTyd f).fwd = s.fwd := rfl
@[simp] theorem State.onTyd_sys (f : Tyd → Tyd) : (s.onTyd f).sys = s.sys := rfl
@[simp] theorem State.onTyd_trs (f : Tyd → Tyd) : (s.onTyd f).trs = s.trs := rfl
@[simp] theorem State.onTyd_chs (f : Tyd → Tyd) : (s.onTyd f).chs = s.chs := rfl
@[simp] theorem State.onTyd_bnk (f : Tyd → Tyd) : (s.onTyd f).bnk = s.bnk := rfl
@[simp] theorem State.onTyd_crn (f : Tyd → Tyd) : (s.onTyd f).crn = s.crn := rfl
@[simp] theorem State.onTyd_prt (f : Tyd → Tyd) : (s.onTyd f).prt = s.prt := rfl
@[simp] theorem State.onTyd_plb (f : Tyd → Tyd) : (s.onTyd f).plb = s.plb := rfl
@[simp] theorem State.onTyd_net (f : Tyd → Tyd) : (s.onTyd f).net = s.net := rfl
@[simp] theorem State.onTyd_mlt (f : Tyd → Tyd) : (s.onTyd f).mlt = s.mlt := rfl
@[simp] theorem State.onTyd_tyd (f : Tyd → Tyd) : (s.onTyd f).tyd = f s.tyd := rfl
@[simp] theorem State.onTyd_bly (f : Tyd → Tyd) : (s.onTyd f).bly = s.bly := rfl
@[simp] theorem State.onTyd_svc (f : Tyd → Tyd) : (s.onTyd f).svc = s.svc := rfl

/-! ### `onBly` -/

@[simp] theorem State.onBly_pending (f : Belay → Belay) : (s.onBly f).pending = s.pending := rfl
@[simp] theorem State.onBly_mode (f : Belay → Belay) : (s.onBly f).mode = s.mode := rfl
@[simp] theorem State.onBly_idx (f : Belay → Belay) : (s.onBly f).idx = s.idx := rfl
@[simp] theorem State.onBly_regs (f : Belay → Belay) : (s.onBly f).regs = s.regs := rfl
@[simp] theorem State.onBly_mem (f : Belay → Belay) : (s.onBly f).mem = s.mem := rfl
@[simp] theorem State.onBly_flips (f : Belay → Belay) : (s.onBly f).flips = s.flips := rfl
@[simp] theorem State.onBly_frozen (f : Belay → Belay) : (s.onBly f).frozen = s.frozen := rfl
@[simp] theorem State.onBly_out (f : Belay → Belay) : (s.onBly f).out = s.out := rfl
@[simp] theorem State.onBly_evlog (f : Belay → Belay) : (s.onBly f).evlog = s.evlog := rfl
@[simp] theorem State.onBly_time (f : Belay → Belay) : (s.onBly f).time = s.time := rfl
@[simp] theorem State.onBly_timeFrac (f : Belay → Belay) : (s.onBly f).timeFrac = s.timeFrac := rfl
@[simp] theorem State.onBly_freeCtr (f : Belay → Belay) : (s.onBly f).freeCtr = s.freeCtr := rfl
@[simp] theorem State.onBly_inj (f : Belay → Belay) : (s.onBly f).inj = s.inj := rfl
@[simp] theorem State.onBly_injUnits (f : Belay → Belay) : (s.onBly f).injUnits = s.injUnits := rfl
@[simp] theorem State.onBly_fwd (f : Belay → Belay) : (s.onBly f).fwd = s.fwd := rfl
@[simp] theorem State.onBly_sys (f : Belay → Belay) : (s.onBly f).sys = s.sys := rfl
@[simp] theorem State.onBly_trs (f : Belay → Belay) : (s.onBly f).trs = s.trs := rfl
@[simp] theorem State.onBly_chs (f : Belay → Belay) : (s.onBly f).chs = s.chs := rfl
@[simp] theorem State.onBly_bnk (f : Belay → Belay) : (s.onBly f).bnk = s.bnk := rfl
@[simp] theorem State.onBly_crn (f : Belay → Belay) : (s.onBly f).crn = s.crn := rfl
@[simp] theorem State.onBly_prt (f : Belay → Belay) : (s.onBly f).prt = s.prt := rfl
@[simp] theorem State.onBly_plb (f : Belay → Belay) : (s.onBly f).plb = s.plb := rfl
@[simp] theorem State.onBly_net (f : Belay → Belay) : (s.onBly f).net = s.net := rfl
@[simp] theorem State.onBly_mlt (f : Belay → Belay) : (s.onBly f).mlt = s.mlt := rfl
@[simp] theorem State.onBly_tyd (f : Belay → Belay) : (s.onBly f).tyd = s.tyd := rfl
@[simp] theorem State.onBly_bly (f : Belay → Belay) : (s.onBly f).bly = f s.bly := rfl
@[simp] theorem State.onBly_svc (f : Belay → Belay) : (s.onBly f).svc = s.svc := rfl

/-! ### `onSvc` -/

@[simp] theorem State.onSvc_pending (f : Services → Services) : (s.onSvc f).pending = s.pending := rfl
@[simp] theorem State.onSvc_mode (f : Services → Services) : (s.onSvc f).mode = s.mode := rfl
@[simp] theorem State.onSvc_idx (f : Services → Services) : (s.onSvc f).idx = s.idx := rfl
@[simp] theorem State.onSvc_regs (f : Services → Services) : (s.onSvc f).regs = s.regs := rfl
@[simp] theorem State.onSvc_mem (f : Services → Services) : (s.onSvc f).mem = s.mem := rfl
@[simp] theorem State.onSvc_flips (f : Services → Services) : (s.onSvc f).flips = s.flips := rfl
@[simp] theorem State.onSvc_frozen (f : Services → Services) : (s.onSvc f).frozen = s.frozen := rfl
@[simp] theorem State.onSvc_out (f : Services → Services) : (s.onSvc f).out = s.out := rfl
@[simp] theorem State.onSvc_evlog (f : Services → Services) : (s.onSvc f).evlog = s.evlog := rfl
@[simp] theorem State.onSvc_time (f : Services → Services) : (s.onSvc f).time = s.time := rfl
@[simp] theorem State.onSvc_timeFrac (f : Services → Services) : (s.onSvc f).timeFrac = s.timeFrac := rfl
@[simp] theorem State.onSvc_freeCtr (f : Services → Services) : (s.onSvc f).freeCtr = s.freeCtr := rfl
@[simp] theorem State.onSvc_inj (f : Services → Services) : (s.onSvc f).inj = s.inj := rfl
@[simp] theorem State.onSvc_injUnits (f : Services → Services) : (s.onSvc f).injUnits = s.injUnits := rfl
@[simp] theorem State.onSvc_fwd (f : Services → Services) : (s.onSvc f).fwd = s.fwd := rfl
@[simp] theorem State.onSvc_sys (f : Services → Services) : (s.onSvc f).sys = s.sys := rfl
@[simp] theorem State.onSvc_trs (f : Services → Services) : (s.onSvc f).trs = s.trs := rfl
@[simp] theorem State.onSvc_chs (f : Services → Services) : (s.onSvc f).chs = s.chs := rfl
@[simp] theorem State.onSvc_bnk (f : Services → Services) : (s.onSvc f).bnk = s.bnk := rfl
@[simp] theorem State.onSvc_crn (f : Services → Services) : (s.onSvc f).crn = s.crn := rfl
@[simp] theorem State.onSvc_prt (f : Services → Services) : (s.onSvc f).prt = s.prt := rfl
@[simp] theorem State.onSvc_plb (f : Services → Services) : (s.onSvc f).plb = s.plb := rfl
@[simp] theorem State.onSvc_net (f : Services → Services) : (s.onSvc f).net = s.net := rfl
@[simp] theorem State.onSvc_mlt (f : Services → Services) : (s.onSvc f).mlt = s.mlt := rfl
@[simp] theorem State.onSvc_tyd (f : Services → Services) : (s.onSvc f).tyd = s.tyd := rfl
@[simp] theorem State.onSvc_bly (f : Services → Services) : (s.onSvc f).bly = s.bly := rfl
@[simp] theorem State.onSvc_svc (f : Services → Services) : (s.onSvc f).svc = f s.svc := rfl

end Sys2Proof.Machine
end

