-- ==== Sys2Proof/Laws/Regs.lean ====
section
/-! SUPPORT. What a write of a register or of a field shows to a read of any register or field (02_register_space.md R6), through
the operations that every block shares: counters, events, error responses. -/

namespace Sys2Proof.Machine

open Sys2Proof

variable {s : State} {a b p n v : Nat} {f g : Fld}

/-! ### The register file keeps its form -/

theorem State.Inv.wr (h : s.Inv) (a : Nat) (v : Reg32) : (s.wr a v).Inv := (State.wr_ok (p := s.pending) (κ := {}) ⟨rfl, h, ⟨nofun, nofun, nofun, nofun, nofun, nofun, nofun, nofun, nofun, nofun, nofun, nofun, nofun, nofun, nofun, nofun, nofun⟩⟩).inv

theorem rising_of_inv (h : s.Inv) : risingFrom none s.regs = true := (regsWf_iff.1 h.2.1).1

/-! ### Registers -/

theorem rd_wr_same (h : s.Inv) (a : Nat) (v : Reg32) : (s.wr a v).rd a = v := mget_mset_same (rising_of_inv h) a v

theorem rd_wr_ne (h : s.Inv) (v : Reg32) (n : b ≠ a) : (s.wr a v).rd b = s.rd b := mget_mset_ne (rising_of_inv h) v n

theorem rd_wr (h : s.Inv) (a b : Nat) (v : Reg32) : (s.wr a v).rd b = if b = a then v else s.rd b := by
  split
  · subst b
    exact rd_wr_same h a v
  · exact rd_wr_ne h v ‹_›

end Sys2Proof.Machine
end

