-- ==== Sys2Proof/WellFormed.lean ====
section
/-! DEFINITION. Well-formed commands: the bounds on operands whose types are wider than what the manual gives them. -/

namespace Sys2Proof

/-- The identity of a bus master (02_register_space.md R40). -/
def isMaster (m : Nat) : Bool := decide (m ≤ 7) || (decide (0x10 ≤ m) && decide (m ≤ 0x20))

/-- An access: an address of BAR0 and at least one byte, a burst being at most 16 words of 16 bytes (R24, R41). -/
def accessOk (m addr : Nat) (data : List Byte) : Bool :=
  isMaster m && decide (addr < 2 ^ 30) && decide (0 < data.length) && decide (data.length ≤ 256)

/-- The address of a stored word (R7, R421): byte 0 of a slot. -/
def wordAddrOk (a : Nat) : Bool := a % 16 == 0 && decide (a < 0x18000000)

/-- The number of a gain of the fabric (06_strips_and_gain.md R124): a strip or an edge. -/
def gainOk : GainKind → Nat → Bool
  | .trim, i => decide (i < 3584)
  | .fader, i => decide (i < 3584)
  | .edge, i => decide (i < 262144)

/-- A two-byte entry of a presence frame without its PRESENT bit (16_belay_twin.md R403): a source stream or an insert return. -/
def entryOk (e : Nat) : Bool := decide (e < 1536) || (decide (8192 ≤ e) && decide (e < 8192 + 3584))

/-- Bytes of a management SPI frame that the engine looks at: an opcode, an address, a count and at most 256 bytes follow no
bound (02_register_space.md R43), but the bits after the last whole byte are fewer than 8. -/
def spiOk (extraBits : Nat) : Bool := decide (extraBits < 8)

/-- The check of a command. -/
def wellFormed : Instr → Bool
  | .regWrite m _ _ => isMaster m
  | .rcRead m _ => isMaster m
  | .wordWrite m a d _ _ => accessOk m a d
  | .trussLiveWrite m a d => accessOk m a d
  | .aliasSetWrite m a d => accessOk m a d
  | .aliasClearWrite m a d => accessOk m a d
  | .writeFrame m a d _ => accessOk m a d
  | .eccWriteback a => wordAddrOk a
  | .scrubAccess a _ => wordAddrOk a
  | .zcForced k i => gainOk k i
  | .mspiWrite _ x _ => spiOk x
  | .presence _ _ es => es.all (fun e => entryOk e.1) && decide (es.length ≤ 255)
  | .patchReq _ es => es.all entryOk && decide (es.length ≤ 255)
  | .patch _ es => es.all fun e => entryOk e.1
  | .decision u _ _ _ => decide (1 ≤ u) && decide (u ≤ 6)
  | .snap r a ws _ => decide (r ≤ 4) && decide (a < 2 ^ 32) && decide (ws.length ≤ 112)
  | .segmentRefresh n => decide (n < 65536)
  | .pgFence m _ _ | .pgInj m _ _ | .softReset m _ _ => isMaster m
  | .warmReset m _ | .remap m _ | .blow m _ | .sense m _ | .checkStart m _ | .crnDoorbell m _ | .crnStoreCtrl m _
  | .chsReset m _ | .loopOpen m _ | .plbSynFreq m _ | .rate m _ | .hostSet m _ | .rearm m _ | .diagCmdStart m _
  | .mount m _ | .resignWrite m _ | .pairPers m _ | .bootGo m _ | .wdtKick m _ | .wdtCtrl m _ | .modeReqConfig m _
  | .modeReqActive m _ | .modeReqStandby m _ | .modeReqService m _ | .pwrIslReq m _ => isMaster m
  | .chsDoorbell m _ _ | .memBankState m _ _ | .arm m _ _ | .stop m _ _ | .clear m _ _ | .impedanceSweepStart m _ _
  | .go m _ _ | .playbackStop m _ _ | .laneTest m _ _ => isMaster m
  | .csLoad m _ | .usLoad m _ | .timeRead m _ => isMaster m
  | .tickLatchRead m => isMaster m
  | _ => true

end Sys2Proof
end

