-- ==== Sys2Proof/Tests/Slice0.lean ====
section
/-! SUPPORT. Tests: the checks of `wellFormed`, the manual's worked examples, and for every statement a state and operands
that meet its hypotheses. -/

set_option Elab.async false

/-! ### Ill-formed commands are refused, one for each check of `wellFormed` -/

namespace Sys2Proof.Tests
open Sys2Proof.Machine

theorem test_wf_master : wellFormed (.regWrite 8 0 0) = false ∧ wellFormed (.regWrite 0x21 0 0) = false := by decide
theorem test_wf_access : wellFormed (.wordWrite 0 0x10000000 [] none 0) = false ∧
    wellFormed (.wordWrite 0 0x40000000 [1] none 0) = false ∧ wellFormed (.wordWrite 9 0x10000000 [1] none 0) = false := by decide
theorem test_wf_wordAddr : wellFormed (.scrubAccess 0x10000008 0) = false ∧ wellFormed (.eccWriteback 0x18000000) = false := by decide
theorem test_wf_gain : wellFormed (.zcForced .fader 3584) = false ∧ wellFormed (.zcForced .edge 262144) = false := by decide
theorem test_wf_spi : wellFormed (.mspiWrite [] 8 none) = false := by decide
theorem test_wf_entries : wellFormed (.presence 0 true [(1536, true)]) = false ∧
    wellFormed (.patchReq 0 [11776]) = false ∧ wellFormed (.patch 0 [(1536, 0)]) = false := by decide
theorem test_wf_unit : wellFormed (.decision 7 0 0 0) = false ∧ wellFormed (.snap 5 0 [] none) = false ∧
    wellFormed (.segmentRefresh 65536) = false := by decide

/-! ### Worked examples of the manual -/

/-- The words and 24-bit codes of the first worked example of 03_arithmetic.md. -/
theorem test_outbound_codes :
    (outCode 24 0x000000018000000000).1 = 2 ∧ (outCode 24 0x000000028000000000).1 = 2 ∧
    (outCode 24 0xFFFFFFFE8000000000).1 = -2 ∧ outCode 24 0x008000000000000000 = (0x7FFFFF, true) ∧
    outCode 24 0xFF8000000000000000 = (-0x7FFFFF, true) ∧ (outCode 16 (inCode 24 0x123456)).1 = 0x1234 := by decide +kernel

/-- A point that holds 0.25 with g = 32 loses a sample, then takes one with g = 22 (03_arithmetic.md, concealment). -/
def concealing (g : Word) : State := (State.reset.setWord (concAddr 551 0) (2 ^ 61)).setWord (concAddr 551 1) g
theorem test_concealed_sample : ((concealing 32).conceal 551 none 16).1 = 31 * 2 ^ 56 := by decide +kernel
theorem test_resumed_sample : ((concealing 22).conceal 551 (some (2 ^ 61)) 16).1 = 23 * 2 ^ 56 := by decide +kernel

/-- 13 lanes at 96 kHz (05_truss_schedule.md, load shedding): U is 592,447. -/
theorem test_usable_cycles : usable 13 96000 = 592447 := by decide

/-- The check byte of +1.0, and its copy with bit 0 and with bits 0 and 1 wrong (10_memory_banks.md). -/
theorem test_check_byte : checkByte (2 ^ 63) = 0x57 ∧ checkByte (2 ^ 62) = 0x4F ∧ checkByte 0 = 0 := by decide +kernel
theorem test_ecc_read : eccRead 1 = ⟨some 0, true, 0x07, 0⟩ ∧ eccRead 3 = ⟨none, false, 0x0C, 0x7F⟩ := by decide +kernel

/-- The MACQ at 0x008 of the biquad (09_chisel_instructions.md): 0x81_0048_C007 in bits 71 to 32. -/
theorem test_macq_fields : aop (0x810048C007 * 2 ^ 32) = 0x20 ∧ fEN (0x810048C007 * 2 ^ 32) = 7 ∧
    wbits (0x810048C007 * 2 ^ 32) 65 64 = 1 := by decide +kernel

end Sys2Proof.Tests

/-! ### States and operands that meet the statements' hypotheses -/

namespace Sys2Proof.Tests
open Sys2Proof.Machine
/-- The state an outcome goes on in, if it does. -/
def nextOf : Host.Outcome State Fault Refusal → Option State
  | .next t => some t
  | _ => none
/-- The state an outcome goes on in; the reset state where it stops. -/
def toNext (o : Host.Outcome State Fault Refusal) : State := (nextOf o).getD State.reset
def errorOf {α : Type} : Except Nat α → Option Nat
  | .error e => some e
  | .ok _ => none
end Sys2Proof.Tests

namespace Sys2Proof.Tests.W1
open Sys2Proof.Machine

def run (m : Mode) (fs : List (Fld × Nat) := []) : State := fs.foldl (fun s e => s.setFld e.1 e.2) { State.reset with mode := m }
def tick0 : Tick := ⟨0, [], none, [], [], [], [], [], [], [], none⟩
def wOpen : State := (run .config).onTrs fun t => { t with ticks := [tick0] }
def wArrived2 : State := (run .config).onTrs fun t => { t with ticks := [{ tick0 with arr := [(1060, ⟨some 1, 2⟩)] }] }
def item0 : Item := ⟨.strip 0, 0, 0, 0, false⟩
def wReady : State := wOpen.onTrs fun t => { t with ready := [item0] }
def wSlot (k : ItemKind) : State := wOpen.onTrs fun t => { t with slots := [(1, { item0 with kind := k })] }
def wStaged : State := (run .active).onTrs fun t => { t with staging := [(stageKey 1058 4, ⟨9, 4⟩)] }
def v1_1 : State := run .config
def v1_2 := { tick0 with arr := [(1060, ⟨some 1, 2⟩)] }
def v1_4 : State := wSlot (.strip 3)
def v1_5 := { item0 with kind := .strip 3 }
def v1_6 : State := wSlot (.head 3)
def v1_7 := { item0 with kind := .head 3 }
def v1_8 : State := run .active
def v1_9 : State := (run .active).wr PWR_ISL_STAT 0
def s1 (k : ItemKind) : State := (wSlot k).onTrs fun u => { u with slots := [], now := 9 }
def done1 : Done := match ((s1 (.strip 3)).runStrip ((s1 (.strip 3)).work tick0).f tick0 (.strip 3) 9).1 with | some d => d | none => ⟨0, none, 0, false⟩
def v1_10 := ((s1 (.strip 3)).runStrip ((s1 (.strip 3)).work tick0).f tick0 (.strip 3) 9).2
def wPeerLost : State := run .standby [(BLY_STAT_PEER_FAILED,1),(BLY_STAT_EVER_SYNCED,1)]
def v1_12 : State := toNext (exec (.takeover 4) wPeerLost)
def setWords (l : List (Nat × Word)) (s : State) : State := l.foldl (fun s e => s.setWord e.1 e.2) s
def graph0 : List (Nat × Word) := [(descAddr 0 2048 0, 2^63), (sinkAddr 0 1058, 2^63)]
def wDriven : State := setWords graph0 (run .active)
def graph1 : List (Nat × Word) := [(descAddr 0 0 0, 2^63), (descAddr 0 2048 0, 2^63), (edgeAddr 0 0 0, 2^63 + 2048)]
def wBatch : State := setWords graph1 (wSlot (.batch 0 0 0))
def v1_13 := { item0 with kind := .batch 0 0 0 }
def wGains : State := (run .active).onTrs fun t => { t with steps := [(gainKey .fader 5, ⟨1, 0, 0⟩)], arb := [(arbKey 3 2, ⟨0, 1, 1, true⟩)], srcRamp := [(4, ⟨0, none⟩)], sinkRamp := [(6, ⟨0, none⟩)] }
def late (n : Nat) (s : State) : State := { s with idx := n }
def v1_14 : State := late 32 wGains
def v1_15 : State := late 31 wGains
def wChange : State := (late 5 (run .active)).onTrs fun t => { t with ticks := [{ tick0 with idx := 5 }], chg := [(7, ⟨1, 2, some 4, none, false, false⟩), (9, ⟨1, 2, some 0, some 5, true, false⟩)], stopping := [11] }
def wXfade : State := (run .active).onTrs fun t => { t with xf := some ⟨0, 0, false, [[1], [2]], [], [], [], 1⟩ }
def v1_16 : State := (wSlot (.strip 3)).setFld TRS_FAULT_INFO_VALID 1
def wJoin : State := (run .active).onTrs fun t => { t with joinFor := some 3, laneChange := [(12, 0)] }
def v1_17 : State := wBatch.onTrs fun t => {t with checkWait := true, check := some 1}
def v1_18 : State := toNext (exec .checkDone (wBatch.onTrs fun t => {t with checkWait := true, check := some 1}))
/-- Lane 0's slot 1 empties at cycle 9. -/
def freed (s : State) : State := s.onTrs fun u => { u with slots := mdel u.slots 1, now := max u.now 9 }
def xfade0 : Xfade := ⟨0, 0, false, [[1], [2]], [], [], [], 1⟩

/-- A state and operands for every line of `Obligations.StepRunsFront`. -/
theorem witness_StepRunsFront :
    v1_1.pending = [] := by decide +kernel

/-- A state and operands for every line of `Obligations.InvariantKept`. -/
theorem witness_InvariantKept :
    v1_1.Inv ∧ nextOf (step v1_1) = some (run Mode.config) := by decide +kernel

/-- A state and operands for every line of `Obligations.OnlyItsParts`. -/
theorem witness_OnlyItsParts :
    v1_1.Inv ∧ nextOf (exec Instr.checkBegin v1_1) = some (run Mode.config) ∧
    (¬Part.mem ∈ mayChange Instr.checkBegin) := by decide +kernel

/-- A state and operands for every line of `Obligations.SamplesComeIn`. -/
theorem witness_SamplesComeIn :
    (wOpen.Inv ∧ wOpen.mode ≠ Mode.reset ∧ wOpen.bly.joining = false ∧ wOpen.fwd = [] ∧
     wOpen.producing 1060 0 = true ∧ wOpen.follows 0 = false ∧ wOpen.leads 0 = false ∧
     wOpen.tick 0 = some tick0 ∧ tick0.dl = none ∧ mfind tick0.arr 1060 = none ∧
     wOpen.tick wOpen.idx = some tick0 ∧ wOpen.obeys wOpen.idx = false ∧ wOpen.leads wOpen.idx = false) ∧
    (v1_1.producing 1060 0 = true ∧ v1_1.follows 0 = false ∧ v1_1.leads 0 = false ∧
     (∀ k ∈ v1_1.tick 0, k.dl.isSome = true)) ∧
    (wArrived2.producing 1060 0 = true ∧ wArrived2.follows 0 = false ∧ wArrived2.leads 0 = false ∧
     wArrived2.tick 0 = some v1_2 ∧ v1_2.dl = none ∧ (mfind v1_2.arr 1060).isSome = true) ∧
    (wOpen.producing 3 0 = false) := by
  refine ⟨?_, ?_, ?_, ?_⟩ <;> decide +kernel

/-- A state and operands for every line of `Obligations.ItemsRun`. -/
theorem witness_ItemsRun :
    ((v1_4.laneWorks 0 = false ∨ (mfind v1_4.trs.slots (4 * 0 + 1)).isSome = true ∨ pickItem 1 v1_4.trs.ready = none) ∧
     mfind v1_4.trs.slots (4 * 0 + 1) = some v1_5 ∧ v1_5.reissued = false ∧
     v1_4.tick v1_5.idx = some tick0 ∧ (v1_5.kind = ItemKind.strip 3 ∨ v1_5.kind = ItemKind.tail 3) ∧
     isOutput 3 = false ∧
     (freed v1_4).runStrip ((freed v1_4).work tick0).f tick0 v1_5.kind 9 = (some done1, v1_10)) ∧
    (mfind wReady.trs.slots (4 * 0 + 1) = none ∧ pickItem 1 wReady.trs.ready = some item0 ∧
     wReady.laneWorks 0 = true) ∧
    (wStaged.powered 21 = true ∧ wStaged.staged (1056 + 2) 4 = some 9) ∧
    (v1_8.powered 21 = true ∧ v1_8.staged (1056 + 2) 4 = none ∧
     (v1_8.fabAt 4).sinkDriven (1056 + 2) 4 = false) ∧
    (v1_9.powered 21 = false) ∧
    (mfind v1_6.trs.slots (4 * 0 + 1) = some v1_7 ∧ v1_7.reissued = false ∧
     v1_6.tick v1_7.idx = some tick0 ∧ v1_7.kind = ItemKind.head 3 ∧
     ((freed v1_6).runHead ((freed v1_6).work tick0).f tick0 3 9).fst.clip = false) ∧
    (wDriven.powered 21 = true ∧ wDriven.staged (1056 + 2) 4 = none ∧
     (wDriven.fabAt 4).sinkDriven (1056 + 2) 4 = true) ∧
    (mfind wBatch.trs.slots (4 * 0 + 1) = some v1_13 ∧ v1_13.reissued = false ∧
     wBatch.tick v1_13.idx = some tick0 ∧ v1_13.kind = ItemKind.batch 0 0 0 ∧
     (List.find? (fun b => b.fst == 0 && b.snd.headD 0 == 0) (batches ((freed wBatch).work tick0).es 0) = some (0, [0]))) := by
  refine ⟨?_, ?_, ?_, ?_, ?_, ?_, ?_, ?_⟩ <;> decide +kernel

/-- A state and operands for every line of `Obligations.ModeGraph`. -/
theorem witness_ModeGraph :
    wPeerLost.Inv ∧ nextOf (exec (Instr.takeover 4) wPeerLost) = some v1_12 ∧ wPeerLost.bly.hold = false ∧
    v1_12.mode ≠ wPeerLost.mode ∧ wPeerLost.mode = Mode.standby ∧ v1_12.mode = Mode.active := by decide +kernel

/-- A state and operands for every line of `Obligations.GainChangeoverBatch`. -/
theorem witness_GainChangeoverBatch :
    ((mfind wGains.trs.steps (gainKey GainKind.fader 5) = some { applied := 1, start := 0, deadline := 0 : GainStep }) ∧
     ({ applied := 1, start := 0, deadline := 0 : GainStep }.deadline ≤ wGains.idx) ∧
     (wGains.level 3 2).active = true ∧ (wGains.level 3 2).hold = 0 ∧
     (∀ k ∈ wGains.tick wGains.idx, mfind k.heads (1536 + 3) = none ∧ mfind k.outs (1536 + 3) = none)) ∧
    ((mfind v1_14.trs.srcRamp 4 = some { flip := 0, old := none : SrcRamp }) ∧
     ({ flip := 0, old := none : SrcRamp }.flip + 32 ≤ v1_14.idx)) ∧
    ((mfind v1_15.trs.sinkRamp 6 = some { flip := 0, old := none : SinkRamp }) ∧
     ({ flip := 0, old := none : SinkRamp }.flip + 31 ≤ v1_15.idx)) ∧
    ((mfind wChange.trs.chg 7 = some { old0 := 1, old3 := 2, down := some 4, fillEnd := none, wrote := false, filled := false : Changeover }) ∧
     4 < wChange.idx ∧ mfind wChange.trs.steps (faderKey 7) = none) ∧
    ((mfind wChange.trs.chg 9 = some { old0 := 1, old3 := 2, down := some 0, fillEnd := some 5, wrote := true, filled := false : Changeover }) ∧
     (5 ≤ wChange.idx ∨ 5 = wChange.idx + 1 ∧ wChange.trs.ticks.any wChange.unfinished = false)) ∧
    (11 ∈ wChange.trs.stopping ∧ (∀ (d : LiveEdge), d ∈ wChange.allEdges wChange.idx → d.edge.src ≠ 11) ∧
     (isOutput 11 = true → wChange.faderDown 11 = true)) ∧
    (wXfade.trs.xf = some xfade0 ∧
     (xfade0.flip + xfade0.cur * xfade0.win ≤ wXfade.idx ∨ wXfade.idx + 1 = xfade0.flip + xfade0.cur * xfade0.win ∧ wXfade.trs.ticks.any wXfade.unfinished = false)) := by
  refine ⟨?_, ?_, ?_, ?_, ?_, ?_, ?_⟩ <;> decide +kernel

/-- A state and operands for every line of `Obligations.LanesRetireAndJoin`. -/
theorem witness_LanesRetireAndJoin :
    (wJoin.Inv ∧ wJoin.laneWorks 3 = true ∧ wJoin.fld TRS_FAULT_INFO_VALID = 0 ∧ wJoin.trs.joinFor = some 3) ∧
    (v1_16.Inv ∧ v1_16.laneWorks 0 = true ∧ v1_16.fld TRS_FAULT_INFO_VALID = 1) ∧
    (v1_8.Inv ∧ v1_8.laneWorks 16 = false) ∧
    ((List.filter (fun p => idxLe p.snd wJoin.idx) wJoin.trs.laneChange).getLast? = some (12, 0)) := by
  refine ⟨?_, ?_, ?_, ?_⟩ <;> decide +kernel

/-- A state and operands for every line of `Obligations.GraphCheck`. -/
theorem witness_GraphCheck :
    v1_17.Inv ∧ v1_17.takesWrite 0 TRS_CHECK_CTRL 3 ∧ Nat.testBit 3 0 = true ∧
    v1_17.fld TRS_CHECK_CTRL_START = 0 ∧ v1_17.trs.checkWait = true ∧ v1_17.staging = false ∧
    v1_17.trs.check = some 1 ∧ nextOf (exec Instr.checkDone v1_17) = some v1_18 := by decide +kernel

end Sys2Proof.Tests.W1

namespace Sys2Proof.Tests.W2
open Sys2Proof.Machine

def run (m : Mode) (fs : List (Fld × Nat) := []) : State := fs.foldl (fun s e => s.setFld e.1 e.2) { State.reset with mode := m }
def setWords (l : List (Nat × Word)) (s : State) : State := l.foldl (fun s e => s.setWord e.1 e.2) s
def v2_1 : State := run .config
def v2_2 : State := run .reset
def v2_3 : State := (run .config).wr 0x1048 77
def v2_5 : State := (run .config).wr 0x2010 7
def v2_6 : State := run .active
def wWdt (fs : List (Fld × Nat)) : State := run .active ((PWR_WDT_CTRL_EN, 1) :: fs)
def v2_7 : State := wWdt []
def v2_8 : State := wWdt [(⟨0x2014,4,4⟩,1),(⟨0x2018,5,0⟩,63)]
def v2_9 : State := wWdt [(⟨0x2014,4,4⟩,1),(⟨0x2018,5,0⟩,63),(⟨0x80C+16*63,0,0⟩,0)]
def v2_10 : State := (run .config).wr 0xC04 0x80000000
def v2_11 : State := run .config [(MTX_ERR_INFO_VALID,1)]
def v2_12 : State := (run .config).wr PWR_ISL_STAT 0
def warm : State := setWords [(0x10000000, 5), (0x3C000000, 6), (0x40000, 7)] (run .active [(PWR_WDT_CTRL_EN, 1), (SYS_CTRL_REMAP, 1)])
def v2_13 : State := (run .active).onSys fun y => { y with descent := some none }
def asks (m : Mode) (t : Nat) (fs : List (Fld × Nat)) : State := run m ([(PWR_MODE_STAT_BUSY,1),(PWR_MODE_STAT_TARGET,t)] ++ fs)
def v2_14 : State := run .service
def v2_15 : State := run .standby
def v2_16 : State := asks .config 3 []
def v2_17 : State := asks .config 3 [(BLY_STAT_ACT_IN,1)]
def v2_18 : State := asks .config 5 [(BLY_STAT_ACT_IN,1)]
def v2_19 : State := asks .service 2 [(BLY_STAT_ACT_IN,1)]
def v2_20 : State := run .config [(bankField 127, 0)]
def exit0 : ResetExit := ⟨true, 1, false, []⟩
def v2_21 : State := run .selftest [(SYS_CTRL_REMAP,1)] |>.onSys fun y => {y with booted := true}
def v2_22 : State := run .selftest [(PWR_STRAP_BOOT_SRC,1)]
def falls (m : Mode) (d : Option (Option Nat)) (fs : List (Fld × Nat)) : State := (run m fs).onSys fun y => { y with descent := d }
def v2_24 : State := falls .config (some none) [(PWR_SUPPLY_STAT_IN_RANGE,0x7F)]
def v2_26 : State := falls .active (some none) [(BLY_STAT_HB_OK,1)]
def v2_27 : State := (run .active).onBly fun b => {b with hold := true}
def v2_28 : State := (run .active).onSys fun y => {y with islands := some 0x1FFFFFE}
def v2_30 : State := (run .config).wr FUS_ADDR 0xE00
def v2_31 : State := (run .config).wr FUS_ADDR 0
def blowing (f : Fld) : State := (run .config [(f,1)]).onSys fun y => {y with blowAddr := 0xE00}
def v2_32 : State := blowing FUS_STAT_BLOW_BUSY
def v2_33 : State := blowing FUS_STAT_SENSE_BUSY
def waits (f : Nat × Forwarded) (m : Mode := .config) : State := { run m with fwd := [f] }
def v2_34 : State := waits (3, .reg 0 PWR_WDT_CTRL 1)
def pairA : State := run .active [(BLY_STAT_LOCKSTEP,1)]
def v2_35 : State := waits (0, .reg 0 0x100084 1)
def v2_36 : State := run .config [(⟨0x2008,1,1⟩,1)]
def v2_37 : State := (run .config [(⟨0x10008,2,2⟩,1)]).freeze 0x10
def v2_38 : State := (run .active).wr FUS_ADDR 0xE00

/-- A state and operands for every line of `Obligations.RegisterRowsWrite`. -/
theorem witness_RegisterRowsWrite :
    (v2_1.rowWrite (Instr.wdtCtrl 0 5) = some (0, PWR_WDT_CTRL, 5) ∧
     (pageId (PWR_WDT_CTRL / 4096)).isSome = true ∧ PWR_WDT_CTRL % 4 = 0 ∧ PWR_WDT_CTRL < 16777216 ∧
     v2_1.mode ≠ Mode.reset ∧ v2_1.regMisuse 0 PWR_WDT_CTRL 5 = false ∧
     (¬v2_1.sendsOn 0 (16777216 + PWR_WDT_CTRL) (Forwarded.reg 0 PWR_WDT_CTRL 5)) ∧
     v2_1.inTurn v2_1.fwd (v2_1.idx, Forwarded.reg 0 PWR_WDT_CTRL 5) = true) ∧
    (v2_2.mode = Mode.reset ∧ v2_2.rowWrite (Instr.wdtCtrl 0 5) = some (0, PWR_WDT_CTRL, 5)) ∧
    (v2_34.rowWrite (Instr.wdtCtrl 0 5) = some (0, PWR_WDT_CTRL, 5) ∧
     (pageId (PWR_WDT_CTRL / 4096)).isSome = true ∧ PWR_WDT_CTRL % 4 = 0 ∧ PWR_WDT_CTRL < 16777216 ∧
     v2_34.mode ≠ Mode.reset ∧ v2_34.regMisuse 0 PWR_WDT_CTRL 5 = false ∧
     (¬v2_34.sendsOn 0 (16777216 + PWR_WDT_CTRL) (Forwarded.reg 0 PWR_WDT_CTRL 5)) ∧
     v2_34.inTurn v2_34.fwd (v2_34.idx, Forwarded.reg 0 PWR_WDT_CTRL 5) = false) ∧
    (pairA.rowWrite (Instr.regWrite 0 69696 5) = some (0, 69696, 5) ∧
     (pageId (69696 / 4096)).isSome = true ∧ pairA.mode ≠ Mode.reset ∧ pairA.regMisuse 0 69696 5 = false ∧
     pairA.sendsOn 0 (16777216 + 69696) (Forwarded.reg 0 69696 5)) ∧
    (v2_1.rowWrite (Instr.regWrite 0 (BitVec.ofNat 24 TRS_TABLE_SEL) 5) = some (0, TRS_TABLE_SEL, 5) ∧
     (pageId (TRS_TABLE_SEL / 4096)).isSome = true ∧ TRS_TABLE_SEL % 4 = 0 ∧ TRS_TABLE_SEL < 16777216 ∧
     v2_1.mode ≠ Mode.reset ∧ v2_1.regMisuse 0 TRS_TABLE_SEL 5 = true) := by
  refine ⟨?_, ?_, ?_, ?_, ?_⟩ <;> decide +kernel

/-- A state and operands for every line of `Obligations.RegistersHold`. -/
theorem witness_RegistersHold :
    (v2_1.takesWrite 0 8280 4294967295 ∧ v2_1.Inv) ∧
    (v2_3.Inv ∧ v2_3.mode ≠ Mode.reset ∧ v2_3.inTurn v2_3.fwd (v2_3.idx, Forwarded.readReg 0 4168) = true ∧
     v2_3.pageGated (4168 / 4096) = false ∧ v2_3.frozenPage (4168 / 4096) = none) ∧
    (v2_35.Inv ∧ v2_35.mode ≠ Mode.reset ∧
     v2_35.inTurn v2_35.fwd (v2_35.idx, Forwarded.readReg 0 1048708) = false) := by
  refine ⟨?_, ?_, ?_⟩ <;> decide +kernel

/-- A state and operands for every line of `Obligations.PageHeader`. -/
theorem witness_PageHeader :
    ((pageId 2).isSome = true ∧ (fun o => v2_5.takesWrite 0 (4096 * 2 + o) 2) 16 ∧
     (fun o => v2_5.takesWrite 0 (4096 * 2 + o) 2) 24 ∧ (fun o => v2_5.takesWrite 0 (4096 * 2 + o) 2) 36 ∧
     (fun o => v2_5.takesWrite 0 (4096 * 2 + o) 2) 32) ∧
    ((pageId 2).isSome = true ∧ v2_36.mode ≠ Mode.reset ∧ v2_36.softBusy 2 = true ∧
     v2_36.pageGated 2 = false ∧
     v2_36.inTurn v2_36.fwd (v2_36.idx, Forwarded.reg 0 (4096 * 2 + 36) 2) = true) ∧
    ((pageId 2).isSome = true ∧ v2_36.mode ≠ Mode.reset ∧ v2_36.softBusy 2 = true ∧
     v2_36.pageGated 2 = false ∧
     v2_36.inTurn v2_36.fwd (v2_36.idx, Forwarded.reg 0 (4096 * 2 + 32) 2) = true) := by
  refine ⟨?_, ?_, ?_⟩ <;> decide +kernel

/-- A state and operands for every line of `Obligations.SoftResetAndInject`. -/
theorem witness_SoftResetAndInject :
    (v2_1.Inv ∧ v2_1.takesWrite 0 (4096 * 16 + 8) 2 ∧
     (v2_1.fld { off := 4096 * 16 + 8, hi := 2, lo := 2 : Fld } = 0) ∧ Nat.testBit 2 2 = false ∧
     Nat.testBit 2 1 = true ∧ v2_1.cfgMode = true ∧
     v2_1.takesWrite 0 (4096 * 16 + 28) (BitVec.ofNat 32 (2 ^ 2)) ∧ (evtMask 16).testBit 2 = true) ∧
    (v2_6.Inv ∧ v2_6.takesWrite 0 (4096 * 16 + 8) 2 ∧
     (v2_6.fld { off := 4096 * 16 + 8, hi := 2, lo := 2 : Fld } = 0) ∧ Nat.testBit 2 2 = false ∧
     Nat.testBit 2 1 = true ∧ v2_6.cfgMode = false ∧
     v2_6.takesWrite 0 (4096 * 16 + 28) (BitVec.ofNat 32 (2 ^ 2)) ∧ v2_6.mode = Mode.active) ∧
    (v2_1.Inv ∧ v2_1.takesWrite 0 (4096 * 16 + 8) 4 ∧ Nat.testBit 4 1 = false ∧
     (v2_1.fld { off := 4096 * 16 + 8, hi := 2, lo := 2 : Fld } = 0) ∧ Nat.testBit 4 2 = true ∧
     enableWrites 16 = false ∧ v2_1.takesWrite 0 (4096 * 16 + 28) (BitVec.ofNat 32 (2 ^ 9)) ∧
     v2_1.cfgMode = true ∧ (evtMask 16).testBit 9 = false) ∧
    (v2_37.Inv ∧ v2_37.takesWrite 0 (4096 * 16 + 8) 0 ∧ Nat.testBit 0 1 = false ∧
     (v2_37.fld { off := 4096 * 16 + 8, hi := 2, lo := 2 : Fld } = 1) ∧ Nat.testBit 0 2 = false ∧
     enableWrites 16 = false) := by
  refine ⟨?_, ?_, ?_, ?_⟩ <;> decide +kernel

/-- A state and operands for every line of `Obligations.EventsSend`. -/
theorem witness_EventsSend :
    (v2_7.Inv ∧ v2_7.wdtRuns = true ∧ ((v2_7.rd 8208).getLsbD 4 = true ∨ (v2_7.rd 8212).getLsbD 4 = false)) ∧
    (v2_10.Inv ∧ v2_10.takesWrite 0 (2060 + 16 * 63) 0 ∧ v2_10.vectorWaits 63 = true) ∧
    (v2_8.Inv ∧ v2_8.wdtRuns = true ∧ (v2_8.rd 8208).getLsbD 4 = false ∧ (v2_8.rd 8212).getLsbD 4 = true ∧
     BitVec.getLsbD (v2_8.rd (2060 + 16 * bitsNat (BitVec.toNat (v2_8.rd 8216)) 5 0)) 0 = true) ∧
    (v2_9.Inv ∧ v2_9.wdtRuns = true ∧ (v2_9.rd 8208).getLsbD 4 = false ∧ (v2_9.rd 8212).getLsbD 4 = true ∧
     BitVec.getLsbD (v2_9.rd (2060 + 16 * bitsNat (BitVec.toNat (v2_9.rd 8216)) 5 0)) 0 = false) := by
  refine ⟨?_, ?_, ?_, ?_⟩ <;> decide +kernel

/-- A state and operands for every line of `Obligations.AccessErrors`. -/
theorem witness_AccessErrors :
    (v2_1.mode ≠ Mode.reset ∧
     ((fun a d => ¬v2_1.sendsOn 0 a (asForwarded 0 a d) ∧ v2_1.inTurn v2_1.fwd (v2_1.idx, asForwarded 0 a d) = true) (16777216 + 5242880) (leBytes 4 5)) ∧
     (pageId (5242880 / 4096)).isNone = true ∧ v2_1.Inv ∧ v2_1.fld MTX_ERR_INFO_VALID = 0) ∧
    (v2_11.mode ≠ Mode.reset ∧
     ((fun a d => ¬v2_11.sendsOn 0 a (asForwarded 0 a d) ∧ v2_11.inTurn v2_11.fwd (v2_11.idx, asForwarded 0 a d) = true) (16777216 + 8277) (leBytes 4 5)) ∧
     (pageId (8277 / 4096)).isSome = true ∧ v2_11.Inv ∧ v2_11.fld MTX_ERR_INFO_VALID = 1) ∧
    (v2_12.mode ≠ Mode.reset ∧
     ((fun a d => ¬v2_12.sendsOn 0 a (asForwarded 0 a d) ∧ v2_12.inTurn v2_12.fwd (v2_12.idx, asForwarded 0 a d) = true) (16777216 + 852036) (leBytes 4 5)) ∧
     (pageId (852036 / 4096)).isSome = true ∧ v2_12.pageGated (852036 / 4096) = true) ∧
    (v2_20.mode ≠ Mode.reset ∧ slotShape 402653168 (List.replicate 16 0).length = true ∧
     402653168 % 16 + (List.replicate 16 0).length ≤ 16 ∧
     ((fun a d => ¬v2_20.sendsOn 0 a (asForwarded 0 a d) ∧ v2_20.inTurn v2_20.fwd (v2_20.idx, asForwarded 0 a d) = true) 402653168 (List.replicate 16 0)) ∧
     (v2_20.waited 0 402653168 3).misuse 0 402653168 (List.replicate 16 0) = false ∧
     masterReaches 0 (402653168 / 16 * 16) (Slot.bank (402653168 / 16 * 16)) = true ∧
     v2_20.bankState (bankOf 402653168) ≠ 2) ∧
    (v2_1.mode ≠ Mode.reset ∧ slotShape 536870912 (List.replicate 16 0).length = true ∧
     ((fun a d => ¬v2_1.sendsOn 6 a (asForwarded 6 a d) ∧ v2_1.inTurn v2_1.fwd (v2_1.idx, asForwarded 6 a d) = true) 536870912 (List.replicate 16 0))) := by
  refine ⟨?_, ?_, ?_, ?_, ?_⟩ <;> decide +kernel

/-- A state and operands for every line of `Obligations.ResetsAndWatchdog`. -/
theorem witness_ResetsAndWatchdog :
    (warm.Inv ∧ warm.descending = false ∧ warm.wdtRuns = true ∧ warm.takesWrite 0 PWR_WDT_KICK 2147483651 ∧
     warm.takesWrite 0 PWR_WDT_CTRL 2147483651 ∧ warm.takesWrite 0 SYS_CTRL 2147483651 ∧
     (Nat.testBit 2147483651 1 = true → bitsNat 2147483651 15 8 = 167 → warm.descending = true) ∧
     (Nat.testBit 2147483651 0 = true ∨ warm.fld SYS_CTRL_REMAP = 1) ∧ warmKeeps 141312 = true) ∧
    (warm.Inv ∧ warm.descending = false ∧ warm.takesWrite 0 SYS_CTRL 42754 ∧ Nat.testBit 42754 1 = true ∧
     bitsNat 42754 15 8 = 167) ∧
    (v2_13.Inv ∧ v2_13.wdtRuns = false ∧ v2_13.descending = true) := by
  refine ⟨?_, ?_, ?_⟩ <;> decide +kernel

/-- A state and operands for every line of `Obligations.ModeRequests`. -/
theorem witness_ModeRequests :
    (v2_16.takesWrite 0 PWR_MODE_REQ 3 ∧ Nat.testBit 3 8 = false ∧ v2_16.fld PWR_MODE_STAT_BUSY = 1 ∧
     v2_16.Inv ∧ v2_16.bly.hold = false ∧ v2_16.mode = Mode.config ∧ v2_16.fld PWR_MODE_STAT_TARGET = 3 ∧
     v2_16.fld BLY_STAT_ACT_IN = 0) ∧
    (v2_1.takesWrite 0 PWR_MODE_REQ 259 ∧ Nat.testBit 259 8 = true ∧ bitsNat 259 31 24 ≠ 240) ∧
    (v2_18.Inv ∧ v2_18.fld PWR_MODE_STAT_BUSY = 1 ∧ v2_18.bly.hold = false ∧ v2_18.mode = Mode.config ∧
     v2_18.fld PWR_MODE_STAT_TARGET = 5) ∧
    (v2_19.Inv ∧ v2_19.fld PWR_MODE_STAT_BUSY = 1 ∧ v2_19.bly.hold = false ∧ v2_19.mode = Mode.service ∧
     v2_19.fld PWR_MODE_STAT_TARGET = 2) ∧
    (v2_1.takesWrite 0 PWR_MODE_REQ 3 ∧ Nat.testBit 3 8 = false ∧ v2_1.fld PWR_MODE_STAT_BUSY ≠ 1 ∧
     v2_1.mode = Mode.config ∧ bitsNat 3 2 0 = 3) ∧
    (v2_1.takesWrite 0 PWR_MODE_REQ 5 ∧ Nat.testBit 5 8 = false ∧ v2_1.fld PWR_MODE_STAT_BUSY ≠ 1 ∧
     v2_1.mode = Mode.config ∧ bitsNat 5 2 0 = 5) ∧
    (v2_1.takesWrite 0 PWR_MODE_REQ 4 ∧ Nat.testBit 4 8 = false ∧ v2_1.fld PWR_MODE_STAT_BUSY ≠ 1 ∧
     v2_1.mode = Mode.config ∧ bitsNat 4 2 0 = 4) ∧
    (v2_14.takesWrite 0 PWR_MODE_REQ 2 ∧ Nat.testBit 2 8 = false ∧ v2_14.fld PWR_MODE_STAT_BUSY ≠ 1 ∧
     v2_14.mode = Mode.service ∧ bitsNat 2 2 0 = 2) ∧
    (v2_15.takesWrite 0 PWR_MODE_REQ 2 ∧ Nat.testBit 2 8 = false ∧ v2_15.fld PWR_MODE_STAT_BUSY ≠ 1 ∧
     v2_15.mode = Mode.standby ∧ bitsNat 2 2 0 = 2) ∧
    (v2_15.takesWrite 0 PWR_MODE_REQ 3 ∧ Nat.testBit 3 8 = false ∧ v2_15.fld PWR_MODE_STAT_BUSY ≠ 1 ∧
     v2_15.mode = Mode.standby ∧ bitsNat 3 2 0 = 3) ∧
    (v2_17.Inv ∧ v2_17.fld PWR_MODE_STAT_BUSY = 1 ∧ v2_17.bly.hold = false ∧ v2_17.mode = Mode.config ∧
     v2_17.fld PWR_MODE_STAT_TARGET = 3 ∧ v2_17.fld BLY_STAT_ACT_IN = 1 ∧ v2_17.fld BLY_STAT_PEER_FAILED = 0) ∧
    (v2_6.takesWrite 0 PWR_MODE_REQ 5 ∧ Nat.testBit 5 8 = false ∧ v2_6.fld PWR_MODE_STAT_BUSY ≠ 1 ∧
     v2_6.mode = Mode.active ∧ bitsNat 5 2 0 = 5 ∧ (v2_6.beginReq 5).lockstep = false) ∧
    (pairA.takesWrite 0 PWR_MODE_REQ 5 ∧ Nat.testBit 5 8 = false ∧ pairA.fld PWR_MODE_STAT_BUSY ≠ 1 ∧
     pairA.mode = Mode.active ∧ bitsNat 5 2 0 = 5 ∧ (pairA.beginReq 5).lockstep = true ∧
     pairA.bly.hold = false ∧ pairA.bly.swap.isNone = true) := by
  refine ⟨?_, ?_, ?_, ?_, ?_, ?_, ?_, ?_, ?_, ?_, ?_, ?_, ?_⟩ <;> decide +kernel

/-- A state and operands for every line of `Obligations.BootRuns`. -/
theorem witness_BootRuns :
    (State.reset.Inv ∧ State.reset.mode = Mode.reset ∧ State.reset.fld PWR_SUPPLY_STAT_IN_RANGE = 255 ∧
     exit0.bist = false) ∧
    (v2_22.Inv ∧ v2_22.mode = Mode.selftest ∧ (v2_22.fld SYS_CTRL_REMAP = 0 ∨ v2_22.sys.booted = false) ∧
     v2_22.takesWrite 0 PWR_BOOT_CTRL 2147483664 ∧ v2_22.fld PWR_STRAP_BOOT_SRC = 1 ∧
     v2_22.sys.booted = false ∧ v2_22.fld SYS_STAT_SELFTEST_CAUSE ≠ 1 ∧ Nat.testBit 2147483664 31 = true ∧
     errorOf (v2_22.checkImage (v2_22.downloaded (bitsNat 2147483664 23 0 + 1)) (some (bitsNat 2147483664 23 0 + 1)) 369098752) = some 2) ∧
    (v2_21.Inv ∧ v2_21.mode = Mode.selftest ∧ v2_21.fld SYS_CTRL_REMAP = 1 ∧ v2_21.sys.booted = true) := by
  refine ⟨?_, ?_, ?_⟩ <;> decide +kernel

/-- A state and operands for every line of `Obligations.SupplyAndDescent`. -/
theorem witness_SupplyAndDescent :
    (v2_24.Inv ∧ v2_24.cfgMode = true ∧ v2_24.fld PWR_SUPPLY_STAT_FIRST = 0 ∧ v2_24.descending = true ∧
     (toNext (exec (Instr.supplyInRange 7) v2_24)).fld PWR_SUPPLY_STAT_IN_RANGE = 255 ∧
     v2_24.sys.descent = some none ∧ v2_24.bly.hold = false) ∧
    (v2_6.mode ≠ Mode.reset ∧ v2_6.mode ≠ Mode.selftest ∧ v2_6.descending = false ∧ v2_6.Inv ∧
     v2_6.mode = Mode.active ∧ v2_6.bly.hold = false) ∧
    (v2_26.sys.descent = some none ∧ v2_26.bly.hold = false ∧ v2_26.mode = Mode.active ∧
     v2_26.tydJournal.mltAllOff.mode = Mode.active ∧ v2_26.tydJournal.mltAllOff.bly.hold = false ∧
     v2_26.tydJournal.mltAllOff.peerThere = true) ∧
    (v2_27.sys.descent = none ∧ v2_27.bly.hold = true) := by
  refine ⟨?_, ?_, ?_, ?_⟩ <;> decide +kernel

/-- A state and operands for every line of `Obligations.IslandPower`. -/
theorem witness_IslandPower :
    (v2_1.Inv ∧ v2_1.takesWrite 0 PWR_ISL_REQ 31 ∧ v2_1.cfgMode = true) ∧
    (v2_28.Inv ∧ v2_28.takesWrite 0 PWR_ISL_REQ 31 ∧ v2_28.cfgMode = false ∧
     31 &&& 33554431 ≠ v2_28.rd PWR_ISL_REQ ∧ v2_28.sys.islands = some 33554430) := by
  refine ⟨?_, ?_⟩ <;> decide +kernel

/-- A state and operands for every line of `Obligations.Fuses`. -/
theorem witness_Fuses :
    (v2_32.Inv ∧ v2_32.fld FUS_STAT_BLOW_BUSY = 1 ∧ false = false ∧
     mget false v2_32.sys.fuseBlown v2_32.sys.blowAddr = false) ∧
    (v2_30.Inv ∧ v2_30.takesWrite 0 FUS_CTRL 1179975682 ∧ v2_30.fld FUS_STAT_BLOW_BUSY = 0 ∧
     v2_30.fld FUS_STAT_SENSE_BUSY = 0 ∧ Nat.testBit 1179975682 1 = true ∧
     Nat.testBit 1179975682 0 = false ∧ v2_30.cfgMode = true ∧ bitsNat 1179975682 31 16 = 18005 ∧
     v2_30.fuseLocked (BitVec.toNat (v2_30.rd FUS_ADDR) % 4096) = false) ∧
    (v2_31.Inv ∧ v2_31.takesWrite 0 FUS_CTRL 1179975682 ∧ v2_31.fld FUS_STAT_BLOW_BUSY = 0 ∧
     v2_31.fld FUS_STAT_SENSE_BUSY = 0 ∧ Nat.testBit 1179975682 1 = true ∧
     Nat.testBit 1179975682 0 = false ∧ v2_31.cfgMode = true ∧ bitsNat 1179975682 31 16 = 18005 ∧
     v2_31.fuseLocked (BitVec.toNat (v2_31.rd FUS_ADDR) % 4096) = true) ∧
    (v2_31.Inv ∧ v2_31.takesWrite 0 FUS_CTRL 1179910146 ∧ v2_31.fld FUS_STAT_BLOW_BUSY = 0 ∧
     v2_31.fld FUS_STAT_SENSE_BUSY = 0 ∧ Nat.testBit 1179910146 1 = true ∧
     Nat.testBit 1179910146 0 = false ∧ v2_31.cfgMode = true ∧ bitsNat 1179910146 31 16 ≠ 18005) ∧
    (v2_31.Inv ∧ v2_31.takesWrite 0 FUS_CTRL 1 ∧ v2_31.fld FUS_STAT_BLOW_BUSY = 0 ∧
     v2_31.fld FUS_STAT_SENSE_BUSY = 0 ∧ Nat.testBit 1 1 = false ∧ Nat.testBit 1 0 = true) ∧
    (v2_32.Inv ∧ v2_32.fld FUS_STAT_BLOW_BUSY = 1 ∧ true = true) ∧
    (v2_33.Inv ∧ v2_33.fld FUS_STAT_SENSE_BUSY = 1) ∧
    (v2_38.Inv ∧ v2_38.takesWrite 0 FUS_CTRL 1179975682 ∧ v2_38.fld FUS_STAT_BLOW_BUSY = 0 ∧
     v2_38.fld FUS_STAT_SENSE_BUSY = 0 ∧ Nat.testBit 1179975682 1 = true ∧
     Nat.testBit 1179975682 0 = false ∧ v2_38.cfgMode = false) := by
  refine ⟨?_, ?_, ?_, ?_, ?_, ?_, ?_, ?_⟩ <;> decide +kernel

end Sys2Proof.Tests.W2

namespace Sys2Proof.Tests.W3
open Sys2Proof.Machine

def run (m : Mode) (fs : List (Fld × Nat) := []) : State := fs.foldl (fun s e => s.setFld e.1 e.2) { State.reset with mode := m }
def setWords (l : List (Nat × Word)) (s : State) : State := l.foldl (fun s e => s.setWord e.1 e.2) s
def hdr0 : Selection := ⟨0, 4, 8, true, 1000, 0, 0, 100, 0, 0, 0, some 5, none⟩
def core0 : ChiselCore := { ChiselCore.init with run := .pass, hdr := some hdr0, pc := 4 }
/-- Physical core 0 in a pass, about to issue the word `w` at PC 4. -/
def prog (w : Word) (f : ChiselCore → ChiselCore := id) : State :=   { setWords [(progAddr 0 0 4, w)] (run .active) with chs := { Chisel.init with cores := [(0, f core0)] } }
/-- An arithmetic slot: opcode and its fields. -/
def asm (op : Nat) (fs : List (Nat × Nat)) : Word := BitVec.ofNat 72 (op * 2 ^ 66 + (fs.map fun f => f.2 * 2 ^ f.1).sum)
def v3_1 : State := prog (asm 0x10 [(62, 3), (56, 63), (32, 1)])
def v3_2 := asm 0x10 [(62, 3), (56, 63), (32, 1)]
def v3_3 : State := prog (asm 0x11 [(62, 3)])
def v3_4 : State := prog (asm 0x12 [(58, 3)])
def v3_5 : State := prog (asm 0x13 [(58, 3)])
def v3_6 : State := prog (asm 0x14 [(58, 3)])
def v3_7 : State := prog (asm 0x15 [(58, 3)])
def v3_8 : State := prog (asm 0x16 [(58, 3)])
def v3_9 : State := prog (asm 0x17 [(58, 3)])
def v3_10 : State := prog (asm 0x18 [(58, 3)])
def v3_11 : State := prog 0
def v3_13 : State := prog (asm 0x23 [(32, 5)])
def v3_14 : State := prog (asm 0x24 [(42, 1)])
def v3_15 : State := prog (asm 0x25 [(42, 1), (32, 0x80)])
def v3_16 := asm 0x25 [(42, 1), (32, 0x80)]
def v3_17 : State := prog (asm 0x29 [(60, 2)])
def v3_18 : State := prog (asm 0x2A [(56, 0)])
def v3_19 : State := prog (asm 0x2A [(56, 1)])
def v3_20 : State := prog (asm 0x2A [(56, 2)])
def v3_21 : State := prog (asm 0x28 [(61, 1), (57, 4)])
def v3_22 := asm 0x28 [(61, 1), (57, 4)]
def v3_23 : State := prog (asm 0x20 [(32, 8)])
def v3_26 : State := prog (asm 0x21 [])
def v3_27 : State := prog (asm 0x21 [(64, 1)])
def v3_28 : State := prog (asm 0x21 [(40, 3)])
def v3_29 : State := prog (asm 0x22 [(64, 3)])
def v3_31 : State := prog (asm 0x08 [(32, 0x20), (46, 5)])
def v3_32 := asm 0x08 [(32, 0x20), (46, 5)]
def v3_33 : State := prog (asm 0x09 [(32, 0x20)])
def v3_34 : State := prog (asm 0x0A [(32, 0x20)])
def v3_35 : State := prog (asm 0x0B [(46, 5)])
def v3_36 : State := prog (asm 0x0C [(46, 5)])
def v3_37 : State := prog (asm 1 [])
def v3_38 : State := prog (asm 2 [])
def v3_39 : State := prog (asm 3 [(62,2),(32,9)])
def v3_41 : State := prog (asm 3 [(62,1),(32,9)])
def v3_42 : State := prog (asm 4 [(32,9)])
def v3_43 : State := prog (asm 4 [(62,1),(32,9)])
def v3_44 : State := prog (asm 5 [(60,0)]) fun c => c.putNamed (rnP 0) 9
def v3_45 : State := prog (asm 5 [(62,1)])
def v3_46 : State := prog (asm 6 [(46,0),(32,5)])
def v3_48 : State := prog 0x10000000
def v3_49 : State := (let s := prog 0x10000000; {s with flips := [(xAddr 0 0, 3)]})
def v3_50 : State := prog 0x20000000
def v3_51 := (((prog 0x20000000).storeTo 0 1 (.mem (xAddr 0 0)) 0).getD State.reset)
def v3_52 : State := prog 0x30000000
def v3_53 : State := prog 0x40000000
def v3_54 := (((prog 0x40000000).storeTo 0 1 (.mem (xAddr 0 0)) 0).getD State.reset)
def v3_55 : State := prog 0x50040000
def v3_56 : State := prog 0x6001
def v3_57 : State := prog 0x7020
def v3_58 := (((prog 0x7020).storeTo 0 2 (.io 0x20) 0).getD State.reset)
def v3_59 : State := prog (asm 0x30 [(61,1)])
def port0 : PortAccess := ⟨30, some 3, 7, false⟩
def v3_63 : State := prog 0 fun c => {c with port := [port0]}
def bldT : State := prog (asm 0x30 [])
def v3_64 := ((bldT.useAddress 0 0 0 0).2.bankRead 0x10 (bankAddr 5 0) 16)
def v3_65 : State := prog (asm 0x30 []) (fun c => {c with lastPort := some 0})
def v3_66 : State := prog (asm 0x31 []) (fun c => {c with lastPort := some 0})
def v3_67 : State := prog (asm 0x31 [(61,1)])
def v3_68 : State := prog (asm 0x20 [])
def v3_69 : State := prog (asm 0x21 [(64,1),(40,1)])
def v3_70 : State := prog (asm 0x21 [(64,1),(40,1),(44,1)])
def v3_71 := asm 0x21 [(64,1),(40,1),(44,1)]
def v3_72 : State := prog (asm 0x3F [])
def v3_73 : State := prog (asm 1 []) fun c => (c.putNamed rnLEA 4).putNamed rnLC 5
def v3_74 : State := prog (asm 3 [(32,200)])
def v3_77 : State := prog 0x20000000 fun c => c.putNamed (rnP 0) 0x5000
def v3_78 : State := prog 0x40000000 fun c => c.putNamed (rnP 0) 0x5000
def v3_79 : State := (let s := prog 0x30000000; {s with flips := [(xAddr 0 0, 3)]})
/-- The address the X slot of a word uses on core 0. -/
def xAddress (w : Nat) (s : State) := s.useAddress 0 (slotRank .x) (mptr (slotOf w .x)) (mmode (slotOf w .x))

/-- A state and operands for every line of `Obligations.DataInstructions`. -/
theorem witness_DataInstructions :
    (v3_1.issues 0 16 v3_2) ∧
    (v3_3.issues 0 17 (asm 17 [(62, 3)])) ∧
    (v3_4.issues 0 18 (asm 18 [(58, 3)])) ∧
    (v3_5.issues 0 19 (asm 19 [(58, 3)])) ∧
    (v3_6.issues 0 20 (asm 20 [(58, 3)])) ∧
    (v3_7.issues 0 21 (asm 21 [(58, 3)])) ∧
    (v3_8.issues 0 22 (asm 22 [(58, 3)])) ∧
    (v3_9.issues 0 23 (asm 23 [(58, 3)])) ∧
    (v3_10.issues 0 24 (asm 24 [(58, 3)])) := by
  refine ⟨?_, ?_, ?_, ?_, ?_, ?_, ?_, ?_, ?_⟩ <;> decide +kernel

/-- A state and operands for every line of `Obligations.ResultsLand`. -/
theorem witness_ResultsLand :
    v3_11.settled 0 ∧ risingFrom none v3_11.chs.cores = true ∧ risingFrom none (v3_11.core 0).r.d = true := by decide +kernel

/-- A state and operands for every line of `Obligations.AccumulatorInstructions`. -/
theorem witness_AccumulatorInstructions :
    (v3_13.issues 0 35 (asm 35 [(32, 5)])) ∧
    (v3_14.issues 0 36 (asm 36 [(42, 1)])) ∧
    (v3_15.issues 0 37 v3_16) ∧
    (v3_17.issues 0 41 (asm 41 [(60, 2)])) ∧
    (v3_18.issues 0 42 (asm 42 [(56, 0)]) ∧ wbits (asm 42 [(56, 0)]) 57 56 = 0) ∧
    (v3_19.issues 0 42 (asm 42 [(56, 1)]) ∧ wbits (asm 42 [(56, 1)]) 57 56 = 1) ∧
    (v3_20.issues 0 42 (asm 42 [(56, 2)]) ∧ wbits (asm 42 [(56, 2)]) 57 56 = 2) ∧
    (v3_21.issues 0 40 v3_22) := by
  refine ⟨?_, ?_, ?_, ?_, ?_, ?_, ?_, ?_⟩ <;> decide +kernel

/-- A state and operands for every line of `Obligations.MultiplyAccumulate`. -/
theorem witness_MultiplyAccumulate :
    (v3_23.settled 0 ∧ v3_23.issues 0 32 (asm 32 [(32, 8)]) ∧
     List.filter (fun n => (fEN (asm 32 [(32, 8)])).testBit n) (List.range 4) ≠ []) ∧
    (v3_26.settled 0 ∧ v3_26.issues 0 33 (asm 33 []) ∧ wbits (asm 33 []) 65 64 = 0 ∧
     wbits (asm 33 []) 41 40 = 0) ∧
    (v3_27.settled 0 ∧ v3_27.issues 0 33 (asm 33 [(64, 1)]) ∧ wbits (asm 33 [(64, 1)]) 65 64 ≠ 0 ∧
     wbits (asm 33 [(64, 1)]) 41 40 = 0) ∧
    (v3_28.settled 0 ∧ v3_28.issues 0 33 (asm 33 [(40, 3)]) ∧ wbits (asm 33 [(40, 3)]) 65 64 = 0 ∧
     wbits (asm 33 [(40, 3)]) 41 40 ≠ 0) ∧
    (v3_29.settled 0 ∧ v3_29.issues 0 34 (asm 34 [(64, 3)])) ∧
    (v3_68.settled 0 ∧ v3_68.issues 0 32 (asm 32 []) ∧
     List.filter (fun n => (fEN (asm 32 [])).testBit n) (List.range 4) = []) ∧
    (v3_69.settled 0 ∧ v3_69.issues 0 33 (asm 33 [(64, 1), (40, 1)]) ∧
     wbits (asm 33 [(64, 1), (40, 1)]) 65 64 ≠ 0 ∧ wbits (asm 33 [(64, 1), (40, 1)]) 41 40 ≠ 0 ∧
     fAX (asm 33 [(64, 1), (40, 1)]) = fAY (asm 33 [(64, 1), (40, 1)])) ∧
    (v3_70.settled 0 ∧ v3_70.issues 0 33 v3_71 ∧ wbits v3_71 65 64 ≠ 0 ∧ wbits v3_71 41 40 ≠ 0 ∧
     fAX v3_71 ≠ fAY v3_71) := by
  refine ⟨?_, ?_, ?_, ?_, ?_, ?_, ?_, ?_⟩ <;> decide +kernel

/-- A state and operands for every line of `Obligations.NamedRegisterMoves`. -/
theorem witness_NamedRegisterMoves :
    (v3_31.issues 0 8 v3_32) ∧
    (v3_33.issues 0 9 (asm 9 [(32, 32)])) ∧
    (v3_34.issues 0 10 (asm 10 [(32, 32)])) ∧
    (v3_35.issues 0 11 (asm 11 [(46, 5)])) ∧
    (v3_36.issues 0 12 (asm 12 [(46, 5)])) := by
  refine ⟨?_, ?_, ?_, ?_, ?_⟩ <;> decide +kernel

/-- A state and operands for every line of `Obligations.ControlInstructions`. -/
theorem witness_ControlInstructions :
    (v3_72.settled 0 ∧ v3_72.ready 0 = some (some (asm 63 [])) ∧ (v3_72.core 0).forbids (asm 63 []) = true) ∧
    (v3_11.settled 0 ∧ v3_11.issues 0 0 0) ∧
    (v3_37.settled 0 ∧ ((fun op => v3_37.issues 0 op (asm 1 []) ∧ (v3_37.atLoopEnd 0).fst = false) 1)) ∧
    (v3_38.settled 0 ∧ ((fun op => v3_38.issues 0 op (asm 2 []) ∧ (v3_38.atLoopEnd 0).fst = false) 2)) ∧
    (v3_39.settled 0 ∧
     ((fun op => v3_39.issues 0 op (asm 3 [(62, 2), (32, 9)]) ∧ (v3_39.atLoopEnd 0).fst = false) 3) ∧
     (wbits (asm 3 [(62, 2), (32, 9)]) 65 62 = 0 ∨ condHolds (wbits (asm 3 [(62, 2), (32, 9)]) 65 62) ((v3_39.core 0).r.named rnST % 8) = true) ∧
     (v3_39.core 0).inCode (fTGT (asm 3 [(62, 2), (32, 9)])) = true) ∧
    (v3_41.settled 0 ∧
     ((fun op => v3_41.issues 0 op (asm 3 [(62, 1), (32, 9)]) ∧ (v3_41.atLoopEnd 0).fst = false) 3) ∧
     (¬(wbits (asm 3 [(62, 1), (32, 9)]) 65 62 = 0 ∨ condHolds (wbits (asm 3 [(62, 1), (32, 9)]) 65 62) ((v3_41.core 0).r.named rnST % 8) = true))) ∧
    (v3_42.settled 0 ∧
     ((fun op => v3_42.issues 0 op (asm 4 [(32, 9)]) ∧ (v3_42.atLoopEnd 0).fst = false) 4) ∧
     (wbits (asm 4 [(32, 9)]) 65 62 = 0 ∨ condHolds (wbits (asm 4 [(32, 9)]) 65 62) ((v3_42.core 0).r.named rnST % 8) = true) ∧
     (v3_42.core 0).inCode (fTGT (asm 4 [(32, 9)])) = true) ∧
    (v3_43.settled 0 ∧
     ((fun op => v3_43.issues 0 op (asm 4 [(62, 1), (32, 9)]) ∧ (v3_43.atLoopEnd 0).fst = false) 4) ∧
     (¬(wbits (asm 4 [(62, 1), (32, 9)]) 65 62 = 0 ∨ condHolds (wbits (asm 4 [(62, 1), (32, 9)]) 65 62) ((v3_43.core 0).r.named rnST % 8) = true))) ∧
    (v3_44.settled 0 ∧
     ((fun op => v3_44.issues 0 op (asm 5 [(60, 0)]) ∧ (v3_44.atLoopEnd 0).fst = false) 5) ∧
     (wbits (asm 5 [(60, 0)]) 65 62 = 0 ∨ condHolds (wbits (asm 5 [(60, 0)]) 65 62) ((v3_44.core 0).r.named rnST % 8) = true) ∧
     (v3_44.core 0).inCode ((v3_44.core 0).r.named (rnP (wbits (asm 5 [(60, 0)]) 60 58)) % 4096) = true) ∧
    (v3_45.settled 0 ∧
     ((fun op => v3_45.issues 0 op (asm 5 [(62, 1)]) ∧ (v3_45.atLoopEnd 0).fst = false) 5) ∧
     (¬(wbits (asm 5 [(62, 1)]) 65 62 = 0 ∨ condHolds (wbits (asm 5 [(62, 1)]) 65 62) ((v3_45.core 0).r.named rnST % 8) = true))) ∧
    (v3_46.settled 0 ∧
     ((fun op => v3_46.issues 0 op (asm 6 [(46, 0), (32, 5)]) ∧ (v3_46.atLoopEnd 0).fst = false) 6 ∧ 0 = fIMM (asm 6 [(46, 0), (32, 5)]) ∨ (fun op => v3_46.issues 0 op (asm 6 [(46, 0), (32, 5)]) ∧ (v3_46.atLoopEnd 0).fst = false) 7 ∧ 0 = BitVec.toNat (mget 0 (v3_46.core 0).r.d (fDA (asm 6 [(46, 0), (32, 5)]))) % 65536)) ∧
    (v3_73.settled 0 ∧ v3_73.issues 0 1 (asm 1 []) ∧ (v3_73.atLoopEnd 0).fst = true) ∧
    (v3_74.settled 0 ∧
     ((fun op => v3_74.issues 0 op (asm 3 [(32, 200)]) ∧ (v3_74.atLoopEnd 0).fst = false) 3) ∧
     (wbits (asm 3 [(32, 200)]) 65 62 = 0 ∨ condHolds (wbits (asm 3 [(32, 200)]) 65 62) ((v3_74.core 0).r.named rnST % 8) = true) ∧
     (v3_74.core 0).inCode (fTGT (asm 3 [(32, 200)])) = false) := by
  refine ⟨?_, ?_, ?_, ?_, ?_, ?_, ?_, ?_, ?_, ?_, ?_, ?_, ?_⟩ <;> decide +kernel

/-- A state and operands for every line of `Obligations.MoveSlots`. -/
theorem witness_MoveSlots :
    (v3_48.moves 0 1 MoveSlot.x 268435456 ∧
     ((xAddress 268435456 v3_48).snd.loadFrom 0 (dataPlace 0 MoveSlot.x (xAddress 268435456 v3_48).fst)).fst = some 0) ∧
    (v3_49.moves 0 1 MoveSlot.x 268435456 ∧
     ((xAddress 268435456 v3_49).snd.loadFrom 0 (dataPlace 0 MoveSlot.x (xAddress 268435456 v3_49).fst)).fst = none) ∧
    (v3_50.moves 0 2 MoveSlot.x 536870912 ∧
     (xAddress 536870912 (v3_50.readD 0 (mreg (slotOf 536870912 MoveSlot.x))).snd).snd.storeTo 0 (slotRank MoveSlot.x) (dataPlace 0 MoveSlot.x (xAddress 536870912 (v3_50.readD 0 (mreg (slotOf 536870912 MoveSlot.x))).snd).fst) (v3_50.readD 0 (mreg (slotOf 536870912 MoveSlot.x))).fst = some v3_51) ∧
    (v3_52.moves 0 3 MoveSlot.x 805306368 ∧
     ((xAddress 805306368 v3_52).snd.loadFrom 0 (dataPlace 0 MoveSlot.x (xAddress 805306368 v3_52).fst)).fst = some 0) ∧
    (v3_53.moves 0 4 MoveSlot.x 1073741824 ∧
     (xAddress 1073741824 (v3_53.readNamed 0 (mreg (slotOf 1073741824 MoveSlot.x))).snd).snd.storeTo 0 (slotRank MoveSlot.x) (dataPlace 0 MoveSlot.x (xAddress 1073741824 (v3_53.readNamed 0 (mreg (slotOf 1073741824 MoveSlot.x))).snd).fst) (extendNamed (mreg (slotOf 1073741824 MoveSlot.x)) (v3_53.readNamed 0 (mreg (slotOf 1073741824 MoveSlot.x))).fst) = some v3_54) ∧
    (v3_55.moves 0 5 MoveSlot.x 1342439424) ∧
    (v3_56.moves 0 6 MoveSlot.y 24577) ∧
    (v3_57.moves 0 7 MoveSlot.y 28704 ∧
     (v3_57.readD 0 (mreg (slotOf 28704 MoveSlot.y))).snd.storeTo 0 (slotRank MoveSlot.y) (DataPlace.io (slotOf 28704 MoveSlot.y % 128)) (v3_57.readD 0 (mreg (slotOf 28704 MoveSlot.y))).fst = some v3_58) ∧
    (v3_77.moves 0 2 MoveSlot.x 536870912 ∧
     (xAddress 536870912 (v3_77.readD 0 (mreg (slotOf 536870912 MoveSlot.x))).snd).snd.storeTo 0 (slotRank MoveSlot.x) (dataPlace 0 MoveSlot.x (xAddress 536870912 (v3_77.readD 0 (mreg (slotOf 536870912 MoveSlot.x))).snd).fst) (v3_77.readD 0 (mreg (slotOf 536870912 MoveSlot.x))).fst = none) ∧
    (v3_78.moves 0 4 MoveSlot.x 1073741824 ∧
     (xAddress 1073741824 (v3_78.readNamed 0 (mreg (slotOf 1073741824 MoveSlot.x))).snd).snd.storeTo 0 (slotRank MoveSlot.x) (dataPlace 0 MoveSlot.x (xAddress 1073741824 (v3_78.readNamed 0 (mreg (slotOf 1073741824 MoveSlot.x))).snd).fst) (extendNamed (mreg (slotOf 1073741824 MoveSlot.x)) (v3_78.readNamed 0 (mreg (slotOf 1073741824 MoveSlot.x))).fst) = none) ∧
    (v3_79.moves 0 3 MoveSlot.x 805306368 ∧
     ((xAddress 805306368 v3_79).snd.loadFrom 0 (dataPlace 0 MoveSlot.x (xAddress 805306368 v3_79).fst)).fst = none) := by
  refine ⟨?_, ?_, ?_, ?_, ?_, ?_, ?_, ?_, ?_, ?_, ?_⟩ <;> decide +kernel

/-- A state and operands for every line of `Obligations.BankPort`. -/
theorem witness_BankPort :
    (v3_59.issues 0 48 (asm 48 [(61, 1)]) ∧ ((v3_59.atLoopEnd 0).snd.core 0).portTooSoon = false ∧
     ((((v3_59.atLoopEnd 0).snd.useAddress 0 0 (wbits (asm 48 [(61, 1)]) 60 58) (wbits (asm 48 [(61, 1)]) 57 55)).snd.takeInj (64 + 0) 3).fst = true ∨ ((v3_59.atLoopEnd 0).snd.core 0).window ((BitVec.toNat (asm 48 [(61, 1)])).testBit 61) ((v3_59.atLoopEnd 0).snd.useAddress 0 0 (wbits (asm 48 [(61, 1)]) 60 58) (wbits (asm 48 [(61, 1)]) 57 55)).fst = none)) ∧
    ((v3_63.core 0).port = [port0] ∧ port0.reg = some 3 ∧ (v3_63.core 0).run = RunState.pass ∧
     risingFrom none v3_63.chs.cores = true) ∧
    (bldT.issues 0 48 (asm 48 []) ∧ ((bldT.atLoopEnd 0).snd.core 0).portTooSoon = false ∧
     (((bldT.atLoopEnd 0).snd.useAddress 0 0 (wbits (asm 48 []) 60 58) (wbits (asm 48 []) 57 55)).snd.takeInj (64 + 0) 3).fst = false ∧
     ((bldT.atLoopEnd 0).snd.core 0).window ((BitVec.toNat (asm 48 [])).testBit 61) ((bldT.atLoopEnd 0).snd.useAddress 0 0 (wbits (asm 48 []) 60 58) (wbits (asm 48 []) 57 55)).fst = some (bankAddr 5 0) ∧
     (((bldT.atLoopEnd 0).snd.useAddress 0 0 (wbits (asm 48 []) 60 58) (wbits (asm 48 []) 57 55)).snd.takeInj (64 + 0) 3).snd.bankRead (16 + 0) (bankAddr 5 0) 16 = v3_64) ∧
    (v3_65.issues 0 48 (asm 48 []) ∧ ((v3_65.atLoopEnd 0).snd.core 0).portTooSoon = true) ∧
    (v3_66.issues 0 49 (asm 49 []) ∧ ((v3_66.atLoopEnd 0).snd.core 0).portTooSoon = true) ∧
    (v3_67.issues 0 49 (asm 49 [(61, 1)]) ∧ ((v3_67.atLoopEnd 0).snd.core 0).portTooSoon = false ∧
     ((v3_67.atLoopEnd 0).snd.core 0).window ((BitVec.toNat (asm 49 [(61, 1)])).testBit 61) (((v3_67.atLoopEnd 0).snd.readD 0 (wbits (asm 49 [(61, 1)]) 65 62)).snd.useAddress 0 0 (wbits (asm 49 [(61, 1)]) 60 58) (wbits (asm 49 [(61, 1)]) 57 55)).fst = none) := by
  refine ⟨?_, ?_, ?_, ?_, ?_, ?_⟩ <;> decide +kernel

end Sys2Proof.Tests.W3

namespace Sys2Proof.Tests.W4
open Sys2Proof.Machine

def run (m : Mode) (fs : List (Fld × Nat) := []) : State := fs.foldl (fun s e => s.setFld e.1 e.2) { State.reset with mode := m }
def setWords (l : List (Nat × Word)) (s : State) : State := l.foldl (fun s e => s.setWord e.1 e.2) s
def hdr0 : Selection := ⟨0, 4, 8, true, 1000, 0, 0, 100, 0, 0, 0, some 5, none⟩
def core0 : ChiselCore := { ChiselCore.init with run := .pass, hdr := some hdr0, pc := 4 }
/-- Physical core 0 in a pass, about to issue the word `w` at PC 4. -/
def prog (w : Word) (f : ChiselCore → ChiselCore := id) : State :=   { setWords [(progAddr 0 0 4, w)] (run .active) with chs := { Chisel.init with cores := [(0, f core0)] } }
/-- An arithmetic slot: opcode and its fields. -/
def late (n : Nat) (s : State) : State := { s with idx := n }
def wCores (l : SMap ChiselCore) (fs : List (Fld × Nat) := []) (m : Mode := .active) : State := { run m fs with chs := { Chisel.init with cores := l, sel := [(2, hdr0)], next := [(2, 0)] } }
/-- Logical core 2 served by physical core 2, released. -/
def mapped : List (Fld × Nat) := [(⟨CHS_LMAP, 23, 16⟩, 0x82), (⟨CHS_RESET, 15, 0⟩, 0)]
def v4_1 : State := (wCores [] mapped).onTrs fun t => {t with ticks := [⟨0, [], none, [], [], [], [], [], [], [], none⟩]}
def v4_2 : State := late 2 (wCores [] mapped)
def v4_3 : State := prog 0 fun c => {c with cyc := 1000}
def v4_4 : State := prog 0 fun c => {c with hdr := some {hdr0 with timer := 5}, cyc := 5}
def v4_5 : State := prog 0 fun c => {(c.putST 0x8000 0x8000) with cyc := 1, bell := true}
def v4_6 : State := prog 0 fun c => {(c.putNamed rnLC 2) with wrap := true, loop := (2, 3)}
def v4_7 : State := prog 0 fun c => {(c.putNamed rnLC 1) with wrap := true}
def v4_9 : State := (run .active).wr CHS_CORE_OK 0
def v4_10 : State := prog 0 fun c => {c with run := .boot, cyc := 1048576}
def v4_11 : State := prog 0 fun c => {c with run := .boot, cyc := 1048575}
def v4_12 : State := (run .config [(SYS_CTRL_REMAP,1)]).wr CHS_RESET 0
def v4_13 : State := (run .config [(SYS_CTRL_REMAP,1)]).wr CHS_RESET 0x8000
def v4_14 : State := (run .active [(SYS_CTRL_REMAP,1)]).wr CHS_RESET 0x8000
def v4_15 : State := (wCores [(16, {ChiselCore.init with copying := true})])
def wDefer : State := (run .active).onChs fun c => {c with deferred := [⟨0, 0, 0x08000000, [1,2], 0⟩]}
def wMig : State := (wCores [] mapped).onChs fun c => {c with mig := [(2, ⟨2, 16, false, false⟩)]}
def v4_16 : State := run .config
def v4_17 : State := setWords [(0x10000000, 0xF0)] (run .config)
def v4_19 : State := run .config [(bankField 0, 1)]
def v4_20 : State := { run .config with flips := [(0x10000000, BitVec.ofNat 80 (2 ^ 79))], bnk := {(run .config).bnk with wb := [⟨0x10000000, 5, BitVec.ofNat 80 (2 ^ 79)⟩]}}
def v4_24 : State := run .active [(bankBusy 5, 1)]
def v4_27 : State := let s := run .active; {s with bnk := {s.bnk with test := some (7, 1022)}}
def v4_28 : State := run .active [(spareFld MEM_SPARE_MAP_COPYING 3, 1)]
def v4_29 : State := prog 0 fun c => {(c.putST 0x8000 0x8000) with cyc := 1, bell := true, lcStale := true}
def v4_30 : State := (prog 0).setFld ⟨PWR_ISL_STAT, 31, 0⟩ 0
def bnkAt (s : State) : State := {s with bnk := {s.bnk with pos := (7, 1023)}}
def v4_31 : State := bnkAt (run .active [(MEM_CTRL_TEST_EN, 1)])
def v4_32 : State := bnkAt (run .active [(MEM_CTRL_TEST_EN, 1), (bankField 7, 0)])
def v4_34 : State := { run .config with bnk := {(run .config).bnk with wb := [⟨0x10000000, 5, 3⟩]}}

/-- A state and operands for every line of `Obligations.PassesRun`. -/
theorem witness_PassesRun :
    (v4_1.Inv ∧ risingFrom none v4_1.chs.cores = true ∧ v4_1.physCore 2 = some 2 ∧
     mfind v4_1.chs.next 2 = some 0 ∧ v4_1.selAt 2 0 = some hdr0 ∧ v4_1.coreOff 2 = false ∧
     v4_1.upMode = true ∧ mfind v4_1.chs.mig 2 = none ∧ (v4_1.core 2).run = RunState.idle ∧
     (v4_1.core 2).copying = false ∧ (v4_1.core 2).port = [] ∧
     idxLe (nextIdx (nextIdx 0)) v4_1.idx = false ∧ v4_1.gathered 2 0 hdr0 = some ([], []) ∧
     (v4_1.core 2).wrap = false) ∧
    (v4_2.Inv ∧ risingFrom none v4_2.chs.cores = true ∧ v4_2.physCore 2 = some 2 ∧
     mfind v4_2.chs.next 2 = some 0 ∧ v4_2.selAt 2 0 = some hdr0 ∧ (v4_2.core 2).run = RunState.idle ∧
     v4_2.chs.dark.contains 2 = false ∧ idxLe (nextIdx (nextIdx 0)) v4_2.idx = true) ∧
    ((v4_3.core 0).stopDue = true ∧ (v4_3.core 0).wrap = false) ∧
    ((v4_4.core 0).timerDue = true ∧ (v4_4.core 0).wrap = false) ∧
    ((v4_5.core 0).irqDue = true ∧ (v4_5.core 0).wrap = false ∧ (v4_5.core 0).timerDue = false ∧
     (v4_5.core 0).stopDue = false ∧ (v4_5.core 0).xDone = false ∧ (v4_5.core 0).yDone = false ∧
     (v4_5.core 0).hdr = some hdr0 ∧ (v4_5.core 0).lcStale = false) ∧
    ((v4_6.core 0).wrap = true ∧ 1 < (v4_6.core 0).loop.fst) ∧
    ((v4_7.core 0).wrap = true ∧ (v4_7.core 0).loop.fst ≤ 1) ∧
    ((v4_29.core 0).irqDue = true ∧ (v4_29.core 0).wrap = false ∧ (v4_29.core 0).timerDue = false ∧
     (v4_29.core 0).stopDue = false ∧ (v4_29.core 0).xDone = false ∧ (v4_29.core 0).yDone = false ∧
     (v4_29.core 0).hdr = some hdr0 ∧ (v4_29.core 0).lcStale = true) := by
  refine ⟨?_, ?_, ?_, ?_, ?_, ?_, ?_, ?_⟩ <;> decide +kernel

/-- A state and operands for every line of `Obligations.CoresControlled`. -/
theorem witness_CoresControlled :
    (wMig.Inv ∧ wMig.coreRetired 0 = false ∧ risingFrom none wMig.chs.cores = true ∧
     (wMig.core 0).pc < 4096 ∧ wMig.fld (CHS_FAULT_INFO_VALID.sh (4096 * 0)) = 0 ∧
     wMig.takesWrite 0 (CHS_DOORBELL + 4096 * 0) 0 ∧ wMig.powered (coreIsland 0) = true ∧
     (mfind wMig.chs.mig 2 = some { src := 2, dst := 16, peer := false, inj := false : Migration }) ∧
     ({ src := 2, dst := 16, peer := false, inj := false : Migration }.peer = false) ∧
     ({ src := 2, dst := 16, peer := false, inj := false : Migration }.dst = 16) ∧
     ({ src := 2, dst := 16, peer := false, inj := false : Migration }.src < 16) ∧
     risingFrom none wMig.chs.mig = true) ∧
    (v4_30.Inv ∧ (0 < progAddr 0 0 0 ∨ progAddr 0 0 4096 ≤ 0) ∧
     v4_30.takesWrite 0 (CHS_DOORBELL + 4096 * 0) 1 ∧ v4_30.powered (coreIsland 0) = false) ∧
    (v4_9.Inv ∧ v4_9.coreRetired 16 = true) ∧
    (v4_10.Inv ∧ (v4_10.core 0).run = RunState.boot ∧ 1048576 ≤ (v4_10.core 0).cyc) ∧
    (v4_11.Inv ∧ (v4_11.core 0).run = RunState.boot ∧ (v4_11.core 0).cyc < 1048576) ∧
    (v4_12.takesWrite 0 CHS_RESET 1 ∧ v4_12.rd CHS_RESET = 0) ∧
    (v4_13.takesWrite 0 CHS_RESET 0 ∧ BitVec.toNat (v4_13.rd CHS_RESET) = 2 ^ (15 % 16) ∧
     v4_13.cfgMode = true) ∧
    (v4_14.takesWrite 0 CHS_RESET 0 ∧ BitVec.toNat (v4_14.rd CHS_RESET) = 2 ^ (15 % 16) ∧
     v4_14.cfgMode = false) ∧
    ((v4_15.core 16).copying = true) ∧
    ((List.find? (fun d => d.phys == 0) wDefer.chs.deferred = some { m := 0, phys := 0, addr := 134217728, data := [1, 2], idx := 0 : DeferredWrite }) ∧
     (wDefer.core 0).run = RunState.idle ∧
     (idxLe { m := 0, phys := 0, addr := 134217728, data := [1, 2], idx := 0 : DeferredWrite }.idx (((wDefer.logicalOf 0).bind fun c => mfind wDefer.chs.next c).getD wDefer.idx) = true)) := by
  refine ⟨?_, ?_, ?_, ?_, ?_, ?_, ?_, ?_, ?_, ?_⟩ <;> decide +kernel

/-- A state and operands for every line of `Obligations.WordWritten`. -/
theorem witness_WordWritten :
    (v4_16.Inv ∧ v4_16.takesAccess 2 1006698480 (List.replicate 16 5) ∧
     (268435456 ≤ 1006698480 ∧ 1006698480 < 402653184 ∧ v4_16.bankState (bankOf 1006698480) = 2 ∨ 1006632960 ≤ 1006698480 ∧ 1006698480 < 1006698496 ∧ 2 ≤ 2) ∧
     (mget 0 v4_16.flips 1006698480 = 0 ∧ ¬96 * 32 ∈ v4_16.inj ∧ ¬96 * 32 + 1 ∈ v4_16.inj) ∧
     (List.replicate 16 5).length = 16 ∧ slotShape 1006698480 (List.replicate 16 5).length = true ∧
     (List.replicate 16 5).length ≤ 16) ∧
    (v4_16.Inv ∧ v4_16.takesAccess 1 402653168 (List.replicate 8 5) ∧
     (268435456 ≤ 402653168 ∧ 402653168 < 402653184 ∧ v4_16.bankState (bankOf 402653168) = 2 ∨ 1006632960 ≤ 402653168 ∧ 402653168 < 1006698496 ∧ 1 ≤ 2) ∧
     (List.replicate 8 5).length = 8 ∧
     (mget 0 v4_16.flips 402653168 = 0 ∧ ¬96 * 32 ∈ v4_16.inj ∧ ¬96 * 32 + 1 ∈ v4_16.inj)) ∧
    (v4_16.Inv ∧ v4_16.takesAccess 0 268435456 (List.replicate 16 5) ∧
     (268435456 ≤ 268435456 ∧ 268435456 < 402653184 ∧ v4_16.bankState (bankOf 268435456) = 2 ∨ 1006632960 ≤ 268435456 ∧ 268435456 < 1006698496 ∧ 0 ≤ 2) ∧
     (List.replicate 16 5).length = 16) := by
  refine ⟨?_, ?_, ?_⟩ <;> decide +kernel

/-- A state and operands for every line of `Obligations.AliasesChangeBits`. -/
theorem witness_AliasesChangeBits :
    (v4_19.Inv ∧
     ([60, 1].length = 1 ∨ [60, 1].length = 2 ∨ [60, 1].length = 4 ∨ [60, 1].length = 8 ∨ [60, 1].length = 16) ∧
     (masterReaches 0 (268435456 + 268435456) (Slot.setAlias 268435456) = true ∧ masterReaches 0 (268435456 + 536870912) (Slot.clearAlias 268435456) = true) ∧
     risingFrom none v4_19.flips = true ∧ v4_19.bankState (bankOf 268435456) ≠ 2 ∧
     v4_19.takesAccess 0 (268435456 + 268435456) [60, 1] ∧
     v4_19.takesAccess 0 (268435456 + 536870912) [60, 1]) ∧
    (v4_17.Inv ∧
     ([60].length = 1 ∨ [60].length = 2 ∨ [60].length = 4 ∨ [60].length = 8 ∨ [60].length = 16) ∧
     (masterReaches 0 (268435456 + 268435456) (Slot.setAlias 268435456) = true ∧ masterReaches 0 (268435456 + 536870912) (Slot.clearAlias 268435456) = true) ∧
     v4_17.bankState (bankOf 268435456) = 2 ∧ mget 0 v4_17.flips 268435456 = 0 ∧ (¬96 * 32 ∈ v4_17.inj) ∧
     (¬96 * 32 + 1 ∈ v4_17.inj) ∧ v4_17.takesAccess 0 (268435456 + 268435456) [60] ∧
     v4_17.takesAccess 0 (268435456 + 536870912) [60]) := by
  refine ⟨?_, ?_⟩ <;> decide +kernel

/-- A state and operands for every line of `Obligations.TrussWordWritten`. -/
theorem witness_TrussWordWritten :
    (v4_16.takesAccess 0 (descAddr 1 5 0) (List.replicate 16 255) ∧
     masterReaches 0 (descAddr 1 5 0) (Slot.truss (descAddr 1 5 0)) = true ∧ descAddr 1 5 0 % 16 = 0 ∧
     67108864 ≤ descAddr 1 5 0 ∧ descAddr 1 5 0 < 117440512 ∧ trussWord (descAddr 1 5 0) = some true ∧
     (List.replicate 16 255).length = 16 ∧ v4_16.inLive (descAddr 1 5 0) = false) ∧
    (v4_16.takesAccess 2 (descAddr 0 5 1) (List.replicate 16 255) ∧
     masterReaches 2 (descAddr 0 5 1) (Slot.truss (descAddr 0 5 1)) = true ∧ descAddr 0 5 1 % 16 = 0 ∧
     67108864 ≤ descAddr 0 5 1 ∧ descAddr 0 5 1 < 117440512 ∧ trussWord (descAddr 0 5 1) = some true ∧
     (List.replicate 16 255).length = 16 ∧ v4_16.inLive (descAddr 0 5 1) = true ∧ v4_16.crn.plan = none) := by
  refine ⟨?_, ?_⟩ <;> decide +kernel

/-- A state and operands for every line of `Obligations.CheckCode`. -/
theorem witness_CheckCode :
    ((List.find? (fun x => x.addr == 402653168) v4_16.bnk.wb = none) ∧ v4_16.Inv ∧
     v4_16.mode = Mode.config ∧ v4_16.bankState (bankOf 402653168) = 2 ∧ (¬96 * 32 ∈ v4_16.inj) ∧
     (¬96 * 32 + 1 ∈ v4_16.inj) ∧ (¬3 * 32 + 1 ∈ v4_16.inj) ∧ mget 0 v4_16.flips 402653168 = 0 ∧
     risingFrom none v4_16.flips = true) ∧
    (v4_16.Inv ∧ v4_16.mode = Mode.config ∧ v4_16.bankState (bankOf 402653168) = 2 ∧
     (¬96 * 32 ∈ v4_16.inj) ∧ (¬96 * 32 + 1 ∈ v4_16.inj) ∧ (¬3 * 32 + 1 ∈ v4_16.inj) ∧
     mget 0 v4_16.flips 402653168 = 0 ∧ risingFrom none v4_16.flips = true ∧ (eccRead 3).left = none) ∧
    ((List.find? (fun x => x.addr == 268435456) v4_20.bnk.wb = some { addr := 268435456, word := 5, flips := BitVec.ofNat 80 (2 ^ 79) : WriteBack }) ∧
     (mget 0 v4_20.flips 268435456 = { addr := 268435456, word := 5, flips := BitVec.ofNat 80 (2 ^ 79) : WriteBack }.flips)) ∧
    ((List.find? (fun x => x.addr == 268435456) v4_34.bnk.wb = some { addr := 268435456, word := 5, flips := 3 : WriteBack }) ∧
     (mget 0 v4_34.flips 268435456 ≠ { addr := 268435456, word := 5, flips := 3 : WriteBack }.flips)) := by
  refine ⟨?_, ?_, ?_, ?_⟩ <;> decide +kernel

/-- A state and operands for every line of `Obligations.BanksChange`. -/
theorem witness_BanksChange :
    (v4_16.Inv ∧ v4_16.fld (bankField 127) ≠ 0 ∧
     v4_16.takesWrite 0 (MEM_BANK_STATE + 4 * (127 / 16)) (putBits (v4_16.rd (MEM_BANK_STATE + 4 * (127 / 16))) (2 * (127 % 16) + 1) (2 * (127 % 16)) 0) ∧
     v4_16.cfgMode = true ∧ (0 = 0 ∨ v4_16.fld (bankField 127) = 0) ∧ bankAddr 127 0 ≤ bankAddr 127 0 ∧
     bankAddr 127 0 < bankAddr (127 + 1) 0) ∧
    (v4_27.Inv ∧ v4_27.bnk.test = some (7, 1022) ∧ (¬96 * 32 + 3 ∈ v4_27.inj) ∧
     v4_27.colCovers 7 79 = false ∧ (v4_27.colReg 7).testBit 31 = false) ∧
    (v4_24.Inv ∧ v4_24.fld (bankField 5) ≠ 1 ∧
     v4_24.takesWrite 0 (MEM_BANK_STATE + 4 * (5 / 16)) (putBits (v4_24.rd (MEM_BANK_STATE + 4 * (5 / 16))) (2 * (5 % 16) + 1) (2 * (5 % 16)) 1) ∧
     v4_24.cfgMode = false ∧ v4_24.fld (bankBusy 5) = 1) ∧
    (v4_28.Inv ∧
     (List.find? (fun i => v4_28.fld (spareFld MEM_SPARE_MAP_COPYING i) == 1) (List.range 8) = some 3) ∧
     (∀ (j : Fin 8), v4_28.fld (spareFld MEM_SPARE_MAP_IN_USE ↑j) = 0)) ∧
    (v4_16.Inv ∧ v4_16.fld (bankField 0) ≠ 1 ∧
     v4_16.takesWrite 0 (MEM_BANK_STATE + 4 * (0 / 16)) (putBits (v4_16.rd (MEM_BANK_STATE + 4 * (0 / 16))) (2 * (0 % 16) + 1) (2 * (0 % 16)) 1) ∧
     v4_16.cfgMode = true ∧ v4_16.fld (bankField 0) ≠ 0) ∧
    (v4_31.Inv ∧ v4_31.fld MEM_CTRL_TEST_EN = 1 ∧ v4_31.bnk.test = none ∧ v4_31.upMode = true ∧
     v4_31.tested 7 = true ∧ v4_31.bnk.pos = (7, 1023) ∧ (∀ b ∈ v4_31.visibleOf 7, v4_31.bankState b = 2)) ∧
    (v4_32.Inv ∧ v4_32.fld MEM_CTRL_TEST_EN = 1 ∧ v4_32.bnk.test = none ∧ v4_32.upMode = true ∧
     v4_32.tested 7 = true ∧ v4_32.bnk.pos = (7, 1023) ∧ v4_32.visibleOf 7 = some 7 ∧ v4_32.bankState 7 ≠ 2) := by
  refine ⟨?_, ?_, ?_, ?_, ?_, ?_, ?_⟩ <;> decide +kernel

end Sys2Proof.Tests.W4

namespace Sys2Proof.Tests.W5
open Sys2Proof.Machine

def run (m : Mode) (fs : List (Fld × Nat) := []) : State := fs.foldl (fun s e => s.setFld e.1 e.2) { State.reset with mode := m }
def side (d st : Nat) (fs : List (Fld × Nat) := []) (m : Mode := .active) : State := (run m fs).setSide d st
def v5_5 : State := (side 0 4 [(sideEnable 0, 1)]).onSide 0 fun x => {x with restart := true}
def v5_10 : State := side 62 5 [(prtFld PRT_RX_CLK_MODE 62, 2)]
def v5_12 : State := side 95 0 [(aesFld AES_CTRL_START_SRC 15, 2)] .config
def v5_14 : State := side 63 3 [(sideEnable 63, 1)] .config
def v5_15 : State := side 63 2 [(sideEnable 63, 1)] .active
def slotOn (d st : Nat) (fs : List (Fld × Nat)) : State := side d st ([(⟨PRT_SLOT_EN + 0x1000 * (d / 2), 31, 0⟩, 0x00010001)] ++ fs)
def v5_16 : State := slotOn 62 3 []
def v5_18 : State := slotOn 63 2 []
def v5_19 : State := slotOn 63 3 []
def v5_22 : State := run .active [(PRT_GRP_CTRL_STEER_EN.sh (groupOff 28), 1), (PRT_GRP_STAT_TRIM.sh (groupOff 28), (run .active).trimMax (groupOff 28))]
def v5_24 : State := (run .active).onPrt fun p => {p with rx := [(15, ⟨7, 0, none, none⟩)]}
def v5_25 : State := (run .active [(aesFld AES_STAT_LOCK 15,1)]).onPrt fun p => {p with rx := [(15, ⟨7, 2, none, none⟩)]}
def aesSending : State := (side 95 3 [(aesFld AES_CTRL_TX_CRCC 15, 0)]).onPrt fun p => {p with tx := [(15, ⟨191, 5, 6, 7, 8, (5, true), (6, false)⟩)]}
def v5_28 : State := side 62 1 [(sideEnable 62, 1)]
def v5_29 : State := side 63 2 [(prtFld PRT_TX_CLK_MODE 63, 2)]
def v5_31 : State := side 0 0 [(prtFld PRT_RX_CLK_MODE 0, 2)] .config
def v5_33 : State := {slotOn 63 3 [] with bly := {(slotOn 63 3 []).bly with hold := true}}
def v5_35 : State := side 62 2 [(prtFld PRT_RX_CLK_MODE 62, 2)]

/-- A state and operands for every line of `Obligations.AudioPorts`. -/
theorem witness_AudioPorts :
    (v5_29.Inv ∧ hasState 63 = true ∧ v5_29.sideState 63 = 2 ∧ v5_29.runMode = true ∧
     0 ∈ v5_29.enabledSlots (2 * 31 + 1) ∧ v5_29.bly.hold = false ∧
     v5_29.takesWrite 0 (sideEnable 63).off ((fun on => putBits (v5_29.written (sideEnable 63).off (v5_29.rd (sideEnable 63).off)) (sideEnable 63).hi (sideEnable 63).lo on) 1) ∧
     v5_29.takesWrite 0 (sideEnable 63).off ((fun on => putBits (v5_29.written (sideEnable 63).off (v5_29.rd (sideEnable 63).off)) (sideEnable 63).hi (sideEnable 63).lo on) 0) ∧
     v5_29.clockMode 63 ≠ 0 ∧ 2 ≤ v5_29.sideState 63 ∧ v5_29.sideState 63 ≤ 4 ∧
     v5_29.sidePowered (2 * 31 + 1) = true ∧ v5_29.elastic (2 * 31 + 1) = true ∧
     2 ≤ v5_29.sideState (2 * 31 + 1) ∧ v5_29.sideState (2 * 31 + 1) ≤ 4) ∧
    (v5_5.Inv ∧ hasState 0 = true ∧ (v5_5.sideState 0 = 4 ∨ (v5_5.side 0).leaving = true) ∧
     v5_5.fld (sideEnable 0) = 1) ∧
    (v5_16.Inv ∧ hasState 1 = true ∧ v5_16.fld (sideEnable 1) = 0 ∧ v5_16.sideState 1 = 0 ∧
     risingFrom none v5_16.prt.side = true ∧ (v5_16.startUnit 1).isNone = true ∧
     v5_16.isMasterSide 1 = true ∧ v5_16.sidePowered (2 * 31) = true ∧ v5_16.badFs (2 * 31) none = false ∧
     (v5_16.slotComes (2 * 31) 0).sideState (2 * 31) = 3 ∧
     0 ∈ (v5_16.slotComes (2 * 31) 0).enabledSlots (2 * 31) ∧
     (v5_16.slotComes (2 * 31) 0).elastic (2 * 31) = false ∧ (v5_16.slotComes (2 * 31) 0).ratio (2 * 31) = 1) ∧
    (v5_10.Inv ∧ hasState 62 = true ∧ v5_10.sideState 62 = 5) ∧
    (v5_14.Inv ∧ hasState 63 = true ∧ v5_14.fld (sideEnable 63) = 1 ∧ v5_14.sideState 63 = 3 ∧
     risingFrom none v5_14.prt.side = true) ∧
    (v5_33.sidePowered (2 * 31 + 1) = true ∧ 0 < v5_33.slots (2 * 31 + 1) ∧
     ((if v5_33.badFs (2 * 31 + 1) (some (true, 3)) = true then v5_33.frameError (2 * 31 + 1) else v5_33).elastic (2 * 31 + 1) = false) ∧
     0 < (if v5_33.badFs (2 * 31 + 1) (some (true, 3)) = true then v5_33.frameError (2 * 31 + 1) else v5_33).slots (2 * 31 + 1) ∧
     (((if v5_33.badFs (2 * 31 + 1) (some (true, 3)) = true then v5_33.frameError (2 * 31 + 1) else v5_33).slotComes (2 * 31 + 1) 0).sideState (2 * 31 + 1) = 3) ∧
     (((if v5_33.badFs (2 * 31 + 1) (some (true, 3)) = true then v5_33.frameError (2 * 31 + 1) else v5_33).slotComes (2 * 31 + 1) 0).ratio (2 * 31 + 1) = 1) ∧
     0 ∈ ((if v5_33.badFs (2 * 31 + 1) (some (true, 3)) = true then v5_33.frameError (2 * 31 + 1) else v5_33).slotComes (2 * 31 + 1) 0).enabledSlots (2 * 31 + 1) ∧
     (((if v5_33.badFs (2 * 31 + 1) (some (true, 3)) = true then v5_33.frameError (2 * 31 + 1) else v5_33).slotComes (2 * 31 + 1) 0).side (2 * 31 + 1)).broken ≠ some true ∧
     v5_33.runMode = true ∧ 0 ∈ v5_33.enabledSlots (2 * 31 + 1) ∧ v5_33.bly.hold = true) ∧
    (v5_12.Inv ∧ hasState 95 = true ∧ v5_12.fld (sideEnable 95) = 0 ∧ v5_12.sideState 95 = 0 ∧
     risingFrom none v5_12.prt.side = true ∧ (v5_12.startUnit 95).isSome = true) ∧
    (v5_15.Inv ∧ hasState 63 = true ∧ v5_15.fld (sideEnable 63) = 1 ∧ v5_15.sideState 63 = 2) ∧
    (v5_18.sidePowered (2 * 31 + 1) = true ∧ 0 < v5_18.slots (2 * 31 + 1) ∧
     ((if v5_18.badFs (2 * 31 + 1) none = true then v5_18.frameError (2 * 31 + 1) else v5_18).elastic (2 * 31 + 1) = false) ∧
     0 < (if v5_18.badFs (2 * 31 + 1) none = true then v5_18.frameError (2 * 31 + 1) else v5_18).slots (2 * 31 + 1) ∧
     (((if v5_18.badFs (2 * 31 + 1) none = true then v5_18.frameError (2 * 31 + 1) else v5_18).slotComes (2 * 31 + 1) 0).sideState (2 * 31 + 1) = 2 ∨ ((if v5_18.badFs (2 * 31 + 1) none = true then v5_18.frameError (2 * 31 + 1) else v5_18).slotComes (2 * 31 + 1) 0).sideState (2 * 31 + 1) = 4)) ∧
    (v5_22.fld (PRT_GRP_CTRL_STEER_EN.sh (groupOff (4 * 7))) = 1 ∧
     (v5_22.fld (PRT_GRP_STAT_TRIM.sh (groupOff (4 * 7))) = v5_22.trimMax (groupOff (4 * 7)) ∨ v5_22.fld (PRT_GRP_STAT_TRIM.sh (groupOff (4 * 7))) = 65536 - v5_22.trimMax (groupOff (4 * 7)))) ∧
    (v5_28.Inv ∧ hasState 62 = true ∧ v5_28.fld (sideEnable 62) = 1 ∧ v5_28.sideState 62 = 1) ∧
    (v5_31.Inv ∧ hasState 0 = true ∧ v5_31.fld (sideEnable 0) = 0 ∧ v5_31.sideState 0 = 0 ∧
     risingFrom none v5_31.prt.side = true ∧ (v5_31.startUnit 0).isNone = true ∧
     v5_31.isMasterSide 0 = false) ∧
    (v5_35.sidePowered (2 * 31) = true ∧ v5_35.badFs (2 * 31) (some (false, 3)) = true ∧
     v5_35.clockMode (2 * 31) ≠ 0 ∧ (v5_35.sideState (2 * 31) = 2 ∨ v5_35.sideState (2 * 31) = 3)) ∧
    (v5_19.runMode = true ∧ (¬5 ∈ v5_19.enabledSlots (2 * 31 + 1))) := by
  refine ⟨?_, ?_, ?_, ?_, ?_, ?_, ?_, ?_, ?_, ?_, ?_, ?_, ?_, ?_⟩ <;> decide +kernel

/-- A state and operands for every line of `Obligations.Aes3`. -/
theorem witness_Aes3 :
    (aesSending.Inv ∧ aesSending.sidePowered (64 + 2 * 15) = true ∧
     (fun u => u.fld (aesFld AES_STAT_LOCK 15)) aesSending = 0 ∧
     (¬((preamble 0 = 0 ∨ preamble 0 = 2) ∧ preamble 1 = 1) ∨ (aesSending.aesRx 15).good < 7 ∨ 2000 < 2000 ∨ 2000 < -2000) ∧
     ((preamble 0 = 0 ∨ preamble 0 = 2) ∧ preamble 1 = 1) ∧ parityOk 0 = true ∧ parityOk 1 = true ∧
     (¬(160 + 15) * 32 + 3 ∈ aesSending.inj) ∧ aesSending.takesWrite 0 (AES_TX_UPD + 4096 * 15) 1 ∧
     aesSending.takesWrite 0 (AES_TX_UPD + 4096 * 15) 2 ∧ aesSending.sidePowered (65 + 2 * 15) = true ∧
     2 ≤ aesSending.sideState (65 + 2 * 15) ∧
     (aesSending.frameStart (65 + 2 * 15)).sideState (65 + 2 * 15) = 3 ∧
     ((aesSending.frameStart (65 + 2 * 15)).aesTx 15).pos ≠ 0 ∧
     (aesSending.frameStart (65 + 2 * 15)).runMode = true ∧
     (aesSending.frameStart (65 + 2 * 15)).bly.hold = false ∧
     (aesSending.frameStart (65 + 2 * 15)).fld (aesFld AES_CTRL_AUX20 15) = 0 ∧
     (aesSending.frameStart (65 + 2 * 15)).fld (aesFld AES_CTRL_TX_V_FORCE 15) = 0 ∧
     (aesSending.frameStart (65 + 2 * 15)).fld (aesFld AES_CTRL_TX_CRCC 15) = 0 ∧
     (outCode 24 ((aesSending.frameStart (65 + 2 * 15)).aesTx 15).a.fst).snd = false ∧
     (outCode 24 ((aesSending.frameStart (65 + 2 * 15)).aesTx 15).b.fst).snd = false) ∧
    (v5_24.Inv ∧ v5_24.sidePowered (64 + 2 * 15) = true ∧
     (fun u => u.fld (aesFld AES_STAT_LOCK 15)) v5_24 = 0 ∧
     ((preamble 0 = 0 ∨ preamble 0 = 2) ∧ preamble 1 = 1) ∧ 7 ≤ (v5_24.aesRx 15).good) ∧
    (v5_25.Inv ∧ v5_25.sidePowered (64 + 2 * 15) = true ∧
     (fun u => u.fld (aesFld AES_STAT_LOCK 15)) v5_25 = 1 ∧
     ((preamble 0 = 0 ∨ preamble 0 = 2) ∧ preamble 1 = 1)) ∧
    (v5_25.Inv ∧ v5_25.sidePowered (64 + 2 * 15) = true ∧
     (fun u => u.fld (aesFld AES_STAT_LOCK 15)) v5_25 = 1 ∧
     (¬((preamble 1 = 0 ∨ preamble 1 = 2) ∧ preamble 1 = 1)) ∧ 2 ≤ (v5_25.aesRx 15).bad) := by
  refine ⟨?_, ?_, ?_, ?_⟩ <;> decide +kernel

end Sys2Proof.Tests.W5

namespace Sys2Proof.Tests.W6
open Sys2Proof.Machine

def run (m : Mode) (fs : List (Fld × Nat) := []) : State := fs.foldl (fun s e => s.setFld e.1 e.2) { State.reset with mode := m }
def ref (r st q : Nat) : List (Fld × Nat) := [(refFld PLB_REF_CFG_EN r, 1), (refFld PLB_REF_STAT_STATE r, st), (refFld PLB_REF_STAT_Q r, q), (refFld PLB_REF_CFG_ACCEPT r, 10), (refFld PLB_REF_CFG_REJECT r, 20), (NET_PORT_STAT_LINK, 1)]
def v6_4 : State := run .active (ref 3 1 5)
def v6_5 : State := run .active (ref 3 3 14)
def v6_6 : State := run .active (ref 3 4 14 ++ [(PLB_CTRL_FORCE_EN,1),(PLB_CTRL_FORCE_REF,3)])
def v6_7 : State := run .active (ref 3 4 14 ++ ref 4 4 3 ++ [(PLB_SYN_STAT_SEL_REF,3)])
def v6_9 : State := run .active (ref 3 2 14 ++ ref 4 4 3 ++ [(PLB_SYN_STAT_SEL_REF,3)])
def v6_10 : State := run .active [(PLB_SYN_STAT_STATE, 1)]
def v6_13 : State := (run .active [(PLB_SYN_STAT_STATE, 3)]).onPlb fun p => {p with holdCycles := 250000000 * 1000000}
def v6_15 : State := {run .config with time := 2^60 + 5, idx := 2^48-1}
def v6_16 : State := run .active
def v6_17 : State := run .active [(PLB_TIME_STAT_STEP_ALARM,1)]
def v6_18 : State := {run .active [(unitFld PLB_CMP_CTRL_ARM 15,1)] with time := 2^47-1}
def v6_20 : State := (run .active).onPlb fun p => {p with pulses := [(7,1)]}
def v6_23 : State := run .active (ref 3 4 14 ++ ref 4 4 3 ++ [(PLB_SYN_STAT_SEL_REF,3),(PLB_SYN_STAT_STATE,2)]++[(refFld PLB_REF_STAT_STATE 3, 2),(refFld PLB_REF_STAT_STATE 4, 2)])
def v6_24 : State := run .config [(PLB_SYN_STAT_STATE, 2)]
def v6_26 : State := {run .active [(unitFld PLB_CAP_CTRL_EN 15,1),(unitFld PLB_CAP_CTRL_SRC 15,1),(unitFld PLB_CAP_CTRL_VALID 15,1)] with time := 2^60+3, idx := 2^33+7}

/-- A state and operands for every line of `Obligations.References`. -/
theorem witness_References :
    (v6_6.Inv ∧ v6_6.refOn 3 = true ∧ v6_6.upMode = true ∧ v6_6.refSignal 3 = true ∧ phaseRef 3 = false ∧
     v6_6.refGood 3 = true ∧
     Int.natAbs 5 ≤ 100 * max (max 1 (v6_6.fld (refFld PLB_REF_CFG_ACCEPT 3))) (v6_6.fld (refFld PLB_REF_CFG_REJECT 3)) ∧
     v6_6.forced = some (some 3) ∧ v6_6.refState 3 = 4 ∧ v6_6.selected ≠ some 3) ∧
    (v6_9.Inv ∧ v6_9.upMode = true ∧ v6_9.forced = none ∧ v6_9.candidate v6_9.selected = some 4 ∧
     (∀ c ∈ v6_9.selected, v6_9.eligible c = false) ∧ v6_9.refOn 4 = true ∧ v6_9.refSignal 4 = false ∧
     v6_9.selected = some 3 ∧ v6_9.candidate (some 3) = some 4) ∧
    (v6_5.Inv ∧ v6_5.refOn 3 = true ∧ v6_5.upMode = true ∧ v6_5.refSignal 3 = true ∧
     (100 * max (max 1 (v6_5.fld (refFld PLB_REF_CFG_ACCEPT 3))) (v6_5.fld (refFld PLB_REF_CFG_REJECT 3)) < (-1001).natAbs ∨ 100 * max 1 (v6_5.fld (refFld PLB_REF_CFG_ACCEPT 3)) < (-1001).natAbs ∧ v6_5.refGood 3 = false) ∧
     v6_5.refState 3 = 3 ∧ v6_5.fld (refFld PLB_REF_STAT_Q 3) < 15) ∧
    (v6_23.Inv ∧ v6_23.upMode = true ∧ v6_23.forced = none ∧ v6_23.candidate v6_23.selected = none ∧
     (∀ c ∈ v6_23.selected, v6_23.eligible c = false) ∧ v6_23.synState ≠ 0 ∧ v6_23.synState ≠ 4) ∧
    (v6_7.Inv ∧ v6_7.upMode = true ∧ v6_7.forced = none ∧ v6_7.selected = some 3 ∧ v6_7.eligible 3 = true) ∧
    (v6_4.Inv ∧ v6_4.refOn 3 = true ∧ v6_4.upMode = true ∧ v6_4.refSignal 3 = true ∧
     (-1000).natAbs ≤ 100 * max 1 (v6_4.fld (refFld PLB_REF_CFG_ACCEPT 3)) ∧ v6_4.refGood 3 = false) := by
  refine ⟨?_, ?_, ?_, ?_, ?_, ?_⟩ <;> decide +kernel

/-- A state and operands for every line of `Obligations.Synthesiser`. -/
theorem witness_Synthesiser :
    (v6_13.Inv ∧ v6_13.takesWrite 0 PLB_SYN_FREQ 2147483648 ∧ v6_13.takesWrite 0 PLB_CTRL 2147483648 ∧
     v6_13.cfgMode = false ∧ v6_13.upMode = true ∧ v6_13.fld SVC_CTRL_HOLD_CAL = 0 ∧
     v6_13.takesWrite 0 PLB_LOOP_CTRL 2147483648 ∧ v6_13.fld PLB_LOOP_CTRL_LOOP_OPEN = 0 ∧
     Nat.testBit 2147483648 31 = true ∧ v6_13.synState ≠ 4 ∧ (v6_13.advance 0).synState = 3 ∧
     (v6_13.advance 0).fld PLB_SYN_STAT_OUT_OF_SPEC = 0 ∧ (v6_13.advance 0).specLeft = 0) ∧
    (v6_10.Inv ∧ v6_10.synState = 1 ∧ v6_10.bly.joining = false) ∧
    (v6_24.Inv ∧ v6_24.synState = 2 ∧ v6_24.takesWrite 0 PLB_CTRL 1 ∧ v6_24.cfgMode = true) := by
  refine ⟨?_, ?_, ?_⟩ <;> decide +kernel

/-- A state and operands for every line of `Obligations.StationTime`. -/
theorem witness_StationTime :
    (v6_18.Inv ∧
     ((fun u off => u.mode ≠ Mode.reset ∧ u.inTurn u.fwd (u.idx, Forwarded.readReg 0 off) = true ∧ u.pageGated (off / 4096) = false ∧ u.frozenPage (off / 4096) = none) (v6_18.advance 0) PLB_TIME_LO) ∧
     ((fun u off => u.mode ≠ Mode.reset ∧ u.inTurn u.fwd (u.idx, Forwarded.readReg 0 off) = true ∧ u.pageGated (off / 4096) = false ∧ u.frozenPage (off / 4096) = none) v6_18 PLB_TICK_IDX_LO) ∧
     v6_18.takesWrite 0 (PLB_CMP_CTRL + 16 * 15) 1073741824 ∧ Nat.testBit 1073741824 30 = true ∧
     (v6_18.advance 0).cmpArmed 15 = true ∧
     0 ≤ cmpDiff ((v6_18.advance 0).cmpTime 15) ((v6_18.advance 0).target 15) ∧
     (v6_18.advance 0).fireFollows 15 = false ∧ (v6_18.advance 0).fld (unitFld PLB_CMP_CTRL_PERIODIC 15) = 0) ∧
    (v6_17.Inv ∧ v6_17.takesWrite 0 PLB_TIME_CTRL 2147483648 ∧ Nat.testBit 2147483648 30 = false ∧
     Nat.testBit 2147483648 31 = true ∧ v6_17.takesWrite 0 (PLB_CMP_CTRL + 16 * 15) 2147483648) ∧
    (v6_26.Inv ∧
     (((v6_26.advance 0).fld (unitFld PLB_CAP_CTRL_SRC 15) = 1 ∨ (v6_26.advance 0).fld (unitFld PLB_CAP_CTRL_SRC 15) = 2) ∧ (2 ≤ (v6_26.advance 0).fld (unitFld PLB_CAP_CTRL_EDGE 15) ∨ (true = true ↔ (v6_26.advance 0).fld (unitFld PLB_CAP_CTRL_EDGE 15) = 0)) ∨ (v6_26.advance 0).fld (unitFld PLB_CAP_CTRL_SRC 15) = 3 ∧ true = true) ∧
     (v6_26.advance 0).fld (unitFld PLB_CAP_CTRL_EN 15) = 1 ∧
     ((v6_26.advance 0).fld (unitFld PLB_CAP_CTRL_VALID 15) = 0 ∨ (v6_26.advance 0).fld (unitFld PLB_CAP_CTRL_ONESHOT 15) = 0) ∧
     (v6_26.advance 0).fld (unitFld PLB_CAP_CTRL_VALID 15) = 1) ∧
    (v6_15.Inv ∧ v6_15.takesWrite 0 PLB_TIME_CTRL 1275068416 ∧ Nat.testBit 1275068416 30 = true ∧
     Nat.testBit 1275068416 31 = false ∧ bitsNat 1275068416 27 26 = 3 ∧ v6_15.cfgMode = true) ∧
    (v6_16.Inv ∧ v6_16.takesWrite 0 PLB_TIME_CTRL 1275068416 ∧ Nat.testBit 1275068416 30 = true ∧
     Nat.testBit 1275068416 31 = false ∧ bitsNat 1275068416 27 26 = 3 ∧ v6_16.mode = Mode.active) ∧
    (v6_20.Inv ∧ mget 0 v6_20.plb.pulses 7 = 1) := by
  refine ⟨?_, ?_, ?_, ?_, ?_, ?_⟩ <;> decide +kernel

end Sys2Proof.Tests.W6

namespace Sys2Proof.Tests.W7
open Sys2Proof.Machine

def run (m : Mode) (fs : List (Fld × Nat) := []) : State := fs.foldl (fun s e => s.setFld e.1 e.2) { State.reset with mode := m }
def setWords (l : List (Nat × Word)) (s : State) : State := l.foldl (fun s e => s.setWord e.1 e.2) s
def netOn (fs : List (Fld × Nat) := []) : State := run .active ([(netFld NET_PORT_CTRL_EN 3, 1), (netFld NET_PORT_CTRL_MEDIA_PCT 3, 50)] ++ fs)
def arpReq : List Byte := List.replicate 12 0 ++ beBytes 2 0x0806 ++ List.replicate 6 0 ++ beBytes 2 1 ++ List.replicate 42 0
def v7_1 : State := netOn ([(refFld PLB_REF_CFG_SRC 3, 3), (refFld PLB_REF_STAT_STATE 3, 4)])
def ptpOn (st : Nat) (fs : List (Fld × Nat) := []) (f : PtpInst → PtpInst := id) : State := (run .active ([(ptpFld PTP_CTRL_EN 1, 1), (ptpFld portStateFld 1, st)] ++ fs)).onPtp 1 f
def msg0 (b : PtpBody) : PtpMsg := ⟨0, 5, 9, 3, 1000, true, b⟩
def foreign : ForeignMaster := ⟨⟨1, 2, 3, 4, 5, 6, 7⟩, 5, true⟩
def v7_2 : State := ptpOn 9
def v7_3 := {msg0 .delayReq with domain := 200}
def v7_4 : State := ptpOn 9 [] fun x => {x with parent := some foreign}
def v7_5 : State := ptpOn 8 [] fun x => {x with parent := some foreign}
def v7_6 : State := ptpOn 8 [] fun x => {x with parent := some foreign, req := some (9, 7), t12 := some (1, 2)}
def v7_7 : State := ptpOn 6 [(ptpFld PTP_CTRL_MASTER_OK 1, 1), (ptpFld PTP_CTRL_ONE_STEP 1, 1)]
/-- One channel, 6 samples a packet, payload type 96, port 3, to 1:1. -/
def desc0 : List Word := [BitVec.ofNat 72 (3 * 2 ^ 58 + 2 ^ 46 + 96 * 2 ^ 28), 0, 0, 0]
def pkt0 : RtpPacket := ⟨0, 0, 0, 0, 2, false, 96, 1, 0, []⟩
def cmd0 (op : Nat) (ws : List Word) : Cmd := ⟨BitVec.ofNat 72 (op * 2 ^ 56 + 9) :: ws, false, none⟩
def runs (c : Cmd) (s : State) : State := s.onCrn fun k => { k with cur := some c }
def v7_9 : State := netOn.onNet fun n => {n with rx := [(5, ⟨desc0, none, none, none, none, [], [], false⟩)]}
def tx0 : TxStream := ⟨desc0, 0, 65535, none⟩
def wTx : State := netOn.onNet fun n => {n with tx := [(127, tx0)], taken := (List.range 6).map fun i => (i, 7)}
def wOpenOk : State := runs (cmd0 0x70 [2 ^ 63 + 127 * 2 ^ 56]) (setWords ((desc0.zip [0,1,2,3]).map fun e => (0x10000000 + 16 * e.2, e.1)) netOn)
def v7_10 := cmd0 0x70 [2 ^ 63 + 127 * 2 ^ 56]
def v7_11 := ((wOpenOk.readDesc 0).1.getD [])
def wOpenBad : State := runs (cmd0 0x70 [2 ^ 63 + 127 * 2 ^ 56]) netOn
def v7_12 := ((wOpenBad.readDesc 0).1.getD [])
def wOpenOff : State := runs (cmd0 0x70 [2 ^ 63 + 127 * 2 ^ 56]) (netOn [(bankField 0, 0)])
def v7_14 : State := runs (cmd0 0x71 [2 ^ 63 + 127 * 2 ^ 56]) wTx
def v7_15 := cmd0 0x71 [2 ^ 63 + 127 * 2 ^ 56]
def v7_16 : State := runs (cmd0 0x71 [2 ^ 63 + 126 * 2 ^ 56]) wTx
def v7_17 := cmd0 0x71 [2 ^ 63 + 126 * 2 ^ 56]
def ttOn (fs : List (Fld × Nat) := []) (f : Net → Net := id) : State :=
  let s := (run .active ([(NET_TT_CTRL_EN, 1)] ++ fs)).onNet fun n => f { n with running := true, ctrl := BitVec.ofNat 32 (2^31) }
  s.setWord (globalAddr (s.imgWord 63 24)) (2 ^ 63 + 9)
def frame0 (type n : Nat) : List Byte :=
  let b := beBytes 2 0x5448 ++ beBytes 1 1 ++ beBytes 1 type ++ beBytes 1 63 ++ beBytes 1 0 ++ beBytes 2 n ++ List.replicate (n - 12) 0
  b ++ leBytes 4 (crc32 b)
def v7_18 := (ttOn.stationFrame 9 (frame0 2 88)).2
def v7_19 := (ttOn.stationFrame 9 (frame0 4 24)).2
def v7_20 := (ttOn.stationFrame 9 (frame0 6 60)).2
def wIn : State := ttOn [(stFld TTS_STAT_STATE 63, 1)] fun n => {n with station := [(63, {Station.init with gotIn := true, out := some [1,2]})]}
def cSweep : Cmd := cmd0 0x72 [2 ^ 63, 0]
def sweep0 : SweepRun := ⟨cSweep, 1, 1, 0, 0, [], 0, [], [], []⟩
def v7_23 : State := runs cSweep (ttOn [] fun n => {n with sweep := some sweep0})
def v7_24 : State := runs (cmd0 0x73 []) (ttOn [] fun n => {n with sweep := some sweep0})
def v7_25 : State := runs (cmd0 0x73 []) ttOn
def wSweep : State := runs cSweep (setWords [(0x10000000, 2 ^ 52)] (ttOn [(stFld TTS_STAT_STATE 63, 1)]))
def v7_26 := ((State.burstRead 5 5 0 (cSweep.bits 2 22 0) wSweep).1.getD [])
def v7_27 := (State.burstRead 5 5 0 (cSweep.bits 2 22 0) wSweep).2
def v7_30 := (List.replicate 12 0 ++ beBytes 2 0x0800 ++ [0x46] ++ List.replicate 60 0)

/-- A state and operands for every line of `Obligations.EthernetFrames`. -/
theorem witness_EthernetFrames :
    ((v7_1.advance 0).netEn 3 = true ∧ 64 ≤ arpReq.length ∧ arpReq.length ≤ 1522 ∧ beAt arpReq 12 2 = 2054 ∧
     beAt arpReq 38 4 = (List.foldl (fun v k => v.captureOn 5 (some k)) (v7_1.advance 0) (List.filter (fun k => (v7_1.advance 0).capFilter k 3 2054 none) (List.range 16))).netIp 3 ∧
     beAt arpReq 20 2 = 1 ∧ v7_1.Inv ∧ v7_1.fld (refFld PLB_REF_CFG_SRC 3) = 3 ∧ v7_1.refGood 3 = true) ∧
    ((netOn.advance 0).netEn 3 = true ∧
     ((List.replicate 63 0).length < 64 ∨ 1522 < (List.replicate 63 0).length)) ∧
    ((netOn.advance 0).netEn 3 = true ∧ beAt v7_30 12 2 = 2048 ∧
     ipOdd (List.take (v7_30.length - 18) (List.drop 14 v7_30)) = true) := by
  refine ⟨?_, ?_, ?_⟩ <;> decide +kernel

/-- A state and operands for every line of `Obligations.PtpMessages`. -/
theorem witness_PtpMessages :
    (v7_2.ptpEn 1 = true ∧ (¬BitVec.toNat v7_3.domain = v7_2.fld (ptpFld PTP_CTRL_DOMAIN 1)) ∧ v7_2.Inv ∧
     v7_2.ptpState 1 ≠ 6) ∧
    (v7_7.ptpEn 1 = true ∧
     BitVec.toNat (msg0 PtpBody.delayReq).domain = v7_7.fld (ptpFld PTP_CTRL_DOMAIN 1) ∧
     (msg0 PtpBody.delayReq).body = PtpBody.delayReq ∧ v7_7.ptpState 1 = 6 ∧ v7_7.mayMaster 1 = true ∧
     v7_7.peerDelay 1 = false ∧ v7_7.fld (ptpFld PTP_CTRL_ONE_STEP 1) = 1) ∧
    (v7_4.ptpEn 1 = true ∧
     BitVec.toNat (msg0 (PtpBody.sync false 500)).domain = v7_4.fld (ptpFld PTP_CTRL_DOMAIN 1) ∧
     ((v7_4.ptpState 1 = 8 ∨ v7_4.ptpState 1 = 9) ∧ ∃ f ∈ (v7_4.ptp 1).parent, f.src = (msg0 (PtpBody.sync false 500)).src) ∧
     (msg0 (PtpBody.sync false 500)).body = PtpBody.sync false 500) ∧
    (v7_5.ptpEn 1 = true ∧
     BitVec.toNat (msg0 (PtpBody.sync true 500)).domain = v7_5.fld (ptpFld PTP_CTRL_DOMAIN 1) ∧
     ((v7_5.ptpState 1 = 8 ∨ v7_5.ptpState 1 = 9) ∧ ∃ f ∈ (v7_5.ptp 1).parent, f.src = (msg0 (PtpBody.sync true 500)).src) ∧
     (msg0 (PtpBody.sync true 500)).body = PtpBody.sync true 500) ∧
    (v7_6.ptpEn 1 = true ∧
     BitVec.toNat (msg0 (PtpBody.delayResp 30)).domain = v7_6.fld (ptpFld PTP_CTRL_DOMAIN 1) ∧
     ((v7_6.ptpState 1 = 8 ∨ v7_6.ptpState 1 = 9) ∧ ∃ f ∈ (v7_6.ptp 1).parent, f.src = (msg0 (PtpBody.delayResp 30)).src) ∧
     (msg0 (PtpBody.delayResp 30)).body = PtpBody.delayResp 30 ∧ (msg0 (PtpBody.delayResp 30)).mine = true ∧
     v7_6.peerDelay 1 = false ∧ (v7_6.ptp 1).req = some ((msg0 (PtpBody.delayResp 30)).seq.toNat, 7) ∧
     (v7_6.ptp 1).t12 = some (1, 2)) := by
  refine ⟨?_, ?_, ?_, ?_, ?_⟩ <;> decide +kernel

/-- A state and operands for every line of `Obligations.Streams`. -/
theorem witness_Streams :
    (wTx.netEn 3 = true ∧
     (wTx.rxMatch 3 pkt0.srcIp.toNat pkt0.dstIp.toNat pkt0.srcPort.toNat pkt0.dstPort.toNat = none ∨ pkt0.version ≠ 2 ∨ pkt0.padding = true) ∧
     wTx.Inv ∧ mfind wTx.net.closing 127 = none ∧ mfind wTx.net.tx 127 = some tx0 ∧
     wTx.packetStart tx0 = some 0) ∧
    (v7_9.netEn 3 = true ∧
     v7_9.rxMatch 3 pkt0.srcIp.toNat pkt0.dstIp.toNat pkt0.srcPort.toNat pkt0.dstPort.toNat = some (5, 0) ∧
     pkt0.version = 2 ∧ pkt0.padding = false) ∧
    (wOpenOk.netEn 3 = true ∧ wOpenOk.crn.cur = some v7_10 ∧ v7_10.opcode = 112 ∧
     wOpenOk.readDesc (v7_10.bits 1 22 0) = (some v7_11, (wOpenOk.readDesc 0).snd) ∧
     (v7_10.word 1).getLsbD 63 = true ∧
     (wOpenOk.readDesc 0).snd.streamCheck true (v7_10.bits 1 62 56) v7_11 = none) ∧
    (wOpenBad.netEn 3 = true ∧ wOpenBad.crn.cur = some v7_10 ∧ v7_10.opcode = 112 ∧
     wOpenBad.readDesc (v7_10.bits 1 22 0) = (some v7_12, (wOpenBad.readDesc 0).snd) ∧
     (v7_10.word 1).getLsbD 63 = true ∧
     (wOpenBad.readDesc 0).snd.streamCheck true (v7_10.bits 1 62 56) v7_12 = some (2, 2)) ∧
    (wOpenOff.netEn 3 = true ∧ wOpenOff.crn.cur = some v7_10 ∧ v7_10.opcode = 112 ∧
     wOpenOff.readDesc (v7_10.bits 1 22 0) = (none, (wOpenOff.readDesc 0).snd)) ∧
    (v7_14.netEn 3 = true ∧ v7_14.crn.cur = some v7_15 ∧ v7_15.opcode = 113 ∧
     (v7_15.word 1).getLsbD 63 = true ∧ mfind v7_14.net.tx (v7_15.bits 1 62 56) = some tx0) ∧
    (v7_16.netEn 3 = true ∧ v7_16.crn.cur = some v7_17 ∧ v7_17.opcode = 113 ∧
     (v7_17.word 1).getLsbD 63 = true ∧ mfind v7_16.net.tx (v7_17.bits 1 62 56) = none) := by
  refine ⟨?_, ?_, ?_, ?_, ?_, ?_, ?_⟩ <;> decide +kernel

/-- A state and operands for every line of `Obligations.TetherCycle`. -/
theorem witness_TetherCycle :
    (wSweep.ttEn = true ∧ wSweep.net.running = true ∧ wSweep.ttFollows = false ∧
     wSweep.stationFrame 9 [] = (none, v7_27) ∧ (wSweep.station 63).wrote = false ∧ wSweep.ttState 63 = 1 ∧
     (¬196 * 32 ∈ wSweep.inj) ∧ (wSweep.station 63).gotIn = false ∧ wSweep.Inv ∧
     wSweep.crn.cur = some cSweep ∧ cSweep.opcode = 114 ∧ wSweep.net.sweep = none ∧
     State.burstRead 5 5 0 (cSweep.bits 2 22 0) wSweep = (some v7_26, v7_27) ∧ cSweep.bits 1 63 0 = 2 ^ 63 ∧
     v7_27.ttState 63 = 1 ∧ wbits (v7_26.getD 0 0) 59 52 ≠ 0) ∧
    (wIn.ttEn = true ∧ wIn.net.running = true ∧ wIn.ttFollows = false ∧ (wIn.station 63).wrote = false ∧
     wIn.ttState 63 = 1 ∧ (¬196 * 32 ∈ wIn.inj) ∧ (wIn.station 63).gotIn = true ∧ wIn.net.sweep = none ∧
     (wIn.station 63).out = some [1, 2] ∧ (wIn.station 63).resent = false) ∧
    (ttOn.ttEn = true ∧ ttOn.net.running = true ∧ ttOn.ttFollows = false ∧
     ttOn.stationFrame 9 (frame0 2 88) = (some 63, v7_18) ∧ v7_18.forwards = false ∧
     beAt (frame0 2 88) 3 1 = 2) ∧
    (ttOn.ttEn = true ∧ ttOn.net.running = true ∧ ttOn.ttFollows = false ∧
     ttOn.stationFrame 9 (frame0 4 24) = (some 63, v7_19) ∧ v7_19.forwards = false ∧
     beAt (frame0 4 24) 3 1 = 4 ∧ beAt (frame0 4 24) 12 4 = v7_19.ttCycle) ∧
    (ttOn.ttEn = true ∧ ttOn.net.running = true ∧ ttOn.ttFollows = false ∧
     ttOn.stationFrame 9 (frame0 6 60) = (some 63, v7_20) ∧ v7_20.forwards = false ∧
     beAt (frame0 6 60) 3 1 = 6) ∧
    (v7_23.ttEn = true ∧ v7_23.net.running = true ∧ v7_23.ttFollows = false ∧ v7_23.crn.cur = some cSweep ∧
     cSweep.opcode = 114 ∧ v7_23.net.sweep = some sweep0) ∧
    (v7_24.ttEn = true ∧ v7_24.net.running = true ∧ v7_24.ttFollows = false ∧
     v7_24.crn.cur = some (cmd0 115 []) ∧ (cmd0 115 []).opcode = 115 ∧ v7_24.net.sweep = some sweep0) ∧
    (v7_25.ttEn = true ∧ v7_25.net.running = true ∧ v7_25.ttFollows = false ∧
     v7_25.crn.cur = some (cmd0 115 []) ∧ (cmd0 115 []).opcode = 115 ∧ v7_25.net.sweep = none) := by
  refine ⟨?_, ?_, ?_, ?_, ?_, ?_, ?_, ?_⟩ <;> decide +kernel

end Sys2Proof.Tests.W7

namespace Sys2Proof.Tests.W8
open Sys2Proof.Machine

def run (m : Mode) (fs : List (Fld × Nat) := []) : State := fs.foldl (fun s e => s.setFld e.1 e.2) { State.reset with mode := m }
def amp (c st : Nat) (fs : List (Fld × Nat) := []) (f : MltChan → MltChan := id) (m : Mode := .active) : State :=   (run m ([(mFld MLT_CH_STAT_STATE c, st)] ++ fs)).onChan c f
def v8_1 : State := amp 62 0 [(mFld MLT_CTRL_EN 62, 1)]
def v8_3 : State := {amp 62 2 [(mFld MLT_CTRL_EN 62, 1)] with idx := 1}
def v8_4 : State := amp 62 3 [] fun k => {k with en := true}
def v8_5 : State := amp 62 3 [(mFld MLT_CTRL_EN 62, 1)] fun k => {k with en := true, lostV := false}
def v8_8 : State := amp 62 4 [] fun k => {k with en := true}
def v8_9 : State := amp 62 6 [] fun k => {k with en := true}
def v8_11 : State := amp 62 5 [(mFld MLT_CH_STAT_RETRY_USED 62, 255)] fun k => {k with waiting := true}
def v8_14 : State := amp 62 3 [(MLT_GCTRL_SCLK_EN,1)] fun k => {k with ramp := 256}
def v8_16 : State := amp 62 3 [(MLT_GCTRL_SCLK_EN,1)] fun k => {k with valley := false, ramp := 4}
def v8_17 : State := amp 62 2 [(MLT_GCTRL_SCLK_EN,1),(mFld MLT_SENSE_IFS 62, 5)] fun k => {k with valley := false, ramp := 4}
def v8_18 : State := amp 62 0 [] id .config
def v8_19 : State := amp 62 6 [(⟨MLT_DIAG_MASK_HI,31,0⟩, 2 ^ 30),(⟨MLT_DIAG_MASK_LO,31,0⟩, 0)]
def diag0 : DiagRun := ⟨1, some 0, false, 1, 0, false, false⟩
def v8_22 : State := amp 62 1 [] fun k => {k with diag := some diag0}
def v8_23 : State := amp 62 1 [] fun k => {k with diag := some diag0, lostI := false, lostV := false}
def v8_24 : State := amp 62 1 [] fun k => {k with diag := some {diag0 with test := 3, sub := 1}, lostI := false, lostV := false}
def v8_25 := {diag0 with test := 3, sub := 1}
def v8_26 : State := amp 62 1 [(MLT_DIAG_CMD_START,1)] fun k => {k with diag := some {diag0 with done := true}}
def v8_27 : State := amp 62 3
def v8_28 : State := amp 62 3 [] fun k => {k with sweep := some 0}
def v8_29 : State := amp 62 3 [(mFld MLT_SWP_CTRL_POINTS_M1 62, 0),(mFld MLT_SWP_CTRL_START 62, 1)] fun k => {k with sweep := some 1}

/-- A state and operands for every line of `Obligations.ChannelStates`. -/
theorem witness_ChannelStates :
    (v8_5.Inv ∧ risingFrom none v8_5.mlt.chan = true ∧ v8_5.lead 62 = 62 ∧ v8_5.mltDecides = true ∧
     v8_5.mltOn = true ∧ v8_5.chState 62 = 3 ∧ (v8_5.chan 62).lostV = false) ∧
    (v8_3.Inv ∧ risingFrom none v8_3.mlt.chan = true ∧ v8_3.lead 62 = 62 ∧ v8_3.mltDecides = true ∧
     v8_3.mltOn = true ∧ v8_3.chState 62 = 2 ∧ v8_3.chanUnit 62 = none ∧ (v8_3.chan 62).armed ≠ v8_3.idx) ∧
    (v8_11.Inv ∧ risingFrom none v8_11.mlt.chan = true ∧ v8_11.lead 62 = 62 ∧ v8_11.mltDecides = true ∧
     v8_11.mltOn = true ∧ v8_11.fld (mFld MLT_CTRL_EN 62) = 0 ∧ v8_11.chState 62 ∈ [1, 2, 5, 6] ∧
     ((v8_11.chan 62).en = true ∨ ∀ d ∈ (v8_11.chan 62).diag, d.back = none) ∧ v8_11.chState 62 = 5 ∧
     (v8_11.chan 62).waiting = true) ∧
    (v8_1.Inv ∧ risingFrom none v8_1.mlt.chan = true ∧ v8_1.lead 62 = 62 ∧ v8_1.mltDecides = true ∧
     v8_1.mltOn = true ∧ v8_1.fld (mFld MLT_CTRL_EN 62) = 1 ∧ v8_1.chState 62 = 0 ∧ v8_1.runMode = true) ∧
    (v8_4.Inv ∧ risingFrom none v8_4.mlt.chan = true ∧ v8_4.lead 62 = 62 ∧ v8_4.mltDecides = true ∧
     v8_4.mltOn = true ∧ v8_4.fld (mFld MLT_CTRL_EN 62) = 0 ∧ v8_4.chState 62 = 3 ∧
     ((v8_4.chan 62).en = true ∨ ∀ d ∈ (v8_4.chan 62).diag, d.back = none)) ∧
    (v8_8.Inv ∧ risingFrom none v8_8.mlt.chan = true ∧ v8_8.lead 62 = 62 ∧ v8_8.mltDecides = true ∧
     v8_8.mltOn = true ∧ v8_8.chState 62 = 4 ∧ (v8_8.chan 62).ramp = 0) ∧
    (v8_9.Inv ∧ risingFrom none v8_9.mlt.chan = true ∧ v8_9.lead 62 = 62 ∧ v8_9.mltDecides = true ∧
     v8_9.mltOn = true ∧ v8_9.takesWrite 0 (MLT_CMD + 4096 * 62) 2 ∧ v8_9.chState 62 = 6 ∧
     Nat.testBit 2 1 = true) := by
  refine ⟨?_, ?_, ?_, ?_, ?_, ?_, ?_⟩ <;> decide +kernel

/-- A state and operands for every line of `Obligations.ChannelLoop`. -/
theorem witness_ChannelLoop :
    (v8_16.Inv ∧ risingFrom none v8_16.mlt.chan = true ∧ v8_16.mltOn = true ∧
     v8_16.fld MLT_GCTRL_SCLK_EN = 1 ∧ (v8_16.takeBits 62 [true, false] [true, true]).lead 62 = 62 ∧
     (v8_16.takeBits 62 [true, false] [true, true]).loops 62 = true ∧ v8_16.chState 62 = 3 ∧
     (v8_16.chState (v8_16.lead 62) = 3 ∨ v8_16.chState (v8_16.lead 62) = 4) ∧ v8_16.lead 62 = 62 ∧
     (v8_16.chan 62).valley = false) ∧
    (v8_17.Inv ∧ risingFrom none v8_17.mlt.chan = true ∧ v8_17.mltOn = true ∧
     v8_17.chState (v8_17.lead 62) ∈ [0, 2, 5, 6] ∧ (v8_17.rd SVC_CTRL).getLsbD 0 = false ∧
     v8_17.mltDecides = true) ∧
    (v8_14.Inv ∧ risingFrom none v8_14.mlt.chan = true ∧ v8_14.mltOn = true) := by
  refine ⟨?_, ?_, ?_⟩ <;> decide +kernel

/-- A state and operands for every line of `Obligations.ChannelTests`. -/
theorem witness_ChannelTests :
    (v8_26.Inv ∧ risingFrom none v8_26.mlt.chan = true ∧ v8_26.takesWrite 0 MLT_DIAG_CMD 1 ∧
     Nat.testBit 1 0 = true ∧ v8_26.mltDecides = true ∧ v8_26.mode = Mode.active ∧
     v8_26.fld MLT_DIAG_CMD_START = 1 ∧ v8_26.endedBatch = some 1 ∧ 62 ∈ v8_26.batchChans 1) ∧
    (v8_27.Inv ∧ risingFrom none v8_27.mlt.chan = true ∧
     v8_27.takesWrite 0 (MLT_SWP_CTRL + 4096 * 62) 2667577344 ∧ Nat.testBit 2667577344 31 = true ∧
     v8_27.chState 62 = 3 ∧ v8_27.lead 62 = 62 ∧ (v8_27.chan 62).sweep = none) ∧
    (v8_19.Inv ∧ risingFrom none v8_19.mlt.chan = true ∧ v8_19.takesWrite 0 MLT_DIAG_CMD 1 ∧
     Nat.testBit 1 0 = true ∧ v8_19.mltDecides = true ∧ v8_19.mode = Mode.active ∧
     v8_19.fld MLT_DIAG_CMD_START = 0 ∧ v8_19.mltOn = true ∧
     v8_19.rdPair MLT_DIAG_MASK_LO MLT_DIAG_MASK_HI = 2 ^ 62 ∧ v8_19.lead 62 = 62 ∧
     (v8_19.chState 62 = 0 ∨ v8_19.chState 62 = 6)) ∧
    (v8_29.Inv ∧ risingFrom none v8_29.mlt.chan = true ∧ (v8_29.chan 62).sweep = some 1 ∧
     v8_29.fld (mFld MLT_SWP_CTRL_POINTS_M1 62) < 1) ∧
    (v8_22.Inv ∧ risingFrom none v8_22.mlt.chan = true ∧ v8_22.mltDecides = true ∧
     (v8_22.chan 62).diag = some diag0 ∧ diag0.done = false ∧ diag0.test = 1 ∧
     ((v8_22.chan 62).lostV = true ∨ (v8_22.chan 62).lostI = true) ∧ diag0.retry = false) ∧
    (v8_18.Inv ∧ risingFrom none v8_18.mlt.chan = true ∧ v8_18.takesWrite 0 MLT_DIAG_CMD 1 ∧
     Nat.testBit 1 0 = true ∧ v8_18.mltDecides = true ∧ v8_18.mode ≠ Mode.active) ∧
    (v8_23.Inv ∧ risingFrom none v8_23.mlt.chan = true ∧ v8_23.mltDecides = true ∧
     (v8_23.chan 62).diag = some diag0 ∧ diag0.done = false ∧ diag0.test = 1 ∧
     (v8_23.chan 62).lostV = false ∧ (v8_23.chan 62).lostI = false) ∧
    (v8_24.Inv ∧ risingFrom none v8_24.mlt.chan = true ∧ v8_24.mltDecides = true ∧
     (v8_24.chan 62).diag = some v8_25 ∧ v8_25.done = false ∧ (v8_25.test = 2 ∨ v8_25.test = 3) ∧
     v8_25.sub ≠ 0) ∧
    (v8_28.Inv ∧ risingFrom none v8_28.mlt.chan = true ∧ (v8_28.chan 62).sweep = some 0 ∧
     0 ≤ v8_28.fld (mFld MLT_SWP_CTRL_POINTS_M1 62)) := by
  refine ⟨?_, ?_, ?_, ?_, ?_, ?_, ?_, ?_, ?_⟩ <;> decide +kernel

end Sys2Proof.Tests.W8

namespace Sys2Proof.Tests.W9
open Sys2Proof.Machine

def run (m : Mode) (fs : List (Fld × Nat) := []) : State := fs.foldl (fun s e => s.setFld e.1 e.2) { State.reset with mode := m }
def setWords (l : List (Nat × Word)) (s : State) : State := l.foldl (fun s e => s.setWord e.1 e.2) s
def chunk0 : Chunk := ⟨2, 0, 5, 0, 0, 0, 3, 0, 0, List.replicate 9 1, false⟩
/-- A flash with four free blocks on each channel. -/
def vol0 (segs : List Segment) : Volume := ⟨1, 7, segs, [], [], (List.range 8).flatMap fun ch => (List.range 4).map fun b => blockKey ch (b + 10), [], [], 64, false⟩
def flash (v : Volume) (f : Tyd → Tyd := id) (m : Mode := .active) : State := (run m [(TYD_STAT_STATE, 2), (TYD_RESERVE_SEGMENTS, 0)]).onTyd fun t => f { t with vol := some v }
def seg0 : Segment := ⟨3, 2, 0, (List.range 8).map fun ch => blockKey ch 1, [List.replicate 7 [chunk0]], [], true, true, []⟩
def rd0 : PageRead := ⟨3, 0, 2, List.replicate 8 0, List.replicate 8 false, []⟩
def v9_1 : State := run .config
def v9_2 : State := run .config [(TYD_STAT_STATE, 1)]
def v9_3 : State := flash (vol0 [seg0])
def v9_4 := {rd0 with seq := 8}
def wRel : State := flash (vol0 [seg0])
def volRel : Volume := ((vol0 [seg0]).newSeg 0 0).getD (vol0 [])
def v9_7 := (volRel.segs.getLast?.getD seg0)
def wPage : State := flash (vol0 []) fun t => {t with buf := List.replicate 9 chunk0}
def ck : List Chunk × State := (List.range 8).foldl (fun (a : List Chunk × State) _ => (a.1 ++ [(a.2.ownRecord 6).1], (a.2.ownRecord 6).2)) ([], wRel)
def wItem : State := flash (vol0 [seg0])
def v9_13 : State := run .active
def plays (p : Playback) : State := (run .active).onTyd fun t => {t with pb := [(63, p)]}
def v9_14 : State := plays ⟨some (5, some 0), none⟩
def v9_15 : State := plays ⟨some (5, some 9), none⟩
def cmd0 (op : Nat) (ws : List Word) : Cmd := ⟨BitVec.ofNat 72 (op * 2 ^ 56 + 9) :: ws, false, none⟩
def runs (c : Cmd) (s : State) : State := s.onCrn fun k => { k with cur := some c }
def cF : Cmd := cmd0 0x46 []
def v9_16 : State := runs cF (flash (vol0 []) id .config)
def v9_19 : State := runs cF (plays ⟨none,none⟩ |>.onTyd fun t => {t with exp := some ⟨cF, 0, 9, 0, 0, 0, 4096, 1, []⟩})
def c40 : Cmd := cmd0 0x40 [0]
def wExp : State := runs c40 (setWords [(0x10000030, 2)] (flash (vol0 [])))
def v9_20 : State := runs c40 (flash (vol0 []) fun t => {t with exp := some ⟨cF, 0, 9, 0, 0, 0, 4096, 1, []⟩})
def v9_21 := ((State.burstRead 4 12 0 0 wExp).1.getD [])
def v9_22 := (State.burstRead 4 12 0 0 wExp).2
def wAb : State := runs (cmd0 0x41 []) (flash (vol0 []))
def c42 (op : Nat) : Cmd := cmd0 op [5 * 2 ^ 48 + 2 ^ 56, 3]
def wImp (op : Nat) : State := runs (c42 op) (setWords [(0x10000010, 0x12345)] (flash (vol0 [])))
def impArgs (op : Nat) : List Word × State := (((State.burstRead 4 3 0 0 (wImp op)).1.getD []), (State.burstRead 4 3 0 0 (wImp op)).2)
def v9_26 : State := wImp 0x42
def v9_28 : State := wImp 0x44
def v9_30 : State := wImp 0x43
def cDel : Cmd := cmd0 0x43 [5 * 2 ^ 48]
def v9_31 : State := runs cDel wItem
def cGet : Cmd := cmd0 0x45 [5 * 2 ^ 56, 2]
def v9_32 : State := runs cGet wItem
def wArch : State := runs cGet (flash (vol0 [{seg0 with typ := 3, stripes := [List.replicate 7 [{chunk0 with typ := 3}]]}]))
def archArgs : List Word × State := wArch.archiveWords (wArch.storedChunks 3 5)
def v9_33 := (State.burstWrite 4 (archArgs.1.take 2) 0 0 archArgs.2).2
def importCut : List Chunk :=
  ((pieces 672 (impArgs 66).1.length (impArgs 66).1).zip (List.range (pieces 672 (impArgs 66).1.length (impArgs 66).1).length)).map fun p =>
    ⟨2, if (impArgs 66).2.plb.fast then 1 else 0, (c42 66).bits 1 63 48, 0, 0 + 672 * p.2, 0, p.1.length, 0, 0 + p.2, p.1.flatMap fun w => beBytes 3 (code24 w), false⟩
def archiveCut : List Chunk :=
  ((pieces 224 (impArgs 68).1.length (impArgs 68).1).zip (List.range (pieces 224 (impArgs 68).1.length (impArgs 68).1).length)).map fun p =>
    ⟨3, 0, (c42 68).bits 1 63 56, 0, 224 * p.2, 0, p.1.length, 0, 0 + p.2, p.1.flatMap fun w => beBytes 9 w.toNat, false⟩

/-- A state and operands for every line of `Obligations.FlashVolume`. -/
theorem witness_FlashVolume :
    (v9_3.Inv ∧ v9_3.tydReady = true ∧ (takePage 2 0 v9_3.tyd.buf).fst.length < 8 ∧
     v9_3.tyd.vol = some (vol0 [seg0]) ∧ (∀ (g : Segment), g ∈ (vol0 [seg0]).segs → g.seq ≠ v9_4.seq) ∧
     (List.find? (fun g => g.closed && g.seq == 3) (vol0 [seg0]).segs = some seg0)) ∧
    (wRel.Inv ∧ wRel.tydReady = true ∧ wRel.tyd.vol = some (vol0 [seg0]) ∧
     List.find? (fun g => g.closed && g.reloc) (vol0 [seg0]).segs = some seg0 ∧
     (vol0 [seg0]).newSeg 0 0 = some volRel ∧ volRel.segs.getLast? = some v9_7) ∧
    (v9_2.Inv ∧ v9_2.tydState = 1) ∧
    (v9_3.Inv ∧ v9_3.tydReady = true ∧ v9_3.tyd.vol = some (vol0 [seg0]) ∧
     (List.find? (fun g => g.seq == rd0.seq) (vol0 [seg0]).segs = some seg0) ∧
     (rd0.stripe < seg0.stripes.length ∨ ∃ p, p ∈ seg0.cur ∧ p.fst = rd0.ch) ∧
     (∀ (g : Segment), g ∈ (vol0 [seg0]).segs → g.seq ≠ 99)) ∧
    (v9_1.Inv ∧ v9_1.takesWrite 0 TYD_CTRL 2147483648 ∧ v9_1.cfgMode = true ∧
     Nat.testBit 2147483648 31 = true ∧ v9_1.fld TYD_CTRL_MOUNT = 0 ∧ v9_1.tydState = 0) ∧
    (wPage.Inv ∧ wPage.tydReady = true ∧ wPage.tyd.vol = some (vol0 []) ∧
     (∀ (g : Segment), g ∈ (vol0 []).segs → g.closed = false ∨ g.reloc = false) ∧
     8 ≤ (takePage 2 0 wPage.tyd.buf).fst.length ∧
     (wPage.program 2 0 (takePage 2 0 wPage.tyd.buf).fst false false).fst = true) ∧
    (wRel.Inv ∧ wRel.tydReady = true ∧ wRel.tyd.vol = some (vol0 [seg0]) ∧
     (ck.snd.program 6 0 ck.fst false false).fst = true) := by
  refine ⟨?_, ?_, ?_, ?_, ?_, ?_, ?_⟩ <;> decide +kernel

/-- A state and operands for every line of `Obligations.PlaybackAndCommands`. -/
theorem witness_PlaybackAndCommands :
    (v9_19.Inv ∧ v9_19.crn.cur = some cF ∧ cF.opcode = 70 ∧ v9_19.cfgMode = false ∧
     (v9_19.tyd.exp = some { cmd := cF, start := 0, stop := 9, addr := 0, cls := 0, kind := 0, size := 4096, mask := 1, held := [] : ExportRun })) ∧
    (wExp.Inv ∧ wExp.crn.cur = some c40 ∧ wExp.tydReady = true ∧ wExp.tyd.frozen = false ∧ c40.opcode = 64 ∧
     wExp.tyd.exp = none ∧ State.burstRead 4 12 0 (c40.bits 1 22 0) wExp = (some v9_21, v9_22) ∧
     BitVec.toNat (v9_21.getD 2 0) % 2 ^ 64 % 2048 = 0 ∧
     2 ≤ bitsNat (BitVec.toNat (v9_21.getD 3 0) % 2 ^ 64) 31 0 ∧
     bitsNat (BitVec.toNat (v9_21.getD 3 0) % 2 ^ 64) 35 32 ≤ 1) ∧
    (v9_14.Inv ∧ risingFrom none v9_14.tyd.pb = true ∧ v9_14.takesWrite 0 (PB_CTRL + 16 * 63) 1073741829 ∧
     Nat.testBit 1073741829 31 = false ∧ Nat.testBit 1073741829 30 = true ∧
     (v9_14.playback 63 ≠ { armed := none, play := none : Playback }) ∧
     (v9_14.playback 63).armed = some (5, some v9_14.idx)) ∧
    (wItem.Inv ∧ risingFrom none wItem.tyd.pb = true ∧ wItem.takesWrite 0 (PB_CTRL + 16 * 63) 2147483653 ∧
     Nat.testBit 2147483653 31 = true ∧ Nat.testBit 2147483653 30 = false ∧
     (wItem.libItem (bitsNat 2147483653 15 0)).isSome = true) ∧
    (v9_13.Inv ∧ risingFrom none v9_13.tyd.pb = true ∧ v9_13.takesWrite 0 (PB_CTRL + 16 * 63) 2147483653 ∧
     Nat.testBit 2147483653 31 = true ∧ Nat.testBit 2147483653 30 = false ∧
     (v9_13.libItem (bitsNat 2147483653 15 0)).isNone = true ∧
     (¬(v9_13.mode = Mode.standby ∧ v9_13.lockstep = true))) ∧
    (wAb.Inv ∧ wAb.crn.cur = some (cmd0 65 []) ∧ wAb.tydReady = true ∧ wAb.tyd.frozen = false ∧
     (cmd0 65 []).opcode = 65) ∧
    (v9_16.Inv ∧ v9_16.crn.cur = some cF ∧ cF.opcode = 70 ∧ v9_16.cfgMode = true ∧ v9_16.tyd.frozen = false) ∧
    (v9_15.Inv ∧ risingFrom none v9_15.tyd.pb = true ∧ (v9_15.playback 63).armed = some (5, some 9) ∧
     9 ≠ v9_15.idx) ∧
    (v9_20.Inv ∧ v9_20.crn.cur = some c40 ∧ v9_20.tydReady = true ∧ v9_20.tyd.frozen = false ∧
     c40.opcode = 64 ∧ v9_20.tyd.exp.isSome = true) ∧
    (v9_26.Inv ∧ v9_26.crn.cur = some (c42 66) ∧ v9_26.tydReady = true ∧ v9_26.tyd.frozen = false ∧
     (c42 66).opcode = 66 ∧ v9_26.libItem ((c42 66).bits 1 63 48) = none ∧
     ((c42 66).word 1).getLsbD 47 = false ∧
     State.burstRead 4 ((c42 66).bits 2 20 0) 0 ((c42 66).bits 1 22 0) v9_26 = (some (impArgs 66).fst, (impArgs 66).snd) ∧
     (impArgs 66).snd.storedChunks 2 ((c42 66).bits 1 63 48) = [] ∧
     ((impArgs 66).snd.storeChunks 2 importCut).fst = true) ∧
    (v9_28.Inv ∧ v9_28.crn.cur = some (c42 68) ∧ v9_28.tydReady = true ∧ v9_28.tyd.frozen = false ∧
     (c42 68).opcode = 68 ∧
     State.burstRead 4 ((c42 68).bits 2 20 0) 0 ((c42 68).bits 1 22 0) v9_28 = (some (impArgs 68).fst, (impArgs 68).snd) ∧
     (impArgs 68).snd.storedChunks 3 ((c42 68).bits 1 63 56) = [] ∧
     ((impArgs 68).snd.storeChunks 3 archiveCut).fst = true) ∧
    (v9_30.Inv ∧ v9_30.crn.cur = some (c42 67) ∧ v9_30.tydReady = true ∧ v9_30.tyd.frozen = false ∧
     (c42 67).opcode = 67 ∧ v9_30.libItem ((c42 67).bits 1 63 48) = none) ∧
    (v9_31.Inv ∧ v9_31.crn.cur = some cDel ∧ v9_31.tydReady = true ∧ v9_31.tyd.frozen = false ∧
     cDel.opcode = 67 ∧ (v9_31.libItem (cDel.bits 1 63 48)).isSome = true) ∧
    (v9_32.Inv ∧ v9_32.crn.cur = some cGet ∧ v9_32.tydReady = true ∧ v9_32.tyd.frozen = false ∧
     cGet.opcode = 69 ∧ v9_32.storedChunks 3 (cGet.bits 1 63 56) = []) ∧
    (wArch.Inv ∧ wArch.crn.cur = some cGet ∧ wArch.tydReady = true ∧ wArch.tyd.frozen = false ∧
     cGet.opcode = 69 ∧ wArch.storedChunks 3 (cGet.bits 1 63 56) = wArch.storedChunks 3 5 ∧
     wArch.storedChunks 3 5 ≠ [] ∧
     wArch.archiveWords (wArch.storedChunks 3 5) = (archArgs.fst, archArgs.snd) ∧
     State.burstWrite 4 (List.take (cGet.bits 2 20 0) archArgs.fst) 0 (cGet.bits 1 22 0) archArgs.snd = (true, v9_33)) := by
  refine ⟨?_, ?_, ?_, ?_, ?_, ?_, ?_, ?_, ?_, ?_, ?_, ?_, ?_, ?_, ?_⟩ <;> decide +kernel

end Sys2Proof.Tests.W9

namespace Sys2Proof.Tests.W10
open Sys2Proof.Machine

def run (m : Mode) (fs : List (Fld × Nat) := []) : State := fs.foldl (fun s e => s.setFld e.1 e.2) { State.reset with mode := m }
def setWords (l : List (Nat × Word)) (s : State) : State := l.foldl (fun s e => s.setWord e.1 e.2) s
def cmd0 (op : Nat) (ws : List Word) : Cmd := ⟨BitVec.ofNat 72 (op * 2 ^ 56 + 9) :: ws, false, none⟩
def runs (c : Cmd) (s : State) : State := s.onCrn fun k => { k with cur := some c }
def v10_1 : State := run .reset
def v10_2 : State := setWords [(mbxAddr 0, 257)] (run .active)
def v10_4 : State := (run .active).onCrn fun k => {k with waiting := true}
def v10_5 : State := runs (cmd0 0 []) (run .active)
def v10_6 : State := runs (cmd0 1 [5*2^56]) (run .active)
def v10_7 : State := runs (cmd0 1 [5*2^56 + 2^32, 4]) (run .active [(CRN_STORE_CTRL_BANKS, 0)])
def cSt : Cmd := cmd0 1 [5*2^56 + 2^32, 4]
def wSt : State := runs cSt (run .active)
def v10_8 := (wSt.freeRuns.headD (0,0))
def v10_9 := (wSt.copyBankWords 4 0 (wSt.freeRuns.headD (0,0)).1).2
def v10_10 : State := run .config
def cG (d : Nat) : Cmd := cmd0 2 [BitVec.ofNat 72 (d * 2 ^ 63), 0]
def plan0 : StagePlan := ⟨0, true, 0, [], [], [], [], 77, 9, 0⟩
def stages (fs : List (Fld × Nat)) (f : Cairn → Cairn) : State := (runs (cG 1) (run .active fs)).onCrn f
def wG : State := stages [] id
def v10_11 : State := stages [] fun k => {k with plan := some plan0}
def wDig : State := stages [(BLY_STAT_LOCKSTEP, 1)] fun k => {k with plan := some plan0, waitDigest := true}
def cC : Cmd := cmd0 3 [0]
def v10_14 : State := runs cC (run .active)
def wC : State := (runs cC (run .active)).onCrn fun k => {k with plan := some plan0}
def com0 : Commit := ⟨9, 31, 0, 64, false⟩
def wF : State := (run .active [(CRN_STAT_STATE, 3)]).onCrn fun k => {k with plan := some {plan0 with units := 1}, commit := some com0}
def v10_15 := {plan0 with units := 1}
def cA : Cmd := cmd0 4 [0]
def v10_16 : State := runs cA wF
def v10_18 : State := runs cA (run .active)
def wCh : State := (run .active [(CRN_STAT_STATE, 4)]).onCrn fun k => {k with commit := some com0}
def v10_20 : State := run .selftest
def v10_21 : State := (runs (cG 0) (run .active [(bankField 0, 0)])).setDir 0 0x80000000 5 1 9
/-- The STAGE command of `cG` has begun, its plan still empty. -/
def planned (s : State) (k : Nat) : State :=
  ((s.unstage.beginStage (cG k)).wrN CRN_STAGE_TIME 5).onCrn fun q =>
    { q with plan := some { scene := (cG k).bits 1 62 55, direct := ((cG k).word 1).getLsbD 63, units := 0, regs := [], set := [], patches := [], batches := [], digest := 0, seq := (cG k).seq, code := 0 } }

/-- A state and operands for every line of `Obligations.RingsAndStore`. -/
theorem witness_RingsAndStore :
    (v10_10.Inv ∧ v10_10.takesWrite 0 CRN_DOORBELL 8323135 ∧ v10_10.upMode = true ∧
     (2 ^ 32 + BitVec.toNat (v10_10.mbxRead 0).fst % 2 ^ 32 - (v10_10.mbxRead 0).snd.mbxIndex 1) % 2 ^ 32 ≤ 256 ∧
     v10_10.takesWrite 0 CRN_STORE_CTRL 8323135 ∧
     (bitsNat 8323135 22 16 ≠ v10_10.fld CRN_STORE_CTRL_FIRST_BANK ∨ bitsNat 8323135 5 0 ≠ v10_10.fld CRN_STORE_CTRL_BANKS) ∧
     v10_10.cfgMode = true) ∧
    (v10_2.Inv ∧ v10_2.takesWrite 0 CRN_STORE_CTRL 8323072 ∧
     (bitsNat 8323072 22 16 ≠ v10_2.fld CRN_STORE_CTRL_FIRST_BANK ∨ bitsNat 8323072 5 0 ≠ v10_2.fld CRN_STORE_CTRL_BANKS) ∧
     v10_2.cfgMode = false ∧ v10_2.takesWrite 0 CRN_DOORBELL 8323072 ∧ v10_2.upMode = true ∧
     256 < (2 ^ 32 + BitVec.toNat (v10_2.mbxRead 0).fst % 2 ^ 32 - (v10_2.mbxRead 0).snd.mbxIndex 1) % 2 ^ 32) ∧
    (v10_1.Inv ∧ v10_1.mode = Mode.reset) ∧
    (v10_4.Inv ∧ v10_4.crn.waiting = true ∧ v10_4.cplRoom = true) ∧
    (v10_5.Inv ∧ v10_5.crn.cur = some (cmd0 0 []) ∧ (cmd0 0 []).opcode = 0) ∧
    (v10_6.Inv ∧ v10_6.crn.cur = some (cmd0 1 [5 * 2 ^ 56]) ∧ (cmd0 1 [5 * 2 ^ 56]).opcode = 1 ∧
     (cmd0 1 [5 * 2 ^ 56]).bits 1 48 32 = 0) ∧
    (v10_7.Inv ∧ v10_7.crn.cur = some (cmd0 1 [5 * 2 ^ 56 + 2 ^ 32, 4]) ∧
     (cmd0 1 [5 * 2 ^ 56 + 2 ^ 32, 4]).opcode = 1 ∧ (cmd0 1 [5 * 2 ^ 56 + 2 ^ 32, 4]).bits 1 48 32 ≠ 0 ∧
     List.find? (fun r => decide ((cmd0 1 [5 * 2 ^ 56 + 2 ^ 32, 4]).bits 2 20 0 ≤ r.snd)) v10_7.freeRuns = none) ∧
    (wSt.Inv ∧ wSt.crn.cur = some cSt ∧ cSt.opcode = 1 ∧ cSt.bits 1 48 32 ≠ 0 ∧
     List.find? (fun r => decide (cSt.bits 2 20 0 ≤ r.snd)) wSt.freeRuns = some v10_8 ∧
     wSt.copyBankWords (cSt.bits 2 20 0) (cSt.bits 1 22 0) v10_8.fst = ((wSt.copyBankWords 4 0 (wSt.freeRuns.headD (0, 0)).fst).fst, v10_9)) ∧
    (v10_20.Inv ∧ v10_20.takesWrite 0 CRN_DOORBELL 1 ∧ v10_20.upMode = false) := by
  refine ⟨?_, ?_, ?_, ?_, ?_, ?_, ?_, ?_, ?_⟩ <;> decide +kernel

/-- A state and operands for every line of `Obligations.StagingRuns`. -/
theorem witness_StagingRuns :
    (wDig.crn.cur = some (cG 1) ∧ (cG 1).opcode = 2 ∧ wDig.Inv ∧ wDig.lockstep = true ∧
     wDig.mode = Mode.active ∧ wDig.crn.peerDigest = none ∧ wDig.crn.waitDigest = true ∧
     wDig.crn.plan = some plan0 ∧ 77 = plan0.digest) ∧
    (wG.crn.cur = some (cG 1) ∧ (cG 1).opcode = 2 ∧ wG.lockstep = false ∧ wG.crn.waitDigest = false ∧ wG.Inv) ∧
    (wDig.crn.cur = some (cG 1) ∧ (cG 1).opcode = 2 ∧ wDig.Inv ∧ wDig.mode = Mode.active ∧
     wDig.lockstep = true ∧ wDig.crn.waitDigest = true ∧ wDig.crn.plan = some plan0 ∧ 78 ≠ plan0.digest) ∧
    (v10_11.crn.cur = some (cG 1) ∧ (cG 1).opcode = 2 ∧ v10_11.Inv ∧ v10_11.lockstep = false ∧
     v10_11.crn.plan.isSome = true ∧ v10_11.crn.peerDigest = none) ∧
    (wG.crn.cur = some (cG 1) ∧ (cG 1).opcode = 2 ∧ wG.crn.waitDigest = false ∧
     (((cG 1).word 1).getLsbD 63 = true ∨ (planned wG 1).sceneDark (if ((cG 1).word 1).getLsbD 63 = true then (cG 1).bits 1 22 0 else bitsNat (BitVec.toNat (wG.rd (DIR_LOC + dirOff ((cG 1).bits 1 62 55)))) 22 0) (if ((cG 1).word 1).getLsbD 63 = true then (cG 1).bits 2 20 0 else wG.fld (DIR_LEN_LENGTH.sh (dirOff ((cG 1).bits 1 62 55)))) = false)) ∧
    (v10_21.crn.cur = some (cG 0) ∧ (cG 0).opcode = 2 ∧ v10_21.crn.waitDigest = false ∧
     ((cG 0).word 1).getLsbD 63 = false ∧
     ((planned v10_21 0).sceneDark (if ((cG 0).word 1).getLsbD 63 = true then (cG 0).bits 1 22 0 else bitsNat (BitVec.toNat (v10_21.rd (DIR_LOC + dirOff ((cG 0).bits 1 62 55)))) 22 0) (if ((cG 0).word 1).getLsbD 63 = true then (cG 0).bits 2 20 0 else v10_21.fld (DIR_LEN_LENGTH.sh (dirOff ((cG 0).bits 1 62 55)))) = true)) := by
  refine ⟨?_, ?_, ?_, ?_, ?_, ?_⟩ <;> decide +kernel

/-- A state and operands for every line of `Obligations.CommitsFlip`. -/
theorem witness_CommitsFlip :
    (v10_16.Inv ∧ v10_16.crn.commit = some com0 ∧ v10_16.crn.plan = some v10_15 ∧ v10_16.crnState = 3 ∧
     idxLe com0.flip v10_16.idx = true ∧ v10_15.units.testBit 0 = true ∧ v10_16.crn.cur = some cA ∧
     cA.opcode = 4) ∧
    (wC.Inv ∧ wC.crn.cur = some cC ∧ cC.opcode = 3 ∧ wC.crn.plan = some plan0 ∧
     (wC.flipSample cC).fst < 2 ^ 48) ∧
    (wCh.Inv ∧ wCh.crnState = 4 ∧ wCh.trs.xf = none ∧ wCh.fld TRS_GRAPH_STAT_XFADE = 0 ∧
     wCh.trs.srcRamp = [] ∧ wCh.trs.sinkRamp = []) ∧
    (v10_14.Inv ∧ v10_14.crn.cur = some cC ∧ cC.opcode = 3 ∧ v10_14.crn.plan = none) ∧
    (v10_18.Inv ∧ v10_18.crn.cur = some cA ∧ cA.opcode = 4 ∧ v10_18.crn.commit = none) := by
  refine ⟨?_, ?_, ?_, ?_, ?_⟩ <;> decide +kernel

end Sys2Proof.Tests.W10

namespace Sys2Proof.Tests.W11
open Sys2Proof.Machine

def run (m : Mode) (fs : List (Fld × Nat) := []) : State := fs.foldl (fun s e => s.setFld e.1 e.2) { State.reset with mode := m }
def twin (m : Mode) (fs : List (Fld × Nat)) (f : Belay → Belay := id) : State := (run m fs).onBly f
def v11_1 : State := twin .active [] fun b => {b with hbOpened := true}
def v11_3 : State := twin .active [(BLY_STAT_HB_OK, 1),(BLY_STAT_LINK_OK, 1),(BLY_STAT_PEER_FAILED, 1)]
def v11_4 : State := twin .standby [(BLY_STAT_HB_OK, 1),(BLY_STAT_PEER_FAILED, 1),(BLY_STAT_EVER_SYNCED, 1)]
def v11_5 : State := twin .standby []
def v11_7 : State := twin .active [(BLY_STAT_ACT_OUT, 1),(BLY_STAT_SENIOR, 1)]
def v11_8 : State := twin .active [(BLY_STAT_ACT_OUT, 1),(BLY_STAT_SENIOR, 1)] fun b => {b with contest := true}
def lock : List (Fld × Nat) := [(BLY_STAT_LOCKSTEP, 1)]
def v11_9 : State := twin .standby lock
def v11_10 : State := twin .active []
def v11_11 : State := twin .config [] fun b => {b with replay := [⟨0, 1, 0, [], 0⟩, ⟨1, 1, 0, [], 0⟩], store := [(pKey 1 5, 9)]}
def cW : Cmd := ⟨[0x60 * 2 ^ 56 + 9], false, none⟩
def cJ : Cmd := ⟨[0x61 * 2 ^ 56 + 9], false, none⟩
def runs (c : Cmd) (s : State) : State := s.onCrn fun k => { k with cur := some c }
def v11_12 : State := twin .active lock fun b => {b with swap := some (0, false)}
def v11_13 : State := twin .standby lock fun b => {b with swap := some (0, false)}
def v11_14 : State := runs cW (twin .active (lock ++ [(BLY_SWAP_CTRL_SWAP_EN, 1)]))
def rec0 (g : Nat) : JoinRec := ⟨(run .active).stepping, (run .active).fld PLB_CTRL_RATE, (run .active).rd PWR_ISL_STAT, (run .active).bankMap, g⟩
def v11_15 : State := run .active
def v11_16 := rec0 ((run .active).fld TRS_SCHED_CTRL_GUARD)
def ready : List (Fld × Nat) := [(BLY_STAT_LANES_UP, 3), (BLY_STAT_PEER_MODE, 3), (SYS_STAT_LAST_RESET, 5)]
def v11_18 : State := runs cJ (run .config ready)
def joiner (ph : Nat) (f : Belay → Belay := id) : State := twin .config [(BLY_JOIN_STAT_PHASE, ph)] fun b => f {b with joining := true}
def v11_19 : State := joiner 1
def v11_20 : State := joiner 2
def v11_21 : State := joiner 1 fun b => {b with n0 := some 0}
def v11_22 : State := joiner 3 fun b => {b with n1 := some 0}
def v11_23 : State := twin .config [] fun b => {b with replay := [⟨0, 1, 0, [], 0⟩, ⟨1, 1, 0, [], 0⟩]}
def v11_24 : State := twin .active [(BLY_STAT_HB_OK, 1)] fun b => {b with pinInj := 100}
def v11_25 : State := twin .standby lock fun b => {b with digests := [(7, 5)]}
def v11_26 : State := twin .active lock fun b => {b with digests := [(7, 5)]}
/-- A TICK frame of an engine in mode `m`. -/
def tick (m : Nat) : TickRec := ⟨0, 0, 0, 0, 0, 0, 0, 0, m, false, false, false, false, false, 0, 0, 0, none, 0, 0⟩

/-- A state and operands for every line of `Obligations.TwinRoles`. -/
theorem witness_TwinRoles :
    (v11_8.Inv ∧ v11_8.takesWrite 0 BLY_CTRL 2969567235 ∧ Nat.testBit 2969567235 0 = true ∧
     bitsNat 2969567235 31 24 = 177 ∧ v11_8.mode = Mode.active ∧ v11_8.bly.hold = false ∧
     v11_8.fld BLY_STAT_ACT_OUT = 1 ∧ (v11_8.fld BLY_STAT_SENIOR = 0 ∨ 1 < 2) ∧ v11_8.bly.contest = true ∧
     v11_8.fld BLY_STAT_ACT_IN = 0) ∧
    (v11_3.Inv ∧ ((fun n => (v11_3.advance n).captureOn 7 none) 5).bly.pinInj ≤ 0 ∧
     v11_3.fld BLY_STAT_HB_OK = 1 ∧ v11_3.fld BLY_STAT_LINK_OK = 1 ∧ v11_3.fld BLY_STAT_PEER_FAILED = 1) ∧
    (v11_4.Inv ∧ v11_4.mode = Mode.standby ∧ v11_4.fld BLY_STAT_PEER_FAILED = 1 ∧
     v11_4.fld BLY_STAT_EVER_SYNCED = 1) ∧
    (v11_24.Inv ∧ v11_24.fld BLY_STAT_HB_OK = 1 ∧ v11_24.fld BLY_STAT_LINK_OK = 0 ∧
     v11_24.fld BLY_STAT_PEER_FAILED = 0 ∧ 0 < ((fun n => (v11_24.advance n).captureOn 7 none) 5).bly.pinInj) ∧
    (v11_1.Inv ∧ v11_1.upMode = true ∧ v11_1.bly.hbStatic = false ∧ v11_1.bly.hbOpened = true) ∧
    (v11_7.Inv ∧ v11_7.fld BLY_STAT_ACT_OUT = 1 ∧ v11_7.mode = Mode.active ∧ v11_7.bly.hold = false ∧
     v11_7.fld BLY_STAT_SENIOR = 1) ∧
    (v11_5.Inv ∧ v11_5.mode = Mode.standby ∧ v11_5.fld BLY_STAT_PEER_FAILED = 0) := by
  refine ⟨?_, ?_, ?_, ?_, ?_, ?_, ?_⟩ <;> decide +kernel

/-- A state and operands for every line of `Obligations.TwinFrames`. -/
theorem witness_TwinFrames :
    (v11_10.Inv ∧ v11_10.lockstep = false ∧ v11_10.bly.joining = false ∧ v11_10.obeys 1 = false ∧
     (∀ (e : Nat), mfind v11_10.bly.store (pKey 1 (entryPoint e)) = none)) ∧
    (v11_9.Inv ∧ v11_9.lockstep = true ∧ v11_9.mode = Mode.standby ∧ v11_9.fwd = [] ∧
     (asForwarded 0 268435456 [1]).isFence = false ∧ v11_9.follows v11_9.idx = true ∧
     v11_9.catching = false ∧ (¬v11_9.idx ∈ v11_9.bly.finals) ∧ (¬v11_9.idx ∈ v11_9.bly.fell) ∧
     idxLe 1 v11_9.idx = false ∧ v11_9.bly.decisions = []) ∧
    (v11_11.Inv ∧ mfind v11_11.bly.store (pKey 1 (entryPoint 5)) = some 9 ∧ v11_11.lockstep = false ∧
     v11_11.mode = Mode.config ∧ 2 ≤ (tick 4).mode ∧ (tick 4).mode ≤ 4 ∧
     (v11_11.bly.replay = [{ fseq := 0, kind := 1, idx := 0, body := [], lane := 0 : SentFrame }, { fseq := 1, kind := 1, idx := 0, body := [], lane := 0 : SentFrame }])) ∧
    (v11_26.Inv ∧ ((tick 5).mode < 2 ∨ 4 < (tick 5).mode) ∧ v11_26.lockstep = true ∧
     mfind v11_26.bly.digests 7 = some 5 ∧ (¬112 * 32 + 2 ∈ v11_26.inj)) ∧
    (v11_9.Inv ∧ v11_9.follows 0 = true ∧ v11_9.resyncing = false ∧ entryPoint 5 = 5 ∧
     (¬v11_9.bly.fell.contains 0 = true) ∧ mfind v11_9.bly.decided (pKey 0 5) = none) ∧
    (v11_23.Inv ∧ v11_23.lockstep = false ∧ v11_23.mode = Mode.config ∧ 2 ≤ (tick 4).mode ∧
     (tick 4).mode ≤ 4) ∧
    (v11_25.Inv ∧ v11_25.lockstep = true ∧ mfind v11_25.bly.digests 7 = some 5 ∧
     (¬112 * 32 + 2 ∈ v11_25.inj)) := 
  ⟨⟨by decide +kernel, by decide +kernel, by decide +kernel, by decide +kernel, fun _ => rfl⟩,
   by decide +kernel,
   by decide +kernel,
   by decide +kernel,
   by decide +kernel,
   by decide +kernel,
   by decide +kernel⟩

/-- A state and operands for every line of `Obligations.SwapsJoins`. -/
theorem witness_SwapsJoins :
    (v11_21.Inv ∧ v11_21.bly.swap = none ∧ v11_21.bly.joining = true ∧ v11_21.fld BLY_JOIN_STAT_PHASE = 1 ∧
     v11_21.lockedOnPeer = false ∧ v11_21.bly.n0 = some 0 ∧ v11_21.mode = Mode.config) ∧
    (v11_12.Inv ∧ v11_12.bly.swap = some (0, false) ∧ idxLe 0 v11_12.idx = true ∧
     v11_12.mode = Mode.active ∧ false = false) ∧
    (v11_22.Inv ∧ v11_22.bly.joining = true ∧ v11_22.fld BLY_JOIN_STAT_PHASE = 3 ∧
     v11_22.bly.n1 = some v11_22.idx ∧ v11_22.bly.serving = false ∧ v11_22.bly.real = v11_22.idx ∧
     v11_22.mode = Mode.config) ∧
    (v11_13.Inv ∧ v11_13.bly.swap = some (0, false) ∧ idxLe 0 v11_13.idx = true ∧
     v11_13.mode = Mode.standby ∧ v11_13.lockstep = true) ∧
    (v11_15.Inv ∧ v11_15.bly.swap = none ∧ v11_15.mode = Mode.active ∧
     v11_15.fld BLY_SWAP_CTRL_SWAP_EN = 1 ∧ v11_15.bly.hold = false ∧ v11_15.bly.serving = false ∧
     v11_15.joinDiff v11_16 = 0) ∧
    (v11_20.Inv ∧ v11_20.bly.joining = true ∧ v11_20.fld BLY_JOIN_STAT_PHASE = 2 ∧
     v11_20.bly.serving = false) ∧
    (v11_18.Inv ∧ v11_18.bly.joining = false ∧ v11_18.peerReady = true ∧ v11_18.mode = Mode.config ∧
     v11_18.crn.cur = some cJ ∧ cJ.opcode = 97 ∧ v11_18.fld SYS_STAT_LAST_RESET = 5) ∧
    (v11_14.Inv ∧ v11_14.bly.swap = none ∧ v11_14.sends = true ∧ v11_14.fld BLY_SWAP_CTRL_SWAP_EN = 1 ∧
     v11_14.quiet = true ∧ v11_14.sys.descent = none ∧ v11_14.crn.cur = some cW ∧ cW.opcode = 96 ∧
     v11_14.lockstep = true ∧ cW.bits 1 63 62 = 0) ∧
    (v11_19.Inv ∧ v11_19.bly.joining = true ∧ v11_19.fld BLY_JOIN_STAT_PHASE = 1) ∧
    (v11_15.Inv ∧ v11_15.mode = Mode.active ∧ v11_15.bly.hold = false ∧ v11_15.bly.serving = false ∧
     v11_15.joinDiff (rec0 77) ≠ 0) := by
  refine ⟨?_, ?_, ?_, ?_, ?_, ?_, ?_, ?_, ?_, ?_⟩ <;> decide +kernel

end Sys2Proof.Tests.W11

namespace Sys2Proof.Tests.W12
open Sys2Proof.Machine

def run (m : Mode) (fs : List (Fld × Nat) := []) : State := fs.foldl (fun s e => s.setFld e.1 e.2) { State.reset with mode := m }
def lane (l st : Nat) (fs : List (Fld × Nat) := []) (m : Mode := .active) : State := run m ([(laneFld LNE_STAT_STATE l, st), (laneFld LNE_CTRL_EN l, 1)] ++ fs)
def v12_2 : State := lane 8 4
def v12_5 : State := lane 4 3 [(LNE_PCIE_STAT_LINK_UP, 1)] .config
def v12_6 : State := lane 3 3 [(LNE_PCIE_STAT_LINK_UP, 1)]
def v12_7 : State := lane 9 1 [] .config
def v12_8 : State := run .active
def v12_9 : State := run .active [(TEL_CTRL_EN, 1)]
def v12_10 : State := let s := run .active [(TEL_CTRL_EN, 1)]; s.wrN TEL_PROD s.telSize
def wSpi : State := run .config
def v12_12 := (wSpi.getAccess 1 0x40000000 256).2
def v12_13 : State := lane 3 2 []
def v12_14 := (wSpi.getAccess 1 0x10000000 16).2
def v12_15 : State := {wSpi with fwd := [(5, .bytes 1 0x10000000 [1])]}

/-- A state and operands for every line of `Obligations.LanesAndServices`. -/
theorem witness_LanesAndServices :
    (v12_7.Inv ∧ v12_7.laneWanted 9 = true ∧ v12_7.laneState 9 < 3 ∧ (¬lanePage 9 * 32 + 1 ∈ v12_7.inj) ∧
     v12_7.hostLinkDown = true ∧ v12_7.laneState 9 = 1 ∧ v12_7.fld (laneFld LNE_CTRL_FAST_EXIT 9) = 1 ∧
     (¬lanePage 9 * 32 + 2 ∈ v12_7.inj) ∧ v12_7.takesWrite 0 (LNE_TEST + 4096 * 9) 3221225472 ∧
     v12_7.cfgMode = true ∧ v12_7.laneFree 9 = true ∧ bitsNat 3221225472 31 30 ≠ 0) ∧
    (v12_9.Inv ∧ v12_9.upMode = true ∧ v12_9.fld TEL_CTRL_EN = 1 ∧
     BitVec.toNat (v12_9.rd TEL_PROD - v12_9.rd TEL_CONS) ≠ v12_9.telSize) ∧
    (v12_5.Inv ∧ v12_5.laneState 4 = 3 ∧ v12_5.takesWrite 0 LNE_COM_CTRL 2 ∧
     bitsNat 2 1 0 ≠ v12_5.fld LNE_COM_CTRL_PAIR_PERS ∧ v12_5.cfgMode = true) ∧
    (v12_6.Inv ∧ v12_6.takesWrite 0 LNE_COM_CTRL 2 ∧ bitsNat 2 1 0 ≠ v12_6.fld LNE_COM_CTRL_PAIR_PERS ∧
     v12_6.cfgMode = false ∧ v12_6.hostLinkDown = false ∧ v12_6.laneState 3 = 3) ∧
    (v12_10.Inv ∧ v12_10.upMode = true ∧ v12_10.fld TEL_CTRL_EN = 1 ∧
     BitVec.toNat (v12_10.rd TEL_PROD - v12_10.rd TEL_CONS) = v12_10.telSize) ∧
    (v12_13.Inv ∧ v12_13.laneWanted 3 = true ∧ v12_13.laneState 3 < 3 ∧ (¬lanePage 3 * 32 + 1 ∈ v12_13.inj)) ∧
    (v12_2.Inv ∧ v12_2.laneState 8 = 4 ∧ v12_2.laneWanted 8 = true) ∧
    (v12_8.Inv ∧ v12_8.upMode = true ∧ v12_8.svc.hot.testBit 0 = false ∧
     10 * ↑(bitsNat (BitVec.toNat (v12_8.rd TEL_THR)) 15 8) ≤ 32767) := by
  refine ⟨?_, ?_, ?_, ?_, ?_, ?_, ?_, ?_⟩ <;> decide +kernel

/-- A state and operands for every line of `Obligations.ManagementSpi`. -/
theorem witness_ManagementSpi :
    (wSpi.mode ≠ Mode.reset ∧ ReadPhase.full ≠ ReadPhase.beforeToken ∧
     (3 % 8 ≠ 0 ∨ [1, 2, 3, 4].length % 4 ≠ 0 ∨ [1, 2, 3, 4] = [] ∨ 256 < [1, 2, 3, 4].length ∨ wSpi.mspiBusy = true)) ∧
    (wSpi.mode ≠ Mode.reset ∧ (∀ i ∈ none, slotInMailbox 1 (mspiAddr 16 0 0 0) [1, 2, 3, 4] i = false) ∧
     [1, 2, 3, 4].length ≤ 256 ∧ [1, 2, 3, 4].length % 4 = 0 ∧
     wSpi.takesAccess 1 (mspiAddr 16 0 0 0) [1, 2, 3, 4] ∧ wSpi.mspiBusy = false) ∧
    (wSpi.mode ≠ Mode.reset ∧ ReadPhase.full ≠ ReadPhase.beforeToken ∧
     (true = decide (ReadPhase.full = ReadPhase.full)) ∧
     wSpi.inTurn wSpi.fwd (wSpi.idx, (fun full => Forwarded.readSpi (mspiAddr 16 0 0 0) (4 * (3 + 1)) full) true) = true ∧
     wSpi.getAccess 1 (mspiAddr 16 0 0 0) (4 * (3 + 1)) = (some ((wSpi.getAccess 1 268435456 16).fst.getD []), v12_14)) ∧
    (wSpi.mode ≠ Mode.reset ∧ ReadPhase.partialStatus ≠ ReadPhase.beforeToken ∧
     (false = decide (ReadPhase.partialStatus = ReadPhase.full)) ∧
     wSpi.inTurn wSpi.fwd (wSpi.idx, (fun full => Forwarded.readSpi (mspiAddr 64 0 0 0) (4 * (63 + 1)) full) false) = true ∧
     wSpi.getAccess 1 (mspiAddr 64 0 0 0) (4 * (63 + 1)) = (none, v12_12)) ∧
    (v12_15.mode ≠ Mode.reset ∧ ReadPhase.full ≠ ReadPhase.beforeToken ∧
     (true = decide (ReadPhase.full = ReadPhase.full)) ∧
     v12_15.inTurn v12_15.fwd (v12_15.idx, (fun full => Forwarded.readSpi (mspiAddr 16 0 0 0) (4 * (3 + 1)) full) true) = false) := by
  refine ⟨?_, ?_, ?_, ?_, ?_⟩ <;> decide +kernel

end Sys2Proof.Tests.W12

namespace Sys2Proof.Tests
open Sys2Proof.Machine
/-- A command of `Obligations.EventsGoOn`, at reset. -/
theorem witness_EventsGoOn : ∃ t, exec .batchEnd State.reset = .next t := ⟨_, rfl⟩
end Sys2Proof.Tests
end

/-! Accesses of the bus masters: the rows that write one register, register reads and writes, and words in their slots
(00_scope.md R5 to R7, 02_register_space.md R25, R36, R37, R41, R44). -/

namespace Sys2Proof.Machine

open Sys2Proof

section
variable {s : State} {m off addr : Nat} {v : Reg32} {data : List Byte} {f : Forwarded}

/-! ### An access in its turn (R36, R37, 16 R380) -/

theorem turn_inTurn (h : s.inTurn s.fwd (s.idx, f) = true) : s.turn f = s.performFwd f := if_pos h

theorem turn_waits (h : s.inTurn s.fwd (s.idx, f) = false) : s.turn f = { s with fwd := s.fwd ++ [(s.idx, f)] } :=
  if_neg (by simp [h])

theorem writeAccess_local (h : ¬ s.sendsOn m addr (asForwarded m addr data)) :
    s.writeAccess m addr data = s.turn (asForwarded m addr data) :=
  if_neg (by simpa [State.sendsOn] using h)

/-- A write that the peer must see goes out at once and waits for its tag. -/
theorem writeAccess_sent (h : s.sendsOn m addr (asForwarded m addr data)) : s.writeAccess m addr data =
    ({ s.newTag.2 with fwd := s.newTag.2.fwd ++ [(s.newTag.1, asForwarded m addr data)] }).sendBelay 2 s.newTag.1
      (beBytes 1 m ++ beBytes 1 0 ++ beBytes 2 data.length ++ beBytes 4 addr ++ data) :=
  if_pos (by simpa [State.sendsOn] using h)

/-- The four bytes of a register are a misuse where the write of the register is one. -/
theorem misuse_register (h4 : off % 4 = 0) (hr : off < 0x1000000) :
    s.misuse m (0x01000000 + off) (leBytes 4 v.toNat) = s.regMisuse m off v := by
  have hi : isReg (0x01000000 + off) = true := by
    simp [isReg]
    omega
  have ha : (0x01000000 + off) % 0x1000000 = off := by omega
  have hz : (0x01000000 + off) % 4 = 0 := by omega
  have ht : (leBytes 4 v.toNat).take 4 = leBytes 4 v.toNat := List.take_of_length_le (by simp [length_leBytes])
  simp [State.misuse, regShape, hi, ha, hz, ht, length_leBytes, ofNat_leBytes]

/-! ### The write of one register -/

theorem hostWrite_defined (hm : s.mode ≠ .reset) (h4 : off % 4 = 0) (hr : off < 0x1000000)
    (hu : s.regMisuse m off v = false) :
    s.hostWrite m off v = .next (s.writeAccess m (0x01000000 + off) (leBytes 4 v.toNat)) := by
  simp [State.hostWrite, State.hostBytes, hm, State.asPerformed, misuse_register h4 hr, hu]

/-- What a misuse of a register writes is a free value (log entry 43). -/
theorem hostWrite_misuse (hm : s.mode ≠ .reset) (h4 : off % 4 = 0) (hr : off < 0x1000000)
    (hu : s.regMisuse m off v = true) : s.hostWrite m off v =
      .next ((s.free 32).2.writeAccess m (0x01000000 + off) (leBytes 4 (s.free 32).1.toNat)) := by
  have hi : isReg (0x01000000 + off) = true := by
    simp [isReg]
    omega
  have ha : (0x01000000 + off) % 0x1000000 = off := by omega
  have ht : (leBytes 4 v.toNat).take 4 = leBytes 4 v.toNat := List.take_of_length_le (by simp [length_leBytes])
  have hs : s.settleRegs m off (leBytes 4 v.toNat) = s.freeBytes 4 := by
    simp [State.settleRegs, ht, length_leBytes, ofNat_leBytes, hu]
  have hp : s.asPerformed m (0x01000000 + off) (leBytes 4 v.toNat) = s.freeBytes 4 := by
    simp [State.asPerformed, misuse_register h4 hr, hu, hi, ha, hs]
  simp only [State.hostWrite, State.hostBytes, if_neg hm, hp]
  rfl

/-- A row that stands for the write of one register is that write. -/
theorem exec_of_rowWrite {c : Instr} (h : s.rowWrite c = some (m, off, v)) : exec c s = s.hostWrite m off v := by
  unfold State.rowWrite at h
  split at h <;> cases h <;> rfl

/-! ### RESET: no access is taken (log entry 41) -/

theorem hostWrite_reset (h : s.mode = .reset) : s.hostWrite m off v = .next s := congrArg _ (hostBytes_reset h)

theorem hostRead_reset (h : s.mode = .reset) : s.hostRead m off = s := if_pos h

theorem wordWrite_reset {k : Option Nat} (h : s.mode = .reset) : s.wordWrite m addr data k = s := by
  cases k with
  | none => exact hostBytes_reset h
  | some i => exact (if_pos (.inl h)).trans (hostBytes_reset h)

end

/-- Settles O12: every row is `hostWrite` of its register, whose outcomes are those of `writeAccess` and `turn`. -/
theorem registerRowsWrite : Obligations.RegisterRowsWrite := by
  refine ⟨fun s c m off v hc _ h4 hr hm => ?_, fun s h => ⟨fun c m off v hc => ?_, fun m off => ⟨?_, ?_, ?_⟩,
    fun m a d k w => ⟨?_, ?_, ?_, ?_⟩, fun d x k => ?_, fun d k => ?_, fun b => ?_⟩⟩
  · have hf := asForwarded_reg (m := m) (v := v) h4 hr
    rw [exec_of_rowWrite hc]
    refine ⟨fun hu hs ht => ?_, fun hu hs ht => ?_, fun hu hs => ?_, fun hu => hostWrite_misuse hm h4 hr hu⟩
    · rw [hostWrite_defined hm h4 hr hu, writeAccess_local (hf ▸ hs), hf, turn_inTurn ht]
      rfl
    · rw [hostWrite_defined hm h4 hr hu, writeAccess_local (hf ▸ hs), hf, turn_waits ht]
    · rw [hostWrite_defined hm h4 hr hu, writeAccess_sent (hf ▸ hs), hf, length_leBytes]
  · rw [exec_of_rowWrite hc, hostWrite_reset h]
  · exact congrArg _ (hostRead_reset h)
  · exact congrArg _ (hostRead_reset h)
  · exact congrArg _ (if_pos h)
  · exact congrArg _ ((congrArg (State.wordWrite · m a d k) (if_pos h)).trans (wordWrite_reset h))
  · exact congrArg _ (hostBytes_reset h)
  · exact congrArg _ (hostBytes_reset h)
  · exact congrArg _ (hostBytes_reset h)
  · exact congrArg _ (if_pos h)
  · exact congrArg _ (if_pos (.inl h))
  · exact congrArg _ (if_pos (.inl h))

end Sys2Proof.Machine

namespace Sys2Proof.Machine

open Sys2Proof

/-! ### Writing back what a register reads -/

section
variable {α : Type} {d : α} {m : SMap α} {k : Nat}

/-- A key that reads as the default, where no entry of it holds the default, is not listed. -/
theorem mdel_of_mget_default (hd : ∀ e ∈ m, e.1 = k → e.2 ≠ d) (hk : mget d m k = d) : mdel m k = m := by
  induction m with
  | nil => rfl
  | cons e m ih =>
    obtain ⟨j, u⟩ := e
    have hj : k ≠ j := fun e => hd (j, u) (by simp) e.symm (by simpa [mget, e] using hk)
    simp only [mget, if_neg hj] at hk
    simp only [mdel, if_neg hj]
    split
    · rfl
    · rename_i hlt
      rw [ih (fun e he => hd e (List.mem_cons_of_mem _ he)) (by simpa [hlt] using hk)]

/-- Inserting at a key the value it reads, other than the default, changes nothing. -/
theorem mins_mget (hk : mget d m k ≠ d) : mins m k (mget d m k) = m := by
  induction m with
  | nil => exact absurd rfl hk
  | cons e m ih =>
    obtain ⟨j, u⟩ := e
    by_cases hj : k = j
    · simp [mins, mget, hj]
    · by_cases hlt : k < j
      · exact absurd (by simp [mget, hj, hlt]) hk
      · simp only [mget, if_neg hj, if_neg hlt] at hk ⊢
        simp only [mins, if_neg hj, if_neg hlt, ih hk]

end

section
variable {s : State} {m off : Nat} {v : Reg32}

/-- A write of what the register holds changes nothing: the register file has one form for its contents. -/
theorem wr_rd_self (h : s.Inv) (a : Nat) : s.wr a (s.rd a) = s := by
  obtain ⟨_, hregs, _⟩ := h
  have hd := (regsWf_iff.1 hregs).2
  have hset : mset (regReset a) s.regs a (s.rd a) = s.regs := by
    rw [mset_eq]
    split
    · rename_i hv
      exact mdel_of_mget_default (fun e he hk => hk ▸ hd e he) hv
    · rename_i hv
      exact mins_mget hv
  rw [State.wr, hset]

/-! ### Registers from offset 0x040 on -/

/-- A write of a register of a page that answers goes to its row. -/
theorem putReg_body {r : RegRow} (hid : (pageId (off / 0x1000)).isSome = true) (hg : s.pageGated (off / 0x1000) = false)
    (hb : s.softBusy (off / 0x1000) = false) (ho : 0x40 ≤ off % 0x1000) (hr : findReg off = some r) :
    s.putReg m off v = s.putBodyLive m off r v := by
  have hn : (pageId (off / 0x1000)).isNone = false := by simpa using hid
  simp [State.putReg, hn, hg, hb, hr, Nat.not_lt.2 ho]

/-- A register with RW fields alone and no effect of its own takes them from the value written. -/
theorem putPlain_rw {r : RegRow} (hw : r.w1c = 0) (ha : r.act = 0) :
    s.putPlain off r (v &&& BitVec.ofNat 32 (r.rw ||| r.w1c ||| r.act)) =
      s.wr off ((s.rd off &&& ~~~(BitVec.ofNat 32 r.rw)) ||| (v &&& BitVec.ofNat 32 r.rw)) := by
  simp only [State.putPlain, hw, ha, Nat.or_zero, BitVec.zero_and, BitVec.not_zero, BitVec.and_allOnes, BitVec.and_assoc,
    BitVec.and_self]

/-- A write of a register all of whose RW fields are staged is a live write (04 R73, 07 R140). -/
theorem putBodyLive_staged {r : RegRow} (hk : liveMask off = r.rw) (h0 : BitVec.ofNat 32 r.rw ≠ 0) :
    s.putBodyLive m off r v = s.onCrn fun c => { c with live := mins c.live off (v &&& BitVec.ofNat 32 r.rw) } := by
  simp only [State.putBodyLive, hk, if_neg h0, if_true]

/-- The row of the register at `off` has the RW bits `rw` and no other that a write acts on, all of them or none staged. -/
abbrev PlainRow (off : Nat) (rw : Reg32) (r : RegRow) : Prop :=
  BitVec.ofNat 32 r.rw = rw ∧ rw ≠ 0 ∧ r.w1c = 0 ∧ r.act = 0 ∧ (liveMask off = 0 ∨ liveMask off = r.rw)

/-- The write of a register whose row is plain. -/
theorem regWrite_plain {o : BitVec 24} {rw : Reg32} {r : RegRow} (ht : s.takesWrite m o.toNat v) (ho : 0x40 ≤ o.toNat % 0x1000)
    (hr : findReg o.toNat = some r) (hrow : PlainRow o.toNat rw r)
    (hb : ∀ w, s.putBody m o.toNat r w = s.putPlain o.toNat r (w &&& BitVec.ofNat 32 (r.rw ||| r.w1c ||| r.act))) :
    exec (.regWrite m o v) s = .next (s.noteWrite (
      if liveMask o.toNat = 0 then s.wr o.toNat ((s.rd o.toNat &&& ~~~rw) ||| (v &&& rw))
      else s.onCrn fun c => { c with live := mins c.live o.toNat (v &&& rw) }) m) := by
  obtain ⟨rfl, h0, hw, ha, hk⟩ := hrow
  have hput : s.putReg m o.toNat v = s.putBodyLive m o.toNat r v := by
    obtain ⟨_, hid, _, _, _, _, _, hg, hsb⟩ := ht
    exact putReg_body hid hg hsb ho hr
  refine (hostWrite_eq ht).trans ?_
  rw [hput]
  split
  · rename_i hz
    rw [← putPlain_rw hw ha, ← hb v]
    simp [State.putBodyLive, hz]
  · rename_i hz
    rw [putBodyLive_staged (hk.resolve_left hz) h0]

/-! ### Reads -/

/-- A read returns what the last write left, live writes included, and clears the RC bits, where no rule shows something else at
that offset and the page is not frozen. -/
theorem readReg_plain (hp : s.present off = (s.rd off, s)) (hx : off ≠ PLB_TICK_IDX_LO) (ht : off ≠ PLB_TIME_LO)
    (hf : s.frozenPage (off / 0x1000) = none) : s.readReg off =
      (s.written off (s.rd off), if rcBits off = 0 then s else s.wr off (s.rd off &&& ~~~(rcBits off))) := by
  simp [State.readReg, hx, ht, hp, hf]

/-- A read in its turn of such a register, and where its page answers. -/
theorem hostRead_plain (hi : s.Inv) (hm : s.mode ≠ .reset) (htn : s.inTurn s.fwd (s.idx, .readReg m off) = true)
    (hid : (pageId (off / 0x1000)).isSome = true) (h4 : off % 4 = 0) (hg : s.pageGated (off / 0x1000) = false)
    (hp : s.present off = (s.rd off, s)) (hx : off ≠ PLB_TICK_IDX_LO) (ht : off ≠ PLB_TIME_LO)
    (hf : s.frozenPage (off / 0x1000) = none) : s.hostRead m off =
      (s.wr off (s.rd off &&& ~~~(rcBits off))).emit (.regData m off (s.written off (s.rd off))) := by
  have hn : (pageId (off / 0x1000)).isNone = false := by simpa using hid
  have hclear : (if rcBits off = 0 then s else s.wr off (s.rd off &&& ~~~(rcBits off))) =
      s.wr off (s.rd off &&& ~~~(rcBits off)) := by
    split
    · rename_i hz
      rw [show rcBits off = 0#32 from hz, BitVec.not_zero, BitVec.and_allOnes, wr_rd_self hi]
    · rfl
  have hget : s.getReg m off = (some (s.written off (s.rd off)), s.wr off (s.rd off &&& ~~~(rcBits off))) := by
    simp only [State.getReg, hn, hg, readReg_plain hp hx ht hf, hclear, Bool.false_eq_true, if_false]
  rw [State.hostRead, if_neg hm, if_pos htn, State.readNow, if_neg (by simp [h4]), hget]

theorem hostRead_waits (hm : s.mode ≠ .reset) (h : s.inTurn s.fwd (s.idx, .readReg m off) = false) :
    s.hostRead m off = { s with fwd := s.fwd ++ [(s.idx, .readReg m off)] } := by
  simp [State.hostRead, hm, h]

end

/-! ### Registers that only hold a value -/

/-- Registers that have only RW or RWS fields, with their bits. -/
def rwRegisters : List (BitVec 24 × Reg32) :=
  [(0x000070, 0xFFFFFFFF), (0x000078, 0xFFFFFFFF), (0x002058, 0x8000FFFF), (0x004048, 0xFFFFFFFF), (0x006044, 0xFFF),
    (0x011040, 0x7F), (0x013040, 0x1F), (0x020044, 0x1FFF), (0x030044, 0xFFFF00FF), (0x031048, 0xFFFF), (0x032054, 0xFFFFFFFF),
    (0x033044, 0xFFFFFFFF), (0x033048, 0xFFFF), (0x03304C, 0xFFFFFFFF), (0x070048, 0x9F00FFFF), (0x079800, 0xF00007FF),
    (0x07A040, 0xFFFF), (0x080050, 0xFFFFFFFF), (0x0A0180, 0xFFFFFFFF), (0x0C0048, 0xFFFFFFFF), (0x0C1044, 0xFFFFFFFF),
    (0x0D0044, 0xFFFFFFFF), (0x100044, 0xFF0303FF), (0x10004C, 0xFFFF80FF)]

/-- Registers with access RC. -/
def rcRegisters : List (BitVec 24) :=
  [0x001048, 0x00104C, 0x011068, 0x01106C, 0x013044, 0x020064, 0x030064, 0x040054, 0x060050, 0x062100, 0x070064, 0x080080,
    0x0A0050, 0x0C2808, 0x0C4054, 0x100084]

theorem findReg_rwRegisters {e : BitVec 24 × Reg32} (h : e ∈ rwRegisters) :
    0x40 ≤ e.1.toNat % 0x1000 ∧ ∃ r, findReg e.1.toNat = some r ∧ PlainRow e.1.toNat e.2 r := by
  have hall : rwRegisters.all (fun e => decide (0x40 ≤ e.1.toNat % 0x1000) &&
      (findReg e.1.toNat).any fun r => decide (PlainRow e.1.toNat e.2 r)) = true := by decide +kernel
  simpa only [Bool.and_eq_true, decide_eq_true_eq, Option.any_eq_true] using List.all_eq_true.1 hall e h

/-- No page gives a write of them an effect of its own. -/
theorem putBody_rwRegisters (s : State) (m : Nat) (r : RegRow) (v : Reg32) : ∀ e ∈ rwRegisters,
    s.putBody m e.1.toNat r v = s.putPlain e.1.toNat r (v &&& BitVec.ofNat 32 (r.rw ||| r.w1c ||| r.act)) := by
  unfold rwRegisters
  iterate 24 refine List.forall_mem_cons.2 ⟨rfl, ?_⟩
  exact List.forall_mem_nil _

theorem place_rcRegisters {o : BitVec 24} (h : o ∈ rcRegisters) : (pageId (o.toNat / 0x1000)).isSome = true ∧
    o.toNat % 4 = 0 ∧ o.toNat ≠ PLB_TICK_IDX_LO ∧ o.toNat ≠ PLB_TIME_LO := by
  have hall : rcRegisters.all (fun o => decide ((pageId (o.toNat / 0x1000)).isSome = true ∧ o.toNat % 4 = 0 ∧
      o.toNat ≠ PLB_TICK_IDX_LO ∧ o.toNat ≠ PLB_TIME_LO)) = true := by decide +kernel
  exact of_decide_eq_true (List.all_eq_true.1 hall o h)

/-- No rule has a read of them show something else. -/
theorem present_rcRegisters (s : State) : ∀ o ∈ rcRegisters, s.present o.toNat = (s.rd o.toNat, s) := by
  unfold rcRegisters
  iterate 16 refine List.forall_mem_cons.2 ⟨rfl, ?_⟩
  exact List.forall_mem_nil _

/-- Settles O13: the rows of the register map are plain, no block acts on a write of these registers or shows something else in a
read, and the register file has one form for its contents. -/
theorem registersHold : Obligations.RegistersHold := by
  refine ⟨fun s m v off rw hmem ht => ?_, fun s a b v hi => ?_, fun s m off hi hm hmem => ⟨fun htn hg hf => ?_, fun htn => ?_⟩⟩
  · obtain ⟨ho, r, hr, hplain⟩ := findReg_rwRegisters (e := (off, rw)) hmem
    exact regWrite_plain ht ho hr hplain fun w => putBody_rwRegisters s m r w (off, rw) hmem
  · exact ⟨rd_wr_same hi a v, rd_wr_ne hi v, hi.wr a v, wr_rd_self hi a⟩
  · obtain ⟨hid, h4, hx, htl⟩ := place_rcRegisters hmem
    have hread := hostRead_plain hi hm htn hid h4 hg (present_rcRegisters s off hmem) hx htl hf
    have hrd := rd_wr_same hi off.toNat (s.rd off.toNat &&& ~~~(rcBits off.toNat))
    refine ⟨_, congrArg Host.Outcome.next hread, ?_, hrd⟩
    exact congrArg (fun w => (s.wr off.toNat w).emit _) hrd.symm
  · exact congrArg Host.Outcome.next (hostRead_waits hm htn)

end Sys2Proof.Machine

namespace Sys2Proof.Machine

open Sys2Proof

/-! ### The bytes of a slot -/

/-- A write of bytes leaves the memory outside them. -/
theorem mget_memPut_outside {m : List Host.Cell} (h : Memory.wf m = true) (a : Nat) (bs : List Byte) {k : Nat}
    (hk : k < a ∨ a + bs.length ≤ k) : mget 0 (memPut m a bs) k = mget 0 m k := by
  induction bs generalizing m a with
  | nil => rfl
  | cons b bs ih =>
    rw [List.length_cons] at hk
    rw [memPut, ih (mwf_mset h a b) (a + 1) (by omega), mget_mset_ne (mwf_iff.1 h).1 b (by omega)]

/-- The bytes written are those that memory then holds. -/
theorem map_mget_memPut {m : List Host.Cell} (h : Memory.wf m = true) (a : Nat) (bs : List Byte) :
    (List.range' a bs.length).map (mget 0 (memPut m a bs)) = bs := by
  induction bs generalizing m a with
  | nil => rfl
  | cons b bs ih =>
    have hset := mwf_mset h a b
    rw [List.length_cons, List.range'_succ, List.map_cons, memPut, ih hset,
      mget_memPut_outside hset (a + 1) bs (by omega), mget_mset_same (mwf_iff.1 h).1]

theorem leNat_map_mget_zero {m : List Host.Cell} {a n : Nat} (h : ∀ k, k < a + n → mget 0 m k = 0) :
    leNat ((List.range' a n).map (mget 0 m)) = 0 := by
  induction n generalizing a with
  | zero => rfl
  | succ n ih => rw [List.range'_succ, List.map_cons, leNat, ih fun k hk => h k (by omega), h a (by omega)]; rfl

/-- What a cell below all others adds to the number that a run of bytes is. -/
theorem leNat_map_mget_cons {m : List Host.Cell} {j : Nat} (v : Byte) (h : ∀ k, k ≤ j → mget 0 m k = 0) (a n : Nat) :
    leNat ((List.range' a n).map (mget 0 ((j, v) :: m))) =
      leNat ((List.range' a n).map (mget 0 m)) + if a ≤ j ∧ j < a + n then v.toNat * 256 ^ (j - a) else 0 := by
  induction n generalizing a with
  | zero => rw [if_neg (by omega)]; rfl
  | succ n ih =>
    simp only [List.range'_succ, List.map_cons, leNat, ih]
    by_cases ha : a = j
    · have hz : (mget 0 m j).toNat = 0 := by rw [h j (Nat.le_refl j)]; rfl
      have hv : mget 0 ((j, v) :: m) j = v := if_pos rfl
      subst ha
      rw [if_neg (by omega), if_pos (by omega), hv, hz, Nat.sub_self, Nat.pow_zero]
      omega
    · have hv : mget 0 ((j, v) :: m) a = mget 0 m a := by
        rw [mget, if_neg ha]
        split
        · exact (h a (by omega)).symm
        · rfl
      rw [hv]
      by_cases hj : a + 1 ≤ j ∧ j < a + 1 + n
      · have e : j - a = (j - (a + 1)) + 1 := by omega
        rw [if_pos hj, if_pos (by omega), e, Nat.pow_succ, ← Nat.mul_assoc]
        omega
      · rw [if_neg hj, if_neg (by omega)]
        omega

/-- The number that a word is: that of the nine bytes of its slot. -/
theorem slotNat_eq_leNat {m : List Host.Cell} (h : risingFrom none m = true) (a : Nat) :
    slotNat m a = leNat ((List.range' a 9).map (mget 0 m)) := by
  induction m with
  | nil => exact (leNat_map_mget_zero fun _ _ => rfl).symm
  | cons e m ih =>
    obtain ⟨j, v⟩ := e
    rw [risingFrom_cons] at h
    have hlow : ∀ k, k ≤ j → mget 0 m k = 0 := fun k hk => mget_of_rising h hk
    rw [leNat_map_mget_cons v hlow, ← ih (risingFrom_none h), slotNat]
    split
    · rw [if_neg (by omega), Nat.add_zero]
    · split
      · rw [if_pos (by omega), Nat.add_comm]
      · rw [if_neg (by omega), ih (risingFrom_none h), leNat_map_mget_zero fun k hk => hlow k (by omega)]

section
variable {s : State} {w : Word}

/-- A read of a word after it was written gives what was written. -/
theorem word_setWord (h : Memory.wf s.mem = true) (a : Nat) (w : Word) : (s.setWord a w).word a = w := by
  have hw : w.toNat < 256 ^ 9 := w.isLt
  have hbytes := map_mget_memPut h a (leBytes 9 w.toNat)
  rw [length_leBytes] at hbytes
  have hmem : (s.setWord a w).mem = memPut s.mem a (leBytes 9 w.toNat) := rfl
  have hslot : slotNat (s.setWord a w).mem a = w.toNat := by
    rw [hmem, slotNat_eq_leNat (mwf_iff.1 (memPut_wf h)).1]
    exact (congrArg leNat hbytes).trans ((leNat_leBytes 9 _).trans (Nat.mod_eq_of_lt hw))
  rw [State.word, hslot, BitVec.ofNat_toNat, BitVec.setWidth_eq]

/-- A write of a word leaves every byte outside its nine bytes. -/
theorem mget_setWord_outside (h : Memory.wf s.mem = true) (a : Nat) (w : Word) {b : Nat} (hb : b < a ∨ a + 9 ≤ b) :
    mget 0 (s.setWord a w).mem b = mget 0 s.mem b :=
  mget_memPut_outside h a _ (by rwa [length_leBytes])

/-! ### Bytes put into a word (R7) -/

theorem putWordBytes_append (w : Word) (o : Nat) (xs ys : List Byte) :
    putWordBytes w o (xs ++ ys) = putWordBytes (putWordBytes w o xs) (o + xs.length) ys := by
  induction xs generalizing w o with
  | nil => rfl
  | cons b xs ih => simp only [List.cons_append, putWordBytes, ih, List.length_cons, Nat.add_assoc,
      Nat.add_comm 1]

/-- Bytes 9 to 15 of a slot are ignored. -/
theorem putWordBytes_ignored (w : Word) {o : Nat} (bs : List Byte) (ho : 9 ≤ o) : putWordBytes w o bs = w := by
  induction bs generalizing o with
  | nil => rfl
  | cons b bs ih => simp only [putWordBytes, if_neg (Nat.not_lt.2 ho), ih (Nat.le_succ_of_le ho)]

/-- Replacing byte `o` of a word. -/
theorem toNat_replaceByte (w : Word) (b : Byte) {o : Nat} (ho : o < 9) :
    (BitVec.ofNat 72 (w.toNat - bitsNat w.toNat (8 * o + 7) (8 * o) * 256 ^ o + b.toNat * 256 ^ o)).toNat =
      w.toNat % 256 ^ o + 256 ^ o * b.toNat + 256 ^ (o + 1) * (w.toNat / 256 ^ (o + 1)) := by
  have hn : w.toNat < 256 ^ 9 := w.isLt
  have hb := b.isLt
  generalize w.toNat = n at *
  generalize b.toNat = b at *
  have hbits : bitsNat n (8 * o + 7) (8 * o) = n / 256 ^ o % 256 := by
    have h8 : 2 ^ (8 * o) = 256 ^ o := Nat.pow_mul 2 8 o
    have e : 8 * o + 7 + 1 - 8 * o = 8 := by omega
    calc bitsNat n (8 * o + 7) (8 * o) = n >>> (8 * o) % 2 ^ (8 * o + 7 + 1 - 8 * o) := rfl
      _ = n / 2 ^ (8 * o) % 2 ^ 8 := by rw [e, Nat.shiftRight_eq_div_pow]
      _ = n / 256 ^ o % 256 := congrArg (n / · % 256) h8
  have hlow := Nat.div_add_mod n (256 ^ o)
  have hhigh := Nat.div_add_mod (n / 256 ^ o) 256
  have hpow : 256 ^ (o + 1) = 256 ^ o * 256 := Nat.pow_succ 256 o
  have hdiv : n / 256 ^ o / 256 = n / 256 ^ (o + 1) := by rw [Nat.div_div_eq_div_mul, hpow]
  have htop : n / 256 ^ (o + 1) + 1 ≤ 256 ^ (8 - o) := by
    refine Nat.div_lt_of_lt_mul ?_
    have e : o + 1 + (8 - o) = 9 := by omega
    rwa [← Nat.pow_add, e]
  have hfull : 256 ^ (o + 1) * 256 ^ (8 - o) = 256 ^ 9 := by
    have e : o + 1 + (8 - o) = 9 := by omega
    rw [← Nat.pow_add, e]
  have hmod := Nat.mod_lt n (Nat.pow_pos (n := o) (by decide : 0 < 256))
  have hsplit : n = n % 256 ^ o + 256 ^ o * (n / 256 ^ o % 256) + 256 ^ (o + 1) * (n / 256 ^ (o + 1)) := by
    calc n = 256 ^ o * (256 * (n / 256 ^ o / 256) + n / 256 ^ o % 256) + n % 256 ^ o := by rw [hhigh, hlow]
      _ = _ := by rw [hdiv, Nat.mul_add, ← Nat.mul_assoc, ← hpow]; omega
  have hbyte : n % 256 ^ o + 256 ^ o * b < 256 ^ (o + 1) := by
    calc n % 256 ^ o + 256 ^ o * b < 256 ^ o * (b + 1) := by rw [Nat.mul_succ]; omega
      _ ≤ 256 ^ (o + 1) := Nat.mul_le_mul_left _ hb
  have hlt : n % 256 ^ o + 256 ^ o * b + 256 ^ (o + 1) * (n / 256 ^ (o + 1)) < 2 ^ 72 := by
    calc _ < 256 ^ (o + 1) * (n / 256 ^ (o + 1) + 1) := by rw [Nat.mul_succ]; omega
      _ ≤ 256 ^ (o + 1) * 256 ^ (8 - o) := Nat.mul_le_mul_left _ htop
      _ = 2 ^ 72 := hfull
  have hval : n - bitsNat n (8 * o + 7) (8 * o) * 256 ^ o + b * 256 ^ o =
      n % 256 ^ o + 256 ^ o * b + 256 ^ (o + 1) * (n / 256 ^ (o + 1)) := by
    rw [hbits, Nat.mul_comm _ (256 ^ o), Nat.mul_comm b]
    omega
  rw [hval, BitVec.toNat_ofNat, Nat.mod_eq_of_lt hlt]

/-- A write of bytes into a word: those below and those above keep their value. -/
theorem toNat_putWordBytes (w : Word) (o : Nat) (bs : List Byte) (h : o + bs.length ≤ 9) : (putWordBytes w o bs).toNat =
    w.toNat % 256 ^ o + 256 ^ o * leNat bs + 256 ^ (o + bs.length) * (w.toNat / 256 ^ (o + bs.length)) := by
  induction bs generalizing w o with
  | nil =>
    simp only [putWordBytes, leNat, List.length_nil, Nat.mul_zero, Nat.add_zero]
    exact (Nat.mod_add_div _ _).symm
  | cons b bs ih =>
    rw [List.length_cons] at h
    have hpos := Nat.pow_pos (n := o) (by decide : 0 < 256)
    have hbyte : w.toNat % 256 ^ o + 256 ^ o * b.toNat < 256 ^ (o + 1) := by
      calc _ < 256 ^ o + 256 ^ o * b.toNat := Nat.add_lt_add_right (Nat.mod_lt _ hpos) _
        _ = 256 ^ o * (b.toNat + 1) := by rw [Nat.mul_succ, Nat.add_comm]
        _ ≤ 256 ^ (o + 1) := Nat.mul_le_mul_left _ b.isLt
    rw [putWordBytes, if_pos (by omega), ih _ _ (by omega), toNat_replaceByte w b (by omega),
      Nat.add_mul_mod_self_left, Nat.mod_eq_of_lt hbyte, Nat.pow_add 256 (o + 1), ← Nat.div_div_eq_div_mul,
      Nat.add_mul_div_left _ _ (Nat.pow_pos (by decide)), Nat.div_eq_of_lt hbyte, Nat.zero_add, Nat.div_div_eq_div_mul,
      ← Nat.pow_add, leNat, List.length_cons, Nat.add_right_comm o, Nat.add_assoc o, Nat.mul_add, ← Nat.mul_assoc,
      ← Nat.pow_succ, Nat.add_assoc (w.toNat % 256 ^ o)]

/-- A whole slot gives its word. -/
theorem slotPattern_whole {d : List Byte} (h : 9 ≤ d.length) : slotPattern 0 d = BitVec.ofNat 72 (leNat (d.take 9)) := by
  have hl : (d.take 9).length = 9 := List.length_take_of_le h
  have hw : (putWordBytes 0 0 (d.take 9)).toNat = leNat (d.take 9) := by
    rw [toNat_putWordBytes 0 0 (d.take 9) (by omega)]
    show 0 % 1 + 1 * leNat (d.take 9) + 256 ^ (0 + (d.take 9).length) * (0 / 256 ^ (0 + (d.take 9).length)) = _
    rw [Nat.zero_div, Nat.mul_zero, Nat.one_mul, Nat.zero_mod, Nat.zero_add, Nat.add_zero]
  have hd : putWordBytes 0 0 (d.take 9 ++ d.drop 9) = putWordBytes 0 0 (d.take 9) := by
    rw [putWordBytes_append, putWordBytes_ignored _ _ (by omega)]
  rw [List.take_append_drop] at hd
  rw [slotPattern, hd, ← hw, BitVec.ofNat_toNat, BitVec.setWidth_eq]

/-- The first eight bytes leave bits [71:64]. -/
theorem putWordBytes_low {d : List Byte} (h : d.length = 8) :
    putWordBytes w 0 d = BitVec.ofNat 72 (leNat d + 2 ^ 64 * (w.toNat / 2 ^ 64)) := by
  have hn : (putWordBytes w 0 d).toNat = leNat d + 2 ^ 64 * (w.toNat / 2 ^ 64) := by
    rw [toNat_putWordBytes w 0 d (by omega), h]
    show w.toNat % 1 + 1 * leNat d + 2 ^ 64 * (w.toNat / 2 ^ 64) = _
    rw [Nat.mod_one, Nat.one_mul, Nat.zero_add]
  rw [← hn, BitVec.ofNat_toNat, BitVec.setWidth_eq]

end

/-! ### A slot of a bank that is ON, or of the mailbox -/

section
variable {s : State} {m a : Nat} {d : List Byte}

/-- The word at `a` answers master `m`: it is in a bank that is ON or, for the masters that reach it, in the mailbox. -/
abbrev State.wordAnswers (s : State) (m a : Nat) : Prop :=
  (0x10000000 ≤ a ∧ a < 0x18000000 ∧ s.bankState (bankOf a) = 2) ∨ (0x3C000000 ≤ a ∧ a < 0x3C010000 ∧ m ≤ 2)

/-- A read of the word at `a` meets no error, stored or injected. -/
abbrev State.wordClean (s : State) (a : Nat) : Prop := mget 0 s.flips a = 0 ∧ 0x60 * 32 ∉ s.inj ∧ 0x60 * 32 + 1 ∉ s.inj

theorem slotAt_bank {r : Bool} {t : Nat → Option Bool} (h : 0x10000000 ≤ a) (h' : a < 0x18000000) : slotAt r t a = .bank a := by
  unfold slotAt
  iterate 4 rw [if_neg (by omega)]
  exact if_pos ⟨h, h'⟩

theorem slotAt_mailbox {r : Bool} {t : Nat → Option Bool} (h : 0x3C000000 ≤ a) (h' : a < 0x3C010000) :
    slotAt r t a = .mailbox a := by
  unfold slotAt
  iterate 7 rw [if_neg (by omega)]
  exact if_pos ⟨h, h'⟩

/-- What lies at a word that answers, and that its master reaches it. -/
theorem slotAt_of_answers {r : Bool} {t : Nat → Option Bool} (h : s.wordAnswers m a) :
    (slotAt r t a = .bank a ∧ s.bankState (bankOf a) = 2 ∨ slotAt r t a = .mailbox a) ∧
      masterReaches m a (slotAt r t a) = true := by
  rcases h with ⟨h, h', hon⟩ | ⟨h, h', hm⟩
  · rw [slotAt_bank h h']
    have : 0x200000 ≤ a := by omega
    exact ⟨.inl ⟨rfl, hon⟩, by simp [masterReaches, this]⟩
  · rw [slotAt_mailbox h h']
    exact ⟨.inr rfl, by simp [masterReaches, hm]⟩

theorem nowhere_of_answers (h : s.wordAnswers m a) : s.nowhere a = false := by
  rcases (slotAt_of_answers (r := s.fld SYS_CTRL_REMAP == 1) (t := trussWord) h).1 with ⟨hs, _⟩ | hs
  · simp [State.nowhere, hs]
  · simp [State.nowhere, hs]

theorem isReg_of_answers (h : s.wordAnswers m a) : isReg a = false := by
  simp only [isReg, Bool.and_eq_false_iff, decide_eq_false_iff_not]
  omega

theorem takeInj_absent {p b : Nat} (h : p * 32 + b ∉ s.inj) : s.takeInj p b = (false, s) := by
  have hf : (s.inj.filter fun i => decide (i ≠ p * 32 + b)) = s.inj :=
    List.filter_eq_self.2 fun i hi => decide_eq_true fun e => h (e ▸ hi)
  simp only [State.takeInj, hf, h, decide_false]

/-- A checked read of a clean word returns it and leaves no trace. -/
theorem checkedRead_clean (h : s.wordClean a) : s.checkedRead m a = (some (s.word a), s) := by
  obtain ⟨hf, hce, hue⟩ := h
  have hi : (if a < 0x3C000000 then s.injectedFlips else (0, s)) = (0, s) := by
    split
    · simp [State.injectedFlips, takeInj_absent hue, takeInj_absent (p := 0x60) (b := 0) hce]
    · rfl
  have he : eccRead (0 ^^^ 0) = ⟨some 0, false, 0, 0⟩ := rfl
  simp only [State.checkedRead, hi, hf, he]
  exact congrArg (fun w => (some w, s)) BitVec.xor_zero

theorem getSlot_clean {size : Nat} (h : s.wordAnswers m a) (hc : s.wordClean a) :
    s.getSlot m a 0 size = (some (s.word a), s) := by
  obtain ⟨hs, hm⟩ := slotAt_of_answers (r := s.fld SYS_CTRL_REMAP == 1) (t := trussWord) h
  rcases hs with ⟨hs, hon⟩ | hs
  · simp [State.getSlot, hs ▸ hm, hs, hon, checkedRead_clean hc]
  · simp [State.getSlot, hs ▸ hm, hs, checkedRead_clean hc]

/-- A write that covers bytes 0 to 8 replaces the word. -/
theorem putSlot_whole {size : Nat} (h : s.wordAnswers m a) (hl : 9 ≤ d.length) :
    s.putSlot m a 0 d size = (true, s.setWord a (BitVec.ofNat 72 (leNat (d.take 9)))) := by
  obtain ⟨hs, hm⟩ := slotAt_of_answers (r := s.fld SYS_CTRL_REMAP == 1) (t := trussWord) h
  have hfull : fullSlot 0 d = true := by simp [fullSlot, hl]
  rcases hs with ⟨hs, hon⟩ | hs
  · simp [State.putSlot, hs ▸ hm, hs, hon, hfull, slotPattern_whole hl]
  · simp [State.putSlot, hs ▸ hm, hs, State.mailboxWriteBytes, hfull, slotPattern_whole hl]

/-- A write that does not cover byte 8 puts its bytes into the word that was read. -/
theorem putSlot_part {size : Nat} (h : s.wordAnswers m a) (hc : s.wordClean a) (hl : d.length < 9) :
    s.putSlot m a 0 d size = (true, s.setWord a (putWordBytes (s.word a) 0 d)) := by
  obtain ⟨hs, hm⟩ := slotAt_of_answers (r := s.fld SYS_CTRL_REMAP == 1) (t := trussWord) h
  have hfull : fullSlot 0 d = false := by simp [fullSlot, hl]
  rcases hs with ⟨hs, hon⟩ | hs
  · simp [State.putSlot, hs ▸ hm, hs, hon, hfull, checkedRead_clean hc]
  · simp [State.putSlot, hs ▸ hm, hs, State.mailboxWriteBytes, State.rmw, hfull, checkedRead_clean hc]

/-! ### An access to one slot -/

/-- An access that one slot takes is that of the slot. -/
theorem putAccess_slot {t : State} (h : s.wordAnswers m a) (h16 : a % 16 = 0) (hsh : slotShape a d.length = true)
    (h0 : d ≠ []) (hl : d.length ≤ 16) (ht : s.putSlot m a 0 d d.length = (true, t)) : s.putAccess m a d = t := by
  have ha : a / 16 * 16 = a := by omega
  have hnw : s.nowhere (a / 16 * 16) = false := by rw [ha, nowhere_of_answers h]
  have htake : d.take 16 = d := List.take_of_length_le hl
  have hdrop : d.drop 16 = [] := List.drop_eq_nil_of_le hl
  simp [State.putAccess, isReg_of_answers h, hnw, hsh, State.putSlots, h0, h16, htake, hdrop, ht]

theorem getAccess_word (h : s.wordAnswers m a) (h16 : a % 16 = 0) (hc : s.wordClean a) :
    (s.getAccess m a 16).1 = some (leBytes 9 (s.word a).toNat ++ List.replicate 7 0) := by
  have ha : a / 16 * 16 = a := by omega
  have hnw : s.nowhere (a / 16 * 16) = false := by rw [ha, nowhere_of_answers h]
  have hlen : (leBytes 9 (s.word a).toNat ++ List.replicate 7 0).length = 16 := by simp [length_leBytes]
  have htake : (leBytes 9 (s.word a).toNat ++ List.replicate 7 0).take 16 = leBytes 9 (s.word a).toNat ++ List.replicate 7 0 :=
    List.take_of_length_le (Nat.le_of_eq hlen)
  simp only [State.getAccess, isReg_of_answers h, hnw, slotShape, h16, State.getSlots, getSlot_clean h hc, Nat.sub_zero,
    List.drop_zero, htake, hlen]
  simp

/-- WORD_WRITE without a wait and unmet by Cairn, where the access is taken at once. -/
theorem exec_wordWrite (ht : s.takesAccess m a d) (hr : isReg a = false) :
    exec (.wordWrite m a d none 0) s = .next (s.noteWrite (s.putAccess m a d) m) := by
  have hw : (if s.mode = .reset then s else s.waited m a 0) = s := if_neg ht.1
  have hf : asForwarded m a d = .bytes m a d := by simp [asForwarded, hr]
  have hb := hostBytes_eq ht
  rw [hf] at hb
  exact congrArg Host.Outcome.next ((congrArg (State.wordWrite · m a d none) hw).trans hb)

/-- A wait is counted before the write (R41). -/
theorem exec_wordWrite_waited {k : Option Nat} {w : Nat} (hm : s.mode ≠ .reset) :
    exec (.wordWrite m a d k w) s = exec (.wordWrite m a d k 0) (s.waited m a w) := by
  have h0 (t : State) : (if t.mode = .reset then t else t.waited m a 0) = t := by
    split
    · rfl
    · exact if_pos (.inl rfl)
  exact congrArg (fun t => Host.Outcome.next (State.wordWrite t m a d k)) ((if_neg hm).trans (h0 _).symm)

/-- A write of one slot that meets a write of Cairn's to its mailbox word is dropped (10 R232). -/
theorem exec_wordWrite_collide (ht : s.takesAccess m a d) (h16 : a % 16 = 0) (hlo : 0x3C000000 ≤ a) (hhi : a < 0x3C010000)
    (hm : m ≤ 2) (hsh : slotShape a d.length = true) (hl : d.length ≤ 16) :
    exec (.wordWrite m a d (some 0) 0) s = .next (s.collide m (a % 0x10000 / 16)) := by
  obtain ⟨hmode, _, hturn, _⟩ := ht
  have h0 : 0 < (d.length + 15) / 16 := by
    have : d.length ≠ 0 := fun h => by simp [slotShape, h] at hsh
    omega
  have ha : a / 16 * 16 = a := by omega
  have hs : slotInMailbox m a d 0 = true := by simp [slotInMailbox, hsh, h0, ha, hlo, hhi, hm]
  have hdrop : d.drop 16 = [] := List.drop_eq_nil_of_le hl
  have hw : (if s.mode = .reset then s else s.waited m a 0) = s := if_neg hmode
  have hc : s.wordWrite m a d (some 0) = s.collide m (a % 0x10000 / 16) := by
    simp [State.wordWrite, hmode, hs, hturn, hdrop]
  exact congrArg Host.Outcome.next ((congrArg (State.wordWrite · m a d (some 0)) hw).trans hc)

theorem collide_mem (h : s.Inv) (m w : Nat) : (s.collide m w).mem = s.mem :=
  (State.collide_ok (p := s.pending) (κ := { mem := some s.mem })
    ⟨rfl, h, ⟨nofun, nofun, fun _ e => Option.some.inj e, nofun, nofun, nofun, nofun, nofun, nofun, nofun, nofun, nofun, nofun,
      nofun, nofun, nofun, nofun⟩⟩).kept.mem _ rfl

end

/-- Settles O34: an access to one slot is that of its word, and the bytes of a word in memory are those it was written with. -/
theorem wordWritten : Obligations.WordWritten := by
  intro s m a d hi ht h16 hans
  have hwf := hi.1
  have hwrite := exec_wordWrite ht (isReg_of_answers hans)
  refine ⟨getAccess_word hans h16, fun hl => ?_, fun hl hc => ?_, fun w => exec_wordWrite_waited ht.1, fun hlo hsh hl => ?_⟩
  · have h0 : d ≠ [] := fun e => by simp [e] at hl
    have hput := putAccess_slot hans h16 (by simp [slotShape, hl, h16]) h0 (Nat.le_of_eq hl) (putSlot_whole hans (by omega))
    exact ⟨_, hwrite, hput, hput ▸ word_setWord hwf a _, fun b hb => hput ▸ mget_setWord_outside hwf a _ hb⟩
  · have h0 : d ≠ [] := fun e => by simp [e] at hl
    have h8 : a % 8 = 0 := by omega
    have hput := putAccess_slot hans h16 (by simp [slotShape, hl, h8]) h0 (by omega) (putSlot_part hans hc (by omega))
    rw [putWordBytes_low hl] at hput
    exact ⟨_, hwrite, hput ▸ word_setWord hwf a _, fun b hb => hput ▸ mget_setWord_outside hwf a _ hb⟩
  · obtain ⟨_, hhi, hm⟩ : 0x3C000000 ≤ a ∧ a < 0x3C010000 ∧ m ≤ 2 := hans.resolve_left (by omega)
    exact ⟨exec_wordWrite_collide ht h16 hlo hhi hm hsh hl, collide_mem hi m _⟩

end Sys2Proof.Machine

/-! The state right after reset (01_engine_architecture.md R20, 19_power_reset_and_modes.md R443). -/

namespace Sys2Proof.Machine

open Sys2Proof

/-- With no register listed, each reads its reset value. -/
theorem rd_reset (a : Nat) : State.reset.rd a = regReset a := rfl

/-- No event of any page is set at reset (02 R30). -/
theorem regReset_pgEvt (p : Nat) : regReset (0x1000 * p + PG_EVT) = 0 := by
  have ho : (0x1000 * p + PG_EVT) % 0x1000 = 0x10 := by simp [PG_EVT]
  simp [regReset, ho, PG_CTRL]

theorem inv_reset : State.reset.Inv := ⟨rfl, rfl, Nat.two_pow_pos 48⟩

/-- Settles O5: every register reads its reset value, and nothing else is listed anywhere. -/
theorem resetState : Obligations.ResetState := by
  refine ⟨⟨rfl, rfl, rfl, rfl, ?_, ?_, fun p => (rd_reset _).trans (regReset_pgEvt p), ?_, ?_, ?_, ?_, ?_⟩, inv_reset, rfl⟩ <;>
    decide

end Sys2Proof.Machine

/-! What the commands do to the operating mode (01_engine_architecture.md R20, 16_belay_twin.md R392, R393, R400).

Most operations keep the mode, by the laws of Laws/Keep*.lean. Any access, tick or memory check may meet a reset or a
resignation, so that the mode may drift (`Drifts`) into RESET, or from STANDBY into SERVICE; nine commands take edges of their own
(`edgesOf`) or end the hold. -/

namespace Sys2Proof.Machine

open Sys2Proof

section
variable {s t : State} {m m' : Mode} {a k n q off addr p b o size : Nat} {v : Reg32} {r : RegRow} {bs : List Byte} {f : Forwarded}

/-- A law in the form of Laws/Keep*.lean: it holds of every queue, whatever is held beside the mode. -/
abbrev FreeButMode (law : List Instr → Kept → Prop) : Prop :=
  ∀ {p : List Instr} {κ : Kept} [MayIdx κ] [MayMem κ] [MayFlips κ] [MayTime κ] [MayFwd κ] [MaySys κ] [MayTrs κ] [MayChs κ]
    [MayBnk κ] [MayCrn κ] [MayPrt κ] [MayPlb κ] [MayNet κ] [MayMlt κ] [MayTyd κ] [MayBly κ], law p κ

/-- `t` is reached from `s` by operations under which the mode stays. -/
abbrev KeepsMode (s t : State) : Prop := FreeButMode fun p κ => Ok p κ s → Ok p κ t

theorem ok_of_mode (h : s.Inv) : Ok s.pending { mode := some s.mode } s :=
  ⟨rfl, h, ⟨fun _ e => Option.some.inj e, nofun, nofun, nofun, nofun, nofun, nofun, nofun, nofun, nofun, nofun, nofun, nofun,
    nofun, nofun, nofun, nofun⟩⟩

theorem ok_free (h : s.Inv) : Ok s.pending {} s :=
  ⟨rfl, h, ⟨nofun, nofun, nofun, nofun, nofun, nofun, nofun, nofun, nofun, nofun, nofun, nofun, nofun, nofun, nofun, nofun,
    nofun⟩⟩

theorem KeepsMode.ok (k : KeepsMode s t) (h : s.Inv) : Ok s.pending { mode := some s.mode } t :=
  @k _ _ ⟨rfl⟩ ⟨rfl⟩ ⟨rfl⟩ ⟨rfl⟩ ⟨rfl⟩ ⟨rfl⟩ ⟨rfl⟩ ⟨rfl⟩ ⟨rfl⟩ ⟨rfl⟩ ⟨rfl⟩ ⟨rfl⟩ ⟨rfl⟩ ⟨rfl⟩ ⟨rfl⟩ ⟨rfl⟩ (ok_of_mode h)

theorem KeepsMode.inv (k : KeepsMode s t) (h : s.Inv) : t.Inv := (k.ok h).inv

theorem KeepsMode.mode (k : KeepsMode s t) (h : s.Inv) : t.mode = s.mode := (k.ok h).kept.mode _ rfl

/-! ### Entering a mode -/

theorem setMode_enters (h : s.Inv) (m : Mode) : (s.setMode m).Inv ∧ (s.setMode m).mode = m := by
  have k : KeepsMode { s with mode := m } (s.setMode m) := fun h => ok_ite h (State.evt_ok h)
  exact ⟨k.inv h, k.mode h⟩

theorem changeMode_enters (h : s.Inv) (m : Mode) (fails : List Nat) :
    (s.changeMode m fails).Inv ∧ (s.changeMode m fails).mode = m := by
  unfold State.changeMode
  split
  · exact ⟨h, ‹_›⟩
  · extract_lets run cfg toRun toCfg s1 s2 s3 s4 s5 s6 s7
    have k1 : KeepsMode s s1 := fun h => ok_ite (State.cancelInj_ok h) h
    have k2 : KeepsMode s1 s2 := fun h => ok_ite (ok_mk h) h
    have k3 : KeepsMode s2 s3 := fun h => ok_ite (State.setFld_ok h) h
    have k4 : KeepsMode s3 s4 := fun h => ok_ite (State.autoRepair_ok h) h
    have k6 : KeepsMode s5 s6 := fun h => ok_ite (State.setActOut_ok (State.mltAllOff_ok h)) h
    have k7 : KeepsMode s6 s7 := fun h => ok_ite (State.clearHistory_ok h) h
    have k8 : KeepsMode s5 (if m = .active then s7 else (s7.dropPulses).ptpDemote).refreshSource := fun h =>
      State.refreshSource_ok (ok_ite (k7 (k6 h)) (State.ptpDemote_ok (State.dropPulses_ok (k7 (k6 h)))))
    have h5 := setMode_enters (k4.inv (k3.inv (k2.inv (k1.inv h)))) m
    exact ⟨k8.inv h5.1, (k8.mode h5.1).trans h5.2⟩

theorem enterReset_inv (h : s.Inv) (cause : Nat) (cold : Bool) : (s.enterReset cause cold).Inv :=
  (@State.enterReset_ok s.pending {} s (ok_free h) ⟨rfl⟩ ⟨rfl⟩ ⟨rfl⟩ ⟨rfl⟩ ⟨rfl⟩ ⟨rfl⟩ ⟨rfl⟩ ⟨rfl⟩ ⟨rfl⟩ ⟨rfl⟩ ⟨rfl⟩ ⟨rfl⟩ ⟨rfl⟩ ⟨rfl⟩
    ⟨rfl⟩ ⟨rfl⟩ ⟨rfl⟩ cause cold).inv

theorem foldl_mode {α : Type} {f : State → α → State} (hf : ∀ s a, (f s a).mode = s.mode) (l : List α) (s : State) :
    (l.foldl f s).mode = s.mode :=
  List.foldlRecOn (motive := fun t => t.mode = s.mode) l f rfl fun t ht a _ => (hf t a).trans ht

theorem enterReset_mode (s : State) (cause : Nat) (cold : Bool) : (s.enterReset cause cold).mode = .reset := by
  unfold State.enterReset
  simp only [apply_ite State.mode, State.setFld_mode, State.wr_mode, foldl_mode, ite_self, implies_true]
  rfl

/-! ### What the fabric and the bus may do to the mode by themselves -/

/-- The mode goes from `m` to `n`: it stays, RESET is entered, or one of the edges of `es` is taken. -/
def Moves (es : List (Mode × Mode)) (m n : Mode) : Prop := n = m ∨ n = .reset ∨ (m, n) ∈ es

/-- What any access, tick or fault may do: a reset, and the resignation of a standby into SERVICE (16 R392). -/
abbrev driftEdges : List (Mode × Mode) := [(.standby, .service)]

/-- The invariant holds in `s`, and the mode has only drifted there from `m`. -/
structure Drifts (m : Mode) (s : State) : Prop where
  inv : s.Inv
  mode : Moves driftEdges m s.mode

theorem Drifts.refl (h : s.Inv) : Drifts s.mode s := ⟨h, .inl rfl⟩

theorem Drifts.keep (h : Drifts m s) (k : KeepsMode s t) : Drifts m t := ⟨k.inv h.inv, k.mode h.inv ▸ h.mode⟩

theorem Drifts.of_enters (h : s.Inv ∧ s.mode = m') (hm : Moves driftEdges m m') : Drifts m s := ⟨h.1, h.2.symm ▸ hm⟩

theorem Drifts.ite {c : Prop} [Decidable c] (hs : Drifts m s) (ht : Drifts m t) : Drifts m (if c then s else t) := by
  split <;> assumption

theorem Drifts.foldl {α : Type} {f : State → α → State} {l : List α} (h : Drifts m s)
    (hf : ∀ s a, Drifts m s → Drifts m (f s a)) : Drifts m (l.foldl f s) :=
  List.foldlRecOn l f h fun s hs a _ => hf s a hs

theorem Drifts.of_pair {α : Type} {e : α × State} {x : α} (h : Drifts m e.2) (he : e = (x, t)) : Drifts m t := by
  subst he
  exact h

theorem Drifts.getD {o : Option State} (ho : ∀ u ∈ o, Drifts m u) (h : Drifts m s) : Drifts m (o.getD s) := by
  cases o with
  | none => exact h
  | some u => exact ho u rfl

theorem Drifts.enterReset (h : Drifts m s) {cause : Nat} {cold : Bool} : Drifts m (s.enterReset cause cold) :=
  ⟨enterReset_inv h.inv _ _, .inr (.inl (enterReset_mode _ _ _))⟩

theorem Drifts.from_standby (h : Drifts m s) (hs : s.mode = .standby) : m = .standby := by
  rcases h.mode with e | e | e <;> simp_all

/-- An active engine that resigns holds its outputs and stays ACTIVE; a standby enters SERVICE (16 R392). -/
theorem Drifts.resign (h : Drifts m s) : Drifts m (s.resign a) := by
  unfold State.resign
  split
  · exact h.keep fun h => State.evt_ok (State.finishReq_ok (State.ptpDemote_ok (State.dropPulses_ok (State.mltHold_ok
      (State.setFld_ok (State.setFld_ok (State.onBly_ok (State.sendResign_ok (State.leaveLockstep_ok h)))))))))
  split
  · obtain rfl := h.from_standby ‹_›
    extract_lets s1
    have k : KeepsMode s ((s1.setFld ⟨BLY_CAUSE, 7, 0⟩ a).finishReq 1 0) := fun h =>
      State.finishReq_ok (State.setFld_ok (State.sendResign_ok (State.endJoin_ok (State.leaveLockstep_ok h))))
    exact .of_enters (changeMode_enters (k.inv h.inv) .service []) (.inr (.inr (.head _)))
  · exact h

theorem Drifts.trussUe (h : Drifts m s) : Drifts m (s.trussUe a) := .ite h.resign h

theorem Drifts.supplyFault (h : Drifts m s) : Drifts m (s.supplyFault a) := by
  unfold State.supplyFault
  extract_lets ok s1 s2 s3
  have h3 : Drifts m s3 := h.keep fun h => State.evt_ok (ok_ite (State.setFld_ok (State.setFld_ok h)) (State.setFld_ok h))
  exact .ite h3.resign h3

theorem Drifts.writeSysCtrl (h : Drifts m s) : Drifts m (s.writeSysCtrl v) := by
  have h1 : Drifts m (s.wr SYS_CTRL ((s.rd SYS_CTRL ||| v) &&& 1)) := h.keep fun h => State.wr_ok h
  exact .ite h1.enterReset h1

/-! ### The write of a register -/

theorem Drifts.putSystem {x : State} (h : Drifts m s) (e : s.putSystem q off v = some x) : Drifts m x := by
  unfold State.putSystem at e
  split at e
  · cases e
    exact h.writeSysCtrl
  · exact h.keep fun h => ok_of_some (ok_ite (okO_some (State.putMsix_ok h)) <|
      ok_ite (okO_some (State.writeFusCtrl_ok h)) <| ok_ite (okO_some (State.writeModeReq_ok h)) <|
      ok_ite (okO_some (State.writeIslReq_ok h)) <| ok_ite (okO_some (State.writeBootCtrl_ok h)) <| ok_ite (okO_some h) <|
      ok_ite (okO_some (State.writeSvcCtrl_ok h)) <| ok_ite (okO_some (State.writeTelCtrl_ok h)) okO_none) e

theorem Drifts.putTwin {x : State} (h : Drifts m s) (e : s.putTwin q off v = some x) : Drifts m x := by
  unfold State.putTwin at e
  extract_lets p o s1 at e
  split at e
  · cases e
    have h1 : Drifts m s1 := h.keep fun h => State.setFld_ok h
    exact .ite h1.resign h1
  · exact h.keep fun h => ok_of_some (ok_ite (okO_some (State.writeTydCtrl_ok h)) (ok_ite (okO_some (State.writeCfgOnly_ok h))
      (ok_ite (okO_some (State.writeCfgOnly_ok h)) (ok_ite (okO_some (State.writePbCtrl_ok h)) okO_none)))) e

theorem Drifts.putBody (h : Drifts m s) : Drifts m (s.putBody q off r v) := by
  unfold State.putBody
  extract_lets v p o
  refine .getD (fun x hx => ?_) (h.keep fun h => State.putPlain_ok h)
  have e : o = some x := hx
  unfold o at e
  split at e
  · exact h.putSystem e
  split at e
  · exact h.keep fun h => ok_of_some (State.putPlumb_ok h) e
  split at e
  · exact h.putTwin e
  split at e
  · exact h.keep fun h => ok_of_some (State.putFabric_ok h) e
  · exact h.keep fun h => ok_of_some (State.putOuter_ok h) e

theorem Drifts.putBodyLive (h : Drifts m s) : Drifts m (s.putBodyLive q off r v) := by
  unfold State.putBodyLive
  extract_lets k s1
  have h1 : Drifts m s1 := .ite h h.putBody
  exact .ite h.putBody (h1.keep fun h => State.onCrn_ok h)

/-- The occurrences of the pages below 0x030: among them the supply fault, on which the engine resigns. -/
theorem Drifts.injSystem {x : State} (h : Drifts m s) (e : s.injSystem p b = some x) : Drifts m x := by
  by_cases hp : p = 2 ∧ b = 0
  · obtain ⟨rfl, rfl⟩ := hp
    cases e
    exact h.supplyFault.keep fun h => State.supplyBack_ok h
  · refine h.keep fun h => ok_of_some ?_ e
    unfold State.injSystem
    rw [if_neg hp]
    have counts {c : Fld} {x y : Nat} : OkO _ _ (some ((s.bump c).evt x y)) := okO_some (State.evt_ok (State.bump_ok h))
    have shows {c : Fld} {x y : Nat} : OkO _ _ (some ((s.setFld c 1).evt x y)) := okO_some (State.evt_ok (State.setFld_ok h))
    refine ok_ite (okO_some (State.evt_ok (ok_ite (State.bump_ok h) (State.wrN_ok (State.wrN_ok (State.bump_ok h)))))) <|
      ok_ite shows <| ok_ite counts <| ok_ite counts <| ok_ite counts <| ok_ite shows <|
      ok_ite (ok_map fun _ => State.laneFault_ok h) <| ok_ite counts <| ok_ite counts <| ok_ite counts <| ok_ite counts <|
      ok_ite (okO_some (State.countForced_ok h)) <| ok_ite counts okO_none

theorem Drifts.injectBit (h : Drifts m s) : Drifts m (s.injectBit p b) := by
  unfold State.injectBit
  refine .ite (h.keep fun h => State.addInj_ok h) (.getD (fun x hx => ?_) (h.keep fun h => State.evt_ok h))
  have e : (if p < 0x30 then s.injSystem p b else if p < 0x70 then s.injCore p b else s.injOuter p b) = some x := hx
  split at e
  · exact h.injSystem e
  · exact h.keep fun h => ok_of_some (ok_ite (State.injCore_ok h) (State.injOuter_ok h)) e

theorem Drifts.putInj (h : Drifts m s) : Drifts m (s.putInj p v) := by
  unfold State.putInj
  extract_lets ok s1
  have h1 : Drifts m s1 := h.keep fun h => ok_ite h (State.evt_ok (State.bump_ok h))
  exact h1.foldl fun _ _ h => h.injectBit

theorem Drifts.putHeader (h : Drifts m s) : Drifts m (s.putHeader q p o v) :=
  .ite (h.keep fun h => State.putCtrl_ok h) <| .ite (h.keep fun h => State.wr_ok h) <|
    .ite (h.keep fun h => State.putEvtEn_ok h) <| .ite (h.keep fun h => State.wr_ok h) <| .ite h.putInj <|
    .ite (h.keep fun h => State.countFence_ok h) h

theorem Drifts.putReg (h : Drifts m s) : Drifts m (s.putReg q off v) := by
  unfold State.putReg
  extract_lets p o
  refine .ite (h.keep fun h => State.errResp_ok h) <| .ite (h.keep fun h => State.errResp_ok h) <| .ite h <|
    .ite h.putHeader ?_
  split
  · exact h
  · exact h.putBodyLive

theorem Drifts.takeLive (h : Drifts m s) : Drifts m s.takeLive := by
  have h1 : Drifts m (s.onCrn fun c => { c with live := [] }) := h.keep fun h => State.onCrn_ok h
  refine h1.foldl fun s a h => ?_
  split
  · exact .ite h h.putBody
  · exact h

/-! ### The access of a word -/

theorem Drifts.trussWrite (h : Drifts m s) : Drifts m (s.trussWrite q a o bs size).2 := by
  unfold State.trussWrite
  split
  · exact h
  extract_lets old new live
  clear_value new
  split
  · exact .trussUe (h.keep fun h => State.errResp_ok h)
  · extract_lets w s1 s2 s3 also
    have k1 : KeepsMode s s1 := fun h => State.setWord_ok h
    have k2 : KeepsMode s1 s2 := fun h => State.liveWrote_ok (State.holdWord_ok h)
    have k3 : KeepsMode s2 s3 := fun h => ok_ite (State.liveWrote_ok h) h
    split
    · exact h.keep k1
    · exact h.keep fun h => ok_ite (State.setWord_ok (k3 (k2 (k1 h)))) (k3 (k2 (k1 h)))

theorem Drifts.putSlot (h : Drifts m s) : Drifts m (s.putSlot q a o bs size).2 := by
  unfold State.putSlot
  extract_lets k
  split
  · exact h.keep fun h => State.errResp_ok h
  clear_value k
  cases k with
  | rom | unused => exact h
  | bank x =>
    dsimp only
    split
    · exact h.keep fun h => State.errResp_ok h
    split
    · exact h.keep fun h => State.setWord_ok h
    split
    · exact h.keep fun h => State.errResp_ok (ok_of_pair (State.checkedRead_ok h) ‹_›)
    · exact h.keep fun h => State.setWord_ok (ok_of_pair (State.checkedRead_ok h) ‹_›)
  | setAlias x | clearAlias x => exact h.keep fun h => ok_snd (State.aliasWriteBytes_ok h)
  | truss x => exact h.trussWrite
  | chisel p x => exact h.keep fun h => ok_snd (State.chiselWrite_ok h)
  | mailbox x => exact h.keep fun h => ok_snd (State.mailboxWriteBytes_ok h)
  | nothing => exact h.keep fun h => State.errResp_ok h

theorem Drifts.putSlots (h : Drifts m s) : Drifts m (State.putSlots q size n a bs s) := by
  induction n generalizing s a bs with
  | zero => exact h
  | succ n ih =>
    unfold State.putSlots
    split
    · exact h
    · have hp := h.putSlot (q := q) (a := a - a % 16) (o := a % 16) (bs := bs.take (16 - a % 16)) (size := size)
      dsimp only
      split
      next e => exact hp.of_pair e
      next e => exact ih (hp.of_pair e)

theorem Drifts.putAccess (h : Drifts m s) : Drifts m (s.putAccess q addr bs) := by
  unfold State.putAccess
  extract_lets n off s1
  have h1 : Drifts m s1 := h.putReg
  have he {c i n} : Drifts m (s.errResp q c i true n) := h.keep fun h => State.errResp_ok h
  exact .ite (.ite he (.ite he (.ite h1.putReg h1))) (.ite he (.ite he h.putSlots))

theorem Drifts.getSlot (h : Drifts m s) : Drifts m (s.getSlot q a o size).2 := by
  have he {c i} : Drifts m (s.errResp q c i false size) := h.keep fun h => State.errResp_ok h
  have hc {x c i} : Drifts m (match s.checkedRead q x with
      | (none, s) => (none, s.errResp q c i false size)
      | r => r).2 := by
    split
    · exact h.keep fun h => State.errResp_ok (ok_of_pair (State.checkedRead_ok h) ‹_›)
    · exact h.keep fun h => ok_snd (State.checkedRead_ok h)
  unfold State.getSlot
  extract_lets k bank coded
  split
  · exact he
  clear_value k
  have hb {x} : Drifts m (bank x).2 := by
    unfold bank
    split
    · exact he
    · exact hc
  have hw {w} : Drifts m (coded w).2 := by
    cases w
    · exact he
    · exact h
  cases k with
  | rom | unused => exact h
  | bank x | setAlias x | clearAlias x => exact hb
  | truss x =>
    dsimp only
    split
    · exact h
    · exact he.trussUe
  | chisel p x =>
    dsimp only
    split
    · exact he
    · exact hw
  | mailbox x => exact hc
  | nothing => exact he

theorem Drifts.getSlots (h : Drifts m s) : Drifts m (State.getSlots q size n a k s).2 := by
  induction n generalizing s a k with
  | zero => exact h
  | succ n ih =>
    unfold State.getSlots
    split
    · exact h
    · have hp := h.getSlot (q := q) (a := a - a % 16) (o := a % 16) (size := size)
      dsimp only
      split
      next e => exact hp.of_pair e
      next e => split <;> exact (ih (hp.of_pair e)).of_pair ‹_›

theorem Drifts.getAccess (h : Drifts m s) : Drifts m (s.getAccess q addr n).2 := by
  have he {c i} : Drifts m (s.errResp q c i false n) := h.keep fun h => State.errResp_ok h
  unfold State.getAccess
  split
  · extract_lets off
    split
    · exact he
    split
    · exact he
    split
    · exact h.keep fun h => ok_of_pair (State.getReg_ok h) ‹_›
    next v t e =>
      have ht : Drifts m t := h.keep fun h => ok_of_pair (State.getReg_ok h) e
      split
      · split <;> exact ht.keep fun h => ok_of_pair (State.getReg_ok h) ‹_›
      · exact ht
  split
  · exact he
  split
  · exact he
  · exact h.getSlots

theorem Drifts.spiNow (h : Drifts m s) {full : Bool} : Drifts m (s.spiNow addr n full) := by
  have ha := h.getAccess (q := 1) (addr := addr) (n := n)
  unfold State.spiNow
  split
  next t e => exact (ha.of_pair e).keep fun h => State.emit_ok h
  next bytes t e => exact (ha.of_pair e).keep fun h => ok_ite (State.statusSent_ok (State.emit_ok h)) (State.emit_ok h)

/-! ### Accesses in their turn -/

theorem Drifts.noteWrite {u : State} (h : Drifts m s) : Drifts m (u.noteWrite s q) := h.keep fun h => State.noteWrite_ok h

theorem Drifts.performFwd (h : Drifts m s) : Drifts m (s.performFwd f) := by
  cases f with
  | reg => exact h.putReg.noteWrite
  | bytes => exact h.putAccess.noteWrite
  | readReg => exact h.keep fun h => State.readNow_ok h
  | readSpi => exact h.spiNow

theorem Drifts.drainFrom {kept fs : List (Nat × Forwarded)} (h : Drifts m s) : Drifts m (State.drainFrom kept fs s) := by
  induction fs generalizing s kept with
  | nil => exact h
  | cons f fs ih =>
    have h1 : Drifts m { s with fwd := kept ++ fs } := h.keep fun h => ok_mk h
    exact .ite h (.ite (ih h1.performFwd) (ih h))

theorem Drifts.drain (h : Drifts m s) : Drifts m s.drain := h.drainFrom

theorem Drifts.turn (h : Drifts m s) : Drifts m (s.turn f) := .ite h.performFwd (h.keep fun h => ok_mk h)

theorem Drifts.writeAccess (h : Drifts m s) : Drifts m (s.writeAccess q addr bs) :=
  .ite (h.keep fun h => State.sendBelay_ok (ok_mk (ok_snd (State.newTag_ok h)))) h.turn

theorem Drifts.hostBytes (h : Drifts m s) : Drifts m (s.hostBytes q addr bs) :=
  .ite h (.writeAccess (h.keep fun h => ok_snd (State.asPerformed_ok h)))

theorem Drifts.wordWrite {c : Option Nat} (h : Drifts m s) : Drifts m (s.wordWrite q addr bs c) := by
  cases c with
  | none => exact h.hostBytes
  | some i =>
    unfold State.wordWrite
    dsimp only
    have h1 : Drifts m (if i = 0 then s else s.hostBytes q addr (bs.take (16 * i))) := .ite h h.hostBytes
    have h2 : Drifts m (State.collide (if i = 0 then s else s.hostBytes q addr (bs.take (16 * i))) q
      ((addr + 16 * i) % 0x10000 / 16)) := h1.keep fun h => State.collide_ok h
    exact .ite h.hostBytes (.ite h2 h2.hostBytes)

/-! ### Memory checks, ticks and snapshots -/

theorem Drifts.scrubUe (h : Drifts m s) : Drifts m (s.scrubUe a k n) := by
  unfold State.scrubUe
  extract_lets s1 p cause
  have h1 : Drifts m s1 := h.keep fun h => ok_ite h (State.evt_ok (State.wrN_ok h))
  clear_value s1
  split
  · exact h1.resign
  · exact h1.keep fun h => State.setWord_ok h
  · exact h1.keep fun h => ok_ite (State.onCore_ok h) (State.coreFault_ok h)
  · exact h1

theorem Drifts.scrubAccess {x : BitVec 80} (h : Drifts m s) (e : execScrubAccess addr x s = .next t) : Drifts m t := by
  unfold execScrubAccess at e
  split at e
  · exact Host.Outcome.next.inj e ▸ h
  split at e
  · exact Host.Outcome.next.inj e ▸ h.keep fun h => ok_ite (State.upset_ok h) h
  next k w _ =>
    extract_lets s1 at e
    have h1 : Drifts m s1 := h.keep fun h => State.upset_ok h
    clear_value s1
    split at e
    next inj s2 e2 =>
      have h2 : Drifts m s2 := h1.keep fun h => ok_of_pair (ok_ite (State.takeInj_ok h) (okP_mk h)) e2
      extract_lets r s3 at e
      refine Host.Outcome.next.inj e ▸ Drifts.keep (s := s3) ?_ fun h => State.scrubRound_ok h
      refine .ite (.scrubUe (h2.keep fun h => State.noteEcc_ok h)) (.ite ?_ (.ite h2.scrubUe
        (h2.keep fun h => ok_ite (State.queueBack_ok (State.bump_ok h)) h)))
      split
      · exact .scrubUe (h2.keep fun h => ok_of_pair (State.checkedRead_ok h) ‹_›)
      next e3 =>
        exact h2.keep fun h => ok_ite (State.bump_ok (ok_of_pair (State.checkedRead_ok h) e3))
          (ok_of_pair (State.checkedRead_ok h) e3)

theorem Drifts.beginIndex (h : Drifts m s) : Drifts m s.beginIndex :=
  h.drain.takeLive.keep fun h => State.tryFinal_ok (State.settle_ok (State.openLive_ok h))

theorem Drifts.nextIdx (h : Drifts m s) : Drifts m { s with idx := Machine.nextIdx s.idx } :=
  h.keep fun h => ok_idx h (nextIdx_lt _)

theorem Drifts.catchUp (h : Drifts m s) : Drifts m s.catchUp := by
  have h1 : Drifts m s.keepPasses.lapse.closeIndex := h.keep fun h =>
    State.closeIndex_ok (State.lapse_ok (State.keepPasses_ok h))
  exact .ite h (h1.nextIdx.beginIndex.keep fun h =>
    State.showBehind_ok (State.trimPresence_ok (State.pumpAll_ok (State.dueDecisions_ok h))))

theorem Drifts.resignLost (h : Drifts m s) : Drifts m s.resignLost := .ite h.resign h

theorem Drifts.fullTick (h : Drifts m s) : Drifts m s.fullTick := by
  have h1 : Drifts m s.endIndex := h.keep fun h => State.endIndex_ok h
  have h2 : Drifts m (State.rateTick { s.endIndex with idx := Machine.nextIdx s.endIndex.idx }) :=
    h1.nextIdx.keep fun h => State.rateTick_ok h
  exact .resignLost (h2.beginIndex.keep fun h => State.unitTick_ok (State.captureOn_ok (State.latchTick_ok h)))

theorem Drifts.snapWords (h : Drifts m s) : Drifts m (s.snapWords k a n).2 := by
  unfold State.snapWords
  split
  · exact h.keep fun h => ok_snd (State.snapBank_ok h)
  refine List.foldlRecOn (motive := fun e : List Word × State => Drifts m e.2) _ _ h fun e h i _ => ?_
  dsimp only
  split
  · split
    · exact h.keep fun h => ok_snd (State.snapLost_ok (okP_mk h))
    · exact h
  · exact h
  · split
    · exact h
    · exact h.trussUe.keep fun h => ok_snd (State.snapLost_ok (okP_mk h))

theorem Drifts.resyncStart (h : Drifts m s) (e : execResyncStart s = .next t) : Drifts m t := by
  unfold execResyncStart at e
  refine Host.Outcome.next.inj e ▸ ?_
  split
  · exact h
  next n0 _ =>
    refine .ite ?_ (h.keep fun h => ok_ite (State.wrN_ok (State.wrIdx_ok (State.setFld_ok (State.onTrs_ok (State.onBly_ok
      (State.standBefore_ok h)))))) h)
    extract_lets fs total s1 s2
    have h1 : Drifts m s1 := h.keep fun h => State.setFld_ok (State.onBly_ok h)
    have h2 : Drifts m s2 := h1.foldl fun _ _ h => h.snapWords.keep fun h => State.sendSnap_ok h
    exact h2.keep fun h => State.wrN_ok (State.wrN_ok (State.sendUnits_ok h))

/-! ### Resets and the end of a Descent -/

theorem Drifts.endDescent {b : Bool} (h : Drifts m s) : Drifts m (s.endDescent n b) := by
  unfold State.endDescent
  exact .enterReset (h.keep fun h => State.wrN_ok h)

theorem Drifts.descent (h : Drifts m s) (e : execDescent s = .next t) : Drifts m t := by
  unfold execDescent at e
  refine Host.Outcome.next.inj e ▸ .ite h ?_
  extract_lets s1
  have h1 : Drifts m s1 := h.keep fun h => State.onSys_ok h
  have h2 : Drifts m (s1.free 16).2 := h1.keep fun h => ok_snd (State.free_ok h)
  exact .ite h2.endDescent (h1.keep fun h => State.tydFreeze_ok (State.dropSwap_ok h))

theorem Drifts.descentFlushDone (h : Drifts m s) (e : execDescentFlushDone n s = .next t) : Drifts m t := by
  unfold execDescentFlushDone at e
  refine Host.Outcome.next.inj e ▸ ?_
  split
  · extract_lets s1
    have h1 : Drifts m s1 := h.keep fun h => State.mltAllOff_ok (State.tydJournal_ok h)
    exact .ite (h1.keep fun h => State.onSys_ok h) <| .ite (h1.resign.keep fun h => State.onSys_ok h) <|
      .ite (.endDescent (h1.keep fun h => State.onSys_ok (State.sendResign_ok h))) h1.endDescent
  · exact h

/-! ### The edges of the other commands -/

/-- The edges a command may take beside those into RESET (R20): only these commands change the mode by more than a drift. The end
of the output hold, into SERVICE, is apart. -/
def edgesOf : Instr → List (Mode × Mode)
  | .resetExit _ => [(.reset, .selftest)]
  | .bootDone _ => [(.selftest, .config)]
  | .joinDone _ => [(.config, .standby)]
  | .reqDone _ => [(.config, .active), (.config, .service), (.active, .config), (.active, .service), (.standby, .config),
      (.standby, .service), (.service, .config)]
  | .actInRise _ | .swapExecute => [(.active, .standby)]
  | .actInFall | .takeover _ => [(.standby, .active)]
  | _ => driftEdges

theorem Moves.stay {es : List (Mode × Mode)} (h : m' = m) : Moves es m m' := .inl h

theorem Moves.edge {es : List (Mode × Mode)} (h : (m, m') ∈ es) : Moves es m m' := .inr (.inr h)

theorem KeepsMode.enters (k : KeepsMode s t) (h : s.Inv ∧ s.mode = m) : t.mode = m := (k.mode h.1).trans h.2

theorem resetExit_moves {x : ResetExit} (h : s.Inv) (e : execResetExit x s = .next t) :
    Moves (edgesOf (.resetExit x)) s.mode t.mode := by
  unfold execResetExit at e
  obtain rfl := Host.Outcome.next.inj e
  split
  next hc =>
    extract_lets s1 s2 s3 s4 s5
    have k5 : KeepsMode s1 s5 := fun h => State.fusedRepairs_ok (ok_ite (State.evt_ok (State.setFld_ok (State.setFld_ok
      (State.setFld_ok h)))) (State.setFld_ok (State.setFld_ok (State.setFld_ok h))))
    have k : KeepsMode s1 (if ¬ x.bist then s5.selftestCause 1
        else if x.bootSrc = 0 ∨ x.bootSrc = 3 then (s5.selftestCause 2).tryCopies 0 x.copies else s5) := fun h =>
      ok_ite (State.selftestCause_ok (k5 h)) (ok_ite (State.tryCopies_ok (State.selftestCause_ok (k5 h))) (k5 h))
    rw [k.enters (setMode_enters h .selftest), hc.1]
    exact .edge (.head _)
  · exact .stay rfl

theorem bootDone_moves (h : s.Inv) (e : execBootDone n s = .next t) : Moves (edgesOf (.bootDone n)) s.mode t.mode := by
  unfold execBootDone at e
  obtain rfl := Host.Outcome.next.inj e
  split
  next hc =>
    have k : KeepsMode s (s.setFld PWR_BOOT_STAT_SELFTEST (min 4095 n)) := fun h => State.setFld_ok h
    extract_lets s1
    have k1 : KeepsMode s1 (if s1.fld TYD_CTRL_MOUNT = 1 then s1.startMount else s1) := fun h =>
      ok_ite (State.startMount_ok h) h
    rw [k1.enters (changeMode_enters (k.inv h) .config []), hc.1]
    exact .edge (.head _)
  · exact .stay rfl

theorem joinDone_moves (h : s.Inv) (e : execJoinDone n s = .next t) : Moves (edgesOf (.joinDone n)) s.mode t.mode := by
  unfold execJoinDone at e
  obtain rfl := Host.Outcome.next.inj e
  split
  · exact .stay rfl
  split
  · extract_lets s1 s2 w
    have k2 : KeepsMode s s2 := fun h => State.wrN_ok (State.setFld_ok (State.setFld_ok (State.onBly_ok (State.sendUnits_ok h))))
    exact .stay (KeepsMode.mode (fun h =>
      State.evt_ok (State.chooseLanes_ok (State.setFld_ok (State.beginLockstep_ok (k2 h))))) h)
  split
  · extract_lets s1 s2
    have k : KeepsMode s1 ((s2.endJoin 4 0 0 (some s2.idx)).evt 0x71 0) := fun h =>
      State.evt_ok (State.endJoin_ok (State.wrN_ok (State.wrN_ok (State.beginLockstep_ok h))))
    by_cases hc : s.mode = .config
    · have e1 : s1 = s.changeMode .standby [] := if_pos hc
      rw [k.enters (e1 ▸ changeMode_enters h .standby []), hc]
      exact .edge (.head _)
    · have e1 : s1 = s := if_neg hc
      exact .stay ((k.mode (e1 ▸ h)).trans (congrArg _ e1))
  · exact .stay rfl

theorem actInFall_moves (h : s.Inv) (e : execActInFall s = .next t) : Moves (edgesOf .actInFall) s.mode t.mode := by
  unfold execActInFall at e
  extract_lets s0 s1 at e
  obtain rfl := Host.Outcome.next.inj e
  have k : KeepsMode s (s0.onBly fun b => { b with swap := none }) := fun h => State.onBly_ok (State.setFld_ok h)
  split
  · split
    next hc =>
      extract_lets s2
      have k2 : KeepsMode s1 (s2.evt 0x70 5) := fun h => State.evt_ok (State.wr_ok (State.wrIdx_ok (State.setActOut_ok h)))
      rw [k2.enters (changeMode_enters (k.inv h) .active []), show s.mode = .standby from hc.1]
      exact .edge (.head _)
    · exact .stay rfl
  · exact .stay rfl

theorem takeover_moves (h : s.Inv) (e : execTakeover n s = .next t) : Moves (edgesOf (.takeover n)) s.mode t.mode := by
  unfold execTakeover at e
  obtain rfl := Host.Outcome.next.inj e
  split
  next hc =>
    extract_lets s1 s2 s3 s4
    have k1 : KeepsMode (s.changeMode .active []) s1 := fun h => State.setActOut_ok h
    have k3 : KeepsMode s1 s3 := fun h => State.sweepTakeover_ok (State.jTakeover_ok (State.wrN_ok (State.wrIdx_ok h)))
    have k4 : KeepsMode s3 s4 := fun h => ok_ite (State.finishReq_ok h) h
    have k : KeepsMode (s.changeMode .active []) ((s4.evt 0x70 3).pumpAll) := fun h =>
      State.pumpAll_ok (State.evt_ok (k4 (k3 (k1 h))))
    rw [k.enters (changeMode_enters h .active []), hc.1]
    exact .edge (.head _)
  · exact .stay rfl

theorem swapExecute_moves (h : s.Inv) (e : execSwapExecute s = .next t) : Moves (edgesOf .swapExecute) s.mode t.mode := by
  unfold execSwapExecute at e
  obtain rfl := Host.Outcome.next.inj e
  split
  next ns cmd _ =>
    split
    next hc =>
      extract_lets s1 s2 s3 s4
      have k1 : KeepsMode s s1 := fun h => State.setActOut_ok (State.onBly_ok h)
      have k3 : KeepsMode s2 s3 := fun h => State.wr_ok (State.wrIdx_ok h)
      have k4 : KeepsMode s3 s4 := fun h => by
        unfold s4
        split
        · exact State.completeCmd_ok h
        · exact h
      have k : KeepsMode s2 (s4.abortRing.evt 0x70 5) := fun h => State.evt_ok (State.abortRing_ok (k4 (k3 h)))
      rw [k.enters (changeMode_enters (k1.inv h) .standby []), hc.1]
      exact .edge (.head _)
    · exact .stay rfl
  · exact .stay rfl

/-- The end of the hold enters SERVICE (16 R393). -/
theorem endHold_mode {fails : List Nat} (h : s.Inv) : (s.endHold fails).mode = if s.bly.hold then .service else s.mode := by
  unfold State.endHold
  split
  · extract_lets s1
    have k1 : KeepsMode s (s1.setActOut false) := fun h => State.setActOut_ok (State.setFld_ok (State.onBly_ok h))
    exact KeepsMode.enters (fun h => State.abortRing_ok h) (changeMode_enters (k1.inv h) .service fails)
  · rfl

theorem holdOver_mode {b : Bool} {fails : List Nat} (h : s.Inv) (hh : s.bly.hold = true) :
    (s.holdOver b fails).mode = .reset ∨ (s.holdOver b fails).mode = .service := by
  unfold State.holdOver
  split
  · exact .inl (enterReset_mode _ _ _)
  · exact .inr ((endHold_mode h).trans (if_pos hh))
  · exact .inr ((endHold_mode h).trans (if_pos hh))

/-- A command ran as R20's edges allow it, or ended the output hold in SERVICE. -/
def MovesOrHoldEnds (es : List (Mode × Mode)) (s t : State) : Prop :=
  Moves es s.mode t.mode ∨ (s.bly.hold = true ∧ t.mode = .service)

theorem holdEnd_moves {fails : List Nat} (h : s.Inv) (e : execHoldEnd fails s = .next t) :
    MovesOrHoldEnds (edgesOf (.holdEnd fails)) s t := by
  unfold execHoldEnd at e
  obtain rfl := Host.Outcome.next.inj e
  split
  next hh => exact (holdOver_mode h hh).imp (fun hr => .inr (.inl hr)) fun hm => ⟨hh, hm⟩
  · exact .inl (.stay rfl)

/-- An active engine that yields the field without a hold becomes the standby (16 R378). -/
theorem yieldField_moves {fails : List Nat} (h : s.Inv) (hh : s.bly.hold = false) :
    Moves [(.active, .standby)] s.mode (s.yieldField fails).mode := by
  unfold State.yieldField
  rw [if_neg (by simp [hh])]
  extract_lets s1
  have k1 : KeepsMode s s1 := fun h => State.setActOut_ok (State.leaveLockstep_ok h)
  have k2 : KeepsMode s (s1.finishReq 1 0) := fun h => State.finishReq_ok (k1 h)
  split
  next hc =>
    rw [KeepsMode.enters (fun h => State.autoResync_ok (State.abortRing_ok h)) (changeMode_enters (k2.inv h) .standby []),
      ← k1.mode h, hc]
    exact .edge (.head _)
  · exact .stay (k1.mode h)

theorem jTakeover_bly (h : s.Inv) : s.jTakeover.bly = s.bly :=
  (State.jTakeover_ok (p := s.pending) (κ := { bly := some s.bly })
    ⟨rfl, h, ⟨nofun, nofun, nofun, nofun, nofun, nofun, nofun, nofun, nofun, nofun, nofun, nofun, nofun, nofun, nofun, nofun,
      fun _ e => Option.some.inj e⟩⟩).kept.bly _ rfl

theorem actInRise_moves (h : s.Inv) (e : execActInRise n s = .next t) : MovesOrHoldEnds (edgesOf (.actInRise n)) s t := by
  unfold execActInRise at e
  extract_lets s0 at e
  obtain rfl := Host.Outcome.next.inj e
  have k0 : KeepsMode s s0 := fun h => State.setFld_ok h
  have kj : KeepsMode s s0.jTakeover := fun h => State.jTakeover_ok (k0 h)
  have hj : s0.jTakeover.bly = s.bly := jTakeover_bly (k0.inv h)
  split
  · split
    next hh =>
      exact (holdOver_mode (kj.inv h) (hj ▸ hh)).imp (fun hr => .inr (.inl hr)) fun hm => ⟨hh, hm⟩
    split
    · exact .inl (.stay rfl)
    next hh _ =>
      have hy := yieldField_moves (fails := []) (kj.inv h) (Bool.eq_false_iff.2 fun hb => hh (hj ▸ hb))
      exact .inl (kj.mode h ▸ hy)
  split
  · exact .inl (.stay (KeepsMode.mode (fun h => State.finishReq_ok (k0 h)) h))
  · exact .inl (.stay rfl)

theorem enterRequested_mode {fails : List Nat} (h : s.Inv) :
    (s.enterRequested fails).mode = if s.fld PWR_MODE_STAT_TARGET = 5 then .service else .config := by
  unfold State.enterRequested
  extract_lets m' was s1 s2
  have k : KeepsMode (s.changeMode m' fails) (s2.finishReq 0 0) := fun h =>
    have h1 := State.leaveLockstep_ok (State.endJoin_ok h)
    State.finishReq_ok (ok_ite (State.abortRing_ok h1) h1)
  exact k.enters (changeMode_enters h m' fails)

theorem reqDone_moves {fails : List Nat} (h : s.Inv) (e : execReqDone fails s = .next t) :
    Moves (edgesOf (.reqDone fails)) s.mode t.mode := by
  unfold execReqDone at e
  extract_lets tg s1 at e
  obtain rfl := Host.Outcome.next.inj e
  have hr := enterRequested_mode (fails := fails) h
  split
  · exact .stay rfl
  split
  next hm =>
    split
    · split
      · exact .stay (KeepsMode.mode (fun h => State.finishReq_ok h) h)
      · have k : KeepsMode s (s.endJoin 0 0x7F 0 none) := fun h => State.endJoin_ok h
        have k1 : KeepsMode s1 ((if s1.fld BLY_STAT_ACT_IN = 0 then s1.setActOut true else s1).finishReq 0 0) := fun h =>
          State.finishReq_ok (ok_ite (State.setActOut_ok h) h)
        rw [k1.enters (changeMode_enters (k.inv h) .active []), hm]
        exact .edge (by simp [edgesOf])
    split
    next ht => 
      rw [hr, if_pos ht, hm]
      exact .edge (by simp [edgesOf])
    · exact .stay rfl
  next hm =>
    split
    · exact .stay rfl
    · rw [hr, hm]
      split <;> exact .edge (by simp [edgesOf])
  next hm =>
    split
    · rw [hr, hm]
      split <;> exact .edge (by simp [edgesOf])
    · exact .stay rfl
  next hm =>
    rw [hr, hm]
    split
    · exact .stay rfl
    · exact .edge (by simp [edgesOf])
  · exact .stay rfl

theorem Drifts.next {u : State} (e : Host.Outcome.next u = (.next t : Res)) (h : Drifts m u) : Drifts m t :=
  Host.Outcome.next.inj e ▸ h

theorem MovesOrHoldEnds.drift (h : Drifts s.mode t) : MovesOrHoldEnds driftEdges s t := .inl h.mode

theorem MovesOrHoldEnds.keeps {x : Res} {es : List (Mode × Mode)} (h : s.Inv) (e : x = .next t)
    (k : FreeButMode fun p κ => Ok p κ s → OkR p κ x) : MovesOrHoldEnds es s t :=
  .inl (.stay (KeepsMode.mode (fun h => ok_of_next (k h) e) h))

theorem Drifts.mspiRead {ph : ReadPhase} (h : Drifts m s) (e : execMspiRead bs ph s = .next t) : Drifts m t := by
  refine .next e (.ite h ?_)
  split
  · exact .ite h (.ite (h.keep fun h => State.emit_ok (State.frameErr_ok h)) h.turn)
  · exact h

theorem Drifts.mspiWrite {c : Option Nat} (h : Drifts m s) (e : execMspiWrite bs n c s = .next t) : Drifts m t := by
  have hf : Drifts m s.frameErr := h.keep fun h => State.frameErr_ok h
  refine .next e (.ite h ?_)
  split
  · exact h
  · refine .ite hf (.ite h ?_)
    split
    · exact .ite hf h.wordWrite
    · exact hf

theorem Drifts.deferredMemWrite {p : Fin 17} (h : Drifts m s) (e : execDeferredMemWrite p s = .next t) : Drifts m t := by
  unfold execDeferredMemWrite at e
  split at e
  · exact .next e h
  · extract_lets n at e
    split at e
    · exact .next e h
    · exact .next e (.drain (h.keep fun h => State.performDeferred_ok h))

/-- What each command does to the mode (R20). -/
theorem exec_moves {c : Instr} (hi : s.Inv) (e : exec c s = .next t) : MovesOrHoldEnds (edgesOf c) s t := by
  have h : Drifts s.mode s := .refl hi
  cases c with
  | resetExit => exact .inl (resetExit_moves hi e)
  | bootDone => exact .inl (bootDone_moves hi e)
  | joinDone => exact .inl (joinDone_moves hi e)
  | reqDone => exact .inl (reqDone_moves hi e)
  | actInFall => exact .inl (actInFall_moves hi e)
  | takeover => exact .inl (takeover_moves hi e)
  | swapExecute => exact .inl (swapExecute_moves hi e)
  | actInRise => exact actInRise_moves hi e
  | holdEnd => exact holdEnd_moves hi e
  | sampleTick cycles =>
    have h1 : Drifts s.mode (if s.mode = .reset then s else s.advance cycles) := .ite h (h.keep fun h => State.advance_ok h)
    have hr : Drifts s.mode (State.showBehind (State.realTick (if s.mode = .reset then s else s.advance cycles))) :=
      h1.keep fun h => State.showBehind_ok (State.realTick_ok h)
    exact .drift (.next e (.ite h1 (.ite (.ite h1.catchUp hr) h1.fullTick)))
  | wordWrite => exact .drift (.next e (.wordWrite (.ite h (h.keep fun h => State.waited_ok h))))
  | trussLiveWrite | aliasSetWrite | aliasClearWrite => exact .drift (.next e h.hostBytes)
  | mspiWrite => exact .drift (h.mspiWrite e)
  | mspiRead => exact .drift (h.mspiRead e)
  | writeFrame =>
    have h1 : Drifts s.mode s.gotFrame := h.keep fun h => State.gotFrame_ok h
    exact .drift (.next e (.ite h1 (.drain (h1.keep fun h => ok_mk h))))
  | passStart => exact .drift (.next e (.drain (h.keep fun h => State.startPass_ok h)))
  | migrateDone => exact .drift (.next e (.drain (h.keep fun h => State.migrated_ok h)))
  | deferredMemWrite => exact .drift (h.deferredMemWrite e)
  | scrubAccess => exact .drift (h.scrubAccess e)
  | resignation => exact .drift (.next e (.ite h.resign h))
  | resyncStart => exact .drift (h.resyncStart e)
  | supplyFault => exact .drift (.next e h.supplyFault)
  | powerOnReset => exact .drift (.next e (h.enterReset.keep fun h => State.setFld_ok h))
  | perstReset | sysReset => exact .drift (.next e (.ite h h.enterReset))
  | watchdogExpiry => exact .drift (.next e (.ite h.enterReset h))
  | descent => exact .drift (h.descent e)
  | descentFlushDone => exact .drift (h.descentFlushDone e)
  | samplePresent => exact .keeps hi e fun h => execSamplePresent_ok h
  | presenceDeadline => exact .keeps hi e fun h => execPresenceDeadline_ok h
  | itemIssue => exact .keeps hi e fun h => execItemIssue_ok h
  | itemComplete => exact .keeps hi e fun h => execItemComplete_ok h
  | consumerTake => exact .keeps hi e fun h => execConsumerTake_ok h
  | duckHoldExpire => exact .keeps hi e fun h => execDuckHoldExpire_ok h
  | zcForced => exact .keeps hi e fun h => execZcForced_ok h
  | changeoverSwitch => exact .keeps hi e fun h => execChangeoverSwitch_ok h
  | delayFillEnd => exact .keeps hi e fun h => execDelayFillEnd_ok h
  | stripStop => exact .keeps hi e fun h => execStripStop_ok h
  | batchEnd => exact .keeps hi e fun h => execBatchEnd_ok h
  | sourceRampEnd => exact .keeps hi e fun h => execSourceRampEnd_ok h
  | sinkRampEnd => exact .keeps hi e fun h => execSinkRampEnd_ok h
  | laneFault => exact .keeps hi e fun h => execLaneFault_ok h
  | spareJoined => exact .keeps hi e fun h => execSpareJoined_ok h
  | pairLaneChange => exact .keeps hi e fun h => execPairLaneChange_ok h
  | rcRead => exact .keeps hi e fun h => execRcRead_ok h
  | eccWriteback => exact .keeps hi e fun h => execEccWriteback_ok h
  | softResetDone => exact .keeps hi e fun h => execSoftResetDone_ok h
  | blowDone => exact .keeps hi e fun h => execBlowDone_ok h
  | senseDone => exact .keeps hi e fun h => execSenseDone_ok h
  | mspiStatus => exact .keeps hi e fun h => execMspiStatus_ok h
  | checkBegin => exact .keeps hi e fun h => execCheckBegin_ok h
  | checkDone => exact .keeps hi e fun h => execCheckDone_ok h
  | cplWaitEnd => exact .keeps hi e fun h => execCplWaitEnd_ok h
  | cairnNop => exact .keeps hi e fun h => execCairnNop_ok h
  | store => exact .keeps hi e fun h => execStore_ok h
  | stage => exact .keeps hi e fun h => execStage_ok h
  | commit => exact .keeps hi e fun h => execCommit_ok h
  | abort => exact .keeps hi e fun h => execAbort_ok h
  | commitFlip => exact .keeps hi e fun h => execCommitFlip_ok h
  | changingEnd => exact .keeps hi e fun h => execChangingEnd_ok h
  | stageDigestTimeout => exact .keeps hi e fun h => execStageDigestTimeout_ok h
  | passSkip => exact .keeps hi e fun h => execPassSkip_ok h
  | passStop => exact .keeps hi e fun h => execPassStop_ok h
  | timerRequest => exact .keeps hi e fun h => execTimerRequest_ok h
  | interruptEntry => exact .keeps hi e fun h => execInterruptEntry_ok h
  | bankPortReturn => exact .keeps hi e fun h => execBankPortReturn_ok h
  | resetCopyDone => exact .keeps hi e fun h => execResetCopyDone_ok h
  | resetProgramOverrun => exact .keeps hi e fun h => execResetProgramOverrun_ok h
  | coreFault => exact .keeps hi e fun h => execCoreFault_ok h
  | nop => exact .keeps hi e fun h => execNop_ok h
  | halt => exact .keeps hi e fun h => execHalt_ok h
  | rti => exact .keeps hi e fun h => execRti_ok h
  | br => exact .keeps hi e fun h => execBr_ok h
  | brl => exact .keeps hi e fun h => execBrl_ok h
  | brp => exact .keeps hi e fun h => execBrp_ok h
  | loop => exact .keeps hi e fun h => execLoop_ok h
  | loopd => exact .keeps hi e fun h => execLoopd_ok h
  | loopEnd => exact .keeps hi e fun h => execLoopEnd_ok h
  | movri => exact .keeps hi e fun h => execMovri_ok h
  | movrd => exact .keeps hi e fun h => execMovrd_ok h
  | movdr => exact .keeps hi e fun h => execMovdr_ok h
  | stset => exact .keeps hi e fun h => execStset_ok h
  | stclr => exact .keeps hi e fun h => execStclr_ok h
  | ldi => exact .keeps hi e fun h => execLdi_ok h
  | dmov => exact .keeps hi e fun h => execDmov_ok h
  | dcmp => exact .keeps hi e fun h => execDcmp_ok h
  | dtst => exact .keeps hi e fun h => execDtst_ok h
  | dmax => exact .keeps hi e fun h => execDmax_ok h
  | dmin => exact .keeps hi e fun h => execDmin_ok h
  | dand => exact .keeps hi e fun h => execDand_ok h
  | dor => exact .keeps hi e fun h => execDor_ok h
  | dxor => exact .keeps hi e fun h => execDxor_ok h
  | macq => exact .keeps hi e fun h => execMacq_ok h
  | macd => exact .keeps hi e fun h => execMacd_ok h
  | accd => exact .keeps hi e fun h => execAccd_ok h
  | clra => exact .keeps hi e fun h => execClra_ok h
  | accmov => exact .keeps hi e fun h => execAccmov_ok h
  | accsh => exact .keeps hi e fun h => execAccsh_ok h
  | ext => exact .keeps hi e fun h => execExt_ok h
  | accrd => exact .keeps hi e fun h => execAccrd_ok h
  | accwr => exact .keeps hi e fun h => execAccwr_ok h
  | bld => exact .keeps hi e fun h => execBld_ok h
  | bst => exact .keeps hi e fun h => execBst_ok h
  | ld => exact .keeps hi e fun h => execLd_ok h
  | st => exact .keeps hi e fun h => execSt_ok h
  | lda => exact .keeps hi e fun h => execLda_ok h
  | sta => exact .keeps hi e fun h => execSta_ok h
  | upd => exact .keeps hi e fun h => execUpd_ok h
  | iold => exact .keeps hi e fun h => execIold_ok h
  | iost => exact .keeps hi e fun h => execIost_ok h
  | stateDone => exact .keeps hi e fun h => execStateDone_ok h
  | regionTest => exact .keeps hi e fun h => execRegionTest_ok h
  | regionTestDone => exact .keeps hi e fun h => execRegionTestDone_ok h
  | replacementDone => exact .keeps hi e fun h => execReplacementDone_ok h
  | started => exact .keeps hi e fun h => execStarted_ok h
  | stopped => exact .keeps hi e fun h => execStopped_ok h
  | slotComplete => exact .keeps hi e fun h => execSlotComplete_ok h
  | tdmSlotTake => exact .keeps hi e fun h => execTdmSlotTake_ok h
  | trimLimit => exact .keeps hi e fun h => execTrimLimit_ok h
  | clkLoss => exact .keeps hi e fun h => execClkLoss_ok h
  | clockReturn => exact .keeps hi e fun h => execClockReturn_ok h
  | aesFrameReceive => exact .keeps hi e fun h => execAesFrameReceive_ok h
  | aesTxFrame => exact .keeps hi e fun h => execAesTxFrame_ok h
  | freqGate => exact .keeps hi e fun h => execFreqGate_ok h
  | refLoss => exact .keeps hi e fun h => execRefLoss_ok h
  | refQual => exact .keeps hi e fun h => execRefQual_ok h
  | switchRef => exact .keeps hi e fun h => execSwitchRef_ok h
  | wtrExpire => exact .keeps hi e fun h => execWtrExpire_ok h
  | lock => exact .keeps hi e fun h => execLock_ok h
  | controlAverage => exact .keeps hi e fun h => execControlAverage_ok h
  | outOfSpec => exact .keeps hi e fun h => execOutOfSpec_ok h
  | tickLatchRead => exact .keeps hi e fun h => execTickLatchRead_ok h
  | timeRead => exact .keeps hi e fun h => execTimeRead_ok h
  | fired => exact .keeps hi e fun h => execFired_ok h
  | pulseEnd => exact .keeps hi e fun h => execPulseEnd_ok h
  | captured => exact .keeps hi e fun h => execCaptured_ok h
  | ethFrameReceive => exact .keeps hi e fun h => execEthFrameReceive_ok h
  | arpAge => exact .keeps hi e fun h => execArpAge_ok h
  | ptpMessage => exact .keeps hi e fun h => execPtpMessage_ok h
  | ptpSend => exact .keeps hi e fun h => execPtpSend_ok h
  | esmcPdu => exact .keeps hi e fun h => execEsmcPdu_ok h
  | esmcSend => exact .keeps hi e fun h => execEsmcSend_ok h
  | aes67PacketReceive => exact .keeps hi e fun h => execAes67PacketReceive_ok h
  | aes67PacketSend st => exact .keeps (x := execAes67PacketSend st s) hi e fun h => execAes67PacketSend_ok h
  | streamOpen => exact .keeps hi e fun h => execStreamOpen_ok h
  | streamClose => exact .keeps hi e fun h => execStreamClose_ok h
  | sweep => exact .keeps hi e fun h => execSweep_ok h
  | sweepAbort => exact .keeps hi e fun h => execSweepAbort_ok h
  | tetherIn => exact .keeps hi e fun h => execTetherIn_ok h
  | tetherWritePoint => exact .keeps hi e fun h => execTetherWritePoint_ok h
  | tetherResendPoint => exact .keeps hi e fun h => execTetherResendPoint_ok h
  | tetherAck => exact .keeps hi e fun h => execTetherAck_ok h
  | swpRpt => exact .keeps hi e fun h => execSwpRpt_ok h
  | channelEnable => exact .keeps hi e fun h => execChannelEnable_ok h
  | channelDisable => exact .keeps hi e fun h => execChannelDisable_ok h
  | channelStart => exact .keeps hi e fun h => execChannelStart_ok h
  | stopRampEnd => exact .keeps hi e fun h => execStopRampEnd_ok h
  | loopUpdate => exact .keeps hi e fun h => execLoopUpdate_ok h
  | limit => exact .keeps hi e fun h => execLimit_ok h
  | flt => exact .keeps hi e fun h => execFlt_ok h
  | senseLoss => exact .keeps hi e fun h => execSenseLoss_ok h
  | retryWaitEnd => exact .keeps hi e fun h => execRetryWaitEnd_ok h
  | retryClear => exact .keeps hi e fun h => execRetryClear_ok h
  | diagTestStep => exact .keeps hi e fun h => execDiagTestStep_ok h
  | diagDone => exact .keeps hi e fun h => execDiagDone_ok h
  | reEstimate => exact .keeps hi e fun h => execReEstimate_ok h
  | sweepPointDone => exact .keeps hi e fun h => execSweepPointDone_ok h
  | sweepDone => exact .keeps hi e fun h => execSweepDone_ok h
  | senseOffsetCal => exact .keeps hi e fun h => execSenseOffsetCal_ok h
  | mounted => exact .keeps hi e fun h => execMounted_ok h
  | checkpoint => exact .keeps hi e fun h => execCheckpoint_ok h
  | pageProgramDone => exact .keeps hi e fun h => execPageProgramDone_ok h
  | pageReadDone => exact .keeps hi e fun h => execPageReadDone_ok h
  | relocationDone => exact .keeps hi e fun h => execRelocationDone_ok h
  | segmentRefresh => exact .keeps hi e fun h => execSegmentRefresh_ok h
  | playbackStart => exact .keeps hi e fun h => execPlaybackStart_ok h
  | exportStart => exact .keeps hi e fun h => execExportStart_ok h
  | exportDone => exact .keeps hi e fun h => execExportDone_ok h
  | exportAbort => exact .keeps hi e fun h => execExportAbort_ok h
  | libImport => exact .keeps hi e fun h => execLibImport_ok h
  | libDelete => exact .keeps hi e fun h => execLibDelete_ok h
  | archivePut => exact .keeps hi e fun h => execArchivePut_ok h
  | archiveGet => exact .keeps hi e fun h => execArchiveGet_ok h
  | format => exact .keeps hi e fun h => execFormat_ok h
  | tickFrame => exact .keeps hi e fun h => execTickFrame_ok h
  | commandFrame => exact .keeps hi e fun h => execCommandFrame_ok h
  | presence => exact .keeps hi e fun h => execPresence_ok h
  | patchReq => exact .keeps hi e fun h => execPatchReq_ok h
  | patch => exact .keeps hi e fun h => execPatch_ok h
  | decision => exact .keeps hi e fun h => execDecision_ok h
  | stageDigest => exact .keeps hi e fun h => execStageDigest_ok h
  | resign => exact .keeps hi e fun h => execResign_ok h
  | swapFrame ns port => exact .keeps (x := execSwapFrame ns port s) hi e fun h => execSwapFrame_ok h
  | nak => exact .keeps hi e fun h => execNak_ok h
  | snap => exact .keeps hi e fun h => execSnap_ok h
  | joinReq => exact .keeps hi e fun h => execJoinReq_ok h
  | joinAck => exact .keeps hi e fun h => execJoinAck_ok h
  | retransmit => exact .keeps hi e fun h => execRetransmit_ok h
  | hbInEdge => exact .keeps hi e fun h => execHbInEdge_ok h
  | hbOutToggle => exact .keeps hi e fun h => execHbOutToggle_ok h
  | pathFault => exact .keeps hi e fun h => execPathFault_ok h
  | peerReturn => exact .keeps hi e fun h => execPeerReturn_ok h
  | fallback => exact .keeps hi e fun h => execFallback_ok h
  | seniorReassert => exact .keeps hi e fun h => execSeniorReassert_ok h
  | swapStart => exact .keeps hi e fun h => execSwapStart_ok h
  | swapSkipped => exact .keeps hi e fun h => execSwapSkipped_ok h
  | swap => exact .keeps hi e fun h => execSwap_ok h
  | join => exact .keeps hi e fun h => execJoin_ok h
  | snapshotDone => exact .keeps hi e fun h => execSnapshotDone_ok h
  | descentAutoJoin => exact .keeps hi e fun h => execDescentAutoJoin_ok h
  | laneChange => exact .keeps hi e fun h => execLaneChange_ok h
  | trainFail => exact .keeps hi e fun h => execTrainFail_ok h
  | fastExit => exact .keeps hi e fun h => execFastExit_ok h
  | laneDown => exact .keeps hi e fun h => execLaneDown_ok h
  | linkDown => exact .keeps hi e fun h => execLinkDown_ok h
  | telRec => exact .keeps hi e fun h => execTelRec_ok h
  | sensorUpdate => exact .keeps hi e fun h => execSensorUpdate_ok h
  | synthCal => exact .keeps hi e fun h => execSynthCal_ok h
  | svcLate => exact .keeps hi e fun h => execSvcLate_ok h
  | wdtWarn => exact .keeps hi e fun h => execWdtWarn_ok h
  | islDone => exact .keeps hi e fun h => execIslDone_ok h
  | announceReceiptTimeout => exact .keeps hi e fun h => execAnnounceReceiptTimeout_ok h
  | esmcPduTimeout => exact .keeps hi e fun h => execEsmcPduTimeout_ok h
  | supplyInRange => exact .keeps hi e fun h => execSupplyInRange_ok h
  | powerFailDeassert => exact .keeps hi e fun h => execPowerFailDeassert_ok h
  | joinLockTimeout => exact .keeps hi e fun h => execJoinLockTimeout_ok h
  | carrierPeakOrValley => exact .keeps hi e fun h => execCarrierPeakOrValley_ok h
  | externalFrameStart => exact .keeps hi e fun h => execExternalFrameStart_ok h
  | belayCrcError => exact .keeps hi e fun h => execBelayCrcError_ok h
  | _ => exact .drift (.next e h.hostBytes)

/-- The edges of R20's table that the commands take. -/
theorem edgesOf_subset (c : Instr) : edgesOf c ⊆ [(.reset, .selftest), (.selftest, .config),
    (.config, .active), (.config, .standby), (.config, .service), (.active, .standby), (.active, .service), (.active, .config),
    (.standby, .active), (.standby, .service), (.standby, .config), (.service, .config)] := by
  unfold edgesOf
  split <;> decide

theorem takes_field_of_edge {c : Instr} (h : (Mode.standby, Mode.active) ∈ edgesOf c) :
    c = .actInFall ∨ ∃ us, c = .takeover us := by
  unfold edgesOf at h
  split at h
  case h_7 => exact .inl rfl
  case h_8 us => exact .inr ⟨us, rfl⟩
  all_goals exact absurd h (by decide)

end

/-- Settles O6: each command takes edges of its own only (`exec_moves`), which are the table's, and only ACT_IN's fall and a
takeover lead from STANDBY to ACTIVE. -/
theorem modeGraph : Obligations.ModeGraph := by
  intro s t c hi e
  refine ⟨fun hh hne => ?_, fun hs ht => ?_⟩
  · rcases exec_moves hi e with (hm | hm | hm) | ⟨hb, _⟩
    · exact absurd hm hne
    · exact .inl hm
    · exact .inr (edgesOf_subset c hm)
    · exact absurd (hh.symm.trans hb) (by decide)
  · rcases exec_moves hi e with (hm | hm | hm) | ⟨_, hm⟩
    · exact absurd (ht.symm.trans (hm.trans hs)) (by decide)
    · exact absurd (ht.symm.trans hm) (by decide)
    · exact takes_field_of_edge (hs ▸ ht ▸ hm)
    · exact absurd (ht.symm.trans hm) (by decide)

end Sys2Proof.Machine

/-! Registers as the shared operations leave them: writes of registers and fields, counters, events and their vectors
(02_register_space.md R6, R30, R34). -/

namespace Sys2Proof.Machine

open Sys2Proof

section
variable {s : State} {a b i p v : Nat} {x y : Reg32}

/-! ### Bits and fields -/

theorem getLsbD_putBits {w : Reg32} {hi lo v : Nat} (h : i < 32) :
    (putBits w hi lo v).getLsbD i = if lo ≤ i ∧ i < hi + 1 then v.testBit (i - lo) else w.getLsbD i := by
  have hr : lo ≤ i → (i - lo < hi + 1 - lo ↔ i < hi + 1) := by omega
  simp only [putBits, BitVec.getLsbD_or, BitVec.getLsbD_and, BitVec.getLsbD_not, BitVec.getLsbD_ofNat, Nat.testBit_shiftLeft,
    Nat.testBit_two_pow_sub_one, h, decide_true, Bool.true_and]
  by_cases h1 : lo ≤ i
  · by_cases h2 : i < hi + 1 <;> simp [h1, h2, hr h1]
  · simp [h1]

theorem testBit_bitsNat (n hi lo i : Nat) :
    (bitsNat n hi lo).testBit i = (decide (i < hi + 1 - lo) && n.testBit (lo + i)) := by
  simp [bitsNat, Nat.testBit_mod_two_pow, Nat.testBit_shiftRight]

/-- A field put back with the value it has. -/
theorem putBits_bitsNat (w : Reg32) (hi lo : Nat) : putBits w hi lo (bitsNat w.toNat hi lo) = w := by
  refine BitVec.eq_of_getLsbD_eq fun i h => ?_
  rw [getLsbD_putBits h]
  split
  · have hr : i - lo < hi + 1 - lo := by omega
    have hs : lo + (i - lo) = i := by omega
    rw [testBit_bitsNat, hs, decide_eq_true hr, Bool.true_and, BitVec.getLsbD]
  · rfl

theorem putBits_whole (w : Reg32) (v : Nat) : putBits w 31 0 v = BitVec.ofNat 32 v := by
  refine BitVec.eq_of_getLsbD_eq fun i h => ?_
  rw [getLsbD_putBits h, if_pos (by omega), Nat.sub_zero, BitVec.getLsbD_ofNat, decide_eq_true h, Bool.true_and]

/-- A field of one bit. -/
theorem fld_bit (s : State) (a b : Nat) : s.fld ⟨a, b, b⟩ = ((s.rd a).getLsbD b).toNat := by
  have e : b + 1 - b = 1 := by omega
  simp only [State.fld, bitsNat, e, BitVec.getLsbD, Nat.toNat_testBit, Nat.shiftRight_eq_div_pow, Nat.pow_one]

theorem fld_whole (s : State) (a : Nat) : s.fld (whole a) = (s.rd a).toNat := Nat.mod_eq_of_lt (s.rd a).isLt

/-- A field written with the value it has. -/
theorem setFld_fld_self (h : s.Inv) (f : Fld) : s.setFld f (s.fld f) = s := by
  rw [State.setFld, State.fld, putBits_bitsNat, wr_rd_self h]

/-- A bit that is written as a field. -/
theorem getLsbD_setFld_bit (h : s.Inv) (hb : b < 32) (v : Nat) :
    ((s.setFld ⟨a, b, b⟩ v).rd a).getLsbD b = v.testBit 0 := by
  rw [State.setFld, rd_wr_same h, getLsbD_putBits hb, if_pos ⟨Nat.le_refl b, Nat.lt_succ_self b⟩, Nat.sub_self]

/-! ### Registers, whatever the form of the register file -/

/-- A write of another value than the reset value is inserted. -/
theorem rd_wr_inserted (h : x ≠ regReset a) : (s.wr a x).rd b = if b = a then x else s.rd b := by
  have hr : (s.wr a x).regs = mins s.regs a x := (mset_eq _ _ _ _).trans (if_neg h)
  rw [State.rd, hr]
  split
  · subst b
    exact mget_mins_same _ _ _ _
  · exact mget_mins_ne _ _ _ _ _ ‹_›

theorem mget_mdel_above {α : Type} {d : α} {m : SMap α} (h : a < b) : mget d (mdel m a) b = mget d m b := by
  induction m with
  | nil => rfl
  | cons e m ih =>
    obtain ⟨j, u⟩ := e
    unfold mdel
    split
    · rw [mget, if_neg (by omega), if_neg (by omega)]
    · split
      · rfl
      · simp only [mget, ih]

/-- A write leaves the registers above it. -/
theorem rd_wr_above (h : a < b) : (s.wr a x).rd b = s.rd b := by
  rw [State.rd, State.wr_regs, mset_eq]
  split
  · exact mget_mdel_above h
  · exact mget_mins_ne _ _ _ _ _ (Nat.ne_of_gt h)

/-! ### Counters -/

theorem regs_bump (s : State) (a : Nat) :
    (s.bump (whole a)).regs = (s.wrN a (min ((s.rd a).toNat + 1) 0xFFFFFFFF)).regs := by
  have h : s.setFld (whole a) (min (s.fld (whole a) + 1) (whole a).max) = s.wrN a (min ((s.rd a).toNat + 1) 0xFFFFFFFF) := by
    rw [State.setFld, fld_whole]
    exact congrArg _ (putBits_whole _ _)
  unfold State.bump
  rw [h]
  split <;> rfl

/-- A counter that resets to 0 counts up to its maximum, and leaves every other register. -/
theorem rd_bump (h : regReset a = 0) : (s.bump (whole a)).rd b =
    if b = a then BitVec.ofNat 32 (min ((s.rd a).toNat + 1) 0xFFFFFFFF) else s.rd b := by
  have hne : BitVec.ofNat 32 (min ((s.rd a).toNat + 1) 0xFFFFFFFF) ≠ regReset a := by
    have hpos : 0 < min ((s.rd a).toNat + 1) 0xFFFFFFFF := Nat.lt_min.2 ⟨Nat.succ_pos _, by decide⟩
    have hle : min ((s.rd a).toNat + 1) 0xFFFFFFFF ≤ 0xFFFFFFFF := Nat.min_le_right _ _
    rw [h]
    intro e
    have ht : min ((s.rd a).toNat + 1) 0xFFFFFFFF % 2 ^ 32 = 0 := congrArg BitVec.toNat e
    rw [Nat.mod_eq_of_lt (by omega)] at ht
    omega
  rw [State.rd, regs_bump]
  exact rd_wr_inserted hne

theorem rd_bump_ne (h : regReset a = 0) (n : b ≠ a) : (s.bump (whole a)).rd b = s.rd b := (rd_bump h).trans (if_neg n)

/-! ### Vectors (R34) -/

theorem ofNat_bit (b : Nat) : BitVec.ofNat 32 (2 ^ b) = BitVec.twoPow 32 b :=
  BitVec.eq_of_toNat_eq (by rw [BitVec.toNat_ofNat, BitVec.toNat_twoPow])

theorem getLsbD_or_bit (x : Reg32) (h : b < 32) : (x ||| BitVec.ofNat 32 (2 ^ b)).getLsbD b = true := by
  rw [ofNat_bit, BitVec.getLsbD_or, BitVec.getLsbD_twoPow]
  simp [h]

theorem or_bit_ne_zero (x : Reg32) (h : b < 32) : x ||| BitVec.ofNat 32 (2 ^ b) ≠ 0 := fun e => by
  have hb := getLsbD_or_bit x h
  rw [e] at hb
  exact absurd hb (by simp)

/-- The register that holds the pending bit of a vector is one of two, which reset to 0. -/
theorem pba_cases (h : v < 64) : MSIX_PBA + 4 * (v / 32) = 0xC00 ∨ MSIX_PBA + 4 * (v / 32) = 0xC04 := by
  simp only [MSIX_PBA]
  omega

theorem regReset_pba (h : v < 64) : regReset (MSIX_PBA + 4 * (v / 32)) = 0 := by
  rcases pba_cases h with e | e
  · rw [e]
    decide +kernel
  · rw [e]
    decide +kernel

theorem pageVector_lt (s : State) (p : Nat) : s.pageVector p < 64 := Nat.mod_lt _ (by decide)

/-- The message of vector `v`. -/
abbrev State.vectorMsg (s : State) (v : Nat) : Out :=
  .msi v ((s.rd (0x800 + 16 * v)).toNat + 2 ^ 32 * (s.rd (0x804 + 16 * v)).toNat) (s.rd (0x808 + 16 * v))

theorem tableAddr (v k : Nat) : MSIX_TABLE + 16 * v + k = 0x800 + k + 16 * v := by simp only [MSIX_TABLE]; omega

theorem requestVector_unmasked (h : (s.rd (0x80C + 16 * v)).getLsbD 0 = false) :
    s.requestVector v = s.emit (s.vectorMsg v) := by
  simp only [State.requestVector, tableAddr]
  exact if_neg (ne_true_of_eq_false h)

theorem requestVector_masked (h : (s.rd (0x80C + 16 * v)).getLsbD 0 = true) : s.requestVector v =
    s.wr (MSIX_PBA + 4 * (v / 32)) (s.rd (MSIX_PBA + 4 * (v / 32)) ||| BitVec.ofNat 32 (2 ^ (v % 32))) := by
  simp only [State.requestVector, tableAddr]
  exact if_pos h

/-- States with the same words of the MSI-X table send the same message. -/
theorem vectorMsg_congr {t : State} (hv : v < 64) (h : ∀ a, 0x800 ≤ a → a < 0xC00 → a ≠ 0x80C + 16 * v → t.rd a = s.rd a) :
    t.vectorMsg v = s.vectorMsg v := by
  unfold State.vectorMsg
  rw [h (0x800 + 16 * v) (by omega) (by omega) (by omega), h (0x804 + 16 * v) (by omega) (by omega) (by omega),
    h (0x808 + 16 * v) (by omega) (by omega) (by omega)]

theorem rd_wr_pending (hv : v < 64) : (s.wr (MSIX_PBA + 4 * (v / 32))
      (s.rd (MSIX_PBA + 4 * (v / 32)) ||| BitVec.ofNat 32 (2 ^ (v % 32)))).rd b =
    if b = MSIX_PBA + 4 * (v / 32) then s.rd (MSIX_PBA + 4 * (v / 32)) ||| BitVec.ofNat 32 (2 ^ (v % 32)) else s.rd b :=
  rd_wr_inserted fun e => or_bit_ne_zero _ (Nat.mod_lt _ (by decide)) (e.trans (regReset_pba hv))

/-- A request of a vector changes pending bits only. -/
theorem rd_requestVector (hv : v < 64) (h0 : b ≠ 0xC00) (h4 : b ≠ 0xC04) : (s.requestVector v).rd b = s.rd b := by
  cases h : (s.rd (0x80C + 16 * v)).getLsbD 0
  · rw [requestVector_unmasked h]
    rfl
  · rw [requestVector_masked h, rd_wr_pending hv, if_neg]
    rcases pba_cases hv with e | e <;> rw [e] <;> assumption

/-! ### Events (R30) -/

/-- The state with what waits for the event log. -/
abbrev State.withLog (s : State) (l : List LogRec) : State := { s with evlog := l }

/-- The page's event register with bit `b` set. -/
abbrev State.setEvt (s : State) (p b : Nat) : State :=
  s.wr (0x1000 * p + PG_EVT) (s.rd (0x1000 * p + PG_EVT) ||| BitVec.ofNat 32 (2 ^ b))

theorem foldl_logEvent (s : State) (p : Nat) (l : List Nat) :
    ∃ e, l.foldl (fun s b => s.logEvent p b 0 []) s = s.withLog e := by
  induction l generalizing s with
  | nil => exact ⟨s.evlog, rfl⟩
  | cons b l ih => exact ih _

/-- Event `b` of page `p` becomes set while it is enabled. -/
def State.raises (s : State) (p b : Nat) : Prop :=
  (s.rd (0x1000 * p + PG_EVT)).getLsbD b = false ∧ (s.rd (0x1000 * p + PG_EVT_EN)).getLsbD b = true

theorem newly_enabled_eq_zero (old en : Reg32) (h : b < 32) :
    BitVec.ofNat 32 (2 ^ b) &&& ~~~old &&& en = 0 ↔ ¬ (old.getLsbD b = false ∧ en.getLsbD b = true) := by
  have hne : BitVec.twoPow 32 b ≠ 0#32 := by
    have h0 := or_bit_ne_zero 0#32 h
    rwa [BitVec.zero_or, ofNat_bit] at h0
  have hbit : (~~~old &&& en).getLsbD b = (!old.getLsbD b && en.getLsbD b) := by simp [h]
  rw [ofNat_bit, BitVec.and_assoc, BitVec.and_comm, BitVec.and_twoPow, hbit]
  cases old.getLsbD b <;> cases en.getLsbD b <;> simp [hne]

/-- What a detector does: it sets its bit, and where the bit becomes set while enabled it requests the page's vector. -/
theorem evt_raised (hb : b < 32) (h : s.raises p b) :
    ∃ e, s.evt p b = ((s.setEvt p b).withLog e).requestVector (s.pageVector p) := by
  obtain ⟨e, he⟩ := foldl_logEvent (s.setEvt p b) p
    ((List.range 32).filter fun c => (BitVec.ofNat 32 (2 ^ b) &&& ~~~(s.rd (0x1000 * p + PG_EVT))).getLsbD c &&
      !(p == 5 && decide (c < 2)))
  exact ⟨e, (if_neg fun e => (newly_enabled_eq_zero _ _ hb).1 e h).trans (congrArg (State.requestVector · _) he)⟩

theorem evt_unraised (hb : b < 32) (h : ¬ s.raises p b) : ∃ e, s.evt p b = (s.setEvt p b).withLog e := by
  obtain ⟨e, he⟩ := foldl_logEvent (s.setEvt p b) p
    ((List.range 32).filter fun c => (BitVec.ofNat 32 (2 ^ b) &&& ~~~(s.rd (0x1000 * p + PG_EVT))).getLsbD c &&
      !(p == 5 && decide (c < 2)))
  exact ⟨e, (if_pos ((newly_enabled_eq_zero _ _ hb).2 h)).trans he⟩

theorem rd_setEvt (hb : b < 32) : (s.setEvt p b).rd a =
    if a = 0x1000 * p + PG_EVT then s.rd (0x1000 * p + PG_EVT) ||| BitVec.ofNat 32 (2 ^ b) else s.rd a :=
  rd_wr_inserted fun e => or_bit_ne_zero _ hb (e.trans (regReset_pgEvt p))

/-- An event changes its page's event register, and else pending bits only. -/
theorem rd_evt (hb : b < 32) (h0 : a ≠ 0xC00) (h4 : a ≠ 0xC04) : (s.evt p b).rd a =
    if a = 0x1000 * p + PG_EVT then s.rd (0x1000 * p + PG_EVT) ||| BitVec.ofNat 32 (2 ^ b) else s.rd a := by
  by_cases h : s.raises p b
  · obtain ⟨e, he⟩ := evt_raised hb h
    rw [he, rd_requestVector (pageVector_lt s p) h0 h4]
    exact rd_setEvt hb
  · obtain ⟨e, he⟩ := evt_unraised hb h
    rw [he]
    exact rd_setEvt hb

end

end Sys2Proof.Machine

/-! The header of a page (02_register_space.md R30 to R34, R37): what a write of each of its registers does. -/

namespace Sys2Proof.Machine

open Sys2Proof

section
variable {s : State} {m o p b off : Nat} {v : Reg32} {c : Instr}

/-! ### Rows that write one register -/

/-- A row whose write of a register is taken performs it. -/
theorem exec_rowWrite_taken (hc : s.rowWrite c = some (m, off, v)) (h : s.takesWrite m off v) :
    exec c s = .next (s.noteWrite (s.putReg m off v) m) := (exec_of_rowWrite hc).trans (hostWrite_eq h)

/-- A row whose write of a register is defined and has its turn performs it, whatever its page does with it. -/
theorem exec_rowWrite_performed (hc : s.rowWrite c = some (m, off, v)) (hm : s.mode ≠ .reset) (h4 : off % 4 = 0)
    (hr : off < 0x1000000) (hu : s.regMisuse m off v = false) (hs : ¬ s.sendsOn m (0x01000000 + off) (.reg m off v))
    (ht : s.inTurn s.fwd (s.idx, .reg m off v) = true) : exec c s = .next (s.noteWrite (s.putReg m off v) m) := by
  have hf := asForwarded_reg (m := m) (v := v) h4 hr
  rw [exec_of_rowWrite hc, hostWrite_defined hm h4 hr hu, writeAccess_local (hf ▸ hs), hf, turn_inTurn ht]
  rfl

/-- REG_WRITE names every offset of the register range. -/
theorem rowWrite_regWrite (hr : off < 0x1000000) : s.rowWrite (.regWrite m (BitVec.ofNat 24 off) v) = some (m, off, v) := by
  have e : (BitVec.ofNat 24 off).toNat = off := Nat.mod_eq_of_lt hr
  rw [State.rowWrite, e]

/-! ### Writes below offset 0x040 -/

theorem header_div (ho : o < 0x1000) : (0x1000 * p + o) / 0x1000 = p := by omega

theorem header_mod (ho : o < 0x1000) : (0x1000 * p + o) % 0x1000 = o := by omega

/-- A page that answers takes the write of its header; while its soft reset runs, of its fence only. -/
theorem putReg_header (hid : (pageId p).isSome = true) (hg : s.pageGated p = false)
    (hb : s.softBusy p = false ∨ o = PG_FENCE_CNT) (ho : o < 0x40) :
    s.putReg m (0x1000 * p + o) v = s.putHeader m p o v := by
  have hn : (pageId p).isNone = false := by simpa using hid
  have hd : ¬ (s.softBusy p = true ∧ o ≠ PG_FENCE_CNT) := by
    rcases hb with hb | hb <;> simp [hb]
  have hlt : o < 0x1000 := by omega
  simp only [State.putReg, header_div hlt, header_mod hlt, hn, hg, Bool.false_eq_true, if_false, if_neg hd, if_pos ho]

/-- A page whose soft reset runs discards a write other than that of its fence (R32). -/
theorem putReg_softBusy (hid : (pageId p).isSome = true) (hg : s.pageGated p = false) (hb : s.softBusy p = true)
    (hlt : o < 0x1000) (ho : o ≠ PG_FENCE_CNT) : s.putReg m (0x1000 * p + o) v = s := by
  have hn : (pageId p).isNone = false := by simpa using hid
  simp only [State.putReg, header_div hlt, header_mod hlt, hn, hg, Bool.false_eq_true, if_false]
  exact if_pos ⟨hb, ho⟩

/-- The write of a fence is not forwarded (16 R380). -/
theorem not_sendsOn_fence {a : Nat} : ¬ s.sendsOn m a (.reg m (0x1000 * p + PG_FENCE_CNT) v) := by
  rintro ⟨_, _, _, hf⟩
  simp only [Forwarded.isFence, header_mod (show PG_FENCE_CNT < 0x1000 by decide), beq_self_eq_true] at hf
  exact absurd hf (by decide)

/-- A write of a register of which no field is staged acts at once. -/
theorem putBodyLive_unstaged {r : RegRow} (h : liveMask off = 0) : s.putBodyLive m off r v = s.putBody m off r v := by
  rw [State.putBodyLive, h]
  exact if_pos rfl

/-- A row that writes a register of the header of a page, where it is taken. -/
theorem exec_headerWrite (hc : s.rowWrite c = some (m, 0x1000 * p + o, v)) (h : s.takesWrite m (0x1000 * p + o) v)
    (ho : o < 0x40) : exec c s = .next (s.noteWrite (s.putHeader m p o v) m) := by
  have hput : s.putReg m (0x1000 * p + o) v = s.putHeader m p o v := by
    obtain ⟨_, hid, _, _, _, _, _, hg, hb⟩ := h
    rw [header_div (by omega)] at hid hg hb
    exact putReg_header hid hg (.inl hb) ho
  rw [exec_rowWrite_taken hc h, hput]

theorem putHeader_ctrl : s.putHeader m p PG_CTRL v = s.putCtrl m p v := rfl

theorem putHeader_evt :
    s.putHeader m p PG_EVT v = s.wr (0x1000 * p + PG_EVT) (s.rd (0x1000 * p + PG_EVT) &&& ~~~v) := rfl

theorem putHeader_route : s.putHeader m p PG_EVT_ROUTE v = s.wr (0x1000 * p + PG_EVT_ROUTE) (v &&& 0x3F) := rfl

theorem putHeader_inj : s.putHeader m p 0x1C v = s.putInj p v := rfl

theorem putHeader_fence : s.putHeader m p PG_FENCE_CNT v = s.countFence p := rfl

/-- PG_ID, PG_CAP, PG_STAT and the reserved offsets of the header ignore writes. -/
theorem putHeader_readOnly (h : o ∈ [0x00, 0x04, 0x0C, 0x24, 0x28, 0x2C, 0x30, 0x34, 0x38, 0x3C]) :
    s.putHeader m p o v = s ∧ o < 0x40 := by
  simp only [List.mem_cons, List.not_mem_nil, or_false] at h
  rcases h with rfl | rfl | rfl | rfl | rfl | rfl | rfl | rfl | rfl | rfl <;> exact ⟨rfl, by decide⟩

end

/-- Settles O14: every header write that is taken is `putHeader` of its offset, and a page whose soft reset runs takes none but
that of its fence. -/
theorem pageHeader : Obligations.PageHeader := by
  intro s m p v hid w write now
  have hp := p.isLt
  have hrow (o : Nat) (ho : o < 0x1000) :
      s.rowWrite (.regWrite m (BitVec.ofNat 24 (0x1000 * p.val + o)) v) = some (m, 0x1000 * p.val + o, v) :=
    rowWrite_regWrite (by omega)
  refine ⟨fun h => exec_headerWrite (hrow _ (by decide)) h (by decide),
    fun h => exec_headerWrite (hrow _ (by decide)) h (by decide), fun o ho h => ?_,
    fun o hm hb hg h4 hlt ht => ?_, fun h => exec_headerWrite rfl h (by decide)⟩
  · obtain ⟨hput, hlt⟩ := putHeader_readOnly (s := s) (m := m) (p := p.val) (v := v) ho
    exact (exec_headerWrite (hrow o (by omega)) h hlt).trans (congrArg (fun t => Host.Outcome.next (s.noteWrite t m)) hput)
  · have hu : s.regMisuse m (0x1000 * p.val + o) v = false := by simp [State.regMisuse, header_div hlt, hb]
    have h4' : (0x1000 * p.val + o) % 4 = 0 := by omega
    refine ⟨fun hne => Classical.or_iff_not_imp_left.2 fun hs => ?_, fun e => ?_⟩
    · have h := exec_rowWrite_performed (hrow o hlt) hm h4' (by omega) hu hs ht
      rwa [putReg_softBusy hid hg hb hlt hne] at h
    · subst e
      have h := exec_rowWrite_performed (c := .pgFence m p v) (off := 0x1000 * p.val + 0x20) rfl hm h4' (by omega) hu
        not_sendsOn_fence ht
      rwa [putReg_header (o := 0x20) hid hg (.inr rfl) (by decide)] at h

end Sys2Proof.Machine

/-! Soft reset and injection (02_register_space.md R31 to R33, 01_engine_architecture.md R23). -/

namespace Sys2Proof.Machine

open Sys2Proof

section
variable {s : State} {m p b : Nat} {v : Reg32}

/-! ### PG_CTRL -/

/-- The state once a write of PG_CTRL of page `p` has set ENABLE, where no rule has it ignored. -/
abbrev State.takeEnable (s : State) (p : Nat) (v : Reg32) : State :=
  if enableWrites p then s.setFld ⟨0x1000 * p + PG_CTRL, 0, 0⟩ (if v.getLsbD 0 then 1 else 0) else s

theorem cfgMode_takeEnable : (s.takeEnable p v).cfgMode = s.cfgMode := by
  unfold State.takeEnable
  split <;> rfl

theorem takeEnable_inv (h : s.Inv) : (s.takeEnable p v).Inv := (ok_ite (State.setFld_ok (ok_free h)) (ok_free h)).inv

/-- A write of a 0 to FREEZE of a page that is not frozen leaves ENABLE and SOFT_RESET to do. -/
theorem putCtrl_unfrozen (h : s.Inv) (hf : s.fld ⟨0x1000 * p + PG_CTRL, 2, 2⟩ = 0) (hv : v.getLsbD 2 = false)
    (hr : v.getLsbD 1 = true) : s.putCtrl m p v = if s.cfgMode then (s.takeEnable p v).softReset p
      else (s.takeEnable p v).refusedField m (0x1000 * p + PG_CTRL) := by
  have hself : s.setFld ⟨0x1000 * p + PG_CTRL, 2, 2⟩ 0 = s := by
    have e := setFld_fld_self h ⟨0x1000 * p + PG_CTRL, 2, 2⟩
    rwa [hf] at e
  rw [← cfgMode_takeEnable (p := p) (v := v)]
  simp only [State.putCtrl, hf, hv, hr, Bool.false_and, Bool.not_false, Bool.true_and, Nat.reduceBEq, Bool.false_eq_true,
    if_false, hself, not_true_eq_false]

theorem putCtrl_freeze (hf : s.fld ⟨0x1000 * p + PG_CTRL, 2, 2⟩ = 0) (hv : v.getLsbD 2 = true) (hr : v.getLsbD 1 = false)
    (he : enableWrites p = false) : s.putCtrl m p v = (s.freeze p).setFld ⟨0x1000 * p + PG_CTRL, 2, 2⟩ 1 := by
  simp only [State.putCtrl, hf, hv, hr, he, Bool.true_and, Nat.reduceBEq, Bool.not_false, Bool.false_eq_true, if_false, if_true,
    not_false_eq_true]

theorem putCtrl_thaw (hf : s.fld ⟨0x1000 * p + PG_CTRL, 2, 2⟩ = 1) (hv : v.getLsbD 2 = false) (hr : v.getLsbD 1 = false)
    (he : enableWrites p = false) : s.putCtrl m p v = (s.thaw p).setFld ⟨0x1000 * p + PG_CTRL, 2, 2⟩ 0 := by
  simp only [State.putCtrl, hf, hv, hr, he, Bool.false_and, Bool.not_false, Bool.true_and, Nat.reduceBEq, Bool.false_eq_true,
    if_false, if_true, not_false_eq_true]

/-- SOFT_RESET reads 1 from the reset on. -/
theorem softBusy_softReset (h : s.Inv) : (s.softReset p).softBusy p = true := by
  unfold State.softReset
  extract_lets t full bare follow u
  have k : KeepsMode s u := fun h => ok_mk (State.softEffect_ok h)
  exact (getLsbD_setFld_bit (k.inv h) (by decide) 1).trans (by decide)

theorem exec_softResetDone {p : Fin 4096} (h : s.softBusy p = true) :
    exec (.softResetDone p) s = .next (s.setFld ⟨0x1000 * p + PG_CTRL, 1, 1⟩ 0) := congrArg _ (if_pos h)

/-! ### PG_INJ -/

theorem filter_range_bit : ∀ b : Fin 32, ((List.range 32).filter fun i => decide (i = b.val)) = [b.val] := by decide

/-- Of a write of one bit of PG_INJ, that bit fires where the mode and the page have it. -/
theorem filter_injected (b : Fin 32) (ok : Nat) : ((List.range 32).filter fun i =>
      ((BitVec.ofNat 32 (2 ^ b.val)).toNat &&& ok &&& evtMask p).testBit i) =
    if ok.testBit b && (evtMask p).testBit b then [b.val] else [] := by
  have hb : (BitVec.ofNat 32 (2 ^ b.val)).toNat = 2 ^ b.val :=
    Nat.mod_eq_of_lt (Nat.pow_lt_pow_right (by decide) b.isLt)
  have hbit (i : Nat) : (2 ^ b.val &&& ok &&& evtMask p).testBit i =
      (decide (i = b.val) && (ok.testBit b && (evtMask p).testBit b)) := by
    by_cases e : i = b.val
    · simp [e, Nat.testBit_two_pow_self]
    · simp [e, Nat.testBit_two_pow_of_ne (Ne.symm e)]
  rw [hb, List.filter_congr fun i _ => hbit i]
  cases ok.testBit b && (evtMask p).testBit b
  · simp
  · simpa using filter_range_bit b

/-- Where the mode accepts injections, a bit that the page has fires its detector, and no other does anything. -/
theorem putInj_accepted (h : s.cfgMode = true) (b : Fin 32) : s.putInj p (BitVec.ofNat 32 (2 ^ b.val)) =
    if (evtMask p).testBit b then s.injectBit p b else s := by
  have hok : s.injAccepted p = 0xFFFFFFFF := if_pos h
  have hall : (0xFFFFFFFF : Nat).testBit b = true := by
    have e := Nat.testBit_two_pow_sub_one 32 b
    rwa [decide_eq_true b.isLt] at e
  unfold State.putInj
  rw [hok]
  simp only [filter_injected, hall, Bool.true_and, Nat.sub_self, Nat.and_zero, if_true]
  split <;> rfl

/-- Where it accepts none, a write of a bit only counts (R23). -/
theorem putInj_refused (h : s.injAccepted p = 0) (b : Fin 32) : s.putInj p (BitVec.ofNat 32 (2 ^ b.val)) =
    (s.bump (whole MTX_INJ_REFUSED)).evt 1 3 := by
  have hne : (BitVec.ofNat 32 (2 ^ b.val)).toNat &&& (0xFFFFFFFF - 0) ≠ 0 := by
    have hb : (BitVec.ofNat 32 (2 ^ b.val)).toNat = 2 ^ b.val :=
      Nat.mod_eq_of_lt (Nat.pow_lt_pow_right (by decide) b.isLt)
    have hlt : 2 ^ b.val < 2 ^ 32 := Nat.pow_lt_pow_right (by decide) b.isLt
    have hmod : 2 ^ b.val &&& (2 ^ 32 - 1) = 2 ^ b.val := (Nat.and_two_pow_sub_one_eq_mod _ 32).trans (Nat.mod_eq_of_lt hlt)
    rw [hb]
    exact fun e => absurd (hmod.symm.trans e) (Nat.pos_iff_ne_zero.1 (Nat.two_pow_pos _))
  unfold State.putInj
  rw [h]
  simp only [filter_injected, if_neg hne, Nat.zero_testBit, Bool.false_and, Bool.false_eq_true, if_false, List.foldl_nil]

/-- The detectors of the pages 0x010, 0x012 and 0x033 do no more than set their event. -/
theorem injectBit_plain (h : p ∈ [0x10, 0x12, 0x33]) : s.injectBit p b = s.evt p b := by
  simp only [List.mem_cons, List.not_mem_nil, or_false] at h
  rcases h with rfl | rfl | rfl
  · simp [State.injectBit, injWaits, State.injSystem]
  · simp [State.injectBit, injWaits, State.injSystem]
  · simp [State.injectBit, injWaits, State.injCore]

end

/-- Settles O15: a write of PG_CTRL is `putCtrl`, one of PG_INJ `putInj`. -/
theorem softResetAndInject : Obligations.SoftResetAndInject := by
  refine ⟨fun s m p v hi h => ?_, fun s m p b h => ?_⟩
  · intro u fz
    have hw : exec (.softReset m p v) s = .next (s.noteWrite (s.putCtrl m p v) m) := exec_headerWrite rfl h (by decide)
    refine ⟨fun hf hv hr => ⟨fun hc => ?_, fun hc => ?_⟩, fun hr hf hv he => ?_, fun hr hf hv he => ?_⟩
    · have hbusy : (u.softReset p).softBusy p = true := softBusy_softReset (takeEnable_inv hi)
      rw [hw, putCtrl_unfrozen hi hf hv hr, if_pos hc]
      exact ⟨_, rfl, rfl, hbusy, exec_softResetDone hbusy⟩
    · rw [hw, putCtrl_unfrozen hi hf hv hr, if_neg (ne_true_of_eq_false hc)]
      rfl
    · exact hw.trans (congrArg (fun t => Host.Outcome.next (s.noteWrite t m)) (putCtrl_freeze hf hv hr he))
    · exact hw.trans (congrArg (fun t => Host.Outcome.next (s.noteWrite t m)) (putCtrl_thaw hf hv hr he))
  · intro write
    have hw : write = .next (s.noteWrite (s.putInj p (BitVec.ofNat 32 (2 ^ b.val))) m) := exec_headerWrite rfl h (by decide)
    refine ⟨fun hc he => ?_, fun hc he => ?_, fun ha => ?_, injectBit_plain⟩
    · rw [hw, putInj_accepted hc, if_pos he]
    · rw [hw, putInj_accepted hc, if_neg (ne_true_of_eq_false he)]
    · have h0 : s.injAccepted p = 0 := by simp [State.injAccepted, State.cfgMode, ha]
      rw [hw, putInj_refused h0]

end Sys2Proof.Machine

/-! Events and their vectors (02_register_space.md R30, R33, R34). -/

namespace Sys2Proof.Machine

open Sys2Proof

section
variable {s : State} {m p b off v : Nat} {x : Reg32} {r : RegRow}

/-! ### What an event sends -/

/-- The event bit sets, whether or not it is enabled. -/
theorem rd_evt_same (hb : b < 32) :
    (s.evt p b).rd (0x1000 * p + PG_EVT) = s.rd (0x1000 * p + PG_EVT) ||| BitVec.ofNat 32 (2 ^ b) := by
  have h0 : 0x1000 * p + PG_EVT ≠ 0xC00 := by simp only [PG_EVT]; omega
  have h4 : 0x1000 * p + PG_EVT ≠ 0xC04 := by simp only [PG_EVT]; omega
  rw [rd_evt hb h0 h4, if_pos rfl]

/-- An event that was set before, or is not enabled, sends nothing and sets no pending bit. -/
theorem evt_sends_nothing (hb : b < 32) (h : ¬ s.raises p b) : (s.evt p b).out = s.out ∧
    (s.evt p b).rd 0xC00 = s.rd 0xC00 ∧ (s.evt p b).rd 0xC04 = s.rd 0xC04 := by
  obtain ⟨e, he⟩ := evt_unraised hb h
  have hpba (a : Nat) (ha : a ≠ 0x1000 * p + PG_EVT) : (s.evt p b).rd a = s.rd a := by
    rw [he]
    exact (rd_setEvt hb).trans (if_neg ha)
  exact ⟨by rw [he]; rfl, hpba _ (by simp only [PG_EVT]; omega), hpba _ (by simp only [PG_EVT]; omega)⟩

theorem rd_table_setEvt (hb : b < 32) {a : Nat} (h : 0x800 ≤ a) (h' : a < 0xC00) : (s.setEvt p b).rd a = s.rd a := by
  refine (rd_setEvt hb).trans (if_neg ?_)
  simp only [PG_EVT]
  omega

/-- An event raised on an unmasked vector sends the vector's message. -/
theorem evt_sends (hb : b < 32) (h : s.raises p b) (hm : (s.rd (0x80C + 16 * s.pageVector p)).getLsbD 0 = false) :
    (s.evt p b).out = s.vectorMsg (s.pageVector p) :: s.out := by
  have hv := pageVector_lt s p
  obtain ⟨e, he⟩ := evt_raised hb h
  have hmsg : ((s.setEvt p b).withLog e).vectorMsg (s.pageVector p) = s.vectorMsg (s.pageVector p) :=
    vectorMsg_congr hv fun a ha ha' _ => rd_table_setEvt hb ha ha'
  have hmask : (((s.setEvt p b).withLog e).rd (0x80C + 16 * s.pageVector p)).getLsbD 0 = false :=
    (congrArg (BitVec.getLsbD · 0) (rd_table_setEvt hb (by omega) (by omega))).trans hm
  rw [he, requestVector_unmasked hmask, hmsg]
  rfl

/-- One raised on a masked vector sends nothing, and the vector's pending bit sets. -/
theorem evt_pends (hb : b < 32) (h : s.raises p b) (hm : (s.rd (0x80C + 16 * s.pageVector p)).getLsbD 0 = true) :
    (s.evt p b).out = s.out ∧ (s.evt p b).vectorWaits (s.pageVector p) = true := by
  have hv := pageVector_lt s p
  obtain ⟨e, he⟩ := evt_raised hb h
  have hmask : (((s.setEvt p b).withLog e).rd (0x80C + 16 * s.pageVector p)).getLsbD 0 = true :=
    (congrArg (BitVec.getLsbD · 0) (rd_table_setEvt hb (by omega) (by omega))).trans hm
  rw [he, requestVector_masked hmask]
  refine ⟨rfl, ?_⟩
  rw [State.vectorWaits, rd_wr_pending hv, if_pos rfl]
  exact getLsbD_or_bit _ (Nat.mod_lt _ (by decide))

/-! ### A vector that is unmasked -/

/-- The words of the MSI-X table are registers of the SYS page whose writes are not staged. -/
theorem findReg_vectorControl : ∀ v : Fin 64, (findReg (0x80C + 16 * v.val)).isSome = true := by decide +kernel

theorem putBodyLive_msix (h : MSIX_TABLE ≤ off) (h' : off < MSIX_PBA) :
    s.putBodyLive m off r 0 = s.putMsix off 0 := by
  have hp : off / 0x1000 = 0 := by
    simp only [MSIX_PBA] at h'
    omega
  have hk : liveMask off = 0 := by simp [liveMask, regUnit, hp]
  have hc : off ≠ SYS_CTRL := by
    simp only [MSIX_TABLE, SYS_CTRL] at *
    omega
  simp [putBodyLive_unstaged hk, State.putBody, hp, State.putSystem, hc, h, h']

/-- A pending bit cleared. -/
theorem getLsbD_and_not_bit (x : Reg32) (h : b < 32) : (x &&& ~~~(BitVec.ofNat 32 (2 ^ b))).getLsbD b = false := by
  rw [ofNat_bit, BitVec.getLsbD_and, BitVec.getLsbD_not, BitVec.getLsbD_twoPow]
  simp [h]

/-- Unmasking a vector that waits clears its pending bit and sends its message (R34). -/
theorem putMsix_unmask (hi : s.Inv) (hv : v < 64) (hw : s.vectorWaits v = true) :
    (s.putMsix (0x80C + 16 * v) 0).vectorWaits v = false ∧
      (s.putMsix (0x80C + 16 * v) 0).out = s.vectorMsg v :: s.out := by
  have he : (0x80C + 16 * v - MSIX_TABLE) / 16 = v := by simp only [MSIX_TABLE]; omega
  have hk : (0x80C + 16 * v) % 16 = 12 := by omega
  have hpba := pba_cases hv
  let s1 := s.wr (0x80C + 16 * v) 0
  let s2 := s1.wr (MSIX_PBA + 4 * (v / 32)) (s1.rd (MSIX_PBA + 4 * (v / 32)) &&& ~~~(BitVec.ofNat 32 (2 ^ (v % 32))))
  have h1 : s1.Inv := hi.wr _ _
  have hpend : (s1.rd (MSIX_PBA + 4 * (v / 32))).getLsbD (v % 32) = true := by
    rw [rd_wr_ne hi 0 (by omega)]
    exact hw
  have hput : s.putMsix (0x80C + 16 * v) 0 = s2.requestVector v := by
    simp only [State.putMsix, he, hk]
    exact if_pos ⟨trivial, Bool.false_ne_true, hpend⟩
  have hrd2 (a : Nat) (ha : a < 0xC00) : s2.rd a = s1.rd a := rd_wr_ne h1 _ (by omega)
  have hmask : (s2.rd (0x80C + 16 * v)).getLsbD 0 = false := by
    rw [hrd2 _ (by omega), rd_wr_same hi]
    rfl
  have hmsg : s2.vectorMsg v = s.vectorMsg v :=
    vectorMsg_congr hv fun a _ ha hne => (hrd2 a ha).trans (rd_wr_ne hi 0 hne)
  rw [hput, requestVector_unmasked hmask, hmsg]
  exact ⟨(congrArg (BitVec.getLsbD · (v % 32)) (rd_wr_same h1 _ _)).trans
    (getLsbD_and_not_bit _ (Nat.mod_lt _ (by decide))), rfl⟩

end

/-- Settles O16: WDT_WARN is event 4 of page 0x002, and unmasking a vector is `putMsix`. -/
theorem eventsSend : Obligations.EventsSend := by
  refine ⟨fun s hi hr => ?_, fun s m v hi ht hw => ?_⟩
  · refine ⟨s.evt 2 4, congrArg _ (if_pos hr), ?_⟩
    intro v
    refine ⟨rd_evt_same (p := 2) (by decide), fun hq => ?_, fun h0 h1 => ⟨fun hm => ?_, fun hm => ?_⟩⟩
    · refine evt_sends_nothing (by decide) fun ⟨h0, h1⟩ => ?_
      rcases hq with h | h
      · exact absurd (h.symm.trans h0) (by decide)
      · exact absurd (h.symm.trans h1) (by decide)
    · exact evt_sends (by decide) ⟨h0, h1⟩ hm
    · exact evt_pends (by decide) ⟨h0, h1⟩ hm
  · have hv := v.isLt
    obtain ⟨_, hid, _, _, _, _, _, hg, hb⟩ := id ht
    obtain ⟨r, hr⟩ := Option.isSome_iff_exists.1 (findReg_vectorControl v)
    have hput : s.putReg m (0x80C + 16 * v.val) 0 = s.putMsix (0x80C + 16 * v.val) 0 := by
      rw [putReg_body hid hg hb (by omega) hr]
      exact putBodyLive_msix (by simp only [MSIX_TABLE]; omega) (by simp only [MSIX_PBA]; omega)
    obtain ⟨hwait, hout⟩ := putMsix_unmask hi hv hw
    have hex := exec_rowWrite_taken (rowWrite_regWrite (by omega)) ht
    rw [hput] at hex
    exact ⟨_, hex, hwait, hout⟩

end Sys2Proof.Machine

/-! Accesses that are performed, and those that get the error response (02_register_space.md R25, R40 to R42, R47). -/

namespace Sys2Proof.Machine

open Sys2Proof

section
variable {s t : State} {m a n b off addr cause size w : Nat} {v : Reg32} {d : List Byte} {wr : Bool}

/-! ### An access in its turn -/

/-- A write in its turn is the access, register or not. -/
theorem performFwd_asForwarded : s.performFwd (asForwarded m a d) = s.noteWrite (s.putAccess m a d) m := by
  by_cases h : isReg a = true ∧ d.length = 4 ∧ a % 4 = 0
  · obtain ⟨hr, hl, h4⟩ := h
    have hf : asForwarded m a d = .reg m (a % 0x1000000) (BitVec.ofNat 32 (leNat d)) := if_pos ⟨hr, hl, h4⟩
    have ha : 0x1000000 + a % 0x1000000 = a := by
      simp only [isReg, Bool.and_eq_true, decide_eq_true_eq] at hr
      omega
    have hsh : regShape a 4 = true := by simp [regShape, h4]
    have hput : s.putAccess m a d = s.putReg m (a % 0x1000000) (BitVec.ofNat 32 (leNat d)) := by
      have htake : d.take 4 = d := List.take_of_length_le (Nat.le_of_eq hl)
      unfold State.putAccess State.putReg
      by_cases hid : (pageId (a % 0x1000000 / 0x1000)).isNone = true
      · simp [hr, hid, hl, ha]
      · simp [hr, hid, hl, hsh, htake]
    rw [hf, hput]
    rfl
  · have hf : asForwarded m a d = .bytes m a d := if_neg h
    rw [hf]
    rfl

/-- A write that is taken is the access. -/
theorem hostBytes_taken (h : s.takesAccess m a d) : s.hostBytes m a d = s.noteWrite (s.putAccess m a d) m :=
  (hostBytes_eq h).trans performFwd_asForwarded

/-! ### Registers -/

theorem isReg_iff : isReg a = true ↔ 0x01000000 ≤ a ∧ a < 0x02000000 := by
  simp only [isReg, Bool.and_eq_true, decide_eq_true_eq]

/-- No register answers a write of 4 bytes at `a`: its page is not decoded, or power-gated, or `a` is no multiple of 4. -/
abbrev State.unanswered (s : State) (a : Nat) : Prop :=
  (pageId (a % 0x1000000 / 0x1000)).isNone = true ∨ a % 4 ≠ 0 ∨ s.pageGated (a % 0x1000000 / 0x1000) = true

/-- Only a register that answers has uses that a chapter leaves undefined. -/
theorem misuse_unanswered (hl : d.length = 4) (hr : isReg a = true) (h : s.unanswered a) : s.misuse m a d = false := by
  rcases h with h | h | h
  · simp [State.misuse, hr, State.regMisuse, hl, Option.isNone_iff_eq_none.1 h]
  · simp [State.misuse, hr, regShape, hl, h]
  · simp [State.misuse, hr, State.regMisuse, hl, h]

theorem putAccess_undecoded (hr : isReg a = true) (h : (pageId (a % 0x1000000 / 0x1000)).isNone = true) :
    s.putAccess m a d = s.errResp m a 0 true d.length := by
  simp only [State.putAccess, hr, h, if_true]

theorem putAccess_unaligned (hr : isReg a = true) (hid : (pageId (a % 0x1000000 / 0x1000)).isSome = true)
    (hl : d.length = 4) (h : a % 4 ≠ 0) : s.putAccess m a d = s.errResp m a 1 true 4 := by
  have hn : (pageId (a % 0x1000000 / 0x1000)).isNone = false := by simpa using hid
  simp [State.putAccess, hr, hn, hl, regShape, h]

theorem putAccess_gated (hr : isReg a = true) (hid : (pageId (a % 0x1000000 / 0x1000)).isSome = true)
    (hl : d.length = 4) (h4 : a % 4 = 0) (h : s.pageGated (a % 0x1000000 / 0x1000) = true) :
    s.putAccess m a d = s.errResp m a 3 true 4 := by
  have hn : (pageId (a % 0x1000000 / 0x1000)).isNone = false := by simpa using hid
  have ha : 0x1000000 + a % 0x1000000 = a := by
    rw [isReg_iff] at hr
    omega
  simp [State.putAccess, State.putReg, hr, hn, hl, regShape, h4, h, ha]

/-! ### Word slots -/

theorem slot_add_offset (a : Nat) : a / 16 * 16 + a % 16 = a := by omega

/-- A write to slots ends at the first where it fails. -/
theorem putAccess_slot_fails (hr : isReg a = false) (hn : s.nowhere (a / 16 * 16) = false) (hsh : slotShape a d.length = true)
    (ht : s.putSlot m (a / 16 * 16) (a % 16) (d.take (16 - a % 16)) d.length = (false, t)) : s.putAccess m a d = t := by
  have h0 : d ≠ [] := fun e => by simp [e, slotShape] at hsh
  have ha : a - a % 16 = a / 16 * 16 := by omega
  simp [State.putAccess, hr, hn, hsh, State.putSlots, h0, ha, ht]

/-- A write to one slot is that of the slot. -/
theorem putAccess_slot_done (hr : isReg a = false) (hn : s.nowhere a = false) (h16 : a % 16 = 0)
    (hsh : slotShape a d.length = true) (hl : d.length ≤ 16) (ht : s.putSlot m a 0 d d.length = (true, t)) :
    s.putAccess m a d = t := by
  have h0 : d ≠ [] := fun e => by simp [e, slotShape] at hsh
  have ha : a / 16 * 16 = a := by omega
  have htake : d.take 16 = d := List.take_of_length_le hl
  have hdrop : d.drop 16 = [] := List.drop_eq_nil_of_le hl
  simp [State.putAccess, hr, ha, hn, hsh, State.putSlots, h0, h16, htake, hdrop, ht]

theorem slotAt_setAlias {r : Bool} {f : Nat → Option Bool} (h : 0x10000000 ≤ a) (h' : a < 0x18000000) :
    slotAt r f (a + 0x10000000) = .setAlias a := by
  have e : 0x10000000 + (a + 0x10000000) % 0x10000000 = a := by omega
  unfold slotAt
  iterate 5 rw [if_neg (by omega)]
  rw [if_pos (by omega), e]

theorem slotAt_clearAlias {r : Bool} {f : Nat → Option Bool} (h : 0x10000000 ≤ a) (h' : a < 0x18000000) :
    slotAt r f (a + 0x20000000) = .clearAlias a := by
  have e : 0x10000000 + (a + 0x20000000) % 0x10000000 = a := by omega
  unfold slotAt
  iterate 6 rw [if_neg (by omega)]
  rw [if_pos (by omega), e]

theorem isReg_above (h : 0x02000000 ≤ a) : isReg a = false := by
  simp only [isReg, Bool.and_eq_false_iff, decide_eq_false_iff_not]
  omega

/-- A write to a word of a bank that is not ON. -/
theorem putAccess_bankOff (h : 0x10000000 ≤ a) (h' : a < 0x18000000) (hsh : slotShape a d.length = true)
    (hm : masterReaches m (a / 16 * 16) (.bank (a / 16 * 16)) = true) (hb : s.bankState (bankOf a) ≠ 2) :
    s.putAccess m a d = s.errResp m a 2 true d.length := by
  have hk {r f} : slotAt r f (a / 16 * 16) = .bank (a / 16 * 16) := slotAt_bank (by omega) (by omega)
  have hbank : bankOf (a / 16 * 16) = bankOf a := by simp only [bankOf]; omega
  have hn : s.nowhere (a / 16 * 16) = false := by simp [State.nowhere, hk]
  refine putAccess_slot_fails (isReg_above (by omega)) hn hsh ?_
  simp [State.putSlot, hk, hm, hbank, hb, slot_add_offset]

/-- What lies among the set aliases, below the clear aliases. -/
theorem slotAt_alias_or_nothing {r : Bool} {f : Nat → Option Bool} (h : 0x20000000 ≤ a) (h' : a < 0x30000000) :
    (∃ x, slotAt r f a = .setAlias x) ∨ slotAt r f a = .nothing := by
  unfold slotAt
  iterate 5 rw [if_neg (by omega)]
  split
  · exact .inl ⟨_, rfl⟩
  · rw [if_neg (by omega), if_neg (by omega)]
    exact .inr rfl

/-- The masters that R40 keeps from the aliases. -/
theorem masterReaches_alias {x : Nat} (hm : m = 6 ∨ m = 7) :
    masterReaches m a (.setAlias x) = false ∧ masterReaches m a (.clearAlias x) = false := by
  rcases hm with rfl | rfl <;> simp [masterReaches]

theorem putAccess_alias_kept (h : 0x20000000 ≤ a) (h' : a < 0x28000000) (hsh : slotShape a d.length = true) (hm : m = 6 ∨ m = 7) :
    s.putAccess m a d = s.errResp m a 0 true d.length := by
  obtain ⟨x, hx⟩ : ∃ x, a / 16 * 16 = x + 0x10000000 := ⟨a / 16 * 16 - 0x10000000, by omega⟩
  have hk {r f} : slotAt r f (a / 16 * 16) = .setAlias x := hx ▸ slotAt_setAlias (by omega) (by omega)
  have hn : s.nowhere (a / 16 * 16) = false := by simp [State.nowhere, hk]
  refine putAccess_slot_fails (isReg_above (by omega)) hn hsh ?_
  simp [State.putSlot, hk, (masterReaches_alias hm).1, slot_add_offset]

/-- A write by such a master to one of the aliases is not among the uses that a chapter leaves undefined. -/
theorem misuse_alias_kept (h : 0x20000000 ≤ a) (h' : a < 0x28000000) (hsh : slotShape a d.length = true) (hm : m = 6 ∨ m = 7) :
    s.misuse m a d = false := by
  have h1 : ¬ m ≤ 1 := by omega
  have hlen : d.length ≤ 256 := by
    simp only [slotShape, Bool.or_eq_true, Bool.and_eq_true, beq_iff_eq, decide_eq_true_eq] at hsh
    omega
  have hslot (i : Nat) (hi : i < (d.length + 15) / 16) (o : Nat) (bs : List Byte) :
      s.slotMisuse m ((a + 16 * i) / 16 * 16) o bs = false := by
    rcases slotAt_alias_or_nothing (r := s.fld SYS_CTRL_REMAP == 1) (f := trussWord) (a := (a + 16 * i) / 16 * 16) (by omega)
      (by omega) with ⟨x, hx⟩ | hx
    · simp [State.slotMisuse, hx, (masterReaches_alias hm).1]
    · simp [State.slotMisuse, hx]
  have hany : ((List.range ((d.length + 15) / 16)).any fun i =>
      s.slotMisuse m ((a + 16 * i) / 16 * 16) ((a + 16 * i) % 16) ((d.drop (16 * i)).take 16)) = false :=
    List.any_eq_false.2 fun i hi => ne_true_of_eq_false (hslot i (List.mem_range.1 hi) _ _)
  have hr : isReg a = false := isReg_above (by omega)
  simp only [State.misuse, hr, hany, decide_eq_false h1, Bool.false_and, Bool.or_false, Bool.and_false, Bool.false_eq_true,
    if_false]

/-! ### What a wait leaves (R41) -/

/-- A wait counts in registers of the matrix and the conflict counts. -/
theorem regReset_conflict : ∀ m : Fin 33, regReset (MEM_CONFLICT + 4 * m.val) = 0 := by decide +kernel

theorem regReset_rtOver : regReset MTX_RT_OVER = 0 := by decide +kernel

theorem rd_waited (hb : 0x10E0 < b) (hc : b < MEM_CONFLICT ∨ 0x64000 ≤ b) : (s.waited m a w).rd b = s.rd b := by
  unfold State.waited
  split
  · rfl
  next hw =>
    have hm : m < 33 := by omega
    have hne : b ≠ MEM_CONFLICT + 4 * m := by
      simp only [MEM_CONFLICT] at *
      omega
    have h1 (x : Reg32) : (s.wr (MTX_WAIT + 4 * m) x).rd b = s.rd b := rd_wr_above (by simp only [MTX_WAIT]; omega)
    have h2 (t : State) : (t.bump (whole (MEM_CONFLICT + 4 * m))).rd b = t.rd b :=
      rd_bump_ne (regReset_conflict ⟨m, hm⟩) hne
    have h3 (t : State) : ((t.bump (whole MTX_RT_OVER)).evt 1 2).rd b = t.rd b := by
      rw [rd_evt (by decide) (by omega) (by omega), if_neg (by simp only [PG_EVT]; omega)]
      exact rd_bump_ne regReset_rtOver (by simp only [MTX_RT_OVER]; omega)
    extract_lets e s1 s2
    have h4 : s2.rd b = s.rd b := by
      unfold s2
      split
      · exact (h2 _).trans (h1 _)
      · exact h1 _
    split
    · exact (h3 _).trans h4
    · exact h4

end
end Sys2Proof.Machine

/-! Accesses that fail: the error response, what it captures and counts (02_register_space.md R42, R47). -/

namespace Sys2Proof.Machine

open Sys2Proof

section
variable {s t u : State} {m a n b p k addr cause size w : Nat} {v : Reg32} {d : List Byte} {g : Fld} {f : Forwarded} {wr : Bool}

/-! ### What the shared operations leave -/

/-- Only registers, outputs, the event log and the service totals differ. -/
def OnlyTraces (s t : State) : Prop := ∃ r o l v, t = { s with regs := r, out := o, evlog := l, svc := v }

theorem OnlyTraces.refl (s : State) : OnlyTraces s s := ⟨_, _, _, _, rfl⟩

theorem OnlyTraces.trans (h : OnlyTraces s t) (h' : OnlyTraces t u) : OnlyTraces s u := by
  obtain ⟨_, _, _, _, rfl⟩ := h
  obtain ⟨_, _, _, _, rfl⟩ := h'
  exact ⟨_, _, _, _, rfl⟩

theorem onlyTraces_wr (s : State) (a : Nat) (v : Reg32) : OnlyTraces s (s.wr a v) := ⟨_, _, _, _, rfl⟩

theorem onlyTraces_emit (s : State) (o : Out) : OnlyTraces s (s.emit o) := ⟨_, _, _, _, rfl⟩

theorem onlyTraces_requestVector (s : State) (v : Nat) : OnlyTraces s (s.requestVector v) := by
  unfold State.requestVector
  dsimp only
  split
  · exact onlyTraces_wr s _ _
  · exact onlyTraces_emit s _

theorem onlyTraces_evt (s : State) (p : Nat) (hb : b < 32) : OnlyTraces s (s.evt p b) := by
  have hset (e : List LogRec) : OnlyTraces s ((s.setEvt p b).withLog e) := ⟨_, _, _, _, rfl⟩
  by_cases h : s.raises p b
  · obtain ⟨e, he⟩ := evt_raised hb h
    exact he ▸ (hset e).trans (onlyTraces_requestVector _ _)
  · obtain ⟨e, he⟩ := evt_unraised hb h
    exact he ▸ hset e

theorem onlyTraces_bump (s : State) (f : Fld) (n : Nat) : OnlyTraces s (s.bump f n) := by
  unfold State.bump
  dsimp only
  split <;> exact ⟨_, _, _, _, rfl⟩

theorem onlyTraces_waited (s : State) (m a w : Nat) : OnlyTraces s (s.waited m a w) := by
  unfold State.waited
  split
  · exact .refl s
  · extract_lets e s1 s2
    have h2 : OnlyTraces s s2 := by
      unfold s2
      split
      · exact (onlyTraces_wr s _ _).trans (onlyTraces_bump _ _ _)
      · exact onlyTraces_wr s _ _
    split
    · exact h2.trans ((onlyTraces_bump _ _ _).trans (onlyTraces_evt _ _ (by decide)))
    · exact h2

/-- Neither the turn of an access nor the mode is of what such an operation changes. -/
theorem OnlyTraces.inTurn (h : OnlyTraces s t) (f : Forwarded) :
    t.inTurn t.fwd (t.idx, f) = s.inTurn s.fwd (s.idx, f) ∧ t.mode = s.mode := by
  obtain ⟨_, _, _, _, rfl⟩ := h
  exact ⟨rfl, rfl⟩

theorem forwards_waited : (s.waited m a w).forwards = s.forwards := by
  have hl : (s.waited m a w).lockstep = s.lockstep := by
    rw [State.lockstep, State.fld, rd_waited (by decide) (.inr (by decide))]
    rfl
  have hb : (s.waited m a w).bly = s.bly ∧ (s.waited m a w).mode = s.mode := by
    obtain ⟨_, _, _, _, e⟩ := onlyTraces_waited s m a w
    rw [e]
    exact ⟨rfl, rfl⟩
  rw [State.forwards, hl, hb.1, hb.2]
  rfl

theorem bankState_waited : (s.waited m a w).bankState (bankOf k) = s.bankState (bankOf k) := by
  have hb : bankOf k < 256 := Nat.mod_lt _ (by decide)
  have h (g : Fld) (h1 : 0x61040 ≤ g.off) (h2 : g.off < 0x61100) : (s.waited m a w).fld g = s.fld g := by
    rw [State.fld, rd_waited (by omega) (.inl (by simp only [MEM_CONFLICT]; omega))]
    rfl
  rw [State.bankState, h (bankBusy _), h (bankField _)]
  · rfl
  all_goals
    simp only [bankField, bankBusy, MEM_BANK_STATE, MEM_BANK_BUSY]
    omega

/-! ### The capture -/

theorem regReset_errCnt : regReset MTX_ERR_CNT = 0 := by decide +kernel

/-- MTX_ERR_INFO of an access that meets an error. -/
def State.errInfo (s : State) (m cause : Nat) (wr : Bool) (size : Nat) : Nat :=
  2 ^ 31 + s.fld MTX_ERR_INFO_OVERFLOW * 2 ^ 30 + m * 2 ^ 16 + cause * 2 ^ 12 + (if wr then 2 ^ 8 else 0) + size % 256

theorem fld_counted (h : g.off ≠ MTX_ERR_CNT) : (s.bump (whole MTX_ERR_CNT)).fld g = s.fld g := by
  rw [State.fld, rd_bump_ne regReset_errCnt h]
  rfl

/-- The first access that meets an error since the capture was released is captured. -/
theorem captureErr_first (h : s.fld MTX_ERR_INFO_VALID = 0) : s.captureErr m addr cause wr size =
    (((s.bump (whole MTX_ERR_CNT)).wrN MTX_ERR_ADDR addr).wrN MTX_ERR_INFO (s.errInfo m cause wr size)).evt 1 0 := by
  simp [State.captureErr, fld_counted (g := MTX_ERR_INFO_VALID) (by decide), h,
    fld_counted (g := MTX_ERR_INFO_OVERFLOW) (by decide), State.errInfo]

/-- A later one sets OVERFLOW. -/
theorem captureErr_overflows (h : s.fld MTX_ERR_INFO_VALID = 1) (ho : s.fld MTX_ERR_INFO_OVERFLOW ≠ 1) :
    s.captureErr m addr cause wr size =
      (((s.bump (whole MTX_ERR_CNT)).setFld MTX_ERR_INFO_OVERFLOW 1).evt 1 1).evt 1 0 := by
  simp [State.captureErr, fld_counted (g := MTX_ERR_INFO_VALID) (by decide), h,
    fld_counted (g := MTX_ERR_INFO_OVERFLOW) (by decide), ho]

theorem captureErr_overflowed (h : s.fld MTX_ERR_INFO_VALID = 1) (ho : s.fld MTX_ERR_INFO_OVERFLOW = 1) :
    s.captureErr m addr cause wr size = (s.bump (whole MTX_ERR_CNT)).evt 1 0 := by
  simp [State.captureErr, fld_counted (g := MTX_ERR_INFO_VALID) (by decide), h,
    fld_counted (g := MTX_ERR_INFO_OVERFLOW) (by decide), ho]

/-! ### What an error response shows -/

theorem rd_evt_matrix (hb : b < 32) (h : 0x1040 ≤ a) : (s.evt 1 b).rd a = s.rd a := by
  rw [rd_evt hb (by omega) (by omega), if_neg (by simp only [PG_EVT]; omega)]

theorem errInfo_lt (hm : m < 64) (hc : cause < 16) : s.errInfo m cause wr size < 2 ^ 32 ∧
    bitsNat (s.errInfo m cause wr size) 31 31 = 1 ∧
    bitsNat (s.errInfo m cause wr size) 30 30 = s.fld MTX_ERR_INFO_OVERFLOW := by
  have ho : s.fld MTX_ERR_INFO_OVERFLOW < 2 := Nat.mod_lt _ (by decide)
  have hw : (if wr then 2 ^ 8 else 0) ≤ 256 := by split <;> decide
  simp only [State.errInfo, bitsNat, Nat.shiftRight_eq_div_pow]
  generalize (if wr then 2 ^ 8 else 0) = x at *
  generalize s.fld MTX_ERR_INFO_OVERFLOW = y at *
  omega

/-- The registers of the matrix after an error response. -/
theorem errResp_count (hi : s.Inv) : (s.errResp m addr cause wr size).fld (whole MTX_ERR_CNT) =
    min (s.fld (whole MTX_ERR_CNT) + 1) 0xFFFFFFFF := by
  have hc : ((s.bump (whole MTX_ERR_CNT)).rd MTX_ERR_CNT).toNat = min ((s.rd MTX_ERR_CNT).toNat + 1) 0xFFFFFFFF := by
    have hle : min ((s.rd MTX_ERR_CNT).toNat + 1) 0xFFFFFFFF ≤ 0xFFFFFFFF := Nat.min_le_right _ _
    rw [rd_bump regReset_errCnt, if_pos rfl, BitVec.toNat_ofNat, Nat.mod_eq_of_lt (by omega)]
  have h1 : (s.bump (whole MTX_ERR_CNT)).Inv := (State.bump_ok (ok_free hi)).inv
  rw [fld_whole, fld_whole, ← hc]
  refine congrArg BitVec.toNat ?_
  show (s.captureErr m addr cause wr size).rd MTX_ERR_CNT = _
  by_cases hv : s.fld MTX_ERR_INFO_VALID = 1
  · by_cases ho : s.fld MTX_ERR_INFO_OVERFLOW = 1
    · rw [captureErr_overflowed hv ho, rd_evt_matrix (by decide) (by decide)]
    · rw [captureErr_overflows hv ho, rd_evt_matrix (by decide) (by decide), rd_evt_matrix (by decide) (by decide)]
      exact rd_wr_ne h1 _ (by decide)
  · have hz : s.fld MTX_ERR_INFO_VALID = 0 := by
      have : s.fld MTX_ERR_INFO_VALID < 2 := Nat.mod_lt _ (by decide)
      omega
    rw [captureErr_first hz, rd_evt_matrix (by decide) (by decide)]
    exact (rd_wr_ne (h1.wr _ _) _ (by decide)).trans (rd_wr_ne h1 _ (by decide))

theorem setFld_overflow (w : Reg32) : putBits w 30 30 1 = w ||| 0x40000000 := by
  refine BitVec.eq_of_getLsbD_eq fun i h => ?_
  have hbit : (0x40000000 : Reg32).getLsbD i = decide (i = 30) := by
    rw [show (0x40000000 : Reg32) = BitVec.twoPow 32 30 by decide, BitVec.getLsbD_twoPow]
    simp only [eq_comm (a := 30), show 30 < 32 by decide, decide_true, Bool.true_and]
  rw [getLsbD_putBits h, BitVec.getLsbD_or, hbit]
  by_cases e : i = 30
  · subst e
    simp
  · rw [if_neg (by omega), decide_eq_false e, Bool.or_false]

/-- A later error changes nothing of the capture but OVERFLOW. -/
theorem errResp_later (hi : s.Inv) (hv : s.fld MTX_ERR_INFO_VALID = 1) :
    (s.errResp m addr cause wr size).rd MTX_ERR_ADDR = s.rd MTX_ERR_ADDR ∧
      (s.errResp m addr cause wr size).rd MTX_ERR_INFO = s.rd MTX_ERR_INFO ||| 0x40000000 := by
  have h1 : (s.bump (whole MTX_ERR_CNT)).Inv := (State.bump_ok (ok_free hi)).inv
  have hinfo : (s.bump (whole MTX_ERR_CNT)).rd MTX_ERR_INFO = s.rd MTX_ERR_INFO := rd_bump_ne regReset_errCnt (by decide)
  have haddr : (s.bump (whole MTX_ERR_CNT)).rd MTX_ERR_ADDR = s.rd MTX_ERR_ADDR := rd_bump_ne regReset_errCnt (by decide)
  show (s.captureErr m addr cause wr size).rd MTX_ERR_ADDR = _ ∧ (s.captureErr m addr cause wr size).rd MTX_ERR_INFO = _
  by_cases ho : s.fld MTX_ERR_INFO_OVERFLOW = 1
  · have hself : s.rd MTX_ERR_INFO ||| 0x40000000 = s.rd MTX_ERR_INFO := by
      rw [← setFld_overflow, ← ho]
      exact putBits_bitsNat _ _ _
    rw [captureErr_overflowed hv ho, rd_evt_matrix (by decide) (by decide), rd_evt_matrix (by decide) (by decide), hself]
    exact ⟨haddr, hinfo⟩
  · rw [captureErr_overflows hv ho]
    simp only [rd_evt_matrix (show 1 < 32 by decide) (show 0x1040 ≤ MTX_ERR_ADDR by decide),
      rd_evt_matrix (show 0 < 32 by decide) (show 0x1040 ≤ MTX_ERR_ADDR by decide),
      rd_evt_matrix (show 1 < 32 by decide) (show 0x1040 ≤ MTX_ERR_INFO by decide),
      rd_evt_matrix (show 0 < 32 by decide) (show 0x1040 ≤ MTX_ERR_INFO by decide)]
    refine ⟨(rd_wr_ne h1 _ (by decide)).trans haddr, (rd_wr_same h1 _ _).trans ?_⟩
    exact (setFld_overflow _).trans (congrArg (· ||| 0x40000000) hinfo)

/-- The first error is captured; OVERFLOW stays as it is (log entry 42). -/
theorem errResp_first (hi : s.Inv) (hv : s.fld MTX_ERR_INFO_VALID = 0) :
    (s.errResp m addr cause wr size).rd MTX_ERR_ADDR = BitVec.ofNat 32 addr ∧
      (s.errResp m addr cause wr size).rd MTX_ERR_INFO = BitVec.ofNat 32 (s.errInfo m cause wr size) := by
  have h1 : (s.bump (whole MTX_ERR_CNT)).Inv := (State.bump_ok (ok_free hi)).inv
  show (s.captureErr m addr cause wr size).rd MTX_ERR_ADDR = _ ∧ (s.captureErr m addr cause wr size).rd MTX_ERR_INFO = _
  rw [captureErr_first hv, rd_evt_matrix (by decide) (by decide), rd_evt_matrix (by decide) (by decide)]
  exact ⟨(rd_wr_ne (h1.wr _ _) _ (by decide)).trans (rd_wr_same h1 _ _), rd_wr_same (h1.wr _ _) _ _⟩

theorem errResp_mem (s : State) (m addr cause size : Nat) (wr : Bool) : (s.errResp m addr cause wr size).mem = s.mem := by
  have hb := onlyTraces_bump s (whole MTX_ERR_CNT) 1
  have h : OnlyTraces s (s.captureErr m addr cause wr size) := by
    unfold State.captureErr
    extract_lets s1 s2
    have h2 : OnlyTraces s s2 := by
      unfold s2
      split
      · split
        · exact hb
        · exact hb.trans ((onlyTraces_wr _ _ _).trans (onlyTraces_evt _ _ (by decide)))
      · exact hb.trans ((onlyTraces_wr _ _ _).trans (onlyTraces_wr _ _ _))
    exact h2.trans (onlyTraces_evt _ _ (by decide))
  obtain ⟨_, _, _, _, e⟩ := h
  rw [State.errResp, State.emit_mem, e]

end

section
variable {s : State} {m a w : Nat} {d : List Byte}

/-- WORD_WRITE to a word of a bank that is not ON, after a wait. -/
theorem exec_wordWrite_bankOff (hm : s.mode ≠ .reset) (h : 0x10000000 ≤ a) (h' : a < 0x18000000)
    (hsh : slotShape a d.length = true) (hs : ¬ s.sendsOn m a (asForwarded m a d))
    (ht : s.inTurn s.fwd (s.idx, asForwarded m a d) = true) (hu : (s.waited m a w).misuse m a d = false)
    (hr : masterReaches m (a / 16 * 16) (.bank (a / 16 * 16)) = true) (hb : s.bankState (bankOf a) ≠ 2) :
    exec (.wordWrite m a d none w) s =
      .next ((s.waited m a w).noteWrite ((s.waited m a w).errResp m a 2 true d.length) m) := by
  obtain ⟨hturn, hmode⟩ := (onlyTraces_waited s m a w).inTurn (asForwarded m a d)
  have htake : (s.waited m a w).takesAccess m a d :=
    ⟨hmode ▸ hm, fun hs' => hs (by rwa [State.sendsOn, forwards_waited] at hs'), hturn.trans ht, hu⟩
  rw [exec_wordWrite_waited hm, exec_wordWrite htake (isReg_above (by omega)),
    putAccess_bankOff h h' hsh hr (by rwa [bankState_waited])]

end

/-- Settles O17: an access that fails is one `errResp`, and its capture is `captureErr`. -/
theorem accessErrors : Obligations.AccessErrors := by
  refine ⟨fun s m hm => ?_, fun s m addr cause size w hi hlm hlc hla => ?_⟩
  · intro takes
    refine ⟨fun off v ⟨hs, ht⟩ => ?_, fun a d w hsh h h' _ => ?_, fun a d hsh h h' h67 ⟨hs, ht⟩ => ?_⟩
    · intro write err
      have hoff := off.isLt
      have ha : (0x01000000 + off.toNat) % 0x1000000 = off.toNat := by omega
      have h4 : (0x01000000 + off.toNat) % 4 = off.toNat % 4 := by omega
      have hr : isReg (0x01000000 + off.toNat) = true := isReg_iff.2 ⟨by omega, by omega⟩
      have hl : (leBytes 4 v.toNat).length = 4 := length_leBytes 4 _
      have hput (hun : s.unanswered (0x01000000 + off.toNat)) : write = .next (s.noteWrite
          (s.putAccess m (0x01000000 + off.toNat) (leBytes 4 v.toNat)) m) :=
        congrArg Host.Outcome.next (hostBytes_taken ⟨hm, hs, ht, misuse_unanswered hl hr hun⟩)
      simp only [State.unanswered, ha, h4] at hput
      refine ⟨fun hid => ?_, fun hid hne => ?_, fun hid hz hg => ?_⟩
      · rw [hput (.inl hid), putAccess_undecoded hr (by rwa [ha]), hl]
      · rw [hput (.inr (.inl hne)), putAccess_unaligned hr (by rwa [ha]) hl (by rwa [h4])]
      · rw [hput (.inr (.inr hg)), putAccess_gated hr (by rwa [ha]) hl (by rwa [h4]) (by rwa [ha])]
    · intro u ⟨hs, ht⟩ hu hr hb
      exact exec_wordWrite_bankOff hm h h' hsh hs ht hu hr hb
    · have hput := hostBytes_taken ⟨hm, hs, ht, misuse_alias_kept h h' hsh h67⟩
      rw [putAccess_alias_kept h h' hsh h67] at hput
      exact congrArg Host.Outcome.next hput
  · intro t
    refine ⟨errResp_count hi, fun hv => ?_, fun hv => ?_, errResp_mem s m addr cause size w⟩
    · obtain ⟨haddr, hinfo⟩ := errResp_later (m := m) (addr := addr) (cause := cause) (wr := w) (size := size) hi hv
      refine ⟨haddr, ?_, ?_⟩
      · refine (fld_bit t 0x1044 30).trans ?_
        rw [show t.rd 0x1044 = _ from hinfo, BitVec.getLsbD_or, show (0x40000000 : Reg32).getLsbD 30 = true by decide,
          Bool.or_true]
        rfl
      · have habsorb : (s.rd MTX_ERR_INFO ||| 0x40000000) &&& 0x40000000 = 0x40000000 := by
          refine BitVec.eq_of_getLsbD_eq fun i _ => ?_
          rw [BitVec.getLsbD_and, BitVec.getLsbD_or]
          cases (0x40000000 : Reg32).getLsbD i
          · exact Bool.and_false _
          · exact congrArg (· && true) (Bool.or_true _)
        rw [show t.rd MTX_ERR_INFO = _ from hinfo, habsorb]
    · obtain ⟨haddr, hinfo⟩ := errResp_first (m := m) (addr := addr) (cause := cause) (wr := w) (size := size) hi hv
      obtain ⟨hlt, hvalid, hover⟩ := errInfo_lt (s := s) (wr := w) (size := size) hlm hlc
      have hn : (t.rd MTX_ERR_INFO).toNat = s.errInfo m cause w size := by
        rw [hinfo, BitVec.toNat_ofNat, Nat.mod_eq_of_lt hlt]
      refine ⟨?_, ?_, ?_⟩
      · rw [haddr, BitVec.toNat_ofNat, Nat.mod_eq_of_lt hla]
      · exact (congrArg (bitsNat · 31 31) hn).trans hvalid
      · exact (congrArg (bitsNat · 30 30) hn).trans hover

end Sys2Proof.Machine

/-! Blowing and sensing fuses (02_register_space.md R49, R50). -/

namespace Sys2Proof.Machine

open Sys2Proof

section
variable {s : State} {m a b n : Nat} {v : Reg32} {c : Instr} {ok : Bool}

/-! ### FUS_CTRL -/

/-- The row of FUS_CTRL: each of its fields acts, and none is staged. -/
theorem findReg_fusCtrl : ∃ r, findReg FUS_CTRL = some r ∧ liveMask FUS_CTRL = 0 ∧ r.rw ||| r.w1c ||| r.act = 0xFFFF0003 := by
  refine ⟨_, rfl, ?_, ?_⟩ <;> decide +kernel

/-- A row that writes FUS_CTRL, where it is taken. -/
theorem exec_fusCtrl (hc : s.rowWrite c = some (m, FUS_CTRL, v)) (h : s.takesWrite m FUS_CTRL v) :
    exec c s = .next (s.noteWrite (s.writeFusCtrl m (v &&& 0xFFFF0003)) m) := by
  have hput : s.putReg m FUS_CTRL v = s.writeFusCtrl m (v &&& 0xFFFF0003) := by
    obtain ⟨r, hr, hk, hmask⟩ := findReg_fusCtrl
    obtain ⟨_, hid, _, _, _, _, _, hg, hb⟩ := h
    rw [putReg_body hid hg hb (by decide) hr, putBodyLive_unstaged hk, State.putBody, hmask]
    rfl
  rw [exec_rowWrite_taken hc h, hput]

/-- The fields of FUS_CTRL are all that a write of it acts by. -/
theorem fusCtrl_fields (v : Reg32) : (v &&& 0xFFFF0003).getLsbD 0 = v.getLsbD 0 ∧ (v &&& 0xFFFF0003).getLsbD 1 = v.getLsbD 1 ∧
    bitsNat (v &&& 0xFFFF0003).toNat 31 16 = bitsNat v.toNat 31 16 := by
  have hmask : ∀ i : Fin 16, (0xFFFF0003 : Reg32).toNat.testBit (16 + i) = true := by decide
  refine ⟨?_, ?_, Nat.eq_of_testBit_eq fun i => ?_⟩
  · rw [BitVec.getLsbD_and, show (0xFFFF0003 : Reg32).getLsbD 0 = true by decide, Bool.and_true]
  · rw [BitVec.getLsbD_and, show (0xFFFF0003 : Reg32).getLsbD 1 = true by decide, Bool.and_true]
  · by_cases hi : i < 16
    · rw [testBit_bitsNat, testBit_bitsNat, BitVec.toNat_and, Nat.testBit_and, hmask ⟨i, hi⟩, Bool.and_true]
    · rw [testBit_bitsNat, testBit_bitsNat, decide_eq_false (by omega), Bool.false_and, Bool.false_and]

/-- Nothing is being blown or sensed. -/
abbrev State.fusesIdle (s : State) : Prop := s.fld FUS_STAT_BLOW_BUSY = 0 ∧ s.fld FUS_STAT_SENSE_BUSY = 0

theorem writeFusCtrl_blow (hs : s.fusesIdle) (h1 : v.getLsbD 1 = true) (h0 : v.getLsbD 0 = false) (hc : s.cfgMode = true)
    (hk : bitsNat v.toNat 31 16 = 0x4655) : s.writeFusCtrl m v =
      if s.fuseLocked ((s.rd FUS_ADDR).toNat % 4096) then s.setFld FUS_STAT_LOCK_ERR 1
      else (s.setFld FUS_STAT_BLOW_BUSY 1).onSys fun y => { y with blowAddr := (s.rd FUS_ADDR).toNat % 4096 } := by
  simp only [State.writeFusCtrl, h1, h0, hc, hk, hs.1, hs.2, Nat.reduceBEq, Bool.or_false, Bool.false_eq_true, ne_eq,
    not_true_eq_false, or_false, false_and, if_false]

theorem writeFusCtrl_wrongKey (h1 : v.getLsbD 1 = true) (h0 : v.getLsbD 0 = false) (hc : s.cfgMode = true)
    (hk : bitsNat v.toNat 31 16 ≠ 0x4655) : s.writeFusCtrl m v = s := by
  simp only [State.writeFusCtrl, h1, h0, hc, hk, not_true_eq_false, ne_eq, not_false_eq_true, true_or, if_true, if_false,
    Bool.false_eq_true, false_and]

theorem writeFusCtrl_refused (h1 : v.getLsbD 1 = true) (h0 : v.getLsbD 0 = false) (hc : s.cfgMode = false) :
    s.writeFusCtrl m v = s.refusedField m FUS_CTRL := by
  simp only [State.writeFusCtrl, h1, h0, hc, not_true_eq_false, not_false_eq_true, if_true, if_false, Bool.false_eq_true,
    false_and]

theorem writeFusCtrl_sense (hs : s.fusesIdle) (h1 : v.getLsbD 1 = false) (h0 : v.getLsbD 0 = true) :
    s.writeFusCtrl m v = s.setFld FUS_STAT_SENSE_BUSY 1 := by
  simp only [State.writeFusCtrl, h1, h0, hs.1, hs.2, not_false_eq_true, Bool.false_eq_true, if_true, and_self]

/-! ### The end of a blow -/

/-- The fuses blown once bit `b` has been, where it takes. -/
abbrev State.blownWith (s : State) (b : Nat) (ok : Bool) : SMap Bool :=
  if ok then mset false s.sys.fuseBlown b true else s.sys.fuseBlown

theorem mget_blownWith (s : State) (b : Nat) : mget false (s.blownWith b true) b = true :=
  (congrArg (mget false · b) ((mset_eq _ _ _ _).trans (if_neg (by decide)))).trans (mget_mins_same false _ b true)

/-- A bit that reads 1 after its blow raises no failure; what the engine has sensed stays. -/
theorem blowBit_reads (h : mget false (s.blownWith b ok) b = true) : ∃ y : Sys, s.blowBit b ok = { s with sys := y } ∧
    y.fuseSensed = s.sys.fuseSensed ∧ y.fuseBlown = s.blownWith b ok := by
  cases ok
  · exact ⟨_, if_pos h, rfl, rfl⟩
  · exact ⟨_, if_pos h, rfl, rfl⟩

theorem blowBit_fails (h : mget false (s.blownWith b ok) b = false) : ∃ y : Sys,
    s.blowBit b ok = (State.setFld { s with sys := y } FUS_STAT_BLOW_FAIL 1).evt 6 1 ∧
      y.fuseSensed = s.sys.fuseSensed ∧ y.fuseBlown = s.blownWith b ok := by
  cases ok
  · exact ⟨_, if_neg (ne_true_of_eq_false h), rfl, rfl⟩
  · exact ⟨_, if_neg (ne_true_of_eq_false h), rfl, rfl⟩

/-- What blowing a bit leaves: the array, the sensed fuses, and FUS_STAT but for its failure. -/
theorem blowBit_spec (h : s.Inv) (b : Nat) (ok : Bool) : (s.blowBit b ok).sys.fuseSensed = s.sys.fuseSensed ∧
    (s.blowBit b ok).sys.fuseBlown = s.blownWith b ok ∧
    ((s.blowBit b ok).rd FUS_STAT).getLsbD 0 = (s.rd FUS_STAT).getLsbD 0 ∧
    (mget false (s.blownWith b ok) b = false → ((s.blowBit b ok).rd FUS_STAT).getLsbD 2 = true) := by
  cases hb : mget false (s.blownWith b ok) b
  · obtain ⟨y, he, hsensed, hblown⟩ := blowBit_fails hb
    have hy : State.Inv { s with sys := y } := h
    have hsys : (s.blowBit b ok).sys = y := by
      obtain ⟨_, _, _, _, e⟩ := onlyTraces_evt (State.setFld { s with sys := y } FUS_STAT_BLOW_FAIL 1) 6 (show 1 < 32 by decide)
      rw [he, e]
      rfl
    have hrd : (s.blowBit b ok).rd FUS_STAT = putBits (s.rd FUS_STAT) 2 2 1 := by
      rw [he, rd_evt (by decide) (by decide) (by decide), if_neg (by decide)]
      exact rd_wr_same hy _ _
    rw [hsys, hrd, getLsbD_putBits (by decide), getLsbD_putBits (by decide)]
    exact ⟨hsensed, hblown, if_neg (by decide), fun _ => (if_pos (by decide)).trans (by decide)⟩
  · obtain ⟨y, he, hsensed, hblown⟩ := blowBit_reads hb
    rw [he]
    exact ⟨hsensed, hblown, rfl, fun e => absurd e (by decide)⟩

/-- BLOW_DONE while a blow runs. -/
theorem exec_blowDone (h : s.fld FUS_STAT_BLOW_BUSY = 1) : exec (.blowDone ok) s =
    .next (((s.setFld FUS_STAT_BLOW_BUSY 0).blowBit s.sys.blowAddr ok).evt 6 0).fusePend := congrArg _ (if_pos h)

/-- The event of a blow that ended, and SPR_FUSE_PEND after it, leave the array and FUS_STAT. -/
theorem blowEnds_spec (h : s.Inv) : ((s.evt 6 0).fusePend.rd FUS_STAT = s.rd FUS_STAT) ∧
    ((s.evt 6 0).fusePend.rd 0x6010).getLsbD 0 = true ∧ (s.evt 6 0).fusePend.sys = s.sys := by
  have he : (s.evt 6 0).Inv := (State.evt_ok (ok_free h)).inv
  have hpend {a : Nat} (n : a ≠ SPR_FUSE_PEND) : (s.evt 6 0).fusePend.rd a = (s.evt 6 0).rd a := rd_wr_ne he _ n
  refine ⟨?_, ?_, ?_⟩
  · rw [hpend (by decide), rd_evt (by decide) (by decide) (by decide), if_neg (by decide)]
  · rw [hpend (by decide)]
    exact (congrArg (BitVec.getLsbD · 0) (rd_evt_same (p := 6) (by decide))).trans (getLsbD_or_bit _ (by decide))
  · obtain ⟨_, _, _, _, e⟩ := onlyTraces_evt s 6 (show 0 < 32 by decide)
    show (s.evt 6 0).sys = s.sys
    rw [e]

end

/-- Settles O23: a write of FUS_CTRL is `writeFusCtrl`, and the end of a blow `blowBit` of the bit it started with. -/
theorem fuses : Obligations.Fuses := by
  refine ⟨fun s m v hi h hblow hsense => ?_, fun s ok hi => ⟨fun hb => ?_, fun hb => congrArg _ (if_pos hb)⟩⟩
  · obtain ⟨f0, f1, fk⟩ := fusCtrl_fields v
    rw [← f0, ← f1, ← fk]
    intro now
    have hw : exec (.blow m v) s = now (s.writeFusCtrl m (v &&& 0xFFFF0003)) := exec_fusCtrl rfl h
    have hw' : exec (.sense m v) s = now (s.writeFusCtrl m (v &&& 0xFFFF0003)) := exec_fusCtrl rfl h
    refine ⟨fun h1 h0 hc hk => ⟨fun hl => ?_, fun hl => ?_⟩, fun h1 h0 hc hk => ?_, fun h1 h0 hc => ?_, fun h1 h0 => ?_⟩
    · rw [hw, writeFusCtrl_blow ⟨hblow, hsense⟩ h1 h0 hc hk, if_neg (ne_true_of_eq_false hl)]
    · rw [hw, writeFusCtrl_blow ⟨hblow, hsense⟩ h1 h0 hc hk, if_pos hl]
    · rw [hw, writeFusCtrl_wrongKey h1 h0 hc hk]
    · rw [hw, writeFusCtrl_refused h1 h0 hc]
      rfl
    · rw [hw', writeFusCtrl_sense ⟨hblow, hsense⟩ h1 h0]
  · have hs1 : (s.setFld FUS_STAT_BLOW_BUSY 0).Inv := hi.wr _ _
    have hbusy : ((s.setFld FUS_STAT_BLOW_BUSY 0).rd FUS_STAT).getLsbD 0 = false :=
      (getLsbD_setFld_bit hi (by decide) 0).trans (by decide)
    obtain ⟨hsensed, hblown, hbit0, hbit2⟩ := blowBit_spec hs1 s.sys.blowAddr ok
    have hk : KeepsMode s ((s.setFld FUS_STAT_BLOW_BUSY 0).blowBit s.sys.blowAddr ok) := fun h =>
      State.blowBit_ok (State.setFld_ok h)
    obtain ⟨hstat, hevt, hsys⟩ := blowEnds_spec (hk.inv hi)
    refine ⟨_, exec_blowDone hb, ?_, hevt, ?_, fun e => ?_, fun e => ?_, fun e hm => ?_⟩
    · refine (fld_bit _ FUS_STAT 0).trans ?_
      rw [hstat, hbit0, hbusy]
      rfl
    · rw [hsys, hsensed]
      rfl
    · subst e
      rw [hsys, hblown]
      exact mget_blownWith _ _
    · subst e
      rw [hsys, hblown]
      rfl
    · subst e
      refine (fld_bit _ FUS_STAT 2).trans ?_
      rw [hstat, hbit2 hm]
      rfl

end Sys2Proof.Machine

/-! The set and clear aliases of a bank word (02_register_space.md R39). -/

namespace Sys2Proof.Machine

open Sys2Proof

section
variable {s : State} {m a x : Nat} {d : List Byte} {set : Bool} {k : Slot}

/-! ### Reads of one slot -/

/-- The bytes of a slot that holds `w`. -/
def slotBytes (w : Word) : List Byte := leBytes 9 w.toNat ++ List.replicate 7 0

theorem getSlots_nothing (m size n a : Nat) (s : State) : State.getSlots m size n a 0 s = (some [], s) := by
  cases n <;> rfl

/-- A read of a whole slot is that of its word. -/
theorem getSlots_slot (n : Nat) (h16 : a % 16 = 0) : State.getSlots m 16 (n + 1) a 16 s =
    ((s.getSlot m a 0 16).1.map slotBytes, (s.getSlot m a 0 16).2) := by
  have hbytes (w : Word) : ((leBytes 9 w.toNat ++ List.replicate 7 0).drop 0).take 16 = slotBytes w :=
    List.take_of_length_le (by simp [length_leBytes])
  have hlen (w : Word) : 16 - (slotBytes w).length = 0 := by simp [slotBytes, length_leBytes]
  rw [State.getSlots]
  simp only [h16, Nat.sub_zero]
  rcases s.getSlot m a 0 16 with ⟨w, t⟩
  cases w with
  | none => rfl
  | some w =>
    simp only [hbytes, hlen, getSlots_nothing, List.append_nil]
    rfl

theorem getAccess_slot (hr : isReg a = false) (hn : s.nowhere a = false) (h16 : a % 16 = 0) :
    s.getAccess m a 16 = ((s.getSlot m a 0 16).1.map slotBytes, (s.getSlot m a 0 16).2) := by
  have ha : a / 16 * 16 = a := by omega
  have hsh : slotShape a 16 = true := by simp [slotShape, h16]
  simp only [State.getAccess, hr, ha, hn, hsh, Bool.false_eq_true, if_false, not_true_eq_false]
  exact getSlots_slot 15 h16

/-- `k` is the bank word at `x`, or is among its aliases. -/
def Slot.Names (k : Slot) (x : Nat) : Prop := k = .bank x ∨ k = .setAlias x ∨ k = .clearAlias x

theorem nowhere_of_names (hk : slotAt (s.fld SYS_CTRL_REMAP == 1) trussWord a = k) (hn : k.Names x) : s.nowhere a = false := by
  rcases hn with rfl | rfl | rfl <;> simp [State.nowhere, hk]

/-- A read of a word of a bank that is not ON gets the error response, at the address of the access. -/
theorem getSlot_off (hk : slotAt (s.fld SYS_CTRL_REMAP == 1) trussWord a = k) (hn : k.Names x)
    (hm : masterReaches m a k = true) (hb : s.bankState (bankOf x) ≠ 2) :
    s.getSlot m a 0 16 = (none, s.errResp m a 2 false 16) := by
  rcases hn with rfl | rfl | rfl <;> simp [State.getSlot, hk, hm, hb]

/-- Of a bank that is ON, it gives what the checked read of the word gives. -/
theorem getSlot_on (hk : slotAt (s.fld SYS_CTRL_REMAP == 1) trussWord a = k) (hn : k.Names x)
    (hm : masterReaches m a k = true) (hb : s.bankState (bankOf x) = 2) :
    (s.getSlot m a 0 16).1 = (s.checkedRead m x).1 := by
  rcases hread : s.checkedRead m x with ⟨w, t⟩
  rcases hn with rfl | rfl | rfl <;> cases w <;> simp [State.getSlot, hk, hm, hb, hread]

/-! ### Aliases -/

/-- The address of one of the aliases of the bank word at `a`. -/
abbrev aliasAddr (set : Bool) (a : Nat) : Nat := a + if set then 0x10000000 else 0x20000000

abbrev aliasSlot (set : Bool) (a : Nat) : Slot := if set then .setAlias a else .clearAlias a

theorem slotAt_alias {r : Bool} {f : Nat → Option Bool} (set : Bool) (h : 0x10000000 ≤ a) (h' : a < 0x18000000) :
    slotAt r f (aliasAddr set a) = aliasSlot set a := by
  cases set
  · exact slotAt_clearAlias h h'
  · exact slotAt_setAlias h h'

theorem names_alias (set : Bool) (a : Nat) : (aliasSlot set a).Names a := by
  cases set
  · exact .inr (.inr rfl)
  · exact .inr (.inl rfl)

theorem aliasAddr_ge (set : Bool) (h : 0x10000000 ≤ a) : 0x20000000 ≤ aliasAddr set a := by
  cases set <;> simp only [aliasAddr, Bool.false_eq_true, if_false, if_true] <;> omega

theorem aliasAddr_mod (set : Bool) {n : Nat} (h16 : a % 16 = 0) (hn : n = 1 ∨ n = 2 ∨ n = 4 ∨ n = 8 ∨ n = 16) :
    aliasAddr set a % n = 0 := by
  rcases hn with rfl | rfl | rfl | rfl | rfl <;> cases set <;>
    simp only [aliasAddr, Bool.false_eq_true, if_false, if_true] <;> omega

/-- Every master reaches the banks at their own addresses (R40). -/
theorem masterReaches_bank (m : Nat) (h : 0x10000000 ≤ a) : masterReaches m a (.bank x) = true := by
  have h2 : 0x200000 ≤ a := by omega
  simp [masterReaches, h2]

theorem slotShape_of_size {n : Nat} (h : a % n = 0) (hn : n = 1 ∨ n = 2 ∨ n = 4 ∨ n = 8 ∨ n = 16) : slotShape a n = true := by
  rcases hn with rfl | rfl | rfl | rfl | rfl <;> simp [slotShape, h]

/-- The bytes of a write as a pattern; unwritten ones are 0. -/
theorem slotPattern_eq (d : List Byte) : slotPattern 0 d = BitVec.ofNat 72 (leNat (d.take 9)) := by
  by_cases h : 9 ≤ d.length
  · exact slotPattern_whole h
  · have htake : d.take 9 = d := List.take_of_length_le (by omega)
    have hn : (slotPattern 0 d).toNat = leNat d := by
      rw [slotPattern, toNat_putWordBytes 0 0 d (by omega)]
      show 0 % 1 + 1 * leNat d + 256 ^ (0 + d.length) * (0 / 256 ^ (0 + d.length)) = _
      rw [Nat.zero_div, Nat.mul_zero, Nat.one_mul, Nat.zero_mod, Nat.zero_add, Nat.add_zero]
    rw [htake, ← hn, BitVec.ofNat_toNat, BitVec.setWidth_eq]

section
variable (h : 0x10000000 ≤ a) (h' : a < 0x18000000) (h16 : a % 16 = 0)
  (hm : masterReaches m (aliasAddr set a) (aliasSlot set a) = true)
include h h' h16 hm

theorem getAccess_aliasOff (hb : s.bankState (bankOf a) ≠ 2) :
    s.getAccess m (aliasAddr set a) 16 = (none, s.errResp m (aliasAddr set a) 2 false 16) := by
  have hk := slotAt_alias (r := s.fld SYS_CTRL_REMAP == 1) (f := trussWord) set h h'
  have hge := aliasAddr_ge set h
  rw [getAccess_slot (isReg_above (by omega)) (nowhere_of_names hk (names_alias set a))
    (aliasAddr_mod set h16 (by decide)), getSlot_off hk (names_alias set a) hm hb]
  rfl

/-- A read through one of the aliases gives what a read of the bank address gives. -/
theorem getAccess_alias : (s.getAccess m (aliasAddr set a) 16).1 = (s.getAccess m a 16).1 := by
  have hk := slotAt_alias (r := s.fld SYS_CTRL_REMAP == 1) (f := trussWord) set h h'
  have hkb : slotAt (s.fld SYS_CTRL_REMAP == 1) trussWord a = .bank a := slotAt_bank h h'
  have hmb := masterReaches_bank (x := a) m h
  have hge := aliasAddr_ge set h
  rw [getAccess_slot (isReg_above (by omega)) (nowhere_of_names hk (names_alias set a))
    (aliasAddr_mod set h16 (by decide)), getAccess_slot (isReg_above (by omega)) (nowhere_of_names hkb (.inl rfl)) h16]
  by_cases hb : s.bankState (bankOf a) = 2
  · rw [getSlot_on hk (names_alias set a) hm hb, getSlot_on hkb (.inl rfl) hmb hb]
  · rw [getSlot_off hk (names_alias set a) hm hb, getSlot_off hkb (.inl rfl) hmb hb]

omit h16 in
theorem putSlot_alias (bs : List Byte) (n : Nat) :
    s.putSlot m (aliasAddr set a) 0 bs n = s.aliasWriteBytes m a 0 bs set n := by
  have hk := slotAt_alias (r := s.fld SYS_CTRL_REMAP == 1) (f := trussWord) set h h'
  rw [State.putSlot, hk, hm]
  cases set <;> rfl

variable (hd : d.length = 1 ∨ d.length = 2 ∨ d.length = 4 ∨ d.length = 8 ∨ d.length = 16)
include hd

theorem putAccess_aliasOff (hb : s.bankState (bankOf a) ≠ 2) :
    s.putAccess m (aliasAddr set a) d = s.errResp m (aliasAddr set a) 2 true d.length := by
  have hk {r f} := slotAt_alias (r := r) (f := f) set h h'
  have hge := aliasAddr_ge set h
  have hmod := aliasAddr_mod (n := 16) set h16 (by decide)
  have ha : aliasAddr set a / 16 * 16 = aliasAddr set a := by omega
  refine putAccess_slot_fails (isReg_above (by omega)) ?_ (slotShape_of_size (aliasAddr_mod set h16 hd) hd) ?_
  · rw [ha]
    exact nowhere_of_names hk (names_alias set a)
  · rw [ha, hmod, putSlot_alias h h' hm, State.aliasWriteBytes, if_pos hb]
    cases set <;> simp only [aliasAddr, Nat.add_comm, Nat.zero_add, Bool.false_eq_true, if_false, if_true]

/-- A write through one of the aliases of a clean word of a bank that is ON sets or clears the bits of its pattern. -/
theorem putAccess_aliasOn (hb : s.bankState (bankOf a) = 2) (hc : s.wordClean a) : s.putAccess m (aliasAddr set a) d =
    s.setWord a (if set then s.word a ||| BitVec.ofNat 72 (leNat (d.take 9))
      else s.word a &&& ~~~(BitVec.ofNat 72 (leNat (d.take 9)))) := by
  have hk {r f} := slotAt_alias (r := r) (f := f) set h h'
  have hge := aliasAddr_ge set h
  refine putAccess_slot_done (isReg_above (by omega)) (nowhere_of_names hk (names_alias set a))
    (aliasAddr_mod set h16 (by decide)) (slotShape_of_size (aliasAddr_mod set h16 hd) hd) (by omega) ?_
  rw [putSlot_alias h h' hm, State.aliasWriteBytes, if_neg (not_not_intro hb), checkedRead_clean hc, slotPattern_eq]

end

/-- A word that is written holds no error (10 R224). -/
theorem flips_setWord (h : risingFrom none s.flips = true) (a : Nat) (w : Word) : mget 0 (s.setWord a w).flips a = 0 :=
  mget_mdel_same h a

end

/-- Settles O35: an access to one of its aliases is that of the word. -/
theorem aliasesChangeBits : Obligations.AliasesChangeBits := by
  intro s m a d hi h16 h h' hd w reach ⟨hset, hclear⟩
  refine ⟨⟨getAccess_alias (set := true) h h' h16 hset, getAccess_alias (set := false) h h' h16 hclear⟩,
    fun x hf => ⟨flips_setWord hf a x, word_setWord hi.1 a x⟩, ?_⟩
  intro now
  refine ⟨fun hb hc hce hue => ⟨fun ht => ?_, fun ht => ?_⟩, fun hb => ⟨getAccess_aliasOff (set := true) h h' h16 hset hb,
    getAccess_aliasOff (set := false) h h' h16 hclear hb, fun ht => ?_, fun ht => ?_⟩⟩
  · refine congrArg Host.Outcome.next ((hostBytes_taken ht).trans (congrArg (s.noteWrite · m) ?_))
    exact putAccess_aliasOn (set := true) h h' h16 hset hd hb ⟨hc, hce, hue⟩
  · refine congrArg Host.Outcome.next ((hostBytes_taken ht).trans (congrArg (s.noteWrite · m) ?_))
    exact putAccess_aliasOn (set := false) h h' h16 hclear hd hb ⟨hc, hce, hue⟩
  · refine congrArg Host.Outcome.next ((hostBytes_taken ht).trans (congrArg (s.noteWrite · m) ?_))
    exact putAccess_aliasOff (set := true) h h' h16 hset hd hb
  · refine congrArg Host.Outcome.next ((hostBytes_taken ht).trans (congrArg (s.noteWrite · m) ?_))
    exact putAccess_aliasOff (set := false) h h' h16 hclear hd hb

end Sys2Proof.Machine

/-! The management SPI (02_register_space.md R43, R44). -/

namespace Sys2Proof.Machine

open Sys2Proof

section
variable {s : State} {a b c d n op : Byte} {body data : List Byte} {k : Nat} {col : Option Nat} {ph : ReadPhase} {m addr : Nat}

/-! ### WRITE -/

/-- A write that meets no write of Cairn's to a mailbox word is a write of bytes. -/
theorem wordWrite_unmet (h : ∀ i, col = some i → slotInMailbox m addr data i = false) :
    s.wordWrite m addr data col = s.hostBytes m addr data := by
  cases col with
  | none => rfl
  | some i => exact if_pos (.inr (.inl (ne_true_of_eq_false (h i rfl))))

/-- A frame of R43: whole, of 1 to 64 words, and not before the last WRITE is performed. -/
abbrev State.takesFrame (s : State) (body : List Byte) (k : Nat) : Prop :=
  ¬ (k % 8 ≠ 0 ∨ body.length % 4 ≠ 0 ∨ body = [] ∨ 256 < body.length ∨ s.mspiBusy = true)

theorem exec_mspiWrite (hm : s.mode ≠ .reset) (h : s.takesFrame body k) :
    exec (.mspiWrite (0x02 :: a :: b :: c :: d :: body) k col) s = .next (s.wordWrite 1 (mspiAddr a b c d) body col) := by
  refine congrArg Host.Outcome.next ((if_neg hm).trans ?_)
  exact (if_neg (by decide)).trans ((if_neg (by decide)).trans (if_neg h))

theorem exec_mspiWrite_discarded (hm : s.mode ≠ .reset) (h : ¬ s.takesFrame body k) :
    exec (.mspiWrite (0x02 :: a :: b :: c :: d :: body) k col) s = .next s.frameErr := by
  refine congrArg Host.Outcome.next ((if_neg hm).trans ?_)
  exact (if_neg (by decide)).trans ((if_neg (by decide)).trans (if_pos (Classical.not_not.1 h)))

theorem exec_mspiWrite_unknown (hm : s.mode ≠ .reset) (h : op ∉ [0x02, 0x0B, 0x05]) :
    exec (.mspiWrite (op :: body) k col) s = .next s.frameErr := by
  have ho : ¬ mspiOpcode op = true := by
    simpa [mspiOpcode, Bool.or_eq_true, or_assoc] using h
  exact congrArg Host.Outcome.next ((if_neg hm).trans (if_pos ho))

/-! ### READ -/

theorem exec_mspiRead (hm : s.mode ≠ .reset) (hp : ph ≠ .beforeToken) :
    exec (.mspiRead (0x0B :: a :: b :: c :: d :: n :: body) ph) s =
      .next (if 63 < n.toNat then s.frameErr.emit (.miso [0xE1])
        else s.turn (.readSpi (mspiAddr a b c d) (4 * (n.toNat + 1)) (decide (ph = .full)))) := by
  refine congrArg Host.Outcome.next ((if_neg (not_or.2 ⟨hm, hp⟩)).trans ?_)
  exact if_neg (by decide)

/-- A READ that is answered with an error sends its token alone. -/
theorem spiNow_error {u : State} {full : Bool} {size : Nat} (h : s.getAccess 1 addr size = (none, u)) :
    s.spiNow addr size full = u.emit (.miso [0xE1]) := by
  rw [State.spiNow, h]

theorem spiNow_data {u : State} {full : Bool} {size : Nat} {bytes : List Byte} (h : s.getAccess 1 addr size = (some bytes, u)) :
    s.spiNow addr size full = if full then (u.emit (.miso (0xA5 :: bytes ++ [u.mspiStatus]))).statusSent
      else u.emit (.miso (0xA5 :: bytes)) := by
  rw [State.spiNow, h]

/-! ### STATUS -/

theorem exec_mspiStatus (hm : s.mode ≠ .reset) : exec (.mspiStatus true) s = .next (s.emit (.miso [s.mspiStatus])).statusSent :=
  congrArg Host.Outcome.next (if_neg (not_or.2 ⟨hm, by decide⟩))

end

/-- Settles O60: a WRITE of R43 is one access of master 1, a READ is answered in its turn, and any other frame is discarded. -/
theorem managementSpi : Obligations.ManagementSpi := by
  intro s a b c d n body k hm addr write read asked
  refine ⟨fun col hcol hk h0 hl h4 ht hb => ?_, fun h col => ?_, fun op hop col => exec_mspiWrite_unknown hm hop,
    congrArg Host.Outcome.next (if_pos (.inr rfl)), fun hn ph hp => ?_, fun hn ph full hp hf => ?_,
    ⟨_, exec_mspiStatus hm, rfl, rfl, rfl, rfl, rfl⟩, congrArg Host.Outcome.next (if_pos (.inr (by decide)))⟩
  · have hframe : s.takesFrame body k := by
      rintro (h | h | h | h | h)
      · exact h hk
      · exact h h4
      · exact h0 h
      · omega
      · exact absurd (h.symm.trans hb) (by decide)
    exact (exec_mspiWrite hm hframe).trans (congrArg Host.Outcome.next ((wordWrite_unmet hcol).trans (hostBytes_taken ht)))
  · exact exec_mspiWrite_discarded hm (not_not_intro h)
  · exact (exec_mspiRead hm hp).trans (congrArg Host.Outcome.next (if_pos hn))
  · have hr : read ph = .next (s.turn (asked full)) :=
      hf ▸ (exec_mspiRead hm hp).trans (congrArg Host.Outcome.next (if_neg (Nat.not_lt.2 hn)))
    refine ⟨fun hw => ?_, fun ht => ⟨fun u hu => ?_, fun bytes u hu => ?_⟩⟩
    · rw [hr, turn_waits hw]
    · rw [hr, turn_inTurn ht]
      exact congrArg Host.Outcome.next (spiNow_error hu)
    · rw [hr, turn_inTurn ht]
      exact congrArg Host.Outcome.next (spiNow_data hu)

end Sys2Proof.Machine

/-! The bank port of a Chisel core (08_chisel_core.md R177, R178, 09_chisel_instructions.md R217). -/

namespace Sys2Proof.Machine

open Sys2Proof

section
variable {s t : State} {p op : Nat} {w : Word} {k : Word → State → Option (State × (State → State))}

/-! ### Issue -/

/-- An instruction that issues does what its arithmetic slot says, or is undefined. -/
theorem arith_issues (h : s.issues p op w) (hop : isControl op = false) :
    (∀ t after, k w (s.atLoopEnd p).2 = some (t, after) →
      s.arith p op k = .next (after (t.endCycle p (s.atLoopEnd p).1))) ∧
    (k w (s.atLoopEnd p).2 = none → s.arith p op k = .fault .undefinedInstruction) := by
  obtain ⟨hready, hforbids, rfl, hx, hy⟩ := h
  have hdone : ((mop (slotOf w .x) == 0 || (s.core p).xDone) && (mop (slotOf w .y) == 0 || (s.core p).yDone)) = true := by
    simp only [Bool.and_eq_true, Bool.or_eq_true, beq_iff_eq]
    exact ⟨hx, hy⟩
  refine ⟨fun t after hk => ?_, fun hk => ?_⟩ <;>
    simp only [State.arith, hready, hforbids, hdone, hop, hk, Bool.false_eq_true, if_false, ne_eq, not_true_eq_false, or_self,
      and_false]

/-! ### BLD -/

/-- The access that core `p` issues now waits for its return. -/
abbrev State.posts (s : State) (p : Nat) (reg : Option Nat) (v : Word) (err : Bool) : State :=
  s.onCore p fun k => { k with port := k.port ++ [⟨k.t + 24, reg, v, err⟩], lastPort := some k.t }

/-- What BLD reads at `a` of window `win`, `inj` where an error is injected: the value, whether it is an error, and the state. -/
def State.bldReads (s : State) (p : Nat) (c : ChiselCore) (win inj : Bool) (a : Nat) : Word × Bool × State :=
  if c.portTooSoon then ((s.free 72).1, false, (s.free 72).2)
  else if inj then (0, true, s)
  else match c.window win a with
    | none => (0, true, s)
    | some x => match s.bankRead (0x10 + p) x 16 with
      | (some v, s) => (v, false, s)
      | (none, s) => (0, true, s)

theorem bldReads_tooSoon {c : ChiselCore} {win inj : Bool} {a : Nat} (h : c.portTooSoon = true) :
    s.bldReads p c win inj a = ((s.free 72).1, false, (s.free 72).2) := if_pos h

/-- A window that is not enabled gives 0 as an error, as an injected error does. -/
theorem bldReads_error {c : ChiselCore} {win inj : Bool} {a : Nat} (h : c.portTooSoon = false)
    (he : inj = true ∨ c.window win a = none) : s.bldReads p c win inj a = (0, true, s) := by
  rw [State.bldReads, if_neg (ne_true_of_eq_false h)]
  split
  · rfl
  next hi => rw [he.resolve_left hi]

theorem bldReads_word {c : ChiselCore} {win : Bool} {a x : Nat} (h : c.portTooSoon = false) (hw : c.window win a = some x) :
    s.bldReads p c win false a = ((s.bankRead (0x10 + p) x 16).1.getD 0, (s.bankRead (0x10 + p) x 16).1.isNone,
      (s.bankRead (0x10 + p) x 16).2) := by
  rw [State.bldReads, if_neg (ne_true_of_eq_false h), if_neg Bool.false_ne_true, hw]
  dsimp only
  rcases s.bankRead (0x10 + p) x 16 with ⟨v, t⟩
  cases v <;> rfl

theorem exec_bld {p : Fin 17} (h : s.issues p 0x30 w) :
    let l := s.atLoopEnd p
    let a := l.2.useAddress p 0 (wbits w 60 58) (wbits w 57 55)
    let i := a.2.takeInj (0x40 + p) 3
    let r := i.2.bldReads p (l.2.core p) (w.toNat.testBit 61) i.1 a.1
    exec (.bld p) s = .next ((r.2.2.posts p (some (wbits w 65 62)) r.1 r.2.1).endCycle p l.1) := by
  intro l a i r
  show execBld p s = _
  unfold execBld State.compute
  exact (arith_issues h rfl).1 _ (fun s => s) rfl

/-! ### BST -/

/-- What BST's write of `d` at `a` of window `win` meets: whether it is performed, and the state. -/
def State.bstWrites (s : State) (p : Nat) (c : ChiselCore) (win : Bool) (a : Nat) (d : Word) : Bool × State :=
  match c.window win a with
  | none => (false, s)
  | some x => s.bankWrite (0x10 + p) x d 16

theorem bstWrites_eq {c : ChiselCore} {win : Bool} {a : Nat} {d : Word} {r : Bool × State}
    (h : (c.window win a = none ∧ r = (false, s)) ∨ ∃ x, c.window win a = some x ∧ s.bankWrite (0x10 + p) x d 16 = r) :
    s.bstWrites p c win a d = r := by
  rw [State.bstWrites]
  rcases h with ⟨hnone, rfl⟩ | ⟨x, hsome, rfl⟩
  · rw [hnone]
  · rw [hsome]

/-- Core `p` has written to its bank port now: a write that is not `ok` comes back as an error. -/
abbrev State.wrote (s : State) (p : Nat) (ok : Bool) : State :=
  s.onCore p fun k => { k with port := if ok = true then k.port else k.port ++ [⟨k.t + 24, none, 0, true⟩], lastPort := some k.t }

theorem exec_bst {p : Fin 17} (h : s.issues p 0x31 w) :
    let l := s.atLoopEnd p
    let c := l.2.core p
    let d := l.2.readD p (wbits w 65 62)
    let b := d.2.useAddress p 0 (wbits w 60 58) (wbits w 57 55)
    let r := b.2.bstWrites p c (w.toNat.testBit 61) b.1 d.1
    c.portTooSoon = false → exec (.bst p) s = .next ((r.2.wrote p r.1).endCycle p l.1) := by
  intro l c d b r hs
  show execBst p s = _
  unfold execBst
  exact (arith_issues h rfl).1 _ (fun s => s) (if_neg (ne_true_of_eq_false hs))

theorem exec_bst_tooSoon {p : Fin 17} (h : s.issues p 0x31 w) (hs : ((s.atLoopEnd p).2.core p).portTooSoon = true) :
    exec (.bst p) s = .fault .undefinedInstruction := by
  show execBst p s = _
  unfold execBst
  exact (arith_issues h rfl).2 (if_pos hs)

/-! ### Returns -/

theorem core_onCore (h : risingFrom none s.chs.cores = true) (p : Nat) (f : ChiselCore → ChiselCore) :
    (s.onCore p f).core p = f (s.core p) := mget_mset_same h p _

theorem cores_onCore_rising (h : risingFrom none s.chs.cores = true) (p : Nat) (f : ChiselCore → ChiselCore) :
    risingFrom none (s.onCore p f).chs.cores = true := by
  show risingFrom none (mset _ s.chs.cores p _) = true
  rw [mset_eq]
  split
  · exact rising_mdel_none h
  · exact rising_mins_none h

/-- Traces leave the cores as they are. -/
theorem OnlyTraces.chs (h : OnlyTraces s t) : t.chs = s.chs := by
  obtain ⟨r, o, l, v, rfl⟩ := h
  rfl

/-- Core `p` takes the return `x` of a read of D register `n`, and with `bad` it reads 0. -/
abbrev State.returns (s : State) (p : Nat) (x : PortAccess) (rest : List PortAccess) (n : Nat) (bad : Bool) : State :=
  s.onCore p fun k => { k with
    port := rest, flight := insertFlight ⟨x.due, x.due - 24, 0, .d n, if bad then 0 else x.val.setWidth 160⟩ k.flight }

/-- BERR of core `p` sets with the return `x`, and the event is counted. -/
abbrev State.returnsError (s : State) (p : Nat) (x : PortAccess) : State :=
  ((s.onCore p fun k => { k with flight := insertFlight ⟨x.due, x.due - 24, 0, .berr, 0⟩ k.flight }).bump
    (whole (CHS_BERR + 0x1000 * p))).evt (0x40 + p) 3

theorem run_returns (h : risingFrom none s.chs.cores = true) (x : PortAccess) (rest : List PortAccess) (n : Nat) (bad : Bool) :
    ((s.returns p x rest n bad).core p).run = (s.core p).run := by
  rw [State.returns, core_onCore h]

theorem run_returnsError (h : risingFrom none s.chs.cores = true) (x : PortAccess) :
    ((s.returnsError p x).core p).run = (s.core p).run := by
  have ht := (onlyTraces_bump (s.onCore p fun k => { k with flight := insertFlight ⟨x.due, x.due - 24, 0, .berr, 0⟩ k.flight })
    (whole (CHS_BERR + 0x1000 * p)) 1).trans (onlyTraces_evt _ (0x40 + p) (show 3 < 32 by decide))
  rw [State.core, ht.chs]
  change ((s.onCore p _).core p).run = _
  rw [core_onCore h]

theorem exec_bankPortReturn {p : Fin 17} {x : PortAccess} {rest : List PortAccess} {n wait : Nat} {late : Bool}
    (hport : (s.core p).port = x :: rest) (hreg : x.reg = some n) (hrun : (s.core p).run = .pass)
    (h : risingFrom none s.chs.cores = true) :
    let bad := x.err || (late && decide (16 < wait))
    let t := (s.waited (0x10 + p) 0x10000000 wait).returns p x rest n bad
    exec (.bankPortReturn p late wait) s = .next (if bad then t.returnsError p x else t) := by
  intro bad t
  have hw := (onlyTraces_waited s (0x10 + p) 0x10000000 wait).chs
  have hr : risingFrom none (s.waited (0x10 + p) 0x10000000 wait).chs.cores = true := hw ▸ h
  have ht : (t.core p).run = .pass := by
    rw [run_returns hr, State.core, hw]
    exact hrun
  have hu : ((if bad then t.returnsError p x else t).core p).run = .pass := by
    split
    · rw [run_returnsError (cores_onCore_rising hr _ _)]
      exact ht
    · exact ht
  show execBankPortReturn p late wait s = _
  unfold execBankPortReturn
  rw [hport]
  dsimp only
  rw [hreg, Option.isSome_some, Bool.and_true]
  refine congrArg Host.Outcome.next (if_neg fun hidle => ?_)
  change ((if bad then t.returnsError p x else t).core p).run = .idle at hidle
  rw [hu] at hidle
  cases hidle

end

/-- Settles O31: an issue through its arithmetic slot, a return by the core's still running after the wait is counted. -/
theorem bankPort : Obligations.BankPort := by
  unfold Obligations.BankPort
  intro s p w l c a i win port
  refine ⟨fun h hsoon => ?_, fun h hsoon herr => ?_, fun x r h hsoon hinj hwin hread => ?_, fun ok t h hsoon => ?_,
    exec_bst_tooSoon, fun x rest n late wait hport hreg hrun hr => exec_bankPortReturn hport hreg hrun hr⟩
  · exact (exec_bld h).trans (by rw [bldReads_tooSoon hsoon])
  · exact (exec_bld h).trans (by rw [bldReads_error hsoon herr])
  · subst hread
    refine (exec_bld h).trans ?_
    rw [show (a.2.takeInj (0x40 + p) 3).1 = false from hinj, bldReads_word hsoon hwin]
  · intro d b hwin
    exact (exec_bst h hsoon).trans (by rw [bstWrites_eq hwin])

end Sys2Proof.Machine

/-! The check of the graph (04_truss_graph.md R69, R84 to R86). -/

namespace Sys2Proof.Machine

open Sys2Proof

section
variable {s t : State} {m c : Nat} {v : Reg32} {f g : Fld} {i : Instr}

/-! ### A field once a field is set -/

theorem fld_setFld_same (h : s.Inv) (hf : f.hi < 32) (n : Nat) : (s.setFld f n).fld f = n % 2 ^ (f.hi + 1 - f.lo) := by
  refine Nat.eq_of_testBit_eq fun b => ?_
  rw [State.fld, State.setFld, rd_wr_same h, testBit_bitsNat, Nat.testBit_mod_two_pow]
  by_cases hb : b < f.hi + 1 - f.lo
  · rw [← BitVec.getLsbD, getLsbD_putBits (by omega), if_pos (by omega), Nat.add_sub_cancel_left]
  · rw [decide_eq_false hb, Bool.false_and, Bool.false_and]

/-- Setting a field leaves those of other registers, and those of its own that share no bit with it. -/
theorem fld_setFld_ne (h : s.Inv) (hg : g.hi < 32) (hd : g.off ≠ f.off ∨ g.hi < f.lo ∨ f.hi < g.lo) (n : Nat) :
    (s.setFld f n).fld g = s.fld g := by
  rw [State.fld, State.fld, State.setFld, rd_wr h]
  split
  next he =>
    refine Nat.eq_of_testBit_eq fun b => ?_
    rw [testBit_bitsNat, testBit_bitsNat]
    by_cases hb : b < g.hi + 1 - g.lo
    · rw [← BitVec.getLsbD, getLsbD_putBits (by omega), if_neg (by omega), he]
      rfl
    · rw [decide_eq_false hb, Bool.false_and, Bool.false_and]
  next => rfl

/-! ### TRS_CHECK_CTRL (R84, R85) -/

/-- The row of TRS_CHECK_CTRL: COPY and START, and neither is staged. -/
theorem findReg_checkCtrl : ∃ r, findReg TRS_CHECK_CTRL = some r ∧ liveMask TRS_CHECK_CTRL = 0 ∧ r.rw ||| r.w1c ||| r.act = 3 := by
  refine ⟨_, rfl, ?_, ?_⟩ <;> decide +kernel

/-- A row that writes TRS_CHECK_CTRL, where it is taken. -/
theorem exec_checkCtrl (hc : s.rowWrite i = some (m, TRS_CHECK_CTRL, v)) (h : s.takesWrite m TRS_CHECK_CTRL v) :
    exec i s = .next (s.noteWrite (s.writeCheckCtrl (v &&& 3)) m) := by
  have hput : s.putReg m TRS_CHECK_CTRL v = s.writeCheckCtrl (v &&& 3) := by
    obtain ⟨r, hr, hk, hmask⟩ := findReg_checkCtrl
    obtain ⟨_, hid, _, _, _, _, _, hg, hb⟩ := h
    rw [putReg_body hid hg hb (by decide) hr, putBodyLive_unstaged hk, State.putBody, hmask]
    rfl
  rw [exec_rowWrite_taken hc h, hput]

/-- Its fields are all that a write of it acts by. -/
theorem checkCtrl_fields (v : Reg32) : (v &&& 3).toNat.testBit 0 = v.getLsbD 0 ∧
    bitsNat (v &&& 3).toNat 1 1 = bitsNat v.toNat 1 1 := by
  have hmod : (v &&& 3).toNat = v.toNat % 4 := Nat.and_two_pow_sub_one_eq_mod v.toNat 2
  refine ⟨?_, ?_⟩
  · rw [hmod, show 4 = 2 ^ 2 from rfl, Nat.testBit_mod_two_pow]
    rfl
  · simp only [bitsNat, hmod, Nat.shiftRight_eq_div_pow]
    omega

/-- A write of START where no check runs or waits begins one on COPY, or has it wait for the stage. -/
theorem writeCheckCtrl_start (h : s.Inv) (hv : v.toNat.testBit 0 = true) (hs : s.fld TRS_CHECK_CTRL_START = 0) :
    s.writeCheckCtrl v = ((s.setFld TRS_CHECK_CTRL_COPY (bitsNat v.toNat 1 1)).setFld TRS_CHECK_CTRL_START 1).onTrs fun x =>
      if s.staging then { x with checkWait := true } else { x with check := some (bitsNat v.toNat 1 1) } := by
  have ht : (s.setFld TRS_CHECK_CTRL_COPY (bitsNat v.toNat 1 1)).Inv := h.wr _ _
  have hstart : (s.setFld TRS_CHECK_CTRL_COPY (bitsNat v.toNat 1 1)).fld TRS_CHECK_CTRL_START = 0 :=
    (fld_setFld_ne h (by decide) (by decide) _).trans hs
  have hstaging : ((s.setFld TRS_CHECK_CTRL_COPY (bitsNat v.toNat 1 1)).setFld TRS_CHECK_CTRL_START 1).staging = s.staging := by
    rw [State.staging, fld_setFld_ne ht (by decide) (by decide), fld_setFld_ne h (by decide) (by decide)]
    rfl
  have hcopy : ((s.setFld TRS_CHECK_CTRL_COPY (bitsNat v.toNat 1 1)).setFld TRS_CHECK_CTRL_START 1).fld TRS_CHECK_CTRL_COPY =
      bitsNat v.toNat 1 1 := by
    rw [fld_setFld_ne ht (by decide) (by decide), fld_setFld_same h (by decide)]
    exact Nat.mod_mod _ 2
  simp only [State.writeCheckCtrl, if_pos (And.intro hv hstart), hstaging, hcopy]
  cases s.staging <;> rfl

/-! ### The check -/

theorem exec_checkBegin (hw : s.trs.checkWait = true) (hs : s.staging = false) : exec .checkBegin s =
    .next (s.onTrs fun u => { u with checkWait := false, check := some (s.fld TRS_CHECK_CTRL_COPY) }) :=
  congrArg Host.Outcome.next (if_pos ⟨hw, ne_true_of_eq_false hs⟩)

/-- The state once the check of copy `c` has ended with its result in force: START falls, and a failure sets CHECK_FAIL (R86). -/
abbrev State.checkEnds (s : State) (c : Nat) : State :=
  let r := s.checkGraph c (s.selFor c)
  let u := ((s.putCheck r).setFld TRS_CHECK_CTRL_START 0).evt 0x10 0
  if r.code = 0 then u else u.evt 0x10 1

theorem exec_checkDone (h : s.trs.check = some c) :
    exec .checkDone s = .next ((s.checkEnds c).onTrs fun x => { x with check := none }) := by
  show execCheckDone s = _
  unfold execCheckDone
  rw [h]
  rfl

theorem exec_checkDone_idle (h : s.trs.check = none) : exec .checkDone s = .next s := by
  show execCheckDone s = _
  unfold execCheckDone
  rw [h]

/-- The result is written to registers and shown by events alone. -/
theorem onlyTraces_checkEnds (s : State) (c : Nat) : OnlyTraces s (s.checkEnds c) := by
  unfold State.checkEnds
  extract_lets r u
  have hresult : OnlyTraces s (s.putCheck r) := (onlyTraces_wr s _ _).trans (onlyTraces_wr _ _ _)
  have hu : OnlyTraces s u := (hresult.trans (onlyTraces_wr _ _ _)).trans (onlyTraces_evt _ 0x10 (by decide))
  split
  · exact hu
  · exact hu.trans (onlyTraces_evt u 0x10 (by decide))

/-- A check changes no table. -/
theorem checkDone_mem (h : exec .checkDone s = .next t) : t.mem = s.mem := by
  cases hc : s.trs.check with
  | none =>
    rw [exec_checkDone_idle hc] at h
    cases h
    rfl
  | some c =>
    rw [exec_checkDone hc] at h
    cases h
    obtain ⟨_, _, _, _, e⟩ := onlyTraces_checkEnds s c
    rw [State.onTrs_mem, e]

end

/-- Settles O11: a write of TRS_CHECK_CTRL is `writeCheckCtrl`, and the check ends in `checkEnds`. -/
theorem graphCheck : Obligations.GraphCheck := by
  refine fun s => ⟨fun m v hi h hv hs => ?_, exec_checkBegin, fun c hc => exec_checkDone hc, fun t h _ => checkDone_mem h⟩
  obtain ⟨hstart, hcopy⟩ := checkCtrl_fields v
  rw [exec_checkCtrl rfl h, writeCheckCtrl_start hi (hstart.trans hv) hs, hcopy]

end Sys2Proof.Machine

/-! A write of a word of the Truss tables (04_truss_graph.md R70, R73, 06_strips_and_gain.md R125). -/

namespace Sys2Proof.Machine

open Sys2Proof

section
variable {s : State} {m a n : Nat} {d : List Byte}

/-! ### The word -/

theorem slotAt_truss {r : Bool} {f : Nat → Option Bool} (h : 0x04000000 ≤ a) (h' : a < 0x08000000) (hf : f a = some true) :
    slotAt r f a = .truss a := by
  unfold slotAt
  iterate 2 rw [if_neg (by omega)]
  rw [if_pos ⟨h, h'⟩, hf]

/-- The tables hold no meter and no count. -/
theorem not_isMeter (h : a < 0x07000000) : isMeter a = false := by
  rw [isMeter, decide_eq_false (by omega), Bool.false_and]

theorem not_isAbsent (h : a < 0x07000000) : isAbsent a = false := by
  rw [isAbsent, decide_eq_false (by omega), Bool.false_and]

/-- The word that a write of a whole slot leaves, its reserved bits dropped (R5). -/
abbrev tableWord (a : Nat) (d : List Byte) : Word := BitVec.ofNat 72 (leNat (d.take 9)) &&& BitVec.ofNat 72 (trussMask a)

/-- A write of a whole slot of the copy that is not live stores its word. -/
theorem trussWrite_stored (h : a < 0x07000000) (hl : 9 ≤ d.length) (hlive : s.inLive a = false) :
    s.trussWrite m a 0 d n = (true, s.setWord a (tableWord a d)) := by
  have hfull : fullSlot 0 d = true := by simp [fullSlot, hl]
  simp [State.trussWrite, not_isMeter h, hfull, slotPattern_whole hl, State.trussKeep, not_isAbsent h, hlive]

/-- The state once the word `w` is written at `a` of the live copy: the indices in progress go on with the word that was there
(R73), and a write that changes MUTE is one of the fader too (R125). -/
abbrev State.writeLive (s : State) (a : Nat) (w : Word) : State :=
  let t := ((s.setWord a w).holdWord a (s.word a)).liveWrote a
  if isWord0 a ∧ dMute (s.word a) ≠ dMute w then t.liveWrote (a + 0x20) else t

theorem crn_writeLive (s : State) (a : Nat) (w : Word) : (s.writeLive a w).crn = s.crn := by
  unfold State.writeLive
  extract_lets t
  split <;> rfl

/-- A write of a whole slot of the live copy, no scene being staged or armed. -/
theorem trussWrite_live (h : a < 0x07000000) (hl : 9 ≤ d.length) (hlive : s.inLive a = true) (hplan : s.crn.plan = none) :
    s.trussWrite m a 0 d n = (true, s.writeLive a (tableWord a d)) := by
  have hfull : fullSlot 0 d = true := by simp [fullSlot, hl]
  have hnone : (s.writeLive a (tableWord a d)).crn.plan = none := (congrArg Cairn.plan (crn_writeLive s a _)).trans hplan
  simp only [State.trussWrite, not_isMeter h, hfull, slotPattern_whole hl, State.trussKeep, not_isAbsent h, hlive, hnone,
    Bool.false_eq_true, false_and, if_false, if_true, not_true_eq_false]

/-! ### The access -/

/-- A write of one slot that is taken is that of its Truss word. -/
theorem exec_trussLiveWrite {t : State} (ht : s.takesAccess m a d) (hm : masterReaches m a (.truss a) = true) (h16 : a % 16 = 0)
    (h : 0x04000000 ≤ a) (h' : a < 0x08000000) (hw : trussWord a = some true) (hd : d.length = 16)
    (hput : s.trussWrite m a 0 d d.length = (true, t)) : exec (.trussLiveWrite m a d) s = .next (s.noteWrite t m) := by
  have hk {r : Bool} : slotAt r trussWord a = .truss a := slotAt_truss h h' hw
  refine congrArg Host.Outcome.next ((hostBytes_taken ht).trans (congrArg (s.noteWrite · m) ?_))
  refine putAccess_slot_done (isReg_above (by omega)) ?_ h16 (by simp [slotShape, hd, h16]) (Nat.le_of_eq hd) ?_
  · rw [State.nowhere, hk]
    rfl
  · rw [State.putSlot, hk, hm]
    exact hput

end

/-- Settles O36: the access is the write of one Truss word, of the live copy or of the other. -/
theorem trussWordWritten : Obligations.TrussWordWritten := by
  intro s m a d ht hm h16 h h' hw hd w
  have hexec {t : State} := exec_trussLiveWrite (t := t) ht hm h16 h (by omega) hw hd
  exact ⟨fun hlive => hexec (trussWrite_stored h' (by omega) hlive),
    fun hlive hplan => hexec (trussWrite_live h' (by omega) hlive hplan)⟩

end Sys2Proof.Machine

/-! The invariant of every step (05_truss_schedule.md R92, 02_register_space.md R25): each command keeps it by its law of
Laws/Keep*.lean. -/

namespace Sys2Proof.Machine

open Sys2Proof

section
variable {s t : State} {p : List Instr} {κ : Kept}

/-- Every command keeps the queue and the invariant. -/
theorem exec_ok (h : Ok p κ s) [MayMode κ] [MayIdx κ] [MayMem κ] [MayFlips κ] [MayTime κ] [MayFwd κ] [MaySys κ] [MayTrs κ]
    [MayChs κ] [MayBnk κ] [MayCrn κ] [MayPrt κ] [MayPlb κ] [MayNet κ] [MayMlt κ] [MayTyd κ] [MayBly κ] (c : Instr) :
    OkR p κ (exec c s) := by
  cases c with
  | sampleTick => exact execSampleTick_ok h
  | samplePresent => exact execSamplePresent_ok h
  | presenceDeadline => exact execPresenceDeadline_ok h
  | itemIssue => exact execItemIssue_ok h
  | itemComplete => exact execItemComplete_ok h
  | consumerTake => exact execConsumerTake_ok h
  | duckHoldExpire => exact execDuckHoldExpire_ok h
  | zcForced => exact execZcForced_ok h
  | changeoverSwitch => exact execChangeoverSwitch_ok h
  | delayFillEnd => exact execDelayFillEnd_ok h
  | stripStop => exact execStripStop_ok h
  | batchEnd => exact execBatchEnd_ok h
  | sourceRampEnd => exact execSourceRampEnd_ok h
  | sinkRampEnd => exact execSinkRampEnd_ok h
  | laneFault => exact execLaneFault_ok h
  | spareJoined => exact execSpareJoined_ok h
  | pairLaneChange => exact execPairLaneChange_ok h
  | regWrite => exact execRegWrite_ok h
  | rcRead => exact execRcRead_ok h
  | wordWrite => exact execWordWrite_ok h
  | trussLiveWrite => exact execTrussLiveWrite_ok h
  | aliasSetWrite => exact execAliasSetWrite_ok h
  | aliasClearWrite => exact execAliasClearWrite_ok h
  | eccWriteback => exact execEccWriteback_ok h
  | pgFence => exact execPgFence_ok h
  | pgInj => exact execPgInj_ok h
  | softReset => exact execSoftReset_ok h
  | softResetDone => exact execSoftResetDone_ok h
  | warmReset => exact execWarmReset_ok h
  | remap => exact execRemap_ok h
  | blow => exact execBlow_ok h
  | blowDone => exact execBlowDone_ok h
  | sense => exact execSense_ok h
  | senseDone => exact execSenseDone_ok h
  | mspiWrite => exact execMspiWrite_ok h
  | mspiRead => exact execMspiRead_ok h
  | mspiStatus => exact execMspiStatus_ok h
  | checkStart => exact execCheckStart_ok h
  | checkBegin => exact execCheckBegin_ok h
  | checkDone => exact execCheckDone_ok h
  | crnDoorbell => exact execCrnDoorbell_ok h
  | cplWaitEnd => exact execCplWaitEnd_ok h
  | cairnNop => exact execCairnNop_ok h
  | store => exact execStore_ok h
  | stage => exact execStage_ok h
  | commit => exact execCommit_ok h
  | abort => exact execAbort_ok h
  | commitFlip => exact execCommitFlip_ok h
  | changingEnd => exact execChangingEnd_ok h
  | stageDigestTimeout => exact execStageDigestTimeout_ok h
  | crnStoreCtrl => exact execCrnStoreCtrl_ok h
  | passStart => exact execPassStart_ok h
  | passSkip => exact execPassSkip_ok h
  | passStop => exact execPassStop_ok h
  | timerRequest => exact execTimerRequest_ok h
  | interruptEntry => exact execInterruptEntry_ok h
  | chsDoorbell => exact execChsDoorbell_ok h
  | bankPortReturn => exact execBankPortReturn_ok h
  | chsReset => exact execChsReset_ok h
  | resetCopyDone => exact execResetCopyDone_ok h
  | resetProgramOverrun => exact execResetProgramOverrun_ok h
  | coreFault => exact execCoreFault_ok h
  | migrateDone => exact execMigrateDone_ok h
  | deferredMemWrite => exact execDeferredMemWrite_ok h
  | nop => exact execNop_ok h
  | halt => exact execHalt_ok h
  | rti => exact execRti_ok h
  | br => exact execBr_ok h
  | brl => exact execBrl_ok h
  | brp => exact execBrp_ok h
  | loop => exact execLoop_ok h
  | loopd => exact execLoopd_ok h
  | loopEnd => exact execLoopEnd_ok h
  | movri => exact execMovri_ok h
  | movrd => exact execMovrd_ok h
  | movdr => exact execMovdr_ok h
  | stset => exact execStset_ok h
  | stclr => exact execStclr_ok h
  | ldi => exact execLdi_ok h
  | dmov => exact execDmov_ok h
  | dcmp => exact execDcmp_ok h
  | dtst => exact execDtst_ok h
  | dmax => exact execDmax_ok h
  | dmin => exact execDmin_ok h
  | dand => exact execDand_ok h
  | dor => exact execDor_ok h
  | dxor => exact execDxor_ok h
  | macq => exact execMacq_ok h
  | macd => exact execMacd_ok h
  | accd => exact execAccd_ok h
  | clra => exact execClra_ok h
  | accmov => exact execAccmov_ok h
  | accsh => exact execAccsh_ok h
  | ext => exact execExt_ok h
  | accrd => exact execAccrd_ok h
  | accwr => exact execAccwr_ok h
  | bld => exact execBld_ok h
  | bst => exact execBst_ok h
  | ld => exact execLd_ok h
  | st => exact execSt_ok h
  | lda => exact execLda_ok h
  | sta => exact execSta_ok h
  | upd => exact execUpd_ok h
  | iold => exact execIold_ok h
  | iost => exact execIost_ok h
  | memBankState => exact execMemBankState_ok h
  | stateDone => exact execStateDone_ok h
  | regionTest => exact execRegionTest_ok h
  | regionTestDone => exact execRegionTestDone_ok h
  | replacementDone => exact execReplacementDone_ok h
  | scrubAccess => exact execScrubAccess_ok h
  | portSideEnable => exact execPortSideEnable_ok h
  | portSideDisable => exact execPortSideDisable_ok h
  | started => exact execStarted_ok h
  | stopped => exact execStopped_ok h
  | slotComplete => exact execSlotComplete_ok h
  | tdmSlotTake => exact execTdmSlotTake_ok h
  | trimLimit => exact execTrimLimit_ok h
  | clkLoss => exact execClkLoss_ok h
  | clockReturn => exact execClockReturn_ok h
  | aesFrameReceive => exact execAesFrameReceive_ok h
  | aesTxFrame => exact execAesTxFrame_ok h
  | csLoad => exact execCsLoad_ok h
  | usLoad => exact execUsLoad_ok h
  | freqGate => exact execFreqGate_ok h
  | refLoss => exact execRefLoss_ok h
  | refQual => exact execRefQual_ok h
  | switchRef => exact execSwitchRef_ok h
  | wtrExpire => exact execWtrExpire_ok h
  | lock => exact execLock_ok h
  | controlAverage => exact execControlAverage_ok h
  | outOfSpec => exact execOutOfSpec_ok h
  | loopOpen => exact execLoopOpen_ok h
  | plbSynFreq => exact execPlbSynFreq_ok h
  | rate => exact execRate_ok h
  | hostSet => exact execHostSet_ok h
  | rearm => exact execRearm_ok h
  | tickLatchRead => exact execTickLatchRead_ok h
  | timeRead => exact execTimeRead_ok h
  | arm => exact execArm_ok h
  | stop => exact execStop_ok h
  | fired => exact execFired_ok h
  | pulseEnd => exact execPulseEnd_ok h
  | captured => exact execCaptured_ok h
  | ethFrameReceive => exact execEthFrameReceive_ok h
  | arpAge => exact execArpAge_ok h
  | ptpMessage => exact execPtpMessage_ok h
  | ptpSend => exact execPtpSend_ok h
  | esmcPdu => exact execEsmcPdu_ok h
  | esmcSend => exact execEsmcSend_ok h
  | aes67PacketReceive => exact execAes67PacketReceive_ok h
  | aes67PacketSend st => exact execAes67PacketSend_ok (s := s) (a1 := st) h
  | streamOpen => exact execStreamOpen_ok h
  | streamClose => exact execStreamClose_ok h
  | sweep => exact execSweep_ok h
  | sweepAbort => exact execSweepAbort_ok h
  | tetherIn => exact execTetherIn_ok h
  | tetherWritePoint => exact execTetherWritePoint_ok h
  | tetherResendPoint => exact execTetherResendPoint_ok h
  | tetherAck => exact execTetherAck_ok h
  | swpRpt => exact execSwpRpt_ok h
  | channelEnable => exact execChannelEnable_ok h
  | channelDisable => exact execChannelDisable_ok h
  | channelStart => exact execChannelStart_ok h
  | stopRampEnd => exact execStopRampEnd_ok h
  | loopUpdate => exact execLoopUpdate_ok h
  | limit => exact execLimit_ok h
  | flt => exact execFlt_ok h
  | senseLoss => exact execSenseLoss_ok h
  | retryWaitEnd => exact execRetryWaitEnd_ok h
  | retryClear => exact execRetryClear_ok h
  | clear => exact execClear_ok h
  | diagCmdStart => exact execDiagCmdStart_ok h
  | diagTestStep => exact execDiagTestStep_ok h
  | diagDone => exact execDiagDone_ok h
  | reEstimate => exact execReEstimate_ok h
  | impedanceSweepStart => exact execImpedanceSweepStart_ok h
  | sweepPointDone => exact execSweepPointDone_ok h
  | sweepDone => exact execSweepDone_ok h
  | senseOffsetCal => exact execSenseOffsetCal_ok h
  | mount => exact execMount_ok h
  | mounted => exact execMounted_ok h
  | checkpoint => exact execCheckpoint_ok h
  | pageProgramDone => exact execPageProgramDone_ok h
  | pageReadDone => exact execPageReadDone_ok h
  | relocationDone => exact execRelocationDone_ok h
  | segmentRefresh => exact execSegmentRefresh_ok h
  | go => exact execGo_ok h
  | playbackStop => exact execPlaybackStop_ok h
  | playbackStart => exact execPlaybackStart_ok h
  | exportStart => exact execExportStart_ok h
  | exportDone => exact execExportDone_ok h
  | exportAbort => exact execExportAbort_ok h
  | libImport => exact execLibImport_ok h
  | libDelete => exact execLibDelete_ok h
  | archivePut => exact execArchivePut_ok h
  | archiveGet => exact execArchiveGet_ok h
  | format => exact execFormat_ok h
  | tickFrame => exact execTickFrame_ok h
  | writeFrame => exact execWriteFrame_ok h
  | commandFrame => exact execCommandFrame_ok h
  | presence => exact execPresence_ok h
  | patchReq => exact execPatchReq_ok h
  | patch => exact execPatch_ok h
  | decision => exact execDecision_ok h
  | stageDigest => exact execStageDigest_ok h
  | resign => exact execResign_ok h
  | swapFrame _ port => exact execSwapFrame_ok (a2 := port) h
  | nak => exact execNak_ok h
  | snap => exact execSnap_ok h
  | joinReq => exact execJoinReq_ok h
  | joinAck => exact execJoinAck_ok h
  | retransmit => exact execRetransmit_ok h
  | hbInEdge => exact execHbInEdge_ok h
  | hbOutToggle => exact execHbOutToggle_ok h
  | pathFault => exact execPathFault_ok h
  | peerReturn => exact execPeerReturn_ok h
  | takeover => exact execTakeover_ok h
  | fallback => exact execFallback_ok h
  | actInRise => exact execActInRise_ok h
  | actInFall => exact execActInFall_ok h
  | seniorReassert => exact execSeniorReassert_ok h
  | resignation => exact execResignation_ok h
  | resignWrite => exact execResignWrite_ok h
  | holdEnd => exact execHoldEnd_ok h
  | swapStart => exact execSwapStart_ok h
  | swapSkipped => exact execSwapSkipped_ok h
  | swapExecute => exact execSwapExecute_ok h
  | swap => exact execSwap_ok h
  | join => exact execJoin_ok h
  | resyncStart => exact execResyncStart_ok h
  | snapshotDone => exact execSnapshotDone_ok h
  | joinDone => exact execJoinDone_ok h
  | descentAutoJoin => exact execDescentAutoJoin_ok h
  | laneChange => exact execLaneChange_ok h
  | trainFail => exact execTrainFail_ok h
  | fastExit => exact execFastExit_ok h
  | laneDown => exact execLaneDown_ok h
  | pairPers => exact execPairPers_ok h
  | linkDown => exact execLinkDown_ok h
  | laneTest => exact execLaneTest_ok h
  | telRec => exact execTelRec_ok h
  | sensorUpdate => exact execSensorUpdate_ok h
  | synthCal => exact execSynthCal_ok h
  | svcLate => exact execSvcLate_ok h
  | supplyFault => exact execSupplyFault_ok h
  | powerOnReset => exact execPowerOnReset_ok h
  | perstReset => exact execPerstReset_ok h
  | sysReset => exact execSysReset_ok h
  | resetExit => exact execResetExit_ok h
  | bootGo => exact execBootGo_ok h
  | bootDone => exact execBootDone_ok h
  | wdtKick => exact execWdtKick_ok h
  | wdtCtrl => exact execWdtCtrl_ok h
  | wdtWarn => exact execWdtWarn_ok h
  | watchdogExpiry => exact execWatchdogExpiry_ok h
  | modeReqConfig => exact execModeReqConfig_ok h
  | modeReqActive => exact execModeReqActive_ok h
  | modeReqStandby => exact execModeReqStandby_ok h
  | modeReqService => exact execModeReqService_ok h
  | reqDone => exact execReqDone_ok h
  | pwrIslReq => exact execPwrIslReq_ok h
  | islDone => exact execIslDone_ok h
  | descent => exact execDescent_ok h
  | descentFlushDone => exact execDescentFlushDone_ok h
  | announceReceiptTimeout => exact execAnnounceReceiptTimeout_ok h
  | esmcPduTimeout => exact execEsmcPduTimeout_ok h
  | supplyInRange => exact execSupplyInRange_ok h
  | powerFailDeassert => exact execPowerFailDeassert_ok h
  | joinLockTimeout => exact execJoinLockTimeout_ok h
  | carrierPeakOrValley => exact execCarrierPeakOrValley_ok h
  | externalFrameStart => exact execExternalFrameStart_ok h
  | belayCrcError => exact execBelayCrcError_ok h

theorem exec_keeps_inv {c : Instr} (h : s.Inv) (e : exec c s = .next t) : t.Inv :=
  (ok_of_next (@exec_ok _ _ {} (ok_free h) ⟨rfl⟩ ⟨rfl⟩ ⟨rfl⟩ ⟨rfl⟩ ⟨rfl⟩ ⟨rfl⟩ ⟨rfl⟩ ⟨rfl⟩ ⟨rfl⟩ ⟨rfl⟩ ⟨rfl⟩ ⟨rfl⟩ ⟨rfl⟩ ⟨rfl⟩ ⟨rfl⟩
    ⟨rfl⟩ ⟨rfl⟩ c) e).inv

end

/-- Settles O2: an idle step changes nothing, and the others run a command, which keeps the invariant (`exec_keeps_inv`); the
invariant does not speak of the queue. -/
theorem invariantKept : Obligations.InvariantKept := by
  intro s t h e
  unfold step at e
  split at e
  case h_1 => exact Host.Outcome.next.inj e ▸ h
  case h_2 c rest _ =>
    have hrest : ({ s with pending := rest } : State).Inv := h
    exact exec_keeps_inv hrest e

end Sys2Proof.Machine

/-! A sample tick at which a warm reset waits among the live writes (05_truss_schedule.md R92, 02_register_space.md R45,
06_strips_and_gain.md R140). No command puts a write of SYS_CTRL there, as only fields that scenes stage wait for a tick; but the
invariant does not bound what waits. -/

namespace Sys2Proof.Machine

open Sys2Proof

section
variable {s : State} {v : Reg32}

/-! ### Writes of SYS_CTRL (R45) -/

theorem findReg_sysCtrl : ∃ r, findReg SYS_CTRL = some r ∧ liveMask SYS_CTRL = 0 ∧ r.rw ||| r.w1c ||| r.act = 0xFF03 := by
  refine ⟨_, rfl, ?_, ?_⟩ <;> decide +kernel

/-- A write of SYS_CTRL resets, or leaves REMAP alone to be read. -/
theorem writeSysCtrl_cases (s : State) (v : Reg32) : (s.writeSysCtrl v).mode = .reset ∨
    s.writeSysCtrl v = s.wr SYS_CTRL ((s.rd SYS_CTRL ||| v) &&& 1) := by
  unfold State.writeSysCtrl
  extract_lets s1
  split
  · exact .inl (enterReset_mode _ _ _)
  · exact .inr rfl

theorem writeSysCtrl_key (hd : s.descending = false) (hv : v.getLsbD 1 = true) (hk : bitsNat v.toNat 15 8 = 0xA7) :
    (s.writeSysCtrl v).mode = .reset := by
  have hd' : ¬ (s.wr SYS_CTRL ((s.rd SYS_CTRL ||| v) &&& 1)).descending = true := Bool.eq_false_iff.1 hd
  rw [State.writeSysCtrl, if_pos ⟨hv, hk, hd'⟩]
  exact enterReset_mode _ _ _

theorem writeSysCtrl_in_reset (h : s.mode = .reset) : (s.writeSysCtrl v).mode = .reset := by
  rcases writeSysCtrl_cases s v with e | e
  · exact e
  · rw [e]
    exact h

/-! ### The live writes that waited -/

/-- Two writes of SYS_CTRL wait: one of 0, and one of WARM_RESET with its key. -/
def resetWaits : List (Nat × Reg32) := [(SYS_CTRL, 0), (SYS_CTRL, 0xA702)]

/-- The write of SYS_CTRL that takes `x` over what the register reads. -/
def State.rewriteSysCtrl (s : State) (x : Reg32) : State := s.writeSysCtrl ((s.rd SYS_CTRL ||| x) &&& 0xFF03)

theorem takeLive_resetWaits (h : s.crn.live = resetWaits) :
    s.takeLive = ((s.onCrn fun c => { c with live := [] }).rewriteSysCtrl 0).rewriteSysCtrl 0xA702 := by
  obtain ⟨r, hr, hk, hm⟩ := findReg_sysCtrl
  have hg (s : State) : s.pageGated (SYS_CTRL / 0x1000) = false := rfl
  have hw (s : State) (x : Reg32) : s.putBody 0 SYS_CTRL r ((s.rd SYS_CTRL &&& ~~~BitVec.ofNat 32 0) ||| x) =
      s.rewriteSysCtrl x := by
    rw [State.putBody, hm, show ~~~BitVec.ofNat 32 0 = BitVec.allOnes 32 from rfl, BitVec.and_allOnes]
    rfl
  simp only [State.takeLive, h, resetWaits, List.foldl, hr, hk, hg, hw, Bool.false_eq_true, if_false]

/-- Over REMAP alone, the second write is WARM_RESET with its key. -/
theorem resetKey_over_remap (y : Reg32) : (((y &&& 1) ||| 0xA702) &&& 0xFF03 : Reg32).getLsbD 1 = true ∧
    bitsNat (((y &&& 1) ||| 0xA702) &&& 0xFF03 : Reg32).toNat 15 8 = 0xA7 := by
  have hy : y &&& 1 = 0 ∨ y &&& 1 = 1 := by
    have hmod : (y &&& 1).toNat = y.toNat % 2 := Nat.and_two_pow_sub_one_eq_mod y.toNat 1
    exact (Nat.mod_two_eq_zero_or_one y.toNat).imp (fun e => BitVec.eq_of_toNat_eq (hmod.trans e))
      fun e => BitVec.eq_of_toNat_eq (hmod.trans e)
  rcases hy with hy | hy <;> rw [hy] <;> decide

/-- The first of the two writes clears what stands in the key's place, or resets; the second resets. -/
theorem takeLive_resets (h : s.Inv) (hl : s.crn.live = resetWaits) (hd : s.descending = false) : s.takeLive.mode = .reset := by
  rw [takeLive_resetWaits hl]
  generalize hs : (s.onCrn fun c => { c with live := [] }) = s1
  have h1 : s1.Inv := hs ▸ h
  have hd1 : s1.descending = false := hs ▸ hd
  rcases writeSysCtrl_cases s1 ((s1.rd SYS_CTRL ||| 0) &&& 0xFF03) with e | e
  · exact writeSysCtrl_in_reset e
  · rw [show s1.rewriteSysCtrl 0 = _ from e, State.rewriteSysCtrl, rd_wr_same h1]
    have hv := resetKey_over_remap (s1.rd SYS_CTRL ||| (s1.rd SYS_CTRL ||| 0) &&& 0xFF03)
    exact writeSysCtrl_key hd1 hv.1 hv.2

/-! ### The tick -/

/-- What a tick does before the writes of its tag. -/
def State.tickStart (s : State) : State := ({ s.endIndex with idx := nextIdx s.endIndex.idx } : State).rateTick

theorem fullTick_eq (s : State) : s.fullTick = (s.tickStart.beginIndex.latchTick.captureOn 4 none).unitTick.resignLost := rfl

theorem advance_mode_bly (h : s.Inv) (cycles : Nat) : (s.advance cycles).mode = s.mode ∧ (s.advance cycles).bly = s.bly := by
  have hs : Ok s.pending { mode := some s.mode, bly := some s.bly } s :=
    ⟨rfl, h, { (ok_free h).kept with mode := fun _ => Option.some.inj, bly := fun _ => Option.some.inj }⟩
  have hk := (@State.advance_ok _ _ s hs ⟨rfl⟩ ⟨rfl⟩ cycles).kept
  exact ⟨hk.mode _ rfl, hk.bly _ rfl⟩

/-- A tick of an engine that is not in RESET and does not join. -/
theorem exec_sampleTick (h : s.Inv) (hm : s.mode ≠ .reset) (hj : s.bly.joining = false) (cycles : Nat) :
    exec (.sampleTick cycles) s = .next (s.advance cycles).fullTick := by
  obtain ⟨hmode, hbly⟩ := advance_mode_bly h cycles
  have hr : ¬ (s.advance cycles).resyncing = true := by
    rw [State.resyncing, hbly, hj]
    exact Bool.false_ne_true
  refine congrArg Host.Outcome.next ?_
  rw [if_neg hm, if_neg (hmode.symm ▸ hm), if_neg hr]

theorem nextIdx_ok {p : List Instr} {κ : Kept} (h : Ok p κ s) [MayIdx κ] : Ok p κ { s with idx := nextIdx s.idx } :=
  ok_idx h (nextIdx_lt _)

theorem ok_of_waits (h : s.Inv) : Ok s.pending { fwd := some s.fwd, sys := some s.sys, crn := some s.crn } s :=
  ⟨rfl, h, { (ok_free h).kept with
    fwd := fun _ => Option.some.inj
    sys := fun _ => Option.some.inj
    crn := fun _ => Option.some.inj }⟩

/-- The start of a tick leaves what waits for it, and a Descent. -/
theorem tickStart_waits (h : s.Inv) (cycles : Nat) : (s.advance cycles).tickStart.Inv ∧
    (s.advance cycles).tickStart.fwd = s.fwd ∧ (s.advance cycles).tickStart.sys = s.sys ∧
    (s.advance cycles).tickStart.crn = s.crn := by
  have law {p : List Instr} {κ : Kept} [MayIdx κ] [MayMem κ] [MayFlips κ] [MayTime κ] [MayTrs κ] [MayChs κ] [MayPlb κ]
      [MayTyd κ] [MayBly κ] (h : Ok p κ s) : Ok p κ (s.advance cycles).tickStart :=
    State.rateTick_ok (nextIdx_ok (State.endIndex_ok (State.advance_ok h)))
  have ht := @law _ _ ⟨rfl⟩ ⟨rfl⟩ ⟨rfl⟩ ⟨rfl⟩ ⟨rfl⟩ ⟨rfl⟩ ⟨rfl⟩ ⟨rfl⟩ ⟨rfl⟩ (ok_of_waits h)
  exact ⟨ht.inv, ht.kept.fwd _ rfl, ht.kept.sys _ rfl, ht.kept.crn _ rfl⟩

/-- An index that begins with the reset waiting, and no access, ends in RESET what else its tick does. -/
theorem beginIndex_resets (h : s.Inv) (hf : s.fwd = []) (hl : s.crn.live = resetWaits) (hd : s.descending = false) :
    (s.beginIndex.latchTick.captureOn 4 none).unitTick.mode = .reset := by
  have hdrain : s.drain = s := by
    rw [State.drain, hf]
    rfl
  have k : KeepsMode s.drain.takeLive (s.beginIndex.latchTick.captureOn 4 none).unitTick := fun h =>
    State.unitTick_ok (State.captureOn_ok (State.latchTick_ok (State.tryFinal_ok (State.settle_ok (State.openLive_ok h)))))
  rw [hdrain] at k
  exact (k.mode (Drifts.refl h).takeLive.inv).trans (takeLive_resets h hl hd)

theorem resignLost_in_reset (h : s.mode = .reset) : s.resignLost.mode = .reset := by
  have hr : s.resign 1 = s := by simp [State.resign, h]
  rw [State.resignLost, hr, ite_self, h]

/-- A tick for which the reset waits ends in RESET. -/
theorem fullTick_resets (h : s.Inv) (cycles : Nat) (hf : s.fwd = []) (hl : s.crn.live = resetWaits)
    (hd : s.descending = false) : (s.advance cycles).fullTick.mode = .reset := by
  obtain ⟨hi, hfwd, hsys, hcrn⟩ := tickStart_waits h cycles
  have hdesc : (s.advance cycles).tickStart.descending = false := by rw [State.descending, hsys]; exact hd
  rw [fullTick_eq]
  exact resignLost_in_reset (beginIndex_resets hi (hfwd.trans hf) ((congrArg Cairn.live hcrn).trans hl) hdesc)

end

/-- A configured machine in which nothing waits for the tick but the two writes of SYS_CTRL. -/
def resetAtTick : State := { State.reset with mode := .config, crn := { State.reset.crn with live := resetWaits } }

/-- Refutes O7: the statement takes any state that meets the invariant, which says nothing of the live writes that wait. In
`resetAtTick` a tick performs a warm reset, so that the mode is RESET after it and no longer CONFIG. -/
theorem not_samplesComeIn : ¬ Obligations.SamplesComeIn := by
  rintro ⟨htick, -, -⟩
  have hi : resetAtTick.Inv := ⟨rfl, rfl, by decide⟩
  have he := exec_sampleTick hi (by decide) rfl 0
  obtain ⟨t, e, -, hm⟩ := htick resetAtTick 0 hi (by decide) rfl rfl
  have hreset : t.mode = .reset :=
    Host.Outcome.next.inj (he.symm.trans e) ▸ fullTick_resets hi 0 rfl rfl rfl
  rcases hm with hm | ⟨hm, -⟩
  · exact absurd (hreset.symm.trans hm) (by decide)
  · exact absurd hm (by decide)

end Sys2Proof.Machine

/-! Items of the scheduler and takes (05_truss_schedule.md R92, R94, R95): an item issues to a slot, an item completes, and a
Mallet channel takes its sink's value. -/

namespace Sys2Proof.Machine

open Sys2Proof

section
variable {s : State} {lane slot k n ns : Nat} {i : Item} {t : Tick}

/-! ### Issue (R94) -/

/-- A free slot of a working lane takes the first ready item that it may. -/
theorem issue_picked (hs : mfind s.trs.slots (4 * lane + slot) = none) (hp : pickItem slot s.trs.ready = some i)
    (hw : s.laneWorks lane = true) : s.issue lane slot = s.onTrs fun u => { u with
      ready := u.ready.filter fun j => !(j.kind = i.kind ∧ j.idx = i.idx)
      slots := mins u.slots (4 * lane + slot) i } := by
  rw [State.issue, hs, hp]
  exact if_pos hw

/-- No other slot takes an item. -/
theorem issue_none (h : s.laneWorks lane = false ∨ (mfind s.trs.slots (4 * lane + slot)).isSome = true ∨
    pickItem slot s.trs.ready = none) : s.issue lane slot = s := by
  unfold State.issue
  split
  next hs hp =>
    rcases h with h | h | h
    · simp [h]
    · simp [hs] at h
    · simp [hp] at h
  next => rfl

/-! ### Completion (R92, R95) -/

/-- The state in which the item in a slot does its work: the slot is free, and the latest time named has moved on. -/
abbrev State.vacate (s : State) (slot ns : Nat) : State :=
  s.onTrs fun u => { u with slots := mdel u.slots slot, now := max u.now ns }

/-- An item of an open tick, not a reissued one, completes with its work, after which others may be ready. -/
theorem complete_open (hs : mfind s.trs.slots (4 * lane + slot) = some i) (hr : i.reissued = false) (ht : s.tick i.idx = some t) :
    s.complete lane slot ns = ((s.vacate (4 * lane + slot) ns).perform t i ns).promote := by
  have ht' : (s.vacate (4 * lane + slot) ns).tick i.idx = some t := ht
  simp only [State.complete, hs, ht', hr, Bool.false_eq_true, if_false]

theorem perform_head {g : Nat} (hk : i.kind = .head g) (hc : (s.runHead (s.work t).f t g ns).1.clip = false) :
    s.perform t i ns = (s.runHead (s.work t).f t g ns).2.onTick i.idx fun k => { k with
      heads := mins k.heads g (s.runHead (s.work t).f t g ns).1 } := by
  simp only [State.perform, hk, hc, Bool.false_and, Bool.false_eq_true, if_false]

theorem perform_strip {g : Nat} {r : Done} {u : State} (hk : i.kind = .strip g ∨ i.kind = .tail g) (hg : isOutput g = false)
    (hr : s.runStrip (s.work t).f t i.kind ns = (some r, u)) : s.perform t i ns = u.onTick i.idx fun k => { k with
      outs := mins k.outs g r
      gains := ((s.work t).f.outGains (s.work t).es g i.idx (mget 0 s.trs.prevOut g) r.v).foldl (fun m p => mins m p.1 p.2)
        k.gains } := by
  rcases hk with hk | hk <;> rw [hk] at hr <;> simp only [State.perform, hk, hr, hg, Bool.false_eq_true, if_false]

theorem perform_batch {g c e : Nat} {b : Nat × List Nat} (hk : i.kind = .batch g c e)
    (hb : ((batches (s.work t).es g).find? fun (b : Nat × List Nat) => b.1 == c && b.2.headD 0 == e) = some b) :
    s.perform t i ns = s.onTick i.idx fun k => { k with deposits := k.deposits ++ b.2 } := by
  simp only [State.perform, hk, hb]

/-! ### Takes (R95) -/

theorem takeSink_staged {v : Word} (h : s.staged k n = some v) : s.takeSink k n = (v, s) := by
  rw [State.takeSink, h]

/-- What was not staged is 0, and late where something drives the sink. -/
theorem takeSink_unstaged (h : s.staged k n = none) : s.takeSink k n = (0, if (s.fabAt n).sinkDriven k n then
    ((s.count 2 k 0 1).bump (whole TRS_LATE_OUT)).evt 0x11 8 else s) := by
  rw [State.takeSink, h]

/-- The consumer of a Mallet sink is its channel. -/
theorem exec_consumerTake_mallet (c : Fin 64) (n : Idx) :
    exec (.consumerTake ⟨1056 + c.val, by omega⟩ n) s = .next (s.mltTake c n.toNat) := by
  have h : ¬ (1056 + c.val < 512) ∧ ¬ (1056 + c.val < 544) ∧ ¬ (1056 + c.val < 1056) ∧ 1056 + c.val < 1120 := by omega
  obtain ⟨h1, h2, h3, h4⟩ := h
  refine congrArg Host.Outcome.next ?_
  rw [if_neg h1, if_neg h2, if_neg h3, if_pos h4, Nat.add_sub_cancel_left]

theorem mltTake_off {c : Nat} (h : s.powered 21 = false) : s.mltTake c n = s := if_pos (by simp [h])

/-- A channel whose island is powered drives what it took. -/
theorem mltTake_on {c : Nat} {v : Word} {t : State} (h : s.powered 21 = true) (ht : s.takeSink (1056 + c) n = (v, t)) :
    s.mltTake c n = t.onChan c fun k => { k with drive := v } := by
  rw [State.mltTake, if_neg (not_not_intro h), ht]

end

/-- Settles O8: the slot's item by the two cases of an issue, the work of each kind of item as it completes, and the take of a
Mallet channel by what is staged. -/
theorem itemsRun : Obligations.ItemsRun := by
  refine ⟨fun s lane slot => ⟨fun i hs hp hw => congrArg _ (issue_picked hs hp hw), fun h => congrArg _ (issue_none h)⟩,
    fun s lane slot ns i t hs hr ht => ?_, fun s c n v => ?_⟩
  · intro s1 w
    have hc {u : State} (h : s1.perform t i ns = u) : exec (.itemComplete lane slot ns) s = .next u.promote :=
      congrArg Host.Outcome.next ((complete_open hs hr ht).trans (congrArg _ h))
    exact ⟨fun g hk hclip => hc (perform_head hk hclip), fun g r u hk hg hrun => hc (perform_strip hk hg hrun),
      fun g c e b hk hb => hc (perform_batch hk hb)⟩
  · intro take
    have ht : take = .next (s.mltTake c n.toNat) := exec_consumerTake_mallet c n
    refine ⟨fun hp hv => ?_, fun hp hv hd => ?_, fun hp hv hd => ?_, fun hp => ?_⟩
    · rw [ht, mltTake_on hp (takeSink_staged hv)]
    · rw [ht, mltTake_on hp (takeSink_unstaged hv), if_pos hd]
    · rw [ht, mltTake_on hp (takeSink_unstaged hv), if_neg (by simp [hd])]
    · rw [ht, mltTake_off hp]

end Sys2Proof.Machine

/-! Lanes of Truss (05_truss_schedule.md R103, R107 to R110): a lane that faults is retired and its items wait again, the spare
stands in, and the pair's lane count takes effect. -/

namespace Sys2Proof.Machine

open Sys2Proof

section
variable {s t : State} {sl sl' : SMap Item} {re re' : List Item} {l : Nat}

/-! ### What leaves Truss alone -/

/-- `t` is reached from `s` by operations that change registers, the logs and Belay alone. -/
abbrev LeavesTruss (s t : State) : Prop := ∀ {p : List Instr} {κ : Kept} [MayBly κ], Ok p κ s → Ok p κ t

theorem ok_of_truss (h : s.Inv) : Ok s.pending { trs := some s.trs } s :=
  ⟨rfl, h, { (ok_free h).kept with trs := fun _ => Option.some.inj }⟩

theorem LeavesTruss.ok (k : LeavesTruss s t) (h : s.Inv) : Ok s.pending { trs := some s.trs } t := @k _ _ ⟨rfl⟩ (ok_of_truss h)

theorem LeavesTruss.inv (k : LeavesTruss s t) (h : s.Inv) : t.Inv := (k.ok h).inv

theorem LeavesTruss.trs (k : LeavesTruss s t) (h : s.Inv) : t.trs = s.trs := (k.ok h).kept.trs _ rfl

/-! ### The items of Truss -/

/-- The invariant holds, `sl` are the items in slots and `re` those that are ready. -/
structure HasItems (sl : SMap Item) (re : List Item) (s : State) : Prop where
  inv : s.Inv
  slots : s.trs.slots = sl
  ready : s.trs.ready = re

theorem HasItems.keep (h : HasItems sl re s) (k : LeavesTruss s t) : HasItems sl re t :=
  ⟨k.inv h.inv, (congrArg Truss.slots (k.trs h.inv)).trans h.slots, (congrArg Truss.ready (k.trs h.inv)).trans h.ready⟩

/-- A change of Truss that puts `sl'` in the slots and `re'` in the ready list. -/
theorem HasItems.onTrs (h : HasItems sl re s) {f : Truss → Truss} (hs : (f s.trs).slots = sl') (hr : (f s.trs).ready = re') :
    HasItems sl' re' (s.onTrs f) := ⟨h.inv, hs, hr⟩

theorem HasItems.ite {c : Prop} [Decidable c] (hs : HasItems sl re s) (ht : HasItems sl re t) :
    HasItems sl re (if c then s else t) := by
  split <;> assumption

theorem HasItems.chooseLanes (h : HasItems sl re s) : HasItems sl re (s.chooseLanes l) := by
  unfold State.chooseLanes
  split
  next d t e =>
    have ht : HasItems sl re t := h.keep fun h => ok_of_pair (ok_ite (State.free_ok h) (okP_mk h)) e
    extract_lets n n'
    have hn : HasItems sl re (t.onTrs fun u => { u with laneChange := u.laneChange ++ [(l, n')] }) := ht.onTrs ht.slots ht.ready
    exact hn.keep fun h => State.tell_ok h

theorem HasItems.lanesChanged (h : HasItems sl re s) : HasItems sl re s.lanesChanged := by
  have h1 : HasItems sl re (s.setFld TRS_LANE_STAT_WORKING s.workingLanes) := h.keep fun h => State.setFld_ok h
  exact .ite h1 h1.chooseLanes

/-! ### A lane fault (R107) -/

/-- Lane `l` is retired: LANE_OK loses its bit, its slots are empty, and what was in them is ready again, ahead of the rest. -/
def State.retireLane (s : State) (l : Nat) : State :=
  (s.setFld TRS_LANE_STAT_LANE_OK (s.fld TRS_LANE_STAT_LANE_OK - 2 ^ l)).onTrs fun u => { u with
    slots := u.slots.filter fun e => e.1 / 4 != l
    ready := ((u.slots.filter fun e => e.1 / 4 == l).map fun e => e.2) ++ u.ready }

/-- What follows the capture of a fault of lane `l`: the spare joins for it, or a degradation is noted. -/
def State.replaceLane (s : State) (l : Nat) (inj : Bool) : State :=
  let s := s.evt 0x11 2
  let spareFree := s.fld TRS_SPARE_IN_USE == 0 && s.fld TRS_LANE_STAT_JOINING == 0 &&
    (s.fld TRS_LANE_STAT_LANE_OK).testBit 16
  if spareFree && l != 16 then
    let s := (s.setFld TRS_LANE_STAT_JOINING 1).onTrs fun u => { u with joinFor := some l }
    (if inj then s.markInj 0x11 else s).lanesChanged.fusePend
  else
    let s := if l = 16 then (s.setFld TRS_LANE_STAT_JOINING 0).onTrs fun u => { u with joinFor := none } else s
    ((s.sprLog 1 true inj l 0).degrade 0 true).lanesChanged.fusePend

/-- The capture of a fault of lane `l`, whose slots held `lost` (R107). -/
def State.captureFault (s : State) (l : Nat) (lost : List (Nat × Item)) : State :=
  ((s.capturedItems (lost.map fun p => p.2)).wrN TRS_FAULT_INFO (2 ^ 31 + (if lost = [] then 2 ^ 8 else 0) + l)).wrIdx
    TRS_FAULT_IDX_LO TRS_FAULT_IDX_HI s.idx

/-- A fault of a working lane: it is retired, captured where no capture stands, and replaced. -/
theorem laneFault_working {inj : Bool} (h : s.laneWorks l = true) : s.laneFault l inj =
    (if (s.retireLane l).fld TRS_FAULT_INFO_VALID = 1 then s.retireLane l
      else (s.retireLane l).captureFault l (s.trs.slots.filter fun e => e.1 / 4 == l)).replaceLane l inj := by
  rw [State.laneFault, h]
  rfl

theorem HasItems.replaceLane {inj : Bool} (h : HasItems sl re s) : HasItems sl re (s.replaceLane l inj) := by
  unfold State.replaceLane
  extract_lets s1 spareFree s2 s3
  have h1 : HasItems sl re s1 := h.keep fun h => State.evt_ok h
  have setJoin {v : Nat} : HasItems sl re (s1.setFld TRS_LANE_STAT_JOINING v) := h1.keep fun h => State.setFld_ok h
  have h2 : HasItems sl re s2 := setJoin.onTrs setJoin.slots setJoin.ready
  have h3 : HasItems sl re s3 := .ite (setJoin.onTrs setJoin.slots setJoin.ready) h1
  have hjoin : HasItems sl re (if inj = true then s2.markInj 0x11 else s2) := h2.keep fun h => ok_ite (State.markInj_ok h) h
  have hlost : HasItems sl re ((s3.sprLog 1 true inj l 0).degrade 0 true) :=
    h3.keep fun h => State.degrade_ok (State.sprLog_ok h)
  exact .ite (hjoin.lanesChanged.keep fun h => State.fusePend_ok h) (hlost.lanesChanged.keep fun h => State.fusePend_ok h)

theorem retireLane_hasItems (h : s.Inv) (l : Nat) : HasItems (s.trs.slots.filter fun e => e.1 / 4 != l)
    (((s.trs.slots.filter fun e => e.1 / 4 == l).map fun e => e.2) ++ s.trs.ready) (s.retireLane l) :=
  ⟨h.wr _ _, rfl, rfl⟩

theorem retireLane_valid (h : s.Inv) (l : Nat) : (s.retireLane l).fld TRS_FAULT_INFO_VALID = s.fld TRS_FAULT_INFO_VALID :=
  fld_setFld_ne h (by decide) (by decide) _

/-- The capture marks the items the lane held, and no others. -/
theorem HasItems.captureFault {lost : List (Nat × Item)} (h : HasItems sl re s) :
    HasItems (sl.map fun e => (e.1, { e.2 with reissued := false }))
      (re.map fun i => { i with reissued := (lost.map fun e => e.2).contains i }) (s.captureFault l lost) :=
  have hc : HasItems _ _ (s.capturedItems (lost.map fun e => e.2)) :=
    h.onTrs (congrArg (List.map _) h.slots) (congrArg (List.map _) h.ready)
  hc.keep fun h => State.wrIdx_ok (State.wrN_ok h)

/-- A fault of a lane leaves memory, the mode and the sample index. -/
theorem laneFault_frame (h : s.Inv) {inj : Bool} : (s.laneFault l inj).mem = s.mem ∧ (s.laneFault l inj).mode = s.mode ∧
    (s.laneFault l inj).idx = s.idx := by
  have hs : Ok s.pending { mode := some s.mode, idx := some s.idx, mem := some s.mem } s :=
    ⟨rfl, h, { (ok_free h).kept with
      mode := fun _ => Option.some.inj
      idx := fun _ => Option.some.inj
      mem := fun _ => Option.some.inj }⟩
  have hk := (@State.laneFault_ok _ _ s hs ⟨rfl⟩ ⟨rfl⟩ l inj).kept
  exact ⟨hk.mem _ rfl, hk.mode _ rfl, hk.idx _ rfl⟩

/-! ### The spare and the pair's count (R103, R110) -/

theorem spareJoined_stands (h : s.trs.joinFor = some l) : execSpareJoined s = .next (
    let m := s.takeMark 0x11
    let u := (m.2.setFld TRS_LANE_STAT_JOINING 0).onTrs fun u => { u with joinFor := none }
    let u := (u.setFld TRS_SPARE_IN_USE 1).setFld TRS_SPARE_STANDS_FOR l
    ((u.sprLog 1 false m.1 l 16).evt 0x11 3).lanesChanged.fusePend) := by
  rw [execSpareJoined, h]

theorem pairLaneChange_due {n : Nat} (h : (s.trs.laneChange.filter fun p => idxLe p.2 s.idx).getLast? = some (l, n)) :
    execPairLaneChange s = .next (
      let u := ((s.setFld TRS_LANE_STAT_PAIR_LANES l).wrN TRS_CAPACITY (usable l s.rate)).onTrs fun u => { u with
        laneChange := u.laneChange.filter fun p => !idxLe p.2 s.idx }
      (u.reshed s.idx).reopen s.idx) := by
  rw [execPairLaneChange, h]
  rfl

end

/-- Settles O10: the retired lane's items through the capture and the replacement, which move no item; the spare's join and the
lane count by the meaning of their commands. -/
theorem lanesRetireAndJoin : Obligations.LanesRetireAndJoin := by
  refine ⟨fun s l h => ⟨fun hw => ?_, fun hw => ⟨s.laneFault l false, rfl, ?_⟩⟩, fun s => ⟨fun l hj => ?_, fun l i hl => ?_⟩⟩
  · exact congrArg Host.Outcome.next (if_pos (by rw [hw]; rfl))
  · intro lost kept
    have hr : HasItems kept (lost ++ s.trs.ready) (s.retireLane l) := retireLane_hasItems h l
    have hv := retireLane_valid h l
    refine ⟨fun hv1 => ?_, fun hv0 => ?_, laneFault_frame h⟩
    · rw [laneFault_working hw, if_pos (hv.trans hv1)]
      exact ⟨hr.replaceLane.slots, hr.replaceLane.ready⟩
    · rw [laneFault_working hw, if_neg (by rw [hv, hv0]; decide)]
      exact ⟨hr.captureFault.replaceLane.slots, hr.captureFault.replaceLane.ready⟩
  · exact spareJoined_stands hj
  · exact pairLaneChange_due hl

end Sys2Proof.Machine

/-! What a commit leaves to be done (05_truss_schedule.md R105, R113; 06_strips_and_gain.md R123, R124, R127, R128, R131): gain
steps, duck levels and ramps run out, strips change over or stop, and the batches of a crossfade follow each other. -/

namespace Sys2Proof.Machine

open Sys2Proof

section
variable {s : State}

/-! ### What runs out at its sample (R124, R131; 07 R158, R159) -/

theorem zcForced_due {kind : GainKind} {i : Nat} {p : GainStep} (hp : mfind s.trs.steps (gainKey kind i) = some p)
    (hd : p.deadline ≤ s.idx) : execZcForced kind i s =
      .next ((s.stepDone (gainKey kind i) p.deadline).countForced).checkStepsDone := by
  rw [execZcForced, hp]
  exact congrArg Host.Outcome.next (if_pos hd)

/-- No item of strip `g` has completed in the index in progress. -/
theorem strip_not_done {g : Nat} (h : ∀ k, s.tick s.idx = some k → mfind k.heads g = none ∧ mfind k.outs g = none) :
    ((s.tick s.idx).any fun k => (mfind k.heads g).isSome || (mfind k.outs g).isSome) = false := by
  cases hk : s.tick s.idx with
  | none => rfl
  | some k =>
    obtain ⟨hh, ho⟩ := h k hk
    simp [hh, ho]

theorem duckHoldExpire_due {b : Fin 512} {l : Fin 8} (ha : (s.level b l).active = true) (h0 : (s.level b l).hold = 0)
    (hb : ∀ k, s.tick s.idx = some k → mfind k.heads (1536 + b) = none ∧ mfind k.outs (1536 + b) = none) :
    execDuckHoldExpire b l s = .next (s.setLevel b l { s.level b l with active := false }) :=
  congrArg Host.Outcome.next (if_pos ⟨ha, h0, by rw [strip_not_done hb]; exact Bool.false_ne_true⟩)

theorem sourceRampEnd_due {g : Fin 1536} {r : SrcRamp} (hr : mfind s.trs.srcRamp g = some r) (he : r.flip + 32 ≤ s.idx) :
    execSourceRampEnd g s = .next (s.onTrs fun u => { u with srcRamp := mdel u.srcRamp g }).trussDone := by
  rw [execSourceRampEnd, hr]
  exact congrArg Host.Outcome.next (if_pos he)

theorem sinkRampEnd_due {k : Fin 1536} {r : SinkRamp} (hr : mfind s.trs.sinkRamp k = some r) (he : r.flip + 31 ≤ s.idx) :
    execSinkRampEnd k s = .next (s.onTrs fun u => { u with sinkRamp := mdel u.sinkRamp k }).trussDone := by
  rw [execSinkRampEnd, hr]
  exact congrArg Host.Outcome.next (if_pos he)

/-! ### Changeovers and stopping strips (R127, R128) -/

theorem faderDown_of_no_step {g : Nat} (h : mfind s.trs.steps (faderKey g) = none) : s.faderDown g = true := by
  rw [State.faderDown, h]
  rfl

/-- A sample that the fader came to 0 before switches the strip over. -/
theorem changeoverSwitch_due {g : Fin 3584} {c : Changeover} {j : Nat} (hc : mfind s.trs.chg g = some c)
    (hf : c.fillEnd = none) (hd : c.down = some j) (hj : j < s.idx) (hs : mfind s.trs.steps (faderKey g) = none) :
    execChangeoverSwitch g s = .next ((s.switchOver g s.idx c).reopen s.idx) := by
  rw [execChangeoverSwitch, hc]
  exact congrArg Host.Outcome.next (if_pos ⟨by rw [hf]; rfl, by rw [hd]; exact decide_eq_true hj, faderDown_of_no_step hs⟩)

/-- The fill has ended once its end `e` is reached, or next with no work left of the index in progress (log entry 75). -/
theorem delayFillEnd_due {g : Fin 3584} {c : Changeover} {e : Nat} (hc : mfind s.trs.chg g = some c)
    (hf : c.fillEnd = some e) (hn : c.filled = false)
    (he : e ≤ s.idx ∨ (e = s.idx + 1 ∧ s.trs.ticks.any s.unfinished = false)) : execDelayFillEnd g s =
      .next (s.onTrs fun u => { u with chg := mins u.chg g { c with filled := true } }).refreshXfade.checkStepsDone := by
  rw [execDelayFillEnd, hc]
  refine congrArg Host.Outcome.next (if_pos ⟨?_, by rw [hn]; exact Bool.false_ne_true⟩)
  rw [hf, Option.any_some]
  rcases he with he | ⟨he, hw⟩
  · simp [he]
  · simp [he, hw]

theorem no_edge_fades {g n : Nat} (h : ∀ d ∈ s.allEdges n, d.edge.src ≠ g) :
    ((s.allEdges n).any fun d => d.edge.src == g) = false :=
  List.any_eq_false.mpr fun d hd => by simpa using h d hd

theorem stripStop_due {g : Fin 3584} (hg : g.val ∈ s.trs.stopping) (he : ∀ d ∈ s.allEdges s.idx, d.edge.src ≠ g.val)
    (hf : isOutput g = true → s.faderDown g = true) : execStripStop g s = .next ((s.onTrs fun u => { u with
      stopping := u.stopping.filter fun h => h != g.val }).refreshXfade.checkStepsDone.trussDone.reopen s.idx) := by
  refine congrArg Host.Outcome.next (if_pos ⟨List.contains_iff_mem.mpr hg, ?_, ?_⟩)
  · rw [no_edge_fades he]
    exact Bool.false_ne_true
  · exact (Decidable.em (isOutput g = true)).symm.imp id hf

/-! ### The batches of a crossfade (R105, R113, R123) -/

/-- A batch whose window has passed, or whose last index has no work left, gives way to the next, or ends the crossfade. -/
theorem batchEnd_due {x : Xfade} (hx : s.trs.xf = some x) (he : x.flip + x.cur * x.win ≤ s.idx ∨
    (s.idx + 1 = x.flip + x.cur * x.win ∧ s.trs.ticks.any s.unfinished = false)) : execBatchEnd s = .next (
      let e := x.flip + x.cur * x.win
      let last := decide (x.batches.length ≤ x.cur)
      let load := if s.idx < e then some (s.fab.loadAt s.idx s.trs.shed) else none
      let u := s.onTrs fun u => { u with xf := if last then none else some { x with cur := x.cur + 1 }, endLoad := load }
      let u := u.wrN TRS_BATCH_STAT (if last ∨ x.batches.length ≤ 1 then 0 else (x.cur + 1) * 2 ^ 24 + x.batches.length * 2 ^ 16)
      (u.refreshXfade.trussDone.reshed (max s.idx e)).reopen s.idx) := by
  have hrun : ¬ (s.idx + 1 < x.flip + x.cur * x.win ∨
      (s.idx + 1 = x.flip + x.cur * x.win ∧ s.trs.ticks.any s.unfinished = true)) := by
    rcases he with he | ⟨he, hw⟩
    · omega
    · simp only [hw, Bool.false_eq_true, and_false, or_false]
      omega
  rw [execBatchEnd, hx]
  refine (if_neg hrun).trans ?_
  simp only [decide_eq_true_eq, State.wrN, State.wr_idx, State.onTrs_idx]

end

/-- Settles O9: the meaning of each command where what it waits for has come. -/
theorem gainChangeoverBatch : Obligations.GainChangeoverBatch := by
  refine ⟨fun s => ⟨fun kind i p hp hd => zcForced_due hp hd, fun b l ha h0 hb => duckHoldExpire_due ha h0 hb,
    fun g r hr he => sourceRampEnd_due hr he, fun k r hr he => sinkRampEnd_due hr he⟩, fun s g => ⟨?_, ?_, ?_⟩, ?_⟩
  · exact fun o0 o3 j w b hc hj hs => changeoverSwitch_due hc rfl rfl hj hs
  · exact fun o0 o3 d e w hc he => delayFillEnd_due (c := ⟨o0, o3, d, some e, w, false⟩) hc rfl rfl he
  · exact fun hg he hf => stripStop_due hg he hf
  · exact fun s x hx he => batchEnd_due hx he

end Sys2Proof.Machine

/-! Fields of registers through Cairn's completions, the end of lockstep and the journal (07_cairn_scenes.md R146, R149, R162,
R163; 16_belay_twin.md R387). -/

namespace Sys2Proof.Machine

open Sys2Proof

/-- The registers that the bookkeeping of completions, of mode requests and of the end of lockstep writes, but for CRN_STAT and
BLY_STAT, of which it writes some fields only. -/
def bookRegs : List Nat :=
  [CRN_LAST_SEQ, CRN_CMD_CNT, CRN_DUP_CNT, CRN_REFUSED_CNT, SPR_DEGR, PWR_MODE_STAT, TRS_LANE_STAT, BLY_JOIN_STAT]

/-- A field past page 0 and the headers of the pages, which that bookkeeping leaves: of CRN_STAT, one above OUTSTANDING. -/
abbrev Fld.Steady (f : Fld) : Prop :=
  f.hi < 32 ∧ 0x1000 ≤ f.off ∧ 0x40 ≤ f.off % 0x1000 ∧ f.off ∉ bookRegs ∧ (f.off = CRN_STAT → 8 < f.lo)

/-- The invariant holds and the steady field `f` reads `v`. -/
def Shows (f : Fld) (v : Nat) (s : State) : Prop := f.Steady ∧ s.Inv ∧ s.fld f = v

section
variable {s t : State} {f g : Fld} {a b n p v : Nat} {x : Reg32} {c : Cmd}

/-! ### The base operations -/

theorem Shows.steady (h : Shows f v s) : f.Steady := h.1

theorem Shows.inv (h : Shows f v s) : s.Inv := h.2.1

theorem Shows.fld (h : Shows f v s) : s.fld f = v := h.2.2

theorem Shows.refl (h : s.Inv) (hf : f.Steady) : Shows f (s.fld f) s := ⟨hf, h, rfl⟩

theorem Shows.ite {q : Prop} [Decidable q] (hs : Shows f v s) (ht : Shows f v t) : Shows f v (if q then s else t) := by
  split <;> assumption

theorem Shows.foldl {α : Type} {k : State → α → State} {l : List α} (h : Shows f v s)
    (hk : ∀ s a, Shows f v s → Shows f v (k s a)) : Shows f v (l.foldl k s) :=
  List.foldlRecOn l k h fun s hs a _ => hk s a hs

theorem Shows.of_pair {α : Type} {e : α × State} {y : α} (h : Shows f v e.2) (he : e = (y, t)) : Shows f v t := by
  subst he
  exact h

theorem Shows.wr (h : Shows f v s) (ha : f.off ≠ a) : Shows f v (s.wr a x) :=
  ⟨h.steady, h.inv.wr a x, (congrArg (fun w => bitsNat (BitVec.toNat w) f.hi f.lo) (rd_wr_ne h.inv x ha)).trans h.fld⟩

theorem Shows.wrIdx (h : Shows f v s) (ha : f.off ≠ a) (hb : f.off ≠ b) : Shows f v (s.wrIdx a b n) := Shows.wr (h.wr ha) hb

theorem Shows.setFld (h : Shows f v s) (hd : f.off ≠ g.off ∨ f.hi < g.lo ∨ g.hi < f.lo) : Shows f v (s.setFld g n) :=
  ⟨h.steady, h.inv.wr _ _, (fld_setFld_ne h.inv h.steady.1 hd n).trans h.fld⟩

/-- A field reads what it is set to, where that fits. -/
theorem Shows.set (h : s.Inv) (hf : f.Steady) (hv : v < 2 ^ (f.hi + 1 - f.lo)) : Shows f v (s.setFld f v) :=
  ⟨hf, h.wr _ _, (fld_setFld_same h hf.1 v).trans (Nat.mod_eq_of_lt hv)⟩

theorem Shows.wr_whole (h : s.Inv) (hf : (whole a).Steady) : Shows (whole a) x.toNat (s.wr a x) :=
  ⟨hf, h.wr _ _, (fld_whole _ _).trans (congrArg BitVec.toNat (rd_wr_same h a x))⟩

theorem Shows.setWord (h : Shows f v s) {w : Word} : Shows f v (s.setWord a w) :=
  ⟨h.steady, ⟨memPut_wf h.inv.1, h.inv.2⟩, h.fld⟩

theorem Shows.off_ne (h : Shows f v s) (ha : a ∈ bookRegs) : f.off ≠ a := fun e => h.steady.2.2.2.1 (e ▸ ha)

theorem Shows.bump (h : Shows f v s) (ha : a ∈ bookRegs) : Shows f v (s.bump (whole a) n) := by
  have h1 : Shows f v (s.setFld (whole a) (min (s.fld (whole a) + n) (whole a).max)) := h.setFld (.inl (h.off_ne ha))
  unfold State.bump
  split
  · exact h1
  · exact h1

theorem Shows.requestVector (h : Shows f v s) (hn : n < 64) : Shows f v (s.requestVector n) := by
  have hp : f.off ≠ MSIX_PBA + 4 * (n / 32) := by
    have hoff := h.steady.2.1
    rcases pba_cases hn with e | e <;> omega
  exact .ite (h.wr hp) h

theorem Shows.evt (h : Shows f v s) : Shows f v (s.evt p b) := by
  have hp : f.off ≠ 0x1000 * p + PG_EVT := by
    have hoff := h.steady.2.2.1
    simp only [PG_EVT]
    omega
  unfold State.evt State.setEvts
  extract_lets a old new s1
  have h1 : Shows f v s1 := (h.wr hp).foldl fun _ _ h => h
  exact .ite h1 (h1.requestVector (pageVector_lt s p))

/-! A change of a unit's own state leaves the registers. -/

theorem Shows.onTrs (h : Shows f v s) {k : Truss → Truss} : Shows f v (s.onTrs k) := h

theorem Shows.onBly (h : Shows f v s) {k : Belay → Belay} : Shows f v (s.onBly k) := h

theorem Shows.onCrn (h : Shows f v s) {k : Cairn → Cairn} : Shows f v (s.onCrn k) := h

/-! ### Completions (R146, R149) -/

theorem Shows.refreshOutstanding (h : Shows f v s) : Shows f v s.refreshOutstanding :=
  h.setFld (Classical.or_iff_not_imp_left.2 fun e => .inr (h.steady.2.2.2.2 (Classical.not_not.1 e)))

theorem Shows.postWords (h : Shows f v s) {ws : List Word} {r : Bool} : Shows f v (s.postWords ws r) := by
  unfold State.postWords
  extract_lets k base s1 s2 w0 prim s3 s4 s5 s6
  have h1 : Shows f v s1 := h.foldl fun _ _ h => h.setWord
  have h2 : Shows f v s2 := h1.setWord
  have h3 : Shows f v s3 := h2.wr (h2.off_ne (by decide))
  have h4 : Shows f v s4 := h3.bump (by decide)
  have h5 : Shows f v s5 := .ite h4 (h4.bump (by decide)).evt
  have h6 : Shows f v s6 := .ite (h3.bump (by decide)).evt (.ite h5.evt h5)
  exact h6.evt

theorem Shows.enterWindow (h : Shows f v s) {ws : List Word} : Shows f v (s.enterWindow a b ws) := by
  unfold State.enterWindow
  exact .ite h h.onCrn

theorem Shows.completeCmd (h : Shows f v s) {i : CplInfo} : Shows f v (s.completeCmd c i) := by
  unfold State.completeCmd
  extract_lets ws dups s1 s2
  have h1 : Shows f v s1 := h.onCrn
  have h2 : Shows f v s2 := .ite (h1.postWords.foldl fun _ _ h => h.postWords) h1
  exact h2.enterWindow.refreshOutstanding

theorem Shows.completeCommit (h : Shows f v s) {k : Commit} : Shows f v (s.completeCommit k a b) := by
  unfold State.completeCommit
  split
  · exact h
  · exact h.completeCmd

theorem enterWindow_crn (s : State) (a b : Nat) (ws : List Word) :
    ∃ w, (s.enterWindow a b ws).crn = { s.crn with window := w } := by
  unfold State.enterWindow
  split <;> exact ⟨_, rfl⟩

/-- What a completion leaves of Cairn: all but the commands under way and the window. -/
theorem completeCmd_crn (h : s.Inv) (c : Cmd) (i : CplInfo) : ∃ w, (s.completeCmd c i).crn = { s.crn with
    started := s.crn.started.filter fun t => t.cmd.seq != c.seq
    cur := if s.crn.cur.any fun d => d.seq == c.seq then none else s.crn.cur
    window := w } := by
  unfold State.completeCmd
  extract_lets ws dups s1 s2
  have hs (hi : s1.Inv) : Ok s1.pending { crn := some s1.crn } s1 :=
    ⟨rfl, hi, { (ok_free hi).kept with crn := fun _ => Option.some.inj }⟩
  have law {p : List Instr} {κ : Kept} [MayMem κ] [MayFlips κ] (h : Ok p κ s1) : Ok p κ s2 :=
    ok_ite (ok_foldl (State.postWords_ok h) fun _ _ h => State.postWords_ok h) h
  have h2 : s2.crn = s1.crn := (@law _ _ ⟨rfl⟩ ⟨rfl⟩ (hs h)).kept.crn _ rfl
  obtain ⟨w, e⟩ := enterWindow_crn s2 c.seq i.primary ws
  exact ⟨w, e.trans (h2 ▸ rfl)⟩

/-- The current command that completes is no longer current. -/
theorem completeCmd_cur (h : s.Inv) (hc : s.crn.cur = some c) (i : CplInfo) : (s.completeCmd c i).crn.cur = none := by
  obtain ⟨w, e⟩ := completeCmd_crn h c i
  rw [e, hc]
  simp

theorem completeCommit_plan (h : s.Inv) (k : Commit) (a b : Nat) : (s.completeCommit k a b).crn.plan = s.crn.plan := by
  unfold State.completeCommit
  split
  · rfl
  · obtain ⟨w, e⟩ := completeCmd_crn h _ _
    rw [e]

/-! ### Belay and the end of lockstep (16 R385, R387) -/

/-- What a frame that is sent leaves: all but Belay and the outputs. -/
theorem sendBelay_eq (s : State) (k i : Nat) (l : List Byte) : ∃ b o, s.sendBelay k i l = { s with bly := b, out := o } := by
  unfold State.sendBelay State.deal
  split
  · exact ⟨_, _, rfl⟩
  · dsimp only
    split
    · exact ⟨_, _, rfl⟩
    · exact ⟨_, _, rfl⟩

theorem Shows.sendBelay (h : Shows f v s) {l : List Byte} : Shows f v (s.sendBelay a b l) := by
  obtain ⟨_, _, e⟩ := sendBelay_eq s a b l
  rw [e]
  exact h

theorem Shows.tell (h : Shows f v s) {l : List Byte} : Shows f v (s.tell a b n l) := .ite h.sendBelay h

theorem Shows.degrade (h : Shows f v s) {on : Bool} : Shows f v (s.degrade b on) := by
  have hoff : f.off ≠ SYS_STAT_DEGRADED.off := Nat.ne_of_gt (Nat.lt_of_lt_of_le (by decide) h.steady.2.1)
  unfold State.degrade
  extract_lets old new s1 d
  have h1 : Shows f v s1 := Shows.evt (h.wr (h.off_ne (by decide)))
  exact .ite h (.ite h1 (Shows.evt (h1.setFld (.inl hoff))))

theorem Shows.refreshBelay (h : Shows f v s) : Shows f v s.refreshBelay := h.degrade

theorem Shows.finishReq (h : Shows f v s) : Shows f v (s.finishReq a b) := by
  have hoff : f.off ≠ PWR_MODE_STAT := h.off_ne (by decide)
  have h1 : Shows f v (((s.setFld PWR_MODE_STAT_BUSY 0).setFld PWR_MODE_STAT_RESULT a).setFld PWR_MODE_STAT_CODE b) :=
    ((h.setFld (.inl hoff)).setFld (.inl hoff)).setFld (.inl hoff)
  exact .ite (Shows.evt ⟨h1.steady, h1.inv, h1.fld⟩) h

theorem Shows.dropSwap (h : Shows f v s) : Shows f v s.dropSwap := by
  unfold State.dropSwap
  extract_lets s1 s2
  have h1 : Shows f v s1 := by
    unfold s1
    split
    · split
      · exact h.completeCmd
      · exact h
    · exact h
  have h2 : Shows f v s2 := .ite h1.finishReq h1
  exact h2

theorem Shows.chooseLanes (h : Shows f v s) : Shows f v (s.chooseLanes n) := by
  unfold State.chooseLanes
  split
  next d t e =>
    have ht : Shows f v t := by
      split at e <;> cases e <;> exact h
    exact ht.onTrs.tell

theorem Shows.lanesChanged (h : Shows f v s) : Shows f v s.lanesChanged := by
  have h1 : Shows f v (s.setFld TRS_LANE_STAT_WORKING s.workingLanes) := h.setFld (.inl (h.off_ne (by decide)))
  exact .ite h1 h1.chooseLanes

theorem Shows.startJoin (h : Shows f v s) : Shows f v s.startJoin := by
  have h1 : Shows f v (s.setFld BLY_JOIN_STAT_PHASE 1) := h.setFld (.inl (h.off_ne (by decide)))
  exact .ite h1.onBly.sendBelay h1.onBly

/-- What an engine does once it is out of lockstep: its own lane count counts, and a standby may join again. -/
def State.goAlone (s : State) : State :=
  let s := ((s.onTrs fun t => { t with peerLanes := 16 }).lanesChanged).refreshBelay
  if s.mode = .standby ∧ s.fld BLY_CTRL_AUTO_RESYNC = 1 ∧ s.peerReady then s.startJoin else s

theorem leaveLockstep_eq (h : s.lockstep = true) :
    s.leaveLockstep = ((s.dropSwap.setFld BLY_STAT_LOCKSTEP 0).onBly fun b => { b with
      decided := [], own := [], finals := [], fell := [], digests := [], decisions := [] }).goAlone := if_pos h

theorem Shows.goAlone (h : Shows f v s) : Shows f v s.goAlone := by
  have h1 := (h.onTrs (k := fun t => { t with peerLanes := 16 })).lanesChanged.refreshBelay
  exact .ite h1.startJoin h1

theorem Shows.leaveLockstep (h : Shows f v s) (hl : s.lockstep = true) (hf : f.off ≠ BLY_STAT) :
    Shows f v s.leaveLockstep := by
  rw [leaveLockstep_eq hl]
  exact (h.dropSwap.setFld (.inl hf)).onBly.goAlone

/-- An engine that leaves lockstep is out of it. -/
theorem leaveLockstep_alone (h : s.Inv) (hl : s.lockstep = true) : s.leaveLockstep.lockstep = false := by
  have hd : s.dropSwap.Inv := (Shows.refl (f := CRN_STAT_STATE) h (by decide)).dropSwap.inv
  have h1 : Shows BLY_STAT_LOCKSTEP 0 (s.dropSwap.setFld BLY_STAT_LOCKSTEP 0) := .set hd (by decide) (by decide)
  rw [leaveLockstep_eq hl, State.lockstep, h1.onBly.goAlone.fld]
  rfl

end

end Sys2Proof.Machine

/-! Cairn's rings and the scene store (07_cairn_scenes.md R143, R146 to R148). -/

namespace Sys2Proof.Machine

open Sys2Proof

section
variable {s : State} {m n o : Nat} {v : Reg32} {c : Cmd}

/-- The command that has come to its opcode executes, and Cairn goes on. -/
theorem runCmd_current {k : Cmd → State → State} (hc : s.crn.cur = some c) (ho : c.opcode = o) :
    s.runCmd o k = .next (k c s).pumpAll := by
  rw [State.runCmd, hc]
  exact congrArg Host.Outcome.next (if_pos ho)

/-! ### The doorbell (R146) -/

/-- A row that writes a register of pages 0x010 to 0x02F that acts by its write alone, where it is taken. -/
theorem exec_fabricWrite {i : Instr} {off : Nat} {r : RegRow} {u : State} (hc : s.rowWrite i = some (m, off, v))
    (h : s.takesWrite m off v) (ho : 0x40 ≤ off % 0x1000) (hr : findReg off = some r) (hk : liveMask off = 0)
    (hu : s.putBody m off r v = u) : exec i s = .next (s.noteWrite u m) := by
  have hput : s.putReg m off v = u := by
    obtain ⟨_, hid, _, _, _, _, _, hg, hb⟩ := h
    rw [putReg_body hid hg hb ho hr, putBodyLive_unstaged hk, hu]
  rw [exec_rowWrite_taken hc h, hput]

theorem exec_doorbell (h : s.takesWrite m CRN_DOORBELL v) :
    exec (.crnDoorbell m v) s = .next (s.noteWrite s.ringDoorbell m) := by
  obtain ⟨r, hr⟩ := Option.isSome_iff_exists.1 (show (findReg CRN_DOORBELL).isSome = true by decide +kernel)
  exact exec_fabricWrite rfl h (by decide) hr (by decide +kernel) rfl

theorem ringDoorbell_up (h : s.upMode = true) : s.ringDoorbell = s.readProd.pumpAll := if_pos h

theorem ringDoorbell_down (h : s.upMode = false) : s.ringDoorbell = s := if_neg (ne_true_of_eq_false h)

/-- How far ahead of the commands taken the producer stands that Cairn reads. -/
abbrev State.prodAhead (s : State) : Nat :=
  (2 ^ 32 + (s.mbxRead 0).1.toNat % 2 ^ 32 - (s.mbxRead 0).2.mbxIndex 1) % 2 ^ 32

/-- A producer at most a ring ahead is taken as it is. -/
theorem readProd_ring (h : s.prodAhead ≤ 256) : s.readProd =
    (s.mbxRead 0).2.onCrn fun k => { k with prod := (s.mbxRead 0).1.toNat % 2 ^ 32 } := by
  simp only [State.readProd, State.takenTo, if_neg (Nat.not_lt.2 h)]

/-- One further ahead makes Cairn take some number of entries up to a ring (log entry 43). -/
theorem readProd_overrun (h : 256 < s.prodAhead) : ∃ n ≤ 256, s.readProd =
    ((s.mbxRead 0).2.free 16).2.onCrn fun k => { k with prod := ((s.mbxRead 0).2.mbxIndex 1 + n) % 2 ^ 32 } := by
  refine ⟨((s.mbxRead 0).2.free 16).1.toNat % 257, Nat.lt_succ_iff.1 (Nat.mod_lt _ (by decide)), ?_⟩
  simp only [State.readProd, State.takenTo, if_pos h]

/-! ### NOP and STORE (R142, R147) -/

theorem exec_nop (hc : s.crn.cur = some c) (ho : c.opcode = 0) :
    exec .cairnNop s = .next (s.completeCmd c { primary := 0 }).pumpAll := by
  show execCairnNop s = _
  rw [execCairnNop, runCmd_current hc ho]

/-- STORE of no records deletes the scene. -/
theorem exec_store_none (hc : s.crn.cur = some c) (ho : c.opcode = 1) (hz : c.bits 1 48 32 = 0) :
    exec .store s = .next ((s.setDir (c.bits 1 63 56) 0 0 0 0).completeCmd c { primary := 0 }).pumpAll := by
  show execStore s = _
  rw [execStore, runCmd_current hc ho]
  exact congrArg (fun t : State => Host.Outcome.next t.pumpAll) (if_pos hz)

/-- STORE of a block for which no free run is long enough is refused. -/
theorem exec_store_full (hc : s.crn.cur = some c) (ho : c.opcode = 1) (hz : c.bits 1 48 32 ≠ 0)
    (hr : (s.freeRuns.find? fun r => decide (c.bits 2 20 0 ≤ r.2)) = none) :
    exec .store s = .next (s.completeCmd c { primary := 0x30, aux := s.largestRun }).pumpAll := by
  show execStore s = _
  rw [execStore, runCmd_current hc ho]
  simp only [if_neg hz, hr]

/-- STORE of a block copies it to the first free run that is long enough, and lists it where every word could be read. -/
theorem exec_store_copy {r : Nat × Nat} {ok : Bool} {u : State} (hc : s.crn.cur = some c) (ho : c.opcode = 1)
    (hz : c.bits 1 48 32 ≠ 0) (hr : (s.freeRuns.find? fun r => decide (c.bits 2 20 0 ≤ r.2)) = some r)
    (hcopy : s.copyBankWords (c.bits 2 20 0) (c.bits 1 22 0) r.1 = (ok, u)) : exec .store s = .next (if ok then
      ((u.setDir (c.bits 1 63 56) (2 ^ 31 + r.1) (c.bits 2 20 0) (c.bits 1 48 32) c.seq).completeCmd c { primary := 0 }).pumpAll
      else (u.completeCmd c { primary := 0x40, kind := 8 }).pumpAll) := by
  show execStore s = _
  rw [execStore, runCmd_current hc ho]
  simp only [if_neg hz, hr, hcopy]
  cases ok <;> rfl

/-! ### CRN_STORE_CTRL (R143) -/

/-- The row of CRN_STORE_CTRL: FIRST_BANK and BANKS, and neither is staged. -/
theorem findReg_storeCtrl :
    ∃ r, findReg CRN_STORE_CTRL = some r ∧ liveMask CRN_STORE_CTRL = 0 ∧ r.rw ||| r.w1c ||| r.act = 0x7F003F := by
  refine ⟨_, rfl, ?_, ?_⟩ <;> decide +kernel

/-- Its fields are all that a write of it acts by. -/
theorem storeCtrl_fields (v : Reg32) : bitsNat (v &&& 0x7F003F).toNat 22 16 = bitsNat v.toNat 22 16 ∧
    bitsNat (v &&& 0x7F003F).toNat 5 0 = bitsNat v.toNat 5 0 := by
  have hfield {hi lo : Nat} (hm : ∀ i < hi + 1 - lo, (0x7F003F : Reg32).toNat.testBit (lo + i) = true) :
      bitsNat (v &&& 0x7F003F).toNat hi lo = bitsNat v.toNat hi lo := by
    refine Nat.eq_of_testBit_eq fun i => ?_
    rw [testBit_bitsNat, testBit_bitsNat, BitVec.toNat_and, Nat.testBit_and]
    by_cases hi : i < hi + 1 - lo
    · rw [hm i hi, Bool.and_true]
    · rw [decide_eq_false hi, Bool.false_and, Bool.false_and]
  exact ⟨hfield (by decide), hfield (by decide)⟩

theorem exec_storeCtrl (h : s.takesWrite m CRN_STORE_CTRL v) :
    exec (.crnStoreCtrl m v) s = .next (s.noteWrite (s.writeStoreCtrl m (v &&& 0x7F003F)) m) := by
  obtain ⟨r, hr, hk, hmask⟩ := findReg_storeCtrl
  refine exec_fabricWrite rfl h (by decide) hr hk ?_
  rw [State.putBody, hmask]
  rfl

/-- A write that changes neither field does nothing; one that changes any is refused in the run modes. -/
theorem writeStoreCtrl_refused (hd : bitsNat v.toNat 22 16 ≠ s.fld CRN_STORE_CTRL_FIRST_BANK ∨
    bitsNat v.toNat 5 0 ≠ s.fld CRN_STORE_CTRL_BANKS) (hm : s.cfgMode = false) :
    s.writeStoreCtrl m v = s.refusedField m CRN_STORE_CTRL := by
  rw [State.writeStoreCtrl, if_neg fun e => hd.elim (· e.1) (· e.2), if_pos (ne_true_of_eq_false hm)]

/-- The two fields of CRN_STORE_CTRL take `f` and `b`. -/
abbrev State.setStore (s : State) (f b : Nat) : State :=
  (s.setFld CRN_STORE_CTRL_FIRST_BANK f).setFld CRN_STORE_CTRL_BANKS b

/-- In CONFIG and SERVICE it is accepted and every scene is deleted. -/
theorem writeStoreCtrl_accepted (hd : bitsNat v.toNat 22 16 ≠ s.fld CRN_STORE_CTRL_FIRST_BANK ∨
    bitsNat v.toNat 5 0 ≠ s.fld CRN_STORE_CTRL_BANKS) (hm : s.cfgMode = true) : s.writeStoreCtrl m v =
    (List.range 256).foldl (fun s n => s.setDir n 0 0 0 0) (s.setStore (bitsNat v.toNat 22 16) (bitsNat v.toNat 5 0)) := by
  rw [State.writeStoreCtrl, if_neg fun e => hd.elim (· e.1) (· e.2), if_neg (not_not_intro hm)]

/-- Entry `n` of the directory is deleted: its first two words read 0. -/
def State.Deleted (s : State) (n : Nat) : Prop := s.rd (DIR_LOC + dirOff n) = 0 ∧ s.rd (DIR_LEN + dirOff n) = 0

theorem setDir_inv (h : s.Inv) (n a b d e : Nat) : (s.setDir n a b d e).Inv := (State.setDir_ok (ok_free h)).inv

/-- A directory entry that is written changes its own four registers alone. -/
theorem rd_setDir_ne {a x y z w : Nat} (h : s.Inv) (hx : a ≠ DIR_LOC + dirOff n) (hy : a ≠ DIR_LEN + dirOff n)
    (hz : a ≠ DIR_REC + dirOff n) (hw : a ≠ DIR_SEQ + dirOff n) : (s.setDir n x y z w).rd a = s.rd a := by
  have h1 : (s.wrN (DIR_LOC + dirOff n) x).Inv := h.wr _ _
  have h2 : ((s.wrN (DIR_LOC + dirOff n) x).wrN (DIR_LEN + dirOff n) y).Inv := h1.wr _ _
  exact (rd_wr_ne (h2.wr _ _) _ hw).trans ((rd_wr_ne h2 _ hz).trans ((rd_wr_ne h1 _ hy).trans (rd_wr_ne h _ hx)))

theorem setDir_deleted (h : s.Inv) (n : Nat) : (s.setDir n 0 0 0 0).Deleted n := by
  have h1 : (s.wrN (DIR_LOC + dirOff n) 0).Inv := h.wr _ _
  have h2 : ((s.wrN (DIR_LOC + dirOff n) 0).wrN (DIR_LEN + dirOff n) 0).Inv := h1.wr _ _
  have hrest {a : Nat} (hz : a ≠ DIR_REC + dirOff n) (hw : a ≠ DIR_SEQ + dirOff n) : (s.setDir n 0 0 0 0).rd a =
      ((s.wrN (DIR_LOC + dirOff n) 0).wrN (DIR_LEN + dirOff n) 0).rd a :=
    (rd_wr_ne (h2.wr _ _) _ hw).trans (rd_wr_ne h2 _ hz)
  simp only [DIR_LOC, DIR_LEN, DIR_REC, DIR_SEQ] at *
  refine ⟨?_, ?_⟩
  · rw [DIR_LOC, hrest (by omega) (by omega)]
    exact (rd_wr_ne h1 _ (by omega)).trans (rd_wr_same h _ _)
  · rw [DIR_LEN, hrest (by omega) (by omega)]
    exact rd_wr_same h1 _ _

theorem dirOff_ne {k : Nat} (hn : n ≠ k) (a b : Nat) (ha : a < 16) (hb : b < 16) : dirOff n + a ≠ dirOff k + b := by
  simp only [dirOff]
  omega

/-- An entry once deleted stays so as others are. -/
theorem State.Deleted.setDir {k : Nat} (hd : s.Deleted n) (h : s.Inv) : (s.setDir k 0 0 0 0).Deleted n := by
  by_cases hn : n = k
  · exact hn ▸ setDir_deleted h n
  · have hne {a b : Nat} (ha : a < 16) (hb : b < 16) : 0x22800 + a + dirOff n ≠ 0x22800 + b + dirOff k := fun e =>
      dirOff_ne hn a b ha hb (by omega)
    have hrd {a : Nat} (ha : a < 16) : (s.setDir k 0 0 0 0).rd (0x22800 + a + dirOff n) = s.rd (0x22800 + a + dirOff n) :=
      rd_setDir_ne h (hne (b := 0) ha (by decide)) (hne (b := 4) ha (by decide)) (hne (b := 8) ha (by decide))
        (hne (b := 12) ha (by decide))
    exact ⟨(hrd (a := 0) (by decide)).trans hd.1, (hrd (a := 4) (by decide)).trans hd.2⟩

/-- Deleting entries leaves the registers below the directory, and every one of them is deleted. -/
theorem deleteDir (h : s.Inv) (l : List Nat) :
    (∀ a < DIR_LOC, (l.foldl (fun s n => s.setDir n 0 0 0 0) s).rd a = s.rd a) ∧
      ∀ n, n ∈ l ∨ s.Deleted n → (l.foldl (fun s n => s.setDir n 0 0 0 0) s).Deleted n := by
  induction l generalizing s with
  | nil => exact ⟨fun _ _ => rfl, fun n hn => hn.resolve_left (List.not_mem_nil)⟩
  | cons k l ih =>
    obtain ⟨hlow, hdel⟩ := ih (setDir_inv h k 0 0 0 0)
    refine ⟨fun a ha => (hlow a ha).trans ?_, fun n hn => hdel n ?_⟩
    · simp only [DIR_LOC] at ha
      apply rd_setDir_ne h <;> simp only [DIR_LOC, DIR_LEN, DIR_REC, DIR_SEQ] <;> omega
    · rcases hn with hn | hn
      · rcases List.mem_cons.1 hn with rfl | hn
        · exact .inr (setDir_deleted h n)
        · exact .inl hn
      · exact .inr (hn.setDir h)

theorem setStore_fields (h : s.Inv) (v : Reg32) :
    (s.setStore (bitsNat v.toNat 22 16) (bitsNat v.toNat 5 0)).fld CRN_STORE_CTRL_FIRST_BANK = bitsNat v.toNat 22 16 ∧
      (s.setStore (bitsNat v.toNat 22 16) (bitsNat v.toNat 5 0)).fld CRN_STORE_CTRL_BANKS = bitsNat v.toNat 5 0 := by
  have hf : Shows CRN_STORE_CTRL_FIRST_BANK (bitsNat v.toNat 22 16)
      (s.setFld CRN_STORE_CTRL_FIRST_BANK (bitsNat v.toNat 22 16)) := .set h (by decide) (Nat.mod_lt _ (by decide))
  exact ⟨(hf.setFld (by decide)).fld, (Shows.set hf.inv (by decide) (Nat.mod_lt _ (by decide))).fld⟩

theorem noteWrite_rd (t : State) (a : Nat) : (s.noteWrite t m).rd a = t.rd a := by
  unfold State.noteWrite
  split <;> rfl

end

/-- Settles O53: the doorbell is `ringDoorbell` and a write of CRN_STORE_CTRL `writeStoreCtrl`; the commands are the branches of
their meanings. -/
theorem ringsAndStore : Obligations.RingsAndStore := by
  intro s m v c h
  refine ⟨hostWrite_reset, fun ht => ⟨fun hd => ?_, fun hu ha => ?_, fun hu ha => ?_⟩, fun hw hr => ?_,
    exec_nop, exec_store_none, fun hc ho hz => ⟨exec_store_full hc ho hz, fun r ok u => exec_store_copy hc ho hz⟩,
    fun ht hd => ?_⟩
  · rw [exec_doorbell ht, ringDoorbell_down hd]
  · rw [exec_doorbell ht, ringDoorbell_up hu, readProd_ring ha]
  · obtain ⟨n, hn, e⟩ := readProd_overrun ha
    exact ⟨n, hn, by rw [exec_doorbell ht, ringDoorbell_up hu, e]⟩
  · exact congrArg Host.Outcome.next (if_pos ⟨hw, hr⟩)
  · have hx := exec_storeCtrl ht
    obtain ⟨hf, hb⟩ := storeCtrl_fields v
    have hd' := hd
    rw [← hf, ← hb] at hd'
    refine ⟨fun hm => ?_, fun hm => ⟨_, hx, ?_⟩⟩
    · rw [hx, writeStoreCtrl_refused hd' hm]
    · rw [writeStoreCtrl_accepted hd' hm, hf, hb]
      have hi : (s.setStore (bitsNat v.toNat 22 16) (bitsNat v.toNat 5 0)).Inv := (h.wr _ _).wr _ _
      obtain ⟨hlow, hdel⟩ := deleteDir hi (List.range 256)
      obtain ⟨hfirst, hbanks⟩ := setStore_fields h v
      simp only [State.fld, noteWrite_rd]
      refine ⟨?_, ?_, fun n hn => hdel n (.inl (List.mem_range.2 hn))⟩
      · rw [hlow _ (by decide)]
        exact hfirst
      · rw [hlow _ (by decide)]
        exact hbanks

end Sys2Proof.Machine

/-! STAGE, alone and in lockstep (07_cairn_scenes.md R151, R152, R154; 16_belay_twin.md R403). -/

namespace Sys2Proof.Machine

open Sys2Proof

section
variable {s : State} {c : Cmd} {p : StagePlan} {dig : BitVec 64}

/-! ### The steps (R152) -/

/-- The first word of the scene that a STAGE names, by the command itself or by the directory. -/
abbrev State.sceneBase (s : State) (c : Cmd) : Nat :=
  if (c.word 1).getLsbD 63 then c.bits 1 22 0 else bitsNat (s.rd (DIR_LOC + dirOff (c.bits 1 62 55))).toNat 22 0

/-- Its length in words. -/
abbrev State.sceneLen (s : State) (c : Cmd) : Nat :=
  if (c.word 1).getLsbD 63 then c.bits 2 20 0 else s.fld (DIR_LEN_LENGTH.sh (dirOff (c.bits 1 62 55)))

/-- Its records. -/
abbrev State.sceneRecs (s : State) (c : Cmd) : Nat :=
  if (c.word 1).getLsbD 63 then c.bits 1 48 32 else s.fld (DIR_REC_RECORDS.sh (dirOff (c.bits 1 62 55)))

/-- The state in which the steps of a STAGE begin, its plan still empty. -/
abbrev State.stageBegun (s : State) (c : Cmd) (us : Nat) : State :=
  ((s.unstage.beginStage c).wrN CRN_STAGE_TIME (us % 2 ^ 24)).onCrn fun k => { k with
    plan := some ⟨c.bits 1 62 55, (c.word 1).getLsbD 63, 0, [], [], [], [], 0, c.seq, 0⟩ }

/-- A STAGE of a stored scene in a bank that is not ON fails at once; any other runs its steps. -/
theorem exec_stage {us : Nat} (hc : s.crn.cur = some c) (ho : c.opcode = 2) (hw : s.crn.waitDigest = false) :
    exec (.stage us) s = .next (State.pumpAll (
      if !(c.word 1).getLsbD 63 && (s.stageBegun c us).sceneDark (s.sceneBase c) (s.sceneLen c) then
        (s.stageBegun c us).endStage c (some (stageFault 0 0))
      else ((s.stageBegun c us).stageSteps (s.sceneBase c) (s.sceneLen c) (s.sceneRecs c)).2.endStage c
        ((s.stageBegun c us).stageSteps (s.sceneBase c) (s.sceneLen c) (s.sceneRecs c)).1)) := by
  show execStage us s = _
  rw [execStage, runCmd_current hc ho, if_neg (ne_true_of_eq_false hw)]
  by_cases hd : (c.word 1).toNat.testBit 63 = true
  · simp only [State.sceneBase, State.sceneLen, State.sceneRecs, State.stageBegun, BitVec.getLsbD, hd, if_true]
  · simp only [State.sceneBase, State.sceneLen, State.sceneRecs, State.stageBegun, BitVec.getLsbD, hd, if_false,
      Bool.false_eq_true]

/-! ### IDLE and STAGED (R151) -/

theorem unstage_idle (h : s.Inv) : Shows CRN_STAT_STATE 0 s.unstage :=
  (Shows.set h (by decide) (by decide) : Shows CRN_STAT_STATE 0 (s.setFld CRN_STAT_STATE 0))

theorem Shows.unstage {f : Fld} {v : Nat} (h : Shows f v s) (hd : f.off ≠ CRN_STAT ∨ f.hi < 29 ∨ 31 < f.lo := by decide) :
    Shows f v s.unstage :=
  (h.setFld hd : Shows f v (s.setFld CRN_STAT_STATE 0))

theorem stageOk_state (h : s.Inv) : Shows CRN_STAT_STATE 2 (s.stageOk c) :=
  (Shows.set (f := CRN_STAT_STATE) h (by decide) (by decide)).onCrn.completeCmd

theorem Shows.stageOk {f : Fld} {v : Nat} (h : Shows f v s) (hd : f.off ≠ CRN_STAT ∨ f.hi < 29 ∨ 31 < f.lo := by decide) :
    Shows f v (s.stageOk c) :=
  (Shows.onCrn (h.setFld (g := CRN_STAT_STATE) (n := 2) hd)).completeCmd

/-- A STAGE that succeeds is no longer current, and no digest is waited for. -/
theorem stageOk_crn (h : s.Inv) (hc : s.crn.cur = some c) :
    (s.stageOk c).crn.cur = none ∧ (s.stageOk c).crn.peerDigest = none := by
  have hi : ((s.setFld CRN_STAT_STATE 2).onCrn fun k => { k with waitDigest := false, peerDigest := none }).Inv := h.wr _ _
  refine ⟨completeCmd_cur hi hc _, ?_⟩
  obtain ⟨w, e⟩ := completeCmd_crn hi c { primary := 0, aux := match s.crn.plan with | some p => p.count | none => 1 }
  exact congrArg Cairn.peerDigest e

/-- PEER_DISAGREE leaves Cairn IDLE and the engine out of lockstep (R154). -/
theorem disagree_idle (h : s.Inv) (hl : s.lockstep = true) (code : Nat) :
    (s.disagree c code).crnState = 0 ∧ (s.disagree c code).lockstep = false := by
  have hs : Shows CRN_STAT_STATE 0 (s.unstage.completeCmd c { primary := 0x50, aux := code }) := (unstage_idle h).completeCmd
  have hb : Shows BLY_STAT_LOCKSTEP 1 s := ⟨by decide, h, beq_iff_eq.1 hl⟩
  have hl' : (s.unstage.completeCmd c { primary := 0x50, aux := code }).lockstep = true := 
    beq_iff_eq.2 hb.unstage.completeCmd.fld
  exact ⟨(hs.leaveLockstep hl' (by decide)).fld, leaveLockstep_alone hs.inv hl'⟩

/-! ### The end of a STAGE (R152, R154) -/

/-- The STAGE's own result, digested: its code and its digest. -/
def State.stageResult (s : State) (e : Option CplInfo) : Nat × BitVec 64 :=
  let code := match e with
    | some i => i.primary
    | none => 0
  (code, Config.stageDigest s.stagedWords code ((s.crn.plan.map fun p => p.batches).getD []))

/-- The plan with its result. -/
abbrev State.withResult (s : State) (e : Option CplInfo) : State :=
  s.onPlan fun p => { p with digest := (s.stageResult e).2, code := (s.stageResult e).1 }

/-- The same once an engine in lockstep has sent it to its peer. -/
def State.reported (s : State) (c : Cmd) (e : Option CplInfo) : State :=
  if (s.withResult e).lockstep then (s.withResult e).sendBelay 8 s.idx
    (beBytes 4 c.seq ++ beBytes 1 (s.stageResult e).1 ++ beBytes 8 (s.stageResult e).2.toNat) else s.withResult e

theorem endStage_refused (s : State) (c : Cmd) (i : CplInfo) :
    s.endStage c (some i) = (s.reported c (some i)).unstage.completeCmd c i := rfl

theorem endStage_passed (s : State) (c : Cmd) : s.endStage c none =
    if (s.reported c none).lockstep ∧ (s.reported c none).mode = .active then
      ((s.reported c none).onCrn fun k => { k with waitDigest := true }).compareDigest c
    else ((s.reported c none).stageOk c).followDigest := rfl

theorem reported_alone (hl : s.lockstep = false) (c : Cmd) (e : Option CplInfo) : s.reported c e = s.withResult e :=
  if_neg (ne_true_of_eq_false hl)

theorem reported_eq (s : State) (c : Cmd) (e : Option CplInfo) :
    ∃ b o, s.reported c e = { s.withResult e with bly := b, out := o } := by
  unfold State.reported
  split
  · exact sendBelay_eq _ _ _ _
  · exact ⟨_, _, rfl⟩

theorem followDigest_none (h : s.crn.peerDigest = none) : s.followDigest = s := by
  unfold State.followDigest
  rw [h]
  cases s.crn.plan <;> rfl

theorem compareDigest_none (h : s.crn.peerDigest = none) : s.compareDigest c = s := by
  unfold State.compareDigest
  rw [h]
  cases s.crn.plan <;> rfl

/-- Alone, a STAGE that succeeds ends at once. -/
theorem endStage_staged (h : s.Inv) (hl : s.lockstep = false) (hc : s.crn.cur = some c) :
    s.endStage c none = (s.withResult none).stageOk c := by
  have hi : (s.withResult none).Inv := h
  rw [endStage_passed, reported_alone hl, followDigest_none (stageOk_crn hi hc).2]
  exact if_neg fun e => ne_true_of_eq_false hl e.1

/-- In lockstep the active engine keeps its STAGE until the peer's digest comes. -/
theorem endStage_waits (hl : s.lockstep = true) (hm : s.mode = .active) (hp : s.crn.peerDigest = none) :
    (s.endStage c none).crn = { (s.withResult none).crn with waitDigest := true } := by
  obtain ⟨b, o, e⟩ := reported_eq s c none
  have hcond : (s.reported c none).lockstep ∧ (s.reported c none).mode = .active := by
    rw [e]
    exact ⟨hl, hm⟩
  have hn : ((s.reported c none).onCrn fun k => { k with waitDigest := true }).crn.peerDigest = none := by
    rw [e]
    exact hp
  rw [endStage_passed, if_pos hcond, compareDigest_none hn, e]
  rfl

/-! ### The peer's digest -/

/-- A frame that comes changes LINK_OK alone of BLY_STAT. -/
theorem gotFrame_lockstep (s : State) : s.gotFrame.lockstep = s.lockstep := by
  have hne : putBits (s.rd BLY_STAT) 26 26 1 ≠ regReset BLY_STAT := fun e => by
    have hb := getLsbD_putBits (w := s.rd BLY_STAT) (hi := 26) (lo := 26) (v := 1) (i := 26) (by decide)
    rw [e, if_pos (by decide)] at hb
    exact absurd hb (by decide +kernel)
  have hrd : s.gotFrame.rd BLY_STAT = putBits (s.rd BLY_STAT) 26 26 1 := (rd_wr_inserted hne).trans (if_pos rfl)
  have hbit : (s.gotFrame.rd BLY_STAT).getLsbD 24 = (s.rd BLY_STAT).getLsbD 24 := by
    rw [hrd, getLsbD_putBits (by decide), if_neg (by decide)]
  simp only [State.lockstep, BLY_STAT_LOCKSTEP, fld_bit]
  exact congrArg (fun b : Bool => b.toNat == 1) hbit

theorem exec_stageDigest_alone (hl : s.lockstep = false) (seq : Reg32) (code : Byte) :
    exec (.stageDigest seq code dig) s = .next s.gotFrame :=
  if_pos (ne_true_of_eq_false ((gotFrame_lockstep s).trans hl))

/-- The state in which the peer's digest has come. -/
abbrev State.digestCame (s : State) (seq code : Nat) (dig : BitVec 64) : State :=
  s.gotFrame.onCrn fun k => { k with peerDigest := some (seq, code, dig) }

theorem waitingStage_some (hw : s.crn.waitDigest = true) (hc : s.crn.cur = some c) (ho : c.opcode = 2) :
    s.waitingStage = some c := by
  rw [State.waitingStage, if_pos hw, hc]
  exact if_pos (beq_iff_eq.2 ho)

theorem exec_stageDigest_waited (hl : s.lockstep = true) (hw : s.crn.waitDigest = true) (hc : s.crn.cur = some c)
    (ho : c.opcode = 2) (seq : Reg32) (code : Byte) : exec (.stageDigest seq code dig) s =
      .next ((s.digestCame seq.toNat code.toNat dig).compareDigest c).pumpAll := by
  show execStageDigest seq code dig s = _
  have hs : (s.digestCame seq.toNat code.toNat dig).waitingStage = some c := waitingStage_some hw hc ho
  unfold execStageDigest
  refine (if_neg (not_not_intro ((gotFrame_lockstep s).trans hl))).trans ?_
  simp only [hs]

/-- Equal digests complete the STAGE; others refuse it. -/
theorem compareDigest_came (hp : s.crn.plan = some p) (hd : s.crn.peerDigest = some (c.seq, 0, dig)) :
    s.compareDigest c = if dig = p.digest then s.stageOk c else s.disagree c 0 := by
  simp only [State.compareDigest, hp, hd, ne_eq, not_true_eq_false, if_false, true_and]

/-- The peer's digest of the STAGE that waits, its code OK, ends it. -/
theorem exec_stageDigest_ends (hl : s.lockstep = true) (hw : s.crn.waitDigest = true) (hc : s.crn.cur = some c)
    (ho : c.opcode = 2) (hp : s.crn.plan = some p) : exec (.stageDigest (BitVec.ofNat 32 c.seq) 0 dig) s =
      .next (State.pumpAll (if dig = p.digest then (s.digestCame c.seq 0 dig).stageOk c
        else (s.digestCame c.seq 0 dig).disagree c 0)) := by
  have hseq : (BitVec.ofNat 32 c.seq).toNat = c.seq := Nat.mod_eq_of_lt (Nat.mod_lt _ (by decide))
  have hcmp : (s.digestCame c.seq 0 dig).compareDigest c = _ := compareDigest_came hp rfl
  rw [exec_stageDigest_waited hl hw hc ho, hseq, ← hcmp]
  rfl

end

/-- Settles O54: a STAGE runs its steps and ends with their result; the digests compare as `compareDigest` says, and
PEER_DISAGREE takes the engine out of lockstep. -/
theorem stagingRuns : Obligations.StagingRuns := by
  intro s c hc ho
  refine ⟨fun us hw => ?_, fun i h hl => ?_, fun h hl _ _ => ?_, fun _ hl hm hp => ?_,
    fun seq code dig hl => exec_stageDigest_alone hl seq code, fun p dig h _ hl hw hp => ?_, fun hw => ?_, fun hw => ?_⟩
  · intro direct n base len recs u
    have hx := exec_stage (us := us) hc ho hw
    refine ⟨fun hd hdark => hx.trans (congrArg Host.Outcome.next ?_), fun hd => hx.trans (congrArg Host.Outcome.next ?_)⟩
    · have hcond : (!direct && u.sceneDark base len) = true := by rw [hd, hdark]; rfl
      exact congrArg State.pumpAll (if_pos hcond)
    · have hcond : ¬ (!direct && u.sceneDark base len) = true := by
        rcases hd with hd | hd <;> simp [hd]
      exact congrArg State.pumpAll (if_neg hcond)
  · have hi : (s.withResult (some i)).Inv := h
    refine ⟨(s.withResult (some i)).unstage, ?_, (unstage_idle hi).fld, rfl⟩
    rw [endStage_refused, reported_alone hl]
  · have hi : (s.withResult none).Inv := h
    rw [endStage_staged h hl hc]
    exact ⟨(stageOk_state hi).fld, (stageOk_crn hi hc).1⟩
  · rw [endStage_waits hl hm hp]
    exact ⟨rfl, hc⟩
  · have hi : (s.digestCame c.seq 0 dig).Inv := h.wr _ _
    have hl' : (s.digestCame c.seq 0 dig).lockstep = true := (gotFrame_lockstep s).trans hl
    have hx := exec_stageDigest_ends (dig := dig) hl hw hc ho hp
    refine ⟨fun hd => ⟨_, (if_pos hd ▸ hx), ?_⟩, fun hd => ⟨_, (if_neg hd ▸ hx), disagree_idle hi hl' 0⟩⟩
    have hb : Shows BLY_STAT_LOCKSTEP 1 (s.digestCame c.seq 0 dig) := ⟨by decide, hi, beq_iff_eq.1 hl'⟩
    exact ⟨(stageOk_state hi).fld, (stageOk_crn hi hc).1, beq_iff_eq.2 hb.stageOk.fld⟩
  · show execStageDigestTimeout s = _
    rw [execStageDigestTimeout, waitingStage_some hw hc ho]
  · show execStageDigestTimeout s = _
    rw [execStageDigestTimeout, State.waitingStage, if_neg (ne_true_of_eq_false hw)]

end Sys2Proof.Machine

/-! The flip of a commit and the live copy of the Truss tables (07_cairn_scenes.md R156, R163; 04_truss_graph.md R70). -/

namespace Sys2Proof.Machine

open Sys2Proof

/-- The invariant holds and TRS_TABLE_SEL.LIVE reads `v`. -/
abbrev LiveIs (v : Nat) (s : State) : Prop := Shows TRS_TABLE_SEL_LIVE v s

section
variable {s was : State} {g : Fld} {a b e n o u v f d k key : Nat} {x : Reg32} {p : StagePlan}

/-! ### The journal (R162, R163) -/

/-- The registers of the units, and the journal, lie above TRS_TABLE_SEL. -/
theorem Shows.wr_above (h : LiveIs v s) (ha : TRS_TABLE_SEL < a) : LiveIs v (s.wr a x) := h.wr (Nat.ne_of_lt ha)

theorem Shows.setFld_above (h : LiveIs v s) (hg : TRS_TABLE_SEL < g.off) : LiveIs v (s.setFld g n) :=
  h.setFld (.inl (Nat.ne_of_lt hg))

theorem Shows.setJState (h : LiveIs v s) : LiveIs v (s.setJState e n) :=
  have h1 : LiveIs v (s.setFld (J_INFO_STATE.sh (jOff e)) n) := h.setFld_above (Nat.lt_add_right _ (by decide))
  h1

theorem Shows.jDone (h : LiveIs v s) : LiveIs v (s.jDone e u) := by
  unfold State.jDone
  extract_lets j s1
  have h1 : LiveIs v s1 := h.wr_above (Nat.lt_add_right _ (by decide))
  have h2 : LiveIs v (s1.wrIdx (J_END_LO + jOff e) (J_END_HI + jOff e) s1.idx) :=
    h1.wrIdx (Nat.ne_of_lt (Nat.lt_add_right _ (by decide))) (Nat.ne_of_lt (Nat.lt_add_right _ (by decide)))
  exact .ite h2.setJState.evt h1

theorem Shows.unitDone (h : LiveIs v s) {q : Nat → Bool} : LiveIs v (s.unitDone u q) := h.foldl fun _ _ h => h.jDone

/-! ### Truss (06 R121 to R128) -/

theorem Shows.beginStep (h : LiveIs v s) {w w' : Word} : LiveIs v (s.beginStep key w w' f n) := .ite h.onTrs h

theorem Shows.restartStep (h : LiveIs v s) : LiveIs v (s.restartStep key f n) := by
  unfold State.restartStep
  split
  · exact h.onTrs
  · exact h

theorem Shows.carryStates (h : LiveIs v s) {q : Nat → Bool} : LiveIs v (s.carryStates a b q) :=
  ⟨h.steady, ⟨foldl_mset_wf (mwf_mkeep (α := Byte) (d := 0) h.inv.1 _), h.inv.2⟩, h.fld⟩

theorem Shows.flipStrip (h : LiveIs v s) : LiveIs v (s.flipStrip o n f k) := by
  unfold State.flipStrip
  extract_lets w0 t trim fader s1 c s2
  have h1 : LiveIs v s1 := h.beginStep
  have h2 : LiveIs v s2 := h1.onTrs
  exact .ite (.ite h2.onTrs h2.onTrs) h1.beginStep

theorem Shows.stopStrip (h : LiveIs v s) : LiveIs v (s.stopStrip n f k) := by
  unfold State.stopStrip
  extract_lets t fader s1 s2
  have h1 : LiveIs v s1 := h.restartStep
  have h2 : LiveIs v s2 := .ite h1.beginStep h1.restartStep
  exact h2.onTrs

theorem Shows.flipEdges (h : LiveIs v s) {es : List Edge} {q : CopyDiff} : LiveIs v (s.flipEdges o n f es q) := by
  unfold State.flipEdges
  extract_lets s1
  have h1 : LiveIs v s1 := h.foldl fun _ _ h => h.onTrs
  exact h1.foldl fun _ _ h => h.beginStep

theorem Shows.startStrip (h : LiveIs v s) : LiveIs v (s.startStrip n f k) := by
  unfold State.startStrip
  extract_lets w0 zero s1 s2 s3
  have hz (s : State) (q : Nat) (h : LiveIs v s) : LiveIs v (zero s q) := h.setWord.setWord
  have h1 : LiveIs v s1 := .ite (hz _ _ h) h
  have h2 : LiveIs v s2 := .ite (hz _ _ h1) h1
  have h3 : LiveIs v s3 := h2.onTrs.onTrs
  exact h3.onTrs

theorem Shows.switchOver (h : LiveIs v s) {c : Changeover} : LiveIs v (s.switchOver k n c) := by
  unfold State.switchOver
  extract_lets w0 w3 delayNew z s1 s2
  have h1 : LiveIs v s1 := .ite h.setWord.setWord h
  have h2 : LiveIs v s2 := h1.onTrs
  exact .ite h2 h2.onTrs

theorem Shows.trussDone (h : LiveIs v s) : LiveIs v s.trussDone := .ite h.unitDone h

theorem Shows.checkStepsDone (h : LiveIs v s) : LiveIs v s.checkStepsDone := by
  unfold State.checkStepsDone
  extract_lets s1 left
  have h1 : LiveIs v s1 := .ite h.onTrs.trussDone h
  exact h1.onTrs.foldl fun _ _ h => h.evt

theorem Shows.refreshXfade (h : LiveIs v s) : LiveIs v s.refreshXfade := h.setFld_above (by decide)

theorem Shows.putShed (h : LiveIs v s) {sh : SMap Nat} {full : Bool} : LiveIs v (s.putShed sh full) := by
  unfold State.putShed
  extract_lets num step s1 s2 touched
  have h1 : LiveIs v s1 := h.wr_above (by decide)
  have h2 : LiveIs v s2 := Shows.wr_above (h1.wr_above (by decide)) (by decide)
  exact h2.foldl fun _ _ h => h.wr_above (Nat.lt_add_right _ (by decide))

theorem Shows.reshed (h : LiveIs v s) : LiveIs v (s.reshed n) := by
  unfold State.reshed
  extract_lets fab u was
  split
  next sh full _ =>
    extract_lets s1 s2 s3 s4
    have h1 : LiveIs v s1 := .ite h (h.wrIdx (by decide) (by decide)).evt
    have h2 : LiveIs v s2 := h1.putShed.onTrs
    have h3 : LiveIs v s3 := .ite h2.evt h2
    have h4 : LiveIs v s4 := h3.wr_above (by decide)
    exact h4.degrade

theorem Shows.reopen (h : LiveIs v s) : LiveIs v (s.reopen n) := h.onTrs.onTrs

theorem other_lt (s : State) : s.other < 2 := Nat.lt_succ_iff.2 (Nat.sub_le 1 s.live)

/-- At the flip of Truss the copy that was not live becomes live. -/
theorem flipTruss_live (h : s.Inv) (c : Commit) : LiveIs s.other (s.flipTruss c p) := by
  unfold State.flipTruss
  extract_lets before o n f vo vn d on was both s1 s2 s3 gone s4 s5 s6 b s7 s8 s9 s10 s11 s12 s13
  have h1 : LiveIs s.live s1 := (Shows.refl h (by decide)).carryStates
  have h2 : LiveIs s.live s2 := h1.foldl fun _ _ h => h.flipStrip
  have h3 : LiveIs s.live s3 := h2.foldl fun _ _ h => h.stopStrip
  have h4 : LiveIs s.live s4 := h3.flipEdges
  have h5 : LiveIs s.live s5 := h4.onTrs
  have h6 : LiveIs s.live s6 := h5.foldl fun _ _ h => h.startStrip
  have h7 : LiveIs s.live s7 := h6.onTrs
  have hflip : LiveIs s.other (s7.setFld TRS_TABLE_SEL_LIVE n) := .set h7.inv (by decide) (other_lt s)
  have h8 : LiveIs s.other s8 := (hflip.wrIdx (by decide) (by decide)).evt
  have h9 : LiveIs s.other s9 := h8.foldl fun s i h => by
    split
    · exact h.switchOver
    · exact h
  have h10 : LiveIs s.other s10 := h9.onTrs
  have h11 : LiveIs s.other s11 := h10.setFld_above (by decide)
  have h12 : LiveIs s.other s12 := h11.wr_above (by decide)
  have h13 : LiveIs s.other s13 := .ite h12.evt h12
  exact h13.refreshXfade.checkStepsDone.trussDone.reshed.reopen

/-! ### The staged registers (R140) -/

/-- No scene stages a field of TRS_TABLE_SEL, so that a record naming it changes nothing. -/
theorem Shows.flipRegs (h : LiveIs v s) : LiveIs v (s.flipRegs p u) := by
  refine h.foldl fun t r ht => ?_
  by_cases hr : r.1 = TRS_TABLE_SEL
  · have hm : stagedMask r.1 = 0 := hr ▸ (by decide +kernel)
    have hsame : (t.rd r.1 &&& ~~~BitVec.ofNat 32 (stagedMask r.1)) ||| (r.2 &&& BitVec.ofNat 32 (stagedMask r.1)) =
        t.rd r.1 := by
      rw [hm, show ~~~BitVec.ofNat 32 0 = BitVec.allOnes 32 from rfl, BitVec.and_allOnes]
      simp
    dsimp only
    rw [hsame, wr_rd_self ht.inv]
    exact ht
  · exact ht.wr (Ne.symm hr)

/-! ### The ports (11 R250) -/

theorem Shows.onPrt (h : LiveIs v s) {q : Ports → Ports} : LiveIs v (s.onPrt q) := h

theorem Shows.emit (h : LiveIs v s) {q : Out} : LiveIs v (s.emit q) := h

theorem Shows.showPins (h : LiveIs v s) : LiveIs v (s.showPins was d) := h.foldl fun _ _ h => .ite h h.emit

theorem Shows.checkPortsDone (h : LiveIs v s) : LiveIs v s.checkPortsDone := .ite h.onPrt.unitDone h.onPrt

theorem sideStat_above (d : Nat) : TRS_TABLE_SEL < (sideStat d).off := by
  unfold sideStat
  split
  · split <;> exact Nat.lt_add_right _ (by decide)
  · exact Nat.lt_add_right _ (by decide)

theorem Shows.setSide (h : LiveIs v s) : LiveIs v (s.setSide d n) := by
  unfold State.setSide
  extract_lets was tgt s1 i y s2 s3 s4
  have h1 : LiveIs v s1 := (h.setFld_above (sideStat_above d)).onPrt
  have h2 : LiveIs v s2 := .ite h1.onPrt h1
  have h3 : LiveIs v s3 := .ite h2.showPins h2
  have h4 : LiveIs v s4 := .ite h3 h3.emit
  exact h4.checkPortsDone

theorem Shows.startSide (h : LiveIs v s) : LiveIs v (s.startSide d) := by
  unfold State.startSide
  extract_lets st
  exact .ite (.ite h.setSide (.ite h.onPrt.checkPortsDone h.setSide)) (.ite h.setSide h.onPrt.checkPortsDone)

theorem Shows.stopSide (h : LiveIs v s) : LiveIs v (s.stopSide d) := by
  unfold State.stopSide
  extract_lets st
  exact .ite h.setSide (.ite h.setSide (.ite h.onPrt h.onPrt.checkPortsDone))

theorem Shows.sideEnabled (h : LiveIs v s) {on : Bool} : LiveIs v (s.sideEnabled d on) :=
  .ite (.ite h h.onPrt) (.ite h.startSide h.stopSide)

theorem Shows.grpWritten (h : LiveIs v s) : LiveIs v (s.grpWritten was d) := by
  unfold State.grpWritten
  extract_lets a s1
  have h1 : LiveIs v s1 := .ite h (Shows.onPrt (h.wr_above (Nat.lt_add_right _ (by decide))))
  exact .ite h1 h1.emit

theorem Shows.flipSide (h : LiveIs v s) : LiveIs v (s.flipSide was d).2 := by
  unfold State.flipSide
  extract_lets on s1 old new same st
  have h1 : LiveIs v s1 := .ite (.ite h h.onPrt) h
  split
  · exact h1.sideEnabled
  split
  · exact h1
  split
  · exact h1.setSide.startSide
  split
  · exact h1
  · exact h1.onPrt.stopSide

theorem Shows.flipPorts (h : LiveIs v s) : LiveIs v (s.flipPorts p) := by
  unfold State.flipPorts
  extract_lets was s1 s2 s3 blocks'
  have h2 : LiveIs v s2 := h.flipRegs.foldl fun _ _ h => h.grpWritten
  have h3 : LiveIs v s3 := h2.foldl fun _ _ h => .ite h h.onPrt
  split
  next js t e =>
    have ht : LiveIs v t := by
      refine Shows.of_pair (e := _) ?_ e
      exact List.foldlRecOn (motive := fun q : List Nat × State => LiveIs v q.2) _ _ h3 fun q hq d _ => hq.flipSide
    extract_lets blocks cs us s4 s5 loads s6 s7
    have h4 : LiveIs v s4 := ht.foldl fun _ _ h => h.setFld_above (Nat.lt_add_right _ (by decide))
    have h5 : LiveIs v s5 := h4.foldl fun _ _ h => h.setFld_above (Nat.lt_add_right _ (by decide))
    have h7 : LiveIs v s7 := h5.onPrt.foldl fun _ _ h => h.showPins
    exact .ite h7.unitDone h7.checkPortsDone

/-! ### The other units (R156, R160; 13 R313, 14 R343) -/

theorem Shows.onNet (h : LiveIs v s) {q : Net → Net} : LiveIs v (s.onNet q) := h

theorem Shows.onMlt (h : LiveIs v s) {q : Mallet → Mallet} : LiveIs v (s.onMlt q) := h

theorem Shows.onChs (h : LiveIs v s) {q : Chisel → Chisel} : LiveIs v (s.onChs q) := h

theorem Shows.ttSettings (h : LiveIs v s) : LiveIs v s.ttSettings := by
  unfold State.ttSettings
  extract_lets was s1 now
  have h1 : LiveIs v s1 := h.onNet
  exact .ite (Shows.onNet (h1.wr_above (by decide))) (.ite h1 h1.onNet)

theorem Shows.flipNet (h : LiveIs v s) : LiveIs v (s.flipNet p) := by
  unfold State.flipNet
  extract_lets tt s1
  have h1 : LiveIs v s1 := by
    refine List.foldlRecOn _ _ h fun t ht r hr => ?_
    have hunit : regUnit r.1 = 2 := beq_iff_eq.1 (List.mem_filter.1 hr).2
    have hne : TRS_TABLE_SEL ≠ r.1 := fun e => absurd (e ▸ hunit) (by decide)
    have hw (x : Reg32) : LiveIs v (t.wr r.1 x) := ht.wr hne
    exact .ite (hw _) (.ite (hw _) (hw _).ttSettings)
  exact .ite h1.onNet h1.unitDone

theorem Shows.flipMallet (h : LiveIs v s) : LiveIs v (s.flipMallet p) := by
  unfold State.flipMallet
  extract_lets was s1 wait s2
  have h1 : LiveIs v s1 := h.flipRegs
  have h2 : LiveIs v s2 := h1.onMlt
  exact .ite h2.unitDone (.ite h2.onMlt.unitDone h2.onMlt)

theorem Shows.applyPatches (h : LiveIs v s) : LiveIs v (s.applyPatches k d n).2 := h.onChs.foldl fun _ _ h => h.setWord

theorem Shows.flipCore (h : LiveIs v s) {c : Commit} : LiveIs v (s.flipCore c p k) := by
  unfold State.flipCore
  extract_lets f old late s1 patches s2 s3
  have h1 : LiveIs v s1 := by
    unfold s1
    split
    · exact h
    · exact h.onChs
    · exact .ite h h.onChs
  have h2 : LiveIs v s2 := h1.onChs
  have h3 : LiveIs v s3 := by
    unfold s3
    split
    · exact h2.applyPatches
    · exact h2
  exact .ite h2 h3.unitDone

/-! ### COMMIT_FLIP (R156) -/

/-- The commit's units flip: the staged copy becomes live where Truss is one of them, and no other unit changes that. Its COMMIT
then completes. -/
theorem flip_ends (h : s.Inv) (c : Commit) (p : StagePlan) : ∃ t a b, LiveIs (if p.units.testBit 0 then s.other else s.live) t ∧
    t.crn.plan = none ∧ s.flip c p = t.completeCommit c a b := by
  unfold State.flip
  extract_lets e s1 s2 s3 s4 s5 has s6 s7 s8 s9 s10 s11 s12
  have h1 : LiveIs s.live s1 := (Shows.refl h (by decide)).wr_above (Nat.lt_add_right _ (by decide))
  have h2 : LiveIs s.live s2 := h1.setFld_above (Nat.lt_add_right _ (by decide))
  have h3 : LiveIs s.live s3 := h2.setJState.evt
  have h4 : LiveIs s.live s4 := h3.setFld_above (by decide)
  have h5 : LiveIs s.live s5 := .ite h4.jDone h4
  have ho : s5.other = s.other := congrArg (1 - ·) h5.fld
  have h6 : LiveIs (if p.units.testBit 0 then s.other else s.live) s6 := by
    by_cases hu : p.units.testBit 0 = true
    · rw [if_pos hu, ← ho, show s6 = s5.flipTruss c p from if_pos hu]
      exact flipTruss_live h5.inv c
    · rw [if_neg hu, show s6 = s5 from if_neg hu]
      exact h5
  have h7 : LiveIs _ s7 := .ite h6.flipPorts h6
  have h8 : LiveIs _ s8 := .ite h7.flipNet h7
  have h9 : LiveIs _ s9 := .ite h8.flipMallet h8
  have h10 : LiveIs _ s10 := .ite h9.flipRegs.unitDone h9
  have h11 : LiveIs _ s11 := h10.foldl fun _ _ h => h.flipCore
  have h12 : LiveIs _ s12 := h11.onChs.onCrn
  have hend : ∃ a b, (if 1 < p.batches.length then s12.completeCommit c 0x60 p.batches.length else s12.completeCommit c 0 0) =
      s12.completeCommit c a b := by
    split <;> exact ⟨_, _, rfl⟩
  obtain ⟨a, b, hab⟩ := hend
  exact ⟨s12, a, b, h12, rfl, hab⟩

/-- After the flip of a commit that involves Truss the staged copy is live. -/
theorem flip_live (h : s.Inv) (c : Commit) (hu : p.units.testBit 0 = true) : (s.flip c p).live = s.other := by
  obtain ⟨t, a, b, ht, _, e⟩ := flip_ends h c p
  rw [e, State.live, ht.completeCommit.fld, if_pos hu]

/-- After a flip no scene is staged. -/
theorem flip_plan (h : s.Inv) (c : Commit) (p : StagePlan) : (s.flip c p).crn.plan = none := by
  obtain ⟨t, a, b, ht, hp, e⟩ := flip_ends h c p
  rw [e, completeCommit_plan ht.inv, hp]

end

end Sys2Proof.Machine

/-! COMMIT, ABORT and the end of the changes (07_cairn_scenes.md R151, R155, R156, R162). -/

namespace Sys2Proof.Machine

open Sys2Proof

section
variable {s : State} {c : Cmd} {p : StagePlan} {k : Commit} {j f win v : Nat} {late : Bool}

/-! ### The journal record of a commit (R162) -/

/-- The state of the record in place `j` modulo 32. -/
abbrev jStateFld (j : Nat) : Fld := J_INFO_STATE.sh (jOff j)

theorem jStateFld_off (j : Nat) : (jStateFld j).off = 0x21804 + 0x40 * (j % 32) := rfl

theorem jStateFld_steady (j : Nat) : (jStateFld j).Steady := by
  refine ⟨(by decide : 14 < 32), ?_, ?_, ?_, ?_⟩
  · rw [jStateFld_off]
    omega
  · rw [jStateFld_off]
    omega
  · have hfar : ∀ a ∈ bookRegs, a < 0x21804 ∨ 0x22000 ≤ a := by decide
    intro hm
    have ha := hfar _ hm
    rw [jStateFld_off] at ha
    omega
  · rw [jStateFld_off, CRN_STAT]
    omega

theorem jStateFld_ne {a : Nat} (ha : a < 0x21804) (j : Nat) : (jStateFld j).off ≠ a := by
  rw [jStateFld_off]
  omega

/-- A record shows the state it is set to. -/
theorem setJState_shows (h : s.Inv) (j : Nat) (hv : v < 8) : Shows (jStateFld j) v (s.setJState j v) :=
  (Shows.set h (jStateFld_steady j) hv : Shows (jStateFld j) v (s.setFld (jStateFld j) v))

theorem jOff_mod (j : Nat) : jOff (j % 32) = jOff j := congrArg (0x40 * ·) (Nat.mod_mod j 32)

/-- The record of a commit that arms is ARMED. -/
theorem openJournal_armed (h : s.Inv) : Shows (jStateFld (j % 32)) 1 (s.openJournal c p j f win late) := by
  unfold State.openJournal
  extract_lets o s1 s2 s3 s4 s5
  have h1 : Ok s.pending {} s1 := ok_foldl (ok_free h) fun _ _ h => State.wrN_ok h
  have h4 : Ok s.pending {} s4 := State.wrN_ok (State.wrIdx_ok (State.wrN_ok (State.wrN_ok h1)))
  have h5 : Shows (jStateFld (j % 32)) 1 s5 := setJState_shows (State.wrN_ok h4).inv _ (by decide)
  have hne : (jStateFld (j % 32)).off ≠ (J_FAULT_LATE.sh o).off := by
    show 0x21804 + jOff (j % 32) ≠ 0x21824 + jOff j
    rw [jOff_mod]
    omega
  exact .ite (Shows.evt (h5.setFld (.inl hne))) h5

/-! ### COMMIT (R155) -/

theorem exec_commit_unstaged (hc : s.crn.cur = some c) (ho : c.opcode = 3) (hp : s.crn.plan = none) :
    exec .commit s = .next (s.completeCmd c { primary := 0x03, aux := s.crnState }).pumpAll := by
  show execCommit s = _
  rw [execCommit, runCmd_current hc ho]
  simp only [hp]

/-- The commit that `c` arms. -/
abbrev State.commitOf (s : State) (c : Cmd) : Commit :=
  ⟨c.seq, (s.rd CRN_JNL_NEXT).toNat, (s.flipSample c).1, s.window c, (c.word 1).getLsbD 61⟩

/-- The next journal record is opened, and the counter and CRN_ARM_IDX follow. -/
abbrev State.recorded (s : State) (c : Cmd) (p : StagePlan) : State :=
  ((s.openJournal c p (s.rd CRN_JNL_NEXT).toNat (s.flipSample c).1 (s.window c) (s.flipSample c).2).wrN CRN_JNL_NEXT
    ((s.rd CRN_JNL_NEXT).toNat + 1)).wrIdx CRN_ARM_IDX_LO CRN_ARM_IDX_HI (s.flipSample c).1

/-- Cairn is ARMED; the COMMIT goes on until its flip. -/
def State.armed (s : State) (c : Cmd) (p : StagePlan) : State :=
  ((((s.recorded c p).setFld CRN_STAT_STATE 3).onCrn fun q => { q with commit := some (s.commitOf c) }).tell 2 0
    (s.flipSample c).1 (beBytes 6 (s.flipSample c).1)).detach c

theorem exec_commit_arms (hc : s.crn.cur = some c) (ho : c.opcode = 3) (hp : s.crn.plan = some p) :
    exec .commit s = .next (s.armed c p).pumpAll := by
  show execCommit s = _
  rw [execCommit, runCmd_current hc ho]
  simp only [hp]
  rfl

/-- A field that arming does not write after CRN_ARM_IDX. -/
theorem Shows.armed {g : Fld} (h : Shows g v (s.recorded c p)) (hd : g.off ≠ CRN_STAT) : Shows g v (s.armed c p) :=
  (((h.setFld (.inl hd)).onCrn.tell).onCrn).refreshOutstanding

theorem tell_crn (s : State) (u i n : Nat) (l : List Byte) : (s.tell u i n l).crn = s.crn := by
  unfold State.tell
  split
  · obtain ⟨b, o, e⟩ := sendBelay_eq s 7 n (beBytes 1 u ++ beBytes 2 i ++ l)
    rw [e]
  · rfl

theorem armed_crn (s : State) (c : Cmd) (p : StagePlan) :
    (s.armed c p).crn.cur = none ∧ (s.armed c p).crn.commit = some (s.commitOf c) := by
  unfold State.armed State.detach State.refreshOutstanding
  rw [State.setFld_crn, State.onCrn_crn, tell_crn]
  exact ⟨rfl, rfl⟩

/-- What the registers show of an armed commit: Cairn's state, the record, the counter and the flip sample. -/
theorem armed_shows (h : s.Inv) (hf : (s.flipSample c).1 < 2 ^ 48) : (s.armed c p).crnState = 3 ∧
    (s.armed c p).jState ((s.rd CRN_JNL_NEXT).toNat % 32) = 1 ∧ (s.armed c p).rd CRN_JNL_NEXT = s.rd CRN_JNL_NEXT + 1 ∧
    (s.armed c p).rdPair CRN_ARM_IDX_LO CRN_ARM_IDX_HI = (s.flipSample c).1 := by
  have hj := openJournal_armed (c := c) (p := p) (j := (s.rd CRN_JNL_NEXT).toNat) (f := (s.flipSample c).1)
    (win := s.window c) (late := (s.flipSample c).2) h
  have hrec : Shows (jStateFld ((s.rd CRN_JNL_NEXT).toNat % 32)) 1 (s.recorded c p) :=
    (hj.wr (jStateFld_ne (by decide) _)).wrIdx (jStateFld_ne (by decide) _) (jStateFld_ne (by decide) _)
  have hnext : Shows (whole CRN_JNL_NEXT) _ (s.recorded c p) := (Shows.wr_whole hj.inv (by decide)).wrIdx (by decide) (by decide)
  have hlo : Shows (whole CRN_ARM_IDX_LO) _ (s.recorded c p) := (Shows.wr_whole (hj.inv.wr _ _) (by decide)).wr (by decide)
  have hhi : Shows (whole CRN_ARM_IDX_HI) _ (s.recorded c p) := Shows.wr_whole ((hj.inv.wr _ _).wr _ _) (by decide)
  have hst : Shows CRN_STAT_STATE 3 ((s.recorded c p).setFld CRN_STAT_STATE 3) := .set hrec.inv (by decide) (by decide)
  refine ⟨hst.onCrn.tell.onCrn.refreshOutstanding.fld, (hrec.armed (jStateFld_ne (by decide) _)).fld, ?_, ?_⟩
  · have e := (hnext.armed (by decide)).fld
    rw [fld_whole] at e
    have hinc : BitVec.ofNat 32 ((s.rd CRN_JNL_NEXT).toNat + 1) = s.rd CRN_JNL_NEXT + 1 := by
      rw [BitVec.ofNat_add, BitVec.ofNat_toNat, BitVec.setWidth_eq]
      rfl
    exact (BitVec.eq_of_toNat_eq e).trans hinc
  · have elo := (hlo.armed (by decide)).fld
    have ehi := (hhi.armed (by decide)).fld
    rw [fld_whole, BitVec.toNat_ofNat] at elo ehi
    rw [State.rdPair, elo, ehi]
    omega

/-! ### The flip (R156) and the end of the changes (R151) -/

theorem exec_commitFlip_due (hk : s.crn.commit = some k) (hp : s.crn.plan = some p) (hs : s.crnState = 3)
    (hd : idxLe k.flip s.idx = true) : exec .commitFlip s = .next (s.flip k p).pumpAll := by
  show execCommitFlip s = _
  rw [execCommitFlip, hk, hp]
  exact congrArg Host.Outcome.next (if_pos ⟨hs, hd⟩)

/-- Cairn is IDLE with no commit under way. -/
abbrev State.settledIdle (s : State) : State :=
  (s.trussDone.setFld CRN_STAT_STATE 0).onCrn fun q => { q with commit := none }

theorem exec_changingEnd (hs : s.crnState = 4) (hx : s.trs.xf = none) (hf : s.fld TRS_GRAPH_STAT_XFADE = 0)
    (hr : s.trs.srcRamp = []) (hk : s.trs.sinkRamp = []) : exec .changingEnd s = .next s.settledIdle.pumpAll :=
  congrArg Host.Outcome.next (if_pos ⟨hs, hx, hf, hr, hk⟩)

theorem settledIdle_state (h : s.Inv) : s.settledIdle.crnState = 0 :=
  have ht : s.trussDone.Inv := (State.trussDone_ok (ok_free h)).inv
  (Shows.set (f := CRN_STAT_STATE) ht (by decide) (by decide)).fld

/-! ### ABORT (R151) -/

theorem exec_abort_idle (hc : s.crn.cur = some c) (ho : c.opcode = 4) (hk : s.crn.commit = none) :
    exec .abort s = .next (s.unstage.completeCmd c { primary := 0 }).pumpAll := by
  show execAbort s = _
  rw [execAbort, runCmd_current hc ho]
  simp only [hk]

/-- The armed commit `k` is cancelled: its record is CANCELLED and its COMMIT completes. -/
abbrev State.cancelled (s : State) (k : Commit) : State :=
  ((s.setJState (k.jnl % 32) 4).completeCommit k 0x04 0).onCrn fun q => { q with commit := none }

theorem exec_abort_armed (hc : s.crn.cur = some c) (ho : c.opcode = 4) (hk : s.crn.commit = some k) (hs : s.crnState = 3) :
    exec .abort s = .next ((s.cancelled k).unstage.completeCmd c { primary := 0 }).pumpAll := by
  show execAbort s = _
  rw [execAbort, runCmd_current hc ho]
  simp only [hk, if_pos hs]

theorem cancelled_shows (h : s.Inv) : Shows (jStateFld (k.jnl % 32)) 4 (s.cancelled k) :=
  have hj : Shows (jStateFld (k.jnl % 32)) 4 (s.setJState (k.jnl % 32) 4) := setJState_shows h _ (by decide)
  (hj.completeCommit (k := k) (a := 0x04) (b := 0)).onCrn

theorem abort_crn (h : s.Inv) (i : CplInfo) : ((s.cancelled k).unstage.completeCmd c i).crn.commit = none ∧
    ((s.cancelled k).unstage.completeCmd c i).crn.plan = none := by
  have hi : (s.cancelled k).unstage.Inv := (unstage_idle (cancelled_shows h).inv).inv
  obtain ⟨w, e⟩ := completeCmd_crn hi c i
  rw [e]
  exact ⟨rfl, rfl⟩

/-- An ABORT leaves Cairn IDLE and the record CANCELLED. -/
theorem abort_shows (h : s.Inv) (i : CplInfo) : ((s.cancelled k).unstage.completeCmd c i).crnState = 0 ∧
    ((s.cancelled k).unstage.completeCmd c i).jState (k.jnl % 32) = 4 := by
  have hidle : Shows CRN_STAT_STATE 0 (s.cancelled k).unstage := unstage_idle (cancelled_shows h).inv
  have hrec : Shows (jStateFld (k.jnl % 32)) 4 (s.cancelled k).unstage :=
    (cancelled_shows h).unstage (.inl (jStateFld_ne (by decide) _))
  exact ⟨hidle.completeCmd.fld, hrec.completeCmd.fld⟩

end

/-- Settles O55: what a COMMIT arms, the live copy once it has flipped, what ABORT cancels, and the end of the changes. -/
theorem commitsFlip : Obligations.CommitsFlip := by
  intro s c h
  refine ⟨exec_commit_unstaged, fun p hc ho hp hf => ?_, fun k p hk hp hs hd => ⟨exec_commitFlip_due hk hp hs hd,
    flip_plan h k p, flip_live h k⟩, fun k hc ho hk hs => ?_, exec_abort_idle, fun hs hx hf hr hk => ?_⟩
  · obtain ⟨hcur, hcom⟩ := armed_crn s c p
    obtain ⟨hst, hj, hn, ha⟩ := armed_shows (p := p) h hf
    exact ⟨_, exec_commit_arms hc ho hp, hst, hcur, hj, hn, ha, hcom⟩
  · obtain ⟨hcom, hplan⟩ := abort_crn (c := c) (k := k) h { primary := 0 }
    obtain ⟨hidle, hj⟩ := abort_shows (c := c) (k := k) h { primary := 0 }
    exact ⟨_, exec_abort_armed hc ho hk hs, hidle, hcom, hplan, hj⟩
  · exact ⟨_, exec_changingEnd hs hx hf hr hk, settledIdle_state h, rfl⟩

end Sys2Proof.Machine

/-! Results in flight, control instructions and move slots of a Chisel core (08_chisel_core.md R172, R174, R179 to R181, R192,
09_chisel_instructions.md R201, R203, R213 to R216). -/

namespace Sys2Proof.Machine

open Sys2Proof

section
variable {s t : State} {p q op n a : Nat} {w : Word} {slot : MoveSlot}

/-! ### Changes of one core -/

/-- A change of a core turns on what it makes of that core as it stands. -/
theorem onCore_congr {f g : ChiselCore → ChiselCore} (h : f (s.core p) = g (s.core p)) : s.onCore p f = s.onCore p g :=
  congrArg (fun c => s.onChs fun k => { k with cores := mset .init k.cores p c }) h

theorem core_onCore_ne (h : risingFrom none s.chs.cores = true) (hq : q ≠ p) (f : ChiselCore → ChiselCore) :
    (s.onCore p f).core q = s.core q := mget_mset_ne h _ hq

/-! ### Settled registers (R179) -/

theorem awaits_nothing {c : ChiselCore} (h : c.flight = []) (g : Target → Bool) : c.awaits g = false := by
  rw [ChiselCore.awaits, h, List.any_nil]

theorem readD_settled (h : s.settled p) : s.readD p n = (mget 0 (s.core p).r.d n, s) := by
  simp only [State.readD, awaits_nothing h.1, h.2, List.any_nil, Bool.or_self, Bool.false_eq_true, if_false]

theorem readAcc_settled (h : s.settled p) : s.readAcc p n = (mget 0 (s.core p).r.acc n, s) :=
  if_neg (ne_true_of_eq_false (awaits_nothing h.1 _))

theorem readSum_settled (h : s.settled p) : s.readSum p n = (mget 0 (s.core p).r.acc n, s) := by
  refine (if_neg (ne_true_of_eq_false (awaits_nothing h.1 _))).trans ?_
  rw [h.1]
  rfl

theorem readST_settled (h : s.settled p) : s.readST p = ((s.core p).r.named rnST, s) := by
  simp only [State.readST, awaits_nothing h.1, Bool.false_eq_true, if_false, Nat.or_self, if_true]

theorem readNamed_settled (h : s.settled p) : s.readNamed p n = ((s.core p).r.named n, s) := by
  unfold State.readNamed
  split
  next hn => rw [readST_settled h, hn]
  next => exact if_neg (ne_true_of_eq_false (awaits_nothing h.1 _))

theorem readForAddress_settled (h : s.settled p) : s.readForAddress p n = ((s.core p).r.named n, s) :=
  if_neg (ne_true_of_eq_false (awaits_nothing h.1 _))

theorem readFlags_settled (h : s.settled p) : s.readFlags p = ((s.core p).r.named rnST % 8, s) :=
  if_neg (ne_true_of_eq_false (awaits_nothing h.1 _))

/-- R181: at LEA with LA = 1, outside a delay slot. -/
theorem atLoopEnd_settled (h : s.settled p) : s.atLoopEnd p =
    ((s.core p).delay.isNone && (s.core p).stBit 14 && (s.core p).r.named rnLEA == (s.core p).pc, s) := by
  simp only [State.atLoopEnd, awaits_nothing h.1, Bool.false_eq_true, if_false, readNamed_settled h]
  cases (s.core p).delay with
  | some d => rfl
  | none => cases (s.core p).stBit 14 <;> rfl

/-! ### A result that lands (R201) -/

/-- All that is on its way after a settled core has launched a D result is that result: it is written. -/
theorem landAll_launchD (h : s.settled p) (hr : risingFrom none s.chs.cores = true) (v : Word) :
    (s.launchD p 0 n v).landAll p = ((s.launchD p 0 n v).onCore p fun c => { c with flight := [] }).onCore p fun c =>
      { c with r := { c.r with d := mset 0 c.r.d n v } } := by
  have hf : ((s.launchD p 0 n v).core p).flight = [⟨(s.core p).t + 2, (s.core p).t, 0, .d n, v.setWidth 160⟩] := by
    rw [State.launchD, State.launch, core_onCore hr, h.1]
    rfl
  have hv : (v.setWidth 160).setWidth 72 = v := by
    rw [BitVec.setWidth_setWidth_of_le v (by decide), BitVec.setWidth_eq]
  rw [State.landAll, hf]
  simp only [List.foldl_cons, List.foldl_nil, State.land, hv]

theorem core_landAll_launchD (h : s.settled p) (hr : risingFrom none s.chs.cores = true) (v : Word) :
    ((s.launchD p 0 n v).landAll p).core p = { s.core p with
      flight := [], r := { (s.core p).r with d := mset 0 (s.core p).r.d n v } } := by
  have hl : risingFrom none (s.launchD p 0 n v).chs.cores = true := cores_onCore_rising hr _ _
  rw [landAll_launchD h hr, core_onCore (cores_onCore_rising hl _ _), core_onCore hl, State.launchD, State.launch, core_onCore hr]

theorem core_landAll_launchD_ne (h : s.settled p) (hr : risingFrom none s.chs.cores = true) (v : Word) (hq : q ≠ p) :
    ((s.launchD p 0 n v).landAll p).core q = s.core q := by
  have hl : risingFrom none (s.launchD p 0 n v).chs.cores = true := cores_onCore_rising hr _ _
  rw [landAll_launchD h hr, core_onCore_ne (cores_onCore_rising hl _ _) hq, core_onCore_ne hl hq, State.launchD, State.launch,
    core_onCore_ne hr hq]

/-! ### Control instructions (R180, R181, R192, R214 to R216) -/

section
variable {k : Word → State → Option (State × (State → State))} {after : State → State}

/-- What an instruction that issues does: at the end of a hardware loop a control instruction is undefined; else its meaning
answers, and its cycle ends. -/
theorem arith_issued (h : s.issues p op w) : s.arith p op k =
    if (s.atLoopEnd p).1 = true ∧ isControl op = true then .fault .undefinedInstruction
    else (k w (s.atLoopEnd p).2).elim (.fault .undefinedInstruction) fun r => .next (r.2 (r.1.endCycle p (s.atLoopEnd p).1)) := by
  obtain ⟨hready, hforbids, rfl, hx, hy⟩ := h
  have hdone : ((mop (slotOf w .x) == 0 || (s.core p).xDone) && (mop (slotOf w .y) == 0 || (s.core p).yDone)) = true := by
    simp only [Bool.and_eq_true, Bool.or_eq_true, beq_iff_eq]
    exact ⟨hx, hy⟩
  simp only [State.arith, hready, hforbids, hdone, Bool.false_eq_true, if_false, ne_eq, not_true_eq_false, or_self]
  cases k w (s.atLoopEnd p).2 <;> rfl

/-- An instruction that issues outside the end of a hardware loop, with nothing on its way. -/
abbrev State.issuesAlone (s : State) (p op : Nat) (w : Word) : Prop :=
  s.settled p ∧ s.issues p op w ∧ (s.atLoopEnd p).1 = false

theorem arith_issuedAlone (h : s.issuesAlone p op w) : s.arith p op k =
    (k w s).elim (.fault .undefinedInstruction) fun r => .next (r.2 (r.1.endCycle p false)) := by
  obtain ⟨hs, hi, he⟩ := h
  have hl : (s.atLoopEnd p).2 = s := congrArg Prod.snd (atLoopEnd_settled hs)
  rw [arith_issued hi, he, hl]
  exact if_neg fun hc => Bool.false_ne_true hc.1

theorem arith_alone (h : s.issuesAlone p op w) (hk : k w s = some (t, after)) :
    s.arith p op k = .next (after (t.endCycle p false)) := by
  rw [arith_issuedAlone h, hk]
  rfl

/-- One after which execution goes on. -/
theorem arith_goesOn (h : s.issuesAlone p op w) (hk : k w s = some (t, fun u => u)) :
    s.arith p op k = .next (t.endCycle p false) := arith_alone h hk

/-- One that branches, to `a` after its delay slots. -/
theorem arith_goesTo {rti : Bool} (h : s.issuesAlone p op w) (hk : k w s = some (t, branchTo p a rti)) :
    s.arith p op k = .next (branchTo p a rti (t.endCycle p false)) := arith_alone h hk

theorem arith_alone_undefined (h : s.issuesAlone p op w) (hk : k w s = none) : s.arith p op k = .fault .undefinedInstruction := by
  rw [arith_issuedAlone h, hk]
  rfl

/-- A control instruction at the end of a hardware loop is undefined (R181). -/
theorem arith_control_atLoopEnd (h : s.issues p op w) (hop : isControl op = true) (he : (s.atLoopEnd p).1 = true) :
    s.arith p op k = .fault .undefinedInstruction := (arith_issued h).trans (if_pos ⟨he, hop⟩)

/-- An instruction whose use is undefined where it stands, whatever its opcode. -/
theorem arith_forbidden (h : s.ready p = some (some w)) (hf : (s.core p).forbids w = true) :
    s.arith p op k = .fault .undefinedInstruction := by
  simp only [State.arith, h, hf, if_true]

end

/-! What each control instruction is to the arithmetic slot. -/

theorem exec_nop_eq (p : Fin 17) : exec (.nop p) s = s.compute p 0x00 fun _ s => s := rfl

theorem exec_halt_eq (p : Fin 17) :
    exec (.halt p) s = s.arith p 0x01 fun _ s' => some (s', fun t => t.halt p (s.core p).pc ((s.core p).stBit 14)) := rfl

theorem exec_rti_eq (p : Fin 17) : exec (.rti p) s = s.arith p 0x02 fun _ s =>
    some ((s.readNamed p rnIRA).2, branchTo p ((s.readNamed p rnIRA).1 % 4096) true) := rfl

theorem exec_br_eq (p : Fin 17) : exec (.br p) s = s.arith p 0x03 fun w s => s.branch p w (fTGT w) fun s => s := rfl

theorem exec_brl_eq (p : Fin 17) : exec (.brl p) s = s.arith p 0x04 fun w s =>
    s.branch p w (fTGT w) fun s => s.launchNamed p 0 (rnP (wbits w 60 58)) (((s.core p).pc + 3) % 4096) := rfl

theorem exec_loop_eq (p : Fin 17) : exec (.loop p) s = s.arith p 0x06 fun w s => s.loop p w (fIMM w) := rfl

theorem exec_loopd_eq (p : Fin 17) : exec (.loopd p) s = s.arith p 0x07 fun w s =>
    (s.readD p (fDA w)).2.loop p w ((s.readD p (fDA w)).1.toNat % 65536) := rfl

theorem exec_nop_issued {p : Fin 17} (hs : s.settled p) (h : s.issues p 0x00 w) :
    exec (.nop p) s = .next (s.endCycle p (s.atLoopEnd p).1) := by
  have hl : (s.atLoopEnd p).2 = s := congrArg Prod.snd (atLoopEnd_settled hs)
  rw [exec_nop_eq, State.compute, arith_issued h, if_neg (fun hc => Bool.false_ne_true hc.2), hl]
  rfl

/-- The condition of a branch holds on the flags as they stand. -/
abbrev State.branchHolds (s : State) (p : Nat) (w : Word) : Prop :=
  wbits w 65 62 = 0 ∨ condHolds (wbits w 65 62) ((s.core p).r.named rnST % 8) = true

theorem testCond_settled (h : s.settled p) : s.testCond p (wbits w 65 62) = (decide (s.branchHolds p w), s) := by
  unfold State.testCond State.branchHolds
  split
  next h0 => rw [decide_eq_true (.inl h0)]
  next h0 => simp only [readFlags_settled h, h0, false_or, Bool.decide_eq_true]

section
variable {link : State → State}

theorem branch_untaken (h : s.settled p) (hb : ¬ s.branchHolds p w) : s.branch p w a link = some (s, fun t => t) := by
  simp only [State.branch, testCond_settled h, decide_eq_false hb, Bool.false_eq_true, not_false_eq_true, if_true]

theorem branch_taken (h : s.settled p) (hb : s.branchHolds p w) (hc : (s.core p).inCode a = true) :
    s.branch p w a link = some (link s, branchTo p a false) := by
  simp only [State.branch, testCond_settled h, decide_eq_true hb, hc, not_true_eq_false, if_false, if_true]

theorem branch_leaves (h : s.settled p) (hb : s.branchHolds p w) (hc : (s.core p).inCode a = false) :
    s.branch p w a link = none := by
  simp only [State.branch, testCond_settled h, decide_eq_true hb, hc, not_true_eq_false, if_false, Bool.false_eq_true]

end

/-- The address that BRP takes from its pointer. -/
abbrev State.pointed (s : State) (p : Nat) (w : Word) : Nat := (s.core p).r.named (rnP (wbits w 60 58)) % 4096

theorem exec_brp_untaken {p : Fin 17} (h : s.issuesAlone p 0x05 w) (hb : ¬ s.branchHolds p w) :
    exec (.brp p) s = .next (s.endCycle p false) := by
  show execBrp p s = _
  unfold execBrp
  refine arith_goesOn h ?_
  simp only [testCond_settled h.1, decide_eq_false hb, Bool.false_eq_true, not_false_eq_true, if_true]

theorem exec_brp_taken {p : Fin 17} (h : s.issuesAlone p 0x05 w) (hb : s.branchHolds p w)
    (hc : (s.core p).inCode (s.pointed p w) = true) :
    exec (.brp p) s = .next (branchTo p (s.pointed p w) false (s.endCycle p false)) := by
  show execBrp p s = _
  unfold execBrp
  refine arith_goesTo h ?_
  simp only [testCond_settled h.1, decide_eq_true hb, readNamed_settled h.1, hc, not_true_eq_false, if_false, if_true]

/-- A hardware loop of count `n` starts: its registers are written at the end of the cycle, and with a count of 0 its body is
skipped (R215). -/
abbrev State.loopStarts (s : State) (p : Nat) (w : Word) (n : Nat) : State :=
  let put (rn v : Nat) (t : State) : State := t.launch p 0 1 (.ar rn) (BitVec.ofNat 160 (v % 2 ^ rnWidth rn))
  let t := (put rnLC n (put rnLEA (fTGT w) (put rnLSA ((s.core p).pc + 1) s))).endCycle p false
  if n % 65536 = 0 then t.onCore p fun k => { k with pc := (fTGT w + 1) % 4096 } else t

theorem arith_loop {k : Word → State → Option (State × (State → State))} (h : s.issuesAlone p op w) (hk : k w s = s.loop p w n) :
    s.arith p op k = if (s.core p).pc + 1 ≤ fTGT w ∧ (s.core p).inCode (fTGT w) = true then .next (s.loopStarts p w n)
      else .fault .undefinedInstruction := by
  split
  next hin => exact arith_alone h (hk.trans (if_neg fun ho => ho.elim (Nat.not_lt.2 hin.1) fun hc => hc hin.2))
  next hout =>
    refine arith_alone_undefined h (hk.trans (if_pos ?_))
    rw [← Nat.not_le]
    exact Decidable.not_and_iff_or_not.1 hout

/-! ### Move slots (R172, R174, R203) -/

section
variable {k : Nat → State → Option State × Bool}

theorem move_performs {b : Bool} (h : s.moves p op slot w) (hk : k (slotOf w slot) s = (some t, b)) :
    s.move p op slot k = .next (t.moved p slot) := by
  obtain ⟨hready, hforbids, rfl, hdone⟩ := h
  cases slot <;>
    simp only [State.move, hready, hforbids, hdone, hk, bne_self_eq_false, Bool.or_self, Bool.false_eq_true, if_false] <;> rfl

/-- A word that the check code cannot correct is a core fault (R194). -/
theorem move_uncorrectable (h : s.moves p op slot w) (hk : k (slotOf w slot) s = (none, true)) :
    s.move p op slot k = .next (s.coreFault p 2 false) := by
  obtain ⟨hready, hforbids, rfl, hdone⟩ := h
  cases slot <;>
    simp only [State.move, hready, hforbids, hdone, hk, bne_self_eq_false, Bool.or_self, Bool.false_eq_true, if_false]

theorem move_undefined (h : s.moves p op slot w) (hk : k (slotOf w slot) s = (none, false)) :
    s.move p op slot k = .fault .undefinedInstruction := by
  obtain ⟨hready, hforbids, rfl, hdone⟩ := h
  cases slot <;>
    simp only [State.move, hready, hforbids, hdone, hk, bne_self_eq_false, Bool.or_self, Bool.false_eq_true, if_false]

theorem move_forbidden (h : s.ready p = some (some w)) (hf : (s.core p).forbids w = true) :
    s.move p op slot k = .fault .undefinedInstruction := by
  simp only [State.move, h, hf, if_true]

end

/-- What a move slot loads: the word at its address, and the state once the address is formed. -/
abbrev State.loads (s : State) (p : Nat) (slot : MoveSlot) (v : Nat) : Option Word × State :=
  let a := s.useAddress p (slotRank slot) (mptr v) (mmode v)
  a.2.loadFrom p (dataPlace p slot a.1)

/-- What a move slot stores. -/
abbrev State.stores (s : State) (p : Nat) (slot : MoveSlot) (v : Nat) (x : Word) : Option State :=
  let a := s.useAddress p (slotRank slot) (mptr v) (mmode v)
  a.2.storeTo p (slotRank slot) (dataPlace p slot a.1) x

section
variable {v : Nat} {x : Word} {k : Word → State → State}

theorem loadSlot_eq : s.loadSlot p slot v k =
    (s.loads p slot v).1.elim (none, true) fun x => (some (k x (s.loads p slot v).2), false) := by
  unfold State.loadSlot State.loads
  rcases s.useAddress p (slotRank slot) (mptr v) (mmode v) with ⟨a, u⟩
  dsimp only
  rcases u.loadFrom p (dataPlace p slot a) with ⟨_ | x, t⟩ <;> rfl

theorem loadSlot_word (h : (s.loads p slot v).1 = some x) :
    s.loadSlot p slot v k = (some (k x (s.loads p slot v).2), false) := by
  rw [loadSlot_eq, h]
  rfl

theorem loadSlot_uncorrectable (h : (s.loads p slot v).1 = none) : s.loadSlot p slot v k = (none, true) := by
  rw [loadSlot_eq, h]
  rfl

theorem storeSlot_eq {o : Option State} (h : s.stores p slot v x = o) : s.storeSlot p slot v x = (o, false) :=
  congrArg (·, false) h

end

/-! What each instruction is to its move slot. -/

theorem exec_ld_eq (p : Fin 17) : exec (.ld p slot) s = s.move p 1 slot fun v s =>
    s.loadSlot p slot v fun x s => s.launchD p (slotRank slot) (mreg v) x := rfl

theorem exec_st_eq (p : Fin 17) : exec (.st p slot) s = s.move p 2 slot fun v s =>
    (s.readD p (mreg v)).2.storeSlot p slot v (s.readD p (mreg v)).1 := rfl

theorem exec_lda_eq (p : Fin 17) : exec (.lda p slot) s = s.move p 3 slot fun v s =>
    s.loadSlot p slot v fun x s => s.launchNamed p (slotRank slot) (mreg v) (x.toNat % 65536) := rfl

theorem exec_sta_eq (p : Fin 17) : exec (.sta p slot) s = s.move p 4 slot fun v s =>
    (s.readNamed p (mreg v)).2.storeSlot p slot v (extendNamed (mreg v) (s.readNamed p (mreg v)).1) := rfl

theorem exec_upd_eq (p : Fin 17) : exec (.upd p slot) s = s.move p 5 slot fun v s =>
    (some (s.useAddress p (slotRank slot) (mptr v) (mmode v)).2, false) := rfl

theorem exec_iold_eq (p : Fin 17) : exec (.iold p slot) s = s.move p 6 slot fun v s =>
    (some ((s.ioRead p (v % 128)).2.launchD p (slotRank slot) (mreg v) (s.ioRead p (v % 128)).1), false) := rfl

theorem exec_iost_eq (p : Fin 17) : exec (.iost p slot) s = s.move p 7 slot fun v s =>
    ((s.readD p (mreg v)).2.storeTo p (slotRank slot) (.io (v % 128)) (s.readD p (mreg v)).1, false) := rfl

end

/-- Settles O25: a settled core reads as it stands, and the one result on its way is the one that lands. -/
theorem resultsLand : Obligations.ResultsLand := by
  refine ⟨fun s p n h => ⟨readD_settled h, readAcc_settled h, readSum_settled h, readNamed_settled h, readForAddress_settled h,
    readFlags_settled h, atLoopEnd_settled h⟩, ?_⟩
  intro s p n v h hr hd t
  have hc : t.core p = _ := core_landAll_launchD h hr v
  have hm : t.mem = s.mem := (congrArg State.mem (landAll_launchD (n := n) h hr v) :)
  rw [State.settled, hc]
  exact ⟨mget_mset_same hd n v, fun k hk => mget_mset_ne hd v hk, rfl, rfl, ⟨rfl, h.2⟩, hm,
    fun q hq => core_landAll_launchD_ne h hr v hq⟩

/-- Settles O29: each line is what the arithmetic slot of a settled core answers. -/
theorem controlInstructions : Obligations.ControlInstructions := by
  intro s p w hs c e issues holds target done goto put
  have alone {op : Nat} (h : issues op) : s.issuesAlone p op w := ⟨hs, h⟩
  refine ⟨exec_nop_issued hs, fun h => ?_, fun h => ?_, fun h hb => ?_, fun h hb hc => ?_, fun h hb hc => ?_, fun h hb => ?_,
    fun h hb hc => ?_, fun h => exec_brp_untaken (alone h), fun h => exec_brp_taken (alone h), fun n h => ?_,
    fun h hf => ⟨?_, fun slot => ?_⟩, fun h he => ?_⟩
  · exact (exec_halt_eq p).trans (arith_alone (after := fun t => t.halt p c.pc (c.stBit 14)) (alone h) rfl)
  · refine (exec_rti_eq p).trans (arith_goesTo (alone h) ?_)
    rw [readNamed_settled hs]
  · exact (exec_br_eq p).trans (arith_goesOn (alone h) (branch_untaken hs hb))
  · exact (exec_br_eq p).trans (arith_goesTo (alone h) (branch_taken hs hb hc))
  · exact (exec_br_eq p).trans (arith_alone_undefined (alone h) (branch_leaves hs hb hc))
  · exact (exec_brl_eq p).trans (arith_goesOn (alone h) (branch_untaken hs hb))
  · exact (exec_brl_eq p).trans (arith_goesTo (alone h) (branch_taken hs hb hc))
  · rcases h with ⟨h, rfl⟩ | ⟨h, rfl⟩
    · have ⟨⟨_, _, hop, _⟩, _⟩ := h
      rw [if_pos hop]
      exact (exec_loop_eq p).trans (arith_loop (alone h) rfl)
    · have ⟨⟨_, _, hop, _⟩, _⟩ := h
      rw [if_neg (by omega)]
      refine (exec_loopd_eq p).trans (arith_loop (alone h) ?_)
      rw [readD_settled hs]
  · exact (exec_nop_eq p).trans (arith_forbidden h hf)
  · exact (exec_ld_eq p).trans (move_forbidden h hf)
  · exact (exec_halt_eq p).trans (arith_control_atLoopEnd h rfl he)

/-- Settles O30: each line is what the move slot answers. -/
theorem moveSlots : Obligations.MoveSlots := by
  intro s p slot w v a r d da n na
  refine ⟨fun x h hx => ?_, fun h hx => ?_, fun t h ht => ?_, fun h ht => ?_, fun x h hx => ?_, fun h hx => ?_, fun h ht => ?_,
    fun t h ht => ?_, fun h => ?_, fun h => ?_, fun t h ht => ?_⟩
  · exact (exec_ld_eq p).trans (move_performs h (loadSlot_word hx))
  · exact (exec_ld_eq p).trans (move_uncorrectable h (loadSlot_uncorrectable hx))
  · exact (exec_st_eq p).trans (move_performs h (storeSlot_eq ht))
  · exact (exec_st_eq p).trans (move_undefined h (storeSlot_eq ht))
  · exact (exec_lda_eq p).trans (move_performs h (loadSlot_word hx))
  · exact (exec_lda_eq p).trans (move_uncorrectable h (loadSlot_uncorrectable hx))
  · exact (exec_sta_eq p).trans (move_undefined h (storeSlot_eq ht))
  · exact (exec_sta_eq p).trans (move_performs h (storeSlot_eq ht))
  · exact (exec_upd_eq p).trans (move_performs h rfl)
  · exact (exec_iold_eq p).trans (move_performs h rfl)
  · exact (exec_iost_eq p).trans (move_performs h (congrArg (·, false) ht))

end Sys2Proof.Machine

/-! What the operations around a pass leave of the registers of the Chisel pages and of the state of the cores (08_chisel_core.md
R184, R187, R188, R194, R195; 07_cairn_scenes.md R163). -/

namespace Sys2Proof.Machine

open Sys2Proof

section
variable {s t : State} {a b c e n m p u v : Nat} {x y : Reg32} {f : Fld} {α : Type}

/-! ### Registers of the Chisel pages -/

/-- A register of the Chisel pages but for the events of their last one, which every core's change of place raises. -/
abbrev ChiselReg (a : Nat) : Prop := 0x40000 ≤ a ∧ a < 0x59000 ∧ a ≠ 0x58010

/-- The invariant holds and the Chisel register at `a` reads `x`. -/
structure Reads (a : Nat) (x : Reg32) (s : State) : Prop where
  reg : ChiselReg a
  inv : s.Inv
  rd : s.rd a = x

theorem Reads.refl (h : s.Inv) (ha : ChiselReg a) : Reads a (s.rd a) s := ⟨ha, h, rfl⟩

theorem Reads.ite {r : Prop} [Decidable r] (hs : Reads a x s) (ht : Reads a x t) : Reads a x (if r then s else t) := by
  split <;> assumption

theorem Reads.foldl {k : State → α → State} {l : List α} (h : Reads a x s) (hk : ∀ s i, Reads a x s → Reads a x (k s i)) :
    Reads a x (l.foldl k s) := List.foldlRecOn l k h fun s hs i _ => hk s i hs

theorem Reads.wr (h : Reads a x s) (hb : a ≠ b) : Reads a x (s.wr b y) :=
  ⟨h.reg, h.inv.wr b y, (rd_wr_ne h.inv y hb).trans h.rd⟩

/-- Registers below the Chisel pages. -/
theorem Reads.wr_below (h : Reads a x s) (hb : b < 0x40000) : Reads a x (s.wr b y) :=
  h.wr (Nat.ne_of_gt (Nat.lt_of_lt_of_le hb h.reg.1))

theorem Reads.wrIdx_below (h : Reads a x s) (hb : b < 0x40000) (he : e < 0x40000) : Reads a x (s.wrIdx b e n) :=
  Reads.wr_below (h.wr_below hb) he

theorem Reads.setFld_below (h : Reads a x s) (hf : f.off < 0x40000) : Reads a x (s.setFld f n) := h.wr_below hf

theorem Reads.bump_below (h : Reads a x s) (hf : f.off < 0x40000) : Reads a x (s.bump f n) := by
  have h1 : Reads a x (s.setFld f (min (s.fld f + n) f.max)) := h.setFld_below hf
  unfold State.bump
  split
  · exact ⟨h1.reg, h1.inv, h1.rd⟩
  · exact h1

theorem Reads.evt_ne (h : Reads a x s) (hb : b < 32) (ha : a ≠ 0x1000 * p + PG_EVT) : Reads a x (s.evt p b) := by
  obtain ⟨hlo, _⟩ := h.reg
  exact ⟨h.reg, (State.evt_ok (ok_free h.inv)).inv, (rd_evt hb (by omega) (by omega)).trans ((if_neg ha).trans h.rd)⟩

/-- Events of other units, and those of the last Chisel page. -/
theorem Reads.evt (h : Reads a x s) (hb : b < 32) (hp : p < 0x40 ∨ p = 0x58) : Reads a x (s.evt p b) := by
  obtain ⟨hlo, -, hne⟩ := h.reg
  refine h.evt_ne hb ?_
  simp only [PG_EVT]
  omega

theorem Reads.setWord (h : Reads a x s) {k : Word} : Reads a x (s.setWord b k) := ⟨h.reg, ⟨memPut_wf h.inv.1, h.inv.2⟩, h.rd⟩

theorem Reads.logEvent (h : Reads a x s) {l : List Nat} : Reads a x (s.logEvent p b n l) := ⟨h.reg, h.inv, h.rd⟩

/-- A change of Chisel's state, as of a part that no register shows, leaves the registers. -/
theorem Reads.onChs (h : Reads a x s) {k : Chisel → Chisel} : Reads a x (s.onChs k) := ⟨h.reg, h.inv, h.rd⟩

theorem Reads.onCore (h : Reads a x s) {k : ChiselCore → ChiselCore} : Reads a x (s.onCore p k) := h.onChs

/-! ### The journal (07 R163) -/

theorem jReg_lt (hb : b < 0x3F000) : b + jOff e < 0x40000 := by
  have he : e % 32 < 32 := Nat.mod_lt _ (by decide)
  simp only [jOff]
  omega

theorem jFld_lt (hf : f.off < 0x3F000) : (f.sh (jOff e)).off < 0x40000 := jReg_lt hf

theorem Reads.setJState (h : Reads a x s) : Reads a x (s.setJState e v) := by
  unfold State.setJState
  exact Reads.logEvent (h.setFld_below (jFld_lt (by decide)))

theorem Reads.jDone (h : Reads a x s) : Reads a x (s.jDone e u) := by
  unfold State.jDone
  extract_lets j s1
  have h1 : Reads a x s1 := h.wr_below (jReg_lt (by decide))
  have h2 : Reads a x (s1.wrIdx (J_END_LO + jOff e) (J_END_HI + jOff e) s1.idx) :=
    h1.wrIdx_below (jReg_lt (by decide)) (jReg_lt (by decide))
  exact .ite (h2.setJState.evt (by decide) (.inl (by decide))) h1

theorem Reads.unitDone (h : Reads a x s) {k : Nat → Bool} : Reads a x (s.unitDone u k) := h.foldl fun _ _ h => h.jDone

theorem Reads.unitFault (h : Reads a x s) : Reads a x (s.unitFault u) := h.foldl fun _ _ h =>
  Reads.evt (Reads.setFld_below (h.setFld_below (jFld_lt (by decide))) (jFld_lt (by decide))) (by decide) (.inl (by decide))

/-! ### Spares and degradation (18 R430, R431) -/

theorem Reads.degrade (h : Reads a x s) {on : Bool} : Reads a x (s.degrade b on) := by
  unfold State.degrade
  extract_lets old new s1 d
  have h1 : Reads a x s1 := (h.wr_below (by decide)).evt (by decide) (.inl (by decide))
  exact .ite h (.ite h1 ((h1.setFld_below (by decide)).evt (by decide) (.inl (by decide))))

theorem Reads.sprLog (h : Reads a x s) {ns i : Bool} : Reads a x (s.sprLog n ns i u v) := by
  unfold State.sprLog
  extract_lets e info s1 b
  have he : e < 0x1000 := by
    simp only [e]
    omega
  have hlt {k : Nat} (hk : k < 0x6000) : k + e < 0x40000 := by omega
  have h1 : Reads a x s1 := ((h.wr_below (hlt (by decide))).wrIdx_below (hlt (by decide)) (hlt (by decide))).wr_below
    (hlt (by decide))
  have h2 : Reads a x (s1.wr SPR_LOG_CNT (s1.rd SPR_LOG_CNT + 1)) := h1.wr_below (by decide)
  have hb : b < 32 := by
    simp only [b]
    split <;> decide
  exact h2.logEvent.evt hb (.inl (by decide))

theorem Reads.fusePend (h : Reads a x s) : Reads a x s.fusePend := h.wr_below (by decide)

/-! ### Passes that start (R184, R187, R188, R195) -/

theorem Reads.errResp (h : Reads a x s) {wr : Bool} : Reads a x (s.errResp m b c wr n) := by
  have hc : Reads a x (s.captureErr m b c wr n) := by
    unfold State.captureErr
    extract_lets s1 s2
    have h1 : Reads a x s1 := h.bump_below (by decide)
    have h2 : Reads a x s2 :=
      .ite (.ite h1 ((h1.setFld_below (by decide)).evt (by decide) (.inl (by decide))))
          (Reads.wr_below (h1.wr_below (by decide)) (by decide))
    exact h2.evt (by decide) (.inl (by decide))
  exact ⟨hc.reg, hc.inv, hc.rd⟩

theorem Reads.codedWriteBytes (h : Reads a x s) {l : List Byte} : Reads a x (s.codedWriteBytes m b c l n).2 := by
  unfold State.codedWriteBytes State.rmw
  split
  · exact h.setWord
  · dsimp only
    cases s.codedWord b with
    | none => exact h.errResp
    | some w => exact h.setWord

theorem Reads.performDeferred (h : Reads a x s) {d : DeferredWrite} : Reads a x (s.performDeferred d) := by
  have h1 : Reads a x ((s.onChs fun k => { k with deferred := k.deferred.erase d }).codedWriteBytes d.m (d.addr / 16 * 16)
    (d.addr % 16) d.data d.data.length).2 := h.onChs.codedWriteBytes
  exact .ite ⟨h1.reg, h1.inv, h1.rd⟩ h1

theorem Reads.performDue (h : Reads a x s) : Reads a x (s.performDue p n) := h.foldl fun _ _ h => h.performDeferred

theorem Reads.noteMoved (h : Reads a x s) (ha : a ≠ CHS_MIGRATE_IDX_LO ∧ a ≠ CHS_MIGRATE_IDX_HI) : Reads a x (s.noteMoved p n) := by
  have h1 : Reads a x (s.wrIdx CHS_MIGRATE_IDX_LO CHS_MIGRATE_IDX_HI n) := Reads.wr (h.wr ha.1) ha.2
  exact .ite h (.ite (h1.evt (by decide) (.inr rfl)) h1)

theorem Reads.applyPatches (h : Reads a x s) : Reads a x (s.applyPatches c p n).2 := h.onChs.foldl fun _ _ h => h.setWord

theorem Reads.takeInj (h : Reads a x s) : Reads a x (s.takeInj p b).2 := ⟨h.reg, h.inv, h.rd⟩

theorem Reads.beginPass (h : Reads a x s) (ha : a ≠ CHS_MIGRATE_IDX_LO ∧ a ≠ CHS_MIGRATE_IDX_HI) {k : Selection}
    {i j : SMap Word} : Reads a x (s.beginPass c p n k i j) := by
  have h1 : Reads a x (((s.performDue p n).noteMoved p n).applyPatches c p n).2 := (h.performDue.noteMoved ha).applyPatches
  exact Reads.unitDone (Reads.onCore (Reads.takeInj (h1.onChs.onCore)))

theorem Reads.startPass (h : Reads a x s) (ha : a ≠ CHS_MIGRATE_IDX_LO ∧ a ≠ CHS_MIGRATE_IDX_HI) : Reads a x (s.startPass c) := by
  unfold State.startPass
  split
  · refine .ite h ?_
    split
    · exact h
    · split
      · exact h.beginPass ha
      · exact h
  · exact h

/-! ### Chisel's own state -/

/-- `t` is reached from `s` by operations that leave Chisel's state alone. -/
abbrev LeavesChisel (s t : State) : Prop :=
  ∀ {p : List Instr} {κ : Kept} [MayMem κ] [MayFlips κ] [MaySys κ], Ok p κ s → Ok p κ t

/-- The invariant holds and `k` of Chisel's state is `v`. -/
structure HasChs (k : Chisel → α) (v : α) (s : State) : Prop where
  inv : s.Inv
  chs : k s.chs = v

section
variable {k : Chisel → α} {z z' : α}

theorem HasChs.refl (h : s.Inv) : HasChs k (k s.chs) s := ⟨h, rfl⟩

theorem HasChs.keep (h : HasChs k z s) (hl : LeavesChisel s t) : HasChs k z t :=
  have ht := @hl s.pending { chs := some s.chs } ⟨rfl⟩ ⟨rfl⟩ ⟨rfl⟩
      ⟨rfl, h.inv, { (ok_free h.inv).kept with chs := fun _ => Option.some.inj }⟩
  ⟨ht.inv, (congrArg k (ht.kept.chs _ rfl)).trans h.chs⟩

theorem HasChs.onChs (h : HasChs k z s) {g : Chisel → Chisel} (hg : k (g s.chs) = z') : HasChs k z' (s.onChs g) := ⟨h.inv, hg⟩

theorem HasChs.of_pair {β : Type} {i : β × State} {y : β} (h : HasChs k z i.2) (hi : i = (y, t)) : HasChs k z t := by
  subst hi
  exact h

theorem HasChs.ite {r : Prop} [Decidable r] (hs : HasChs k z s) (ht : HasChs k z t) : HasChs k z (if r then s else t) := by
  split <;> assumption

theorem HasChs.foldl {β : Type} {g : State → β → State} {l : List β} (h : HasChs k z s)
    (hg : ∀ s i, HasChs k z s → HasChs k z (g s i)) :
    HasChs k z (l.foldl g s) := List.foldlRecOn l g h fun s hs i _ => hg s i hs

theorem core_congr (h : t.chs.cores = s.chs.cores) (p : Nat) : t.core p = s.core p := congrArg (fun m => mget ChiselCore.init m p) h

/-- Writes that waited for the core change memory, and what of Chisel's state holds them. -/
theorem HasChs.performDue (h : HasChs k z s) (hk : ∀ c d, k { c with deferred := d } = k c) : HasChs k z (s.performDue p n) :=
  h.foldl fun s d h =>
    have h1 : HasChs k z (s.onChs fun c => { c with deferred := c.deferred.erase d }) := h.onChs ((hk _ _).trans h.chs)
    h1.keep fun h => State.noteWrite_ok (State.codedWriteBytes_ok h)

theorem HasChs.applyPatches (h : HasChs k z s) (hk : ∀ c d, k { c with patches := d } = k c) :
    HasChs k z (s.applyPatches c p n).2 :=
  HasChs.foldl (h.onChs ((hk _ _).trans h.chs)) fun _ _ h => h.keep fun h => State.setWord_ok h

/-- So do all that comes before a pass: those writes, the note of a migration and the patches. -/
theorem HasChs.patched (h : HasChs k z s) (hd : ∀ c d, k { c with deferred := d } = k c)
    (hp : ∀ c d, k { c with patches := d } = k c) :
    HasChs k z (((s.performDue p n).noteMoved p n).applyPatches c p n).2 :=
  have h1 : HasChs k z (s.performDue p n) := h.performDue hd
  have h2 : HasChs k z ((s.performDue p n).noteMoved p n) := h1.keep fun h => State.noteMoved_ok h
  h2.applyPatches hp

end

end

end Sys2Proof.Machine

/-! Passes of a Chisel core, and what stands between two of its instructions (08_chisel_core.md R181, R184, R186, R189, R190). -/

namespace Sys2Proof.Machine

open Sys2Proof

section
variable {s : State} {c p n : Nat} {h : Selection} {ins sends : SMap Word}

/-! ### The start of a pass (R184) -/

/-- A core at the first instruction of the pass of index `n` under selection `h`, with the inputs `ins`. -/
abbrev ChiselCore.AtEntry (k : ChiselCore) (h : Selection) (n : Nat) (ins : SMap Word) : Prop :=
  k.run = .pass ∧ k.pc = h.entry ∧ k.idx = n ∧ k.ins = ins ∧ k.cyc = 0

theorem beginPass_atEntry (hi : s.Inv) (hr : risingFrom none s.chs.cores = true) :
    ((s.beginPass c p n h ins sends).core p).AtEntry h n ins := by
  have hu := (HasChs.refl (k := Chisel.cores) hi).patched (c := c) (p := p) (n := n) (fun _ _ => rfl) fun _ _ => rfl
  unfold State.beginPass
  extract_lets s1 fresh
  split
  next patched u eu =>
    extract_lets u1 u2
    split
    next stop v ev =>
      extract_lets u3
      have h1 : HasChs Chisel.cores s.chs.cores u1 := (hu.of_pair eu).onChs (hu.of_pair eu).chs
      have hr1 : risingFrom none u1.chs.cores = true := h1.chs ▸ hr
      have h2 : HasChs Chisel.cores u2.chs.cores u2 := .refl h1.inv
      have hv : HasChs Chisel.cores u2.chs.cores v := (h2.keep fun h => State.takeInj_ok h).of_pair ev
      have hr2 : risingFrom none v.chs.cores = true := hv.chs ▸ cores_onCore_rising hr1 _ _
      have h3 : HasChs Chisel.cores u3.chs.cores u3 := .refl hv.inv
      have e3 : u3.core p = { v.core p with stopInj := stop } := core_onCore hr2 p _
      have e2 : v.core p = _ := (core_congr hv.chs p).trans (core_onCore hr1 p _)
      rw [core_congr (h3.keep fun h => State.unitDone_ok h).chs p, e3, e2]
      exact ⟨rfl, rfl, rfl, rfl, rfl⟩

/-- A pass starts where all that it waits for is there and the tick at which it is skipped has not come. -/
theorem startPass_begins (hp : s.physCore c = some p) (hn : mfind s.chs.next c = some n) (hs : s.selAt c n = some h)
    (hoff : s.coreOff c = false) (hup : s.upMode = true) (hmig : mfind s.chs.mig c = none) (hrun : (s.core p).run = .idle)
    (hcopy : (s.core p).copying = false) (hport : (s.core p).port = []) (hlate : idxLe (nextIdx (nextIdx n)) s.idx = false)
    (hg : s.gathered c n h = some (ins, sends)) : s.startPass c = s.beginPass c p n h ins sends := by
  have hgo : ¬ (s.coreOff c = true ∨ ¬ s.upMode = true ∨ (mfind s.chs.mig c).isSome = true ∨ (s.core p).run ≠ .idle ∨
      (s.core p).copying = true ∨ (s.core p).port ≠ [] ∨ idxLe (nextIdx (nextIdx n)) s.idx = true) := by
    simp only [hoff, hup, hmig, hrun, hcopy, hport, hlate, Option.isSome_none, Bool.false_eq_true, not_true_eq_false, ne_eq,
      or_self, not_false_eq_true]
  simp only [State.startPass, hp, hn]
  rw [if_neg hgo]
  simp only [hs, hg]

theorem exec_passSkip_due {c : Fin 16} (hp : s.physCore c = some p) (hn : mfind s.chs.next c = some n)
    (hs : s.selAt c n = some h) (hrun : (s.core p).run = .idle) (hdark : s.chs.dark.contains c.val = false)
    (hlate : idxLe (nextIdx (nextIdx n)) s.idx = true) : exec (.passSkip c) s =
      .next (((s.onChs fun k => { k with next := mins k.next c (nextIdx n) }).bump (whole (CHS_SKIP + corePage p))).evt
        (0x40 + p) 2) := by
  have hidle : (RunState.idle == RunState.pass) = false := rfl
  show execPassSkip c s = _
  simp only [execPassSkip, hp, hn, hs, hrun, hidle, hdark, hlate, Option.isNone_some, Bool.false_and, Bool.false_eq_true, if_false,
    not_false_eq_true, and_self, if_true]

end

section
variable {s : State} {p : Fin 17} {h : Selection}

/-! ### Between two instructions (R181, R186, R189, R190) -/

theorem exec_passStop_due (hd : (s.core p).stopDue = true) (hw : (s.core p).wrap = false) :
    exec (.passStop p) s = .next (s.stopPass p) :=
  congrArg Host.Outcome.next (if_pos ⟨hd, ne_true_of_eq_false hw⟩)

theorem exec_timerRequest_due (hd : (s.core p).timerDue = true) (hw : (s.core p).wrap = false) :
    exec (.timerRequest p) s = .next (s.onCore p fun c => { c with timer := true, timed := true }) :=
  congrArg Host.Outcome.next (if_pos ⟨hd, ne_true_of_eq_false hw⟩)

/-- Nothing but the interrupt comes before the next instruction. -/
abbrev ChiselCore.interrupts (c : ChiselCore) : Prop :=
  c.irqDue = true ∧ c.wrap = false ∧ c.timerDue = false ∧ c.stopDue = false ∧ c.xDone = false ∧ c.yDone = false

theorem exec_interruptEntry_of (hi : (s.core p).interrupts) : exec (.interruptEntry p) s =
    if (s.core p).lcStale = true then .fault .undefinedInstruction
    else .next (s.onCore p fun c => { (c.putNamed rnIRA ((if (s.core p).timer then 0x4000 else 0) +
        (if (s.core p).cmsg then 0x2000 else 0) + (if (s.core p).bell then 0x1000 else 0) + (s.core p).pc)).putST 0x8000 0 with
      bell := false, cmsg := false, timer := false, handler := 0 :: c.handler
      pc := match c.hdr with | some h => h.irqEntry | none => c.pc }) := by
  obtain ⟨hirq, hwrap, htimer, hstop, hx, hy⟩ := hi
  show execInterruptEntry p s = _
  unfold execInterruptEntry
  refine if_neg ?_
  simp only [hirq, hwrap, htimer, hstop, hx, hy, not_true_eq_false, Bool.false_eq_true, or_self, not_false_eq_true]

/-- R190: the entry of an interrupt in a pass whose header is `h`. -/
theorem exec_interruptEntry_taken (hi : (s.core p).interrupts) (hh : (s.core p).hdr = some h) (hl : (s.core p).lcStale = false) :
    exec (.interruptEntry p) s = .next (s.onCore p fun c => { (c.putNamed rnIRA ((if (s.core p).timer then 0x4000 else 0) +
        (if (s.core p).cmsg then 0x2000 else 0) + (if (s.core p).bell then 0x1000 else 0) + (s.core p).pc)).putST 0x8000 0 with
      bell := false, cmsg := false, timer := false, handler := 0 :: c.handler, pc := h.irqEntry }) := by
  rw [exec_interruptEntry_of hi, if_neg (ne_true_of_eq_false hl)]
  refine congrArg Host.Outcome.next (onCore_congr ?_)
  simp only [hh]

theorem exec_interruptEntry_stale (hi : (s.core p).interrupts) (hl : (s.core p).lcStale = true) :
    exec (.interruptEntry p) s = .fault .undefinedInstruction := (exec_interruptEntry_of hi).trans (if_pos hl)

theorem exec_loopEnd_unmet (hw : (s.core p).wrap = false) : exec (.loopEnd p) s = .next s :=
  congrArg Host.Outcome.next (if_pos (ne_true_of_eq_false hw))

/-- The end of a loop's last instruction, by the count that the instruction found (R181). -/
theorem exec_loopEnd_due (hw : (s.core p).wrap = true) : exec (.loopEnd p) s = .next (s.onCore p fun c =>
    if 1 < (s.core p).loop.1 then { c with
      wrap := false, pc := c.loop.2, r := { c.r with ar := mset 0 c.r.ar rnLC (BitVec.ofNat 16 ((s.core p).loop.1 - 1)) } }
    else { c.putNamed rnLC 0 with wrap := false, pc := (c.pc + 1) % 4096 }) :=
  congrArg Host.Outcome.next (if_neg (not_not_intro hw))

theorem exec_loopEnd_turns (hw : (s.core p).wrap = true) (hl : 1 < (s.core p).loop.1) :
    exec (.loopEnd p) s = .next (s.onCore p fun c => { c with
      wrap := false, pc := (s.core p).loop.2
      r := { c.r with ar := mset 0 c.r.ar rnLC (BitVec.ofNat 16 ((s.core p).loop.1 - 1)) } }) := by
  rw [exec_loopEnd_due hw]
  exact congrArg Host.Outcome.next (onCore_congr (if_pos hl))

theorem exec_loopEnd_ends (hw : (s.core p).wrap = true) (hl : (s.core p).loop.1 ≤ 1) :
    exec (.loopEnd p) s = .next (s.onCore p fun c => { c.putNamed rnLC 0 with wrap := false, pc := (c.pc + 1) % 4096 }) := by
  rw [exec_loopEnd_due hw]
  exact congrArg Host.Outcome.next (onCore_congr (if_neg (Nat.not_lt.2 hl)))

end

/-- Settles O32: what comes before a pass leaves the cores, so that the pass stands at its entry; the rest turns
on the core alone. -/
theorem passesRun : Obligations.PassesRun := by
  refine ⟨fun s c p n h hi hr hp hn hs => ⟨fun ins sends hoff hup hmig hrun hcopy hport hlate hg => ?_,
    fun hrun hdark hlate => exec_passSkip_due hp hn hs hrun hdark hlate⟩, fun s p => ?_⟩
  · have hstart := startPass_begins hp hn hs hoff hup hmig hrun hcopy hport hlate hg
    exact ⟨s.startPass c, rfl, hstart, hstart ▸ beginPass_atEntry hi hr⟩
  · intro c
    refine ⟨exec_passStop_due, exec_timerRequest_due, fun h hirq hw ht hs hx hy hh => ⟨fun hl => ?_, fun hl => ?_⟩,
      exec_loopEnd_turns, exec_loopEnd_ends, exec_loopEnd_unmet⟩
    · exact exec_interruptEntry_taken ⟨hirq, hw, ht, hs, hx, hy⟩ hh hl
    · exact exec_interruptEntry_stale ⟨hirq, hw, ht, hs, hx, hy⟩ hl

end Sys2Proof.Machine

/-! Core faults, doorbells, resets and releases of cores, and migration (08_chisel_core.md R188, R189, R193 to R195, R199). -/

namespace Sys2Proof.Machine

open Sys2Proof

section
variable {s t : State} {a d p q cause : Nat} {x : Reg32} {l : Option Nat} {inj : Bool}

/-! ### Core faults (R194) -/

/-- What a core fault records: the first cause with its PC and index, the event, and the bit of CHS_CORE_OK. -/
def State.captureCoreFault (s : State) (p cause : Nat) : State :=
  if s.fld (CHS_FAULT_INFO_VALID.sh (corePage p)) = 1 then s
  else (s.wrN (CHS_FAULT_INFO + corePage p) (2 ^ 31 + cause * 2 ^ 12 + (s.core p).pc)).wrIdx (CHS_FAULT_IDX_LO + corePage p)
    (CHS_FAULT_IDX_HI + corePage p) (if (s.core p).run = .pass then (s.core p).idx else s.idx)

/-- Physical core `p` is no longer among those that work. -/
def State.retireCore (s : State) (p : Nat) : State := s.wrN CHS_CORE_OK ((s.rd CHS_CORE_OK).toNat - 2 ^ p)

/-- Physical core `p`, as it was `k`, stops: the pass it ran is over. -/
def State.stopCore (s : State) (p : Nat) (k : ChiselCore) : State :=
  (if k.run = .pass then s.onChs fun h => { h with next := mins h.next k.core (nextIdx k.idx) } else s).onCore p fun c => { c with
    run := .idle, flight := [], port := [], copying := false, delay := none, wrap := false, handler := [], endFault := none }

/-- The logical core `l` that core `p` served goes to the spare, to a core of a lower class, or dark (R195, R196). -/
def State.moveOff (s : State) (p : Nat) (inj : Bool) (l : Option Nat) : State :=
  match l with
  | none => s
  | some d =>
    let s := s.unitFault (16 + d)
    let spareTaken := s.fld CHS_SPARE_IN_USE == 1 || s.coreRetired 16 || s.chs.mig.any fun m => m.2.dst == 16
    if !spareTaken && p != 16 then
      (s.wrN PWR_ISL_STAT ((s.rd PWR_ISL_STAT).toNat ||| 2 ^ 6)).startMigration d p 16 inj
    else
      let s := s.sprLog 2 true inj p 0
      match s.displaced d with
      | some e => match s.physCore e with
        | some q =>
          let s := (s.goDark e).onCore q fun c => { c with run := .idle, flight := [], port := [] }
          s.startMigration d p q inj
        | none => s.goDark d
      | none => s.goDark d

theorem coreFault_retired (h : s.coreRetired p = true) : s.coreFault p cause inj = s := if_pos h

/-- The state that has recorded a fault of core `p`. -/
abbrev State.faulted (s : State) (p cause : Nat) : State := ((s.captureCoreFault p cause).evt (0x40 + p) 1).retireCore p

theorem coreFault_working (h : s.coreRetired p = false) : s.coreFault p cause inj =
    (((s.faulted p cause).stopCore p (s.core p)).moveOff p inj ((s.faulted p cause).logicalOf p)).fusePend :=
  if_neg (ne_true_of_eq_false h)

/-! What the fault recorded stays through what follows. -/

theorem Reads.stopCore (h : Reads a x s) {k : ChiselCore} : Reads a x (s.stopCore p k) := (Reads.ite h.onChs h).onCore

theorem Reads.goDark (h : Reads a x s) (ha : a < CHS_LMAP) : Reads a x (s.goDark d) := by
  have hd : a ≠ CHS_LMAP + d / 4 * 4 := Nat.ne_of_lt (Nat.lt_add_right _ ha)
  have h1 : Reads a x (s.setLmap d 0) := h.wr hd
  exact (h1.onChs.evt (by decide) (.inr rfl)).degrade

theorem Reads.moveOff (h : Reads a x s) (ha : a < CHS_LMAP) : Reads a x (s.moveOff p inj l) := by
  unfold State.moveOff
  split
  · exact h
  · extract_lets s1 taken s2
    have h1 : Reads a x s1 := h.unitFault
    have h2 : Reads a x s2 := h1.sprLog
    refine .ite (h1.wr_below (by decide)).onChs ?_
    split
    · split
      · exact (h2.goDark ha).onCore.onChs
      · exact h2.goDark ha
    · exact h2.goDark ha

theorem coreFault_reads (hw : s.coreRetired p = false) (h : Reads a x (s.faulted p cause)) (ha : a < CHS_LMAP) :
    Reads a x (s.coreFault p cause inj) := by
  rw [coreFault_working hw]
  exact (h.stopCore.moveOff ha).fusePend

/-- A core that has stopped. -/
structure Stopped (p : Nat) (s : State) : Prop where
  inv : s.Inv
  rising : risingFrom none s.chs.cores = true
  idle : (s.core p).run = .idle
  empty : (s.core p).flight = []

theorem Stopped.of_cores (h : Stopped p s) (ht : HasChs Chisel.cores s.chs.cores t) : Stopped p t :=
  ⟨ht.inv, ht.chs ▸ h.rising, core_congr ht.chs p ▸ h.idle, core_congr ht.chs p ▸ h.empty⟩

theorem Stopped.keep (h : Stopped p s) (hl : LeavesChisel s t) : Stopped p t := h.of_cores ((HasChs.refl h.inv).keep hl)

theorem Stopped.onChs (h : Stopped p s) {k : Chisel → Chisel} (hk : (k s.chs).cores = s.chs.cores) : Stopped p (s.onChs k) :=
  h.of_cores ⟨h.inv, hk⟩

/-- Another core may change; the same one stays stopped where the change leaves it so. -/
theorem Stopped.onCore (h : Stopped p s) {k : ChiselCore → ChiselCore} (hk : ∀ c, (k c).run = .idle ∧ (k c).flight = []) :
    Stopped p (s.onCore q k) := by
  have hc : (s.onCore q k).core p = if p = q then k (s.core p) else s.core p := by
    split
    next e =>
      subst e
      exact core_onCore h.rising p k
    next e => exact core_onCore_ne h.rising e k
  refine ⟨h.inv, cores_onCore_rising h.rising q k, ?_, ?_⟩
  · rw [hc]
    split
    · exact (hk _).1
    · exact h.idle
  · rw [hc]
    split
    · exact (hk _).2
    · exact h.empty

theorem Stopped.ite {r : Prop} [Decidable r] (hs : Stopped p s) (ht : Stopped p t) : Stopped p (if r then s else t) := by
  split <;> assumption

theorem stopCore_stopped (hi : s.Inv) (hr : risingFrom none s.chs.cores = true) (k : ChiselCore) : Stopped p (s.stopCore p k) := by
  unfold State.stopCore
  have h : HasChs Chisel.cores s.chs.cores
      (if k.run = .pass then s.onChs fun h => { h with next := mins h.next k.core (nextIdx k.idx) } else s) :=
    .ite ⟨hi, rfl⟩ ⟨hi, rfl⟩
  have hr' := h.chs ▸ hr
  refine ⟨h.inv, cores_onCore_rising hr' _ _, ?_, ?_⟩ <;> rw [core_onCore hr']

theorem Stopped.goDark (h : Stopped p s) : Stopped p (s.goDark d) :=
  have h1 : Stopped p (s.setLmap d 0) := h.keep fun h => State.setLmap_ok h
  Stopped.keep (h1.onChs rfl) fun h => State.degrade_ok (State.evt_ok h)

theorem Stopped.moveOff (h : Stopped p s) : Stopped p (s.moveOff q inj l) := by
  unfold State.moveOff
  split
  · exact h
  · extract_lets s1 taken s2
    have h1 : Stopped p s1 := h.keep fun h => State.unitFault_ok h
    have h2 : Stopped p s2 := h1.keep fun h => State.sprLog_ok h
    refine .ite (Stopped.onChs (h1.keep fun h => State.wrN_ok h) rfl) ?_
    split
    · split
      · exact (h2.goDark.onCore fun _ => ⟨rfl, rfl⟩).onChs rfl
      · exact h2.goDark
    · exact h2.goDark

/-- Records of a fault leave Chisel's state. -/
theorem HasChs.faulted (hi : s.Inv) : HasChs Chisel.cores s.chs.cores (s.faulted p cause) :=
  (HasChs.refl hi).keep fun h => State.wrN_ok (State.evt_ok (ok_ite h (State.wrIdx_ok (State.wrN_ok h))))

theorem coreFault_stopped (hw : s.coreRetired p = false) (hi : s.Inv) (hr : risingFrom none s.chs.cores = true) :
    Stopped p (s.coreFault p cause inj) := by
  rw [coreFault_working hw]
  have h : HasChs Chisel.cores s.chs.cores (s.faulted p cause) := .faulted hi
  exact (stopCore_stopped h.inv (h.chs ▸ hr) (s.core p)).moveOff.keep fun h => State.fusePend_ok h

/-! What is recorded. -/

theorem testBit_sub_pow {n p : Nat} (h : n.testBit p = true) : (n - 2 ^ p).testBit p = false := by
  rw [Nat.testBit_eq_decide_div_mod_eq, decide_eq_true_eq] at h
  have hs := Nat.sub_mul_div n (2 ^ p) 1
  rw [Nat.mul_one] at hs
  rw [Nat.testBit_eq_decide_div_mod_eq, hs, decide_eq_false_iff_not]
  omega

theorem coreFault_rd (hw : s.coreRetired p = false) (hi : s.Inv) (ha : ChiselReg a) (hl : a < CHS_LMAP) :
    (s.coreFault p cause inj).rd a = (s.faulted p cause).rd a :=
  (coreFault_reads hw (.refl (HasChs.faulted hi).inv ha) hl).rd

theorem Reads.captureCoreFault (h : Reads a x s) (h0 : a ≠ CHS_FAULT_INFO + corePage p) (h1 : a ≠ CHS_FAULT_IDX_LO + corePage p)
    (h2 : a ≠ CHS_FAULT_IDX_HI + corePage p) : Reads a x (s.captureCoreFault p cause) :=
  .ite h (Reads.wr (Reads.wr (h.wr h0) h1) h2)

/-- The bit of CHS_CORE_OK is lost. -/
theorem coreFault_retires (hw : s.coreRetired p = false) (hp : p < 17) (hi : s.Inv) :
    (s.coreFault p cause inj).coreRetired p = true := by
  have hok : Reads CHS_CORE_OK (s.rd CHS_CORE_OK) ((s.captureCoreFault p cause).evt (0x40 + p) 1) := by
    refine Reads.evt_ne (Reads.captureCoreFault (.refl hi (by decide)) ?_ ?_ ?_) (by decide) ?_ <;>
      simp only [CHS_CORE_OK, CHS_FAULT_INFO, CHS_FAULT_IDX_LO, CHS_FAULT_IDX_HI, corePage, PG_EVT] <;> omega
  have hbit : (s.rd CHS_CORE_OK).toNat.testBit p = true := by simpa [State.coreRetired] using hw
  have hlt : (s.rd CHS_CORE_OK).toNat - 2 ^ p < 2 ^ 32 := Nat.lt_of_le_of_lt (Nat.sub_le _ _) (s.rd CHS_CORE_OK).isLt
  have hrd : ((s.faulted p cause).rd CHS_CORE_OK).toNat = (s.rd CHS_CORE_OK).toNat - 2 ^ p := by
    rw [State.faulted, State.retireCore, State.wrN, rd_wr_same hok.inv, hok.rd, BitVec.toNat_ofNat, Nat.mod_eq_of_lt hlt]
  rw [State.coreRetired, coreFault_rd hw hi (by decide) (by decide), hrd, testBit_sub_pow hbit]
  rfl

theorem coreFault_raises (hw : s.coreRetired p = false) (hp : p < 17) (hi : s.Inv) :
    ((s.coreFault p cause inj).rd (0x1000 * (0x40 + p) + PG_EVT)).getLsbD 1 = true := by
  have hc : (s.captureCoreFault p cause).Inv := (ok_ite (ok_free hi) (State.wrIdx_ok (State.wrN_ok (ok_free hi)))).inv
  have ha : ChiselReg (0x1000 * (0x40 + p) + PG_EVT) := by
    simp only [PG_EVT]
    omega
  rw [coreFault_rd hw hi ha (by simp only [PG_EVT, CHS_LMAP]; omega), State.faulted, State.retireCore, State.wrN,
    rd_wr_ne (State.evt_ok (ok_free hc)).inv _ (by simp only [PG_EVT, CHS_CORE_OK]; omega),
    rd_evt (by decide) (by omega) (by omega), if_pos rfl]
  exact getLsbD_or_bit _ (by decide)

/-- The first cause is kept with its PC. -/
theorem coreFault_info (hw : s.coreRetired p = false) (hp : p < 17) (hi : s.Inv) (hc : cause < 16) (hpc : (s.core p).pc < 4096)
    (hv : s.fld (CHS_FAULT_INFO_VALID.sh (corePage p)) = 0) :
    ((s.coreFault p cause inj).rd (CHS_FAULT_INFO + corePage p)).toNat = 2 ^ 31 + cause * 2 ^ 12 + (s.core p).pc := by
  have ha : ChiselReg (CHS_FAULT_INFO + corePage p) := by
    simp only [CHS_FAULT_INFO, corePage]
    omega
  have hinfo : Reads (CHS_FAULT_INFO + corePage p) (BitVec.ofNat 32 (2 ^ 31 + cause * 2 ^ 12 + (s.core p).pc))
      (s.faulted p cause) := by
    have h1 : Reads (CHS_FAULT_INFO + corePage p) (BitVec.ofNat 32 (2 ^ 31 + cause * 2 ^ 12 + (s.core p).pc))
        (s.wrN (CHS_FAULT_INFO + corePage p) (2 ^ 31 + cause * 2 ^ 12 + (s.core p).pc)) := ⟨ha, hi.wr _ _, rd_wr_same hi _ _⟩
    rw [State.faulted, State.captureCoreFault, if_neg (by omega)]
    refine Reads.wr (Reads.evt_ne (Reads.wr (h1.wr ?_) ?_) (by decide) ?_) ?_ <;>
      simp only [CHS_CORE_OK, CHS_FAULT_INFO, CHS_FAULT_IDX_LO, CHS_FAULT_IDX_HI, corePage, PG_EVT] <;> omega
  rw [(coreFault_reads hw hinfo (by simp only [CHS_FAULT_INFO, corePage, CHS_LMAP]; omega)).rd, BitVec.toNat_ofNat,
    Nat.mod_eq_of_lt (by omega)]

theorem exec_coreFault {p : Fin 17} {cause : Fin 16} : exec (.coreFault p cause) s = .next (s.coreFault p cause false) := rfl

theorem exec_resetProgramOverrun {p : Fin 17} : exec (.resetProgramOverrun p) s = .next (
    if (s.core p).run = .boot ∧ 1048576 ≤ (s.core p).cyc then s.coreFault p 4 false else s) := rfl

end

section
variable {s t : State} {m p a : Nat} {v : Reg32}

/-! ### CHS_DOORBELL and CHS_RESET (R189, R193) -/

theorem findReg_doorbell : ∀ p : Fin 17, ∃ r, findReg (CHS_DOORBELL + 0x1000 * p.val) = some r ∧
    liveMask (CHS_DOORBELL + 0x1000 * p.val) = 0 ∧ r.rw ||| r.w1c ||| r.act = 0xFFFFFFFF := by
  decide +kernel

theorem putFabric_doorbell (s : State) (m : Nat) (p : Fin 17) (v : Reg32) :
    s.putFabric m (CHS_DOORBELL + 0x1000 * p) v = some (s.writeChsDoorbell p v) := by
  have hp := p.isLt
  have hi : (CHS_DOORBELL + 0x1000 * p.val - CHS_DOORBELL) / 0x1000 = p := by omega
  unfold State.putFabric
  rw [if_neg (by simp only [CHS_DOORBELL, TRS_CHECK_CTRL]; omega), if_neg (by simp only [CHS_DOORBELL, CRN_DOORBELL]; omega),
    if_neg (by simp only [CHS_DOORBELL, CRN_STORE_CTRL]; omega), if_neg (by simp only [CHS_DOORBELL, CHS_RESET]; omega),
    if_pos (by omega), hi]

theorem exec_chsDoorbell {p : Fin 17} (h : s.takesWrite m (CHS_DOORBELL + 0x1000 * p) v) :
    exec (.chsDoorbell m p v) s = .next (s.noteWrite (s.writeChsDoorbell p v) m) := by
  have hp := p.isLt
  have ho : (CHS_DOORBELL + 0x1000 * p.val) % 0x1000 = 0x44 ∧ (CHS_DOORBELL + 0x1000 * p.val) / 0x1000 = 0x40 + p := by
    simp only [CHS_DOORBELL]
    omega
  obtain ⟨r, hr, hk, hm⟩ := findReg_doorbell p
  refine exec_fabricWrite rfl h (by omega) hr hk ?_
  have hv : v &&& BitVec.ofNat 32 0xFFFFFFFF = v := BitVec.and_allOnes
  rw [State.putBody, hm, hv]
  simp only [ho.2]
  rw [if_neg (by omega), if_neg (by omega), if_neg (by omega), if_pos (by omega), putFabric_doorbell]
  rfl

theorem findReg_chsReset : ∃ r, findReg CHS_RESET = some r ∧ liveMask CHS_RESET = 0 ∧ r.rw ||| r.w1c ||| r.act = 0xFFFF :=
  ⟨_, rfl, by decide +kernel, by decide +kernel⟩

theorem exec_chsReset (h : s.takesWrite m CHS_RESET v) :
    exec (.chsReset m v) s = .next (s.noteWrite (s.writeChsReset m (v &&& 0xFFFF)) m) := by
  obtain ⟨r, hr, hk, hm⟩ := findReg_chsReset
  refine exec_fabricWrite rfl h (by decide) hr hk ?_
  rw [State.putBody, hm]
  rfl

/-- Where a word of the doorbell that is written now applies: in lockstep at the index in progress, else at the core's next pass. -/
abbrev State.bellIndex (s : State) (p : Nat) : Nat :=
  if s.lockstep then s.idx else ((s.logicalOf p).bind fun c => mfind s.chs.next c).getD s.idx

theorem writeChsDoorbell_powered (hp : s.powered (coreIsland p) = true) : s.writeChsDoorbell p v =
    s.onCore p fun k => { k with bellNext := k.bellNext ++ [(v, s.bellIndex p)] } := if_neg (not_not_intro hp)

theorem writeChsDoorbell_gated (hp : s.powered (coreIsland p) = false) : s.writeChsDoorbell p v = s :=
  if_pos (ne_true_of_eq_false hp)

/-- The bits of CHS_RESET that a write of one bit sets and clears, and those that a write of 0 over one bit does. -/
theorem filter_resetBits : ∀ b : Fin 16,
    (((List.range 16).filter fun i => Nat.testBit (0 % 65536) i && !(2 ^ b.val).testBit i) = [] ∧
      ((List.range 16).filter fun i => !Nat.testBit (0 % 65536) i && (2 ^ b.val).testBit i) = [b.val]) ∧
    (((List.range 16).filter fun i => (2 ^ b.val % 65536).testBit i && !Nat.testBit 0 i) = [b.val] ∧
      ((List.range 16).filter fun i => !(2 ^ b.val % 65536).testBit i && Nat.testBit 0 i) = []) := by
  decide

theorem writeChsReset_sets (b : Fin 16) (h0 : s.rd CHS_RESET = 0) (hv : v.toNat = 2 ^ b.val) :
    s.writeChsReset m v = (s.holdCore b).wrN CHS_RESET (2 ^ b.val) := by
  obtain ⟨⟨hclear, hset⟩, _⟩ := filter_resetBits b
  have h0' : (s.rd CHS_RESET).toNat = 0 := congrArg BitVec.toNat h0
  simp only [State.writeChsReset, h0', hv, hclear, hset, if_true, List.foldl_cons, List.foldl_nil, State.setResetBit, Nat.zero_or]

/-- R478: a release, in the modes that take one and in the others. -/
theorem writeChsReset_clears (b : Fin 16) (h : (s.rd CHS_RESET).toNat = 2 ^ b.val) :
    s.writeChsReset m 0 = if s.cfgMode = true then s.clearResetBit b else s.refusedField m CHS_RESET := by
  obtain ⟨_, hclear, hset⟩ := filter_resetBits b
  have h0 : (0 : Reg32).toNat = 0 := rfl
  simp only [State.writeChsReset, h, h0, hclear, hset, List.foldl_cons, List.foldl_nil, List.cons_ne_nil, if_false]
  cases s.cfgMode <;> rfl

theorem exec_chsReset_sets (b : Fin 16) (h : s.takesWrite m CHS_RESET v) (h0 : s.rd CHS_RESET = 0) (hv : v.toNat = 2 ^ b.val) :
    exec (.chsReset m v) s = .next (s.noteWrite ((s.holdCore b).wrN CHS_RESET (2 ^ b.val)) m) := by
  have hlt : 2 ^ b.val < 2 ^ 16 := Nat.pow_lt_pow_right (by decide) b.isLt
  have hmask : (v &&& 0xFFFF).toNat = 2 ^ b.val := by
    rw [BitVec.toNat_and, hv]
    exact (Nat.and_two_pow_sub_one_eq_mod _ 16).trans (Nat.mod_eq_of_lt hlt)
  rw [exec_chsReset h, writeChsReset_sets b h0 hmask]

theorem exec_chsReset_clears (b : Fin 16) (h : s.takesWrite m CHS_RESET 0) (hb : (s.rd CHS_RESET).toNat = 2 ^ b.val) :
    exec (.chsReset m 0) s = .next (s.noteWrite
        (if s.cfgMode = true then s.clearResetBit b else s.refusedField m CHS_RESET) m) := by
  have h0 : (0 : Reg32) &&& 0xFFFF = 0 := rfl
  rw [exec_chsReset h, h0, writeChsReset_clears b hb]

/-! ### The copy of a reset program, and writes that wait for a core (R188, R193) -/

theorem exec_resetCopyDone_due {p : Fin 17} (h : (s.core p).copying = true) : exec (.resetCopyDone p) s =
    .next ((s.resetCopy p).onCore p fun k => { k with
      copying := false, run := .boot, hdr := none, pc := 0, cyc := 0, hcyc := 0, flight := [], port := []
      delay := none, wrap := false, handler := [], xDone := false, yDone := false, outs := [], ins := [], sends := []
      r := { CoreRegs.zero with d := mset 0 [] 0 (BitVec.ofNat 72 p) } }) :=
  congrArg Host.Outcome.next (if_neg (not_not_intro h))

theorem exec_deferredMemWrite_due {p : Fin 17} {d : DeferredWrite} (hd : s.chs.deferred.find? (fun d => d.phys == p.val) = some d)
    (hr : (s.core p).run = .idle)
    (hi : idxLe d.idx (((s.logicalOf p).bind fun c => mfind s.chs.next c).getD s.idx) = true) :
    exec (.deferredMemWrite p) s = .next (s.performDeferred d).drain := by
  show execDeferredMemWrite p s = _
  rw [execDeferredMemWrite, hd]
  exact if_neg fun h => h.elim (fun h => h hr) fun h => h hi

/-- `t` is reached from `s` by operations that leave memory alone. -/
abbrev LeavesMemory (s t : State) : Prop := ∀ {p : List Instr} {κ : Kept} [MayBnk κ], Ok p κ s → Ok p κ t

/-- The invariant holds, and memory is `mem` but for program bank 0 of core `p`. -/
structure ProgramOnly (p : Nat) (mem : List Host.Cell) (s : State) : Prop where
  inv : s.Inv
  same : ∀ a, a < progAddr p 0 0 ∨ progAddr p 0 4096 ≤ a → mget 0 s.mem a = mget 0 mem a

variable {mem : List Host.Cell} {i : Nat}

theorem ProgramOnly.keep (h : ProgramOnly p mem s) (hl : LeavesMemory s t) : ProgramOnly p mem t :=
  have ht := @hl s.pending { mem := some s.mem } ⟨rfl⟩ ⟨rfl, h.inv, { (ok_free h.inv).kept with mem := fun _ => Option.some.inj }⟩
  ⟨ht.inv, fun a ha => (congrArg (fun m => mget 0 m a) (ht.kept.mem _ rfl)).trans (h.same a ha)⟩

theorem ProgramOnly.setWord (h : ProgramOnly p mem s) (hi : i < 4096) (w : Word) :
    ProgramOnly p mem (s.setWord (progAddr p 0 i) w) := by
  refine ⟨⟨memPut_wf h.inv.1, h.inv.2⟩, fun a ha => (mget_setWord_outside h.inv.1 _ w ?_).trans (h.same a ha)⟩
  simp only [progAddr] at ha ⊢
  omega

theorem ProgramOnly.copyLost (h : ProgramOnly p mem s) (hi : i < 4096) : ProgramOnly p mem (s.copyLost p i) :=
  (h.setWord hi 0).keep fun h => State.evt_ok (State.bump_ok h)

theorem ProgramOnly.copyChecked (h : ProgramOnly p mem s) (hi : i < 4096) : ProgramOnly p mem (s.copyChecked p i) := by
  have hr : ProgramOnly p mem (s.checkedRead (0x10 + p) (bankAddr 0 i)).2 := h.keep fun h => State.checkedRead_ok h
  unfold State.copyChecked
  split
  next w u e =>
    rw [e] at hr
    exact hr.setWord hi w
  next u e =>
    rw [e] at hr
    exact ProgramOnly.copyLost (hr.keep fun h => State.errResp_ok h) hi

/-- Bytes written inside a range leave those outside. -/
theorem mget_foldl_mset {k : Host.Cell → Nat} {cells : List Host.Cell} (hm : Memory.wf mem = true) (hk : ∀ c ∈ cells, k c ≠ a) :
    mget 0 (cells.foldl (fun m c => mset 0 m (k c) c.2) mem) a = mget 0 mem a := by
  induction cells generalizing mem with
  | nil => rfl
  | cons c cells ih =>
    have hc : k c ≠ a := hk c List.mem_cons_self
    exact (ih (mwf_mset hm _ _) fun d hd => hk d (List.mem_cons_of_mem _ hd)).trans (mget_mset_ne (mwf_iff.1 hm).1 _ (Ne.symm hc))

theorem clearMem_wf (h : s.Inv) (lo hi : Nat) :
    Memory.wf (mkeep (fun a => decide (a < lo) || decide (hi ≤ a)) s.mem) = true := mwf_mkeep h.1 _

theorem copyMem_inv (h : s.Inv) (src dst len : Nat) : (s.copyMem src dst len).Inv :=
  ⟨foldl_mset_wf (clearMem_wf h dst (dst + len)), h.2⟩

theorem mget_copyMem {src dst len : Nat} (h : s.Inv) (ha : a < dst ∨ dst + len ≤ a) :
    mget 0 (s.copyMem src dst len).mem a = mget 0 s.mem a := by
  refine (mget_foldl_mset (clearMem_wf h dst (dst + len)) fun c hm => ?_).trans
      ((mget_mkeep (mwf_iff.1 h.1).1 _ a).trans (if_pos ?_))
  · have hin : src ≤ c.1 ∧ c.1 < src + len := by simpa using (List.mem_filter.1 hm).2
    omega
  · simpa using ha

/-- R193: nothing but the program bank is overwritten. -/
theorem resetCopy_programOnly (h : s.Inv) : ProgramOnly p s.mem (s.resetCopy p) := by
  have h0 : ProgramOnly p s.mem s := ⟨h, fun _ _ => rfl⟩
  unfold State.resetCopy
  split
  · exact List.foldlRecOn _ _ h0 fun u hu i hi => ProgramOnly.copyLost (hu.keep fun h => State.errResp_ok h) (List.mem_range.1 hi)
  · extract_lets odd
    have hcopy : ProgramOnly p s.mem (s.copyMem (bankAddr 0 0) (progAddr p 0 0) 0x10000) :=
      ⟨copyMem_inv h _ _ _, fun a ha => mget_copyMem h ha⟩
    refine List.foldlRecOn _ _ hcopy fun u hu i hi => hu.copyChecked ?_
    rcases List.mem_append.1 hi with hi | hi
    · simp only [List.mem_cons, List.not_mem_nil, or_false] at hi
      omega
    · obtain ⟨f, hf, rfl⟩ := List.mem_map.1 hi
      have hlt : f.1 < bankAddr 0 4096 := by
        have := (List.mem_filter.1 hf).2
        simp only [Bool.and_eq_true, decide_eq_true_eq] at this
        exact this.2
      simp only [bankAddr] at hlt ⊢
      omega

end

section
variable {s : State} {c p n : Nat} {g : Migration} {z : SMap Migration} {inj : Bool}

/-! ### Migration (R195, R199) -/

theorem mfind_of_rising {α : Type} {l k : Nat} {m : SMap α} (h : risingFrom (some l) m = true) (hk : k ≤ l) : mfind m k = none := by
  cases m with
  | nil => rfl
  | cons e m =>
    simp only [risingFrom, Bool.and_eq_true, decide_eq_true_eq] at h
    simp only [mfind]
    rw [if_neg (by omega), if_pos (by omega)]

theorem mfind_mdel_same {α : Type} {m : SMap α} (h : risingFrom none m = true) (k : Nat) : mfind (mdel m k) k = none := by
  induction m with
  | nil => rfl
  | cons e m ih =>
    obtain ⟨j, v⟩ := e
    rw [risingFrom_cons] at h
    unfold mdel
    split
    next hk => exact mfind_of_rising h (Nat.le_of_eq hk)
    next h1 =>
      split
      next h2 => simp only [mfind, if_neg h1, if_pos h2]
      next h2 =>
        simp only [mfind, if_neg h1, if_neg h2]
        exact ih (risingFrom_none h)

/-- A pass that starts leaves the migrations. -/
theorem HasChs.beginPass_mig (h : HasChs Chisel.mig z s) {k : Selection} {i j : SMap Word} :
    HasChs Chisel.mig z (s.beginPass c p n k i j) := by
  have h1 : HasChs Chisel.mig z (((s.performDue p n).noteMoved p n).applyPatches c p n).2 :=
    h.patched (fun _ _ => rfl) fun _ _ => rfl
  unfold State.beginPass
  extract_lets s1 fresh
  split
  next patched u eu =>
    extract_lets u1 u2
    split
    next stop v ev =>
      extract_lets u3
      have h2 : HasChs Chisel.mig z u2 := ⟨(h1.of_pair eu).inv, (h1.of_pair eu).chs⟩
      have hv : HasChs Chisel.mig z v := (h2.keep fun h => State.takeInj_ok h).of_pair ev
      have h3 : HasChs Chisel.mig z u3 := ⟨hv.inv, hv.chs⟩
      exact h3.keep fun h => State.unitDone_ok h

theorem HasChs.startPass_mig (h : HasChs Chisel.mig z s) : HasChs Chisel.mig z (s.startPass c) := by
  unfold State.startPass
  split
  · refine .ite h ?_
    split
    · exact h
    · split
      · exact h.beginPass_mig
      · exact h
  · exact h

/-- The registers show that the spare serves logical core `c`, standing for core `n`. -/
abbrev State.showSpare (s : State) (c n : Nat) : State :=
  (((s.setLmap c 0x90).wrN CHS_MIGRATE (2 ^ 31 + n * 2 ^ 16 + 16 * 2 ^ 8 + c)).setFld CHS_SPARE_IN_USE 1).setFld
    CHS_SPARE_STANDS_FOR n

/-- What comes once the registers show it. -/
abbrev State.afterMigration (s : State) (c n : Nat) (inj : Bool) : State :=
  (((s.sprLog 2 false inj n 16).evt 0x58 2).fusePend).startPass c

/-- Logical core `c` is loaded on the spare from core `n`: its memories, its registers at the last HALT, its requests and its
words of the doorbell (R195). -/
def State.loadSpare (s : State) (c n : Nat) : State :=
  let old := s.core n
  let ask := BitVec.ofNat 3 ((if old.bell then 1 else 0) + (if old.cmsg then 2 else 0) + if old.timer then 4 else 0)
  ((s.loadMemories n 16).onCore 16 fun k => { k with
    r := old.atHalt, atHalt := old.atHalt, run := .idle, flight := [], port := [], moved := true, outs := []
    bell := ask.getLsbD 0, cmsg := ask.getLsbD 1, timer := ask.getLsbD 2, bellNext := old.bellNext, msg := old.msg
    lcStale := old.lcStale }).onChs fun k => { k with mig := mdel k.mig c, dark := k.dark.filter fun x => x != c }

theorem loadSpare_mig (h : s.Inv) : HasChs Chisel.mig (mdel s.chs.mig c) (s.loadSpare c n) :=
  have hl : HasChs Chisel.mig s.chs.mig (s.loadMemories n 16) := (HasChs.refl h).keep fun h => State.loadMemories_ok h
  ⟨hl.inv, congrArg (mdel · c) hl.chs⟩

/-- A migration to the spare, not from the peer: with memories and registers loaded, the registers show it, and its first pass
begins where it can. -/
theorem migrated_toSpare (hm : mfind s.chs.mig c = some g) (hp : g.peer = false) (hd : g.dst = 16) :
    s.migrated c = ((s.loadSpare c g.src).showSpare c g.src).afterMigration c g.src g.inj := by
  obtain ⟨src, dst, peer, inj⟩ := g
  subst hp hd
  simp only [State.migrated, hm, Bool.false_eq_true, if_false, if_true, Nat.add_zero]
  rfl

theorem HasChs.afterMigration (h : HasChs Chisel.mig z s) : HasChs Chisel.mig z (s.afterMigration c n inj) :=
  HasChs.startPass_mig (h.keep fun h => State.fusePend_ok (State.evt_ok (State.sprLog_ok h)))

/-- What the registers show stays shown. -/
theorem afterMigration_fld {f : Fld} (h : s.Inv) (hf : ChiselReg f.off) (hlo : f.off ≠ CHS_MIGRATE_IDX_LO)
    (hhi : f.off ≠ CHS_MIGRATE_IDX_HI) :
    (s.afterMigration c n inj).fld f = s.fld f :=
  have hr : Reads f.off (s.rd f.off) (s.afterMigration c n inj) :=
    (Reads.fusePend (Reads.evt (Reads.sprLog (.refl h hf)) (by decide) (.inr rfl))).startPass ⟨hlo, hhi⟩
  congrArg (fun x => bitsNat (BitVec.toNat x) f.hi f.lo) hr.rd

/-- The byte of CHS_LMAP of logical core `c`. -/
abbrev lmapByte (c : Nat) : Fld := ⟨CHS_LMAP + c / 4 * 4, 8 * (c % 4) + 7, 8 * (c % 4)⟩

theorem physCore_eq (s : State) (c : Nat) : s.physCore c =
    if (s.fld (lmapByte c)).testBit 7 then some (s.fld (lmapByte c) % 32) else none := rfl

theorem lmapByte_steady : ∀ c : Fin 16, (lmapByte c).Steady := by decide

theorem lmapByte_reg : ∀ c : Fin 16, ChiselReg (lmapByte c).off ∧
    (lmapByte c).off ≠ CHS_MIGRATE_IDX_LO ∧ (lmapByte c).off ≠ CHS_MIGRATE_IDX_HI := by decide

theorem lmapByte_below (c : Fin 16) : (lmapByte c).off ≠ CHS_MIGRATE ∧ (lmapByte c).off ≠ CHS_SPARE := by
  have hc := c.isLt
  simp only [CHS_LMAP, CHS_MIGRATE, CHS_SPARE]
  omega

theorem showSpare_lmap (h : s.Inv) (c : Fin 16) : Shows (lmapByte c) 0x90 (s.showSpare c n) := by
  have hw : (lmapByte c).hi + 1 - (lmapByte c).lo = 8 := by
    simp only
    omega
  have h1 : Shows (lmapByte c) 0x90 (s.setLmap c 0x90) := .set h (lmapByte_steady c) (hw ▸ by decide)
  obtain ⟨hm, hs⟩ := lmapByte_below c
  exact ((h1.wr hm).setFld (.inl hs)).setFld (.inl hs)

theorem showSpare_inUse (h : s.Inv) : Shows CHS_SPARE_IN_USE 1 (s.showSpare c n) := by
  have h1 : Shows CHS_SPARE_IN_USE 1
      (((s.setLmap c 0x90).wrN CHS_MIGRATE (2 ^ 31 + n * 2 ^ 16 + 16 * 2 ^ 8 + c)).setFld CHS_SPARE_IN_USE 1) :=
    .set ((h.wr _ _).wr _ _) (by decide) (by decide)
  exact h1.setFld (.inr (.inr (by decide)))

theorem showSpare_standsFor (h : s.Inv) (hn : n < 16) : Shows CHS_SPARE_STANDS_FOR n (s.showSpare c n) :=
  .set (((h.wr _ _).wr _ _).wr _ _) (by decide) (Nat.lt_trans hn (by decide))

theorem showSpare_migrate (h : s.Inv) (hn : n < 16) (hc : c < 16) :
    Shows (whole CHS_MIGRATE) (2 ^ 31 + n * 2 ^ 16 + 16 * 2 ^ 8 + c) (s.showSpare c n) := by
  have hv : (BitVec.ofNat 32 (2 ^ 31 + n * 2 ^ 16 + 16 * 2 ^ 8 + c)).toNat = 2 ^ 31 + n * 2 ^ 16 + 16 * 2 ^ 8 + c := by
    rw [BitVec.toNat_ofNat, Nat.mod_eq_of_lt (by omega)]
  have h1 : Shows (whole CHS_MIGRATE) (BitVec.ofNat 32 (2 ^ 31 + n * 2 ^ 16 + 16 * 2 ^ 8 + c)).toNat
      ((s.setLmap c 0x90).wrN CHS_MIGRATE (2 ^ 31 + n * 2 ^ 16 + 16 * 2 ^ 8 + c)) := .wr_whole (h.wr _ _) (by decide)
  rw [hv] at h1
  exact (h1.setFld (.inl (by decide))).setFld (.inl (by decide))

end

/-- Settles O33: a fault's records stay through what it brings about, a copy overwrites its program bank only, and what the
registers show of a migration stays shown when its first pass begins. -/
theorem coresControlled : Obligations.CoresControlled := by
  refine ⟨fun s p cause hi => ⟨fun hr => ?_, fun hw hr hpc => ?_, fun hb hc => ?_, fun hb hc => ?_⟩, ?_, ?_⟩
  · rw [exec_coreFault, coreFault_retired hr]
  · have hs := coreFault_stopped (cause := cause) (inj := false) hw hi hr
    exact ⟨_, exec_coreFault, coreFault_retires hw p.isLt hi, hs.idle, hs.empty, coreFault_raises hw p.isLt hi,
      coreFault_info hw p.isLt hi cause.isLt hpc⟩
  · rw [exec_resetProgramOverrun, if_pos ⟨hb, hc⟩]
    rfl
  · rw [exec_resetProgramOverrun, if_neg fun h => Nat.not_le.2 hc h.2]
  · intro s m p v now i bit
    refine ⟨fun h => ⟨fun hp => ?_, fun hp => ?_⟩, fun h h0 hv => ?_, fun h hb => ⟨fun hc => ?_, fun hc => ?_⟩,
        exec_resetCopyDone_due,
      fun hi => (resetCopy_programOnly hi).same, fun d => exec_deferredMemWrite_due⟩
    · rw [exec_chsDoorbell h, writeChsDoorbell_powered hp]
    · rw [exec_chsDoorbell h, writeChsDoorbell_gated hp]
    · exact exec_chsReset_sets ⟨p.val % 16, Nat.mod_lt _ (by decide)⟩ h h0 hv
    · rw [exec_chsReset_clears ⟨p.val % 16, Nat.mod_lt _ (by decide)⟩ h hb, if_pos hc]
    · rw [exec_chsReset_clears ⟨p.val % 16, Nat.mod_lt _ (by decide)⟩ h hb, if_neg (ne_true_of_eq_false hc)]
      rfl
  · intro s c g hi hm hp hd hsrc hrise
    have hl := loadSpare_mig (c := c) (n := g.src) hi
    have hw := (showSpare_lmap (n := g.src) hl.inv c).inv
    obtain ⟨hc, hne⟩ := lmapByte_reg c
    have e := migrated_toSpare hm hp hd
    have hms : HasChs Chisel.mig (mdel s.chs.mig c) (s.migrated c) := e ▸ HasChs.afterMigration ⟨hw, hl.chs⟩
    refine ⟨s.migrated c, rfl, ?_, ?_, ?_, ?_, ?_⟩
    · rw [physCore_eq, e, afterMigration_fld hw hc hne.1 hne.2, (showSpare_lmap hl.inv c).fld]
      rfl
    · rw [hms.chs, mfind_mdel_same hrise]
    · rw [e, afterMigration_fld hw (by decide) (by decide) (by decide), (showSpare_inUse hl.inv).fld]
    · rw [e, afterMigration_fld hw (by decide) (by decide) (by decide), (showSpare_standsFor hl.inv hsrc).fld]
    · rw [← fld_whole, e, afterMigration_fld hw (by decide) (by decide) (by decide),
        (showSpare_migrate hl.inv hsrc c.isLt).fld]

end Sys2Proof.Machine

/-! The instructions of the arithmetic slot on registers: D registers, named registers, accumulators and the
multiply-accumulates (09_chisel_instructions.md R205 to R213, R218, R219). -/

namespace Sys2Proof.Machine

open Sys2Proof

section
variable {s t : State} {p op n : Nat} {w : Word} {v : Acc} {term : Int} {ns : List Nat}

/-! ### Issue -/

section
variable {k : Word → State → State}

/-- An instruction that computes does so on the state in which it stands, and its cycle ends. -/
theorem compute_issues (h : s.issues p op w) (hop : isControl op = false) :
    s.compute p op k = .next ((k w (s.atLoopEnd p).2).endCycle p (s.atLoopEnd p).1) :=
  (arith_issues h hop).1 _ (fun u => u) rfl

/-- With nothing on its way it computes on the state as it is. -/
theorem compute_settled (hs : s.settled p) (h : s.issues p op w) (hop : isControl op = false) (hk : k w s = t) :
    s.compute p op k = .next (t.endCycle p (s.atLoopEnd p).1) := by
  have hl : (s.atLoopEnd p).2 = s := congrArg Prod.snd (atLoopEnd_settled hs)
  rw [compute_issues h hop, hl, hk]

end

/-! ### Named registers (R206, R212, R213) -/

theorem exec_movri_eq (p : Fin 17) : exec (.movri p) s = s.compute p 0x08 fun w s => s.launchNamed p 0 (fRN w) (fIMM w) := rfl

theorem exec_movrd_eq (p : Fin 17) : exec (.movrd p) s = s.compute p 0x09 fun w s =>
    (s.readD p (fDA w)).2.launchNamed p 0 (fRN w) ((s.readD p (fDA w)).1.toNat % 65536) := rfl

theorem exec_movdr_eq (p : Fin 17) : exec (.movdr p) s = s.compute p 0x0A fun w s =>
    (s.readNamed p (fRN w)).2.launchD p 0 (fDD w) (extendNamed (fRN w) (s.readNamed p (fRN w)).1) := rfl

theorem exec_stset_eq (p : Fin 17) : exec (.stset p) s = s.compute p 0x0B fun w s =>
    (s.readST p).2.launch p 0 2 .st (BitVec.ofNat 160 ((s.readST p).1 ||| fIMM w)) := rfl

theorem exec_stclr_eq (p : Fin 17) : exec (.stclr p) s = s.compute p 0x0C fun w s =>
    (s.readST p).2.launch p 0 2 .st (BitVec.ofNat 160 ((s.readST p).1 &&& (0xFFFF - fIMM w))) := rfl

/-! ### D registers (R205, R211, R218) -/

theorem exec_ldi_eq (p : Fin 17) : exec (.ldi p) s = s.compute p 0x10 fun w s => s.launchD p 0 (fDD w)
    (BitVec.ofInt 72 ((BitVec.ofNat 24 (wbits w 55 32)).toInt * 2 ^ wbits w 61 56)) := rfl

theorem exec_dmov_eq (p : Fin 17) : exec (.dmov p) s = s.compute p 0x11 fun w s =>
    (s.readD p (fDA w)).2.launchD p 0 (fDD w) (s.readD p (fDA w)).1 := rfl

theorem exec_dcmp_eq (p : Fin 17) : exec (.dcmp p) s = s.compute p 0x12 fun w s =>
    let a := s.readD p (fDA w)
    let b := a.2.readD p (fDB w)
    b.2.launchFlags p 2 (decide (a.1.toInt < b.1.toInt)) (a.1 == b.1) false := rfl

theorem exec_dtst_eq (p : Fin 17) : exec (.dtst p) s = s.compute p 0x13 fun w s =>
    let a := s.readD p (fDA w)
    a.2.launchFlags p 2 a.1.msb (a.1 == 0) false := rfl

/-- An operation on two D registers reads DA before DB. -/
theorem binary_issues {f : Word → Word → Word} (h : s.issues p op w) (hop : isControl op = false) :
    let l := s.atLoopEnd p
    let a := l.2.readD p (fDA w)
    let b := a.2.readD p (fDB w)
    s.binary p op f = .next ((b.2.launchD p 0 (fDD w) (f a.1 b.1)).endCycle p l.1) := by
  intro l a b
  unfold State.binary
  exact compute_issues h hop

theorem exec_dmax_eq (p : Fin 17) : exec (.dmax p) s = s.binary p 0x14 fun a b => if a.toInt < b.toInt then b else a := rfl

theorem exec_dmin_eq (p : Fin 17) : exec (.dmin p) s = s.binary p 0x15 fun a b => if a.toInt < b.toInt then a else b := rfl

theorem exec_dand_eq (p : Fin 17) : exec (.dand p) s = s.binary p 0x16 fun a b => a &&& b := rfl

theorem exec_dor_eq (p : Fin 17) : exec (.dor p) s = s.binary p 0x17 fun a b => a ||| b := rfl

theorem exec_dxor_eq (p : Fin 17) : exec (.dxor p) s = s.binary p 0x18 fun a b => a ^^^ b := rfl

/-! ### Accumulators (R208 to R210) -/

/-- The accumulators that EN names. -/
abbrev enabled (w : Word) : List Nat := (List.range 4).filter fun n => (fEN w).testBit n

theorem exec_clra_eq (p : Fin 17) : exec (.clra p) s = s.compute p 0x23 fun w s =>
    (enabled w).foldl (fun s n => s.launch p 0 3 (.acc n 0 160) 0) s := rfl

theorem exec_accmov_eq (p : Fin 17) : exec (.accmov p) s = s.compute p 0x24 fun w s =>
    (s.readAcc p (fAY w)).2.launch p 0 3 (.acc (fAX w) 0 160) (s.readAcc p (fAY w)).1 := rfl

theorem exec_accsh_eq (p : Fin 17) : exec (.accsh p) s = s.compute p 0x25 fun w s =>
    let y := s.readAcc p (fAY w)
    let sh := (BitVec.ofNat 8 (wbits w 39 32)).toInt
    y.2.launch p 0 3 (.acc (fAX w) 0 160)
      (BitVec.ofInt 160 (if 0 ≤ sh then y.1.toInt * 2 ^ sh.toNat else y.1.toInt >>> (-sh).toNat)) := rfl

theorem exec_ext_eq (p : Fin 17) : exec (.ext p) s = s.compute p 0x28 fun w s =>
    let x := s.readAcc p (fAX w)
    let q := extract x.1 (wbits w 54 48) (wbits w 59 57) (w.toNat.testBit 60)
    let t := x.2.launchD p 0 (fDD w) (BitVec.ofInt 72 (q.1 * 2 ^ wbits w 41 36))
    let t := if q.2 then t.launch p 0 2 .sat 0 else t
    if w.toNat.testBit 61 then t.launchFlags p 2 (decide (q.1 < 0)) (decide (q.1 = 0)) q.2 else t := rfl

/-- The part of an accumulator that PART names, as a word (R210). -/
def accPart (part : Nat) (x : Acc) : Word :=
  match part with
  | 0 => x.setWidth 72
  | 1 => (x >>> 72).setWidth 72
  | _ => ((x >>> 144).setWidth 16).signExtend 72

theorem accPart_eq (part : Nat) (x : Acc) : accPart part x = if part = 0 then x.setWidth 72
    else if part = 1 then (x >>> 72).setWidth 72 else ((x >>> 144).setWidth 16).signExtend 72 :=
  match part with
  | 0 => rfl
  | 1 => rfl
  | _ + 2 => rfl

theorem exec_accrd_eq (p : Fin 17) : exec (.accrd p) s = s.compute p 0x29 fun w s =>
    (s.readAcc p (fAX w)).2.launchD p 0 (fDD w) (accPart (wbits w 61 60) (s.readAcc p (fAX w)).1) := rfl

/-- The lowest bit and the length of the part of an accumulator that PART names (R210). -/
def partBits : Nat → Nat × Nat
  | 0 => (0, 72)
  | 1 => (72, 72)
  | _ => (144, 16)

theorem exec_accwr_eq (p : Fin 17) : exec (.accwr p) s = s.compute p 0x2A fun w s =>
    let a := s.readD p (fDA w)
    let b := partBits (wbits w 57 56)
    a.2.launch p 0 3 (.acc (fAX w) b.1 b.2) (BitVec.ofNat 160 (a.1.toNat % 2 ^ b.2)) := rfl

theorem exec_accwr_issues {p : Fin 17} {part lo len v : Nat} (h : s.issues p 0x2A w) (hq : wbits w 57 56 = part)
    (hb : partBits part = (lo, len)) (hv : ((s.atLoopEnd p).2.readD p (fDA w)).1.toNat % 2 ^ len = v) :
    exec (.accwr p) s = .next ((((s.atLoopEnd p).2.readD p (fDA w)).2.launch p 0 3 (.acc (fAX w) lo len)
      (BitVec.ofNat 160 v)).endCycle p (s.atLoopEnd p).1) := by
  rw [exec_accwr_eq, compute_issues h rfl]
  simp only [hq, hb, hv]

/-! ### Results on their way (R179) -/

theorem mem_insertFlight {f g : InFlight} {l : List InFlight} : g ∈ insertFlight f l ↔ g = f ∨ g ∈ l := by
  induction l with
  | nil => exact List.mem_singleton.trans (by simp only [List.not_mem_nil, or_false])
  | cons e l ih =>
    unfold insertFlight
    split
    · exact List.mem_cons
    · rw [List.mem_cons, ih, List.mem_cons]
      exact or_left_comm

theorem insertFlight_ne_nil {f : InFlight} {l : List InFlight} : insertFlight f l ≠ [] :=
  List.ne_nil_of_mem (mem_insertFlight.2 (.inl rfl))

/-- A core that is not as at reset stands as it was changed, whatever the map of cores. -/
theorem core_onCore_of_ne {f : ChiselCore → ChiselCore} (h : f (s.core p) ≠ .init) :
    (s.onCore p f).core p = f (s.core p) := by
  show mget ChiselCore.init (mset ChiselCore.init s.chs.cores p (f (s.core p))) p = _
  rw [mset_eq, if_neg h]
  exact mget_mins_same ..

/-- A launch puts its result in flight. -/
theorem core_launch (s : State) (p rank lat : Nat) (tgt : Target) (v : Acc) :
    (s.launch p rank lat tgt v).core p = { s.core p with
      flight := insertFlight ⟨(s.core p).t + lat, (s.core p).t, rank, tgt, v⟩ (s.core p).flight } :=
  core_onCore_of_ne fun he => insertFlight_ne_nil (congrArg ChiselCore.flight he)

/-- In `t` a settled core of `s` has launched nothing but sums of its present instruction, for accumulators among `ns`. -/
structure Summing (s : State) (p : Nat) (ns : List Nat) (t : State) : Prop where
  regs : (t.core p).r = (s.core p).r
  now : (t.core p).t = (s.core p).t
  port : (t.core p).port = []
  sums : ∀ f ∈ (t.core p).flight, f.issue = (s.core p).t ∧ ∃ n ∈ ns, f.tgt = .sum n

theorem Summing.refl (h : s.settled p) : Summing s p [] s where
  regs := rfl
  now := rfl
  port := h.2
  sums _ hf := absurd (h.1 ▸ hf) List.not_mem_nil

theorem Summing.launch (h : Summing s p ns t) (n : Nat) (v : Acc) : Summing s p (n :: ns) (t.launch p 0 3 (.sum n) v) := by
  have hc := core_launch t p 0 3 (.sum n) v
  refine ⟨hc ▸ h.regs, hc ▸ h.now, hc ▸ h.port, fun f hf => ?_⟩
  rw [hc] at hf
  rcases mem_insertFlight.1 hf with rfl | hf
  · exact ⟨h.now, n, List.mem_cons_self, rfl⟩
  · obtain ⟨hi, m, hm, hg⟩ := h.sums f hf
    exact ⟨hi, m, List.mem_cons_of_mem n hm, hg⟩

/-- What the present instruction launched, it does not wait for. -/
theorem Summing.awaits (h : Summing s p ns t) (g : Target → Bool) : (t.core p).awaits g = false := by
  refine List.any_eq_false.2 fun f hf => ?_
  rw [(h.sums f hf).1, h.now, decide_eq_false (Nat.lt_irrefl _), Bool.false_and]
  exact Bool.false_ne_true

theorem Summing.readD (h : Summing s p ns t) (n : Nat) : t.readD p n = (mget 0 (s.core p).r.d n, t) := by
  simp only [State.readD, h.awaits, h.port, h.regs, List.any_nil, Bool.or_self, Bool.false_eq_true, if_false]

/-- An accumulator that has no sum on its way gives the sum it holds. -/
theorem Summing.readSum (h : Summing s p ns t) (hn : n ∉ ns) : t.readSum p n = (mget 0 (s.core p).r.acc n, t) := by
  have hnil : (t.core p).flight.filter (fun f => f.tgt == .sum n) = [] := by
    refine List.filter_eq_nil_iff.2 fun f hf he => hn ?_
    obtain ⟨-, m, hm, hg⟩ := h.sums f hf
    rw [hg, beq_iff_eq, Target.sum.injEq] at he
    exact he ▸ hm
  refine (if_neg (ne_true_of_eq_false (h.awaits _))).trans ?_
  rw [hnil, ← h.regs]
  rfl

/-! ### Accumulation (R207) -/

/-- OP 1 has no use for the accumulator. -/
theorem accOp_replace {old old' : Acc} (h0 : op ≠ 0) (h2 : ¬ 2 ≤ op) : accOp op old term = accOp op old' term := by
  have h1 : op = 1 := by omega
  subst h1
  rfl

/-- What an operation other than 0 gives an accumulator of `s`. -/
abbrev State.summed (s : State) (p op n : Nat) (term : Int) : Acc := accOp op (mget 0 (s.core p).r.acc n) term

theorem Summing.accumulate (h : Summing s p ns t) (hn : n ∉ ns) (h0 : op ≠ 0) :
    t.accumulate p n op term = (s.summed p op n term, t.launch p 0 3 (.sum n) (s.summed p op n term)) := by
  by_cases h2 : 2 ≤ op
  · simp only [State.accumulate, if_pos h2, h.readSum hn]
  · simp only [State.accumulate, if_neg h2, accOp_replace (old' := mget 0 (s.core p).r.acc n) h0 h2]

theorem accumulate_settled (h : s.settled p) (h0 : op ≠ 0) :
    s.accumulate p n op term = (s.summed p op n term, s.launch p 0 3 (.sum n) (s.summed p op n term)) :=
  (Summing.refl h).accumulate List.not_mem_nil h0

/-- With OP 0 the flags, where F asks for them, are those of the accumulator as it stands. -/
theorem flagsOnly_settled (h : s.settled p) (f : Bool) :
    (if f = true then (s.readSum p n).2.launchSumFlags p true (s.readSum p n).1 else s) =
      s.launchSumFlags p f (s.summed p 0 n term) := by
  rw [readSum_settled h]
  cases f <;> rfl

/-- The exact product of two D registers. -/
abbrev State.product (s : State) (p i j : Nat) : Int :=
  (mget 0 (s.core p).r.d i).toInt * (mget 0 (s.core p).r.d j).toInt

/-! ### MACQ (R207, R219) -/

theorem enabled_nodup (w : Word) : (enabled w).Nodup := List.nodup_range.filter _

/-- The product that MACQ adds to accumulator `n`. -/
abbrev State.macqTerm (s : State) (p : Nat) (w : Word) (n : Nat) : Int :=
  s.product p (fDA w) (wbits w (57 - 4 * n) (54 - 4 * n))

/-- One accumulator of MACQ: the first value so far, and the state. -/
def macqStep (p : Nat) (w : Word) (op : Nat) (a : Word) (r : Option Acc × State) (n : Nat) : Option Acc × State :=
  let b := r.2.readD p (wbits w (57 - 4 * n) (54 - 4 * n))
  let u := b.2.accumulate p n op (a.toInt * b.1.toInt)
  (r.1.orElse fun _ => some u.1, u.2)

theorem macqStep_summing (h : Summing s p ns t) (hn : n ∉ ns) (h0 : op ≠ 0) (o : Option Acc) :
    macqStep p w op (mget 0 (s.core p).r.d (fDA w)) (o, t) n = (o.orElse fun _ => some (s.summed p op n (s.macqTerm p w n)),
      t.launch p 0 3 (.sum n) (s.summed p op n (s.macqTerm p w n))) := by
  simp only [macqStep, h.readD, h.accumulate hn h0]

/-- MACQ's steps sum each accumulator from what it held before them, and keep the first value. -/
theorem foldl_macqStep {ms : List Nat} (h0 : op ≠ 0) (hd : ms.Nodup) {ns : List Nat} {t : State} (o : Option Acc)
    (h : Summing s p ns t) (hn : ∀ m ∈ ms, m ∉ ns) :
    ms.foldl (macqStep p w op (mget 0 (s.core p).r.d (fDA w))) (o, t) =
      (o.orElse fun _ => ms.head?.map fun n => s.summed p op n (s.macqTerm p w n),
        ms.foldl (fun u n => u.launch p 0 3 (.sum n) (s.summed p op n (s.macqTerm p w n))) t) := by
  induction ms generalizing ns t o with
  | nil => cases o <;> rfl
  | cons m ms ih =>
    obtain ⟨hm, hd⟩ := List.nodup_cons.1 hd
    have hrest : ∀ k ∈ ms, k ∉ m :: ns := fun k hk hc =>
      (List.mem_cons.1 hc).elim (fun he => hm (he ▸ hk)) (hn k (List.mem_cons_of_mem m hk))
    rw [List.foldl_cons, macqStep_summing h (hn m List.mem_cons_self) h0, ih hd _ (h.launch m _) hrest]
    cases o <;> rfl

/-- MACQ with OP other than 0: the flags are those of the first accumulator that EN names. -/
theorem macq_sums (h : s.settled p) (h0 : op ≠ 0) (hne : enabled w ≠ []) (f : Bool) :
    let v (n : Nat) := s.summed p op n (s.macqTerm p w n)
    let r := (enabled w).foldl (macqStep p w op (mget 0 (s.core p).r.d (fDA w))) (none, s)
    r.2.launchSumFlags p f (r.1.getD 0) =
      ((enabled w).foldl (fun u n => u.launch p 0 3 (.sum n) (v n)) s).launchSumFlags p f (v ((enabled w).headD 0)) := by
  intro v r
  have hr : r = _ := foldl_macqStep h0 (enabled_nodup w) none (.refl h) fun _ _ => List.not_mem_nil
  rw [hr]
  cases he : enabled w with
  | nil => exact absurd he hne
  | cons n l => rfl

theorem exec_macq_eq (p : Fin 17) : exec (.macq p) s = s.compute p 0x20 fun w s =>
    if enabled w = [] then s
    else if wbits w 65 64 = 0 then
      let x := s.readSum p ((enabled w).headD 0)
      if w.toNat.testBit 63 = true then x.2.launchSumFlags p true x.1 else s
    else
      let a := s.readD p (fDA w)
      let r := (enabled w).foldl (macqStep p w (wbits w 65 64) a.1) (none, a.2)
      r.2.launchSumFlags p (w.toNat.testBit 63) (r.1.getD 0) := rfl

theorem exec_macq_sums {p : Fin 17} (hs : s.settled p) (h : s.issues p 0x20 w) (hne : enabled w ≠ []) :
    let v (n : Nat) := s.summed p (wbits w 65 64) n (s.macqTerm p w n)
    exec (.macq p) s = .next (((if wbits w 65 64 = 0 then s
      else (enabled w).foldl (fun u n => u.launch p 0 3 (.sum n) (v n)) s).launchSumFlags p (w.toNat.testBit 63)
        (v ((enabled w).headD 0))).endCycle p (s.atLoopEnd p).1) := by
  intro v
  refine (exec_macq_eq p).trans (compute_settled hs h rfl ((if_neg hne).trans ?_))
  simp only [readD_settled hs]
  split
  next h0 =>
    simp only [v, h0]
    exact flagsOnly_settled hs _
  next h0 => exact macq_sums hs h0 hne _

/-! ### MACD (R207, R219) -/

/-- One of MACD's two multiply-accumulates. -/
def State.macdSum (s : State) (p n op i j : Nat) : Acc × State :=
  if op = 0 then (0, s) else
    let a := s.readD p i
    let b := a.2.readD p j
    b.2.accumulate p n op (a.1.toInt * b.1.toInt)

theorem macdSum_idle (s : State) (p n i j : Nat) : s.macdSum p n 0 i j = (0, s) := rfl

theorem Summing.macdSum (h : Summing s p ns t) (hn : n ∉ ns) (h0 : op ≠ 0) (i j : Nat) :
    t.macdSum p n op i j =
      (s.summed p op n (s.product p i j), t.launch p 0 3 (.sum n) (s.summed p op n (s.product p i j))) := by
  simp only [State.macdSum, if_neg h0, h.readD, h.accumulate hn h0]

theorem exec_macd_eq (p : Fin 17) : exec (.macd p) s = s.compute p 0x21 fun w s =>
    if wbits w 65 64 = 0 ∧ wbits w 41 40 = 0 then s
    else if wbits w 65 64 ≠ 0 ∧ wbits w 41 40 ≠ 0 ∧ fAX w = fAY w then
      ((s.free 160).2.launch p 0 3 (.sum (fAX w)) (s.free 160).1).launchSumFlags p (w.toNat.testBit 63) (s.free 160).1
    else
      let x := s.macdSum p (fAX w) (wbits w 65 64) (fDA w) (fDB w)
      let y := x.2.macdSum p (fAY w) (wbits w 41 40) (wbits w 53 50) (wbits w 49 46)
      y.2.launchSumFlags p (w.toNat.testBit 63) (if wbits w 65 64 = 0 then y.1 else x.1) := rfl

section
variable {p : Fin 17}

/-- The value that MACD gives the first accumulator it names. -/
abbrev State.macdX (s : State) (p : Nat) (w : Word) : Acc := s.summed p (wbits w 65 64) (fAX w) (s.product p (fDA w) (fDB w))

/-- The value that MACD gives the second accumulator it names. -/
abbrev State.macdY (s : State) (p : Nat) (w : Word) : Acc :=
  s.summed p (wbits w 41 40) (fAY w) (s.product p (wbits w 53 50) (wbits w 49 46))

theorem exec_macd_first (hs : s.settled p) (h : s.issues p 0x21 w) (hx : wbits w 65 64 ≠ 0) (hy : wbits w 41 40 = 0) :
    exec (.macd p) s = .next (((s.launch p 0 3 (.sum (fAX w)) (s.macdX p w)).launchSumFlags p (w.toNat.testBit 63)
      (s.macdX p w)).endCycle p (s.atLoopEnd p).1) := by
  refine (exec_macd_eq p).trans (compute_settled hs h rfl ?_)
  rw [if_neg fun hc => hx hc.1, if_neg fun hc => hc.2.1 hy]
  simp only [(Summing.refl hs).macdSum List.not_mem_nil hx, hy, macdSum_idle, if_neg hx]

theorem exec_macd_second (hs : s.settled p) (h : s.issues p 0x21 w) (hx : wbits w 65 64 = 0) (hy : wbits w 41 40 ≠ 0) :
    exec (.macd p) s = .next (((s.launch p 0 3 (.sum (fAY w)) (s.macdY p w)).launchSumFlags p (w.toNat.testBit 63)
      (s.macdY p w)).endCycle p (s.atLoopEnd p).1) := by
  refine (exec_macd_eq p).trans (compute_settled hs h rfl ?_)
  rw [if_neg fun hc => hy hc.2, if_neg fun hc => hc.1 hx]
  simp only [hx, macdSum_idle, (Summing.refl hs).macdSum List.not_mem_nil hy, if_true]

theorem exec_macd_both (hs : s.settled p) (h : s.issues p 0x21 w) (hx : wbits w 65 64 ≠ 0) (hy : wbits w 41 40 ≠ 0)
    (hne : fAX w ≠ fAY w) :
    exec (.macd p) s = .next ((((s.launch p 0 3 (.sum (fAX w)) (s.macdX p w)).launch p 0 3 (.sum (fAY w))
      (s.macdY p w)).launchSumFlags p (w.toNat.testBit 63) (s.macdX p w)).endCycle p (s.atLoopEnd p).1) := by
  have hs1 : Summing s p [fAX w] _ := (Summing.refl hs).launch (fAX w) (s.macdX p w)
  refine (exec_macd_eq p).trans (compute_settled hs h rfl ?_)
  rw [if_neg fun hc => hx hc.1, if_neg fun hc => hne hc.2.2]
  simp only [(Summing.refl hs).macdSum List.not_mem_nil hx, hs1.macdSum (mt List.mem_singleton.1 hne.symm) hy, if_neg hx]

/-- One accumulator named twice is given a free value. -/
theorem exec_macd_twice (hs : s.settled p) (h : s.issues p 0x21 w) (hx : wbits w 65 64 ≠ 0) (hy : wbits w 41 40 ≠ 0)
    (he : fAX w = fAY w) :
    exec (.macd p) s = .next ((((s.free 160).2.launch p 0 3 (.sum (fAX w)) (s.free 160).1).launchSumFlags p
      (w.toNat.testBit 63) (s.free 160).1).endCycle p (s.atLoopEnd p).1) :=
  (exec_macd_eq p).trans (compute_settled hs h rfl ((if_neg fun hc => hx hc.1).trans (if_pos ⟨hx, hy, he⟩)))

end

/-! ### ACCD (R207, R218) -/

theorem exec_accd_eq (p : Fin 17) : exec (.accd p) s = s.compute p 0x22 fun w s =>
    if wbits w 65 64 = 0 then
      let x := s.readSum p (fAX w)
      if w.toNat.testBit 63 = true then x.2.launchSumFlags p true x.1 else s
    else
      let a := s.readD p (fDA w)
      let v := a.2.accumulate p (fAX w) (wbits w 65 64) (a.1.toInt * 2 ^ 63)
      v.2.launchSumFlags p (w.toNat.testBit 63) v.1 := rfl

theorem exec_accd_sum {p : Fin 17} (hs : s.settled p) (h : s.issues p 0x22 w) :
    let v := s.summed p (wbits w 65 64) (fAX w) ((mget 0 (s.core p).r.d (fDA w)).toInt * 2 ^ 63)
    exec (.accd p) s = .next (((if wbits w 65 64 = 0 then s else s.launch p 0 3 (.sum (fAX w)) v).launchSumFlags p
      (w.toNat.testBit 63) v).endCycle p (s.atLoopEnd p).1) := by
  intro v
  refine (exec_accd_eq p).trans (compute_settled hs h rfl ?_)
  split
  next h0 =>
    simp only [v, h0]
    exact flagsOnly_settled hs _
  next h0 => simp only [readD_settled hs, accumulate_settled hs h0, v]

end

/-- Settles O27: the sums that one instruction launches are each formed from what the registers held before it, as none of them
is waited for within it. -/
theorem multiplyAccumulate : Obligations.MultiplyAccumulate := by
  intro s p w hs d acc op opy done put flags ns q x y z
  exact ⟨fun h hn => (exec_macq_eq p).trans (compute_settled hs h rfl (if_pos hn)), exec_macq_sums hs,
    fun h hx hy => (exec_macd_eq p).trans (compute_settled hs h rfl (if_pos ⟨hx, hy⟩)), exec_macd_first hs,
    exec_macd_second hs, exec_macd_both hs, exec_macd_twice hs, exec_accd_sum hs⟩

/-- Settles O24: each line is what the arithmetic slot computes. -/
theorem dataInstructions : Obligations.DataInstructions := by
  intro s p w l a b two
  refine ⟨fun h => ?_, fun h => ?_, fun h => ?_, fun h => ?_, fun h => ?_, fun h => ?_, fun h => ?_, fun h => ?_,
    fun h => ?_⟩
  · exact (exec_ldi_eq p).trans (compute_issues h rfl)
  · exact (exec_dmov_eq p).trans (compute_issues h rfl)
  · exact (exec_dcmp_eq p).trans (compute_issues h rfl)
  · exact (exec_dtst_eq p).trans (compute_issues h rfl)
  · exact (exec_dmax_eq p).trans (binary_issues h rfl)
  · exact (exec_dmin_eq p).trans (binary_issues h rfl)
  · exact (exec_dand_eq p).trans (binary_issues h rfl)
  · exact (exec_dor_eq p).trans (binary_issues h rfl)
  · exact (exec_dxor_eq p).trans (binary_issues h rfl)

/-- Settles O26: each line is what the arithmetic slot computes; a part of 72 bits takes the whole D register. -/
theorem accumulatorInstructions : Obligations.AccumulatorInstructions := by
  intro s p w l a x y sh done
  have hword : a.1.toNat % 2 ^ 72 = a.1.toNat := Nat.mod_eq_of_lt a.1.isLt
  refine ⟨fun h => ?_, fun h => ?_, fun h => ?_, fun h => ?_, fun h => ⟨fun hq => ?_, fun hq => ?_, fun hq => ?_⟩,
    fun h => ?_⟩
  · exact (exec_clra_eq p).trans (compute_issues h rfl)
  · exact (exec_accmov_eq p).trans (compute_issues h rfl)
  · exact (exec_accsh_eq p).trans (compute_issues h rfl)
  · rw [exec_accrd_eq, compute_issues h rfl, accPart_eq]
  · exact exec_accwr_issues h hq rfl hword
  · exact exec_accwr_issues h hq rfl hword
  · exact exec_accwr_issues h hq rfl rfl
  · exact (exec_ext_eq p).trans (compute_issues h rfl)

/-- Settles O28: each line is what the arithmetic slot computes. -/
theorem namedRegisterMoves : Obligations.NamedRegisterMoves := by
  intro s p w l d r st done
  refine ⟨fun h => ?_, fun h => ?_, fun h => ?_, fun h => ?_, fun h => ?_⟩
  · exact (exec_movri_eq p).trans (compute_issues h rfl)
  · exact (exec_movrd_eq p).trans (compute_issues h rfl)
  · exact (exec_movdr_eq p).trans (compute_issues h rfl)
  · exact (exec_stset_eq p).trans (compute_issues h rfl)
  · exact (exec_stclr_eq p).trans (compute_issues h rfl)

end Sys2Proof.Machine

/-! The check code of a stored word (10_memory_banks.md R222). -/

namespace Sys2Proof.Machine

open Sys2Proof

section
variable {hs : List Nat} {u v i : Nat} {e : BitVec 80}

/-! ### Syndromes -/

theorem xorCols_acc (hs : List Nat) (v acc : Nat) : xorCols hs v acc = acc ^^^ xorCols hs v 0 := by
  induction hs generalizing v acc with
  | nil => exact (Nat.xor_zero acc).symm
  | cons h hs ih =>
    simp only [xorCols]
    split
    · rw [ih _ (acc ^^^ h), ih _ (0 ^^^ h), Nat.zero_xor, Nat.xor_assoc]
    · exact ih _ acc

theorem xorCols_zero (hs : List Nat) : xorCols hs 0 0 = 0 := by
  induction hs with
  | nil => rfl
  | cons h hs ih => exact ih

/-- The column of the lowest bit, and the columns of the others. -/
theorem xorCols_cons (h : Nat) (hs : List Nat) (v : Nat) :
    xorCols (h :: hs) v 0 = (if v.testBit 0 then h else 0) ^^^ xorCols hs (v / 2) 0 := by
  rw [xorCols, xorCols_acc]
  simp only [Nat.testBit_zero, decide_eq_true_eq, Nat.zero_xor]

/-- The code is linear. -/
theorem xorCols_xor (hs : List Nat) (u v : Nat) : xorCols hs (u ^^^ v) 0 = xorCols hs u 0 ^^^ xorCols hs v 0 := by
  induction hs generalizing u v with
  | nil => exact (Nat.xor_self 0).symm
  | cons h hs ih =>
    have hbit : (if (u ^^^ v).testBit 0 then h else 0) = (if u.testBit 0 then h else 0) ^^^ (if v.testBit 0 then h else 0) := by
      rw [Nat.testBit_xor]
      cases u.testBit 0 <;> cases v.testBit 0 <;> simp
    have hhalf : (u ^^^ v) / 2 = (u / 2) ^^^ (v / 2) := Nat.xor_div_two_pow (n := 1)
    rw [xorCols_cons, xorCols_cons, xorCols_cons, hbit, hhalf, ih]
    ac_rfl

/-- One bit alone gives its column. -/
theorem xorCols_two_pow (h : hs[i]? = some u) : xorCols hs (2 ^ i) 0 = u := by
  induction hs generalizing i with
  | nil => exact nomatch h
  | cons c hs ih =>
    rw [xorCols_cons]
    cases i with
    | zero =>
      rw [List.getElem?_cons_zero, Option.some.injEq] at h
      simp [xorCols_zero, h]
    | succ i =>
      rw [List.getElem?_cons_succ] at h
      have hhalf : 2 ^ (i + 1) / 2 = 2 ^ i := Nat.mul_div_cancel _ (by decide)
      rw [hhalf, ih h, Nat.testBit_two_pow_of_ne (by omega)]
      exact Nat.zero_xor u

/-- The word error of one stored bit. -/
abbrev bitError (i : Fin 80) : BitVec 80 := BitVec.ofNat 80 (2 ^ i.val)

theorem toNat_bitError (i : Fin 80) : (bitError i).toNat = 2 ^ i.val := by
  rw [BitVec.toNat_ofNat]
  exact Nat.mod_eq_of_lt (Nat.pow_lt_pow_right (by decide) i.isLt)

theorem length_eccCols : eccCols.length = 80 := by decide +kernel

/-- The column of a stored bit. -/
abbrev column (i : Fin 80) : Nat := eccCols[i.val]'(by rw [length_eccCols]; exact i.isLt)

theorem syndrome_bitError (i : Fin 80) : syndrome (bitError i) = column i := by
  rw [syndrome, toNat_bitError]
  exact xorCols_two_pow (List.getElem?_eq_getElem _)

/-- Two bits give the exclusive-OR of their columns. -/
theorem syndrome_two_bits {i j : Fin 80} (hne : i ≠ j) : syndrome (bitError i ||| bitError j) = column i ^^^ column j := by
  have hor : (2 ^ i.val ||| 2 ^ j.val : Nat) = 2 ^ i.val ^^^ 2 ^ j.val := by
    refine Nat.eq_of_testBit_eq fun k => ?_
    have hk : ¬ (i.val = k ∧ j.val = k) := fun h => hne (Fin.ext (h.1.trans h.2.symm))
    rw [Nat.testBit_or, Nat.testBit_xor, Nat.testBit_two_pow, Nat.testBit_two_pow]
    by_cases hi : i.val = k
    · have hj : j.val ≠ k := fun e => hk ⟨hi, e⟩
      simp [hi, hj]
    · simp [hi]
  rw [syndrome, BitVec.toNat_or, toNat_bitError, toNat_bitError, hor, xorCols_xor, ← syndrome_bitError, ← syndrome_bitError,
    syndrome, syndrome, toNat_bitError, toNat_bitError]

/-! ### What a read finds -/

/-- Whether the low `n` bits of a number hold an odd number of 1 bits. -/
def oddBits : Nat → Nat → Bool
  | 0, _ => false
  | n + 1, v => v.testBit n ^^ oddBits n v

theorem oddBits_xor (n u v : Nat) : oddBits n (u ^^^ v) = (oddBits n u ^^ oddBits n v) := by
  induction n with
  | zero => rfl
  | succ n ih => simp only [oddBits, Nat.testBit_xor, ih, Bool.xor_assoc, Bool.xor_left_comm]

/-- The code's columns have weight 3, 5 or 1 (R222). -/
theorem oddBits_of_mem : ∀ c ∈ eccCols, oddBits 8 c = true := by decide +kernel

/-- The columns are distinct: a search for one ends at its bit. -/
theorem findIdx?_column : ∀ i : Fin 80, eccCols.findIdx? (fun h => h == column i) = some i.val := by decide +kernel

theorem oddBits_column (i : Fin 80) : oddBits 8 (column i) = true := oddBits_of_mem _ (List.getElem_mem _)

/-- A word without errors has no syndrome. -/
theorem syndrome_if (e : BitVec 80) : (if e = 0 then 0 else syndrome e) = syndrome e := by
  split
  next h => rw [h]; exact (xorCols_zero _).symm
  next => rfl

theorem ne_zero_of_oddBits (h : oddBits 8 v = true) : v ≠ 0 := fun e => by
  rw [e] at h
  exact absurd h (by decide)

/-- A syndrome that is a column tells the bit to correct. -/
theorem eccRead_column {i : Fin 80} (h : syndrome e = column i) :
    eccRead e = ⟨some ((e ^^^ bitError i).setWidth 72), true, syndrome e, i⟩ := by
  have hne : syndrome e ≠ 0 := h ▸ ne_zero_of_oddBits (oddBits_column i)
  simp only [eccRead, syndrome_if, if_neg hne]
  rw [h, findIdx?_column]

/-- A syndrome other than 0 with an even number of 1 bits is no column. -/
theorem eccRead_even (hne : syndrome e ≠ 0) (h : oddBits 8 (syndrome e) = false) : (eccRead e).left = none := by
  have hnone : eccCols.findIdx? (fun c => c == syndrome e) = none := by
    refine List.findIdx?_eq_none_iff.2 fun c hc => beq_false_of_ne fun he => ?_
    rw [← he, oddBits_of_mem c hc] at h
    exact nomatch h
  simp only [eccRead, syndrome_if, if_neg hne, hnone]

/-- One stored error is corrected. -/
theorem eccRead_one (i : Fin 80) : eccRead (bitError i) = ⟨some 0, true, syndrome (bitError i), i⟩ := by
  rw [eccRead_column (syndrome_bitError i), BitVec.xor_self]
  rfl

/-- Two are found, and never corrected. -/
theorem eccRead_two {i j : Fin 80} (hne : i ≠ j) : (eccRead (bitError i ||| bitError j)).left = none := by
  have hcol : column i ≠ column j := fun e => hne (Fin.ext (Option.some.inj
    ((findIdx?_column i).symm.trans (e ▸ findIdx?_column j))))
  refine eccRead_even ?_ ?_
  · rw [syndrome_two_bits hne]
    intro e
    have hcancel : column i = column i ^^^ column j ^^^ column j := by
      rw [Nat.xor_assoc, Nat.xor_self, Nat.xor_zero]
    rw [e, Nat.zero_xor] at hcancel
    exact hcol hcancel
  · rw [syndrome_two_bits hne, oddBits_xor, oddBits_column, oddBits_column]
    rfl

/-- What is beyond correction is not corrected. -/
theorem corrected_of_left_none (h : (eccRead e).left = none) : (eccRead e).corrected = false := by
  simp only [eccRead, syndrome_if] at h ⊢
  by_cases hs : syndrome e = 0
  · rw [if_pos hs]
  · rw [if_neg hs] at h ⊢
    cases hf : eccCols.findIdx? (fun c => c == syndrome e) with
    | none => rfl
    | some i =>
      rw [hf] at h
      exact nomatch h

end

end Sys2Proof.Machine

/-! Reads of a stored word with errors, its write-back, and the scrubber (10_memory_banks.md R223, 18_background_and_spares.md
R421). -/

namespace Sys2Proof.Machine

open Sys2Proof

section
variable {s t : State} {a b m w : Nat} {x : BitVec 80} {l : Word} {r : EccRead}

/-! ### ECC_WRITEBACK (R223) -/

/-- The word at `a` waits no more to be written back. -/
abbrev State.unqueued (s : State) (a : Nat) : State :=
  { s with bnk := { s.bnk with wb := s.bnk.wb.filter fun y => y.addr != a } }

theorem exec_eccWriteback_eq : exec (.eccWriteback a) s = execEccWriteback a s := rfl

theorem exec_eccWriteback_none (h : s.bnk.wb.find? (fun x => x.addr == a) = none) : exec (.eccWriteback a) s = .next s := by
  simp only [exec_eccWriteback_eq, execEccWriteback, h]

theorem exec_eccWriteback_stored {y : WriteBack} (h : s.bnk.wb.find? (fun x => x.addr == a) = some y)
    (hf : mget 0 s.flips a = y.flips) : exec (.eccWriteback a) s = .next ((s.unqueued a).setWord a y.word) := by
  simp only [exec_eccWriteback_eq, execEccWriteback, h, if_pos hf]

theorem exec_eccWriteback_written {y : WriteBack} (h : s.bnk.wb.find? (fun x => x.addr == a) = some y)
    (hf : mget 0 s.flips a ≠ y.flips) : exec (.eccWriteback a) s = .next (s.unqueued a) := by
  simp only [exec_eccWriteback_eq, execEccWriteback, h, if_neg hf]

/-! ### Checked reads -/

theorem OnlyTraces.mem (h : OnlyTraces s t) : t.mem = s.mem := by
  obtain ⟨_, _, _, _, rfl⟩ := h
  rfl

theorem OnlyTraces.flips (h : OnlyTraces s t) : t.flips = s.flips := by
  obtain ⟨_, _, _, _, rfl⟩ := h
  rfl

theorem OnlyTraces.bnk (h : OnlyTraces s t) : t.bnk = s.bnk := by
  obtain ⟨_, _, _, _, rfl⟩ := h
  rfl

theorem OnlyTraces.ite {c : Prop} [Decidable c] {u : State} (hs : OnlyTraces s t) (ht : OnlyTraces s u) :
    OnlyTraces s (if c then t else u) := by
  split <;> assumption

/-- A read of a word, with no injection waiting, is checked against the errors that stand stored. -/
theorem checkedRead_uninjected (h0 : 0x60 * 32 ∉ s.inj) (h1 : 0x60 * 32 + 1 ∉ s.inj) : s.checkedRead m a =
    let r := eccRead (mget 0 s.flips a)
    (r.left.map fun l => s.word a ^^^ l, if r.left.isNone || r.corrected then s.noteEcc m a r false else s) := by
  have hi : (if a < 0x3C000000 then s.injectedFlips else (0, s)) = (0, s) := by
    split
    · simp only [State.injectedFlips, takeInj_absent h1, takeInj_absent (p := 0x60) (b := 0) h0]
      rfl
    · rfl
  have hx : mget 0 s.flips a ^^^ 0 = mget 0 s.flips a := BitVec.xor_zero
  simp only [State.checkedRead, hi, hx]
  rfl

theorem OnlyTraces.queueBack (h : OnlyTraces s t) : OnlyTraces (s.queueBack a r) (t.queueBack a r) := by
  obtain ⟨_, _, _, _, rfl⟩ := h
  unfold State.queueBack
  split <;> exact ⟨_, _, _, _, rfl⟩

/-- What such a read finds is counted and captured, a corrected word is queued, and an event is raised. -/
theorem noteEcc_eq (s : State) (m a : Nat) (r : EccRead) : ∃ u, OnlyTraces s u ∧
    s.noteEcc m a r false = (u.queueBack a r).evt 0x60 (if r.corrected then 0 else 1) := by
  unfold State.noteEcc
  extract_lets mbx phys word s1 s2
  have h1 : OnlyTraces s s1 := .ite ((onlyTraces_bump _ _ _).trans (onlyTraces_bump _ _ _))
    ((onlyTraces_bump _ _ _).trans (onlyTraces_bump _ _ _))
  have h2 : OnlyTraces s s2 := h1.trans (.ite (onlyTraces_wr _ _ _) ((onlyTraces_wr _ _ _).trans (onlyTraces_wr _ _ _)))
  exact ⟨s2, h2, rfl⟩

theorem onlyTraces_noteEcc (s : State) (m a : Nat) (r : EccRead) : OnlyTraces (s.queueBack a r) (s.noteEcc m a r false) := by
  obtain ⟨u, hu, he⟩ := noteEcc_eq s m a r
  exact he ▸ hu.queueBack.trans (onlyTraces_evt _ _ (by split <;> decide))

theorem queueBack_corrected (hc : r.corrected = true) (hl : r.left = some l) : s.queueBack a r = { s with bnk := { s.bnk with
    wb := ⟨a, s.word a ^^^ l, mget 0 s.flips a⟩ :: s.bnk.wb.filter fun x => x.addr != a } } := by
  simp only [State.queueBack, hc, hl]

theorem queueBack_uncorrected (hc : r.corrected = false) : s.queueBack a r = s := by
  simp only [State.queueBack, hc]

/-- A word beyond correction raises the event of page 0x060. -/
theorem noteEcc_raises (hc : r.corrected = false) : ((s.noteEcc m a r false).rd 0x60010).getLsbD 1 = true := by
  obtain ⟨u, -, he⟩ := noteEcc_eq s m a r
  rw [he, hc, rd_evt (by decide) (by decide) (by decide)]
  exact getLsbD_or_bit _ (by decide)

/-! ### The scrubber (R421) -/

theorem upset_clean (h : mget 0 s.flips a = 0) (hr : risingFrom none s.flips = true) (x : BitVec 80) :
    mget 0 (s.upset a x).flips a = x := by
  have hx : (mget 0 s.flips a ^^^ x) = x := by rw [h]; exact BitVec.zero_xor
  exact (mget_mset_same hr a _).trans hx

theorem upset_rising (h : risingFrom none s.flips = true) (x : BitVec 80) : risingFrom none (s.upset a x).flips = true := by
  have he : (s.upset a x).flips = mset 0 s.flips a (mget 0 s.flips a ^^^ x) := rfl
  rw [he, mset_eq]
  split
  · exact rising_mdel_none h
  · exact rising_mins_none h

theorem scrubWhere_bank (h : 0x10000000 ≤ a) (h' : a < 0x18000000) (hb : s.bankState (bankOf a) = 2) :
    s.scrubWhere a = some (0, a / 16 % 0x1000000) := by
  unfold State.scrubWhere
  rw [if_neg (by omega), if_neg (by omega), if_pos ⟨h, h'⟩, if_pos hb]

theorem onlyTraces_onTime (s : State) (k : Nat) : OnlyTraces s (s.onTime k) := onlyTraces_wr _ _ _

theorem onlyTraces_scrubRound (s : State) (a : Nat) : OnlyTraces s (s.scrubRound a) := by
  unfold State.scrubRound
  extract_lets ms1 s1 ms2 s2
  have h1 : OnlyTraces s s1 := ⟨_, _, _, _, rfl⟩
  have h2 : OnlyTraces s s2 := ⟨_, _, _, _, rfl⟩
  exact .ite (.ite (h1.trans (onlyTraces_onTime _ _)) h1) (.ite (.ite (h2.trans (onlyTraces_onTime _ _)) h2) (.refl s))

/-- In a bank, a word beyond correction is only told of. -/
theorem scrubUe_bank (s : State) (a w : Nat) : s.scrubUe a 0 w = if s.fld SVC_SCRUB_UE_VALID = 1 then s
    else (s.wrN SVC_SCRUB_UE (2 ^ 31 + 0 * 2 ^ 24 + w % 2 ^ 23)).evt 3 1 := rfl

theorem scrubUe_bank_inv (h : s.Inv) : (s.scrubUe a 0 w).Inv := by
  rw [scrubUe_bank]
  exact (ok_ite (ok_free h) (State.evt_ok (State.wrN_ok (ok_free h)))).inv

theorem onlyTraces_scrubUe_bank (s : State) (a w : Nat) : OnlyTraces s (s.scrubUe a 0 w) := by
  rw [scrubUe_bank]
  exact .ite (.refl s) ((onlyTraces_wr _ _ _).trans (onlyTraces_evt _ _ (by decide)))

/-- It shows in the registers of page 0x003, which the end of a round writes as well. -/
theorem rd_scrubUe_bank (h : s.Inv) (hb : 0x4000 ≤ b) : (s.scrubUe a 0 w).rd b = s.rd b := by
  have hpage : b ≠ 0x1000 * 3 + PG_EVT := by simp only [PG_EVT]; omega
  have hreg : b ≠ SVC_SCRUB_UE := by simp only [SVC_SCRUB_UE]; omega
  rw [scrubUe_bank]
  split
  · rfl
  · rw [rd_evt (by decide) (by omega) (by omega), if_neg hpage]
    exact rd_wr_ne h _ hreg

theorem rd_scrubRound (h : s.Inv) (hb : 0x4000 ≤ b) : (s.scrubRound a).rd b = s.rd b := by
  have hstat : b ≠ SVC_STAT := by simp only [SVC_STAT]; omega
  have htime : b ≠ SVC_SCRUB_TIME := by simp only [SVC_SCRUB_TIME]; omega
  unfold State.scrubRound
  extract_lets ms1 s1 ms2 s2
  have h1 : s1.Inv ∧ s1.rd b = s.rd b := ⟨h.wr _ _, rd_wr_ne h _ htime⟩
  have h2 : s2.Inv ∧ s2.rd b = s.rd b := ⟨h.wr _ _, rd_wr_ne h _ htime⟩
  split
  · split
    · exact (rd_wr_ne h1.1 _ hstat).trans h1.2
    · exact h1.2
  · split
    · split
      · exact (rd_wr_ne h2.1 _ hstat).trans h2.2
      · exact h2.2
    · rfl

/-- The scrubber takes the word at `a`, in a bank and without errors so far, and no injection waits for it. -/
structure Scrubs (s : State) (a : Nat) : Prop where
  up : s.upMode = true
  aligned : a % 16 = 0
  place : s.scrubWhere a = some (0, a / 16 % 0x1000000)
  clean : mget 0 s.flips a = 0
  rising : risingFrom none s.flips = true
  noScrubUe : 0x03 * 32 + 1 ∉ s.inj
  noCe : 0x60 * 32 ∉ s.inj
  noUe : 0x60 * 32 + 1 ∉ s.inj

theorem exec_scrubAccess_eq : exec (.scrubAccess a x) s = execScrubAccess a x s := rfl

theorem exec_scrubAccess_corrected (h : Scrubs s a) (hl : (eccRead x).left = some l) (hc : (eccRead x).corrected = true) :
    exec (.scrubAccess a x) s =
      .next ((((s.upset a x).noteEcc 7 a (eccRead x) false).bump (whole SVC_SCRUB_CE)).scrubRound a) := by
  obtain ⟨hup, h16, hw, hclean, hr, h3, h0, h1⟩ := h
  have hx := upset_clean hclean hr x
  have hinj : (s.upset a x).takeInj 3 1 = (false, s.upset a x) := takeInj_absent h3
  have hread := checkedRead_uninjected (s := s.upset a x) (m := 7) (a := a) h0 h1
  simp only [hx, hl, hc, Option.map_some, Bool.or_true, if_true] at hread
  simp only [exec_scrubAccess_eq, execScrubAccess, hup, h16, hw, hinj, hread, hx, hc, not_true, ne_eq, or_self, if_true, if_false,
    Bool.false_eq_true]

theorem exec_scrubAccess_lost (h : Scrubs s a) (hl : (eccRead x).left = none) : exec (.scrubAccess a x) s =
    .next ((((s.upset a x).noteEcc 7 a (eccRead x) false).scrubUe a 0 (a / 16 % 0x1000000)).scrubRound a) := by
  obtain ⟨hup, h16, hw, hclean, hr, h3, h0, h1⟩ := h
  have hx := upset_clean hclean hr x
  have hinj : (s.upset a x).takeInj 3 1 = (false, s.upset a x) := takeInj_absent h3
  have hread := checkedRead_uninjected (s := s.upset a x) (m := 7) (a := a) h0 h1
  simp only [hx, hl, Option.map_none, Option.isNone_none, Bool.true_or, if_true] at hread
  simp only [exec_scrubAccess_eq, execScrubAccess, hup, h16, hw, hinj, hread, not_true, ne_eq, or_self, if_true, if_false,
    Bool.false_eq_true]

/-- A word with one error that the scrubber corrects is queued for its write-back, which stores the word as it was. -/
theorem scrub_writes_back (hi : s.Inv) (h : Scrubs s a) (i : Fin 80) : ∃ t u,
    exec (.scrubAccess a (bitError i)) s = .next t ∧
    (∃ y ∈ t.bnk.wb, y.addr = a) ∧ t.mem = s.mem ∧ exec (.eccWriteback a) t = .next u ∧ mget 0 u.flips a = 0 ∧
    u.word a = s.word a := by
  have hl : (eccRead (bitError i)).left = some 0 := by rw [eccRead_one]
  have hc : (eccRead (bitError i)).corrected = true := by rw [eccRead_one]
  have hx := upset_clean h.clean h.rising (bitError i)
  have ht : OnlyTraces ((s.upset a (bitError i)).queueBack a (eccRead (bitError i)))
      ((((s.upset a (bitError i)).noteEcc 7 a (eccRead (bitError i)) false).bump (whole SVC_SCRUB_CE)).scrubRound a) :=
    (onlyTraces_noteEcc _ _ _ _).trans ((onlyTraces_bump _ _ _).trans (onlyTraces_scrubRound _ _))
  rw [queueBack_corrected hc hl, hx] at ht
  have he := exec_scrubAccess_corrected h hl hc
  generalize ((((s.upset a (bitError i)).noteEcc 7 a (eccRead (bitError i)) false).bump (whole SVC_SCRUB_CE)).scrubRound a) = t
    at ht he
  have hwb : t.bnk.wb.find? (fun y => y.addr == a) = some ⟨a, (s.upset a (bitError i)).word a ^^^ 0, bitError i⟩ := by
    rw [ht.bnk]
    exact List.find?_cons_of_pos (beq_self_eq_true a)
  have hf : mget 0 t.flips a = bitError i := by
    rw [ht.flips]
    exact hx
  have hrise : risingFrom none (t.unqueued a).flips = true := by
    have hr := upset_rising (a := a) h.rising (bitError i)
    rw [← show t.flips = (s.upset a (bitError i)).flips from ht.flips] at hr
    exact hr
  have hmem : t.mem = s.mem := ht.mem
  refine ⟨t, _, he, ⟨_, List.mem_of_find?_eq_some hwb, rfl⟩, hmem, exec_eccWriteback_stored hwb hf,
    flips_setWord hrise a _, ?_⟩
  have hwf : Memory.wf (t.unqueued a).mem = true := hmem ▸ hi.1
  rw [word_setWord hwf]
  exact BitVec.xor_zero

/-- A word beyond correction keeps its errors, and is told of. -/
theorem scrub_leaves_lost (hi : s.Inv) (h : Scrubs s a) (hl : (eccRead x).left = none) : ∃ t,
    exec (.scrubAccess a x) s = .next t ∧ mget 0 t.flips a = x ∧ t.mem = s.mem ∧ (t.rd 0x60010).getLsbD 1 = true := by
  have hc := corrected_of_left_none hl
  have ht : OnlyTraces ((s.upset a x).queueBack a (eccRead x)) ((((s.upset a x).noteEcc 7 a (eccRead x) false).scrubUe a 0
      (a / 16 % 0x1000000) ).scrubRound a) :=
    (onlyTraces_noteEcc _ _ _ _).trans ((onlyTraces_scrubUe_bank _ _ _).trans (onlyTraces_scrubRound _ _))
  rw [queueBack_uncorrected hc] at ht
  have hnote : ((s.upset a x).noteEcc 7 a (eccRead x) false).Inv :=
    (@State.noteEcc_ok _ _ _ (ok_free (s := s.upset a x) hi) ⟨rfl⟩ _ _ _ _).inv
  refine ⟨_, exec_scrubAccess_lost h hl, ?_, ht.mem, ?_⟩
  · rw [ht.flips]
    exact upset_clean h.clean h.rising x
  · rw [rd_scrubRound (scrubUe_bank_inv hnote) (by decide), rd_scrubUe_bank hnote (by decide)]
    exact noteEcc_raises hc

end

/-- Settles O37: the syndrome of one stored error is the column of its bit, that of two has even weight and so is no column; the
scrubber's read queues what it corrects with the errors that stand stored, which the write-back compares. -/
theorem checkCode : Obligations.CheckCode := by
  refine ⟨⟨eccRead_one, fun i j => eccRead_two, fun s a y hf => ⟨exec_eccWriteback_stored hf, exec_eccWriteback_written hf⟩,
    fun s a => exec_eccWriteback_none⟩, fun s a hi hm h16 hlo hhi hb h0 h1 h3 hf hr => ?_⟩
  have hup : s.upMode = true := by simp [State.upMode, State.cfgMode, hm]
  have h : Scrubs s a := ⟨hup, h16, scrubWhere_bank hlo hhi hb, hf, hr, h3, h0, h1⟩
  exact ⟨scrub_writes_back hi h, fun x => scrub_leaves_lost hi h⟩

end Sys2Proof.Machine

/-! What a write of MEM_BANK_STATE does (10_memory_banks.md R225, 02_register_space.md R478). -/

namespace Sys2Proof.Machine

open Sys2Proof

section
variable {s t : State} {b k m n p r v : Nat} {w : Reg32} {f g : Fld}

/-! ### Fields through the operations of the banks -/

theorem Shows.bump_ne (h : Shows f v s) (hg : f.off ≠ g.off) : Shows f v (s.bump g n) := by
  have h1 : Shows f v (s.setFld g (min (s.fld g + n) g.max)) := h.setFld (.inl hg)
  unfold State.bump
  split
  · exact h1
  · exact h1

theorem Shows.errResp (h : Shows f v s) (hf : 0x2000 ≤ f.off) {addr cause size : Nat} {wr : Bool} :
    Shows f v (s.errResp m addr cause wr size) := by
  have hne {a : Nat} (ha : a < 0x2000) : f.off ≠ a := by omega
  unfold State.errResp State.captureErr
  extract_lets s1 s2
  have h1 : Shows f v s1 := h.bump_ne (hne (by decide))
  have h2 : Shows f v s2 := .ite (.ite h1 (Shows.evt (h1.setFld (.inl (hne (by decide))))))
    (Shows.wr (h1.wr (hne (by decide))) (hne (by decide)))
  exact h2.evt

/-- A field that the progress of the transparent test leaves. -/
abbrev Fld.OffTest (f : Fld) : Prop := f.off ≠ MEM_TEST_SWEEPS ∧ f.off ≠ SVC_STAT

theorem Shows.nextRegion (h : Shows f v s) (hf : f.OffTest) : Shows f v (s.nextRegion p r) := by
  unfold State.nextRegion State.nextBank
  extract_lets s1 q s2
  have h1 : Shows f v s2 := h
  exact .ite h (.ite (Shows.setFld (h1.wr hf.1) (.inl hf.2)) h1)

/-- The progress of the test shows in registers and in its place only. -/
theorem nextRegion_eq (s : State) (p r : Nat) :
    ∃ x q, s.nextRegion p r = { s with regs := x, bnk := { s.bnk with pos := q } } := by
  unfold State.nextRegion State.nextBank
  extract_lets q s1
  split
  · exact ⟨_, _, rfl⟩
  · split <;> exact ⟨_, _, rfl⟩

/-! ### One field of the write -/

/-- Visible bank `b` loses its contents. -/
def State.loseBank (s : State) (b : Nat) : State :=
  { s.clearMem (bankAddr b 0) (bankAddr (b + 1) 0) with
    flips := mkeep (fun a => decide (a < bankAddr b 0) || decide (bankAddr (b + 1) 0 ≤ a)) s.flips }

/-- A test of physical bank `p` ends. -/
def State.leaveTest (s : State) (p : Nat) : State :=
  match s.bnk.test with
  | some (q, r) => if q = p then ({ s with bnk := { s.bnk with test := none } }).nextRegion q r else s
  | none => s

/-- Visible bank `b` begins to change to state `v`. -/
def State.changeBank (s : State) (b v : Nat) : State :=
  let u := (s.setFld (bankField b) v).setFld (bankBusy b) 1
  let u := if v = 0 ∨ s.fld (bankField b) = 0 then u.loseBank b else u
  u.leaveTest (u.physOf b)

theorem requestBank_same (h : v = 3 ∨ v = s.fld (bankField b)) : s.requestBank b v = (false, s) := if_pos h

theorem requestBank_refused (h3 : v ≠ 3) (hv : v ≠ s.fld (bankField b)) (hm : s.cfgMode = false) :
    s.requestBank b v = (true, s) := by
  simp only [State.requestBank, if_neg (not_or.2 ⟨h3, hv⟩), hm]
  rfl

theorem requestBank_taken (h3 : v ≠ 3) (hv : v ≠ s.fld (bankField b)) (hm : s.cfgMode = true) :
    s.requestBank b v = (false, s.changeBank b v) := by
  simp only [State.requestBank, if_neg (not_or.2 ⟨h3, hv⟩), hm, State.changeBank, State.leaveTest, State.loseBank]
  by_cases hc : v = 0 ∨ s.fld (bankField b) = 0
  · simp only [if_pos hc]
    rfl
  · simp only [if_neg hc]
    rfl

theorem leaveTest_mem : (s.leaveTest p).mem = s.mem := by
  unfold State.leaveTest
  split
  next q r _ =>
    split
    · obtain ⟨_, _, e⟩ := nextRegion_eq { s with bnk := { s.bnk with test := none } } q r
      rw [e]
    · rfl
  next => rfl

theorem Shows.leaveTest (h : Shows f v s) (hf : f.OffTest) : Shows f v (s.leaveTest p) := by
  unfold State.leaveTest
  split
  · exact .ite (Shows.nextRegion (show Shows f v _ from h) hf) h
  · exact h

theorem Shows.loseBank (h : Shows f v s) : Shows f v (s.loseBank b) := ⟨h.steady, ⟨clearMem_wf h.inv _ _, h.inv.2⟩, h.fld⟩

/-- The bits of field `f` are none of field `g`. -/
abbrev Fld.Apart (f g : Fld) : Prop := f.off ≠ g.off ∨ f.hi < g.lo ∨ g.hi < f.lo

/-- What a field shows once STATE and BUSY of the bank are set, the rest of the change leaves. -/
theorem changeBank_shows (hf : f.OffTest) (h : Shows f n ((s.setFld (bankField b) v).setFld (bankBusy b) 1)) :
    Shows f n (s.changeBank b v) := by
  unfold State.changeBank
  extract_lets u u'
  exact Shows.leaveTest (.ite (Shows.loseBank h) h) hf

theorem bankField_steady : ∀ k : Fin 128, (bankField k).Steady ∧ (bankField k).OffTest := by decide +kernel

theorem bankBusy_steady : ∀ k : Fin 128, (bankBusy k).Steady ∧ (bankBusy k).OffTest := by decide +kernel

theorem bankField_apart (h : k ≠ b) : (bankField k).Apart (bankField b) := by
  simp only [Fld.Apart, bankField]
  omega

theorem bankBusy_apart (h : k ≠ b) : (bankBusy k).Apart (bankBusy b) := by
  simp only [Fld.Apart, bankBusy]
  omega

theorem bankField_apart_busy (k b : Fin 128) : (bankField k).off ≠ (bankBusy b).off := by
  simp only [bankField, bankBusy, MEM_BANK_STATE, MEM_BANK_BUSY]
  omega

theorem changeBank_field (h : s.Inv) (b : Fin 128) (hv : v < 3) : Shows (bankField b) v (s.changeBank b v) := by
  obtain ⟨hs, ht⟩ := bankField_steady b
  have hfit : v < 2 ^ ((bankField b).hi + 1 - (bankField b).lo) := by
    have hw : (bankField b).hi + 1 - (bankField b).lo = 2 := by simp only [bankField]; omega
    rw [hw]
    omega
  exact changeBank_shows ht ((Shows.set h hs hfit).setFld (.inl (bankField_apart_busy b b)))

theorem changeBank_busy (h : s.Inv) (b : Fin 128) (v : Nat) : Shows (bankBusy b) 1 (s.changeBank b v) := by
  obtain ⟨hs, ht⟩ := bankBusy_steady b
  have hfit : 1 < 2 ^ ((bankBusy b).hi + 1 - (bankBusy b).lo) := by
    have hw : (bankBusy b).hi + 1 - (bankBusy b).lo = 1 := by simp only [bankBusy]; omega
    rw [hw]
    decide
  exact changeBank_shows ht (Shows.set (h.wr _ _) hs hfit)

theorem changeBank_field_ne (h : s.Inv) {k b : Fin 128} (hk : k ≠ b) (v : Nat) :
    (s.changeBank b v).fld (bankField k) = s.fld (bankField k) := by
  obtain ⟨hs, ht⟩ := bankField_steady k
  exact (changeBank_shows ht (((Shows.refl h hs).setFld (bankField_apart (Fin.val_ne_of_ne hk))).setFld
    (.inl (bankField_apart_busy k b)))).fld

theorem changeBank_busy_ne (h : s.Inv) {k b : Fin 128} (hk : k ≠ b) (v : Nat) :
    (s.changeBank b v).fld (bankBusy k) = s.fld (bankBusy k) := by
  obtain ⟨hs, ht⟩ := bankBusy_steady k
  exact (changeBank_shows ht (((Shows.refl h hs).setFld (.inl (Ne.symm (bankField_apart_busy b k)))).setFld
    (bankBusy_apart (Fin.val_ne_of_ne hk)))).fld

/-- The bank is busy, and every other bank is in the state it was in. -/
theorem changeBank_states (h : s.Inv) (b : Fin 128) (v : Nat) : (s.changeBank b v).bankState b = 3 ∧
    ∀ k : Fin 128, k ≠ b → (s.changeBank b v).bankState k = s.bankState k := by
  refine ⟨if_pos (changeBank_busy h b v).fld, fun k hk => ?_⟩
  rw [State.bankState, changeBank_busy_ne h hk, changeBank_field_ne h hk]
  rfl

/-- A bank that goes to or comes from OFF loses its contents; else memory stays. -/
theorem changeBank_mem : (s.changeBank b v).mem = if v = 0 ∨ s.fld (bankField b) = 0 then
    mkeep (fun a => decide (a < bankAddr b 0) || decide (bankAddr (b + 1) 0 ≤ a)) s.mem else s.mem := by
  unfold State.changeBank
  extract_lets u u'
  rw [leaveTest_mem]
  unfold u'
  split <;> rfl

/-! ### The write of the register -/

/-- A fold all of whose steps but one leave what they find. -/
theorem foldl_one_step {α β : Type} {g : β → α → β} {l : List α} {j : α} {x y : β} (hd : l.Nodup) (hj : j ∈ l)
    (hx : ∀ k ∈ l, k ≠ j → g x k = x) (hxy : g x j = y) (hy : ∀ k ∈ l, k ≠ j → g y k = y) : l.foldl g x = y := by
  induction l with
  | nil => exact nomatch hj
  | cons c l ih =>
    obtain ⟨hc, hl⟩ := List.nodup_cons.1 hd
    rw [List.foldl_cons]
    by_cases hcj : c = j
    · subst hcj
      rw [hxy]
      exact List.foldlRecOn (motive := fun z => z = y) l g rfl fun z hz k hk =>
        hz ▸ hy k (List.mem_cons_of_mem _ hk) fun e => hc (e ▸ hk)
    · rw [hx c List.mem_cons_self hcj]
      exact ih hl ((List.mem_cons.1 hj).resolve_left (Ne.symm hcj)) (fun k hk => hx k (List.mem_cons_of_mem _ hk))
        fun k hk => hy k (List.mem_cons_of_mem _ hk)

theorem bankField_at (i : Nat) {j : Nat} (hj : j < 16) :
    bankField (16 * i + j) = ⟨MEM_BANK_STATE + 4 * i, 2 * j + 1, 2 * j⟩ := by
  have hdiv : (16 * i + j) / 16 = i := by omega
  have hmod : (16 * i + j) % 16 = j := by omega
  rw [bankField, hdiv, hmod]

/-- MEM_BANK_STATE of bank `b` with its field changed to `v`. -/
abbrev State.bankRequest (s : State) (b v : Nat) : Reg32 :=
  putBits (s.rd (MEM_BANK_STATE + 4 * (b / 16))) (2 * (b % 16) + 1) (2 * (b % 16)) v

/-- Every field of it is that of the register once the bank's is set. -/
theorem bankRequest_field (h : s.Inv) {j : Nat} (hj : j < 16) : bitsNat (s.bankRequest b v).toNat (2 * j + 1) (2 * j) =
    (s.setFld (bankField b) v).fld (bankField (16 * (b / 16) + j)) := by
  rw [bankField_at _ hj, State.fld]
  exact congrArg (fun x : Reg32 => bitsNat x.toNat _ _) (rd_wr_same h _ _).symm

theorem bankRequest_own (h : s.Inv) (hv : v < 3) :
    bitsNat (s.bankRequest b v).toNat (2 * (b % 16) + 1) (2 * (b % 16)) = v := by
  have hlt : (bankField b).hi < 32 := by simp only [bankField]; omega
  have hw : (bankField b).hi + 1 - (bankField b).lo = 2 := by simp only [bankField]; omega
  rw [bankRequest_field h (Nat.mod_lt _ (by decide)), Nat.div_add_mod, fld_setFld_same h hlt, hw, Nat.mod_eq_of_lt (by omega)]

theorem bankRequest_other (h : s.Inv) {j : Nat} (hj : j < 16) (hne : j ≠ b % 16) :
    bitsNat (s.bankRequest b v).toNat (2 * j + 1) (2 * j) = s.fld (bankField (16 * (b / 16) + j)) := by
  have hb : 16 * (b / 16) + j ≠ b := by omega
  have hlt : (bankField (16 * (b / 16) + j)).hi < 32 := by simp only [bankField]; omega
  rw [bankRequest_field h hj]
  exact fld_setFld_ne h hlt (bankField_apart hb) v

/-- What field `j` of a write of `w` to MEM_BANK_STATE[i] does: whether one was refused so far, and the state. -/
def bankStep (i : Nat) (w : Reg32) (x : Bool × State) (j : Nat) : Bool × State :=
  let y := x.2.requestBank (16 * i + j) (bitsNat w.toNat (2 * j + 1) (2 * j))
  (x.1 || y.1, y.2)

theorem writeBankState_eq (s : State) (m i : Nat) (w : Reg32) : s.writeBankState m i w =
    let x := (List.range 16).foldl (bankStep i w) (false, s)
    if x.1 then x.2.refusedField m (MEM_BANK_STATE + 4 * i) else x.2 := rfl

/-- The other fields of the request leave a state in which their banks are as they were. -/
theorem bankStep_other (h : s.Inv) (b : Fin 128) (x : Bool)
    (ht : ∀ k : Fin 128, k ≠ b → t.fld (bankField k) = s.fld (bankField k)) {j : Nat} (hj : j ∈ List.range 16)
    (hne : j ≠ b.val % 16) : bankStep (b / 16) (s.bankRequest b v) (x, t) j = (x, t) := by
  have hlt := List.mem_range.1 hj
  have hk : 16 * (b.val / 16) + j < 128 := by omega
  have hkb : (⟨16 * (b.val / 16) + j, hk⟩ : Fin 128) ≠ b := Fin.ne_of_val_ne (by simp only; omega)
  have hsame := requestBank_same (.inr ((bankRequest_other (v := v) h hlt hne).trans (ht _ hkb).symm))
  simp only [bankStep, hsame, Bool.or_false]

/-- The write of that value changes the bank's state, or is refused. -/
theorem writeBankState_request (h : s.Inv) (b : Fin 128) (hv : v < 3) (hne : s.fld (bankField b) ≠ v) :
    s.writeBankState m (b / 16) (s.bankRequest b v) =
      if s.cfgMode then s.changeBank b v else s.refusedField m (MEM_BANK_STATE + 4 * (b / 16)) := by
  have hown := bankRequest_own (b := b) h hv
  have hb : 16 * (b.val / 16) + b.val % 16 = b.val := Nat.div_add_mod _ _
  have hmem : b.val % 16 ∈ List.range 16 := List.mem_range.2 (Nat.mod_lt _ (by decide))
  have h3 : v ≠ 3 := by omega
  have hstart {j : Nat} (hj : j ∈ List.range 16) (hjb : j ≠ b.val % 16) :=
    bankStep_other (v := v) h b false (fun _ _ => rfl) hj hjb
  rw [writeBankState_eq]
  cases hm : s.cfgMode with
  | true =>
    have hstep : bankStep (b / 16) (s.bankRequest b v) (false, s) (b.val % 16) = (false, s.changeBank b v) := by
      simp only [bankStep, hown, hb, requestBank_taken h3 (Ne.symm hne) hm, Bool.or_false]
    rw [foldl_one_step List.nodup_range hmem (fun _ => hstart) hstep fun _ =>
      bankStep_other h b false fun k hk => changeBank_field_ne h hk v]
    rfl
  | false =>
    have hstep : bankStep (b / 16) (s.bankRequest b v) (false, s) (b.val % 16) = (true, s) := by
      simp only [bankStep, hown, hb, requestBank_refused h3 (Ne.symm hne) hm, Bool.or_true]
    rw [foldl_one_step List.nodup_range hmem (fun _ => hstart) hstep fun _ => bankStep_other h b true fun _ _ => rfl]
    rfl

/-- The rows of MEM_BANK_STATE: every bit is of a field, and none is staged. -/
theorem findReg_bankState : ∀ i : Fin 8, ∃ r, findReg (MEM_BANK_STATE + 4 * i.val) = some r ∧
    liveMask (MEM_BANK_STATE + 4 * i.val) = 0 ∧ r.rw ||| r.w1c ||| r.act = 0xFFFFFFFF := by
  decide +kernel

theorem putFabric_bankState (s : State) (m : Nat) (i : Fin 8) (w : Reg32) :
    s.putFabric m (MEM_BANK_STATE + 4 * i) w = some (s.writeBankState m i w) := by
  have hi := i.isLt
  have hrow : (MEM_BANK_STATE + 4 * i.val - MEM_BANK_STATE) / 4 = i := by omega
  unfold State.putFabric
  rw [if_neg (by simp only [MEM_BANK_STATE, TRS_CHECK_CTRL]; omega), if_neg (by simp only [MEM_BANK_STATE, CRN_DOORBELL]; omega),
    if_neg (by simp only [MEM_BANK_STATE, CRN_STORE_CTRL]; omega), if_neg (by simp only [MEM_BANK_STATE, CHS_RESET]; omega),
    if_neg (by simp only [MEM_BANK_STATE, CHS_DOORBELL]; omega), if_neg (by simp only [MEM_BANK_STATE, MEM_CTRL]; omega),
    if_pos (by omega), hrow]

theorem exec_memBankState {i : Fin 8} (h : s.takesWrite m (MEM_BANK_STATE + 4 * i) w) :
    exec (.memBankState m i w) s = .next (s.noteWrite (s.writeBankState m i w) m) := by
  have hi := i.isLt
  have ho : (MEM_BANK_STATE + 4 * i.val) % 0x1000 = 0x40 + 4 * i ∧ (MEM_BANK_STATE + 4 * i.val) / 0x1000 = 0x61 := by
    simp only [MEM_BANK_STATE]
    omega
  obtain ⟨r, hr, hk, hm⟩ := findReg_bankState i
  refine exec_fabricWrite rfl h (by omega) hr hk ?_
  have hw : w &&& BitVec.ofNat 32 0xFFFFFFFF = w := BitVec.and_allOnes
  rw [State.putBody, hm, hw]
  simp only [ho.2]
  rw [if_neg (by omega), if_neg (by omega), if_neg (by omega), if_pos (by omega), putFabric_bankState]
  rfl

/-- A request of another state, where it is taken: the bank changes, or in the run modes the field is refused. -/
theorem exec_bankRequest (hi : s.Inv) (b : Fin 128) (hv : v < 3) (hne : s.fld (bankField b) ≠ v)
    (ht : s.takesWrite m (MEM_BANK_STATE + 4 * (b.val / 16)) (s.bankRequest b v)) :
    exec (.memBankState m ⟨b.val / 16, by omega⟩ (s.bankRequest b v)) s = .next (s.noteWrite
      (if s.cfgMode then s.changeBank b v else s.refusedField m (MEM_BANK_STATE + 4 * (b.val / 16))) m) :=
  (exec_memBankState ht).trans (by rw [writeBankState_request hi b hv hne])

/-- What the change of a bank's state does to its field, to the banks and to memory. -/
theorem changeBank_spec (hi : s.Inv) (b : Fin 128) (hv : v < 3) : (s.changeBank b v).fld (bankField b) = v ∧
    (s.changeBank b v).bankState b = 3 ∧ (∀ k : Fin 128, k ≠ b → (s.changeBank b v).bankState k = s.bankState k) ∧
    (v = 0 ∨ s.fld (bankField b) = 0 →
      ∀ a, bankAddr b 0 ≤ a → a < bankAddr (b + 1) 0 → mget 0 (s.changeBank b v).mem a = 0) ∧
    (v ≠ 0 → s.fld (bankField b) ≠ 0 → (s.changeBank b v).mem = s.mem) := by
  obtain ⟨hb, hk⟩ := changeBank_states hi b v
  refine ⟨(changeBank_field hi b hv).fld, hb, hk, fun hc a hlo hhi => ?_, fun hv0 hs0 => ?_⟩
  · rw [changeBank_mem, if_pos hc, mget_mkeep (mwf_iff.1 hi.1).1]
    exact if_neg (by simp only [Bool.or_eq_true, decide_eq_true_eq]; omega)
  · rw [changeBank_mem, if_neg (not_or.2 ⟨hv0, hs0⟩)]

theorem refusedField_bank (hi : s.Inv) (b : Fin 128) (off : Nat) :
    (s.refusedField m off).fld (bankField b) = s.fld (bankField b) ∧ (s.refusedField m off).mem = s.mem := by
  have hoff : 0x2000 ≤ (bankField b).off := by
    simp only [bankField, MEM_BANK_STATE]
    omega
  exact ⟨(Shows.errResp (Shows.refl hi (bankField_steady b).1) hoff).fld, errResp_mem _ _ _ _ _ _⟩

end

end Sys2Proof.Machine

/-! The transparent test and the replacement of a bank (10_memory_banks.md R226 to R228). -/

namespace Sys2Proof.Machine

open Sys2Proof

section
variable {s t : State} {b bit k n p r v : Nat} {f : Fld}

/-! ### The regions in their order (R226) -/

/-- The test may take region `r` of physical bank `p` next. -/
abbrev State.testsNext (s : State) (p r : Nat) : Prop :=
  s.fld MEM_CTRL_TEST_EN = 1 ∧ s.bnk.test = none ∧ s.upMode = true ∧ s.tested p = true ∧ s.bnk.pos = (p, r)

theorem exec_regionTest_eq {phys : Fin 136} {region : Fin 1024} :
    exec (.regionTest phys region) s = execRegionTest phys region s := rfl

theorem exec_regionTestDone_eq {fails : List Nat} : exec (.regionTestDone fails) s = execRegionTestDone fails s := rfl

theorem exec_regionTest_next {phys : Fin 136} {region : Fin 1024} (h : s.testsNext phys region) :
    exec (.regionTest phys region) s = .next (
      if (s.visibleOf phys).any fun b => s.bankState b != 2 then (s.bump (whole MEM_TEST_SKIP)).nextRegion phys region
      else { s.wrN MEM_TEST_POS (phys * 2 ^ 24 + region) with bnk := { s.bnk with test := some (phys.val, region.val) } }) := by
  obtain ⟨hen, hnone, hup, htested, hpos⟩ := h
  simp only [exec_regionTest_eq, execRegionTest, hen, hnone, hup, hpos, htested, Option.isSome_none, not_true, ne_eq, Nat.one_ne_zero,
    Bool.false_eq_true, or_self, if_true, if_false]

theorem exec_regionTest_on {phys : Fin 136} {region : Fin 1024} (h : s.testsNext phys region)
    (hon : ∀ b, s.visibleOf phys = some b → s.bankState b = 2) : exec (.regionTest phys region) s =
      .next { s.wrN MEM_TEST_POS (phys * 2 ^ 24 + region) with bnk := { s.bnk with test := some (phys.val, region.val) } } := by
  have hany : ((s.visibleOf phys).any fun b => s.bankState b != 2) = false := by
    cases hb : s.visibleOf phys with
    | none => rfl
    | some b => simp [hon b hb]
  rw [exec_regionTest_next h, hany]
  rfl

theorem exec_regionTest_skipped {phys : Fin 136} {region : Fin 1024} (h : s.testsNext phys region)
    (hb : s.visibleOf phys = some b) (hoff : s.bankState b ≠ 2) : exec (.regionTest phys region) s =
      .next ((s.bump (whole MEM_TEST_SKIP)).nextRegion phys region) := by
  have hany : ((s.visibleOf phys).any fun b => s.bankState b != 2) = true := by simp [hb, hoff]
  rw [exec_regionTest_next h, hany]
  rfl

/-- The test of region `r` of physical bank `p` is over and the next one waits. -/
abbrev State.testOver (s : State) (p r : Nat) : State := ({ s with bnk := { s.bnk with test := none } }).nextRegion p r

theorem testOver_leaves (s : State) (p r : Nat) : (s.testOver p r).inj = s.inj ∧ (s.testOver p r).bnk.test = none ∧
    (s.testOver p r).mem = s.mem := by
  obtain ⟨_, _, e⟩ := nextRegion_eq { s with bnk := { s.bnk with test := none } } p r
  rw [State.testOver, e]
  exact ⟨rfl, rfl, rfl⟩

theorem testOver_takeInj (h : 0x60 * 32 + 3 ∉ s.inj) (p r : Nat) : (s.testOver p r).takeInj 0x60 3 = (false, s.testOver p r) :=
  takeInj_absent (by rwa [(testOver_leaves s p r).1])

theorem exec_regionTestDone (ht : s.bnk.test = some (p, r)) (h : 0x60 * 32 + 3 ∉ s.inj) (fails : List Nat) :
    exec (.regionTestDone fails) s = .next ((fails.filter fun b => decide (b < 80)).foldl
      (fun s b => s.testFail p r b false) (s.testOver p r)) := by
  simp only [exec_regionTestDone_eq, execRegionTestDone, ht, testOver_takeInj h]
  rw [if_neg Bool.false_ne_true]

theorem exec_regionTestDone_fail (ht : s.bnk.test = some (p, r)) (h : 0x60 * 32 + 3 ∉ s.inj) (hb : bit < 80) :
    exec (.regionTestDone [bit]) s = .next ((s.testOver p r).testFail p r bit false) := by
  have hfails : ([bit].filter fun b => decide (b < 80)) = [bit] := by simp [hb]
  rw [exec_regionTestDone ht h, hfails]
  rfl

/-! ### Columns (R227) -/

theorem Shows.logEvent (h : Shows f v s) {l : List Nat} : Shows f v (s.logEvent p b n l) := ⟨h.steady, h.inv, h.fld⟩

theorem Shows.sprLog (h : Shows f v s) (hf : 0x6000 ≤ f.off) {ns i : Bool} {kind unit repl : Nat} :
    Shows f v (s.sprLog kind ns i unit repl) := by
  unfold State.sprLog
  extract_lets e info s1 c
  have hne {a : Nat} (ha : a < 0x6000) : f.off ≠ a := by omega
  have he : e < 0x400 := by
    simp only [e]
    omega
  have hlog {a : Nat} (ha : a < 0x5C00) : f.off ≠ a + e := by omega
  have h1 : Shows f v s1 := Shows.wr ((h.wr (hlog (by decide))).wrIdx (hlog (by decide)) (hlog (by decide))) (hlog (by decide))
  have h2 : Shows f v (s1.wr SPR_LOG_CNT (s1.rd SPR_LOG_CNT + 1)) := h1.wr (hne (by decide))
  exact h2.logEvent.evt

theorem onlyTraces_sprLog (s : State) (kind : Nat) (ns i : Bool) (unit repl : Nat) :
    OnlyTraces s (s.sprLog kind ns i unit repl) := by
  unfold State.sprLog
  extract_lets e info s1 c
  have hc : c < 32 := by
    unfold c
    split <;> decide
  exact OnlyTraces.trans ⟨_, _, _, _, rfl⟩ (onlyTraces_evt _ _ hc)

theorem onlyTraces_degrade (s : State) (k : Nat) (on : Bool) : OnlyTraces s (s.degrade k on) := by
  unfold State.degrade
  extract_lets old new s1 d
  have h1 : OnlyTraces s s1 := (onlyTraces_wr _ _ _).trans (onlyTraces_evt _ _ (by decide))
  exact .ite (.refl s) (.ite h1 (h1.trans ((onlyTraces_wr _ _ _).trans (onlyTraces_evt _ _ (by decide)))))

theorem onlyTraces_takeColumn (s : State) (p c bit : Nat) (inj : Bool) : OnlyTraces s (s.takeColumn p c bit inj) :=
  (onlyTraces_wr _ _ _).trans ((onlyTraces_bump _ _ _).trans (onlyTraces_sprLog _ _ _ _ _ _))

/-- The first fail is captured, and every one raises an event. -/
def State.noteFail (s : State) (p region bit : Nat) : State :=
  State.evt (if s.fld MEM_TEST_FAIL_VALID = 1 then s else s.wrN MEM_TEST_FAIL (2 ^ 31 + p * 2 ^ 23 + bit * 2 ^ 16 + region)) 0x60 3

theorem onlyTraces_noteFail (s : State) (p r bit : Nat) : OnlyTraces s (s.noteFail p r bit) :=
  OnlyTraces.trans (.ite (.refl s) (onlyTraces_wr _ _ _)) (onlyTraces_evt _ _ (by decide))

/-- No repair is left for physical bank `p` (R227). -/
def State.noteFailing (s : State) (p : Nat) (inj : Bool) : State :=
  let u := { s with bnk := { s.bnk with failing := p :: s.bnk.failing } }
  (((u.setFld MEM_STAT_FAILING u.bnk.failing.length).evt 0x60 5).sprLog 3 true inj p 0).degrade 3 true

/-- Spare `i` begins to copy visible bank `b` (R228). -/
def State.copyTo (s : State) (i b : Nat) (inj : Bool) : State :=
  ((if inj then s.markInj (0x60 * 32 + i) else s).wrN (MEM_SPARE_MAP + 4 * i) (2 ^ 29 + b)).refreshSpares

theorem testFail_first {inj : Bool} (hc : (s.noteFail p r bit).colCovers p bit = false)
    (hfree : ((s.noteFail p r bit).colReg p).testBit 31 = false) :
    s.testFail p r bit inj = (s.noteFail p r bit).takeColumn p 0 bit inj :=
  (if_neg (ne_true_of_eq_false hc)).trans (if_pos (ne_true_of_eq_false hfree))

/-- What a fail does once it is told of: nothing, where it is repaired or its bank is copied already; it takes a column; no repair is
left; or its bank begins to be copied to a spare. -/
theorem testFail_cases (s : State) (p r bit : Nat) (inj : Bool) : s.testFail p r bit inj = s.noteFail p r bit ∨
    (∃ c, s.testFail p r bit inj = (s.noteFail p r bit).takeColumn p c bit inj) ∨
    s.testFail p r bit inj = (s.noteFail p r bit).noteFailing p inj ∨
    ∃ i b, s.testFail p r bit inj = (s.noteFail p r bit).copyTo i b inj := by
  unfold State.testFail
  extract_lets s1 u col u'
  change (_ = u ∨ (∃ c, _ = u.takeColumn p c bit inj) ∨ _ = u.noteFailing p inj ∨ ∃ i b, _ = u.copyTo i b inj)
  split
  · exact .inl rfl
  split
  · exact .inr (.inl ⟨0, rfl⟩)
  split
  · exact .inr (.inl ⟨1, rfl⟩)
  split
  · exact .inl rfl
  split
  · exact .inl rfl
  split
  · split
    · exact .inl rfl
    · exact .inr (.inr (.inl rfl))
  · exact .inr (.inr (.inr ⟨_, _, rfl⟩))

theorem onlyTraces_setFld (s : State) (f : Fld) (v : Nat) : OnlyTraces s (s.setFld f v) := onlyTraces_wr _ _ _

theorem noteFailing_leaves (s : State) (p : Nat) (inj : Bool) : (s.noteFailing p inj).bnk.test = s.bnk.test ∧
    (s.noteFailing p inj).mem = s.mem := by
  unfold State.noteFailing
  extract_lets z u
  have h : OnlyTraces u ((((u.setFld MEM_STAT_FAILING u.bnk.failing.length).evt 0x60 5).sprLog 3 true inj p 0).degrade 3 true) :=
    (onlyTraces_setFld _ _ _).trans ((onlyTraces_evt _ _ (by decide)).trans ((onlyTraces_sprLog _ _ _ _ _ _).trans
      (onlyTraces_degrade _ _ _)))
  rw [h.bnk, h.mem]
  exact ⟨rfl, rfl⟩

theorem copyTo_leaves (s : State) (i b : Nat) (inj : Bool) : (s.copyTo i b inj).bnk.test = s.bnk.test ∧
    (s.copyTo i b inj).mem = s.mem := by
  cases inj <;> exact ⟨rfl, rfl⟩

/-- No failing bit position begins or ends a region test, or changes a word. -/
theorem testFail_leaves (s : State) (p r bit : Nat) (inj : Bool) : (s.testFail p r bit inj).bnk.test = s.bnk.test ∧
    (s.testFail p r bit inj).mem = s.mem := by
  have hnote := onlyTraces_noteFail s p r bit
  rw [← hnote.bnk, ← hnote.mem]
  rcases testFail_cases s p r bit inj with h | ⟨c, h⟩ | h | ⟨i, b, h⟩
  · rw [h]
    exact ⟨rfl, rfl⟩
  · have hcol := onlyTraces_takeColumn (s.noteFail p r bit) p c bit inj
    rw [h, hcol.bnk, hcol.mem]
    exact ⟨rfl, rfl⟩
  · rw [h]
    exact noteFailing_leaves _ p inj
  · rw [h]
    exact copyTo_leaves _ i b inj

theorem noteFail_shows (h : Shows f v s) (hf : f.off ≠ MEM_TEST_FAIL) : Shows f v (s.noteFail p r bit) :=
  Shows.evt (.ite h (h.wr hf))

/-- The register of a physical bank's columns. -/
abbrev colFld (p : Nat) : Fld := whole (MEM_COL + 4 * p)

theorem colFld_steady : ∀ p : Fin 136, (colFld p).Steady := by decide +kernel

theorem colFld_above (p : Nat) : 0x61100 ≤ (colFld p).off := Nat.le_add_right _ _

theorem colReg_eq (s : State) (p : Nat) : s.colReg p = s.fld (colFld p) := (fld_whole s _).symm

theorem colCovers_eq (s : State) (p bit : Nat) : s.colCovers p bit =
    (((s.colReg p).testBit 31 && bitsNat (s.colReg p) 22 16 == bit) ||
      ((s.colReg p).testBit 15 && bitsNat (s.colReg p) 6 0 == bit)) := rfl

/-- MEM_COL with its first column taken for bit `bit`. -/
abbrev firstColumn (x bit : Nat) : Nat := x - bitsNat x 22 16 * 2 ^ 16 + bit * 2 ^ 16 + 2 ^ 31

theorem firstColumn_covers {x : Nat} (hx : x < 2 ^ 32) (hfree : x.testBit 31 = false) (hb : bit < 80) :
    firstColumn x bit < 2 ^ 32 ∧ (firstColumn x bit).testBit 31 = true ∧ bitsNat (firstColumn x bit) 22 16 = bit := by
  have hlow : x / 2147483648 % 2 = 0 := by simpa [Nat.testBit_eq_decide_div_mod_eq] using hfree
  simp only [Nat.testBit_eq_decide_div_mod_eq, decide_eq_true_eq, bitsNat, Nat.shiftRight_eq_div_pow, firstColumn]
  omega

/-- A bit position that fails where no column covers it is covered from then on, if the bank's first column is free. -/
theorem testFail_covers {inj : Bool} (h : s.Inv) (hp : p < 136) (hb : bit < 80) (hc : s.colCovers p bit = false)
    (hfree : (s.colReg p).testBit 31 = false) : (s.testFail p r bit inj).colCovers p bit = true := by
  have hs : (colFld p).Steady := colFld_steady ⟨p, hp⟩
  have hne {a : Nat} (ha : a < 0x61100) : (colFld p).off ≠ a := Nat.ne_of_gt (Nat.lt_of_lt_of_le ha (colFld_above p))
  have hnote : Shows (colFld p) (s.colReg p) (s.noteFail p r bit) :=
    noteFail_shows (colReg_eq s p ▸ Shows.refl h hs) (hne (by decide))
  have hreg : (s.noteFail p r bit).colReg p = s.colReg p := (colReg_eq _ _).trans hnote.fld
  have hx : s.colReg p < 2 ^ 32 := BitVec.isLt _
  obtain ⟨hlt, h31, hbits⟩ := firstColumn_covers hx hfree hb
  have htaken : Shows (colFld p) (firstColumn (s.colReg p) bit) ((s.noteFail p r bit).takeColumn p 0 bit inj) := by
    have hw := Shows.wr_whole (x := BitVec.ofNat 32 (firstColumn (s.colReg p) bit)) hnote.inv hs
    rw [BitVec.toNat_ofNat, Nat.mod_eq_of_lt hlt, ← hreg] at hw
    exact hreg ▸ (hw.bump_ne (hne (by decide))).sprLog (Nat.le_trans (by decide) (colFld_above p))
  rw [testFail_first (by rw [colCovers_eq, hreg]; exact hc) (by rw [hreg]; exact hfree), colCovers_eq, colReg_eq, htaken.fld, h31,
    hbits]
  simp

/-- The same at the end of a region test. -/
theorem testOver_fail_covers (h : s.Inv) (hp : p < 136) (hb : bit < 80) (hc : s.colCovers p bit = false)
    (hfree : (s.colReg p).testBit 31 = false) : ((s.testOver p r).testFail p r bit false).colCovers p bit = true := by
  have hoff : (colFld p).OffTest := ⟨Nat.ne_of_gt (Nat.lt_of_lt_of_le (by decide) (colFld_above p)),
    Nat.ne_of_gt (Nat.lt_of_lt_of_le (by decide) (colFld_above p))⟩
  have hs : Shows (colFld p) (s.fld (colFld p)) { s with bnk := { s.bnk with test := none } } :=
    Shows.refl h (colFld_steady ⟨p, hp⟩)
  have hover : Shows (colFld p) (s.fld (colFld p)) (s.testOver p r) := hs.nextRegion hoff
  have hreg : (s.testOver p r).colReg p = s.colReg p := by rw [colReg_eq, colReg_eq, hover.fld]
  exact testFail_covers hover.inv hp hb (by rw [colCovers_eq, hreg]; exact hc) (by rw [hreg]; exact hfree)

/-! ### Replacement (R228) -/

/-- Spare `i`, the first for its bank, answers for it. -/
def State.handOver (s : State) (i : Nat) : State :=
  let u := (s.wrN (MEM_SPARE_MAP + 4 * i) (2 ^ 31 + s.spareBank i)).refreshSpares
  ((u.takeMark (0x60 * 32 + i)).2.sprLog 3 false (u.takeMark (0x60 * 32 + i)).1 (s.physOf (s.spareBank i)) (128 + i)).evt 0x60 4

theorem exec_replacementDone_eq : exec .replacementDone s = execReplacementDone s := rfl

theorem exec_replacementDone_first {i : Nat}
    (hi : (List.range 8).find? (fun i => s.fld (spareFld MEM_SPARE_MAP_COPYING i) == 1) = some i)
    (h0 : ∀ j : Fin 8, s.fld (spareFld MEM_SPARE_MAP_IN_USE j) = 0) : exec .replacementDone s = .next (s.handOver i) := by
  have hfold : (List.range 8).foldl (fun t j =>
      if t.fld (spareFld MEM_SPARE_MAP_IN_USE j) = 1 ∧ t.spareBank j = s.spareBank i then
        { t.setFld (spareFld MEM_SPARE_MAP_IN_USE j) 0 with bnk := { t.bnk with failed := j :: t.bnk.failed } }
      else t) s = s := by
    refine List.foldlRecOn (motive := fun t => t = s) _ _ rfl fun t ht j hj => ?_
    have hj0 := h0 ⟨j, List.mem_range.1 hj⟩
    rw [ht]
    exact if_neg (fun e => absurd (hj0.symm.trans e.1) (by decide))
  simp only [exec_replacementDone_eq, execReplacementDone, hi, hfold]
  rfl

theorem Shows.takeMark (h : Shows f v s) : Shows f v (s.takeMark k).2 := h

theorem Shows.handOver {i : Nat} (h : Shows f v (s.wrN (MEM_SPARE_MAP + 4 * i) (2 ^ 31 + s.spareBank i)))
    (hf : MEM_SPARE_MAP ≤ f.off) : Shows f v (s.handOver i) := by
  have hstat : f.off ≠ MEM_STAT := Nat.ne_of_gt (Nat.lt_of_lt_of_le (by decide) hf)
  have hspr : 0x6000 ≤ f.off := Nat.le_trans (by decide) hf
  have h1 : Shows f v (s.wrN (MEM_SPARE_MAP + 4 * i) (2 ^ 31 + s.spareBank i)).refreshSpares := h.setFld (.inl hstat)
  exact (h1.takeMark.sprLog hspr).evt

/-- The bank that MEM_SPARE_MAP of spare `i` names. -/
abbrev spareBankFld (i : Nat) : Fld := ⟨MEM_SPARE_MAP + 4 * i, 6, 0⟩

theorem spareFld_steady : ∀ i : Fin 8, (spareFld MEM_SPARE_MAP_IN_USE i).Steady ∧ (spareBankFld i).Steady := by decide

/-- What its write of MEM_SPARE_MAP shows: the spare is in use for the bank it copied. -/
theorem handOver_map (h : s.Inv) (i : Fin 8) : (s.handOver i).fld (spareFld MEM_SPARE_MAP_IN_USE i) = 1 ∧
    (s.handOver i).spareBank i = s.spareBank i := by
  obtain ⟨huse, hbank⟩ := spareFld_steady i
  have hb : s.spareBank i < 128 := Nat.mod_lt _ (by decide)
  have hn : (BitVec.ofNat 32 (2 ^ 31 + s.spareBank i)).toNat = 2 ^ 31 + s.spareBank i := by
    rw [BitVec.toNat_ofNat]
    omega
  have hrd : (s.wrN (MEM_SPARE_MAP + 4 * i) (2 ^ 31 + s.spareBank i)).rd (MEM_SPARE_MAP + 4 * i) =
      BitVec.ofNat 32 (2 ^ 31 + s.spareBank i) := rd_wr_same h _ _
  have h31 : (s.wrN (MEM_SPARE_MAP + 4 * i) (2 ^ 31 + s.spareBank i)).fld (spareFld MEM_SPARE_MAP_IN_USE i) = 1 := by
    simp only [State.fld, spareFld, Fld.sh, MEM_SPARE_MAP_IN_USE]
    change bitsNat (State.rd _ (MEM_SPARE_MAP + 4 * i)).toNat 31 31 = 1
    rw [hrd, hn]
    simp only [bitsNat, Nat.shiftRight_eq_div_pow]
    omega
  have h6 : (s.wrN (MEM_SPARE_MAP + 4 * i) (2 ^ 31 + s.spareBank i)).fld (spareBankFld i) = s.spareBank i := by
    simp only [State.fld]
    rw [hrd, hn]
    simp only [bitsNat, Nat.shiftRight_eq_div_pow]
    omega
  have hi : (s.wrN (MEM_SPARE_MAP + 4 * i) (2 ^ 31 + s.spareBank i)).Inv := h.wr _ _
  exact ⟨(Shows.handOver ⟨huse, hi, h31⟩ (Nat.le_add_right _ _)).fld,
    (Shows.handOver ⟨hbank, hi, h6⟩ (Nat.le_add_right _ _)).fld⟩

theorem handOver_others (h : s.Inv) {i j : Fin 8} (hj : j ≠ i) :
    (s.handOver i).fld (spareFld MEM_SPARE_MAP_IN_USE j) = s.fld (spareFld MEM_SPARE_MAP_IN_USE j) := by
  obtain ⟨huse, _⟩ := spareFld_steady j
  have hoff : (spareFld MEM_SPARE_MAP_IN_USE j).off ≠ MEM_SPARE_MAP + 4 * i := by
    have hne := Fin.val_ne_of_ne hj
    simp only [spareFld, Fld.sh, MEM_SPARE_MAP_IN_USE, MEM_SPARE_MAP]
    omega
  exact (Shows.handOver ((Shows.refl h huse).wr hoff) (Nat.le_add_right _ _)).fld

/-- Spare `j` is in use for visible bank `b`. -/
def State.spareAnswers (s : State) (b j : Nat) : Bool :=
  s.fld (spareFld MEM_SPARE_MAP_IN_USE j) == 1 && s.spareBank j == b

/-- The bank is answered for by the spare. -/
theorem handOver_physOf (h : s.Inv) (i : Fin 8) (h0 : ∀ j : Fin 8, s.fld (spareFld MEM_SPARE_MAP_IN_USE j) = 0) :
    (s.handOver i).physOf (s.spareBank i) = 128 + i := by
  obtain ⟨huse, hbank⟩ := handOver_map h i
  have hfind : (List.range 8).find? ((s.handOver i).spareAnswers (s.spareBank i)) = some i.val := by
    have hown : (s.handOver i).spareAnswers (s.spareBank i) i = true := by
      rw [State.spareAnswers, huse, hbank, beq_self_eq_true, beq_self_eq_true]
      rfl
    obtain ⟨j, hj⟩ := Option.isSome_iff_exists.1 (List.find?_isSome.2 ⟨i.val, List.mem_range.2 i.isLt, hown⟩)
    have hlt := List.mem_range.1 (List.mem_of_find?_eq_some hj)
    have hone := List.find?_some hj
    simp only [State.spareAnswers, Bool.and_eq_true, beq_iff_eq] at hone
    have hji : (⟨j, hlt⟩ : Fin 8) = i := Decidable.byContradiction fun hne =>
      have hz := (handOver_others h hne).trans (h0 ⟨j, hlt⟩)
      absurd (hone.1.symm.trans hz) (by decide)
    rw [hj, ← hji]
  unfold State.spareAnswers at hfind
  rw [State.physOf, hfind]

theorem handOver_raises (s : State) (i : Nat) : ((s.handOver i).rd 0x60010).getLsbD 4 = true := by
  unfold State.handOver
  extract_lets u
  rw [rd_evt (by decide) (by decide) (by decide)]
  exact getLsbD_or_bit _ (by decide)

theorem handOver_mem (s : State) (i : Nat) : (s.handOver i).mem = s.mem := by
  unfold State.handOver
  extract_lets u
  rw [((onlyTraces_sprLog _ _ _ _ _ _).trans (onlyTraces_evt _ _ (by decide))).mem]
  rfl

end

/-- Settles O38: of the fields of the write the requested one alone acts, on its own bank; the operations of the test and of the
repair change registers and the place of the test only, and the spare's write of MEM_SPARE_MAP makes it answer. -/
theorem banksChange : Obligations.BanksChange := by
  refine ⟨?_, fun s hi => ⟨?_, ?_, ?_⟩⟩
  · intro s m b v hi hne w ht
    have he := exec_bankRequest hi b v.isLt hne ht
    refine ⟨fun hm => ?_, fun hm => ?_, fun h => congrArg _ (if_pos h)⟩
    · rw [hm, if_pos rfl] at he
      exact ⟨_, he, changeBank_spec hi b v.isLt⟩
    · rw [hm, if_neg Bool.false_ne_true] at he
      exact ⟨_, he, refusedField_bank hi b _⟩
  · intro p r hen hnone hup htested hpos
    have h : s.testsNext p r := ⟨hen, hnone, hup, htested, hpos⟩
    exact ⟨exec_regionTest_on h, fun b hb => exec_regionTest_skipped h hb⟩
  · intro p r ht u hinj
    obtain ⟨_, htest, hmem⟩ := testOver_leaves s p r
    refine ⟨?_, fun bit hb => ?_⟩
    · rw [exec_regionTestDone ht hinj, testOver_takeInj hinj]
      rfl
    · obtain ⟨hkeep, hwords⟩ := testFail_leaves (s.testOver p r) p r bit false
      exact ⟨_, exec_regionTestDone_fail ht hinj hb, hkeep.trans htest, hwords.trans hmem,
        fun hp => testOver_fail_covers hi hp hb⟩
  · intro i hi' h0
    exact ⟨_, exec_replacementDone_first hi' h0, handOver_physOf hi i h0, handOver_raises s i, handOver_mem s i⟩

end Sys2Proof.Machine

/-! Fields of the port pages through the operations of the ports (11_audio_ports.md R247 to R250; 07_cairn_scenes.md R163). -/

namespace Sys2Proof.Machine

open Sys2Proof

/-- The invariant holds, the field `f` of a port page, or of a page above, reads `v`, and the injections `j` wait. -/
structure PortShows (f : Fld) (v : Nat) (j : List Nat) (s : State) : Prop where
  page : 0x80000 ≤ f.off
  shows : Shows f v s
  inj : s.inj = j

section
variable {s t was : State} {f g : Fld} {a b d e n p u v : Nat} {x : Reg32} {j : List Nat}

/-! ### The base operations -/

theorem OnlyTraces.inj (h : OnlyTraces s t) : t.inj = s.inj := by
  obtain ⟨_, _, _, _, rfl⟩ := h
  rfl

namespace PortShows

theorem refl (h : s.Inv) (hf : f.Steady) (hp : 0x80000 ≤ f.off) : PortShows f (s.fld f) s.inj s := ⟨hp, .refl h hf, rfl⟩

theorem set (h : s.Inv) (hf : f.Steady) (hp : 0x80000 ≤ f.off) (hv : v < 2 ^ (f.hi + 1 - f.lo)) :
    PortShows f v s.inj (s.setFld f v) := ⟨hp, .set h hf hv, rfl⟩

theorem inv (h : PortShows f v j s) : s.Inv := h.shows.inv

theorem fld (h : PortShows f v j s) : s.fld f = v := h.shows.fld

theorem ite {q : Prop} [Decidable q] (hs : PortShows f v j s) (ht : PortShows f v j t) : PortShows f v j (if q then s else t) := by
  split <;> assumption

theorem foldl {α : Type} {k : State → α → State} {l : List α} (h : PortShows f v j s)
    (hk : ∀ s, ∀ i ∈ l, PortShows f v j s → PortShows f v j (k s i)) : PortShows f v j (l.foldl k s) :=
  List.foldlRecOn l k h fun s hs i hi => hk s i hi hs

/-- The registers, the invariant and the injections are all that counts. -/
theorem congr (h : PortShows f v j s) (hi : t.Inv) (hr : t.regs = s.regs) (hj : t.inj = s.inj) : PortShows f v j t :=
  ⟨h.page, ⟨h.shows.steady, hi, (congrArg (fun r => bitsNat (BitVec.toNat (mget (regReset f.off) r f.off)) f.hi f.lo) hr).trans
    h.fld⟩, hj.trans h.inj⟩

theorem wr (h : PortShows f v j s) (ha : f.off ≠ a) : PortShows f v j (s.wr a x) := ⟨h.page, h.shows.wr ha, h.inj⟩

theorem wr_below (h : PortShows f v j s) (ha : a < 0x80000) : PortShows f v j (s.wr a x) :=
  h.wr (Nat.ne_of_gt (Nat.lt_of_lt_of_le ha h.page))

theorem wrIdx_below (h : PortShows f v j s) (ha : a < 0x80000) (hb : b < 0x80000) : PortShows f v j (s.wrIdx a b n) :=
  wr_below (h.wr_below ha) hb

theorem setFld (h : PortShows f v j s) (hd : f.off ≠ g.off ∨ f.hi < g.lo ∨ g.hi < f.lo) : PortShows f v j (s.setFld g n) :=
  ⟨h.page, h.shows.setFld hd, h.inj⟩

theorem setFld_below (h : PortShows f v j s) (hg : g.off < 0x80000) : PortShows f v j (s.setFld g n) := h.wr_below hg

theorem bump (h : PortShows f v j s) (hg : f.off ≠ g.off) : PortShows f v j (s.bump g n) :=
  ⟨h.page, h.shows.bump_ne hg, (onlyTraces_bump _ _ _).inj.trans h.inj⟩

theorem evt (h : PortShows f v j s) (hb : b < 32) : PortShows f v j (s.evt p b) :=
  ⟨h.page, h.shows.evt, (onlyTraces_evt _ _ hb).inj.trans h.inj⟩

theorem onPrt (h : PortShows f v j s) {k : Ports → Ports} : PortShows f v j (s.onPrt k) := ⟨h.page, h.shows, h.inj⟩

theorem onSide (h : PortShows f v j s) {k : PortSide → PortSide} : PortShows f v j (s.onSide d k) := h.onPrt

theorem emit (h : PortShows f v j s) {o : Out} : PortShows f v j (s.emit o) := ⟨h.page, h.shows, h.inj⟩

/-! ### The journal (07 R163) -/

theorem setJState (h : PortShows f v j s) : PortShows f v j (s.setJState e n) := by
  have h1 : PortShows f v j (s.setFld (J_INFO_STATE.sh (jOff e)) n) :=
    h.setFld_below (Nat.lt_trans (jFld_lt (by decide)) (by decide))
  exact h1.congr h1.inv rfl rfl

theorem jDone (h : PortShows f v j s) : PortShows f v j (s.jDone e u) := by
  have hlt {b : Nat} (hb : b < 0x3F000) : b + jOff e < 0x80000 := Nat.lt_trans (jReg_lt hb) (by decide)
  unfold State.jDone
  extract_lets k s1
  have h1 : PortShows f v j s1 := h.wr_below (hlt (by decide))
  have h2 : PortShows f v j (s1.wrIdx (J_END_LO + jOff e) (J_END_HI + jOff e) s1.idx) :=
    h1.wrIdx_below (hlt (by decide)) (hlt (by decide))
  exact .ite (h2.setJState.evt (by decide)) h1

theorem unitDone (h : PortShows f v j s) {q : Nat → Bool} : PortShows f v j (s.unitDone u q) := h.foldl fun _ _ _ h => h.jDone

/-! ### Sides (R247, R250) -/

theorem showPins (h : PortShows f v j s) : PortShows f v j (s.showPins was d) := h.foldl fun _ _ _ h => .ite h h.emit

theorem checkPortsDone (h : PortShows f v j s) : PortShows f v j s.checkPortsDone := .ite h.onPrt.unitDone h.onPrt

/-- Of the registers of the port pages, a side that enters a state changes its own field only. -/
theorem setSide (h : PortShows f v j (s.setFld (sideStat d) n)) : PortShows f v j (s.setSide d n) := by
  unfold State.setSide
  extract_lets was tgt s1 i y s2 s3 s4
  have h1 : PortShows f v j s1 := h.onSide
  have h2 : PortShows f v j s2 := .ite h1.onPrt h1
  have h3 : PortShows f v j s3 := .ite h2.showPins h2
  have h4 : PortShows f v j s4 := .ite h3 h3.emit
  exact h4.checkPortsDone

end PortShows

/-! ### The fields of a side -/

theorem sideStat_steady : ∀ d : Fin 96, (sideStat d).Steady ∧ 0x80000 ≤ (sideStat d).off ∧
    (sideStat d).hi + 1 - (sideStat d).lo = 3 ∧ (sideStat d).off ≠ (sideEnable d).off := by decide +kernel

theorem sideEnable_steady : ∀ d : Fin 96, (sideEnable d).Steady ∧ 0x80000 ≤ (sideEnable d).off ∧
    (sideEnable d).hi = (sideEnable d).lo ∧ (sideEnable d).off % 0x1000 = 0x40 ∧ 30 ≤ (sideEnable d).lo := by decide +kernel

end

end Sys2Proof.Machine
/-! The states of a port side (11_audio_ports.md R247 to R250). -/

namespace Sys2Proof.Machine

open Sys2Proof

section
variable {s : State} {g : Fld} {n v : Nat} {j : List Nat} {d : Fin 96}

/-! ### A side that enters a state -/

theorem setSide_shows (h : s.Inv) (d : Fin 96) (hn : n < 8) : PortShows (sideStat d) n s.inj (s.setSide d n) := by
  obtain ⟨hst, hpage, hw, _⟩ := sideStat_steady d
  exact (PortShows.set h hst hpage (hw ▸ hn)).setSide

theorem setSide_state (h : s.Inv) (d : Fin 96) (hn : n < 8) : (s.setSide d n).sideState d = n := (setSide_shows h d hn).fld

/-- A side that enters a state leaves the fields of the other registers of the port pages. -/
theorem PortShows.setSide_ne (h : PortShows g v j s) (hg : g.off ≠ (sideStat d).off) : PortShows g v j (s.setSide d n) :=
  (h.setFld (.inl hg)).setSide

/-- A side that enters a state leaves memory and the mode. -/
theorem setSide_mem_mode (h : s.Inv) (d n : Nat) : (s.setSide d n).mem = s.mem ∧ (s.setSide d n).mode = s.mode := by
  have hs : Ok s.pending { mode := some s.mode, mem := some s.mem } s :=
    ⟨rfl, h, { (ok_free h).kept with mode := fun _ => Option.some.inj, mem := fun _ => Option.some.inj }⟩
  have hk := (@State.setSide_ok _ _ s hs ⟨rfl⟩ d n).kept
  exact ⟨hk.mem _ rfl, hk.mode _ rfl⟩

/-! ### The end of LEAD and of TRAIL -/

theorem exec_started_lead (hd : hasState d = true) (h : s.sideState d = 2) : exec (.started d) s =
    .next (if d.val < 64 then (s.setSide d 3).evt (sidePage d) 0 else s.setSide d 3) := congrArg _ (if_pos ⟨hd, h⟩)

theorem started_state (h : s.Inv) (d : Fin 96) :
    (if d.val < 64 then (s.setSide d 3).evt (sidePage d) 0 else s.setSide d 3).sideState d = 3 :=
  have h1 := setSide_shows h d (n := 3) (by decide)
  (PortShows.ite (h1.evt (by decide)) h1).fld

/-- Side `d` has stopped: it is OFF, and starts no more for a commit. -/
def State.sideStopped (s : State) (d : Nat) : State :=
  let t := (s.onSide d fun x => { x with restart := false }).setSide d 0
  if d < 64 then t.evt (sidePage d) 1 else t

theorem exec_stopped_due (hd : hasState d = true) (h : s.sideState d = 4 ∨ (s.side d).leaving = true) :
    exec (.stopped d) s = .next (if (s.side d).restart ∧ s.fld (sideEnable d) = 1 then (s.sideStopped d).startSide d
      else s.sideStopped d) := by
  refine congrArg Host.Outcome.next ((if_pos ⟨hd, h⟩).trans ?_)
  simp only [State.sideStopped, Bool.and_eq_true, beq_iff_eq]

theorem sideStopped_spec (h : s.Inv) (d : Fin 96) : (s.sideStopped d).sideState d = 0 ∧ (s.sideStopped d).mem = s.mem ∧
    (s.sideStopped d).mode = s.mode := by
  have h0 : (s.onSide d fun x => { x with restart := false }).Inv := h
  have h1 := setSide_shows h0 d (n := 0) (by decide)
  obtain ⟨hmem, hmode⟩ := setSide_mem_mode h0 d 0
  unfold State.sideStopped
  extract_lets t
  have ht : OnlyTraces t (if d.val < 64 then t.evt (sidePage d) 1 else t) := .ite (onlyTraces_evt t _ (by decide)) (.refl t)
  refine ⟨(PortShows.ite (h1.evt (by decide)) h1).fld, ht.mem.trans hmem, ?_⟩
  obtain ⟨_, _, _, _, e⟩ := ht
  rw [e]
  exact hmode

/-! ### Clocks (R249) -/

theorem prtErr_steady : ∀ d : Fin 64, (prtFld PRT_ERR_CLK_LOSS d).Steady ∧ 0x80000 ≤ (prtFld PRT_ERR_CLK_LOSS d).off ∧
    (prtFld PRT_ERR_CLK_LOSS d).off ≠ (sideStat d).off ∧ totalOf (prtFld PRT_ERR_CLK_LOSS d).off = none := by decide +kernel

/-- A counter field that feeds no total counts up to its greatest value. -/
theorem fld_bump_same (h : s.Inv) (hf : g.hi < 32) (ht : totalOf g.off = none) : (s.bump g).fld g = min (s.fld g + 1) g.max := by
  have hlt : min (s.fld g + 1) g.max < 2 ^ (g.hi + 1 - g.lo) :=
    Nat.lt_of_le_of_lt (Nat.min_le_right _ _) (Nat.sub_lt (Nat.two_pow_pos _) Nat.one_pos)
  rw [State.bump, ht]
  exact (fld_setFld_same h hf _).trans (Nat.mod_eq_of_lt hlt)

/-- The event register of a page shows an event that was raised. -/
theorem evt_raises (s : State) (p : Nat) {b : Nat} (hb : b < 32) : ((s.evt p b).rd (0x1000 * p + PG_EVT)).getLsbD b = true := by
  rw [rd_evt hb (by simp only [PG_EVT]; omega) (by simp only [PG_EVT]; omega), if_pos rfl]
  exact getLsbD_or_bit _ hb

theorem exec_clkLoss_due {d : Fin 64} (hc : s.clockMode d ≠ 0) (h2 : 2 ≤ s.sideState d) (h4 : s.sideState d ≤ 4) :
    exec (.clkLoss d) s = .next (((s.setSide d 5).bump (prtFld PRT_ERR_CLK_LOSS d)).evt (sidePage d) 2) :=
  congrArg _ (if_pos ⟨d.isLt, hc, h2, h4⟩)

/-- A side that loses its clock is in NO_CLOCK, and the loss is counted and raised. -/
theorem clkLoss_spec (h : s.Inv) (d : Fin 64) :
    let t := ((s.setSide d 5).bump (prtFld PRT_ERR_CLK_LOSS d)).evt (sidePage d) 2
    t.sideState d = 5 ∧ t.fld (prtFld PRT_ERR_CLK_LOSS d) = min (s.fld (prtFld PRT_ERR_CLK_LOSS d) + 1) 65535 ∧
      (t.rd (0x1000 * sidePage d + 0x10)).getLsbD 2 = true := by
  obtain ⟨hst, hpage, hne, htot⟩ := prtErr_steady d
  have hd : d.val < 96 := Nat.lt_trans d.isLt (by decide)
  have h1 : PortShows (sideStat d) 5 s.inj (s.setSide d 5) := setSide_shows h ⟨d, hd⟩ (by decide)
  have hcount : (s.setSide d 5).fld (prtFld PRT_ERR_CLK_LOSS d) = s.fld (prtFld PRT_ERR_CLK_LOSS d) :=
    ((PortShows.refl h hst hpage).setSide_ne (d := ⟨d, hd⟩) hne).fld
  have hb : PortShows (sideStat d) 5 s.inj ((s.setSide d 5).bump (prtFld PRT_ERR_CLK_LOSS d)) := h1.bump hne.symm
  have h2 := (PortShows.refl hb.inv hst hpage).evt (p := sidePage d) (b := 2) (by decide)
  refine ⟨(hb.evt (by decide)).fld, ?_, ?_⟩
  · rw [h2.fld, fld_bump_same h1.inv hst.1 htot, hcount]
    rfl
  · exact evt_raises _ _ (by decide)

theorem exec_clockReturn_due {d : Fin 64} (h : s.sideState d = 5) : exec (.clockReturn d) s = .next (s.setSide d 2) :=
  congrArg _ (if_pos h)

/-! ### The enables (R247, R248) -/

/-- The row of the enables of a TDM port: all of its fields are staged. -/
theorem findReg_portCtrl : ∀ d : Fin 64, ∃ r, findReg (sideEnable d).off = some r ∧ liveMask (sideEnable d).off = r.rw ∧
    BitVec.ofNat 32 r.rw ≠ 0 := by decide +kernel

/-- A row that writes the enable of a TDM side waits for the next index (04 R73). -/
theorem exec_enableWrite {c : Instr} {w : Reg32} (hc : s.rowWrite c = some (0, (sideEnable d).off, w)) (hd : d.val < 64)
    (ht : s.takesWrite 0 (sideEnable d).off w) : exec c s = .next (s.onCrn fun c => { c with
      live := mins c.live (sideEnable d).off (w &&& BitVec.ofNat 32 (liveMask (sideEnable d).off)) }) := by
  obtain ⟨r, hr, hk, h0⟩ := findReg_portCtrl ⟨d, hd⟩
  obtain ⟨_, _, _, ho, _⟩ := sideEnable_steady d
  have hput : s.putReg 0 (sideEnable d).off w = s.putBodyLive 0 (sideEnable d).off r w := by
    obtain ⟨_, hid, _, _, _, _, _, hg, hb⟩ := ht
    exact putReg_body hid hg hb (by omega) hr
  rw [exec_rowWrite_taken hc ht, hput, putBodyLive_staged hk h0, ← hk]
  rfl

theorem enable_shows (h : s.Inv) (d : Fin 96) (hv : v < 2) : PortShows (sideEnable d) v s.inj (s.setFld (sideEnable d) v) := by
  obtain ⟨hst, hpage, hw, _⟩ := sideEnable_steady d
  refine .set h hst hpage ?_
  rw [hw, Nat.add_sub_cancel_left]
  exact hv

theorem stat_shows (h : s.Inv) (d : Fin 96) : PortShows (sideStat d) (s.sideState d) s.inj (s.setFld (sideEnable d) n) := by
  obtain ⟨hst, hpage, _, hne⟩ := sideStat_steady d
  exact (PortShows.refl h hst hpage).setFld (.inl hne)

/-- The enables stand in registers of their own among those that the frames of a side follow. -/
theorem sideRegs_setFld_enable (h : s.Inv) (d : Fin 96) : (s.setFld (sideEnable d) n).sideRegs d = s.sideRegs d := by
  obtain ⟨_, _, _, ho, _⟩ := sideEnable_steady d
  have hrd {a : Nat} (ha : a % 0x1000 ≠ 0x40) : (s.setFld (sideEnable d) n).rd a = s.rd a :=
    rd_wr_ne h _ fun e => ha (e ▸ ho)
  have hgrp : (PRT_GRP_CTRL + groupOff (d / 2)) % 0x1000 ≠ 0x40 := by simp only [PRT_GRP_CTRL, groupOff]; omega
  have hclk : ((if sideTx d then PRT_TX_CLK else PRT_RX_CLK) + 0x1000 * (d.val / 2)) % 0x1000 ≠ 0x40 := by
    split
    · simp only [PRT_TX_CLK]; omega
    · simp only [PRT_RX_CLK]; omega
  have hnow : (s.setFld (sideEnable d) n).sideRegsNow d = s.sideRegsNow d := by
    simp only [State.sideRegsNow]
    rw [hrd hgrp, hrd hclk, hrd (by simp only [PRT_FMT]; omega), hrd (by simp only [PRT_SLOT_EN]; omega)]
  rw [State.sideRegs, hnow]
  rfl

theorem isMasterSide_setFld_enable (h : s.Inv) (d : Fin 96) :
    (s.setFld (sideEnable d) n).isMasterSide d = s.isMasterSide d := by
  rw [State.isMasterSide, State.clockMode, sideRegs_setFld_enable h]
  rfl

theorem startUnit_setFld_enable (h : s.Inv) (d : Fin 96) : (s.setFld (sideEnable d) n).startUnit d = s.startUnit d := by
  obtain ⟨_, _, _, _, hlo⟩ := sideEnable_steady d
  have hp : (s.setFld (sideEnable d) n).fld (prtFld PRT_CTRL_START_SRC d) = s.fld (prtFld PRT_CTRL_START_SRC d) :=
    fld_setFld_ne h (by decide : 20 < 32) (.inr (.inl (Nat.lt_of_lt_of_le (by decide : 20 < 30) hlo))) n
  have ha : (s.setFld (sideEnable d) n).fld (aesFld AES_CTRL_START_SRC ((d - 64) / 2)) =
      s.fld (aesFld AES_CTRL_START_SRC ((d - 64) / 2)) :=
    fld_setFld_ne h (by decide : 20 < 32) (.inr (.inl (Nat.lt_of_lt_of_le (by decide : 20 < 30) hlo))) n
  rw [State.startUnit, hp, ha]
  rfl

/-! ### A side that is enabled or disabled (R247, R248) -/

theorem showPins_eq (s was : State) (d : Nat) : ∃ o, s.showPins was d = { s with out := o } :=
  List.foldlRecOn (motive := fun t : State => ∃ o, t = { s with out := o }) _ _ ⟨s.out, rfl⟩ fun t ht q _ => by
    obtain ⟨o, rfl⟩ := ht
    split
    · exact ⟨_, rfl⟩
    · exact ⟨_, rfl⟩

/-- An enable that changes starts or stops its side; beside that, the clock pins may change. -/
theorem writeEnable_changed {on : Bool} (hd : hasState d = true) (h : s.fld (sideEnable d) ≠ if on then 1 else 0) :
    ∃ o, s.writeEnable d on = { (if on then (s.setFld (sideEnable d) 1).startSide d
      else (s.setFld (sideEnable d) 0).stopSide d) with out := o } := by
  have hs (u : State) : u.sideEnabled d on = if on then u.startSide d else u.stopSide d := if_neg (not_not_intro hd)
  have he : (s.setFld (sideEnable d) (if on then 1 else 0)).sideEnabled d on = if on then (s.setFld (sideEnable d) 1).startSide d
      else (s.setFld (sideEnable d) 0).stopSide d := by
    rw [hs]
    cases on <;> rfl
  rw [State.writeEnable, if_neg h, he]
  dsimp only
  split
  · exact showPins_eq _ s d
  · exact ⟨_, rfl⟩

theorem checkPortsDone_side (h : s.Inv) : s.checkPortsDone.prt.side = s.prt.side := by
  unfold State.checkPortsDone
  extract_lets left isOpen s1
  have h1 : Ok s1.pending { prt := some s1.prt } s1 := ⟨rfl, h, { (ok_free h).kept with prt := fun _ => Option.some.inj }⟩
  split
  · exact (congrArg Ports.side ((State.unitDone_ok h1).kept.prt s1.prt rfl)).trans rfl
  · rfl

theorem side_onSide (h : risingFrom none s.prt.side = true) (d : Nat) (k : PortSide → PortSide) :
    (s.onSide d k).side d = k (s.side d) := mget_mset_same h d _

/-! What the start of a side in OFF does. -/

theorem startSide_armed (h : s.sideState d = 0) (hu : (s.startUnit d).isSome = true) : s.startSide d = s.setSide d 1 :=
  (if_pos h).trans (if_pos hu)

theorem startSide_master (h : s.sideState d = 0) (hu : (s.startUnit d).isNone = true) (hm : s.isMasterSide d = true) :
    s.startSide d = (s.onSide d fun x => { x with starting := true }).checkPortsDone :=
  (if_pos h).trans ((if_neg (by simpa using hu)).trans (if_pos hm))

theorem startSide_follower (h : s.sideState d = 0) (hu : (s.startUnit d).isNone = true) (hm : s.isMasterSide d = false) :
    s.startSide d = s.setSide d 2 :=
  (if_pos h).trans ((if_neg (by simpa using hu)).trans (if_neg (ne_true_of_eq_false hm)))

/-! What the stop of a side does. -/

theorem stopSide_armed (h : s.sideState d = 1) : s.stopSide d = s.setSide d 0 := if_pos (.inl h)

theorem stopSide_lead (h : s.sideState d = 2) : s.stopSide d = s.setSide d 4 := by simp [State.stopSide, h]

theorem stopSide_running (h : s.sideState d = 3) : s.stopSide d = s.onSide d fun x => { x with leaving := true } := by
  simp [State.stopSide, h]

/-- A side that starts or stops leaves the fields of the other registers of the port pages. -/
theorem PortShows.startSide_ne (h : PortShows g v j s) (hg : g.off ≠ (sideStat d).off) : PortShows g v j (s.startSide d) :=
  .ite (.ite (h.setSide_ne hg) (.ite h.onSide.checkPortsDone (h.setSide_ne hg)))
    (.ite (h.setSide_ne hg) h.onSide.checkPortsDone)

theorem PortShows.stopSide_ne (h : PortShows g v j s) (hg : g.off ≠ (sideStat d).off) : PortShows g v j (s.stopSide d) :=
  .ite (h.setSide_ne hg) (.ite (h.setSide_ne hg) (.ite h.onSide h.onSide.checkPortsDone))

/-- A side in OFF that is enabled waits for its compare unit, waits for the next tick, or enters LEAD. -/
theorem enabled_spec (h : s.Inv) (d : Fin 96) (hd : hasState d = true) (h0 : s.fld (sideEnable d) = 0)
    (hoff : s.sideState d = 0) (hr : risingFrom none s.prt.side = true) :
    let t := s.writeEnable d true
    t.fld (sideEnable d) = 1 ∧ ((s.startUnit d).isSome = true → t.sideState d = 1) ∧
      ((s.startUnit d).isNone = true → s.isMasterSide d = true → t.sideState d = 0 ∧ (t.side d).starting = true) ∧
      ((s.startUnit d).isNone = true → s.isMasterSide d = false → t.sideState d = 2) := by
  obtain ⟨o, e⟩ := writeEnable_changed (s := s) (on := true) hd (by rw [h0]; decide)
  obtain ⟨_, _, _, hne⟩ := sideStat_steady d
  have hen : PortShows (sideEnable d) 1 s.inj (s.setFld (sideEnable d) 1) := enable_shows h d (by decide)
  have hst := hoff ▸ stat_shows (n := 1) h d
  have hu := startUnit_setFld_enable (n := 1) h d
  have hm := isMasterSide_setFld_enable (n := 1) h d
  rw [e]
  refine ⟨(hen.startSide_ne hne.symm).fld, fun ha => ?_, fun ha hb => ?_, fun ha hb => ?_⟩
  · rw [if_pos rfl, startSide_armed hst.fld (hu ▸ ha)]
    exact setSide_state hen.inv d (by decide)
  · rw [if_pos rfl, startSide_master hst.fld (hu ▸ ha) (hm ▸ hb)]
    have hside := checkPortsDone_side (hst.onSide (d := d) (k := fun x => { x with starting := true })).inv
    refine ⟨hst.onSide.checkPortsDone.fld, ?_⟩
    refine (congrArg (fun m => (mget PortSide.init m d).starting) hside).trans ?_
    exact congrArg PortSide.starting (side_onSide (s := s.setFld (sideEnable d) 1) hr d _)
  · rw [if_pos rfl, startSide_follower hst.fld (hu ▸ ha) (hm ▸ hb)]
    exact setSide_state hen.inv d (by decide)

/-- A side that is disabled leaves LEAD for TRAIL, leaves ARMED for OFF, and in RUNNING waits for its next frame start. -/
theorem disabled_spec (h : s.Inv) (d : Fin 96) (hd : hasState d = true) (h1 : s.fld (sideEnable d) = 1) :
    let t := s.writeEnable d false
    t.fld (sideEnable d) = 0 ∧ (s.sideState d = 2 → t.sideState d = 4) ∧ (s.sideState d = 1 → t.sideState d = 0) ∧
      (s.sideState d = 3 → risingFrom none s.prt.side = true → t.sideState d = 3 ∧ (t.side d).leaving = true) := by
  obtain ⟨o, e⟩ := writeEnable_changed (s := s) (on := false) hd (by rw [h1]; decide)
  obtain ⟨_, _, _, hne⟩ := sideStat_steady d
  have hen : PortShows (sideEnable d) 0 s.inj (s.setFld (sideEnable d) 0) := enable_shows h d (by decide)
  have hst := stat_shows (n := 0) h d
  rw [e]
  refine ⟨(hen.stopSide_ne hne.symm).fld, fun ha => ?_, fun ha => ?_, fun ha hr => ?_⟩
  · rw [if_neg Bool.false_ne_true, stopSide_lead (hst.fld.trans ha)]
    exact setSide_state hen.inv d (by decide)
  · rw [if_neg Bool.false_ne_true, stopSide_armed (hst.fld.trans ha)]
    exact setSide_state hen.inv d (by decide)
  · rw [if_neg Bool.false_ne_true, stopSide_running (hst.fld.trans ha)]
    exact ⟨hst.fld.trans ha, congrArg PortSide.leaving (side_onSide (s := s.setFld (sideEnable d) 0) hr d _)⟩

end

end Sys2Proof.Machine

/-! The slots of a port (11_audio_ports.md R238 to R249). -/

namespace Sys2Proof.Machine

open Sys2Proof

section
variable {s u : State} {p sl c d : Nat} {rise fall : Reg32} {fs : Option (Bool × Nat)} {port : Fin 32} {slot : Fin 16}

/-! ### Receive (R238, R242) -/

theorem exec_slotComplete_eq : exec (.slotComplete port slot rise fall fs) s = execSlotComplete port slot rise fall fs s := rfl

theorem exec_slotComplete_taken (hp : s.sidePowered (2 * port.val) = true) (hf : s.badFs (2 * port.val) fs = false) :
    exec (.slotComplete port slot rise fall fs) s =
      .next (s.slotComplete port slot (s.sampled (2 * port.val) rise fall)) := by
  rw [exec_slotComplete_eq, execSlotComplete, if_neg (not_not_intro hp), if_neg (ne_true_of_eq_false hf)]

theorem exec_slotComplete_broken (hp : s.sidePowered (2 * port.val) = true) (hf : s.badFs (2 * port.val) fs = true) :
    exec (.slotComplete port slot rise fall fs) s = .next (s.frameError (2 * port.val)) := by
  rw [exec_slotComplete_eq, execSlotComplete, if_neg (not_not_intro hp), if_pos hf]

/-- The code is cut to the slot's bits. -/
theorem toNat_sampled (s : State) (d : Nat) (rise fall : Reg32) : (s.sampled d rise fall).toNat =
    (if (s.sideRegs d).rxFalling then fall else rise).toNat % 2 ^ s.slotBits d := by
  have hlt := (if (s.sideRegs d).rxFalling then fall else rise).isLt
  exact Nat.mod_eq_of_lt (Nat.lt_of_le_of_lt (Nat.mod_le _ _) hlt)

/-- A slot of a side in RUNNING, enabled and taken directly at the engine's rate, is its source's sample. -/
theorem slotComplete_direct {code : Reg32} (hu : s.slotComes (2 * p) sl = u) (hr : u.sideState (2 * p) = 3)
    (hs : sl ∈ u.enabledSlots (2 * p)) (he : u.elastic (2 * p) = false) (hd : u.ratio (2 * p) = 1) :
    s.slotComplete p sl code = u.portSample (16 * p + sl) (inCode (u.slotBits (2 * p)) code.toNat) := by
  subst hu
  have hdirect : ¬ (s.slotComes (2 * p) sl).elastic (2 * p) = true ∧ (s.slotComes (2 * p) sl).ratio (2 * p) = 1 :=
    ⟨ne_true_of_eq_false he, hd⟩
  rw [State.slotComplete, if_neg (by simp [hr, hs]), if_pos hdirect]

/-- A receive side that follows a clock loses the frame that an edge breaks off (log entry 61). -/
theorem frameError_receive (hd : sideTx d = false) (hc : s.clockMode d ≠ 0) (h : s.sideState d = 2 ∨ s.sideState d = 3) :
    s.frameError d = ((s.onSide d fun x => { x with part := [], last := none, broken := none }).bump
      (prtFld PRT_ERR_FRAME_ERR d)).evt (sidePage d) 4 := by
  rw [State.frameError, if_pos ⟨hc, h⟩]
  simp only [hd, Bool.false_eq_true, if_false]

/-! ### Transmit (R238, R243) -/

theorem exec_tdmSlotTake_powered (hp : s.sidePowered (2 * port.val + 1) = true) : exec (.tdmSlotTake port slot fs) s =
    .next ((if s.badFs (2 * port.val + 1) fs then s.frameError (2 * port.val + 1) else s).tdmTake port slot) :=
  congrArg Host.Outcome.next (if_neg (not_not_intro hp))

/-- While the side starts or stops, zeros are sent. -/
theorem tdmTake_zero (hsl : sl < s.slots (2 * p + 1)) (he : s.elastic (2 * p + 1) = false) (hu : s.slotComes (2 * p + 1) sl = u)
    (hst : u.sideState (2 * p + 1) = 2 ∨ u.sideState (2 * p + 1) = 4) : s.tdmTake p sl = u.outSlot p sl 0 := by
  subst hu
  rw [State.tdmTake, if_neg (by simp [hsl, he]), if_pos hst]

/-- In RUNNING, at the engine's rate, an enabled slot sends the sink's value, but for the frame that an edge out of place begins. -/
theorem tdmTake_sink (hsl : sl < s.slots (2 * p + 1)) (he : s.elastic (2 * p + 1) = false) (hu : s.slotComes (2 * p + 1) sl = u)
    (hst : u.sideState (2 * p + 1) = 3) (hd : u.ratio (2 * p + 1) = 1) (hon : sl ∈ u.enabledSlots (2 * p + 1))
    (hb : (u.side (2 * p + 1)).broken ≠ some true) : s.tdmTake p sl =
      let w := u.takeSink (16 * p + sl) ((2 ^ 48 + u.idx - (u.sideRegs (2 * p + 1)).lag) % 2 ^ 48)
      let c := w.2.portCode (2 * p + 1) sl w.1
      c.2.outSlot p sl c.1 := by
  subst hu
  rw [State.tdmTake, if_neg (by simp [hsl, he])]
  simp [hst, hd, hon, hb]

/-! What goes out in a slot. -/

theorem sendSlot_live (hr : s.runMode = true) (hh : s.bly.hold = false) : s.sendSlot p sl c =
    (s.onPrt fun q => { q with sent := mset 0 q.sent (16 * p + sl) c }).emitSlot p sl (some c) :=
  (if_neg (not_not_intro hr)).trans (if_neg (ne_true_of_eq_false hh))

theorem sendSlot_held (hr : s.runMode = true) (hh : s.bly.hold = true) : s.sendSlot p sl c =
    s.emitSlot p sl (some (mget 0 s.prt.sent (16 * p + sl))) := (if_neg (not_not_intro hr)).trans (if_pos hh)

theorem outSlot_enabled (h : sl ∈ s.enabledSlots (2 * p + 1)) : s.outSlot p sl c = s.sendSlot p sl c :=
  if_pos (List.contains_iff_mem.2 h)

theorem outSlot_disabled (hr : s.runMode = true) (h : sl ∉ s.enabledSlots (2 * p + 1)) : s.outSlot p sl c =
    s.emitSlot p sl (if (s.sideRegs (2 * p + 1)).hiZ then none else some 0) :=
  (if_neg fun e => h (List.contains_iff_mem.1 e)).trans (if_pos hr)

/-! ### An elastic transmit side (R244) and the trim of a group (R245) -/

theorem exec_externalFrameStart_eq {side : Fin 64} {bits : Nat} :
    exec (.externalFrameStart side bits) s = execExternalFrameStart side bits s := rfl

theorem exec_externalFrameStart_due {side : Fin 64} {bits : Nat} (ht : sideTx side = true) (he : s.elastic side = true)
    (hp : s.sidePowered side = true) (h2 : 2 ≤ s.sideState side) (h4 : s.sideState side ≤ 4) :
    exec (.externalFrameStart side bits) s = .next (
      let v := if s.badFs side (some ((s.sideRegs side).fsHigh, bits)) then s.frameError side else s
      let u := v.frameStart side
      let f := if u.sideState side ≠ 3 ∨ (u.side side).broken = some true then (none, u) else (u.steer side).popFrame side
      (List.range (f.2.slots side)).foldl (fun u i => u.outSlot (side / 2) i (mget 0 (f.1.getD []) i).toNat) f.2) := by
  rw [exec_externalFrameStart_eq, execExternalFrameStart, if_pos ⟨ht, he, hp, h2, h4⟩]
  simp only [beq_iff_eq]

theorem exec_trimLimit_due {g : Fin 8} (he : s.fld (PRT_GRP_CTRL_STEER_EN.sh (groupOff (4 * g))) = 1)
    (ht : s.fld (PRT_GRP_STAT_TRIM.sh (groupOff (4 * g))) = s.trimMax (groupOff (4 * g)) ∨
      s.fld (PRT_GRP_STAT_TRIM.sh (groupOff (4 * g))) = 65536 - s.trimMax (groupOff (4 * g))) : exec (.trimLimit g) s =
    .next ((s.setFld (PRT_GRP_STAT_AT_LIMIT.sh (groupOff (4 * g))) 1).evt (0x80 + 4 * g) 6) :=
  congrArg Host.Outcome.next (if_pos ⟨he, ht⟩)

end

/-- Settles O39: the states of a side are the branches of its operations, shown by the field of its own that each sets; the slots
are the branches of their operations, as they stand. -/
theorem audioPorts : Obligations.AudioPorts := by
  refine ⟨fun s d hi hd => ⟨fun h => ?_, fun h => ?_, fun h hc h2 h4 => ?_, fun h h5 => ?_, ?_⟩, fun s port slot => ?_⟩
  · exact ⟨_, exec_started_lead hd h, started_state hi d, rfl⟩
  · obtain ⟨hst, hmem, hmode⟩ := sideStopped_spec hi d
    exact ⟨s.sideStopped d, hst, hmem, hmode, exec_stopped_due hd h⟩
  · exact ⟨_, exec_clkLoss_due (d := ⟨d, h⟩) hc h2 h4, clkLoss_spec hi ⟨d, h⟩⟩
  · exact ⟨_, exec_clockReturn_due (d := ⟨d, h⟩) h5, setSide_state hi d (by decide)⟩
  · exact ⟨fun h ht => exec_enableWrite rfl h ht, fun h ht => exec_enableWrite rfl h ht,
      fun h0 hoff hr => enabled_spec hi d hd h0 hoff hr, disabled_spec hi d hd⟩
  · intro d e k out
    refine ⟨fun rise fall fs hp hf => ?_, fun rise fall fs hp hf hc hst => ?_, fun fs hp _ => ?_, fun hr c => ?_,
      fun h bits hp he h2 h4 => ?_, fun g => ?_⟩
    · intro u hr hs he hd
      rw [exec_slotComplete_taken hp hf, slotComplete_direct rfl hr hs he hd, toNat_sampled]
    · rw [exec_slotComplete_broken hp hf, frameError_receive _ hc hst]
      simp [sideTx, d]
    · intro v u he hsl
      rw [exec_tdmSlotTake_powered hp]
      exact ⟨fun hst => congrArg _ (tdmTake_zero hsl he rfl hst),
        fun hst hd hon hb => congrArg _ (tdmTake_sink hsl he rfl hst hd hon hb)⟩
    · exact ⟨fun hon hh => (outSlot_enabled hon).trans (sendSlot_live hr hh),
        fun hon hh => (outSlot_enabled hon).trans (sendSlot_held hr hh), fun hon => outSlot_disabled hr hon⟩
    · have ht : sideTx e = true := by simp [sideTx, e, d]
      have hport : e / 2 = port := by omega
      rw [exec_externalFrameStart_due (side := ⟨e, h⟩) ht he hp h2 h4, ← hport]
    · exact exec_trimLimit_due

end Sys2Proof.Machine

/-! Frames of the AES3 receivers (11_audio_ports.md R252 to R254): what they leave of the registers, and lock. -/

namespace Sys2Proof.Machine

open Sys2Proof

section
variable {s t : State} {f : Fld} {k n r v cycles : Nat} {j : List Nat}

/-! ### Station time and its captures (12 R271, R277) -/

/-- The control value of the synthesiser may be drawn anew. -/
theorem control_eq (s : State) : ∃ p c, s.control.2 = { s with plb := p, freeCtr := c } := by
  unfold State.control
  split
  · exact ⟨_, _, rfl⟩
  · split <;> exact ⟨_, _, rfl⟩
  · split <;> exact ⟨_, _, rfl⟩
  · exact ⟨_, _, rfl⟩

/-- Time that passes shows in the PLB pages only, and leaves the injections. -/
theorem advance_shows (h : Shows f v s) (hf : f.off < 0x30000 ∨ 0x40000 ≤ f.off) :
    Shows f v (s.advance cycles) ∧ (s.advance cycles).inj = s.inj := by
  have hne {a : Nat} (h1 : 0x30000 ≤ a) (h2 : a < 0x40000) : f.off ≠ a := by omega
  have hcorr : Shows f v s.rateCorr ∧ s.rateCorr.inj = s.inj := by
    obtain ⟨p, c, e⟩ := control_eq s
    unfold State.rateCorr
    split
    · have h1 : Shows f v s.control.2 := e ▸ h
      have hinj : s.control.2.inj = s.inj := by rw [e]
      exact ⟨h1.setFld (.inl (hne (by decide) (by decide))), hinj⟩
    · exact ⟨h, rfl⟩
  obtain ⟨h1, hinj⟩ := hcorr
  unfold State.advance
  split
  · exact ⟨h, rfl⟩
  · extract_lets s1 x d s2 s3
    have h3 : Shows f v s3 := h1
    have h4 : Shows f v (s3.onPlb fun p => { p with holdCycles := p.holdCycles + cycles }).refreshHold :=
      Shows.wr (Shows.wr h3 (hne (by decide) (by decide))) (hne (by decide) (by decide))
    refine ⟨.ite h4 h3, ?_⟩
    split <;> exact hinj

theorem sidePowered_advance (h : s.Inv) (d : Nat) : (s.advance cycles).sidePowered d = s.sidePowered d := by
  have hisl := (advance_shows (cycles := cycles) (Shows.refl h (f := whole PWR_ISL_STAT) (by decide)) (.inl (by decide))).1.fld
  rw [fld_whole, fld_whole] at hisl
  have hmode := (advance_mode_bly h cycles).1
  simp only [State.sidePowered, State.powered, State.upMode, State.cfgMode, State.runMode, hisl, hmode]

namespace PortShows

theorem advance (h : PortShows f v j s) : PortShows f v j (s.advance cycles) :=
  have ha := advance_shows (cycles := cycles) h.shows (.inr (Nat.le_trans (by decide) h.page))
  ⟨h.page, ha.1, ha.2.trans h.inj⟩

theorem capture (h : PortShows f v j s) (hk : k < 16) : PortShows f v j (s.capture k) := by
  have hlt {b : Nat} (hb : b < 0x40000) : b + 0x10 * k < 0x80000 := by omega
  unfold State.capture
  extract_lets valid o s1 s2
  have h1 : PortShows f v j s1 := wr_below (wr_below (h.wr_below (hlt (by decide))) (hlt (by decide))) (hlt (by decide))
  have h2 : PortShows f v j s2 := .ite ((h1.setFld_below (hlt (by decide))).evt (by decide)) h1
  exact .ite h ((h2.setFld_below (hlt (by decide))).evt (by decide))

theorem captureOn (h : PortShows f v j s) {sel : Option Nat} : PortShows f v j (s.captureOn n sel) :=
  h.foldl fun _ _ hk h => .ite (h.capture (List.mem_range.1 hk)) h

/-! ### References (12 R261, R271) -/

theorem refreshSource (h : PortShows f v j s) : PortShows f v j s.refreshSource :=
  .ite h ((h.setFld_below (by decide)).evt (by decide))

theorem refLoss (h : PortShows f v j s) (hr : r < 16) : PortShows f v j (s.refLoss r) := by
  have hlt {b : Nat} (hb : b < 0x40000) : b + 0x10 * r < 0x80000 := by omega
  unfold State.refLoss State.setRef
  extract_lets good s1 s2
  have h1 : PortShows f v j s1 := h.setFld_below (hlt (by decide))
  have h2 : PortShows f v j s2 :=
    .ite ((h1.bump (Nat.ne_of_gt (Nat.lt_of_lt_of_le (hlt (by decide)) h1.page))).evt (by decide)) h1
  exact .ite h2.refreshSource h

end PortShows

end

/-- The field `f` is one of AES_STAT of receiver `i`, but for CRCC_OK, or of its AES_RX_ERR. -/
abbrev Fld.OfFrames (i : Nat) (f : Fld) : Prop :=
  (f.off = AES_STAT + 0x1000 * i ∧ (f.hi < 29 ∨ 30 < f.lo)) ∨ f.off = AES_RX_ERR + 0x1000 * i

section
variable {s : State} {f : Fld} {i a n v : Nat} {j : List Nat} {x y : BitVec 32} {b : AesBlock} {m : SMap Reg32}

theorem Fld.OfFrames.ne (h : f.OfFrames i) (h1 : a ≠ AES_STAT) (h2 : a ≠ AES_RX_ERR) : f.off ≠ a + 0x1000 * i := by
  rcases h with ⟨h, _⟩ | h <;> omega

/-! ### A frame that is taken (R254) -/

theorem PortShows.onAesRx (h : PortShows f v j s) {k : AesRx → AesRx} : PortShows f v j (s.onAesRx i k) := h.onPrt

theorem PortShows.dropBlock (h : PortShows f v j s) (hf : f.OfFrames i) : PortShows f v j (s.dropBlock i) :=
  .ite ((h.onAesRx.bump (hf.ne (by decide) (by decide))).evt (by decide)) h

theorem PortShows.putBlock (h : PortShows f v j s) (hf : f.OfFrames i) (ha : 0xA0100 ≤ a) :
    PortShows f v j (s.putBlock (a + 0x1000 * i) n) := h.foldl fun _ k _ h => h.wr (by
    have hs : AES_STAT < 0xA0100 ∧ AES_RX_ERR < 0xA0100 := by decide
    rcases hf with ⟨hf, _⟩ | hf <;> omega)

theorem PortShows.captureBlock (h : PortShows f v j s) (hf : f.OfFrames i) : PortShows f v j (s.captureBlock i b) := by
  have hok {g : Fld} (hg : g = AES_STAT_CRCC_OK_A ∨ g = AES_STAT_CRCC_OK_B) :
      f.off ≠ (aesFld g i).off ∨ f.hi < (aesFld g i).lo ∨ (aesFld g i).hi < f.lo := by
    rcases hf with ⟨_, hbits⟩ | hoff
    · rcases hg with rfl | rfl <;> exact .inr (by simp only [aesFld, Fld.sh, AES_STAT_CRCC_OK_A, AES_STAT_CRCC_OK_B]; omega)
    · rcases hg with rfl | rfl <;>
        exact .inl (by simp only [aesFld, Fld.sh, AES_STAT_CRCC_OK_A, AES_STAT_CRCC_OK_B, AES_RX_ERR] at *; omega)
  unfold State.captureBlock
  extract_lets o s1 s2 s3
  have h1 : PortShows f v j s1 := PortShows.putBlock (PortShows.putBlock (PortShows.putBlock (h.putBlock hf (by decide)) hf
    (by decide)) hf (by decide)) hf (by decide)
  have h2 : PortShows f v j s2 := (h1.wr (hf.ne (by decide) (by decide))).evt (by decide)
  have h3 : PortShows f v j s3 := (h2.setFld (hok (.inl rfl))).setFld (hok (.inr rfl))
  exact .ite h3 (h3.evt (by decide))

theorem PortShows.blockFrame (h : PortShows f v j s) (hf : f.OfFrames i) : PortShows f v j (s.blockFrame i x y) := by
  unfold State.blockFrame
  extract_lets z s1 bit
  have h1 : PortShows f v j s1 := by
    refine .ite ?_ h
    split
    · exact .ite (h.captureBlock hf) (h.dropBlock hf)
    · exact h
  exact h1.onAesRx

theorem slipFld_aes (i : Nat) : (slipFld (64 + 2 * i)).off = AES_RX_SLIP + 0x1000 * i := by
  have hi : (64 + 2 * i - 64) / 2 = i := by omega
  rw [slipFld, if_neg (by omega), hi]
  rfl

theorem PortShows.pushFrame (h : PortShows f v j s) (hf : f.OfFrames i) : PortShows f v j (s.pushFrame (64 + 2 * i) m) := by
  have hne : f.off ≠ (slipFld (64 + 2 * i)).off := slipFld_aes i ▸ hf.ne (by decide) (by decide)
  exact .ite h.onSide ((h.onSide.bump hne).evt (by split <;> decide))

/-- The frame goes to its block and, of an enabled receiver, to the buffer, where the receiver is locked (R253, R254). -/
def State.aesTakes (s : State) (i : Nat) (x y : BitVec 32) (badA badB : Bool) : State :=
  if s.fld (aesFld AES_STAT_LOCK i) = 0 then s
  else
    let t := s.blockFrame i x y
    let ctrl := t.aesRxCtrl i
    let t := t.onAesRx i fun r => { r with old := none }
    let fa : SMap Reg32 := if badA ∨ (ctrl.getLsbD 28 ∧ sub x 28 28 = 1) then [] else [(0, aesAudio (ctrl.getLsbD 29) x)]
    let fb := if badB ∨ (ctrl.getLsbD 28 ∧ sub y 28 28 = 1) then fa else mins fa 1 (aesAudio (ctrl.getLsbD 29) y)
    if t.fld (aesFld AES_CTRL_RX_EN i) = 1 then t.pushFrame (64 + 2 * i) fb else t

theorem PortShows.aesTakes (h : PortShows f v j s) (hf : f.OfFrames i) {badA badB : Bool} :
    PortShows f v j (s.aesTakes i x y badA badB) :=
  have h1 : PortShows f v j ((s.blockFrame i x y).onAesRx i fun r => { r with old := none }) := (h.blockFrame hf).onAesRx
  .ite h (.ite (h1.pushFrame hf) h1)

end

end Sys2Proof.Machine

/-! Lock, rate and errors of the AES3 receivers (11_audio_ports.md R252, R253). -/

namespace Sys2Proof.Machine

open Sys2Proof

section
variable {s : State} {f : Fld} {i v cycles : Nat} {j : List Nat} {x y : BitVec 32} {rate : Int}

/-! ### The parts of a frame's reception -/

/-- As a frame begins: time has passed, units that wait for a Z preamble capture, and its rate is shown. -/
def State.aesBegins (s : State) (i : Nat) (x : BitVec 32) (rate : Int) (cycles : Nat) : State :=
  let t := s.advance cycles
  (if preamble x = 2 then t.captureOn 8 (some i) else t).setFld (aesFld AES_STAT_RATE_ERR i)
    (BitVec.ofInt 16 (max (-32768) (min 32767 rate))).toNat

/-- Both subframes have a preamble of their place: the frame is good for the lock. -/
def framed (x y : BitVec 32) : Bool := (preamble x == 0 || preamble x == 2) && preamble y == 1

/-- A good or bad frame is counted. -/
def State.aesCounts (s : State) (i : Nat) (good : Bool) : State :=
  s.onAesRx i fun r => { r with good := if good then min 8 (r.good + 1) else 0, bad := if good then 0 else r.bad + 1 }

/-- What follows the end of lock: the block and the buffer are dropped, and the references taken from the receiver lost. -/
def State.lockLost (s : State) (i : Nat) : State :=
  [4, 5].foldl (fun s r => if s.fld (refFld PLB_REF_CFG_SRC r) = i ∧ s.refState r ≠ 1 then s.refLoss r else s)
    (((s.dropBlock i).onSide (64 + 2 * i) fun z => { z with buf := [], waiting := true }).aesEvt i 0)

/-- What follows the start of lock. -/
def State.lockWon (s : State) (i : Nat) : State :=
  (s.onSide (64 + 2 * i) fun z => { z with buf := [], waiting := true }).aesEvt i 0

/-- The receiver locks or unlocks by the frames it has counted and by the rate. -/
def State.aesJudges (s : State) (i : Nat) (was inRate : Bool) : State :=
  if was ∧ (3 ≤ (s.aesRx i).bad ∨ ¬ inRate) then s.aesUnlock i
  else if ¬ was ∧ 8 ≤ (s.aesRx i).good ∧ inRate then (s.setFld (aesFld AES_STAT_LOCK i) 1).lockWon i
  else s

/-- Coding and parity errors are counted. -/
def State.aesErrors (s : State) (i coding parity : Nat) : State :=
  let s := if 0 < coding then (s.bump (aesFld ⟨AES_RX_ERR, 31, 16⟩ i) coding).aesEvt i 3 else s
  if 0 < parity then (s.bump (aesFld ⟨AES_RX_ERR, 15, 0⟩ i) parity).aesEvt i 3 else s

/-- The validity bits are shown. -/
def State.aesValid (s : State) (i : Nat) (x y : BitVec 32) : State :=
  (s.setFld (aesFld AES_STAT_V_A i) (sub x 28 28)).setFld (aesFld AES_STAT_V_B i) (sub y 28 28)

/-- The frame rate is within 2000 ppm of the engine's. -/
def rateOk (rate : Int) : Bool := decide (-2000 ≤ rate) && decide (rate ≤ 2000)

/-- A frame up to its errors. -/
def State.aesJudged (s : State) (i : Nat) (x y : BitVec 32) (rate : Int) (cycles : Nat) : State :=
  let t := s.aesBegins i x rate cycles
  (t.aesCounts i (framed x y)).aesJudges i (t.fld (aesFld AES_STAT_LOCK i) == 1) (rateOk rate)

/-- The numbers of coding and of parity errors of a frame; an injected parity error is one of subframe A. -/
def codingErrors (x y : BitVec 32) : Nat := (if preamble x == 0 || preamble x == 2 then 0 else 1) + if preamble y == 1 then 0 else 1
def parityErrors (x y : BitVec 32) (inj : Bool) : Nat :=
  let okA := preamble x == 0 || preamble x == 2
  let okB := preamble y == 1
  (if okA ∧ (!okA || !parityOk x || inj) then 1 else 0) + if okB ∧ (!okB || !parityOk y) then 1 else 0

/-- A frame once its errors are counted; `badA` and `badB` say which subframes give no sample. -/
def State.aesEnds (s : State) (i : Nat) (x y : BitVec 32) (badA badB : Bool) : State :=
  let e := s.takeInj (0xA0 + i) 3
  ((e.2.aesErrors i (codingErrors x y) (parityErrors x y e.1)).aesValid i x y).aesTakes i x y badA badB

/-- A frame that a powered receiver takes passes these parts in turn. -/
theorem exec_aesFrameReceive_eq {i : Fin 16} (hp : (s.advance cycles).sidePowered (64 + 2 * i.val) = true) : ∃ badA badB,
    exec (.aesFrameReceive i x y rate cycles) s = .next ((s.aesJudged i x y rate cycles).aesEnds i x y badA badB) :=
  ⟨_, _, (if_neg (not_not_intro hp)).trans (apply_ite Host.Outcome.next _ _ _).symm⟩

/-! ### What the parts leave -/

theorem PortShows.aesBegins (h : PortShows f v j s) (hd : f.Apart (aesFld AES_STAT_RATE_ERR i)) :
    PortShows f v j (s.aesBegins i x rate cycles) := setFld (.ite h.advance.captureOn h.advance) hd

theorem PortShows.aesCounts (h : PortShows f v j s) {good : Bool} : PortShows f v j (s.aesCounts i good) := h.onAesRx

theorem PortShows.lockLost (h : PortShows f v j s) (hf : f.OfFrames i) : PortShows f v j (s.lockLost i) :=
  foldl ((h.dropBlock hf).onSide.evt (by decide)) fun _ r hr h => .ite (h.refLoss (by
    have hlt : ∀ r ∈ [4, 5], r < 16 := by decide
    exact hlt r hr)) h

theorem PortShows.lockWon (h : PortShows f v j s) : PortShows f v j (s.lockWon i) := h.onSide.evt (by decide)

theorem aesUnlock_eq (s : State) (i : Nat) : s.aesUnlock i =
    let t := s.onAesRx i fun r => { r with good := 0, bad := 0 }
    if t.fld (aesFld AES_STAT_LOCK i) = 0 then t else (t.setFld (aesFld AES_STAT_LOCK i) 0).lockLost i := rfl

theorem PortShows.aesJudges (h : PortShows f v j s) (hf : f.OfFrames i) (hd : f.Apart (aesFld AES_STAT_LOCK i))
    {was inRate : Bool} : PortShows f v j (s.aesJudges i was inRate) := by
  have h1 : PortShows f v j (s.aesUnlock i) := by
    rw [aesUnlock_eq]
    exact .ite h.onAesRx ((h.onAesRx.setFld hd).lockLost hf)
  exact .ite h1 (.ite (h.setFld hd).lockWon h)

theorem PortShows.takeInj (h : PortShows f v j s) {p b : Nat} : PortShows f v (s.takeInj p b).2.inj (s.takeInj p b).2 :=
  ⟨h.page, h.shows, rfl⟩

theorem PortShows.aesErrors (h : PortShows f v j s) (hne : f.off ≠ AES_RX_ERR + 0x1000 * i) {c q : Nat} :
    PortShows f v j (s.aesErrors i c q) := by
  unfold State.aesErrors
  extract_lets t
  have ht : PortShows f v j t := .ite ((h.bump hne).evt (by decide)) h
  exact .ite ((ht.bump hne).evt (by decide)) ht

/-! ### Lock (R253) -/

/-- Counters other than those at reset are kept as they are. -/
theorem aesRx_onAesRx {k : AesRx → AesRx} (h : k (s.aesRx i) ≠ .init) : (s.onAesRx i k).aesRx i = k (s.aesRx i) := by
  have e : (s.onAesRx i k).aesRx i = mget .init (mset .init s.prt.rx i (k (s.aesRx i))) i := rfl
  rw [e, mset_eq, if_neg h]
  exact mget_mins_same _ _ _ _

theorem aesRx_aesCounts (s : State) (i : Nat) (good : Bool) : (s.aesCounts i good).aesRx i = { s.aesRx i with
    good := if good then min 8 ((s.aesRx i).good + 1) else 0
    bad := if good then 0 else (s.aesRx i).bad + 1 } := by
  refine aesRx_onAesRx fun e => ?_
  have hg := congrArg AesRx.good e
  have hb := congrArg AesRx.bad e
  cases good
  · exact absurd hb (Nat.succ_ne_zero _)
  · have hpos : 0 < min 8 ((s.aesRx i).good + 1) := Nat.lt_min.2 ⟨by decide, Nat.succ_pos _⟩
    exact absurd hg (Nat.ne_of_gt hpos)

theorem aesRx_aesBegins (h : s.Inv) : (s.aesBegins i x rate cycles).aesRx i = s.aesRx i := by
  have hs : Ok s.pending { prt := some s.prt } s := ⟨rfl, h, { (ok_free h).kept with prt := fun _ => Option.some.inj }⟩
  have ha : Ok s.pending { prt := some s.prt } (s.advance cycles) := @State.advance_ok _ _ s hs ⟨rfl⟩ ⟨rfl⟩ cycles
  have hb : Ok s.pending { prt := some s.prt } (s.aesBegins i x rate cycles) :=
    State.setFld_ok (ok_ite (State.captureOn_ok ha) ha)
  rw [State.aesRx, hb.kept.prt _ rfl]
  rfl

/-- AES_STAT.LOCK of receiver `i`. -/
abbrev lockFld (i : Nat) : Fld := aesFld AES_STAT_LOCK i

theorem aesJudges_waits {inRate : Bool} (h : (s.aesRx i).good < 8 ∨ inRate = false) : s.aesJudges i false inRate = s :=
  (if_neg fun e => Bool.false_ne_true e.1).trans (if_neg fun ⟨_, hg, hr⟩ => h.elim (Nat.not_lt.2 hg) fun e =>
    Bool.false_ne_true (e.symm.trans hr))

theorem aesJudges_stays (h : (s.aesRx i).bad < 3) : s.aesJudges i true true = s :=
  (if_neg fun e => e.2.elim (Nat.not_le.2 h) fun e => e rfl).trans (if_neg fun e => e.1 rfl)

theorem aesJudges_locks (h : s.Inv) (hs : (lockFld i).Steady) (hg : 8 ≤ (s.aesRx i).good) :
    PortShows (lockFld i) 1 s.inj (s.aesJudges i false true) := by
  have e : s.aesJudges i false true = (s.setFld (lockFld i) 1).lockWon i :=
    (if_neg fun e => Bool.false_ne_true e.1).trans (if_pos ⟨Bool.false_ne_true, hg, rfl⟩)
  rw [e]
  exact (PortShows.set h hs (Nat.le_add_right_of_le (by decide)) (by decide : 1 < 2)).lockWon

theorem aesJudges_unlocks {inRate : Bool} (h : PortShows (lockFld i) 1 j s) (hb : 3 ≤ (s.aesRx i).bad ∨ inRate = false) :
    PortShows (lockFld i) 0 s.inj (s.aesJudges i true inRate) := by
  have hq : true = true ∧ (3 ≤ (s.aesRx i).bad ∨ ¬ inRate = true) := ⟨rfl, hb.imp_right ne_true_of_eq_false⟩
  have h1 : PortShows (lockFld i) 1 j (s.onAesRx i fun r => { r with good := 0, bad := 0 }) := h.onAesRx
  have hne : (s.onAesRx i fun r => { r with good := 0, bad := 0 }).fld (lockFld i) ≠ 0 := by
    rw [h1.fld]
    decide
  rw [State.aesJudges, if_pos hq, aesUnlock_eq]
  dsimp only
  rw [if_neg hne]
  have h0 := PortShows.set (v := 0) h1.inv h1.shows.steady h1.page (by decide : 0 < 2)
  exact h0.lockLost (.inl ⟨rfl, .inr (by decide : 30 < 31)⟩)

theorem framed_iff : framed x y = true ↔ (preamble x = 0 ∨ preamble x = 2) ∧ preamble y = 1 := by simp [framed]

theorem rateOk_iff : rateOk rate = true ↔ -2000 ≤ rate ∧ rate ≤ 2000 := by simp [rateOk]

/-! ### The fields of AES_STAT through a frame -/

theorem aesStat_steady : ∀ i : Fin 16, ∀ g ∈ [AES_STAT_LOCK, AES_STAT_V_A, AES_STAT_V_B, AES_STAT_RATE_ERR],
    (aesFld g i).Steady ∧ 0x80000 ≤ (aesFld g i).off ∧ (aesFld g i).OfFrames i ∧
      (aesFld g i).off ≠ AES_RX_ERR + 0x1000 * i := by decide +kernel

theorem aesFld_apart {g g' : Fld} (h : g.hi < g'.lo ∨ g'.hi < g.lo) : (aesFld g i).Apart (aesFld g' i) := .inr h

/-- A field of AES_STAT other than the validity bits stands as the lock left it. -/
theorem PortShows.aesEnds (h : PortShows f v j s) (hf : f.OfFrames i) (hne : f.off ≠ AES_RX_ERR + 0x1000 * i)
    (ha : f.Apart (aesFld AES_STAT_V_A i)) (hb : f.Apart (aesFld AES_STAT_V_B i)) {badA badB : Bool} :
    (s.aesEnds i x y badA badB).fld f = v :=
  ((((h.takeInj.aesErrors hne).setFld ha).setFld hb).aesTakes hf).fld

theorem PortShows.aesJudged (h : PortShows f v j s) (hf : f.OfFrames i) (hl : f.Apart (aesFld AES_STAT_LOCK i))
    (hr : f.Apart (aesFld AES_STAT_RATE_ERR i)) : PortShows f v j (s.aesJudged i x y rate cycles) :=
  ((h.aesBegins hr).aesCounts).aesJudges hf hl

section
variable {i : Fin 16} {badA badB : Bool}

theorem rateErr_shows (h : s.Inv) : ((s.aesJudged i x y rate cycles).aesEnds i x y badA badB).fld (aesFld AES_STAT_RATE_ERR i) =
    (BitVec.ofInt 16 (max (-32768) (min 32767 rate))).toNat := by
  obtain ⟨hst, hpage, hf, hne⟩ := aesStat_steady i AES_STAT_RATE_ERR (by decide)
  have ha : PortShows _ _ _ (s.advance cycles) := (PortShows.refl h hst hpage).advance
  have hc : (if preamble x = 2 then (s.advance cycles).captureOn 8 (some i.val) else s.advance cycles).Inv :=
    (PortShows.ite ha.captureOn ha).inv
  have h1 : PortShows _ _ _ (s.aesBegins i x rate cycles) := PortShows.set hc hst hpage (BitVec.isLt _)
  exact (h1.aesCounts.aesJudges hf (aesFld_apart (by decide))).aesEnds hf hne (aesFld_apart (by decide)) (aesFld_apart (by decide))

theorem sub_bit (x : BitVec 32) (n : Nat) : sub x n n = (x.getLsbD n).toNat := by
  have e : n + 1 - n = 1 := by omega
  simp only [sub, bitsNat, e, BitVec.getLsbD, Nat.toNat_testBit, Nat.shiftRight_eq_div_pow, Nat.pow_one]

/-- The validity bits are those of the frame. -/
theorem valid_shows (h : s.Inv) :
    ((s.aesJudged i x y rate cycles).aesEnds i x y badA badB).fld (aesFld AES_STAT_V_A i) = (x.getLsbD 28).toNat ∧
    ((s.aesJudged i x y rate cycles).aesEnds i x y badA badB).fld (aesFld AES_STAT_V_B i) = (y.getLsbD 28).toNat := by
  obtain ⟨hsa, hpage, hfa, hne⟩ := aesStat_steady i AES_STAT_V_A (by decide)
  obtain ⟨hsb, _, hfb, _⟩ := aesStat_steady i AES_STAT_V_B (by decide)
  have h1 := (((PortShows.refl h hsa hpage).aesJudged (x := x) (y := y) (rate := rate) (cycles := cycles) hfa
    (aesFld_apart (by decide)) (aesFld_apart (by decide))).takeInj (p := 0xA0 + i) (b := 3)).aesErrors hne
    (c := codingErrors x y) (q := parityErrors x y ((s.aesJudged i x y rate cycles).takeInj (0xA0 + i) 3).1)
  have h2 := PortShows.set (v := sub x 28 28) h1.inv hsa hpage (Nat.mod_lt _ (by decide))
  have h3 := PortShows.set (v := sub y 28 28) h2.inv hsb hpage (Nat.mod_lt _ (by decide))
  rw [← sub_bit, ← sub_bit]
  exact ⟨((h2.setFld (aesFld_apart (by decide))).aesTakes hfa).fld, (h3.aesTakes hfb).fld⟩

/-- A good frame counts no error. -/
theorem errors_unchanged (h : s.Inv) (hc : framed x y = true) (hx : parityOk x = true) (hy : parityOk y = true)
    (hinj : (0xA0 + i.val) * 32 + 3 ∉ s.inj) : ((s.aesJudged i x y rate cycles).aesEnds i x y badA badB).rd
      (AES_RX_ERR + 0x1000 * i) = s.rd (AES_RX_ERR + 0x1000 * i) := by
  have hst : ∀ i : Fin 16, (whole (AES_RX_ERR + 0x1000 * i)).Steady ∧ 0x80000 ≤ AES_RX_ERR + 0x1000 * i.val ∧
      AES_RX_ERR + 0x1000 * i.val ≠ AES_STAT + 0x1000 * i := by decide +kernel
  obtain ⟨hsteady, hpage, hne⟩ := hst i
  have hf : (whole (AES_RX_ERR + 0x1000 * i)).OfFrames i := .inr rfl
  have h1 := (PortShows.refl h hsteady hpage).aesJudged (x := x) (y := y) (rate := rate) (cycles := cycles) hf (.inl hne) (.inl hne)
  obtain ⟨hcx, hcy⟩ := Bool.and_eq_true_iff.1 hc
  have hcode : codingErrors x y = 0 := by
    simp only [codingErrors, hcx, hcy, if_true]
  have hpar : parityErrors x y false = 0 := by
    simp only [parityErrors, hcx, hcy, hx, hy, Bool.not_true, Bool.or_false, Bool.false_eq_true, and_false, if_false]
  have hends : (s.aesJudged i x y rate cycles).aesEnds i x y badA badB =
      ((s.aesJudged i x y rate cycles).aesValid i x y).aesTakes i x y badA badB := by
    rw [State.aesEnds, takeInj_absent (h1.inj ▸ hinj)]
    dsimp only
    rw [hcode, hpar]
    rfl
  have h2 : PortShows _ _ _ ((s.aesJudged i x y rate cycles).aesValid i x y) :=
    PortShows.setFld (h1.setFld (.inl hne)) (.inl hne)
  rw [hends]
  refine BitVec.eq_of_toNat_eq ?_
  rw [← fld_whole, ← fld_whole]
  exact (h2.aesTakes hf).fld

/-! ### Lock through a frame (R253) -/

/-- The lock before the frame, and the counts of the frame, decide. -/
theorem aesJudged_eq (h : s.Inv) : s.aesJudged i x y rate cycles = ((s.aesBegins i x rate cycles).aesCounts i
      (framed x y)).aesJudges i (s.fld (lockFld i) == 1) (rateOk rate) ∧
    PortShows (lockFld i) (s.fld (lockFld i)) s.inj ((s.aesBegins i x rate cycles).aesCounts i (framed x y)) := by
  obtain ⟨hst, hpage, _⟩ := aesStat_steady i AES_STAT_LOCK (by decide)
  have h1 := (PortShows.refl h hst hpage).aesBegins (x := x) (rate := rate) (cycles := cycles) (aesFld_apart (by decide))
  exact ⟨congrArg (fun n => State.aesJudges _ i (n == 1) (rateOk rate)) h1.fld, h1.aesCounts⟩

theorem aesRx_judged (h : s.Inv) : ((s.aesBegins i x rate cycles).aesCounts i (framed x y)).aesRx i = { s.aesRx i with
    good := if framed x y then min 8 ((s.aesRx i).good + 1) else 0
    bad := if framed x y then 0 else (s.aesRx i).bad + 1 } := by
  rw [aesRx_aesCounts, aesRx_aesBegins h]

/-- The lock that the judged frame leaves is shown after it. -/
theorem lock_ends (h : PortShows (lockFld i) v j s) : (s.aesEnds i x y badA badB).fld (lockFld i) = v := by
  obtain ⟨_, _, hf, hne⟩ := aesStat_steady i AES_STAT_LOCK (by decide)
  exact h.aesEnds hf hne (aesFld_apart (by decide)) (aesFld_apart (by decide))

theorem lock_won (h : s.Inv) (h0 : s.fld (lockFld i) = 0) (hc : framed x y = true) (hg : 7 ≤ (s.aesRx i).good)
    (hr : rateOk rate = true) : ((s.aesJudged i x y rate cycles).aesEnds i x y badA badB).fld (lockFld i) = 1 := by
  obtain ⟨e, hk⟩ := aesJudged_eq (i := i) (x := x) (y := y) (rate := rate) (cycles := cycles) h
  have hgood : 8 ≤ (((s.aesBegins i x rate cycles).aesCounts i (framed x y)).aesRx i).good := by
    rw [aesRx_judged h, hc]
    exact Nat.le_min.2 ⟨Nat.le_refl 8, Nat.succ_le_succ hg⟩
  rw [e, h0, hr]
  exact lock_ends (aesJudges_locks hk.inv hk.shows.steady hgood)

theorem lock_waits (h : s.Inv) (h0 : s.fld (lockFld i) = 0)
    (hn : framed x y = false ∨ (s.aesRx i).good < 7 ∨ rateOk rate = false) :
    ((s.aesJudged i x y rate cycles).aesEnds i x y badA badB).fld (lockFld i) = 0 := by
  obtain ⟨e, hk⟩ := aesJudged_eq (i := i) (x := x) (y := y) (rate := rate) (cycles := cycles) h
  have hgood : (((s.aesBegins i x rate cycles).aesCounts i (framed x y)).aesRx i).good < 8 ∨ rateOk rate = false := by
    rw [aesRx_judged h]
    dsimp only
    rcases hn with hc | hg | hr
    · rw [hc]
      exact .inl (by decide : 0 < 8)
    · refine .inl ?_
      split <;> omega
    · exact .inr hr
  rw [e, h0, show ((0 : Nat) == 1) = false from rfl, aesJudges_waits hgood]
  exact lock_ends (h0 ▸ hk)

theorem lock_stays (h : s.Inv) (h1 : s.fld (lockFld i) = 1) (hc : framed x y = true) (hr : rateOk rate = true) :
    ((s.aesJudged i x y rate cycles).aesEnds i x y badA badB).fld (lockFld i) = 1 := by
  obtain ⟨e, hk⟩ := aesJudged_eq (i := i) (x := x) (y := y) (rate := rate) (cycles := cycles) h
  have hbad : (((s.aesBegins i x rate cycles).aesCounts i (framed x y)).aesRx i).bad < 3 := by
    rw [aesRx_judged h, hc]
    exact (by decide : 0 < 3)
  rw [e, h1, hr, show ((1 : Nat) == 1) = true from rfl, aesJudges_stays hbad]
  exact lock_ends (h1 ▸ hk)

theorem lock_lost (h : s.Inv) (h1 : s.fld (lockFld i) = 1)
    (hn : (framed x y = false ∧ 2 ≤ (s.aesRx i).bad) ∨ rateOk rate = false) :
    ((s.aesJudged i x y rate cycles).aesEnds i x y badA badB).fld (lockFld i) = 0 := by
  obtain ⟨e, hk⟩ := aesJudged_eq (i := i) (x := x) (y := y) (rate := rate) (cycles := cycles) h
  have hbad : 3 ≤ (((s.aesBegins i x rate cycles).aesCounts i (framed x y)).aesRx i).bad ∨ rateOk rate = false := by
    refine hn.imp_left fun ⟨hc, hb⟩ => ?_
    rw [aesRx_judged h, hc]
    exact Nat.succ_le_succ hb
  rw [e, h1, show ((1 : Nat) == 1) = true from rfl]
  exact lock_ends (aesJudges_unlocks (h1 ▸ hk) hbad)

end

end

end Sys2Proof.Machine

/-! Frames and blocks of the AES3 transmitters (11_audio_ports.md R255, R259). -/

namespace Sys2Proof.Machine

open Sys2Proof

section
variable {s : State} {m : Nat} {v : Reg32} {c : Instr} {i : Fin 16} {w : Word}

/-! ### CS_LOAD and US_LOAD -/

/-- The row of AES_TX_UPD: its two fields act, and neither is staged. -/
theorem findReg_txUpd : ∀ i : Fin 16, ∃ r, findReg (AES_TX_UPD + 0x1000 * i.val) = some r ∧
    liveMask (AES_TX_UPD + 0x1000 * i.val) = 0 ∧ r.rw ||| r.w1c ||| r.act = 3 := by decide +kernel

/-- A row that writes AES_TX_UPD, where it is taken. -/
theorem exec_txUpd (hc : s.rowWrite c = some (m, AES_TX_UPD + 0x1000 * i, v)) (h : s.takesWrite m (AES_TX_UPD + 0x1000 * i) v) :
    exec c s = .next (s.noteWrite (s.writeTxUpd i (v &&& 3)) m) := by
  have hi := i.isLt
  have ho : (AES_TX_UPD + 0x1000 * i.val) % 0x1000 = 0x48 ∧ (AES_TX_UPD + 0x1000 * i.val) / 0x1000 = 0xa0 + i := by
    simp only [AES_TX_UPD]
    omega
  have houter : s.putOuter m (AES_TX_UPD + 0x1000 * i) (v &&& 3) = some (s.writeTxUpd i (v &&& 3)) := by
    simp only [State.putOuter, ho]
    rw [if_neg (by omega), if_neg (by omega), if_neg (by omega), if_pos ⟨by omega, by omega, trivial⟩, Nat.add_sub_cancel_left]
  obtain ⟨r, hr, hk, hm⟩ := findReg_txUpd i
  refine exec_fabricWrite hc h (by omega) hr hk ?_
  rw [State.putBody, hm]
  simp only [ho.2]
  rw [if_neg (by omega), if_neg (by omega), if_neg (by omega), if_neg (by omega), show BitVec.ofNat 32 3 = (3 : Reg32) from rfl,
    houter]
  rfl

/-- A field of one bit of AES_TX_UPD that is set reads 1. -/
theorem txUpd_set (h : s.Inv) {f : Fld} (hf : f.hi = f.lo ∧ f.hi < 32) : (s.setFld (aesFld f i) 1).fld (aesFld f i) = 1 := by
  obtain ⟨he, hlt⟩ := hf
  have hw : (aesFld f i).hi + 1 - (aesFld f i).lo ≠ 0 := Nat.sub_ne_zero_of_lt (Nat.lt_succ_of_le (Nat.le_of_eq he.symm))
  exact (fld_setFld_same (f := aesFld f i) h hlt 1).trans (Nat.mod_eq_of_lt (Nat.one_lt_two_pow hw))

/-! ### A frame -/

/-- Without AUX20 a sample goes out in 24 bits. -/
theorem aesCode_24 {i : Nat} (h : s.fld (aesFld AES_CTRL_AUX20 i) = 0) :
    s.aesCode i w = ((BitVec.ofInt 24 (outCode 24 w).1).toNat, (outCode 24 w).2) :=
  if_neg (by rw [h]; decide)

theorem exec_aesTxFrame_eq : exec (.aesTxFrame i) s = execAesTxFrame i s := rfl

/-- A frame within a block, of a side in RUNNING, with neither sample beyond its code. -/
theorem exec_aesTxFrame_within {u : State} (hp : s.sidePowered (65 + 2 * i.val) = true) (h2 : 2 ≤ s.sideState (65 + 2 * i.val))
    (hu : s.frameStart (65 + 2 * i.val) = u) (hst : u.sideState (65 + 2 * i.val) = 3) (hpos : (u.aesTx i).pos ≠ 0)
    (hrun : u.runMode = true) (hold : u.bly.hold = false) (haux : u.fld (aesFld AES_CTRL_AUX20 i) = 0)
    (hv : u.fld (aesFld AES_CTRL_TX_V_FORCE i) = 0) (hcrc : u.fld (aesFld AES_CTRL_TX_CRCC i) = 0)
    (ha : (outCode 24 (u.aesTx i).a.1).2 = false) (hb : (outCode 24 (u.aesTx i).b.1).2 = false) :
    exec (.aesTxFrame i) s = .next (
      let x := u.aesTx i
      ((u.onAesTx i fun x => { x with pos := (x.pos + 1) % 192 }).emit (.aes i 0 (subframe 0
        (BitVec.ofInt 24 (outCode 24 x.a.1).1).toNat x.a.2.toNat (x.usA.testBit x.pos).toNat (x.csA.testBit x.pos).toNat))).emit
          (.aes i 1 (subframe 1 (BitVec.ofInt 24 (outCode 24 x.b.1).1).toNat x.b.2.toNat (x.usB.testBit x.pos).toNat
            (x.csB.testBit x.pos).toNat))) := by
  have hd : (u.onAesTx i fun x => { x with pos := (x.pos + 1) % 192 }).drives = true := hrun
  rw [exec_aesTxFrame_eq, execAesTxFrame, if_neg (not_or.2 ⟨not_not_intro hp, Nat.not_lt.2 h2⟩)]
  simp [hu, hst, hpos, hold, hv, hcrc, ha, hb, aesCode_24 haux, hd]

end

/-- Settles O40: a frame that is received passes its parts in turn, of which the judgement alone changes the lock; a frame that is
sent, and the writes of AES_TX_UPD, are the branches of their operations. -/
theorem aes3 : Obligations.Aes3 := by
  refine ⟨?_, fun s i => ⟨fun m hi => ⟨fun ht => ?_, fun ht => ?_⟩, ?_⟩⟩
  · intro s i a b rate cycles hi hp lock coded
    obtain ⟨badA, badB, he⟩ := exec_aesFrameReceive_eq (x := a) (y := b) (rate := rate)
      ((sidePowered_advance (cycles := cycles) hi _).trans hp)
    obtain ⟨hva, hvb⟩ := valid_shows (i := i) (x := a) (y := b) (rate := rate) (cycles := cycles) (badA := badA) (badB := badB) hi
    have hbad : ¬ coded → framed a b = false := fun hn => Bool.eq_false_iff.2 fun e => hn (framed_iff.1 e)
    have hout : 2000 < rate ∨ rate < -2000 → rateOk rate = false := fun h => Bool.eq_false_iff.2 fun e => by
      have hr := rateOk_iff.1 e
      omega
    refine ⟨_, he, rateErr_shows hi, hva, hvb, fun h0 hc hg h1 h2 => ?_, fun h0 hn => ?_, fun h1 hc h2 h3 => ?_,
      fun h1 hn hb => ?_, fun h1 hr => ?_, fun hc hx hy hinj => ?_⟩
    · exact lock_won hi h0 (framed_iff.2 hc) hg (rateOk_iff.2 ⟨h1, h2⟩)
    · exact lock_waits hi h0 (hn.imp hbad (Or.imp_right hout))
    · exact lock_stays hi h1 (framed_iff.2 hc) (rateOk_iff.2 ⟨h2, h3⟩)
    · exact lock_lost hi h1 (.inl ⟨hbad hn, hb⟩)
    · exact lock_lost hi h1 (.inr (hout hr))
    · exact errors_unchanged hi (framed_iff.2 hc) hx hy hinj
  · exact ⟨s.setFld (aesFld AES_TX_UPD_CS_LOAD i) 1, exec_txUpd rfl ht, txUpd_set hi (by decide), rfl, rfl⟩
  · exact ⟨s.setFld (aesFld AES_TX_UPD_US_LOAD i) 1, exec_txUpd rfl ht, txUpd_set hi (by decide), rfl, rfl⟩
  · intro hp h2 u hst hpos hrun hold haux hv hcrc x ha hb
    exact exec_aesTxFrame_within hp h2 rfl hst hpos hrun hold haux hv hcrc ha hb

end Sys2Proof.Machine
